-- ==== Sys2Proof/Word.lean ====
section
/-! DEFINITION. The word types of the SG8: bytes, 32-bit registers and objects, 64-bit counts, and the indices of
channels, engines and ports. -/

namespace Sys2Proof

/-- One byte on a wire or in a record (R12). -/
abbrev Byte := BitVec 8
/-- A 16-bit field: an epoch, a session ID, an object index (R88, R181). -/
abbrev W16 := BitVec 16
/-- A register word, an F32 pattern or a Q2.30 value (R16, R92). -/
abbrev Word := BitVec 32
/-- A 64-bit count or message (R65, R581). -/
abbrev W64 := BitVec 64
/-- A channel index, CH0 to CH7 (R11). -/
abbrev Ch := Fin 8
/-- A loop engine index, LE0 to LE3 (R257). -/
abbrev Eng := Fin 4
/-- A Ronko port: 0 = RKU, 1 = RKL, 2 = RKM (R482, R529). -/
abbrev Port := Fin 3

/-- The engine that serves a channel: CH(2e) and CH(2e+1) belong to LEe (R257). -/
def Ch.engine (n : Ch) : Eng := ⟨n.val / 2, by have := n.isLt; omega⟩

/-- The even channel (slot 0) of an engine's pair (R257). -/
def Eng.slot0 (e : Eng) : Ch := ⟨2 * e.val, by have := e.isLt; omega⟩

/-- The odd channel (slot 1) of an engine's pair (R257). -/
def Eng.slot1 (e : Eng) : Ch := ⟨2 * e.val + 1, by have := e.isLt; omega⟩

/-- A 16-bit big-endian field of two bytes (R12). -/
def be16 (a b : Byte) : W16 := a ++ b

/-- A 32-bit big-endian field of four bytes (R12). -/
def be32 (a b c d : Byte) : Word := a ++ b ++ c ++ d

/-- The unsigned number a list of bytes spells, most significant first (R12). -/
def beNat : List Byte → Nat
  | [] => 0
  | b :: bs => b.toNat * 256 ^ bs.length + beNat bs

/-- `k` bytes of a number, most significant first (R12). -/
def natBytes : Nat → Nat → List Byte
  | 0, _ => []
  | k + 1, n => BitVec.ofNat 8 (n / 256 ^ k) :: natBytes k n

end Sys2Proof
end

