-- ==== Sys2Proof/Syntax.lean ====
section
/-! DEFINITION. The commands of the SG8: one constructor of `Instr` per row of spec/opcode_table.json, in the
table's order, and the plain data their operands are made of. The table gives a row no operand fields; the operands
here are what the rules of spec/ make each step depend on and the block itself does not hold: the requester and the
value of a request, a measured value, the bytes of a frame. -/

namespace Sys2Proof

/-- Who makes a request (R117, R142, R154, R569). A host request carries the ID of an open session; a sessionless one
says whether it named a session ID at all (R117). -/
inductive Requester where
  | host (sid : W16)
  | sessionless (named : Bool)
  | loc
  | mgmt
  deriving DecidableEq, Repr

/-- The path that carries a request: ROP over UDP, the TSF mailbox, or the MGP (R87, R150, R569). -/
inductive Path where
  | rop | mbx | mgp
  deriving DecidableEq, Repr

/-- One request: its requester, the path it came by, and the epoch it carries, if any (R97, R98, R154). -/
structure Req where
  who : Requester
  path : Path
  epoch : Option W16
  deriving DecidableEq, Repr

/-- A bus master of the register space (R69). -/
inductive Master where
  | app | sup
  deriving DecidableEq, Repr

/-- The main supplies of Table 5.1, in RESET_CAUSE order, and VDD_AON (R197, R201). -/
inductive Supply where
  | aon | core | link | io | ioB | avdd
  deriving DecidableEq, Repr

/-- The clock monitors of Table 2.2. -/
inductive Monitor where
  | refclk | pll | rootFreq
  deriving DecidableEq, Repr

/-- The IPv4 address and UDP port of a host, and whether the datagram came to a broadcast address (R115, R138). -/
structure Peer where
  ip : Word
  port : W16
  deriving DecidableEq, Repr

/-- One converter's decimation window: its codes, one to each conversion, oldest first (R342, R343). -/
structure AdcWin where
  codes : List W16
  deriving DecidableEq, Repr

/-- What the two main converters of a channel measured in a window. `refNr` says whether REF_READY was clear at a
conversion edge of it, for a window in which REF_READY changed; for any other the block knows (R345). -/
structure ChanWin where
  a : AdcWin
  b : AdcWin
  refNr : Bool
  deriving DecidableEq, Repr

/-- One code of a burst capture as the converters deliver it: its value, the ADC it came from, whether the channel was in
the arrangement of METER, and whether REF_READY was clear at its sample (R348, Table 9.6). -/
structure CapCode where
  code : W16
  adcB : Bool
  meter : Bool
  refNr : Bool
  deriving DecidableEq, Repr

/-- The content of one image location in flash as the TSF reads it (R159 to R162). -/
structure FlashImage where
  readError : Bool
  header : List Byte
  body : List Byte
  deriving DecidableEq, Repr

/-- The limits of one channel as the instructor record carries them (Table 4.8). -/
structure Limits where
  vMax : Word
  iMax : Word
  pMax : Word
  modeMask : W16
  minPeriod : Word
  progClasses : Byte
  lacSpan : Word
  deriving DecidableEq, Repr

/-- The instructor record as the TSF finds it in flash: as the TSF last wrote it, erased, or another one with its signature
(R176). -/
inductive RecordObs where
  | kept
  | erased
  | other (limits : Vector Limits 8) (verifier : List Byte) (sig : List Byte)
  deriving DecidableEq, Repr

/-- The lockout record as the TSF finds it in flash: as the TSF last wrote it, erased, or another one with its signature
(R177). -/
inductive LockoutObs where
  | kept
  | erased
  | other (streak : Nat) (lastLen : Nat) (running : Bool) (sig : List Byte)
  deriving DecidableEq, Repr

/-- The three resources of the credit arbiter (R461). -/
inductive Resource where
  | pool | ronko | fsp
  deriving DecidableEq, Repr

/-- The real-time producers that pass through a staging buffer (R430, Table 12.1). -/
inductive HwSource where
  | stream (n : Ch)
  | result (n : Ch)
  | aux
  | macRx
  | capture (n : Ch)
  | tune (n : Ch)
  deriving DecidableEq, Repr

/-- The period registers of R76 that a write reaches directly: the aux scan timer, and the period and width of a
pulse-width generator. -/
inductive PeriodReg where
  | scan
  | pwgPeriod (p : Fin 4)
  | pwgWidth (p : Fin 4)
  deriving DecidableEq, Repr

/-- The two clamp paths of a channel (R393). -/
inductive ClampPath where
  | v | i
  deriving DecidableEq, Repr

/-- One tunnel segment: the 16-byte tunnel header and its data (R522). -/
structure Segment where
  src : W16
  tag : W16
  entry : W16
  hostIp : Word
  hostPort : W16
  seg : Byte
  segCount : Byte
  totalLen : W16
  data : List Byte
  deriving DecidableEq, Repr

/-- How a frame ended, and the code errors that its receiver counted within it and, outside any frame, since the frame before it
(R485, R497). -/
structure FrameEnd where
  eoa : Bool
  codeErrors : Nat
  outside : Nat
  deriving DecidableEq, Repr

/-- Why an ACTIVE port goes to DOWN (R488, KIND 0xD2 of Table 15.3), with the code errors of the 10 µs. -/
inductive LossCause where
  | noSignal
  | codeErrors (count : Nat)
  deriving DecidableEq, Repr

/-- What made a frame attempt of the FSP fail (R542, R543). -/
inductive AttemptFail where
  | frdy | crc
  deriving DecidableEq, Repr

/-- The six coded operand fields of a control-law instruction (R266). -/
abbrev Opnd := BitVec 6

/-- The commands: one constructor per row of spec/opcode_table.json, in its order. -/
inductive Instr where
  -- supplies, reset, boot (chapters 2, 4, 5)
  | supplyFail (sup : Supply)
  | aonPor
  | rstNRecognised
  | aonResetRelease (straps : BitVec 4) (lockout : LockoutObs)
  | supWatchdogExpire
  | deviceReset (r : Req) (v : Byte)
  | deviceResetTimeout
  | bootEntry (reads : List Byte × List Byte)
  | refPresentSet
  | pllLock (patchArea : FlashImage)
  | pllLockTimeout
  | refPresentTimeout
  | verifyComplete (img0 img1 : FlashImage) (record : RecordObs)
  | clockMonitorFail (m : Monitor) (count : Byte)
  | refReadySet
  | refReadyTimeout
  | refWindowFail (mon : W16)
  | refVoltsUpdate (mon : W16)
  | appWdtCtrlWrite (w : Word)
  | appWdtKick (w : Word)
  | appWdtExpire
  | loopNRequest (r : Req) (e : Eng) (n : W16)
  | loopTick (e : Eng) (w0 w1 : ChanWin)
  | loopSyncArm (r : Req) (v : Byte)
  | loopSyncRestart
  | tbcRateWrite (w : Word)
  | tbcLoad (w : Word)
  | reg64LowRead (m : Master) (addr : Nat)
  | reg64LowWrite (m : Master) (addr : Nat) (w : Word)
  | counterWrite (m : Master) (addr : Nat) (w : Word) (event : Bool)
  | statusW1c (m : Master) (addr : Nat) (w : Word) (wrapNow collideNow : Bool)
  | periodRegWrite (p : PeriodReg) (w : Word)
  | registerWrite (m : Master) (addr : Nat) (w : Word)
  -- the object dictionary and ROP (chapter 3)
  | ropDatagram (peer : Peer) (broadcast : Bool) (bytes : List Byte) (serve : Nat) (serviceUs : Nat)
  | ropRead (r : Req) (idx : W16) (el ty : Byte)
  | ropWrite (r : Req) (idx : W16) (el ty : Byte) (data : List Byte)
  | readRing (r : Req) (ring : W16) (ty : Byte) (data : List Byte)
  | writeRing (r : Req) (ring : W16) (ty : Byte) (data : List Byte)
  | sessionOpen (peer : Peer) (entry : W16) (timeout : W16)
  | sessionClose (sid : W16)
  | keepalive (sid : W16)
  | transactionTimeout (sid seq : W16)
  | sessionExpire (slot : Fin 8)
  | busyPerSUpdate
  | linkUp (speed100 fullDuplex : Bool)
  | dhcpRetransmit
  | dhcpReply (ip mask router : Word) (leaseS : Nat)
  | dhcpRenew
  | dhcpRebind
  | leaseExpire
  | arpRequest (target sender : Word) (senderMac : BitVec 48)
  | arpAge (ip : Word)
  | icmpEcho (src dst : Word) (payload : List Byte)
  | broadcastReply
  | macFrameRx (bytes : List Byte) (fcsGood : Bool)
  | macFrameTx
  | mdioGo (w : Word)
  | mdioComplete (data : W16)
  | eventDatagramSend
  -- the TSF mailbox, trust and ownership (chapter 4)
  | mbxWrite
  | mbxStage
  | mbxCommit
  | mbxAbort
  | mbxAppend
  | sessCmdOpen
  | sessCmdTouch (sid : W16)
  | sessCmdClose (sid : W16)
  | protViolation (addr : Nat)
  | keyProgram (r : Req) (data : List Byte)
  | keyDisable (r : Req) (data : List Byte)
  | unlock (r : Req) (code : List Byte)
  | lock (r : Req) (v : Byte)
  | setCode (r : Req) (code : List Byte)
  | save (r : Req) (v : Byte)
  | saveComplete
  | unlockTimeout
  | lockoutEnd
  | limitWrite (r : Req) (n : Ch) (el ty : Byte) (data : List Byte)
  | claim (r : Req) (n : Ch) (v : Byte)
  | release (r : Req) (n : Ch) (v : Byte)
  | appReset (r : Req) (v : Byte)
  | appReverifyComplete (img0 img1 : FlashImage)
  | mgmtAliveTimeout
  -- channel modes (chapter 6)
  | modeRequest (r : Req) (n : Ch) (v : Byte)
  | modeChangeApply (n : Ch)
  | offNow (r : Req) (n : Ch) (v : Byte)
  | enableStart (n : Ch)
  | enableStageOn (n : Ch)
  | enableLoopClose (n : Ch)
  | enableModeEntry (n : Ch)
  | safeRampEnd (n : Ch)
  | overrunFallback (n : Ch)
  | powerLimitExceeded (n : Ch)
  -- the loop engine (chapter 7)
  | engineService (e : Eng)
  | leNop (e : Eng)
  | leMov (e : Eng) (d a : Opnd)
  | leAdd (e : Eng) (d a b : Opnd)
  | leSub (e : Eng) (d a b : Opnd)
  | leMul (e : Eng) (d a b : Opnd)
  | leMac (e : Eng) (a b : Opnd)
  | leMsu (e : Eng) (a b : Opnd)
  | leClra (e : Eng)
  | leLda (e : Eng) (a : Opnd)
  | leSta (e : Eng) (d : Opnd)
  | leMin (e : Eng) (d a b : Opnd)
  | leMax (e : Eng) (d a b : Opnd)
  | leLim (e : Eng) (d a b : Opnd)
  | leAbs (e : Eng) (d a : Opnd)
  | leNeg (e : Eng) (d a : Opnd)
  | leShl (e : Eng) (d a : Opnd) (imm : Byte)
  | leShr (e : Eng) (d a : Opnd) (imm : Byte)
  | leDiv (e : Eng) (d a b : Opnd)
  | leIntg (e : Eng) (d a b : Opnd)
  | leBqd (e : Eng) (d a b : Opnd) (imm : Byte)
  | leLdi (e : Eng) (d : Opnd) (imm : Byte)
  | leBneg (e : Eng) (a : Opnd) (imm : Byte)
  | leBpos (e : Eng) (a : Opnd) (imm : Byte)
  | leBz (e : Eng) (a : Opnd) (imm : Byte)
  | leBnz (e : Eng) (a : Opnd) (imm : Byte)
  | leBfs (e : Eng) (b : Opnd) (imm : Byte)
  | leJmp (e : Eng) (imm : Byte)
  | leEnd (e : Eng)
  | leTunt (e : Eng)
  | deadlineOverrun (n : Ch)
  | loadMain (r : Req) (n : Ch) (data : List Byte)
  | loadOuter (r : Req) (n : Ch) (data : List Byte)
  | unload (r : Req) (n : Ch) (v : Byte)
  | peakClear (r : Req) (e : Eng) (v : Byte)
  | notchDesign (r : Req) (n : Ch) (bank : Fin 4) (el : Byte) (v : Word)
  | outerStep (n : Ch)
  -- set-point motion, supervision, tuning, LAC (chapter 8)
  | folEdge (n : Ch) (rising : Bool)
  | folStandstill (n : Ch)
  | followingErrorReport (n : Ch)
  | oscillationReport (n : Ch)
  | srcResume (r : Req) (n : Ch) (v : Byte)
  | tuneSegmentClose (n : Ch)
  | tuneDone (n : Ch)
  | lacFrameEnd (n : Ch)
  | lacUpdate (n : Ch)
  | lacRevert (r : Req) (n : Ch) (v : Byte)
  | lacResume (r : Req) (n : Ch) (v : Byte)
  -- converters (chapter 9)
  | capArm (r : Req) (n : Ch) (v : Byte)
  | captureStart (n : Ch)
  | captureComplete (n : Ch) (codes : List CapCode)
  | captureCopyDone (n : Ch)
  | scanStart (r : Req) (v : Byte)
  | scanStop (r : Req) (v : Byte)
  | scanTimerWrap
  | scanDelayEnd
  | auxSlotStart
  | auxResult (code : W16) (refReady : Bool)
  | scanEnd
  | urgReq (r : Req) (v : Byte)
  | calPoint (r : Req) (n : Ch) (v : Byte)
  | calCaptureDone (n : Ch)
  | calCompute (r : Req) (n : Ch) (v : Byte)
  | phaseUpdate (n : Ch)
  -- outputs, clamps, ranges, triggers (chapter 10)
  | clrNFall
  | clrNRise
  | clampTrip (n : Ch) (p : ClampPath)
  | clampRelease (n : Ch)
  | clampHoldRepeat (n : Ch) (p : ClampPath)
  | rangeReq (r : Req) (n : Ch) (v : Byte)
  | rangeMake (n : Ch)
  | rangeSwitch (n : Ch)
  | rangeBreakEnd (n : Ch)
  | rangeHoldSwitch (n : Ch)
  | rangeNoOverlap (n : Ch)
  | fastArm (r : Req) (n : Ch) (v : Byte)
  | fastFire (n : Ch)
  | fastSpApply (n : Ch)
  | triginEdge (i : Fin 4)
  | trigoutPulseEnd (j : Fin 4)
  | pwgRun (p : Fin 4) (w : Word)
  | pwgWrap (p : Fin 4)
  | pwgWidthEnd (p : Fin 4)
  -- Hamper and the sweep sequencer (chapter 11)
  | ringConfig (r : Req) (data : List Byte)
  | ringFree (r : Req) (ring : W16)
  | ringFlush (r : Req) (ring : W16)
  | ringPush (m : Master) (w : Word)
  | ringPop (m : Master) (w : Word)
  | hwRecordWrite (src : HwSource)
  | lossRateUpdate
  | listStart (r : Req) (n : Ch) (v : Byte)
  | listStop (r : Req) (n : Ch) (v : Byte)
  | swpTrig (r : Req) (n : Ch) (v : Byte)
  | stepStart (n : Ch)
  | stepDwellEnd (n : Ch)
  | stepMeasureEnd (n : Ch)
  | stepAdvanceTrigger (n : Ch)
  | semWrite (m : Master) (i : Fin 32) (w : Word)
  -- the credit arbiter (chapter 12)
  | arbGrant (res : Resource) (cost : Nat)
  | grantEnd (res : Resource)
  | arbWindowBoundary (res : Resource)
  | arbCommit (r : Req) (v : Byte)
  | arbWaitForce (res : Resource) (q : Nat)
  -- the Ronko link (chapter 13)
  | signalDetect (p : Port)
  | trainComplete (p : Port)
  | alignComplete (p : Port) (delayU : Int)
  | portRestart (p : Port)
  | linkLoss (p : Port) (why : LossCause)
  | portEnWrite (r : Req) (p : Port) (v : Byte)
  | normalFrameRx (p : Port) (bytes : List Byte) (fin : FrameEnd)
  | expressFrameRx (p : Port) (bytes : List Byte) (fin : FrameEnd)
  | lcAck (p : Port) (v check : Byte)
  | lcNak (p : Port) (v check : Byte)
  | lcXack (p : Port) (v check : Byte)
  | lcXnak (p : Port) (v check : Byte)
  | lcCredit (p : Port) (v check : Byte)
  | lcXcredit (p : Port) (v check : Byte)
  | lcHello (p : Port) (v check : Byte)
  | lcLinkdown (p : Port) (v check : Byte)
  | retryTimeout (p : Port) (express : Bool)
  | frameFail (p : Port) (express : Bool)
  | enumStart
  | enumRestart (r : Req) (v : Byte)
  | enumAssign (id : W16) (level : Byte) (admitIt : Bool) (gen : W16)
  | enumDone (p : Port) (nextId unadmitted : W16)
  | enumReady (gen nodeCount : W16)
  | topoChange
  | rootlessTimeout
  | syncExchangeStart (p : Port)
  | timeReq (p : Port) (reqNo : W16) (ago lead : Nat)
  | timeRsp (p : Port) (stamps : W64 × W64) (reqNo : W16) (parentLocked : Bool) (ago : Nat)
  | exchangeTimeout
  | eqAdapt (p : Port) (peak : BitVec 4) (dfe1 dfe2 dfe3 : Byte) (delayPs : Byte)
  | eyeUpdate (p : Port) (heightMv widthU : W16)
  | schedTrig (r : Req) (data : List Byte)
  | trigFrame (p : Port) (addr : W16) (target : W64) (id origin : W16) (gmask chmask : Byte)
  | triggerExecute
  | tunReq (seg : Segment)
  | tunRsp (seg : Segment)
  | tunEvt (seg : Segment)
  | tunNack (tag entry : W16) (reason : Byte)
  | reassemblyTimeout (slot : Fin 8)
  | tunTxGo (k : Fin 4) (w : Word) (data : List Byte)
  | tunTxCancel (k : Fin 4)
  | tunRxFree (mask : Byte)
  -- the front-end serial port (chapter 14)
  | cmdqEntry
  | frdyReady
  | frdyTimeout
  | fspAttemptFail (why : AttemptFail) (elapsed : Nat)
  | cmdqEntryComplete (rx : List Byte)
  | xipMiss (addr : Word)
  | xipFillComplete
  | xipInvalidate (r : Req) (v : Byte)
  | busyPoll (status : Byte)
  | flashStuck
  | fspRelease (r : Req) (v : Byte)
  | fspAcquire (r : Req) (v : Byte)
  | modeFault
  | mfQuietReacquire
  -- the management port (chapter 14)
  | mgpFrameStart
  | mgpFrameEnd (bytes : List Byte)
  | mgpPoll (alive : BitVec 4)
  | mgpRead (idx : W16) (el dtype : Byte)
  | mgpWrite (idx : W16) (el dtype : Byte) (epoch : Option W16) (data : List Byte)
  | mgpStream (items : Nat)
  | mgpFlashRead (offset : Word) (count : W16) (data : List Byte)
  | mgpFlashWrite (offset : Word) (data : List Byte) (readBackEqual : Bool)
  | mgpFlashErase (offset : Word)
  | mgpReplyComplete
  -- events and Badger (chapter 15)
  | badgerClassify
  | ackQuietClose (cls : Fin 16) (src : BitVec 6)
  | faultAck (r : Req) (v : W16)
  | appPost (w : Word)
  | force (r : Req) (data : List Byte)
  | testEnter (r : Req) (v : Byte)
  | testExit (r : Req) (v : Byte)
  | inject (r : Req) (data : List Byte)
  | injectionEnd
  | alertPulseEnd
  | evtPulseEnd (x : Fin 4)
  | evtClear (r : Req) (x : Fin 4) (mask : Word)
  | fifoPop
  -- rows at the table's end
  | supplyRisingThreshold (sup : Supply)
  | rstNHigh
  | ethernetLinkLoss
  | rmiiPllLock
  | xipHit (addr : Word)
  deriving DecidableEq, Repr

end Sys2Proof
end

