-- ==== Sys2Proof/Machine/State.lean ====
section
/-! DEFINITION. The state of the SG8 as plain data: every register, buffer, counter, mode and record the spec names,
one structure per part, the queue of waiting commands, and the state right after reset. Registers that only show an
object (R16, R85) have no field of their own: the object is their home. -/

namespace Sys2Proof.Machine

/-! ### Clocks, supplies, reset and the device (chapters 2 and 5) -/

/-- An event counter with its status register (R73). -/
structure Counter where
  value : Word := 0
  wrap : Bool := false
  collide : Bool := false
  deriving DecidableEq, Repr

/-- A binary64 pattern, the form in which the TSF keeps intermediate values (R277, R299, R367). -/
abbrev F64 := BitVec 64
/-- A binary32 pattern (R92). -/
abbrev F32 := BitVec 32

/-- The device states of Table 5.4. -/
inductive DeviceState where
  | reset | boot | verify | safe | run | halt
  deriving DecidableEq, Repr

/-- Supplies, reset lines and straps (R197 to R207). -/
structure Power where
  /-- SUPPLY_GOOD: [0] VDD_AON, [1] VDD_CORE, [2] VDD_LINK, [3] VDD_IO, [4] VDD_IO_B, [5] AVDD (Table 5.7). -/
  good : BitVec 6 := 0
  /-- The AON reset holds (R201, R202). -/
  aonHeld : Bool := true
  /-- RST_n is recognised low (R202). -/
  rstLow : Bool := false
  /-- STRAPS as sampled: [0] REF_SEL, [1] IOB_SEL, [2] BOOT_HOLD, [3] TEST_EN (R207). -/
  straps : BitVec 4 := 0
  /-- The levels that the strap balls had when they were sampled, and the model time of that, if they were (R207). -/
  strapsLive : BitVec 4 := 0
  strapsAt : Option Nat := none
  deriving DecidableEq, Repr

/-- The application watchdog (R206). -/
structure Watchdog where
  on : Bool := false
  period : Nat := 0
  /-- The model time at which it expires. -/
  deadline : Nat := 0
  deriving DecidableEq, Repr

/-- Device state, reset record and reference buffer (R203 to R226). -/
structure Device where
  state : DeviceState := .reset
  /-- RESET_CAUSE, bits of Table 5.2 and [9] HALTED (R203). -/
  resetCause : W16 := 0
  resetCount : Counter := {}
  lastHalt : W64 := 0
  appResets : Counter := {}
  /-- An accepted DEVICE_RESET waits for its reset (R205). -/
  resetPending : Bool := false
  refbufOn : Bool := false
  /-- Model time at which REFBUF was last enabled (REF_ON_TIME). -/
  refbufAt : Nat := 0
  refReady : Bool := false
  refVolts : F32 := 0
  /-- The HALT in force was caused by a reference fault (R221). -/
  refFault : Bool := false
  /-- VERIFY runs again after an application core reset or an APP_RESET in SAFE (R190, R216). -/
  reverify : Bool := false
  wdt : Watchdog := {}
  deriving DecidableEq, Repr

/-- The value one bus master's last low-word read of a 64-bit register latched (R69, R70). -/
structure ReadLatch where
  master : Master
  addr : Nat
  high : Word
  deriving DecidableEq, Repr

/-- Clocks and the timebase (chapter 2). -/
structure Clocks where
  refPresent : Bool := false
  pllEn : Bool := false
  pllLock : Bool := false
  /-- Failed PLL attempts since entry into BOOT (R51). -/
  pllFails : Nat := 0
  /-- PLL_LOCK has been set since entry into BOOT, so the lock and frequency monitors run (R78). -/
  monitorsOn : Bool := false
  rmiiEn : Bool := false
  rmiiLock : Bool := false
  aonOnRc : Bool := true
  rootFreqOk : Bool := false
  clockLost : Bool := false
  rateClamp : Bool := false
  tbc : W64 := 0
  frac : Word := 0
  /-- The TBC at the last 144 CCLK cycles, the newest first: an aux sample lies so far before its result (R353). -/
  past : List W64 := []
  /-- TBC_RATE, the rate trim in units of 2^-32 (R66). -/
  rate : Int := 0
  tbcSet : W64 := 0
  tbcSetHold : Word := 0
  /-- TBC_CMD.LOAD was written and acts on the next CCLK cycle (R67). -/
  loadPending : Bool := false
  syncTarget : W64 := 0
  syncHold : Word := 0
  syncMask : BitVec 4 := 0
  syncArmed : Bool := false
  latches : List ReadLatch := []
  /-- Model time at which the present window of the ROOT frequency monitor opened (Table 2.2). -/
  rootAt : Nat := 0
  deriving DecidableEq, Repr

/-- Identity objects fixed at manufacture (Table 0.4). -/
structure Identity where
  partCode : List Byte := [0x53, 0x47, 0x38, 0x2D, 0x43, 0x42]
  grade : Byte := 0
  keyOption : Byte := 0
  siliconStep : Byte := 0x11
  deriving DecidableEq, Repr

/-! ### ROP, sessions and Ethernet (chapter 3) -/

/-- The per-session copy of the session-relative objects (R142): obj 0x1002, 0x5002, 0x5003 and 0x6100.05 to .07. -/
structure Relative where
  eventSubscribe : BitVec 4 := 0
  ringSel : W16 := 0
  openSel : W16 := 0
  lastReadRing : W16 := 0
  lastReadGap : W64 := 0
  deriving DecidableEq, Repr

/-- One slot of the session table; `id = 0` is a free slot (R114, Table 3.10). -/
structure Session where
  id : W16 := 0
  entry : W16 := 0
  ip : Word := 0
  port : W16 := 0
  timeoutMs : Nat := 0
  deadline : Nat := 0
  /-- CMD_DEPTH as it stood when the session opened (R142). -/
  depth : Nat := 16
  /-- The SEQ of the last executed transaction and its complete response (R118). -/
  lastSeq : Option W16 := none
  stored : List Byte := []
  /-- RATE and BURST in force when the session opened (R142). -/
  rate : Nat := 0
  burst : Nat := 0
  /-- The token bucket's level in units of 1/240,000,000 token, and the time it was last brought up (R130). -/
  level : Nat := 0
  levelAt : Nat := 0
  eventSeq : W16 := 0
  rel : Relative := {}
  deriving DecidableEq, Repr

/-- An admitted transaction in the host command ring (R129). -/
structure Queued where
  peer : Peer
  entry : W16
  /-- The tag of the tunnelled request, for a transaction that came through the tunnel (R522). -/
  tag : Option W16
  bytes : List Byte
  deadline : Nat
  deriving DecidableEq, Repr

/-- A transaction of a host that this entry unit forwarded through the tunnel (R125, R127). -/
structure Forwarded where
  session : W16
  seq : W16
  dest : W16
  timeout : W16
  peer : Peer
  tag : W16
  deadline : Nat
  deriving DecidableEq, Repr

/-- The ROP server and session table (R100 to R134). -/
structure Rop where
  defaultTimeout : Nat := 20
  sessionTimeoutDefault : Nat := 2000
  rate : Nat := 2000
  burst : Nat := 16
  cmdDepth : Nat := 16
  sessions : Vector Session 8 := Vector.replicate 8 {}
  /-- The last ID assigned; the next search starts above it (R114). -/
  lastId : W16 := 0
  locRel : Relative := {}
  mgmtRel : Relative := {}
  queue : List Queued := []
  forwarded : List Forwarded := []
  /-- Broadcast discovery reads that wait for their delayed answer (R138). -/
  discovery : List (Peer × List Byte) := []
  /-- Service times of the last 64 transactions in µs, newest first (R131). -/
  serviceUs : List Nat := []
  rxDatagrams : Word := 0
  malformed : Word := 0
  busyCount : Word := 0
  busyPerS : Word := 0
  /-- BUSY_COUNT at the last one-second boundary (R132). -/
  busyMark : Word := 0
  seqErrors : Word := 0
  duplicates : Word := 0
  timeouts : Word := 0
  lateDiscards : Word := 0
  deriving DecidableEq, Repr

/-- An ARP cache entry (Table 3.7). -/
structure ArpEntry where
  ip : Word
  mac : BitVec 48
  deriving DecidableEq, Repr

/-- The MDIO command register (Table 3.15). -/
structure Mdio where
  data : W16 := 0
  reg : BitVec 5 := 0
  phy : BitVec 5 := 0
  read : Bool := false
  go : Bool := false
  deriving DecidableEq, Repr

/-- Where the DHCP client stands (R136). -/
inductive DhcpState where
  | idle | discovering (sent : Nat) | bound | renewing | rebinding
  deriving DecidableEq, Repr

/-- Ethernet, IPv4 and the MAC (R135 to R143). -/
structure Eth where
  macAddr : BitVec 48 := 0
  macHold : W16 := 0
  rxEn : Bool := false
  txEn : Bool := false
  speed100 : Bool := true
  fullDuplex : Bool := true
  refOut : Bool := true
  rxRing : Nat := 0
  txRing : Nat := 0
  mdio : Mdio := {}
  linkUp : Bool := false
  linkSpeed : Byte := 0
  linkFull : Bool := false
  dhcpEn : Bool := true
  staticIp : Word := 0
  staticMask : Word := 0xFFFFFF00
  staticGw : Word := 0
  /-- DHCP_EN as it stood at the last link-up, which is the one in force (R142). -/
  dhcpInUse : Bool := true
  ip : Word := 0
  mask : Word := 0
  router : Word := 0
  dhcp : DhcpState := .idle
  leaseEnd : Nat := 0
  /-- The cache, newest entry first, at most 16 (Table 3.7). -/
  arp : List ArpEntry := []
  /-- Echo replies since the last one-second boundary (Table 3.7). -/
  icmpSent : Nat := 0
  rxFrames : Counter := {}
  rxFcsErr : Counter := {}
  rxDropped : Counter := {}
  txFrames : Counter := {}
  ipFragDrop : Word := 0
  deriving DecidableEq, Repr

/-! ### Badger and the event lines (chapter 15) -/

/-- The levels of Table 15.5, in rising order. -/
inductive Level where
  | note | warn | error | trip | halt
  deriving DecidableEq, Repr

/-- A message as its source sends it (Table 15.1), with its base level and marks. -/
structure Msg where
  source : BitVec 6
  kind : Byte
  base : Level
  detail : BitVec 24
  time : BitVec 24
  forced : Bool
  injected : Bool
  /-- LOSS: an earlier message of the source was lost (R584). -/
  loss : Bool
  deriving DecidableEq, Repr

/-- An open slot; a slot that is not listed is closed (R585). -/
structure Slot where
  cls : BitVec 4
  source : BitVec 6
  level : Level
  count : Nat
  deriving DecidableEq, Repr

/-- A history entry (R592, Table 15.6). -/
structure HistEntry where
  msg : Msg
  level : Level
  count : Nat
  acked : Bool
  seq : Word
  deriving DecidableEq, Repr

/-- An injection in progress (Table 15.9), and the model time at which its duration ends. The flipped bits of target 2
that stand in a stored record have value 0. -/
structure Injection where
  target : Nat
  arg : Nat
  value : Nat
  ends : Nat
  deriving DecidableEq, Repr

/-- Badger (R581 to R609). -/
structure Badger where
  /-- The messages in the sources' queues, in the order sent; a source's queue is its messages here (R584). -/
  queue : List Msg := []
  /-- Bit s: a message of source s was lost and no later one has been delivered yet (R584). -/
  lossDue : BitVec 64 := 0
  /-- The open slots, by class and then source (R585). -/
  slots : List Slot := []
  /-- The history, newest first, at most 32 (R592). -/
  history : List HistEntry := []
  histSeq : Counter := {}
  histDropped : Counter := {}
  msgLost : Counter := {}
  /-- ACK_QUIET of each class, F32 s (Table 15.4). -/
  ackQuiet : Vector F32 16 := #v[0, 0, 0, 0, 0, 0x3F800000, 0, 0, 0, 0, 0, 0, 0, 0, 0x41200000, 0]
  alertLevel : Nat := 2
  alertPulse : Nat := 10
  alertSw : Bool := false
  alertPulsing : Bool := false
  faultMin : Nat := 1
  /-- The OPEN_SEL register (Table 15.11). -/
  openSel : W16 := 0
  /-- FORCE_A and FORCE_B as last written by the TSF (Table 15.11). -/
  forceA : Word := 0
  forceB : Word := 0
  testActive : Bool := false
  /-- TEST_CTRL[31:8] and TEST_VALUE[15:0] as last written by the TSF (Table 15.11). -/
  testCtrl : Word := 0
  testValue : Word := 0
  injections : List Injection := []
  deriving DecidableEq, Repr

/-- One event line (R599, R600). -/
structure EventLine where
  mask : Word := 0
  pending : Word := 0
  pulse : Bool := false
  count : Counter := {}
  /-- A pulse of EVTx_n is running (R600). -/
  pulsing : Bool := false
  deriving DecidableEq, Repr

/-- An event record in the FIFO (Table 15.8). -/
structure EventRec where
  line : Fin 4
  cause : Nat
  node : W16
  lost : Nat
  tbc : W64
  detail : Word
  message : W64
  deriving DecidableEq, Repr

/-- The event lines and their FIFO (R599 to R602). -/
structure Events where
  lines : Vector EventLine 4 := #v[{}, {}, { mask := 0xFFFF }, { mask := 0xF }]
  fifo : List EventRec := []
  fifoLost : Counter := {}
  /-- Records dropped since the last stored one (R601). -/
  lostSince : Nat := 0
  deriving DecidableEq, Repr

/-! ### Hamper and the sweep sequencer (chapter 11) -/

/-- The overflow policies of R417. -/
inductive Policy where
  | dropNewest | dropOldest | stall
  deriving DecidableEq, Repr

/-- One slot of a ring: its bytes in wire order (R441) and its side-band bits (R432). -/
structure Rec where
  bytes : List Byte
  mark : Bool := false
  cont : Bool := false
  /-- The stored word has an uncorrectable error (R425). -/
  bad : Bool := false
  /-- The stored word has a correctable error (R425). -/
  soft : Bool := false
  deriving DecidableEq, Repr

/-- One ring number that is or was configured; a number not listed is free and never was (R417, Table 11.2). -/
structure Ring where
  num : Nat
  enabled : Bool := true
  recSize : Nat := 8
  byteRecs : Bool := false
  policy : Policy := .dropNewest
  minPages : Nat := 1
  maxPages : Nat := 1
  producer : Nat := 0
  consumer : Nat := 0
  chan : Option Ch := none
  highWm : Nat := 0
  lowWm : Nat := 0
  wmArmed : Bool := true
  pagesHeld : Nat := 1
  /-- The pages held, the head's first, each by its number among all that this ring number ever took; and the next such
  number. -/
  pages : List Nat := []
  pageNext : Nat := 0
  headSlot : Nat := 0
  /-- The slots in use, oldest first (R417). -/
  recs : List Rec := []
  /-- Slots reserved for a bundle that is being written (R467). -/
  reserved : Nat := 0
  /-- Records in the head gap; HEAD_GAP is set while it is not 0 (R434). -/
  headGap : Nat := 0
  /-- Records in the pending loss; PEND is set while it is not 0 (R433). -/
  pendLoss : Nat := 0
  lossTotal : W64 := 0
  gaps : Counter := {}
  lossPerS : Word := 0
  /-- LOSS_TOTAL at the last one-second boundary (R437). -/
  lossMark : W64 := 0
  /-- No record was dropped since the last stored one, or since the configuration (R436). -/
  lossArmed : Bool := true
  deriving DecidableEq, Repr

/-- The push, pop and selection registers of one core (Table 11.11). -/
structure RingPort where
  sel : Nat := 0
  pushRing : Nat := 0
  pushCont : Bool := false
  pushAsHost : Bool := false
  pushResult : Nat := 0
  pushData : Vector Word 8 := Vector.replicate 8 0
  /-- Records of a bundle whose last record has not been pushed yet (R432). -/
  bundle : List (List Byte) := []
  popRing : Nat := 0
  popAsHost : Bool := false
  popValid : Bool := false
  popMark : Bool := false
  popCont : Bool := false
  popRefused : Bool := false
  popData : Vector Word 8 := Vector.replicate 8 0
  deriving DecidableEq, Repr

/-- A record or bundle of a real-time producer in its staging buffer (R430). -/
structure Staged where
  src : HwSource
  recs : List (List Byte)
  /-- The records of a bundle that the pool write port has taken, and the ring in which its room is reserved (R467). -/
  sent : Nat := 0
  ring : Nat := 0
  deriving DecidableEq, Repr

/-- Hamper (R417 to R443, R456 to R460). -/
structure Hamper where
  /-- The pool and the descriptors have been initialised since RESET (R212). -/
  ready : Bool := false
  /-- Rings by rising number. -/
  rings : List Ring := []
  staging : List Staged := []
  /-- The copies of BULK in the order in which they became ready (R463). -/
  bulk : List HwSource := []
  /-- The pages that Myvex has configured the host command ring with, 0 before it has; and the number it gives that ring
(R431, log entry 74). -/
  hostPages : Nat := 0
  hostNum : Nat := 16383
  poolExhaust : Counter := {}
  /-- The pool has refused a page since it last held a free one (R423). -/
  refusedDry : Bool := false
  eccCorrected : Counter := {}
  eccLost : Counter := {}
  poolLossPerS : Word := 0
  appPort : RingPort := {}
  supPort : RingPort := {}
  cfgW : Vector Word 4 := Vector.replicate 4 0
  cfgCmd : BitVec 2 := 0
  cfgResult : Byte := 0
  /-- The semaphores: free, or held by a core (R456); and the model time of the latest acquisition of each. -/
  sems : Vector (Option Master) 32 := Vector.replicate 32 none
  semAt : Vector Nat 32 := Vector.replicate 32 0
  semReleased : Counter := {}
  /-- STEPS_TOTAL (R459). -/
  stepsTotal : Word := 0
  deriving DecidableEq, Repr

/-- LIST_STATE (Table 11.9). -/
inductive ListState where
  | idle | waitStart | running | paused | ended
  deriving DecidableEq, Repr

/-- STEP_PHASE (Table 11.6). -/
inductive StepPhase where
  | none | ranging | dwell | measure | waitTrig
  deriving DecidableEq, Repr

/-- A sweep step record (Table 11.5). -/
structure StepRec where
  endStep : Bool
  order : Bool
  rngEn : Bool
  range : Nat
  mark : Bool
  stepId : W16
  sp : F32
  dwell : Nat
  meas : Nat
  deriving DecidableEq, Repr

/-- The measure window of a step (R448, R451). Sums of F32 values are exact, in units of 2^-149. -/
structure StepWindow where
  samples : Nat := 0
  sumV : Int := 0
  sumI : Int := 0
  refNr : Bool := false
  compl : Bool := false
  sat : Bool := false
  resumed : Bool := false
  range : Nat := 0
  opened : Bool := false
  openTbc : W64 := 0
  deriving DecidableEq, Repr

/-- The sweep sequencer of one channel (R444 to R455). -/
structure Sweep where
  listRing : Nat := 0xFFFF
  resultRing : Nat := 0xFFFF
  replay : Bool := false
  loops : Nat := 1
  advSrc : Nat := 0
  stepPolicy : Nat := 0
  startSrc : Nat := 0
  listAuto : Bool := false
  listState : ListState := .idle
  phase : StepPhase := .none
  endReason : Nat := 0
  endCode : Byte := 0
  stepSeq : Counter := {}
  stepId : W16 := 0
  loopNow : Nat := 0
  missed : Counter := {}
  short : Counter := {}
  /-- The step in progress. -/
  cur : Option StepRec := none
  /-- Ticks left in the phase (SWP_LEFT). -/
  left : Nat := 0
  /-- A trigger is pending under QUEUE_ONE (R450). -/
  trigPending : Bool := false
  /-- A trigger aborts the step at the next boundary (R450). -/
  abortDue : Bool := false
  /-- A start or advance condition is met and the next boundary starts a step (R446, R449). -/
  startDue : Bool := false
  /-- A trigger of this step was already missed (R450). -/
  missedOnce : Bool := false
  window : StepWindow := {}
  /-- The window was discarded by a pause and reopens at the release (R452). -/
  reopen : Bool := false
  /-- Records walked in this REPLAY pass, and the records the pass holds (R447). -/
  passAt : Nat := 0
  passLen : Nat := 0
  deriving DecidableEq, Repr

/-! ### Trust, ownership and instructor limits (chapter 4) -/

/-- One OTP key slot (R156, R157). -/
structure KeySlot where
  hash : List Byte := List.replicate 32 0
  keyed : Bool := false
  disabled : Bool := false
  deriving DecidableEq, Repr

/-- The public half of the key pair whose private half is 32 zeros: the pair that `State.reset` holds (DESIGN CHOICE, log
entry 105). -/
def defaultKey : List Byte :=
  [0x3B, 0x6A, 0x27, 0xBC, 0xCE, 0xB6, 0xA4, 0x2D, 0x62, 0xA3, 0xA8, 0xD0, 0x2A, 0x6F, 0x0D, 0x73,
   0x65, 0x32, 0x15, 0x77, 0x1D, 0xE2, 0x43, 0xA6, 0x3A, 0xC0, 0x48, 0xA1, 0x8B, 0x59, 0xDA, 0x29]

/-- The OTP array (R156). -/
structure Otp where
  slots : Vector KeySlot 4 := Vector.replicate 4 {}
  uid : W64 := 0
  /-- The device's Ed25519 key pair (R156); the private half is read by the TSF alone. -/
  privkey : List Byte := List.replicate 32 0
  pubkey : List Byte := defaultKey
  deriving DecidableEq, Repr

/-- A write in the staged mailbox group (R151, R152). -/
structure StagedWrite where
  req : Req
  index : W16
  element : Byte
  ty : Byte
  data : List Byte
  deriving DecidableEq, Repr

/-- The mailbox and session request registers (Table 4.10). -/
structure Mailbox where
  cmd : BitVec 3 := 0
  obj : Word := 0
  auth : Word := 0
  len : Word := 0
  data : Vector Word 16 := Vector.replicate 16 0
  resultCode : Byte := 0
  resultPos : BitVec 6 := 0
  resultEpoch : W16 := 0
  long : List Byte := []
  staged : List StagedWrite := []
  sessOp : BitVec 2 := 0
  sessId : W16 := 0
  sessArg : W16 := 0
  peerLo : Word := 0
  peerHi : Word := 0
  sessCode : Byte := 0
  sessNew : W16 := 0
  deriving DecidableEq, Repr

/-- INSTR_STATE (Table 4.7). -/
inductive InstrState where
  | locked | unlocked | lockout
  deriving DecidableEq, Repr

/-- RECORD_STATE (Table 4.7). -/
inductive RecordState where
  | valid | absent | invalid | unsaved
  deriving DecidableEq, Repr

/-- The content of a saved instructor record (R176). -/
structure SavedRecord where
  limits : Vector Limits 8
  verifier : List Byte
  deriving DecidableEq, Repr

/-- The instructor unlock and record (R175 to R180). -/
structure Instructor where
  state : InstrState := .locked
  /-- Model time of the end of UNLOCKED without an instructor command (R179). -/
  unlockEnd : Nat := 0
  record : RecordState := .absent
  /-- The code verifier in force, if one is (R175). -/
  verifier : Option (List Byte) := none
  failedStreak : Nat := 0
  /-- The length of the last lockout in s; 0 for none (R177). -/
  lastLockout : Nat := 0
  lockoutEnd : Nat := 0
  /-- A SAVE is writing this record (R180). -/
  saving : Option SavedRecord := none
  /-- The valid record in flash, as far as the block knows it: the one that VERIFY found or a completed save wrote (R176). -/
  saved : Option SavedRecord := none
  deriving DecidableEq, Repr

/-- The admitted image and verification results (Table 4.6). -/
structure Image where
  active : Byte := 0xFF
  signed : Bool := false
  keySlot : Byte := 0xFF
  version : Word := 0
  sequence : Word := 0
  /-- The offset of the first instruction within the mapped body (R161). -/
  entry : Word := 0
  result0 : Byte := 0xFF
  result1 : Byte := 0xFF
  patchLevel : W16 := 0
  deriving DecidableEq, Repr

/-- Trust: protection unit, mailbox, instructor, image (chapter 4). -/
structure Trust where
  protViol : Counter := {}
  protLastAddr : Word := 0
  mbx : Mailbox := {}
  instr : Instructor := {}
  image : Image := {}
  revocations : Counter := {}
  deriving DecidableEq, Repr

/-- OWNER_KIND (R181, R195). -/
inductive OwnerKind where
  | none | host | mgmt | loc
  deriving DecidableEq, Repr

/-- LOCK_STATE (R181, R195). -/
inductive LockState where
  | free | held | ramping
  deriving DecidableEq, Repr

/-- A channel's lock record (R181). -/
structure Lock where
  kind : OwnerKind := .none
  session : W16 := 0
  epoch : W16 := 0
  state : LockState := .free
  deriving DecidableEq, Repr

/-- The default limits of Table 4.8. -/
def defaultLimits : Limits :=
  { vMax := 0x447A0000, iMax := 0x42C80000, pMax := 0x47C35000, modeMask := 0x0FFF, minPeriod := 0x358637BD,
    progClasses := 0x1F, lacSpan := 0x3F800000 }

/-! ### A channel's declarations and mode (chapters 1 and 6) -/

/-- The declarations of Table 1.5. -/
structure Decl where
  dacKind : Nat := 0
  dacGain : Nat := 1
  stageGain : F32 := 0x3F800000
  stageOffset : F32 := 0
  rangeCount : Nat := 1
  rngSettle : Nat := 200
  clearCode : Nat := 0
  vAtten : F32 := 0x3F800000
  shuntOhms : Vector F32 4 := #v[0x3F800000, 0x42C80000, 0x461C4000, 0x49742400]
  iAmpGain : Vector F32 4 := Vector.replicate 4 0x3F800000
  deriving DecidableEq, Repr

/-- The values of the latest tick (Table 1.5, obj 0x200E). -/
structure Last where
  v : F32 := 0
  i : F32 := 0
  /-- The code presented at the latest DAC update, from which LAST_U follows (R265). -/
  code : Nat := 0
  /-- LAST_CODE: the code presented at the latest tick boundary, or phase instant (R47, R284). -/
  shown : Nat := 0
  tick : W64 := 0
  deriving DecidableEq, Repr

/-- The twelve modes of Table 6.1. -/
inductive Mode where
  | off | idle | fv | fi | fvProfile | fiProfile | fvList | fiList | follow | nested | tune | meter
  deriving DecidableEq, Repr

/-- MODE_STATUS (Table 6.6). -/
inductive ModeStatus where
  | stable | enabling | safeRamp | waitRange
  deriving DecidableEq, Repr

/-- OFF_REASON (Table 6.6). -/
inductive OffReason where
  | reset | modeRequest | offNow | trip | deviceState | instructor | revocation
  deriving DecidableEq, Repr

/-- Where the enabling sequence stands (Table 6.5): T0 passed, PSTn_EN raised, IDLE loop closed. -/
inductive EnablePhase where
  | started | stageOn | loopClosed
  deriving DecidableEq, Repr

/-- The mode of a channel and what is under way (R228 to R256). -/
structure ModeSt where
  mode : Mode := .off
  target : Mode := .off
  status : ModeStatus := .stable
  /-- An accepted change that waits for its boundary (R238). -/
  pending : Option Mode := none
  /-- An accepted OFF_NOW that waits for its boundary (R241). -/
  offNow : Bool := false
  /-- A LOOP_OVERRUN at ERROR that waits for its boundary (R251). -/
  overrunDue : Bool := false
  /-- A limit change forbids the mode or the program, and the ramp starts at the next boundary (R173). -/
  limitRampDue : Bool := false
  enable : Option EnablePhase := none
  /-- The range change that a WAIT_RANGE waits for has had its switch tick (R238). -/
  switched : Bool := false
  /-- The OFF_REASON to record if the running ramp ends in OFF (R249). -/
  rampReason : OffReason := .modeRequest
  /-- The safe ramp's phase: the set-point at its start, the ticks since, and the rate and period that they ran with
  (R247). -/
  rampBase : F64 := 0
  rampTicks : Nat := 0
  rampRate : F32 := 0
  rampPer : Nat := 0
  /-- The program was replaced by ROM PI with notch until the mode is left (R251). -/
  romPi : Bool := false
  forceKind : Nat := 0
  offReason : OffReason := .reset
  changes : Counter := {}
  lastReject : Byte := 0
  rampV : F32 := 0x41200000
  rampI : F32 := 0x3DCCCCCD
  pstSettle : Nat := 100
  deriving DecidableEq, Repr

/-- The direct set-points (Table 6.6). -/
structure SetPoints where
  v : F32 := 0
  i : F32 := 0
  outer : F32 := 0
  outerQty : Nat := 0
  active : F32 := 0
  /-- The set-point in force, binary64; SP_ACTIVE shows it (R235, R247, R299). -/
  ramp : F64 := 0
  deriving DecidableEq, Repr

/-! ### The loop engines (chapter 7) -/

/-- A loaded user program (R271, Table 7.6). -/
structure Program where
  presetSlot : Fin 16
  rescaleMask : W16
  wcet : Nat
  words : List Word
  deriving DecidableEq, Repr

/-- Program selection, timing and limits of one channel (Table 7.12). -/
structure ProgSel where
  progMain : Byte := 0x01
  progOuter : Byte := 0x03
  timing : Nat := 0
  phaseA : Nat := 200
  windup : Nat := 0
  outerDiv : Nat := 8
  intMax : Word := 0x7FFFFFFF
  intMin : Word := 0x80000000
  ointMax : Word := 0x7FFFFFFF
  ointMin : Word := 0x80000000
  outerScale : F32 := 0x3F800000
  /-- DRIVE_SCALE, signed with 8 fractional bits (R264). -/
  driveScale : Word := 0x04000000
  userMain : Option Program := none
  userOuter : Option Program := none
  /-- The words of the two program areas and their headers' words 0 and 1 (Table 7.14). -/
  memMain : Vector Word 98 := Vector.replicate 98 0
  memOuter : Vector Word 98 := Vector.replicate 98 0
  deriving DecidableEq, Repr

/-- The default bank of Table 7.9: k0 0.25, k1 0.01, k3 to k7 the default notch of R277, k9 0.5. -/
def defaultBank : Vector Word 16 :=
  #v[0x10000000, 0x00A3D70A, 0, 0x40000000, 0x84242303, 0x3C1A8E1F, 0x84242303, 0x3C1A8E1F, 0, 0x20000000, 0, 0, 0, 0, 0, 0]

/-- The default outer coefficients of Table 7.9: k0 0.1, k1 0.001. -/
def defaultOuterK : Vector Word 32 :=
  (Vector.replicate 32 0).set 0 0x06666666 |>.set 1 0x0010624E

/-- What a channel takes over at each tick boundary (R233, R295, R338, R390): the direct set-points, the output settings and
the supervision settings as they stood then. -/
structure Acting where
  v : F32 := 0
  i : F32 := 0
  outer : F32 := 0
  faultAct : Nat := 0
  clrEn : Bool := false
  clrResume : Nat := 1
  folEdge : Nat := 0
  feTicks : Nat := 100
  feLevel : Nat := 2
  oscK : F32 := 0x40800000
  oscMin : Word := 0x00010000
  oscRev : Nat := 20
  oscGap : Nat := 64
  oscLevel : Nat := 2
  /-- FOL_AUX. -/
  folAux : Nat := 0
  deriving DecidableEq, Repr

/-- Coefficients of one channel (Table 7.13). -/
structure Coefs where
  banks : Vector (Vector Word 16) 4 := Vector.replicate 4 defaultBank
  shared : Vector Word 16 := Vector.replicate 16 0
  outer : Vector Word 32 := defaultOuterK
  deriving DecidableEq, Repr

/-- State slots of one channel (Table 7.14). -/
structure Slots where
  s : Vector Word 16 := Vector.replicate 16 0
  outerS : Vector Word 16 := Vector.replicate 16 0
  t : Vector Word 8 := Vector.replicate 8 0
  outerT : Vector Word 8 := Vector.replicate 8 0
  deriving DecidableEq, Repr

/-- The notch design of one bank (Table 7.13). -/
structure Notch where
  f : F32 := 0x447A0000
  q : F32 := 0x3F800000
  depth : F32 := 0
  state : Nat := 0
  deriving DecidableEq, Repr

/-- What the engine keeps for one channel between ticks (R259 to R293). -/
structure LoopSt where
  ovrCount : Counter := {}
  ovrRun : Nat := 0
  lastCycles : Nat := 0
  lastStart : Nat := 0
  /-- FLAGS of the last completed run (LEC_FLAGS). -/
  flags : Byte := 0
  /-- The previous tick's code was limited (SAT of R264). -/
  sat : Bool := false
  /-- The next inner run follows a bumpless entry (FIRST of R281). -/
  first : Bool := false
  firstOuter : Bool := false
  /-- The range switched at the latest tick boundary (RSW). -/
  rsw : Bool := false
  /-- Cycles of occasional steps that ran on their own in this tick (R259, R293). -/
  extra : Nat := 0
  /-- The occasional steps that have run in this tick (R259). -/
  stepsRun : Nat := 0
  /-- An outer step completed in this tick (OUTER of Table 7.3). -/
  outerRan : Bool := false
  /-- An outer step falls due in this tick, and ticks until the next (R286). -/
  outerDue : Bool := false
  outerLeft : Nat := 0
  /-- The outer output of the last outer step, a fraction of the forced full scale (R286). -/
  outerOut : Word := 0
  /-- The number of the inner program of the latest run, 0 for none (R282). -/
  lastProg : Byte := 0
  /-- Ticks until the LAC update falls due; 0 for none (R334). -/
  lacLeft : Nat := 0
  lacDue : Bool := false
  tuneDue : Bool := false
  /-- The samples of the latest tick wait for their run (R259). -/
  sampled : Bool := false
  deriving DecidableEq, Repr

/-- The datapath of an engine during a run (R261, R268, R269). -/
structure Run where
  /-- The slot of the pair whose program runs: false = even channel. -/
  odd : Bool := false
  outer : Bool := false
  t : Vector Word 8 := Vector.replicate 8 0
  s : Vector Word 16 := Vector.replicate 16 0
  acc : BitVec 64 := 0
  out : Word := 0
  flags : Byte := 0
  pc : Nat := 0
  cycles : Nat := 0
  ended : Bool := false
  deriving DecidableEq, Repr

/-- One loop engine (R58, R257, R290). -/
structure Engine where
  nShadow : Nat := 400
  nActive : Nat := 400
  baseLoad : Nat := 0
  extraLoad : Nat := 0
  peakLoad : Nat := 0
  /-- The cycle of the tick up to which the engine has worked (R259). -/
  cycle : Nat := 0
  /-- Model time of the edge from which the tick in progress counts: its boundary, or a restart edge in it (R63). -/
  base : Nat := 0
  /-- The count of ACLK cycles since PLL lock was odd at the latest tick boundary (R341). -/
  odd : Bool := false
  /-- ACLK cycles by which restarts have lengthened the tick in progress (R63). -/
  extra : Nat := 0
  /-- REF_READY was clear, and was set, at some instant since the latest tick boundary (R345). -/
  refLow : Bool := true
  refHigh : Bool := false
  run : Run := {}
  deriving DecidableEq, Repr

/-! ### Set-point motion, supervision, TUNE and LAC (chapter 8) -/

/-- The profile generator (R299 to R302). -/
structure Profile where
  target : F32 := 0
  slewV : F32 := 0x41200000
  accelV : F32 := 0x461C4000
  jerkV : F32 := 0x4CBEBC20
  slewI : F32 := 0x3DCCCCCD
  accelI : F32 := 0x42C80000
  jerkI : F32 := 0x49742400
  p : F64 := 0
  v : F64 := 0
  a : F64 := 0
  /-- The target g that the latest tick boundary took (R299, R309). -/
  g : F64 := 0
  deriving DecidableEq, Repr

/-- The follow input (R303 to R309). -/
structure Follow where
  src : Nat := 0
  aux : Nat := 0
  scale : F32 := 0x3F800000
  offset : F32 := 0
  edge : Nat := 0
  filter : Nat := 8
  maxGap : F32 := 0x3F800000
  shape : Bool := false
  q : F64 := 0
  valid : Bool := false
  standstill : Bool := false
  edges : Counter := {}
  /-- Time stamp of the latest active edge (R306). -/
  lastEdge : Option W64 := none
  /-- Time stamp of the latest active edge before the previous boundary, and the active edges since (R306). -/
  refEdge : Option W64 := none
  edgesSince : Nat := 0
  /-- The last measured period in CCLK cycles (R308). -/
  lastPeriod : Option Nat := none
  /-- Start of the pulse in progress, and the length of the latest complete one (R307). -/
  pulseStart : Option W64 := none
  pulseLen : Option Nat := none
  /-- The calibrated result of the conversion requested at the previous boundary, in V (R304). -/
  auxValue : F32 := 0
  deriving DecidableEq, Repr

/-- The rate estimator (R310 to R313). -/
structure RateEst where
  w : Nat := 16
  rate : F32 := 0
  valid : Bool := false
  part : Bool := false
  est : Bool := false
  cmdRate : F64 := 0
  /-- The samples of the window, newest first. -/
  samples : List F32 := []
  /-- Consecutive ticks with CMD_RATE exactly 0 (R311). -/
  still : Nat := 0
  /-- The sign of the latest non-zero CMD_RATE since set-point standstill. -/
  lastSign : Int := 0
  /-- The set-point in force at the tick before. -/
  prevSp : F64 := 0
  /-- The window restarts at the next tick as at motion start (R313). -/
  restart : Bool := true
  deriving DecidableEq, Repr

/-- The following-error monitor (R314, R315). -/
structure FeMon where
  limitV : F32 := 0x3F800000
  limitI : F32 := 0x3C23D70A
  ticks : Nat := 100
  level : Nat := 2
  now_ : F32 := 0
  count : Nat := 0
  reports : Counter := {}
  /-- A clamp of the channel was tripped at some instant since the previous evaluation (R315). -/
  clampSeen : Bool := false
  deriving DecidableEq, Repr

/-- The rate estimator and the following-error monitor as they stood before the latest boundary, for a change at that
same boundary which changes what its tick forces (R311, R313). -/
structure TickMark where
  rate : RateEst := {}
  feCount : Nat := 0
  feClamp : Bool := false
  deriving DecidableEq, Repr

/-- The oscillation detector (R316 to R318). -/
structure OscDet where
  k : F32 := 0x40800000
  minTh : Word := 0x00010000
  rev : Nat := 20
  gap : Nat := 64
  level : Nat := 2
  /-- The noise floor nf in units of full scale, binary64 (R316); OSC_FLOOR shows it. -/
  floor : F64 := 0
  count : Nat := 0
  reports : Counter := {}
  /-- e(k-1) and e(k-2). -/
  e1 : Int := 0
  e2 : Int := 0
  /-- Ticks still to skip (R318). -/
  skip : Nat := 0
  /-- Sign of bp at the latest significant tick (R317). -/
  lastSig : Int := 0
  /-- Ticks since the latest qualifying reversal, saturating. -/
  since : Nat := 0
  deriving DecidableEq, Repr

/-- The hold of the set-point source (R319, R320). -/
structure Hold where
  /-- SRC_HELD: 0 none, 1 following error, 2 oscillation. -/
  held : Nat := 0
  /-- A hold or a release that acts at the next tick boundary. -/
  due : Nat := 0
  resumeDue : Bool := false
  deriving DecidableEq, Repr

/-- TUNE injection and capture (R321 to R323). -/
structure Tune where
  wave : Nat := 0
  amp : Word := 0x00400000
  half : Nat := 32
  seg : Nat := 64
  segs : Nat := 16
  ring : Nat := 0xFFFF
  done : Bool := false
  segsDone : Counter := {}
  lost : Counter := {}
  /-- Tick number within TUNE. -/
  tick : Nat := 0
  /-- Segment number. -/
  segNo : Nat := 0
  /-- The injection sample of the present tick. -/
  inject : Word := 0
  /-- The records of the half being filled, oldest first, each four words. -/
  buffer : List (List Word) := []
  /-- The last complete half, as the capture buffer shows it. -/
  half0 : List (List Word) := []
  half1 : List (List Word) := []
  /-- Which half is being filled. -/
  filling : Bool := false
  lfsr : BitVec 12 := 0
  /-- TUNE_AMP and TUNE_SEGS as the latest tick boundary took them (R110). -/
  ampNow : Word := 0x00400000
  segsNow : Nat := 16
  deriving DecidableEq, Repr

/-- LAC_STATE (Table 8.4). -/
inductive LacState where
  | inactive | held | adapting | frozen
  deriving DecidableEq, Repr

/-- The bases and factors of one bank (R325). -/
structure LacBank where
  kpB : F64 := 0x3FD0000000000000
  kiB : F64 := 0x3F847AE140000000
  fB : F64 := 0x408F400000000000
  fP : F64 := 0x3FF0000000000000
  fI : F64 := 0x3FF0000000000000
  fF : F64 := 0x3FF0000000000000
  deriving DecidableEq, Repr

/-- Load-adaptive compensation of one channel (R324 to R336). -/
structure Lac where
  en : Bool := false
  amp : Nat := 4
  alpha : F32 := 0x3E800000
  state : LacState := .inactive
  frames : Counter := {}
  discards : Counter := {}
  freezeWhy : Nat := 0
  cEst : F32 := 0
  gEst : F32 := 0
  tauEst : F32 := 0
  g0 : F32 := 0
  fRes : F32 := 0
  envHit : BitVec 3 := 0
  banks : Vector LacBank 4 := Vector.replicate 4 {}
  lfsr : BitVec 12 := 0
  /-- The chips of this tick and the 31 before it: bit j is the chip of tick k - j. -/
  chips : BitVec 32 := 0
  /-- Rv and Ri of each lag, binary64 (R329). -/
  sumV : Vector F64 32 := Vector.replicate 32 0
  sumI : Vector F64 32 := Vector.replicate 32 0
  frameTick : Nat := 0
  frameBad : Bool := false
  /-- Target factors of the last plausible frame, waiting for the update (R333, R334). -/
  targets : Option (F64 × F64 × F64) := none
  /-- LAC_REVERT or R335 acts at the next tick boundary. -/
  revertDue : Bool := false
  freezeDue : Bool := false
  /-- LAC_EN was cleared: the slots are kept at the next tick boundary (R110, R327). -/
  keepDue : Bool := false
  /-- LAC_AMP and LAC_ALPHA as the latest tick boundary took them (R110). -/
  ampNow : Nat := 4
  alphaNow : F32 := 0x3E800000
  deriving DecidableEq, Repr

/-! ### Measurement converters (chapter 9) -/

/-- One calibration set as R375 stores it: OFS in units of 2^-31 of full scale, GAIN in Q2.30. -/
structure CalSet where
  ofs : Int := 0
  gain : Int := 0x40000000
  /-- The F32 values last written or computed, as the objects read them. -/
  ofsF : F32 := 0
  gainF : F32 := 0x3F800000
  deriving DecidableEq, Repr

/-- CAL_STATUS [2:0] (Table 9.9). -/
inductive CalStatus where
  | idle | capturing | aborted | outOfRange | applied
  deriving DecidableEq, Repr

/-- Main converters and calibration of one channel (R341 to R371). -/
structure Conv where
  rawA : Int := 0
  rawB : Int := 0
  calA : Int := 0
  calB : Int := 0
  /-- The legs that were commanded closed in the latest window: the range that carried the loop, and the other leg of a
  make phase (R400). -/
  legA : Nat := 0
  legB : Option Nat := none
  /-- ADC B is on the voltage input (R22, R347). -/
  meterIl : Bool := false
  /-- SAT and REF_NR of the latest window (CONV_STAT). -/
  sat : Bool := false
  refNr : Bool := false
  satCount : Counter := {}
  calValid : BitVec 6 := 0
  sets : Vector CalSet 6 := Vector.replicate 6 {}
  calSet : Nat := 0
  calTicks : Nat := 1024
  trueZero : F32 := 0
  trueFull : F32 := 0
  calStatus : CalStatus := .idle
  /-- The held means, binary64 in units of d (R368). -/
  zeroMean : Option F64 := none
  fullMean : Option F64 := none
  /-- The point being captured, its windows, those still to come, the sum so far, and whether its first window has
  opened (R368). -/
  capFull : Bool := false
  capTicks : Nat := 0
  capLeft : Nat := 0
  capSum : Int := 0
  capOpen : Bool := false
  deriving DecidableEq, Repr

/-- The stream of main tick records of one channel (R365). -/
structure Stream where
  ring : Nat := 0xFFFF
  div : Nat := 1
  align : Nat := 0
  /-- Ticks until the next record. -/
  left : Nat := 0
  /-- Tick number modulo 65,536 (Table 9.3). -/
  tickNo : W16 := 0
  deriving DecidableEq, Repr

/-- CAP_STATE (Table 9.9). -/
inductive CapState where
  | idle | armed | capturing | copying
  deriving DecidableEq, Repr

/-- Burst capture of one channel (R348, R349). -/
structure Capture where
  ring : Nat := 0xFFFF
  len : Nat := 4096
  src : Nat := 0
  align : Nat := 0
  state : CapState := .idle
  missed : Counter := {}
  /-- The capture's trigger has come, and the next conversion edge starts it (R348). -/
  triggered : Bool := false
  /-- ADC B's arrangement as the capture started, and whether it has changed since (R347, R348). -/
  meter : Bool := false
  mixed : Bool := false
  /-- REF_READY was clear, and was set, at some instant since the capture started (Table 9.2). -/
  refLow : Bool := false
  refHigh : Bool := false
  /-- The codes stored and not yet handed to the ring, oldest first, and the index of the next. -/
  codes : List CapCode := []
  index : Nat := 0
  deriving DecidableEq, Repr

/-- The aux configuration that is shadowed (R379). -/
structure AuxCfg where
  mask : BitVec 24 := 0
  delay : Nat := 0
  policy : Nat := 0
  pwgSel : Nat := 0
  settle : Nat := 0
  ring : Nat := 0xFFFF
  rec16 : Bool := false
  align : Nat := 0
  diff : Byte := 0
  pair : Nat := 0
  deriving DecidableEq, Repr

/-- Who asked for an urgent conversion (R358). -/
inductive UrgSrc where
  | chan (n : Ch)
  | host
  deriving DecidableEq, Repr

/-- A pending urgent request (R358). -/
structure UrgReq where
  src : UrgSrc
  input : Nat
  /-- Model time of the request, for the order of requests of one edge (R359). -/
  at_ : Nat
  deriving DecidableEq, Repr

/-- What a slot converts (R351, R353, R359): an input, alone or joined with the next one, for a scan or for an urgent
request, and the number of the last scan started. -/
structure AuxJob where
  input : Nat
  diff : Bool
  req : Option UrgSrc
  first : Bool
  latched : Bool
  scanNo : Nat
  /-- REF_READY was clear, and was set, at some instant since the slot started (Table 9.2). -/
  refLow : Bool
  refHigh : Bool
  /-- What the block itself presents to the converter at inputs 21 to 23, as the slot started (Table 9.1). -/
  known : Option W16
  deriving DecidableEq, Repr

/-- SCAN_STATE (Table 9.10). -/
inductive ScanState where
  | idle | delay | scanning
  deriving DecidableEq, Repr

/-- The latest conversion of an aux input (Table 9.12). -/
structure AuxLast where
  code : W16 := 0
  refNr : Bool := false
  diff : Bool := false
  done : Bool := false
  deriving DecidableEq, Repr

/-- The aux converter (R350 to R361, R378, R379). -/
structure Aux where
  shadow : AuxCfg := {}
  active : AuxCfg := {}
  src : Nat := 0
  period : Nat := 40000
  periodActive : Nat := 40000
  state : ScanState := .idle
  /-- Entries of the running scan not yet converted, in order. -/
  todo : List Nat := []
  firstDue : Bool := false
  latched : Bool := false
  /-- SCAN_STOP ends the scan at the end of the slot in progress (R357). -/
  stopDue : Bool := false
  latchPending : Bool := false
  urgent : List UrgReq := []
  slot : Option AuxJob := none
  /-- A slot whose sample is taken and whose result is still to come. -/
  inFlight : List AuxJob := []
  last : Vector AuxLast 24 := Vector.replicate 24 {}
  urgResult : W16 := 0
  urgDiff : Bool := false
  urgDone : Bool := false
  urgInput : BitVec 5 := 0
  scans : Counter := {}
  missedTrig : Counter := {}
  urgentCount : Counter := {}
  urgLate : Counter := {}
  deriving DecidableEq, Repr

/-- How a follow channel stands with its urgent requests (R360). -/
structure AuxFollow where
  /-- A request was issued at the previous boundary. -/
  issued : Bool := false
  /-- A conversion this channel requested has completed since it began to follow. -/
  everDone : Bool := false
  /-- The V value used at the latest tick (R360). -/
  used : F32 := 0
  deriving DecidableEq, Repr

/-- The reference monitor and the TSF's calibration-engine registers (Table 9.13): REF_MON, CALE_CTRL, CALE_TRUE_Z and
CALE_TRUE_F; CALE_MEAN_Z and CALE_MEAN_F show the held means of the channel that CALE_CTRL names. -/
structure RefMon where
  mon : W16 := 0
  ctrl : Word := 0
  trueZ : Word := 0
  trueF : Word := 0
  deriving DecidableEq, Repr

/-! ### Outputs, clamps, ranges and triggers (chapter 10) -/

/-- What an agent holds on DACn_OUT besides the mode and the queue (Table 10.2). -/
structure Out where
  faultAct : Nat := 0
  clrEn : Bool := false
  clrResume : Nat := 1
  /-- The fault action in force while the channel is in OFF: the clear code is held (R389). -/
  faultHold : Bool := false
  /-- CLR_n holds the channel (R387). -/
  clrHeld : Bool := false
  /-- After CLR_n's release with CLR_RESUME 0, until the next update instant (R388). -/
  clrKeep : Bool := false
  /-- A fast step fired and no update instant has come since (Table 10.2, row 6). -/
  fastHeld : Bool := false
  /-- Enabling drives ZERO_CODE, or the hold tick drives LAST_CODE (Table 10.2, row 5). -/
  enabling : Bool := false
  holdTick : Bool := false
  /-- The code the queue last gave the DAC. -/
  code : Nat := 0
  queue : List Nat := []
  queueLevel : Nat := 0
  complV : F32 := 0x447A0000
  complI : F32 := 0x42C80000
  clampMode : Nat := 1
  clampBackoff : Nat := 4096
  clampHyst : Nat := 8
  clampRel : Nat := 16
  clampHold : F32 := 0x3D4CCCCD
  pstDrop : BitVec 2 := 0
  deriving DecidableEq, Repr

/-- The clamps of one channel (R391 to R396). -/
structure Clamp where
  trippedV : Bool := false
  trippedI : Bool := false
  /-- Comparator outputs held by an injection (Table 15.9). -/
  injV : Bool := false
  injI : Bool := false
  /-- A clamp was tripped at some instant of the present window. -/
  seen : Bool := false
  armed : Bool := false
  thrV : Nat := 1023
  thrI : Nat := 1023
  code : Nat := 0
  pstDropped : Bool := false
  trips : Counter := {}
  /-- Consecutive tick samples below the release level (R395). -/
  relV : Nat := 0
  relI : Nat := 0
  deriving DecidableEq, Repr

/-- RNG_PHASE (Table 10.6). -/
inductive RngPhase where
  | idle | make | break_ | hold
  deriving DecidableEq, Repr

/-- Ranging of one channel (R397 to R407). -/
structure Ranging where
  req : Option Nat := none
  active : Option Nat := none
  /-- A change is accepted and runs (R397), and the range it goes to. -/
  target : Option Nat := none
  /-- RANGE_CHANGING: from the request until the switch tick. -/
  changing : Bool := false
  phase : RngPhase := .idle
  method : Nat := 0
  ff : Bool := true
  changes : Counter := {}
  lastEdge : W64 := 0
  bridgeErr : F32 := 0
  /-- The range whose leg is closed besides the active one. -/
  oldLeg : Option Nat := none
  iBr : F32 := 0
  vBr : F32 := 0
  /-- The bridge runs (R401). -/
  bridge : Bool := false
  /-- Ticks left in the phase (RNG_STAT). -/
  left : Nat := 0
  /-- The sweep step's request waits for a running change (R397). -/
  stepReq : Option Nat := none
  deriving DecidableEq, Repr

/-- FAST_STATE (Table 10.6). -/
inductive FastState where
  | idle | armed | fired
  deriving DecidableEq, Repr

/-- The fast step of one channel (R408 to R410). -/
structure Fast where
  src : Nat := 0
  code : Option Nat := none
  sp : F32 := 0
  state : FastState := .idle
  /-- The code of the latest fired step, which the ball holds to the next update instant (Table 10.2). -/
  held : Nat := 0
  /-- Steps fired since the latest tick boundary, newest first: the staged set-point, and whether it goes to SP_I (R410). -/
  due : List (F32 × Bool) := []
  fires : Counter := {}
  deriving DecidableEq, Repr

/-- A trigger input (R411). -/
structure TrigIn where
  pol : Bool := false
  filt : Nat := 0
  /-- The level that the latest active edge left, and the model time of that edge, if one came. -/
  live : Bool := false
  edgeAt : Option Nat := none
  count : Counter := {}
  deriving DecidableEq, Repr

/-- A trigger output (R412). -/
structure TrigOut where
  src : Nat := 0
  arg : Nat := 0
  level : Bool := false
  pulsing : Bool := false
  deriving DecidableEq, Repr

/-- A pulse-width generator (R413). -/
structure Pwg where
  run : Bool := false
  period : Nat := 40000
  periodActive : Nat := 40000
  width : Nat := 0
  widthActive : Nat := 0
  out : Bool := false
  deriving DecidableEq, Repr

/-- The common output and trigger registers (Table 10.8). -/
structure Trig where
  /-- The level of CLR_n. -/
  clrN : Bool := true
  clrCount : Counter := {}
  ins : Vector TrigIn 4 := Vector.replicate 4 {}
  outs : Vector TrigOut 4 := Vector.replicate 4 {}
  pwgs : Vector Pwg 4 := Vector.replicate 4 {}
  deriving DecidableEq, Repr

/-! ### The credit arbiter (chapter 12) -/

/-- PRIO, WEIGHT and LIMIT of one requester (Table 12.6). -/
structure ReqCfg where
  high : Bool
  weight : Nat
  limit : Nat
  deriving DecidableEq, Repr

/-- One requester of an arbitrated resource (R462 to R472). -/
structure Requesting where
  cfg : ReqCfg
  active : ReqCfg
  credit : Int
  /-- Grants in the present window (R471). -/
  granted : Nat := 0
  masked : Bool := false
  wait : Nat := 0
  /-- Position among the forced requesters, 0 for not forced (R472). -/
  forced : Nat := 0
  grants : Counter := {}
  events : Counter := {}
  maxWait : Nat := 0
  /-- Cycles of the grant in progress that its wait counter has counted (R472). -/
  counted : Nat := 0
  deriving DecidableEq, Repr

/-- A requester with the defaults of Tables 12.1 to 12.3 (R475). -/
def Requesting.default (high : Bool) (weight limit : Nat) : Requesting :=
  { cfg := ⟨high, weight, limit⟩, active := ⟨high, weight, limit⟩, credit := weight }

/-- A committed snapshot that waits for the window boundary (R473). -/
structure Snapshot where
  window : Nat
  cfgs : List ReqCfg
  deriving DecidableEq, Repr

/-- One arbitrated resource (R461 to R481). -/
structure Arb where
  window : Nat := 256
  windowActive : Nat := 256
  /-- The resource's requesters, q from 0. -/
  reqs : List Requesting
  /-- The owner of the grant in progress, its cycles, and the others that requested when it began. -/
  owner : Option Nat := none
  cost : Nat := 0
  waiters : List Nat := []
  parked : Option Nat := none
  pending : Option Snapshot := none
  /-- COMMIT_STATE: 0 none since reset, 1 pending, 2 applied, 3 refused. -/
  commitState : Nat := 0
  /-- The number given to the latest requester that became forced. -/
  forcedNo : Nat := 0
  deriving DecidableEq, Repr

/-- The pool write port's requesters (Table 12.1). -/
def poolReqs : List Requesting :=
  List.replicate 8 (.default true 5 5) ++
    [.default true 24 12, .default true 4 4, .default false 48 1, .default false 16 1, .default false 32 1]

/-- The Ronko transmit scheduler's requesters (Table 12.2). -/
def ronkoReqs : List Requesting :=
  [.default true 64 64, .default true 64 256, .default false 32 1024, .default false 96 4096]

/-- The FSP's requesters (Table 12.3). -/
def fspReqs : List Requesting :=
  [.default true 64 256, .default true 128 128, .default false 64 4096]

/-! ### The Ronko link (chapter 13) -/

/-- LINK_STATE (Table 13.11). -/
inductive LinkState where
  | disabled | down | train | align | active | miswired | tooLong
  deriving DecidableEq, Repr

/-- A frame a transmitter keeps until it is acknowledged (R498): its bytes without the CRC, and the attempts made. -/
structure Kept where
  seq : Byte
  bytes : List Byte
  attempts : Nat
  /-- It waits to be sent again, for a credit (R498, R499). -/
  again : Bool := false
  deriving DecidableEq, Repr

/-- One Ronko port (R482 to R502, Table 13.12). -/
structure PortSt where
  link : LinkState := .disabled
  en : Bool := true
  freeze : Bool := false
  asym : F32 := 0
  signal : Bool := false
  /-- Role of the peer from HELLO: 1 up, 2 down, 0 none heard. -/
  peerRole : Nat := 0
  /-- One-way delay in halves of 1/128 cycle (PORT_DELAY). -/
  delay : Int := 0
  /-- The exchange in progress in ALIGN, its REQ_NO and t1, and how many have been made there (R487, R509). -/
  alignOpen : Option (W16 × W64) := none
  aligned : Nat := 0
  eqPeak : BitVec 4 := 0
  dfe1 : Byte := 0
  dfe2 : Byte := 0
  dfe3 : Byte := 0
  eqDelayPs : Byte := 0
  /-- The equaliser has taken settings since training began; and the model times at which each DFE tap and the peaking setting last
  moved (R490). -/
  eqTrained : Bool := false
  tapAt : Vector Nat 3 := Vector.replicate 3 0
  peakAt : Nat := 0
  eyeMv : W16 := 0
  eyeWidth : W16 := 0
  /-- A LINK_MARGIN message was sent and both values have not risen again (R491). -/
  marginLow : Bool := false
  codeErrors : Counter := {}
  crcErrors : Counter := {}
  retries : Counter := {}
  linkFails : Counter := {}
  linkDowns : Counter := {}
  txFrames : Counter := {}
  rxFrames : Counter := {}
  /-- Next LSEQ and XSEQ to send, and expected (R497). -/
  txSeq : Byte := 0
  txXseq : Byte := 0
  rxSeq : Byte := 0
  rxXseq : Byte := 0
  /-- A NAK or XNAK was sent and no frame has been accepted since (R497). -/
  nakSent : Bool := false
  xnakSent : Bool := false
  credits : Nat := 0
  xcredits : Nat := 0
  kept : List Kept := []
  xkept : List Kept := []
  /-- Forwarded frames that wait for this output, oldest first, each with the port it came from (R501, R502). -/
  outX : List (Port × List Byte) := []
  outFwd : List (Port × List Byte) := []
  /-- The port that the last forwarded normal frame came from, and how many were sent in a row while a local frame waited
  (R502). -/
  lastIn : Option Port := none
  fwdRow : Nat := 0
  /-- The subtree below this port: first ID and count (R500). -/
  subFirst : Nat := 0
  subCount : Nat := 0
  deriving DecidableEq, Repr

/-- ENUM_STATE (Table 13.11). -/
inductive EnumState where
  | none | running | ready | rootless | unadmitted
  deriving DecidableEq, Repr

/-- The node and the enumeration it takes part in (R482, R500 to R507). -/
structure Node where
  id : Option W16 := none
  level : Nat := 0
  enum : EnumState := .none
  gen : W16 := 0
  nodeCount : Nat := 0
  unadmitted : Nat := 0
  topoChanges : Counter := {}
  /-- The ID offered by ENUM_ASSIGN, the next ID to give, the unadmitted total so far, and the ports still to visit
  (R504). -/
  offered : Nat := 0
  admitIt : Bool := true
  nextId : Nat := 0
  total : Nat := 0
  todo : List Port := []
  waiting : Option Port := none
  /-- An ENUM_ASSIGN has come since RKU became ACTIVE; and the 1 s since then is not over without one (R507). -/
  assigned : Bool := false
  rootlessDue : Bool := false
  deriving DecidableEq, Repr

/-- TIME_STATE (Table 13.8). -/
inductive TimeState where
  | root | holdover | acquire | track | locked
  deriving DecidableEq, Repr

/-- Time alignment (R508 to R513). -/
structure TimeSt where
  state : TimeState := .root
  /-- RKU has been ACTIVE since reset (Table 13.8). -/
  wasChild : Bool := false
  parentLocked : Bool := false
  /-- OFFSET and PATH_DELAY of the latest exchange in halves of 1/128 cycle. -/
  offset : Int := 0
  delay : Int := 0
  /-- freq of R510, binary64, as a fraction. -/
  freq : F64 := 0
  good : Nat := 0
  syncPeriod : F32 := 0x3A83126F
  stepLimit : F32 := 0x358637BD
  reqNo : W16 := 0
  /-- SYNC_PERIOD as the exchange in progress has it (Table 13.11). -/
  periodNow : F32 := 0x3A83126F
  /-- The exchange in progress: its REQ_NO, and t1 once TIME_REQ has gone out (R509). -/
  open_ : Option (W16 × Option W64) := none
  exchanges : Counter := {}
  fails : Counter := {}
  steps : Counter := {}
  lockLosses : Counter := {}
  deriving DecidableEq, Repr

/-- A scheduled trigger (R515). -/
structure SchedTrig where
  target : W64
  id : W16
  origin : W16
  addr : W16
  gmask : Byte
  chmask : Byte
  deriving DecidableEq, Repr

/-- Scheduled triggers (R514 to R521). -/
structure Triggers where
  /-- TRIG_MIN_LEAD in whole µs (Table 13.13). -/
  leadUs : Nat := 200
  groups : Byte := 0x01
  triginIssue : Nat := 0
  template : List Byte := List.replicate 16 0
  trigW : Vector Word 4 := Vector.replicate 4 0
  trigResult : Byte := 0
  /-- The issue queue, each trigger with the ports it still goes out on, and the pending queue, in order (R516, R519). -/
  issue : List (SchedTrig × List Port) := []
  pending : List SchedTrig := []
  exec : Counter := {}
  late : Counter := {}
  dropped : Counter := {}
  unaligned : Counter := {}
  lastId : W16 := 0
  lastTbc : W64 := 0
  deriving DecidableEq, Repr

/-- A receive slot of the tunnel (R523). -/
structure RxSlot where
  /-- The slot is being filled: the KIND and the number of segments seen. -/
  filling : Bool := false
  full : Bool := false
  kind : Nat := 0
  src : W16 := 0
  tag : W16 := 0
  entry : W16 := 0
  hostIp : Word := 0
  hostPort : W16 := 0
  reason : Byte := 0
  segs : Nat := 0
  segCount : Nat := 0
  totalLen : Nat := 0
  data : List Byte := []
  deriving DecidableEq, Repr

/-- A transmit slot of the tunnel (Table 13.13). -/
structure TxSlot where
  d0 : BitVec 18 := 0
  d1 : Word := 0
  d2 : Word := 0
  d3 : BitVec 28 := 0
  /-- STATE: 0 idle, 1 sending, 2 done, 3 failed. -/
  state : Nat := 0
  /-- Segments still to send, as frame payloads. -/
  segs : List (List Byte) := []
  deriving DecidableEq, Repr

/-- The tunnel (R522 to R525). -/
structure Tunnel where
  rxBase : BitVec 12 := 0
  rxEn : Bool := false
  rx : Vector RxSlot 8 := Vector.replicate 8 {}
  txBase : BitVec 12 := 0
  tx : Vector TxSlot 4 := Vector.replicate 4 {}
  /-- Datagrams of Myvex that wait for a transmit slot, oldest first, with the registers that each one's slot is given. -/
  waiting : List (TxSlot × List Byte) := []
  txCount : Counter := {}
  rxCount : Counter := {}
  nackTx : Counter := {}
  nackRx : Counter := {}
  reasmDrops : Counter := {}
  deriving DecidableEq, Repr

/-- A frame of the supervisor that waits for its grant; a TIME frame is an express frame (R465). -/
structure SupFrame where
  port : Port
  express : Bool
  bytes : List Byte
  deriving DecidableEq, Repr

/-- The Ronko link (chapter 13). -/
structure Ronko where
  ports : Vector PortSt 3 := Vector.replicate 3 {}
  node : Node := {}
  time : TimeSt := {}
  trig : Triggers := {}
  tun : Tunnel := {}
  /-- Enumeration and management frames that wait for their grant, each with its port (Table 12.2). -/
  sup : List SupFrame := []
  deriving DecidableEq, Repr

/-! ### The front-end serial port and the management port (chapter 14) -/

/-- One select of the FSP (R532, R534, R542). -/
structure Select where
  div : Nat := 8
  mode : Nat := 0
  lead : Nat := 4
  lag : Nat := 4
  inter : Nat := 8
  frdyEn : Bool := false
  frdyTmo : Nat := 100
  deriving DecidableEq, Repr

/-- MASTER (Table 14.15). -/
inductive BusMaster where
  | released | master | waiting
  deriving DecidableEq, Repr

/-- A command-queue entry that runs (R538 to R545). -/
structure Entry where
  sel : Fin 4
  hold : Bool
  crcTx : Bool
  crcRx : Bool
  resp : Bool
  wlen : Nat
  retries : Nat
  tag : W16
  len : Nat
  tx : List Byte
  rxSkip : Nat
  rxBytes : Nat
  fill : Byte
  attempts : Nat
  /-- The FSP waits for FRDY before a word (R542). -/
  frdyWait : Bool
  /-- The word that it waits for. -/
  word : Nat := 0
  /-- Model time of the start of the first attempt. -/
  began : Nat := 0
  /-- BCLK cycles from the start of the first attempt to the end of the latest one (R544). -/
  elapsed : Nat
  /-- The select's configuration as sampled when the grant began (R535). -/
  cfg : Select
  deriving DecidableEq, Repr

/-- One row of the protection opcode table (Table 14.7): opcode, class, log2 of the span. -/
structure ProtOp where
  opcode : Byte
  cls : Nat
  span : Nat
  deriving DecidableEq, Repr

/-- The default protection opcodes (Table 14.7). -/
def defaultProtOps : List ProtOp :=
  [⟨0x02, 1, 8⟩, ⟨0x20, 1, 12⟩, ⟨0x52, 1, 15⟩, ⟨0xD8, 1, 16⟩, ⟨0x12, 2, 8⟩, ⟨0x21, 2, 12⟩, ⟨0x5C, 2, 15⟩,
   ⟨0xDC, 2, 16⟩, ⟨0x60, 3, 0⟩, ⟨0xC7, 3, 0⟩, ⟨0x01, 3, 0⟩, ⟨0x31, 3, 0⟩, ⟨0x42, 3, 0⟩, ⟨0x44, 3, 0⟩,
   ⟨0xB7, 3, 0⟩, ⟨0x99, 3, 0⟩]

/-- The front-end serial port (R531 to R556). -/
structure Fsp where
  master : BusMaster := .master
  modeFault : Bool := false
  mfAuto : Bool := true
  mfQuiet : Nat := 100
  cmdRing : Nat := 0xFFFF
  respRing : Nat := 0xFFFF
  /-- A CMD_RING or RESP_RING written while an entry runs, which takes effect after it (R537). -/
  cmdRingNext : Option Nat := none
  respRingNext : Option Nat := none
  /-- log2 of FLASH_SIZE. -/
  flashLog : Nat := 22
  sels : Vector Select 4 := #v[{ div := 4, lead := 2, lag := 2, inter := 4 }, {}, {}, {}]
  protOps : List ProtOp := defaultProtOps
  statusCmd : Byte := 0x05
  busyBit : BitVec 3 := 0
  /-- A release waits for the grant in progress (R554). -/
  releaseDue : Bool := false
  /-- The flash may be in continuous read (R549, R556). -/
  contRead : Bool := false
  /-- The latest XIP fill left the flash in continuous read, and nothing has come between (R548). -/
  inCont : Bool := false
  busyPend : Bool := false
  /-- The level at which FSCK idles is high (R533). -/
  sckHigh : Bool := false
  entry : Option Entry := none
  /-- The grant of CMDQ in progress has had its entry (R467). -/
  cmdServed : Bool := false
  /-- The response of a completed entry that its ring has not taken yet (R435, R541). -/
  response : List (List Byte) := []
  entries : Counter := {}
  retries : Counter := {}
  fails : Counter := {}
  modeFaults : Counter := {}
  protBlocks : Counter := {}
  busyPolls : Counter := {}
  deriving DecidableEq, Repr

/-- Execute-in-place and the prefetch buffer (R546 to R551). -/
structure Xip where
  cont : Bool := false
  cmd : Byte := 0x0B
  contMode : Byte := 0xA0
  dummy : BitVec 4 := 0
  addr4 : Bool := false
  base : Nat := 0
  size : Nat := 0
  prefetchEn : Bool := true
  /-- Line numbers (flash offset / 32) held valid, most recently used first, at most 4 (R547). -/
  lines : List Nat := []
  /-- The line a demand miss waits for, and the line of a queued or running prefetch. -/
  miss : Option Nat := none
  prefetch : Option Nat := none
  /-- The fill in progress, if one has been granted. -/
  filling : Option Nat := none
  hits : Counter := {}
  misses : Counter := {}
  deriving DecidableEq, Repr

/-- A reply as the MGP holds it (Table 14.12). -/
structure Reply where
  rhdr : Byte := 0
  code : Byte := 0
  dtype : Byte := 0
  epoch : W16 := 0
  data : List Byte := []
  deriving DecidableEq, Repr

/-- A word in the stream buffer, and how it will be marked (R574, R576). -/
structure StreamWord where
  word : Word
  first : Bool
  mark : Bool
  loss : Bool
  index : Nat
  deriving DecidableEq, Repr

/-- The management port (R557 to R580). -/
structure Mgp where
  held : Reply := {}
  /-- The request the TSF is executing: its header byte and its bytes (R564). -/
  executing : Option (List Byte) := none
  /-- The reply staged by the executing request, complete but not yet published (R566). -/
  staged : Option Reply := none
  /-- The page of the FLASH_WRITE that the TSF executes is programmed, and its read-back is to come (R572). -/
  programmed : Bool := false
  inFrame : Bool := false
  streaming : Bool := false
  /-- The items that the frame in progress has carried (R575). -/
  items : Nat := 0
  /-- BAD of the next status byte (R562). -/
  bad : Bool := false
  /-- The status byte formed at the latest fall of MCS_n (R562). -/
  status : Byte := 0
  alive : BitVec 4 := 0
  /-- A good frame has come since the AON reset, so that a next one can advance (R568). -/
  aliveSeen : Bool := false
  /-- Model time of the latest advance (R568). -/
  aliveAt : Option Nat := none
  /-- Model times of the latest bad frames, newest first, at most 17 (R192). -/
  badTimes : List Nat := []
  streamRing : Nat := 0xFFFF
  buffer : List StreamWord := []
  tapLoss : Bool := false
  seq : Byte := 0
  prev : StreamWord := { word := 0, first := false, mark := false, loss := false, index := 0 }
  frames : Counter := {}
  badFrames : Counter := {}
  repeats : Counter := {}
  busyIgnored : Counter := {}
  underruns : Counter := {}
  streamLost : Counter := {}
  deriving DecidableEq, Repr

/-! ### The whole state -/

/-- One channel (chapters 1, 6 to 11). -/
structure Channel where
  decl : Decl := {}
  last : Last := {}
  lim : Limits := defaultLimits
  lock : Lock := {}
  mode : ModeSt := {}
  sp : SetPoints := {}
  prog : ProgSel := {}
  coefs : Coefs := {}
  /-- Programs, timing, coefficients and set-points in force since the latest tick boundary (R110, R233, R295). -/
  actProg : ProgSel := {}
  actCoefs : Coefs := {}
  actSp : Acting := {}
  slots : Slots := {}
  notch : Vector Notch 4 := Vector.replicate 4 {}
  loop : LoopSt := {}
  prof : Profile := {}
  fol : Follow := {}
  auxFol : AuxFollow := {}
  rate : RateEst := {}
  fe : FeMon := {}
  /-- Both as they stood before the latest tick boundary. -/
  mark : TickMark := {}
  osc : OscDet := {}
  hold : Hold := {}
  tune : Tune := {}
  lac : Lac := {}
  conv : Conv := {}
  stream : Stream := {}
  cap : Capture := {}
  out : Out := {}
  clamp : Clamp := {}
  rng : Ranging := {}
  fast : Fast := {}
  sweep : Sweep := {}
  /-- Consecutive ticks above P_MAX (R170). -/
  powerCount : Nat := 0
  deriving DecidableEq, Repr

/-- The messages of the DHCP client (R136, Table 3.7). -/
inductive DhcpSend where
  | discover | renew | rebind
  deriving DecidableEq, Repr

/-- What the block last sent outward (the model's own record of it). -/
inductive Emission where
  | datagram (ip : Word) (port : W16) (bytes : List Byte)
  | ethernet (bytes : List Byte)
  | dhcp (what : DhcpSend)
  | arp (reply : Bool) (ip target : Word) (mac : BitVec 48)
  | icmp (dst : Word) (payload : List Byte)
  | frame (p : Port) (bytes : List Byte)
  | idlePair (p : Port)
  | express (p : Port) (bytes : List Byte)
  | aborted (p : Port) (bytes : List Byte)
  | linkControl (p : Port) (type value check : Byte)
  /-- Code errors sent on a port by an injection (Table 15.9). -/
  | codeErrors (p : Port) (symbols : Nat)
  /-- One assertion of a select: the bytes sent, DUMMY periods behind them, and the bytes then read (Table 14.6). -/
  | fsp (sel : Fin 4) (bytes : List Byte) (dummy : Nat := 0) (read : Nat := 0)
  | mgp (bytes : List Byte)
  | irq
  /-- A store access fault on the application core, with the address of the write (R146). -/
  | storeFault (addr : Word)
  /-- A load access fault on the application core, with the address of the read (R546, R553). -/
  | loadFault (addr : Word)
  deriving DecidableEq, Repr

/-- The reply to the latest request (the model's own record of it). -/
structure Answer where
  code : Byte := 0
  ty : Byte := 0
  epoch : W16 := 0
  data : List Byte := []
  /-- RETRY_AFTER where the code is E_BUSY (Table 3.4). -/
  retry : Nat := 0
  deriving DecidableEq, Repr

/-- The content of a lockout record (R177). -/
structure LockoutRecord where
  streak : Nat
  lastLen : Nat
  running : Bool
  deriving DecidableEq, Repr

/-- The state of the block. -/
structure State where
  otp : Otp := {}
  ident : Identity := {}
  power : Power := {}
  dev : Device := {}
  clk : Clocks := {}
  eng : Vector Engine 4 := Vector.replicate 4 {}
  ch : Vector Channel 8 := Vector.replicate 8 {}
  trust : Trust := {}
  /-- The lockout record as the TSF last wrote it to flash (R177). -/
  lockoutRec : Option LockoutRecord := none
  rop : Rop := {}
  eth : Eth := {}
  badger : Badger := {}
  events : Events := {}
  hamper : Hamper := {}
  pool : Arb := { reqs := poolReqs }
  link : Arb := { reqs := ronkoReqs }
  bus : Arb := { reqs := fspReqs }
  aux : Aux := {}
  refMon : RefMon := {}
  trig : Trig := {}
  ronko : Ronko := {}
  fsp : Fsp := {}
  xip : Xip := {}
  mgp : Mgp := {}
  /-- Model time in CCLK periods of 1/240,000,000 s. -/
  now : Nat := 0
  answer : Answer := {}
  /-- What was sent, newest first. -/
  emit : List Emission := []
  /-- The number of the next free value. -/
  free : Nat := 0
  /-- The commands that wait, first in first out. -/
  pending : List Instr := []
  deriving DecidableEq, Repr

/-- Why the machine stops. -/
inductive Fault where
  /-- A bus access names an address in no allocated block of Table 3.16, or one not aligned to 4 bytes; raised by the register commands
  (`execRegisterWrite`, `execReg64LowRead`, `execReg64LowWrite`, `execCounterWrite`, `execStatusW1c`). Safe: the
  hardware goes on where the model stops. -/
  | noRegister
  deriving DecidableEq, Repr

/-- Why a command is refused. -/
inductive Refusal where
  /-- The command has no meaning yet; raised by no meaning, only by an arm of `exec`. Safe. -/
  | notModelled (mnemonic : String)
  deriving DecidableEq, Repr

/-- The machine right after a power-on reset (R203): the device in RESET with the AON reset held, RESET_COUNT 1,
RESET_CAUSE AON_POR with the brown-out bits of the main supplies, none of which is good yet (DESIGN CHOICE, see the
assumption log), and every other field at its documented default (R96). -/
def State.reset : State :=
  { dev := { resetCause := 0x003F, resetCount := { value := 1 } } }

end Sys2Proof.Machine
end

