-- ==== Sys2Proof/Decode.lean ====
section
/-! DEFINITION. Decoding. The rows of spec/opcode_table.json give no bits, so no word spells a command and
`decodeTableWord` answers none. The control-law instructions of R266 and R267 have words: their decoder and encoder
stand here, with the checks of R272 on one word, and so do the program BLOB of R271 and its worst-case cycle count. -/

namespace Sys2Proof

/-- The command that a word spells by the table's bits. The table gives none of its rows a bit, so there is none. -/
def decodeTableWord (_nbits _w : Nat) : Option Instr := none

/-- The control-law instructions of Table 7.5, each with the fields it uses. -/
inductive LoopInstr where
  | nop
  | mov (d a : Opnd)
  | add (d a b : Opnd)
  | sub (d a b : Opnd)
  | mul (d a b : Opnd)
  | mac (a b : Opnd)
  | msu (a b : Opnd)
  | clra
  | lda (a : Opnd)
  | sta (d : Opnd)
  | min (d a b : Opnd)
  | max (d a b : Opnd)
  | lim (d a b : Opnd)
  | abs (d a : Opnd)
  | neg (d a : Opnd)
  | shl (d a : Opnd) (imm : Byte)
  | shr (d a : Opnd) (imm : Byte)
  | div (d a b : Opnd)
  | intg (d a b : Opnd)
  | bqd (d a b : Opnd) (imm : Byte)
  | ldi (d : Opnd) (imm : Byte)
  | bneg (a : Opnd) (imm : Byte)
  | bpos (a : Opnd) (imm : Byte)
  | bz (a : Opnd) (imm : Byte)
  | bnz (a : Opnd) (imm : Byte)
  | bfs (b : Opnd) (imm : Byte)
  | jmp (imm : Byte)
  | fin
  | tunt
  deriving DecidableEq, Repr

/-- Table 7.4: every code but that of OUT is readable. -/
def Opnd.readable (o : Opnd) : Bool := o != 0x3D

/-- Table 7.4: the t and s slots, OUT and ZERO are writable. -/
def Opnd.writable (o : Opnd) : Bool := o.toNat < 0x18 || o == 0x3D || o == 0x3F

/-- The operand is an s slot. -/
def Opnd.isS (o : Opnd) : Bool := 0x08 ≤ o.toNat && o.toNat < 0x18

/-- The operand is a k slot. -/
def Opnd.isK (o : Opnd) : Bool := 0x18 ≤ o.toNat && o.toNat < 0x38

/-- The checks of R272 on the fields of one instruction; TUNT passes here and is refused by the loader alone. -/
def LoopInstr.wf : LoopInstr → Bool
  | .nop | .clra | .fin | .tunt | .jmp _ => true
  | .mov d a | .abs d a | .neg d a => d.writable && a.readable
  | .add d a b | .sub d a b | .mul d a b | .min d a b | .max d a b | .lim d a b | .div d a b =>
    d.writable && a.readable && b.readable
  | .mac a b | .msu a b => a.readable && b.readable
  | .lda a => a.readable
  | .sta d => d.writable
  | .shl d a imm | .shr d a imm => d.writable && a.readable && decide (imm.toNat ≤ 30)
  | .intg d a b => d.isS && a.readable && b.readable
  | .bqd d a b imm =>
    d.writable && a.readable && b.isK && decide (b.toNat + 4 < 0x38) && decide (imm.toNat ≤ 14)
  | .ldi d _ => d.writable
  | .bneg a _ | .bpos a _ | .bz a _ | .bnz a _ => a.readable
  | .bfs b _ => decide (b.toNat ≤ 7)

/-- A word with the fields of R266. -/
def packLoop (op d a b : BitVec 6) (imm : Byte) : Word := op ++ d ++ a ++ b ++ imm

/-- The word of an instruction (R266, Table 7.5). A field the instruction does not use is 0. -/
def encodeLoop : LoopInstr → Word
  | .nop => packLoop 0x00 0 0 0 0
  | .mov d a => packLoop 0x01 d a 0 0
  | .add d a b => packLoop 0x02 d a b 0
  | .sub d a b => packLoop 0x03 d a b 0
  | .mul d a b => packLoop 0x04 d a b 0
  | .mac a b => packLoop 0x05 0 a b 0
  | .msu a b => packLoop 0x06 0 a b 0
  | .clra => packLoop 0x07 0 0 0 0
  | .lda a => packLoop 0x08 0 a 0 0
  | .sta d => packLoop 0x09 d 0 0 0
  | .min d a b => packLoop 0x0A d a b 0
  | .max d a b => packLoop 0x0B d a b 0
  | .lim d a b => packLoop 0x0C d a b 0
  | .abs d a => packLoop 0x0D d a 0 0
  | .neg d a => packLoop 0x0E d a 0 0
  | .shl d a imm => packLoop 0x0F d a 0 imm
  | .shr d a imm => packLoop 0x10 d a 0 imm
  | .div d a b => packLoop 0x11 d a b 0
  | .intg d a b => packLoop 0x12 d a b 0
  | .bqd d a b imm => packLoop 0x13 d a b imm
  | .ldi d imm => packLoop 0x14 d 0 0 imm
  | .bneg a imm => packLoop 0x18 0 a 0 imm
  | .bpos a imm => packLoop 0x19 0 a 0 imm
  | .bz a imm => packLoop 0x1A 0 a 0 imm
  | .bnz a imm => packLoop 0x1B 0 a 0 imm
  | .bfs b imm => packLoop 0x1C 0 0 b imm
  | .jmp imm => packLoop 0x1D 0 0 0 imm
  | .fin => packLoop 0x1F 0 0 0 0
  | .tunt => packLoop 0x3E 0 0 0 0

/-- The instruction whose operation code and fields a word holds, before the checks. -/
def readLoop (w : Word) : Option LoopInstr :=
  let d : Opnd := w.extractLsb' 20 6
  let a : Opnd := w.extractLsb' 14 6
  let b : Opnd := w.extractLsb' 8 6
  let imm : Byte := w.extractLsb' 0 8
  match (w.extractLsb' 26 6).toNat with
  | 0x00 => some .nop
  | 0x01 => some (.mov d a)
  | 0x02 => some (.add d a b)
  | 0x03 => some (.sub d a b)
  | 0x04 => some (.mul d a b)
  | 0x05 => some (.mac a b)
  | 0x06 => some (.msu a b)
  | 0x07 => some .clra
  | 0x08 => some (.lda a)
  | 0x09 => some (.sta d)
  | 0x0A => some (.min d a b)
  | 0x0B => some (.max d a b)
  | 0x0C => some (.lim d a b)
  | 0x0D => some (.abs d a)
  | 0x0E => some (.neg d a)
  | 0x0F => some (.shl d a imm)
  | 0x10 => some (.shr d a imm)
  | 0x11 => some (.div d a b)
  | 0x12 => some (.intg d a b)
  | 0x13 => some (.bqd d a b imm)
  | 0x14 => some (.ldi d imm)
  | 0x18 => some (.bneg a imm)
  | 0x19 => some (.bpos a imm)
  | 0x1A => some (.bz a imm)
  | 0x1B => some (.bnz a imm)
  | 0x1C => some (.bfs b imm)
  | 0x1D => some (.jmp imm)
  | 0x1F => some .fin
  | 0x3E => some .tunt
  | _ => none

/-- The instruction a word holds: its operation code is one of Table 7.5, every field the instruction does not use is
0, and its fields pass the checks of R272. -/
def decodeLoop (w : Word) : Option LoopInstr :=
  match readLoop w with
  | some i => if i.wf && encodeLoop i == w then some i else none
  | none => none

/-- The offset of a branch or jump (R267). -/
def LoopInstr.branch : LoopInstr → Option Byte
  | .bneg _ imm | .bpos _ imm | .bz _ imm | .bnz _ imm | .bfs _ imm | .jmp imm => some imm
  | _ => none

/-- The cycles of an instruction that does not branch (Table 7.5). -/
def LoopInstr.cycles : LoopInstr → Nat
  | .mul _ _ _ | .mac _ _ | .msu _ _ | .jmp _ => 2
  | .div _ _ _ => 18
  | .intg _ _ _ => 3
  | .bqd _ _ _ _ => 8
  | .tunt => 4
  | _ => 1

/-- The worst-case cycle counts w(i), w(i+1), … of R273 for a program's instructions from position i on, the count of
the position after the last one included. -/
def wcetTable : List LoopInstr → List Nat
  | [] => [1]
  | i :: rest =>
    let w := wcetTable rest
    let next := w.headD 1
    let here :=
      match i with
      | .fin => 1
      | .jmp imm => 2 + w.getD imm.toNat 1
      | _ => match i.branch with
        | some imm => Nat.max (1 + next) (2 + w.getD imm.toNat 1)
        | none => i.cycles + next
    here :: w

/-- WCET of a program (R273). -/
def wcetOf (is : List LoopInstr) : Nat := (wcetTable is).headD 1

/-- The words of an instruction area, each most significant byte first (R271). -/
def loopWords : List Byte → List Word
  | a :: b :: c :: d :: rest => be32 a b c d :: loopWords rest
  | _ => []

/-- The checks of R272 that need an instruction's position or the kind of program: a branch target at most COUNT, no
TUNT, and in a main program no biquad across k15 and k16. -/
def placeOk (main : Bool) (count pos : Nat) (i : LoopInstr) : Bool :=
  (match i.branch with | some imm => pos + 1 + imm.toNat ≤ count | none => true) &&
  (match i with
   | .tunt => false
   | .bqd _ _ b _ => !(main && b.toNat ≤ 0x18 + 15 && 0x18 + 16 ≤ b.toNat + 4)
   | _ => true)

/-- The placing checks over a whole program. -/
def placesOk (main : Bool) (count : Nat) : Nat → List LoopInstr → Bool
  | _, [] => true
  | pos, i :: rest => placeOk main count pos i && placesOk main count (pos + 1) rest

/-- The program a BLOB loads, or none where R271 and R272 reject it at step 5. -/
def decodeProgram (main : Bool) (bytes : List Byte) : Option Machine.Program :=
  match bytes with
  | count :: preset :: kind :: z0 :: m1 :: m0 :: z1 :: z2 :: code =>
    let words := loopWords code
    let is := words.filterMap decodeLoop
    if 1 ≤ count.toNat && count.toNat ≤ 96 && code.length == 4 * count.toNat && kind == (if main then 0 else 1)
        && z0 == 0 && z1 == 0 && z2 == 0 && is.length == count.toNat && placesOk main count.toNat 0 is then
      if h : preset.toNat < 16 then
        some { presetSlot := ⟨preset.toNat, h⟩, rescaleMask := be16 m1 m0, wcet := wcetOf is, words := words }
      else none
    else none
  | _ => none

end Sys2Proof
end

