-- ==== Sys2Proof/Config.lean ====
section
/-! DEFINITION. The free values and uninterpreted functions: constants without a body, so that no proof can rest on a
value the spec does not give. -/

namespace Sys2Proof

/-- The free value number `k`, 32 bits: a result the spec does not state (see the assumption log). -/
opaque Config.freeWord : Nat → BitVec 32

/-- The free value number `k`, 64 bits. -/
opaque Config.freeLong : Nat → BitVec 64

/-- The free choice number `k`, a natural number. -/
opaque Config.freeNat : Nat → Nat

/-- The bytes of an instructor record that the TSF signs, of the limits and the code verifier in it (R176): the spec gives the
record no layout. -/
opaque Config.recordBytes : Vector Limits 8 → List (BitVec 8) → List (BitVec 8)

/-- The bytes of a lockout record that the TSF signs, of its streak, the length of the last lockout and whether one runs (R177):
the spec gives the record no layout. -/
opaque Config.lockoutBytes : Nat → Nat → Bool → List (BitVec 8)

/-- The hash of Trentovar's patch key in TSF ROM (R166). -/
opaque Config.patchKeyHash : List (BitVec 8)

/-- Which of the binary64 values within one unit in the last place of the true result the TSF's sin (0), cos (1) or
power of 10 (2) gives for an argument (R277): 0 the nearest, 1 the one below it, 2 the one above it. -/
opaque Config.ulpChoice : Nat → BitVec 64 → Nat

/-- Which end of its 12 stages the LFSR of R328 puts out, of the two forms a Fibonacci LFSR of one polynomial has: true
for a shift toward the low end with the output in bit 0, false for a shift toward the high end with the output in bit 11. -/
opaque Config.lfsrLow : Bool

/-- The CCLK cycles that the ROOT frequency monitor counts in the window that closes at a model time (Table 2.2): no
command carries a good window's count. -/
opaque Config.rootCount : Nat → Nat

/-- The level of the ball TRIGINi at a model time, for a time at which no active edge came (Table 10.8). -/
opaque Config.triginLevel : Nat → Nat → Bool

/-- The levels of the four strap balls at a model time (Table 5.7). -/
opaque Config.strapLevels : Nat → BitVec 4

/-- The physical page that ring `r` was given as the `k`-th page it ever took (R422). -/
opaque Config.ringPage : Nat → Nat → BitVec 12

/-- The word at an offset of the page pool, at a model time, where no record stands (R425, R458). -/
opaque Config.poolWord : Nat → Nat → BitVec 32

end Sys2Proof
end

