-- ==== Sys2Proof/Machine/Num.lean ====
section
/-! DEFINITION. Numbers: exact fractions, the binary32 and binary64 formats, the roundings the spec names, and the
elementary functions of R277 and R299. -/

namespace Sys2Proof.Machine

/-- An exact fraction; `den` is positive. -/
structure Q where
  num : Int
  den : Nat
  deriving DecidableEq, Repr

namespace Q

def ofInt (i : Int) : Q := ⟨i, 1⟩
def ofNat (n : Nat) : Q := ⟨n, 1⟩
def zero : Q := ⟨0, 1⟩
def one : Q := ⟨1, 1⟩
def add (a b : Q) : Q := ⟨a.num * b.den + b.num * a.den, a.den * b.den⟩
def neg (a : Q) : Q := ⟨-a.num, a.den⟩
def sub (a b : Q) : Q := add a (neg b)
def mul (a b : Q) : Q := ⟨a.num * b.num, a.den * b.den⟩
def abs (a : Q) : Q := ⟨a.num.natAbs, a.den⟩
def isZero (a : Q) : Bool := a.num == 0
def sign (a : Q) : Int := if a.num < 0 then -1 else if a.num = 0 then 0 else 1

/-- The quotient; a zero divisor gives zero (each caller keeps zero divisors away). -/
def div (a b : Q) : Q :=
  if b.num = 0 then zero
  else if b.num < 0 then ⟨-(a.num * b.den), a.den * b.num.natAbs⟩
  else ⟨a.num * b.den, a.den * b.num.natAbs⟩

def lt (a b : Q) : Bool := a.num * b.den < b.num * a.den
def le (a b : Q) : Bool := a.num * b.den ≤ b.num * a.den
def eq (a b : Q) : Bool := a.num * b.den == b.num * a.den
def min (a b : Q) : Q := if le a b then a else b
def max (a b : Q) : Q := if le a b then b else a

/-- `a` times two to the power `e`. -/
def scale2 (a : Q) (e : Int) : Q :=
  if 0 ≤ e then ⟨a.num * 2 ^ e.toNat, a.den⟩ else ⟨a.num, a.den * 2 ^ (-e).toNat⟩

def floor (a : Q) : Int := a.num / (a.den : Int)
def ceil (a : Q) : Int := -((-a.num) / (a.den : Int))

/-- Rounded to the nearest integer, ties toward plus infinity (R262, R343). -/
def roundUp (a : Q) : Int := (2 * a.num + a.den) / (2 * a.den : Int)

/-- Rounded to the nearest integer, ties to even (IEEE 754). -/
def roundEven (a : Q) : Int :=
  let f := a.num / (a.den : Int)
  let r := 2 * (a.num % (a.den : Int))
  if r < a.den then f else if r > a.den then f + 1 else if f % 2 = 0 then f else f + 1

end Q

/-- The exponent `e` with 2^e ≤ n/d < 2^(e+1), for positive `n` and `d`. -/
def log2Ratio (n d : Nat) : Int :=
  let e : Int := (Nat.log2 n : Int) - (Nat.log2 d : Int)
  let below := if 0 ≤ e then n < d * 2 ^ e.toNat else n * 2 ^ (-e).toNat < d
  if below then e - 1 else e

/-- A fraction rounded to an IEEE 754 format with `m` fraction bits and exponent bias `b`, ties to even; a magnitude
beyond the format gives infinity. The pattern without its sign. -/
def floatMag (m b : Nat) (n d : Nat) : Nat :=
  if n = 0 then 0
  else
    let e := log2Ratio n d
    let emin : Int := 1 - (b : Int)
    let u : Int := (if e < emin then emin else e) - m
    let k := ((Q.mk n d).scale2 (-u)).roundEven.toNat
    let bits := if e < emin then k else (e - emin).toNat * 2 ^ m + k
    let inf := (2 * b + 1) * 2 ^ m
    if inf < bits then inf else bits

/-- The value of a pattern without its sign; the infinity and NaN patterns read as the power of two just beyond the
format. -/
def floatVal (m b : Nat) (mag : Nat) : Q :=
  let ex := mag / 2 ^ m
  let fr := mag % 2 ^ m
  let emin : Int := 1 - (b : Int)
  if ex = 0 then (Q.ofNat fr).scale2 (emin - m)
  else if ex = 2 * b + 1 then (Q.ofNat 1).scale2 ((b : Int) + 1)
  else (Q.ofNat (2 ^ m + fr)).scale2 (emin + ex - 1 - m)

/-- A fraction as binary32 (R92). -/
def Q.toF32 (a : Q) : BitVec 32 :=
  let k := BitVec.ofNat 32 (floatMag 23 127 a.num.natAbs a.den)
  if a.num < 0 then 0x80000000 ||| k else k

/-- A fraction as binary64. -/
def Q.toF64 (a : Q) : BitVec 64 :=
  let k := BitVec.ofNat 64 (floatMag 52 1023 a.num.natAbs a.den)
  if a.num < 0 then 0x8000000000000000 ||| k else k

/-- The value of a binary32 pattern (R92). -/
def f32Val (w : BitVec 32) : Q :=
  let v := floatVal 23 127 (w.toNat % 2 ^ 31)
  if w.msb then v.neg else v

/-- The value of a binary64 pattern. -/
def f64Val (w : BitVec 64) : Q :=
  let v := floatVal 52 1023 (w.toNat % 2 ^ 63)
  if w.msb then v.neg else v

/-- A binary32 pattern is neither NaN nor infinite (R92, R93). -/
def f32Finite (w : BitVec 32) : Bool := w.toNat / 2 ^ 23 % 256 != 255

/-- A binary32 value as binary64, which holds it exactly. -/
def f32To64 (w : BitVec 32) : BitVec 64 := (f32Val w).toF64

/-- A binary64 value rounded to binary32. -/
def f64To32 (w : BitVec 64) : BitVec 32 := (f64Val w).toF32

/-- A finite binary32 value in units of 2^-149, which is exact. -/
def f32Units (w : BitVec 32) : Int := ((f32Val w).scale2 149).floor

/-- A count of units of 2^-149 as a fraction. -/
def unitsVal (i : Int) : Q := (Q.ofInt i).scale2 (-149)

/-! Binary64 arithmetic, operation by operation (R277). -/

def add64 (a b : BitVec 64) : BitVec 64 := ((f64Val a).add (f64Val b)).toF64
def sub64 (a b : BitVec 64) : BitVec 64 := ((f64Val a).sub (f64Val b)).toF64
def mul64 (a b : BitVec 64) : BitVec 64 := ((f64Val a).mul (f64Val b)).toF64
def div64 (a b : BitVec 64) : BitVec 64 := ((f64Val a).div (f64Val b)).toF64
def neg64 (a : BitVec 64) : BitVec 64 := a ^^^ 0x8000000000000000

/-- The largest `r` below 2^(k+1) with `r * r ≤ n`, found bit by bit from bit `k` down, above `r0`. -/
def isqrtFrom : Nat → Nat → Nat → Nat
  | 0, n, r => if (r + 1) * (r + 1) ≤ n then r + 1 else r
  | k + 1, n, r => isqrtFrom k n (if (r + 2 ^ (k + 1)) * (r + 2 ^ (k + 1)) ≤ n then r + 2 ^ (k + 1) else r)

/-- The integer square root. -/
def isqrt (n : Nat) : Nat := isqrtFrom (Nat.log2 n / 2 + 1) n 0

/-- As `isqrtFrom`, for the cube root. -/
def icbrtFrom : Nat → Nat → Nat → Nat
  | 0, n, r => if (r + 1) * (r + 1) * (r + 1) ≤ n then r + 1 else r
  | k + 1, n, r =>
    icbrtFrom k n
      (if (r + 2 ^ (k + 1)) * (r + 2 ^ (k + 1)) * (r + 2 ^ (k + 1)) ≤ n then r + 2 ^ (k + 1) else r)

/-- The integer cube root. -/
def icbrt (n : Nat) : Nat := icbrtFrom (Nat.log2 n / 3 + 1) n 0

/-- The square root of a non-negative fraction, correctly rounded to binary64: an integer root of at least 60 bits
with a sticky bit below it. -/
def sqrt64 (a : Q) : BitVec 64 :=
  if a.num ≤ 0 then 0
  else
    let k : Int := 70 - log2Ratio a.num.natAbs a.den / 2
    let x := a.scale2 (2 * k)
    let f := x.floor.toNat
    let r := isqrt f
    let sticky : Int := if (Q.ofNat (r * r)).eq x then 0 else 1
    ((Q.ofInt (2 * r + sticky)).scale2 (-k - 1)).toF64

/-- The cube root of a non-negative fraction, correctly rounded to binary64. -/
def cbrt64 (a : Q) : BitVec 64 :=
  if a.num ≤ 0 then 0
  else
    let k : Int := 70 - log2Ratio a.num.natAbs a.den / 3
    let x := a.scale2 (3 * k)
    let f := x.floor.toNat
    let r := icbrt f
    let sticky : Int := if (Q.ofNat (r * r * r)).eq x then 0 else 1
    ((Q.ofInt (2 * r + sticky)).scale2 (-k - 1)).toF64

/-! The functions of R277 whose results the spec bounds to one unit in the last place. The true value is computed in
fixed point with 2^-100 steps; the choice among the values within the bound is free. -/

/-- Terms of a power series in fixed point: `t` is the present term, each next term is `t * x2 / (2^100 * d(k))`
with the sign turned. -/
def seriesSum : Nat → Int → Int → Nat → Int → Int
  | 0, _, _, _, acc => acc
  | n + 1, x2, t, k, acc =>
    let t' := -(t * x2 / (2 ^ 100 * (k * (k + 1) : Nat) : Int))
    seriesSum n x2 t' (k + 2) (acc + t')

/-- sin and cos in steps of 2^-100, for arguments up to about 4. -/
def sinFix (x : Q) : Int :=
  let f := (x.scale2 100).floor
  seriesSum 30 (f * f / 2 ^ 100) f 2 f

def cosFix (x : Q) : Int :=
  let f := (x.scale2 100).floor
  seriesSum 30 (f * f / 2 ^ 100) (2 ^ 100) 1 (2 ^ 100)

/-- The exponential series in fixed point. -/
def expSum : Nat → Int → Int → Nat → Int → Int
  | 0, _, _, _, acc => acc
  | n + 1, x, t, k, acc =>
    let t' := t * x / (2 ^ 100 * (k : Int))
    expSum n x t' (k + 1) (acc + t')

/-- ln 10 in steps of 2^-100. -/
def ln10Fix : Int := 2918873375210475425442079017696

/-- Ten to the power `x` for `x` from -2 to 0, in steps of 2^-100. -/
def pow10Fix (x : Q) : Int :=
  let f := (x.scale2 100).floor * ln10Fix / 2 ^ 100
  expSum 60 f (2 ^ 100) 1 (2 ^ 100)

/-- A binary64 value within one unit in the last place of `x` (in steps of 2^-100), chosen by `c`. -/
def ulpNear (x : Int) (c : Nat) : BitVec 64 :=
  let near := (Q.scale2 (Q.ofInt x) (-100)).toF64
  let other := if c = 1 then near - 1 else if c = 2 then near + 1 else near
  let ulp := ((f64Val (near + 1)).sub (f64Val near)).abs
  if (((f64Val other).sub ((Q.ofInt x).scale2 (-100))).abs).le ulp then other else near

def sin64 (x : BitVec 64) : BitVec 64 := ulpNear (sinFix (f64Val x)) (Config.ulpChoice 0 x)
def cos64 (x : BitVec 64) : BitVec 64 := ulpNear (cosFix (f64Val x)) (Config.ulpChoice 1 x)
def pow10_64 (x : BitVec 64) : BitVec 64 := ulpNear (pow10Fix (f64Val x)) (Config.ulpChoice 2 x)

/-! Q2.30 and the accumulator. -/

/-- An integer limited to the range `lo` to `hi`. -/
def clampInt (lo hi x : Int) : Int := if x < lo then lo else if hi < x then hi else x

/-- An integer limited to the Q2.30 range (R262). -/
def satQ (x : Int) : Int := clampInt (-2147483648) 2147483647 x

/-- A fraction as Q2.30: nearest, ties toward plus infinity, saturated (R262, R277). -/
def Q.toQ30 (a : Q) : BitVec 32 := BitVec.ofInt 32 (satQ (a.scale2 30).roundUp)

/-- The value of a Q2.30 word (R13). -/
def q30Val (w : BitVec 32) : Q := ⟨w.toInt, 2 ^ 30⟩

/-- A binary64 value as Q2.30 (R277). -/
def f64ToQ30 (w : BitVec 64) : BitVec 32 := (f64Val w).toQ30

end Sys2Proof.Machine
end

