-- ==== Sys2Proof/Machine/Flags.lean ====
section
/-! DEFINITION. The FLAGS byte of a run (Table 7.3) and the two saturations that set QSAT (R261, R262). -/

namespace Sys2Proof.Machine

/-- Bit numbers of Table 7.3. -/
def flagSat : Nat := 0
def flagCompl : Nat := 1
def flagRamp : Nat := 2
def flagFirst : Nat := 3
def flagRsw : Nat := 4
def flagOuter : Nat := 5
def flagDivz : Nat := 6
def flagQsat : Nat := 7

/-- A flag byte made of eight conditions, bit 0 first (Table 7.3). -/
def packFlags (sat compl ramp first rsw outer divz qsat : Bool) : Byte :=
  BitVec.ofBool qsat ++ BitVec.ofBool divz ++ BitVec.ofBool outer ++ BitVec.ofBool rsw ++ BitVec.ofBool first ++
    BitVec.ofBool ramp ++ BitVec.ofBool compl ++ BitVec.ofBool sat

/-- A flag byte with one more bit set when a condition holds. -/
def raiseFlag (f : Byte) (bit : Nat) (cond : Bool) : Byte := if cond then f ||| BitVec.twoPow 8 bit else f

/-- An integer in Q2.30 units as a word, saturated (R262). -/
def satWord (x : Int) : Word := BitVec.ofInt 32 (satQ x)

/-- The saturation of R262 changed the value. -/
def satHit (x : Int) : Bool := satQ x != x

/-- The rounding of R262: a Q4.60 value to Q2.30, ties toward plus infinity. -/
def round30 (x : Int) : Int := (x + 2 ^ 29) / 2 ^ 30

/-- An integer limited to the range of ACC (R261). -/
def satAcc (x : Int) : Int := clampInt (-(2 ^ 63)) (2 ^ 63 - 1) x

/-- The saturation of ACC changed the value (R261). -/
def accHit (x : Int) : Bool := satAcc x != x

end Sys2Proof.Machine
end

