-- ==== Sys2Proof/Machine/Operands.lean ====
section
/-! DEFINITION. The operands of a control-law program: what a run reads besides its own slots, the operand codes of
Table 7.4, and storing a result under R262. -/

namespace Sys2Proof.Machine

/-- What a run reads that does not change while it runs: the special operands of Table 7.2, its coefficients, the
injection sample (R278), and the wind-up scheme and limits that INTG uses (R283: 1 clamp, 2 conditional). -/
structure Inputs where
  sp : Word
  meas : Word
  measO : Word
  lastU : Word
  aux : Word
  inject : Word
  k : Vector Word 32
  scheme : Nat
  lo : Int
  hi : Int
  deriving DecidableEq, Repr

/-- The value of an operand code (Table 7.4); OUT reads 0, and R272 keeps it from being a source. -/
def readOp (x : Inputs) (r : Run) (o : Opnd) : Word :=
  let c := o.toNat
  if c < 0x08 then r.t[c]?.getD 0
  else if c < 0x18 then r.s[c - 0x08]?.getD 0
  else if c < 0x38 then x.k[c - 0x18]?.getD 0
  else if c = 0x38 then x.sp
  else if c = 0x39 then x.meas
  else if c = 0x3A then x.measO
  else if c = 0x3B then x.lastU
  else if c = 0x3C then r.flags.setWidth 32
  else if c = 0x3E then x.aux
  else 0

/-- The value of an operand as a number of Q2.30 units. -/
def readInt (x : Inputs) (r : Run) (o : Opnd) : Int := (readOp x r o).toInt

/-- A word stored to a destination (Table 7.4); a write to ZERO is discarded. -/
def writeOp (r : Run) (o : Opnd) (w : Word) : Run :=
  let c := o.toNat
  if c < 0x08 then { r with t := r.t.setIfInBounds c w }
  else if c < 0x18 then { r with s := r.s.setIfInBounds (c - 0x08) w }
  else if c = 0x3D then { r with out := w }
  else r

/-- A result in Q2.30 units stored under R262: saturated, and a saturation sets QSAT. -/
def storeInt (r : Run) (o : Opnd) (v : Int) : Run :=
  { writeOp r o (satWord v) with flags := raiseFlag r.flags flagQsat (satHit v) }

/-- A Q4.60 value stored under R262: rounded, then as `storeInt`. -/
def storeAcc (r : Run) (o : Opnd) (v : Int) : Run := storeInt r o (round30 v)

/-- A value put into ACC, saturated under R261. -/
def setAcc (r : Run) (v : Int) : Run :=
  { r with acc := BitVec.ofInt 64 (satAcc v), flags := raiseFlag r.flags flagQsat (accHit v) }

/-- `v` accumulated onto ACC. -/
def accumulate (r : Run) (v : Int) : Run := setAcc r (r.acc.toInt + v)

/-- The run goes on at the next instruction after `k` cycles. -/
def Run.advance (r : Run) (k : Nat) : Run := { r with pc := r.pc + 1, cycles := r.cycles + k }

/-- A branch by `imm`, taken or not (R267). -/
def Run.branch (r : Run) (imm : Byte) (taken : Bool) : Run :=
  if taken then { r with pc := r.pc + 1 + imm.toNat, cycles := r.cycles + 2 } else r.advance 1

end Sys2Proof.Machine
end

