-- ==== Sys2Proof/Machine/Loop.lean ====
section
/-! DEFINITION. The control-law instructions, one definition each, over the datapath of a run (Table 7.5), and a whole
program run. -/

namespace Sys2Proof.Machine

/-- NOP. -/
def runNop (r : Run) : Run := r.advance 1

/-- MOV: D = A. -/
def runMov (x : Inputs) (d a : Opnd) (r : Run) : Run := (storeInt r d (readInt x r a)).advance 1

/-- ADD: D = A + B. -/
def runAdd (x : Inputs) (d a b : Opnd) (r : Run) : Run := (storeInt r d (readInt x r a + readInt x r b)).advance 1

/-- SUB: D = A − B. -/
def runSub (x : Inputs) (d a b : Opnd) (r : Run) : Run := (storeInt r d (readInt x r a - readInt x r b)).advance 1

/-- MUL: D = A · B. -/
def runMul (x : Inputs) (d a b : Opnd) (r : Run) : Run := (storeAcc r d (readInt x r a * readInt x r b)).advance 2

/-- MAC: ACC = ACC + A · B. -/
def runMac (x : Inputs) (a b : Opnd) (r : Run) : Run := (accumulate r (readInt x r a * readInt x r b)).advance 2

/-- MSU: ACC = ACC − A · B. -/
def runMsu (x : Inputs) (a b : Opnd) (r : Run) : Run := (accumulate r (-(readInt x r a * readInt x r b))).advance 2

/-- CLRA: ACC = 0. -/
def runClra (r : Run) : Run := ({ r with acc := 0 } : Run).advance 1

/-- LDA: ACC = A, extended to Q4.60. -/
def runLda (x : Inputs) (a : Opnd) (r : Run) : Run := (setAcc r (readInt x r a * 2 ^ 30)).advance 1

/-- STA: D = ACC under R262. -/
def runSta (d : Opnd) (r : Run) : Run := (storeAcc r d r.acc.toInt).advance 1

/-- MIN: D = the smaller of A and B. -/
def runMin (x : Inputs) (d a b : Opnd) (r : Run) : Run :=
  (storeInt r d (if readInt x r a ≤ readInt x r b then readInt x r a else readInt x r b)).advance 1

/-- MAX: D = the larger of A and B. -/
def runMax (x : Inputs) (d a b : Opnd) (r : Run) : Run :=
  (storeInt r d (if readInt x r a ≤ readInt x r b then readInt x r b else readInt x r a)).advance 1

/-- LIM: D = A limited to −|B| to +|B|. -/
def runLim (x : Inputs) (d a b : Opnd) (r : Run) : Run :=
  (storeInt r d (clampInt (-((readInt x r b).natAbs : Int)) ((readInt x r b).natAbs : Int) (readInt x r a))).advance 1

/-- ABS: D = |A|. -/
def runAbs (x : Inputs) (d a : Opnd) (r : Run) : Run := (storeInt r d ((readInt x r a).natAbs : Int)).advance 1

/-- NEG: D = −A. -/
def runNeg (x : Inputs) (d a : Opnd) (r : Run) : Run := (storeInt r d (-(readInt x r a))).advance 1

/-- SHL: D = A · 2^IMM. -/
def runShl (x : Inputs) (d a : Opnd) (imm : Byte) (r : Run) : Run :=
  (storeInt r d (readInt x r a * 2 ^ imm.toNat)).advance 1

/-- SHR: D = A / 2^IMM, rounded under R262. -/
def runShr (x : Inputs) (d a : Opnd) (imm : Byte) (r : Run) : Run :=
  (storeInt r d (Q.mk (readInt x r a) (2 ^ imm.toNat)).roundUp).advance 1

/-- DIV: D = A / B, the exact quotient under R262; a zero divisor gives the limit with A's sign and sets DIVZ, and as a
saturated result QSAT ("When things meet" of chapter 7). -/
def runDiv (x : Inputs) (d a b : Opnd) (r : Run) : Run :=
  let n := readInt x r a
  let m := readInt x r b
  let r' : Run :=
    if m = 0 then
      { writeOp r d (if 0 ≤ n then 0x7FFFFFFF else 0x80000000) with
        flags := raiseFlag (raiseFlag r.flags flagDivz true) flagQsat true }
    else storeInt r d (((Q.ofInt n).div (Q.ofInt m)).scale2 30).roundUp
  r'.advance 18

/-- INTG: D = D + A · B with the wind-up scheme in force (R283). -/
def runIntg (x : Inputs) (d a b : Opnd) (r : Run) : Run :=
  let held := x.scheme == 2 && (r.flags.getLsbD flagSat || r.flags.getLsbD flagCompl)
  let inc : Int := if held then 0 else round30 (readInt x r a * readInt x r b)
  let sum := readInt x r d + inc
  let v := if x.scheme == 1 then clampInt x.lo x.hi (satQ sum) else satQ sum
  ({ writeOp r d (BitVec.ofInt 32 v) with flags := raiseFlag r.flags flagQsat (satHit sum) } : Run).advance 3

/-- The operand code of s slot `j`. -/
def sOp (j : Nat) : Opnd := BitVec.ofNat 6 (0x08 + j)

/-- The coefficient of k slot `j`. -/
def kInt (x : Inputs) (j : Nat) : Int := (x.k[j]?.getD 0).toInt

/-- One line of the biquad: formed in ACC term by term in the order written, then stored (R276, R261). -/
def bqdLine (r : Run) (terms : List Int) (dest : Opnd) : Run :=
  let r := terms.foldl accumulate { r with acc := 0 }
  storeAcc r dest r.acc.toInt

/-- BQD: the transposed direct-form-II biquad of R276. The filter output is formed first; it is stored to D after both
states. -/
def runBqd (x : Inputs) (d a b : Opnd) (imm : Byte) (r : Run) : Run :=
  let kb := b.toNat - 0x18
  let sb := imm.toNat
  let v := readInt x r a
  let r1 := [kInt x kb * v, readInt x r (sOp sb) * 2 ^ 30].foldl accumulate { r with acc := 0 }
  let yRaw := round30 r1.acc.toInt
  let y := satQ yRaw
  let r2 : Run := { r1 with flags := raiseFlag r1.flags flagQsat (satHit yRaw) }
  let r3 := bqdLine r2 [kInt x (kb + 1) * v, -(kInt x (kb + 3) * y), readInt x r (sOp (sb + 1)) * 2 ^ 30] (sOp sb)
  let r4 := bqdLine r3 [kInt x (kb + 2) * v, -(kInt x (kb + 4) * y)] (sOp (sb + 1))
  (writeOp r4 d (BitVec.ofInt 32 y)).advance 8

/-- LDI: D = IMM as signed 8 bits · 2^−7. -/
def runLdi (d : Opnd) (imm : Byte) (r : Run) : Run := (storeInt r d (imm.toInt * 2 ^ 23)).advance 1

/-- BNEG. -/
def runBneg (x : Inputs) (a : Opnd) (imm : Byte) (r : Run) : Run := r.branch imm (decide (readInt x r a < 0))

/-- BPOS. -/
def runBpos (x : Inputs) (a : Opnd) (imm : Byte) (r : Run) : Run := r.branch imm (decide (0 ≤ readInt x r a))

/-- BZ. -/
def runBz (x : Inputs) (a : Opnd) (imm : Byte) (r : Run) : Run := r.branch imm (decide (readInt x r a = 0))

/-- BNZ. -/
def runBnz (x : Inputs) (a : Opnd) (imm : Byte) (r : Run) : Run := r.branch imm (decide (readInt x r a ≠ 0))

/-- BFS: branch if FLAGS bit B is 1. -/
def runBfs (b : Opnd) (imm : Byte) (r : Run) : Run := r.branch imm (r.flags.getLsbD b.toNat)

/-- JMP. -/
def runJmp (imm : Byte) (r : Run) : Run := r.branch imm true

/-- END. -/
def runEnd (r : Run) : Run := { r with ended := true, cycles := r.cycles + 1 }

/-- TUNT: OUT = the drive plus the injection sample (R278). -/
def runTunt (x : Inputs) (r : Run) : Run :=
  (storeInt r 0x3D (r.out.toInt + x.inject.toInt)).advance 4

/-- One instruction of a program. -/
def runInstr (x : Inputs) (r : Run) : LoopInstr → Run
  | .nop => runNop r
  | .mov d a => runMov x d a r
  | .add d a b => runAdd x d a b r
  | .sub d a b => runSub x d a b r
  | .mul d a b => runMul x d a b r
  | .mac a b => runMac x a b r
  | .msu a b => runMsu x a b r
  | .clra => runClra r
  | .lda a => runLda x a r
  | .sta d => runSta d r
  | .min d a b => runMin x d a b r
  | .max d a b => runMax x d a b r
  | .lim d a b => runLim x d a b r
  | .abs d a => runAbs x d a r
  | .neg d a => runNeg x d a r
  | .shl d a imm => runShl x d a imm r
  | .shr d a imm => runShr x d a imm r
  | .div d a b => runDiv x d a b r
  | .intg d a b => runIntg x d a b r
  | .bqd d a b imm => runBqd x d a b imm r
  | .ldi d imm => runLdi d imm r
  | .bneg a imm => runBneg x a imm r
  | .bpos a imm => runBpos x a imm r
  | .bz a imm => runBz x a imm r
  | .bnz a imm => runBnz x a imm r
  | .bfs b imm => runBfs b imm r
  | .jmp imm => runJmp imm r
  | .fin => runEnd r
  | .tunt => runTunt x r

/-- A run of a program from the run's position on; past the last instruction it ends as if END followed (R267). Every
branch goes forward, so the number of instructions bounds the steps. -/
def runFrom : Nat → Inputs → List LoopInstr → Run → Run
  | 0, _, _, r => if r.ended then r else runEnd r
  | fuel + 1, x, prog, r =>
    if r.ended then r
    else match prog[r.pc]? with
      | none => runEnd r
      | some i => runFrom fuel x prog (runInstr x r i)

/-- A run of a program from its start (R268). -/
def runProgram (x : Inputs) (prog : List LoopInstr) (s : Vector Word 16) (flags : Byte) : Run :=
  runFrom prog.length x prog { s := s, out := x.lastU, flags := flags }

/-! ### The ROM programs (Table 7.7) -/

/-- Operand codes by name. -/
def opT (j : Nat) : Opnd := BitVec.ofNat 6 j
def opK (j : Nat) : Opnd := BitVec.ofNat 6 (0x18 + j)
def opSP : Opnd := 0x38
def opMEAS : Opnd := 0x39
def opOUT : Opnd := 0x3D

/-- PI with notch. -/
def romPi : List LoopInstr :=
  [.sub (opT 0) opSP opMEAS, .bqd (opT 1) (opT 0) (opK 3) 1, .intg (sOp 0) (opT 1) (opK 1), .mul (opT 2) (opT 1) (opK 0),
   .add opOUT (sOp 0) (opT 2), .fin]

/-- PID with notch. -/
def romPid : List LoopInstr :=
  [.sub (opT 0) opSP opMEAS, .bqd (opT 1) (opT 0) (opK 3) 1, .intg (sOp 0) (opT 1) (opK 1), .mul (opT 2) (opT 1) (opK 0),
   .sub (opT 3) opMEAS (sOp 3), .mov (sOp 3) opMEAS, .sub (opT 4) (opT 3) (sOp 4), .mul (opT 4) (opT 4) (opK 9),
   .add (sOp 4) (sOp 4) (opT 4), .mul (opT 5) (sOp 4) (opK 2), .sub (opT 2) (opT 2) (opT 5),
   .add opOUT (sOp 0) (opT 2), .fin]

/-- Nested outer PI. -/
def romOuter : List LoopInstr :=
  [.sub (opT 0) opSP opMEAS, .intg (sOp 0) (opT 0) (opK 1), .mul (opT 1) (opT 0) (opK 0), .add opOUT (sOp 0) (opT 1), .fin]

/-- TUNE tail. -/
def romTail : List LoopInstr := [.tunt, .fin]

end Sys2Proof.Machine
end

