-- ==== Sys2Proof/Machine/Ops.lean ====
section
/-! DEFINITION. The named operations over the state that every family uses: reading and updating one channel, engine
or port, event counters (R73, R74), free values, and the values that follow from a channel's declarations (R35 to
R39, R264). -/

namespace Sys2Proof.Machine

/-! ### Parts of the state -/

def State.chan (s : State) (n : Ch) : Channel := s.ch[n.val]

def State.modCh (s : State) (n : Ch) (f : Channel → Channel) : State := { s with ch := s.ch.set n.val (f s.ch[n.val]) }

/-- Every channel updated, each from its own number. -/
def State.modAllCh (s : State) (f : Ch → Channel → Channel) : State :=
  { s with ch := Vector.ofFn fun n => f n s.ch[n.val] }

def State.engine (s : State) (e : Eng) : Engine := s.eng[e.val]

def State.modEng (s : State) (e : Eng) (f : Engine → Engine) : State :=
  { s with eng := s.eng.set e.val (f s.eng[e.val]) }

def State.port (s : State) (p : Port) : PortSt := s.ronko.ports[p.val]

def State.modPort (s : State) (p : Port) (f : PortSt → PortSt) : State :=
  { s with ronko := { s.ronko with ports := s.ronko.ports.set p.val (f s.ronko.ports[p.val]) } }

def State.session (s : State) (i : Fin 8) : Session := s.rop.sessions[i.val]

def State.modSession (s : State) (i : Fin 8) (f : Session → Session) : State :=
  { s with rop := { s.rop with sessions := s.rop.sessions.set i.val (f s.rop.sessions[i.val]) } }

/-- The channels, in order. -/
def allCh : List Ch := [0, 1, 2, 3, 4, 5, 6, 7]

/-- The engines, in order. -/
def allEng : List Eng := [0, 1, 2, 3]

/-- The ports, in order. -/
def allPort : List Port := [0, 1, 2]

/-- The channel a number names, if it names one. -/
def chOf (k : Nat) : Option Ch := if h : k < 8 then some ⟨k, h⟩ else none

/-- Apply an update for each element of a list, in order. -/
def forEach {α : Type} (l : List α) (s : State) (f : State → α → State) : State := l.foldl f s

/-! ### Counters (R73, R74) -/

/-- One event is counted; the step from 0xFFFF_FFFF to 0 sets WRAP. -/
def Counter.inc (c : Counter) : Counter :=
  { c with value := c.value + 1, wrap := c.wrap || c.value == 0xFFFFFFFF }

/-- `k` events are counted. -/
def Counter.add (c : Counter) (k : Nat) : Counter :=
  { c with value := c.value + BitVec.ofNat 32 k, wrap := c.wrap || decide (2 ^ 32 ≤ c.value.toNat + k) }

/-- A plain 32-bit count that holds at its greatest value. -/
def satInc (w : Word) : Word := if w == 0xFFFFFFFF then w else w + 1

/-! ### Free values and what is sent outward -/

/-- The next free word. -/
def State.freeWord (s : State) : Word := Config.freeWord s.free

/-- The state with the next free value used up. -/
def State.used (s : State) : State := { s with free := s.free + 1 }

/-- The block sends something outward. -/
def State.send (s : State) (e : Emission) : State := { s with emit := e :: s.emit }

/-! ### Time -/

/-- The model's clock counts periods of CCLK, 240 to the µs. -/
def usec (n : Nat) : Nat := 240 * n
def msec (n : Nat) : Nat := 240000 * n
def secs (n : Nat) : Nat := 240000000 * n

/-- Whole milliseconds left until a deadline. -/
def msLeft (now deadline : Nat) : Nat := (deadline - now) / 240000

/-- The present levels of the strap balls: what the sampling saw at its instant, and a free value at any other (R207, Table
5.7). -/
def State.strapLevels (s : State) : BitVec 4 :=
  if s.power.strapsAt = some s.now then s.power.strapsLive else Config.strapLevels s.now

/-- The present level of TRIGINi: what an active edge left at its instant, and a free value at any other (Table 10.8). -/
def State.triginLive (s : State) (i : Fin 4) : Bool :=
  let x := s.trig.ins[i.val]
  if x.edgeAt = some s.now then x.live else Config.triginLevel i.val s.now

/-! ### Devices states -/

/-- The device is in RUN. -/
def State.running (s : State) : Bool := s.dev.state == .run

/-- The root-derived clocks run: the TBC counts and the engines tick (R50, R65). -/
def State.clocksRun (s : State) : Bool := s.clk.pllLock

/-- The ports run: from VERIFY on, while LINKCLK runs (R527, R83). -/
def State.linkOn (s : State) : Bool :=
  s.clocksRun && (match s.dev.state with
    | .verify | .safe | .run | .halt => true
    | .reset | .boot => false)

/-- The MAC is not held idle: it has its RMII reference (R52). -/
def State.macReady (s : State) : Bool := s.clocksRun && (!s.eth.refOut || s.clk.rmiiLock)

/-- The MAC has an address of its own to send from and to be reached at (R137). -/
def State.macLives (s : State) : Bool := s.macReady && s.eth.macAddr != 0

/-- Something leaves over Ethernet, where the MAC transmits at all (R52, R137). -/
def State.sendEth (s : State) (e : Emission) : State := if s.macLives then s.send e else s

/-- A datagram leaves over Ethernet; without an IPv4 address the unit sends none (R136). -/
def State.sendUdp (s : State) (ip : Word) (port : W16) (bytes : List Byte) : State :=
  if s.eth.ip != 0 then s.sendEth (.datagram ip port bytes) else s

/-! ### Scaling of one channel (R35 to R39) -/

/-- 2.048 and 1.024 mA as fractions. -/
def q2048 : Q := ⟨256, 125⟩

/-- V_FS (R36). -/
def Channel.vFs (c : Channel) : Q := q2048.mul (f32Val c.decl.vAtten)

/-- I_FS of range `k` (R36). -/
def Channel.iFs (c : Channel) (k : Nat) : Q :=
  q2048.div ((f32Val (c.decl.iAmpGain.toList.getD k 0x3F800000)).mul (f32Val (c.decl.shuntOhms.toList.getD k 0x3F800000)))

/-- RANGE_ACTIVE: the range that carries the loop; while none was switched in, the highest declared (R33, Table 1.5). -/
def Channel.range (c : Channel) : Nat := c.rng.active.getD (c.decl.rangeCount - 1)

/-- FS_DAC, in V or A (R38). -/
def Channel.fsDac (c : Channel) : Q :=
  (if c.decl.dacKind = 0 then q2048 else Q.mk 128 125000).mul (Q.ofNat c.decl.dacGain)

/-- The nominal terminal voltage of a code (R38). -/
def Channel.vOut (c : Channel) (code : Nat) : Q :=
  (f32Val c.decl.stageOffset).add (((f32Val c.decl.stageGain).mul (Q.mk code 262144)).mul c.fsDac)

/-- The code nearest to a terminal voltage, the higher of two equally near, limited to the span (R38, R39). -/
def Channel.codeOfV (c : Channel) (v : Q) : Nat :=
  let d := ((v.sub (f32Val c.decl.stageOffset)).mul (Q.ofNat 262144)).div ((f32Val c.decl.stageGain).mul c.fsDac)
  (clampInt 0 262143 d.roundUp).toNat

/-- ZERO_CODE (R39). -/
def Channel.zeroCode (c : Channel) : Nat := c.codeOfV Q.zero

/-- DRIVE_SCALE as R264 holds it, 8 fractional bits, computed in binary64 from the declarations. -/
def Channel.driveScaleOf (c : Channel) : Word :=
  let vfs := mul64 q2048.toF64 (f32To64 c.decl.vAtten)
  let den := mul64 (f32To64 c.decl.stageGain) c.fsDac.toF64
  let x := div64 (mul64 vfs (Q.ofNat 262144).toF64) den
  BitVec.ofInt 32 (clampInt (-2147483647) 2147483647 ((f64Val x).scale2 8).roundUp)

/-- DRIVE_SCALE as a fraction. -/
def Channel.driveScale (c : Channel) : Q := ⟨c.prog.driveScale.toInt, 256⟩

/-- The drive of a code (R265). -/
def Channel.driveOfCode (c : Channel) (code : Nat) : Word :=
  ((Q.ofInt ((code : Int) - (c.zeroCode : Int))).div c.driveScale).toQ30

/-- The code of a drive before its limit (R264). -/
def Channel.codeOfDrive (c : Channel) (u : Word) : Int :=
  (c.zeroCode : Int) + ((q30Val u).mul c.driveScale).roundUp

/-- The mode forces current (Table 6.1). -/
def Channel.forcesI (c : Channel) : Bool :=
  match c.mode.mode with
  | .fi | .fiProfile | .fiList => true
  | .follow | .nested | .tune => c.mode.forceKind == 1
  | _ => false

/-- The channel's mode sources: it is neither OFF nor METER. -/
def Channel.sources (c : Channel) : Bool :=
  match c.mode.mode with
  | .off | .meter => false
  | _ => true

/-- Full scale of the forced quantity: V_FS, or I_FS of the active range (Table 7.2). -/
def Channel.forcedFs (c : Channel) : Q := if c.forcesI then c.iFs c.range else c.vFs

/-- Full scale of the other quantity (Table 7.2). -/
def Channel.otherFs (c : Channel) : Q := if c.forcesI then c.vFs else c.iFs c.range

/-! ### The settings in force (R40, R110, R392, R649) -/

/-- A value in V at an ADC input buffer as a clamp-DAC code: 2 mV per step, rounded toward zero, at most 1,023 (R40,
R391). -/
def clampCode (v : Q) : Nat := Nat.min 1023 ((v.mul (Q.ofNat 500)).floor.toNat)

/-- The lower of two limits. -/
def lowerLimit (a b : F32) : Q := (f32Val a).min (f32Val b)

/-- The voltage-path threshold (R40). -/
def Channel.thrVOf (c : Channel) : Nat :=
  clampCode ((lowerLimit c.out.complV c.lim.vMax).div (f32Val c.decl.vAtten))

/-- SHUNT_OHMS[k]. -/
def Channel.ohms (c : Channel) (k : Nat) : Q := f32Val (c.decl.shuntOhms.toList.getD k 0x3F800000)

/-- I_AMP_GAIN[k]. -/
def Channel.ampGain (c : Channel) (k : Nat) : Q := f32Val (c.decl.iAmpGain.toList.getD k 0x3F800000)

/-- Two legs in parallel (R392). -/
def parallel (a b : Q) : Q := (a.mul b).div (a.add b)

/-- The resistance of the legs commanded closed: Rpar from the make boundary to the switch boundary, else that of the
active range (R392, R400). -/
def Channel.legOhms (c : Channel) : Q :=
  match c.rng.phase, c.rng.target with
  | .make, some k => parallel (c.ohms c.range) (c.ohms k)
  | .hold, some k => parallel (c.ohms c.range) (c.ohms k)
  | _, _ => c.ohms c.range

/-- The current-path threshold for the legs commanded closed, with the amplifier gain of the active range (R40, R392). -/
def Channel.thrIOf (c : Channel) : Nat :=
  clampCode ((lowerLimit c.out.complI c.lim.iMax).mul ((c.ampGain c.range).mul c.legOhms))

/-- The thresholds for the present settings load (R40, R41). -/
def Channel.loadThr (c : Channel) : Channel := { c with clamp := { c.clamp with thrV := c.thrVOf, thrI := c.thrIOf } }

/-- What was written since the last boundary comes into force (R110, R233, R295, R328, R338,
R390). -/
def Channel.takeSettings (c : Channel) : Channel :=
  { c with actProg := c.prog, actCoefs := c.coefs,
           actSp := { v := c.sp.v, i := c.sp.i, outer := c.sp.outer, faultAct := c.out.faultAct, clrEn := c.out.clrEn,
                      clrResume := c.out.clrResume, folEdge := c.fol.edge, feTicks := c.fe.ticks, feLevel := c.fe.level,
                      oscK := c.osc.k, oscMin := c.osc.minTh, oscRev := c.osc.rev, oscGap := c.osc.gap,
                      oscLevel := c.osc.level, folAux := c.fol.aux },
           lac := { c.lac with ampNow := c.lac.amp, alphaNow := c.lac.alpha },
           tune := { c.tune with ampNow := c.tune.amp, segsNow := c.tune.segs } }

/-- ADC B's input changes at a tick boundary (R246, R347); a capture in progress then holds codes of both arrangements. -/
def Channel.setMeterIl (c : Channel) (on : Bool) : Channel :=
  { c with conv := { c.conv with meterIl := on }, cap := { c.cap with mixed := c.cap.mixed || c.conv.meterIl != on } }

/-- A write of channel settings, which come into force at the next tick boundary; while ACLK is stopped they come into force
at once (R649). -/
def State.setCh (s : State) (n : Ch) (f : Channel → Channel) : State :=
  s.modCh n fun c => if s.clocksRun then f c else (f c).takeSettings.loadThr

end Sys2Proof.Machine
end

