-- ==== Sys2Proof/Machine/Check.lean ====
section
/-! DEFINITION. Requests to the object dictionary: the error codes of Table 0.5, the data types of Table 3.1, the order
of write checks of R97 and R98, and the commit of one write or of a group (R107 to R109). Each chapter's objects are
values of `Obj`; the dedicated commands and the three write paths perform the same values. -/

namespace Sys2Proof.Machine

/-! ### Error codes (Table 0.5) -/

def eOk : Byte := 0x00
def eNoObject : Byte := 0x01
def eNoElement : Byte := 0x02
def eReadOnly : Byte := 0x03
def eWriteOnly : Byte := 0x04
def eType : Byte := 0x05
def eRange : Byte := 0x06
def eMode : Byte := 0x07
def eNotOwner : Byte := 0x08
def eStaleEpoch : Byte := 0x09
def eInstructor : Byte := 0x0A
def eEnvelope : Byte := 0x0B
def eBudget : Byte := 0x0C
def eBusy : Byte := 0x0D
def eRingFull : Byte := 0x0E
def eTimeout : Byte := 0x0F
def eCrc : Byte := 0x10
def eSequence : Byte := 0x11
def eState : Byte := 0x12
def eGroup : Byte := 0x13
def eNotReady : Byte := 0x14
def eSignature : Byte := 0x15
def eInternal : Byte := 0xFF

/-! ### Data types (Table 3.1) -/

def tBool : Byte := 0x01
def tU8 : Byte := 0x02
def tI8 : Byte := 0x03
def tU16 : Byte := 0x04
def tI16 : Byte := 0x05
def tU32 : Byte := 0x06
def tI32 : Byte := 0x07
def tU64 : Byte := 0x08
def tF32 : Byte := 0x09
def tQ30 : Byte := 0x0A
def tStr : Byte := 0x0B
def tBlob : Byte := 0x0C

/-- The wire size of a fixed-size type, none for STR and BLOB (Table 3.1). -/
def typeSize (ty : Byte) : Option Nat :=
  match ty.toNat with
  | 1 | 2 | 3 => some 1
  | 4 | 5 => some 2
  | 6 | 7 | 9 | 10 => some 4
  | 8 => some 8
  | _ => none

/-- The value is one that its type can hold (R93). -/
def typeLegal (ty : Byte) (data : List Byte) : Bool :=
  if ty == tBool then decide (beNat data ≤ 1)
  else if ty == tF32 then f32Finite (BitVec.ofNat 32 (beNat data))
  else if ty == tStr then data.all fun b => 0x20 ≤ b.toNat && b.toNat ≤ 0x7E
  else true

/-! ### Requesters -/

/-- The open session with an ID. -/
def State.sessionOf (s : State) (id : W16) : Option Session :=
  if id == 0 then none else s.rop.sessions.toList.find? fun x => x.id == id

/-- The requester with a host session that is not open turned into a sessionless one that names a session (R117). -/
def normReq (s : State) : Requester → Requester
  | .host sid => if (s.sessionOf sid).isSome then .host sid else .sessionless true
  | x => x

/-- The requester holds an open session, LOCAL and MGMT counted (R142). -/
def hasSession (s : State) (who : Requester) : Bool :=
  match normReq s who with
  | .sessionless _ => false
  | _ => true

/-- The requester holds a channel's lock (R181). -/
def holds (l : Lock) : Requester → Bool
  | .host sid => l.state == .held && l.kind == .host && l.session == sid
  | .loc => l.state == .held && l.kind == .loc
  | .mgmt => l.state == .held && l.kind == .mgmt
  | .sessionless _ => false

/-- The requester's copy of the session-relative objects (R142). -/
def State.relative (s : State) (who : Requester) : Relative :=
  match normReq s who with
  | .host sid => ((s.sessionOf sid).map (·.rel)).getD {}
  | .loc => s.rop.locRel
  | .mgmt => s.rop.mgmtRel
  | .sessionless _ => {}

/-- An update of the requester's copy of the session-relative objects. -/
def State.modRelative (s : State) (who : Requester) (f : Relative → Relative) : State :=
  match normReq s who with
  | .host sid =>
    { s with rop := { s.rop with sessions := s.rop.sessions.map fun x => if x.id == sid then { x with rel := f x.rel } else x } }
  | .loc => { s with rop := { s.rop with locRel := f s.rop.locRel } }
  | .mgmt => { s with rop := { s.rop with mgmtRel := f s.rop.mgmtRel } }
  | .sessionless _ => s

/-! ### Objects -/

/-- The access classes of Table 3.2; RW and RWS differ only in who checks. -/
inductive Access where
  | ro | rw | wo | rws | cmd
  deriving DecidableEq, Repr

/-- The "MGP" mark of R194: none; written through the MGP while UNLOCKED; for UNLOCK and DEVICE_RESET, through the MGP in
any instructor state; or for STREAM_RING read-only on every other path (R578). -/
inductive MgpMark where
  | open_ | unlocked | path | sole
  deriving DecidableEq, Repr

/-- What steps 6 and 7 of R97 demand of a write: an open session; the epoch and the lock of a channel; the epoch of a
channel and a session (CLAIM and RELEASE decide ownership themselves); or the locks of both channels of a pair. -/
inductive Scope where
  | session
  | chan (n : Ch)
  | lock (n : Ch)
  | pair (e : Eng)
  deriving DecidableEq, Repr

/-- A write under check: the request, its value, the state before, the state that the write or its whole group would
produce, and the state in which a command acts: the one that the group's earlier writes leave (R109). -/
structure W where
  req : Req
  data : List Byte
  pre : State
  post : State
  seq : State

/-- The value of a write as a number (R12). -/
def W.v (w : W) : Nat := beNat w.data

/-- The value as a 32-bit word. -/
def W.word (w : W) : Word := BitVec.ofNat 32 w.v

/-- The value as a binary32 number. -/
def W.f (w : W) : Q := f32Val w.word

/-- One object: its type, class and scope, the value a read returns, and the checks of steps 5 and 8 to 12 of R97 beside
those its type and class imply; `put` is what an accepted write does, `after` the code an action reports although it
ran; `onRefuse` what a refused write leaves behind. -/
structure Obj where
  ty : Byte
  acc : Access
  mgp : MgpMark := .open_
  max : Nat := 1024
  scope : W → Scope := fun _ => .session
  read : Requester → State → List Byte := fun _ _ => []
  range : W → Bool := fun _ => true
  own : W → Byte := fun _ => 0
  mode : W → Bool := fun _ => true
  state : W → Byte := fun _ => 0
  instr : W → Bool := fun _ => true
  env : W → Byte := fun _ => 0
  put : W → State → State := fun _ s => s
  after : W → Byte := fun _ => 0
  onRefuse : W → Byte → State → State := fun _ _ s => s

/-- The first code that is not E_OK. -/
def firstCode : List Byte → Byte
  | [] => eOk
  | c :: rest => if c == eOk then firstCode rest else c

/-- Step 3 of R97: the class permits writing, and the path and the instructor state that R194 asks for. -/
def Obj.accessCode (o : Obj) (w : W) : Byte :=
  if o.acc == .ro then eReadOnly
  else match o.mgp with
    | .open_ => eOk
    | .path => if w.req.path == .mgp then eOk else eInstructor
    | .sole => if w.req.path == .mgp then eOk else eReadOnly
    | .unlocked => if w.req.path == .mgp && w.pre.trust.instr.state == .unlocked then eOk else eInstructor

/-- Step 4 of R97 (R93). -/
def Obj.typeCode (o : Obj) (ty : Byte) (w : W) : Byte :=
  if ty != o.ty then eType
  else match typeSize o.ty with
    | some k => if w.data.length = k then eOk else eType
    | none => eOk

/-- Step 5 of R97 (R93). -/
def Obj.rangeCode (o : Obj) (w : W) : Byte :=
  if typeLegal o.ty w.data && ((typeSize o.ty).isSome || decide (w.data.length ≤ o.max)) && o.range w then eOk else eRange

/-- The epoch a channel-scoped write must carry is the channel's (R98). -/
def epochOk (s : State) (n : Ch) (r : Req) : Bool := r.epoch == some (s.chan n).lock.epoch

/-- Step 6 of R97: the epoch of a channel-scoped write, then the session the request names (R98, R117). A group's write is judged
with the epochs that the whole group would leave, and one that decides ownership itself with those that it finds (R109). -/
def Obj.epochCode (o : Obj) (w : W) : Byte :=
  let stale := match o.scope w with
    | .chan n => !epochOk w.post n w.req
    | .lock n => !epochOk w.seq n w.req
    | _ => false
  if stale || normReq w.pre w.req.who == .sessionless true then eStaleEpoch else eOk

/-- Step 7 of R97: an open session, and the locks that the scope asks for (R117, R142), as the whole group would leave them
(R109; log entry 80). -/
def Obj.ownCode (o : Obj) (w : W) : Byte :=
  let held := match o.scope w with
    | .session | .lock _ => true
    | .chan n => holds (w.post.chan n).lock w.req.who
    | .pair e => holds (w.post.chan e.slot0).lock w.req.who && holds (w.post.chan e.slot1).lock w.req.who
  if !hasSession w.pre w.req.who || !held then eNotOwner else o.own w

/-- The verdict on a write: the first of steps 3 to 12 of R97 that fails. -/
def Obj.verdict (o : Obj) (ty : Byte) (w : W) : Byte :=
  firstCode [o.accessCode w, o.typeCode ty w, o.rangeCode w, o.epochCode w, o.ownCode w,
    if o.mode w then eOk else eMode, o.state w, if o.instr w then eOk else eInstructor, o.env w]

/-- The epoch an answer carries: the channel's epoch after the operation for a channel-scoped object (Table 3.5). -/
def Obj.epochAfter (o : Obj) (w : W) (s : State) : W16 :=
  match o.scope w with
  | .chan n | .lock n => (s.chan n).lock.epoch
  | _ => 0

/-- The block answers a request. -/
def State.reply (s : State) (code ty : Byte) (epoch : W16) (data : List Byte) : State :=
  { s with answer := { code := code, ty := ty, epoch := epoch, data := data } }

/-- A request of the MGP answered with E_OK restarts the 600 s of the UNLOCKED state (R179). -/
def State.instructorCommand (s : State) (p : Path) (code : Byte) : State :=
  if p == .mgp && code == eOk && s.trust.instr.state == .unlocked then
    { s with trust := { s.trust with instr := { s.trust.instr with unlockEnd := s.now + secs 600 } } }
  else s

/-- An answer E_BUSY to a host is counted (R132). -/
def State.countBusy (s : State) (p : Path) (code : Byte) : State :=
  if p == .rop && code == eBusy then { s with rop := { s.rop with busyCount := s.rop.busyCount + 1 } } else s

/-- One write of a transaction: checked, then applied or refused with nothing changed (R97, R99). -/
def performOp (o : Obj) (r : Req) (ty : Byte) (data : List Byte) (s : State) : State :=
  let w0 : W := ⟨r, data, s, s, s⟩
  let s' := o.put w0 s
  let w : W := ⟨r, data, s, s', s⟩
  let code := o.verdict ty w
  if code == eOk then (s'.instructorCommand r.path (o.after w0)).reply (o.after w0) o.ty (o.epochAfter w s') []
  else (o.onRefuse w code s).reply code ty (o.epochAfter w s) []

/-- One write that is a request of its own: its answer is the whole answer. -/
def perform (o : Obj) (r : Req) (ty : Byte) (data : List Byte) (s : State) : State :=
  let t := performOp o r ty data s
  if o.verdict ty ⟨r, data, s, o.put ⟨r, data, s, s, s⟩ s, s⟩ == eOk then t else t.countBusy r.path t.answer.code

/-- One read of an object (R94, R95). The class is looked at before the type, as R97 has it for writes; the spec gives reads
no order (DESIGN CHOICE, log entry 97). -/
def readObj (o : Obj) (who : Requester) (ty : Byte) (s : State) : Byte × List Byte :=
  if o.acc == .wo || o.acc == .cmd then (eWriteOnly, [])
  else if ty != 0 && ty != o.ty then (eType, [])
  else (eOk, o.read who s)

/-! ### Common forms of objects -/

/-- A read-only object with a number. -/
def roNat (ty : Byte) (get : State → Nat) : Obj :=
  { ty := ty, acc := .ro, read := fun _ s => natBytes ((typeSize ty).getD 0) (get s) }

/-- A read-only object of at most `max` bytes. -/
def roBlob (max : Nat) (get : State → List Byte) : Obj := { ty := tBlob, acc := .ro, max := max, read := fun _ s => get s }

/-- A setting that needs a session. -/
def rwNat (ty : Byte) (acc : Access) (legal : Nat → Bool) (get : State → Nat) (set : Nat → State → State) : Obj :=
  { ty := ty, acc := acc, read := fun _ s => natBytes ((typeSize ty).getD 0) (get s), range := fun w => legal w.v,
    put := fun w s => set w.v s }

/-- A setting of one channel. -/
def chNat (n : Ch) (ty : Byte) (acc : Access) (legal : Nat → Bool) (get : Channel → Nat) (set : Nat → Channel → Channel) :
    Obj :=
  { ty := ty, acc := acc, scope := fun _ => .chan n, read := fun _ s => natBytes ((typeSize ty).getD 0) (get (s.chan n)),
    range := fun w => legal w.v, put := fun w s => s.setCh n (set w.v) }

/-- An F32 setting of one channel. -/
def chF32 (n : Ch) (acc : Access) (legal : Q → Bool) (get : Channel → F32) (set : F32 → Channel → Channel) : Obj :=
  { ty := tF32, acc := acc, scope := fun _ => .chan n, read := fun _ s => natBytes 4 (get (s.chan n)).toNat,
    range := fun w => legal w.f, put := fun w s => s.setCh n (set w.word) }

/-- An F32 setting that needs a session. -/
def rwF32 (acc : Access) (legal : Q → Bool) (get : State → F32) (set : F32 → State → State) : Obj :=
  { ty := tF32, acc := acc, read := fun _ s => natBytes 4 (get s).toNat, range := fun w => legal w.f,
    put := fun w s => set w.word s }

/-- A command of one channel. -/
def chCmd (n : Ch) (ty : Byte) (legal : W → Bool) (act : W → State → State) : Obj :=
  { ty := ty, acc := .cmd, scope := fun _ => .chan n, range := legal, put := act }

/-- A read-only number of one channel; a write meets the class check first. -/
def chRo (n : Ch) (ty : Byte) (get : Channel → Nat) : Obj := roNat ty fun s => get (s.chan n)

/-- A number between bounds. -/
def within (lo hi : Nat) (v : Nat) : Bool := decide (lo ≤ v) && decide (v ≤ hi)

/-- A fraction between bounds. -/
def qWithin (lo hi : Q) (v : Q) : Bool := lo.le v && v.le hi

/-- A binary32 value between two decimal bounds, each taken as the binary32 value nearest to it. -/
def fWithin (lo hi : Q) (v : Q) : Bool := (f32Val lo.toF32).le v && v.le (f32Val hi.toF32)

/-- A truth value as a number. -/
def bNat (b : Bool) : Nat := if b then 1 else 0

/-- An event counter that software may set (R73, R74), with its status: value written, status bits cleared. -/
def counterObj (scope : Scope) (get : State → Counter) (set : (Counter → Counter) → State → State) : Obj :=
  { ty := tU32, acc := .rw, scope := fun _ => scope, read := fun _ s => natBytes 4 (get s).value.toNat,
    put := fun w s => set (fun c => { c with value := w.word }) s }

/-- A counter's status as an object: [0] WRAP, [1] COLLIDE; a 1 clears (R73 to R75). -/
def counterStatusObj (scope : Scope) (get : State → Counter) (set : (Counter → Counter) → State → State) : Obj :=
  { ty := tU8, acc := .rw, scope := fun _ => scope,
    read := fun _ s => [BitVec.ofNat 8 (bNat (get s).wrap + 2 * bNat (get s).collide)],
    range := fun w => decide (w.v ≤ 3),
    put := fun w s => set (fun c =>
      { c with wrap := c.wrap && w.v % 2 == 0, collide := c.collide && w.v / 2 % 2 == 0 }) s }

end Sys2Proof.Machine
end

