-- ==== Sys2Proof/Machine/Events.lean ====
section
/-! DEFINITION. Sending messages to Badger, its slots and history, and the event lines with their FIFO (R581 to R602).
What Badger's reactions do to the device stands in Machine/Badger.lean. -/

namespace Sys2Proof.Machine

/-! ### Levels (Table 15.5) -/

def Level.toNat : Level → Nat
  | .note => 0
  | .warn => 1
  | .error => 2
  | .trip => 3
  | .halt => 4

/-- The level of a number 0 to 4. -/
def levelOf (k : Nat) : Level :=
  if k = 0 then .note else if k = 1 then .warn else if k = 2 then .error else if k = 3 then .trip else .halt

def Level.max (a b : Level) : Level := if a.toNat ≤ b.toNat then b else a

def Level.min (a b : Level) : Level := if a.toNat ≤ b.toNat then a else b

/-- The next level up; nothing lies above HALT. -/
def Level.up (a : Level) : Level := levelOf (a.toNat + 1)

/-! ### Sources and classes (Tables 15.2 to 15.4) -/

def srcTsf : BitVec 6 := 0x00
def srcClock : BitVec 6 := 0x01
def srcRef : BitVec 6 := 0x02
def srcProt : BitVec 6 := 0x03
def srcApp : BitVec 6 := 0x04
def srcHamper : BitVec 6 := 0x05
def srcCh (n : Ch) : BitVec 6 := BitVec.ofNat 6 (8 + n.val)
def srcPort (p : Port) : BitVec 6 := BitVec.ofNat 6 (16 + p.val)
def srcTree : BitVec 6 := 0x13
def srcFsp : BitVec 6 := 0x14

/-- The channel that a source names. -/
def chOfSource (src : BitVec 6) : Option Ch := if src.toNat < 8 then none else chOf (src.toNat - 8)

/-- The class of a kind: bits [7:4] (Table 15.1). -/
def classOf (kind : Byte) : BitVec 4 := kind.extractLsb' 4 4

/-- Table 15.4: the ceiling of a class. -/
def ceilingOf (cls : BitVec 4) : Level :=
  match cls.toNat with
  | 0 | 3 | 4 | 10 | 11 | 13 => .warn
  | 14 | 15 => .error
  | _ => .halt

/-! ### Messages (R581, R584) -/

/-- TBC[31:8], the TIME of a message (Table 15.1). -/
def State.msgTime (s : State) : BitVec 24 := s.clk.tbc.extractLsb' 8 24

/-- The 64 bits of a message (Table 15.1). -/
def Msg.word (m : Msg) : W64 := ((0 : BitVec 2) ++ m.source) ++ m.kind ++ m.detail ++ m.time

/-- An injection has the reference monitor report REFOUT outside ±1% (Table 15.9). -/
def Badger.refInjected (b : Badger) : Bool := b.testActive && b.injections.any (·.target == 4)

/-- A detector on which an injection acts: its message is marked INJECTED (R606, Table 15.9). -/
def injectedBy (s : State) (src : BitVec 6) (kind : Byte) (detail : BitVec 24) : Bool :=
  s.badger.testActive && s.badger.injections.any fun j =>
    match j.target with
    | 1 => (kind == 0x50 || kind == 0x51) && j.arg == 2 * (src.toNat - 8) + (kind.toNat - 0x50) && (chOfSource src).isSome
    | 2 => kind == 0xC1 && j.arg == detail.toNat
    | 3 => kind == 0xC0 && j.arg == detail.toNat
    | 4 => kind == 0x20 || kind == 0x21
    | 5 => kind == 0x10
    | 6 => (kind == 0xD2 || kind == 0xD3) && src.toNat == 16 + j.arg
    | _ => false

/-- A message as its source sends it now (Table 15.1). -/
def newMsg (s : State) (src : BitVec 6) (kind : Byte) (base : Level) (detail : BitVec 24) (forced : Bool) : Msg :=
  { source := src, kind := kind, base := base, detail := detail, time := s.msgTime, forced := forced,
    injected := !forced && injectedBy s src kind detail, loss := s.badger.lossDue.getLsbD src.toNat }

/-- A source sends a message: its queue of 8 takes it, or it is lost (R584). A message that the queue takes carries LOSS
when one of its source was lost since the last it took. -/
def sendFull (s : State) (src : BitVec 6) (kind : Byte) (base : Level) (detail : BitVec 24) (forced : Bool) : State :=
  let b := s.badger
  if 8 ≤ b.queue.countP (fun m => m.source == src) then
    { s with badger := { b with msgLost := b.msgLost.inc, lossDue := b.lossDue ||| BitVec.twoPow 64 src.toNat } }
  else
    { s with badger := { b with queue := b.queue ++ [newMsg s src kind base detail forced], lossDue := b.lossDue &&& ~~~(BitVec.twoPow 64 src.toNat) } }

/-- A message of a detector (Table 15.3). -/
def sendMsg (s : State) (src : BitVec 6) (kind : Byte) (base : Level) (detail : Nat) : State :=
  sendFull s src kind base (BitVec.ofNat 24 detail) false

/-! ### Slots and history -/

/-- The open slot of a class and source, if it is open (R585). -/
def Badger.slot (b : Badger) (cls : BitVec 4) (src : BitVec 6) : Option Slot :=
  b.slots.find? fun x => x.cls == cls && x.source == src

/-- The order in which open slots are listed: by class and then source. -/
def slotBefore (a b : Slot) : Bool :=
  a.cls.toNat < b.cls.toNat || (a.cls == b.cls && a.source.toNat < b.source.toNat)

/-- An open slot put in its place, in place of the one with its class and source. -/
def putSlot (x : Slot) : List Slot → List Slot
  | [] => [x]
  | y :: ys =>
    if y.cls == x.cls && y.source == x.source then x :: ys
    else if slotBefore x y then x :: y :: ys
    else y :: putSlot x ys

/-- A slot closes: its COUNT is 0 and every history entry of it gains ACKED (R596). -/
def Badger.closeSlot (b : Badger) (cls : BitVec 4) (src : BitVec 6) : Badger :=
  if (b.slot cls src).isSome then
    { b with
      slots := b.slots.filter fun x => !(x.cls == cls && x.source == src)
      history := b.history.map fun h =>
        if classOf h.msg.kind == cls && h.msg.source == src then { h with acked := true } else h }
  else b

/-- Every slot closes (R594). -/
def Badger.closeAll (b : Badger) : Badger := b.slots.foldl (fun b x => b.closeSlot x.cls x.source) b

/-- FAULT_n is low outside RUN and while a slot is open at ERROR or above (R597). -/
def State.faultLow (s : State) : Bool :=
  s.dev.state != .run || s.badger.slots.any fun x => 2 ≤ x.level.toNat

/-- A message enters the history (R592); at most 32 entries stand. -/
def Badger.store (b : Badger) (m : Msg) (level : Level) (count : Nat) : Badger :=
  let seq := b.histSeq.inc
  let e : HistEntry := { msg := m, level := level, count := count, acked := false, seq := seq.value }
  { b with
    histSeq := seq
    histDropped := if 32 ≤ b.history.length then b.histDropped.inc else b.histDropped
    history := (e :: b.history).take 32 }

/-- The status word of a history entry (Table 15.6). -/
def HistEntry.status (h : HistEntry) : Word :=
  BitVec.ofNat 32 (h.level.toNat + 16 * h.msg.base.toNat + 256 * bNat (decide (h.msg.base.toNat < h.level.toNat))
    + 512 * bNat h.msg.forced + 1024 * bNat h.msg.injected + 2048 * bNat h.acked + 4096 * bNat h.msg.loss
    + 65536 * h.count)

/-- The 16 bytes of a history entry (R592). -/
def HistEntry.bytes (h : HistEntry) : List Byte :=
  natBytes 8 h.msg.word.toNat ++ natBytes 4 h.status.toNat ++ natBytes 4 h.seq.toNat

/-! ### Events (R599 to R601) -/

/-- The lines (R599). -/
def evData : Fin 4 := 0
def evSeq : Fin 4 := 1
def evFault : Fin 4 := 2
def evMgmt : Fin 4 := 3

/-- An event record enters the FIFO of 64, or is dropped and counted (R601). -/
def Events.record (v : Events) (r : EventRec) : Events :=
  if 64 ≤ v.fifo.length then { v with fifoLost := v.fifoLost.inc, lostSince := v.lostSince + 1 }
  else { v with fifo := v.fifo ++ [{ r with lost := Nat.min v.lostSince 65535 }], lostSince := 0 }

/-- A cause arises on a line: with its mask bit set it is an event, which sets PENDING, counts, drives the line and
writes a record (R599 to R601). -/
def raiseWith (s : State) (line : Fin 4) (cause : Nat) (detail : Nat) (message : W64) : State :=
  let l := s.events.lines[line.val]
  if l.mask.getLsbD cause then
    let l' : EventLine :=
      { l with pending := l.pending ||| BitVec.twoPow 32 cause, count := l.count.inc, pulsing := l.pulsing || l.pulse }
    let r : EventRec :=
      { line := line, cause := cause, node := s.ronko.node.id.getD 0xFFFF, lost := 0, tbc := s.clk.tbc,
        detail := BitVec.ofNat 32 detail, message := message }
    { s with events := { s.events.record r with lines := s.events.lines.set line.val l' } }
  else s

/-- An event without a message. -/
def raiseEvent (s : State) (line : Fin 4) (cause : Nat) (detail : Nat) : State := raiseWith s line cause detail 0

/-- The 32 bytes of an event record (Table 15.8). -/
def EventRec.bytes (r : EventRec) : List Byte :=
  [BitVec.ofNat 8 r.line.val, BitVec.ofNat 8 r.cause] ++ natBytes 2 r.node.toNat ++ natBytes 2 r.lost ++ [0, 0]
    ++ natBytes 8 r.tbc.toNat ++ natBytes 4 r.detail.toNat ++ [0, 0, 0, 0] ++ natBytes 8 r.message.toNat

/-- Whether the ball EVTx_n is low: a pulse in pulse form, PENDING in level form; released outside RUN and HALT (R600). -/
def State.evtLow (s : State) (x : Fin 4) : Bool :=
  let l := s.events.lines[x.val]
  (s.dev.state == .run || s.dev.state == .halt) && (if l.pulse then l.pulsing else l.pending != 0)

/-- A new device state is an MGMT event (R217, Table 15.7). -/
def deviceCode : DeviceState → Nat
  | .reset => 0
  | .boot => 1
  | .verify => 2
  | .safe => 3
  | .run => 4
  | .halt => 5

/-- ALERT is high: a pulse runs, or ALERT_SW stands; low in BOOT, VERIFY and SAFE, and released in RESET (R598). -/
def State.alertHigh (s : State) : Bool :=
  match s.dev.state with
  | .run | .halt => s.badger.alertPulsing || s.badger.alertSw
  | _ => false

end Sys2Proof.Machine
end

