-- ==== Sys2Proof/Machine/Output.lean ====
section
/-! DEFINITION. Output DACs, clamps, range changes, fast steps, CLR_n and triggers (R40, R41, R380 to R416): the
operations on one channel's output, and the objects of Table 1.5 and Table 10.6. -/

namespace Sys2Proof.Machine

/-! ### What DACn_OUT presents (Table 10.2) -/

/-- The clear code (Table 1.5). -/
def Channel.clearCode (c : Channel) : Nat := c.decl.clearCode

/-- FAST_CODE; ZERO_CODE until it is written (Table 10.6). -/
def Channel.fastCode (c : Channel) : Nat := c.fast.code.getD c.zeroCode

/-- Either clamp of the channel is tripped. -/
def Clamp.tripped (k : Clamp) : Bool := k.trippedV || k.trippedI

/-- The code that the rows of Table 10.2 below the first two give. -/
def Channel.driveCode (c : Channel) : Nat :=
  if c.out.clrHeld then c.clearCode
  else if c.clamp.tripped then c.clamp.code
  else if c.out.clrKeep then c.clearCode
  else if c.out.enabling then c.zeroCode
  else if c.out.holdTick then c.last.code
  else if c.out.fastHeld then c.fast.held
  else c.out.code

/-- The code that DACn_OUT presents, or would present were it not high impedance (R47, R386). -/
def Channel.presented (c : Channel) : Nat :=
  if c.sources then c.driveCode else if c.out.faultHold then c.clearCode else c.out.code

/-- DAC_STATE (Table 10.2). -/
def dacState (s : State) (c : Channel) : Nat :=
  if s.dev.state == .reset then 0
  else if !c.sources then (if c.mode.mode == .off && c.out.faultHold then 5 else 0)
  else if c.out.clrHeld then 4
  else if c.clamp.tripped then 3
  else if c.out.clrKeep then 4
  else if c.out.enabling then 2
  else if c.out.holdTick then 6
  else if c.out.fastHeld then 7
  else 1

/-- The ball presents a code between two boundaries; LAST_U follows it (R265), LAST_CODE does not (R47). -/
def Channel.present (c : Channel) : Channel := { c with last := { c.last with code := c.presented } }

/-- The ball presents a code at a tick boundary or a phase instant, which LAST_CODE shows (R47, R265, R284). -/
def Channel.show (c : Channel) : Channel :=
  { c with last := { c.last with code := c.presented, shown := c.presented } }

/-- A code joins the queue; with 16 codes in it the oldest is discarded (R384). -/
def Channel.push (c : Channel) (code : Nat) : Channel :=
  let q := if 16 ≤ c.out.queue.length then c.out.queue.tail else c.out.queue
  { c with out := { c.out with queue := q ++ [code] } }

/-- The update instant: the DAC takes the head code, if there is one, and the rows that last until an update instant end
(R384, Table 10.2). -/
def Channel.update (c : Channel) : Channel :=
  let o := c.out
  let o := match o.queue with
    | [] => { o with queueLevel := 0 }
    | x :: rest => { o with code := x, queue := rest, queueLevel := rest.length }
  ({ c with out := { o with fastHeld := false, clrKeep := false } } : Channel).show

/-- PSTn_EN is high: in RUN, out of OFF and METER, the stage raised by the enabling sequence and not dropped by a clamp
(R25, R231, R244, R393). -/
def pstHigh (s : State) (n : Ch) : Bool :=
  let c := s.chan n
  s.running && c.sources && c.mode.enable != some .started && !c.clamp.pstDropped

/-- The range legs driven high (R32, R33); none in RESET. -/
def legsHigh (s : State) (n : Ch) : List Nat :=
  let c := s.chan n
  if s.dev.state == .reset then []
  else if !s.running || c.mode.mode == .off then [c.decl.rangeCount - 1]
  else match c.rng.phase, c.rng.target with
    | .make, some k => [c.range, k]
    | .hold, some k => [c.range, k]
    | _, _ => [c.range]

/-! ### Clamps (R40, R391 to R396) -/

/-- The clamp code latched at a trip (R394). -/
def Channel.tripCode (c : Channel) : Nat :=
  if c.out.clampMode = 0 then c.zeroCode
  else
    let p := c.presented
    let z := c.zeroCode
    if z ≤ p then Nat.max z (p - c.out.clampBackoff) else Nat.min z (p + c.out.clampBackoff)

/-- The kind of a clamp message, and the threshold in its detail (Table 15.3). -/
def clampKind (p : ClampPath) : Byte := match p with | .v => 0x50 | .i => 0x51

def Clamp.thr (k : Clamp) (p : ClampPath) : Nat := match p with | .v => k.thrV | .i => k.thrI

def Clamp.trippedOn (k : Clamp) (p : ClampPath) : Bool := match p with | .v => k.trippedV | .i => k.trippedI

/-- PST_DROP has a 1 for the path: [0] voltage, [1] current. -/
def Out.dropsOn (o : Out) (p : ClampPath) : Bool := match p with | .v => o.pstDrop.getLsbD 0 | .i => o.pstDrop.getLsbD 1

/-- A clamp comparator of a channel trips (R393, R394, R396). In OFF the clamps are not armed (R228); a path that is
tripped already makes no new trip (R395). -/
def clampTrip (s : State) (n : Ch) (p : ClampPath) : State :=
  let c := s.chan n
  if c.mode.mode == .off || c.clamp.trippedOn p then s
  else
    let k := c.clamp
    let k' : Clamp :=
      { k with
        trippedV := k.trippedV || p == .v
        trippedI := k.trippedI || p == .i
        seen := true
        code := if k.tripped then k.code else c.tripCode
        pstDropped := k.pstDropped || c.out.dropsOn p
        trips := k.trips.inc }
    let s := s.modCh n fun c => ({ c with clamp := k', fe := { c.fe with clampSeen := true } } : Channel).present
    sendMsg s (srcCh n) (clampKind p) .warn (k.thr p)

/-- CLAMP_TRIP. -/
def execClampTrip (n : Ch) (p : ClampPath) (s : State) : Host.Outcome State Fault Refusal := .next (clampTrip s n p)

/-- Every tripped path has met the release condition of R395, and no injection holds its comparator. -/
def Channel.mayRelease (c : Channel) : Bool :=
  let k := c.clamp
  k.tripped && (!k.trippedV || (decide (c.out.clampRel ≤ k.relV) && !k.injV))
    && (!k.trippedI || (decide (c.out.clampRel ≤ k.relI) && !k.injI))

/-- A tripped clamp releases at a tick boundary (R395): the ball passes to the next active row (R386), and the window
and the evaluation that begin there have seen no trip. -/
def Channel.release (c : Channel) : Channel :=
  ({ c with clamp := { c.clamp with trippedV := false, trippedI := false, pstDropped := false, seen := false },
            fe := { c.fe with clampSeen := false } } : Channel).show

/-- CLAMP_RELEASE: at a tick boundary at which the release condition holds. -/
def execClampRelease (n : Ch) (s : State) : Host.Outcome State Fault Refusal :=
  .next (if (s.chan n).mayRelease then s.modCh n Channel.release else s)

/-- CLAMP_HOLD_REPEAT: another CLAMP_HOLD of an episode has elapsed (R396). -/
def execClampHoldRepeat (n : Ch) (p : ClampPath) (s : State) : Host.Outcome State Fault Refusal :=
  let k := (s.chan n).clamp
  .next (if k.trippedOn p then sendMsg s (srcCh n) (clampKind p) .warn (k.thr p + 0x10000) else s)

/-! ### CLR_n (R387, R388) -/

/-- CLR_N_FALL: every channel with CLR_EN whose output is driven holds its clear code; in RUN alone. -/
def execClrNFall (s : State) : Host.Outcome State Fault Refusal :=
  if s.running then
    let s := { s with trig := { s.trig with clrN := false, clrCount := s.trig.clrCount.inc } }
    .next (s.modAllCh fun _ c =>
      if c.actSp.clrEn && c.sources then ({ c with out := { c.out with clrHeld := true } } : Channel).present else c)
  else .next { s with trig := { s.trig with clrN := false } }

/-- A channel is released by CLR_n (R388): with CLR_RESUME 1 the queue is emptied and the next run is a bumpless entry
that starts from the clear code. -/
def Channel.clrRelease (c : Channel) : Channel :=
  if c.out.clrHeld then
    if c.actSp.clrResume = 1 then
      ({ c with out := { c.out with clrHeld := false, queue := [], queueLevel := 0, code := c.clearCode },
                loop := { c.loop with first := true } } : Channel).present
    else ({ c with out := { c.out with clrHeld := false, clrKeep := true } } : Channel).present
  else c

/-- CLR_N_RISE. -/
def execClrNRise (s : State) : Host.Outcome State Fault Refusal :=
  .next ({ s with trig := { s.trig with clrN := true } }.modAllCh fun _ c => c.clrRelease)

/-! ### Range changes (R397 to R407) -/

/-- Ticks of RNG_SETTLE: at least 1, rounded up, with T = N · 25 ns (R399). -/
def settleTicks (n us : Nat) : Nat := Nat.max 1 ((40 * us + n - 1) / n)

/-- A range change is accepted and has not ended. -/
def Ranging.running (r : Ranging) : Bool := r.target.isSome

/-- The verdict of Table 10.3 on a range request; `step` marks a sweep step's request. A request for the active range changes
nothing, so R234 does not refuse it (R397, R645). -/
def rangeCode (s : State) (n : Ch) (v : Nat) (step : Bool) : Byte :=
  let c := s.chan n
  if c.decl.rangeCount ≤ v then eRange
  else if c.forcesI && !(c.range = v && !c.rng.running) && !(((f32Val c.sp.active).abs).le (c.iFs v)) then eRange
  else match c.mode.mode with
    | .off | .tune => eMode
    | m =>
      if !step && (m == .fvList || m == .fiList) then eMode
      else if c.rng.running || c.mode.status == .enabling || c.mode.status == .safeRamp then eNotReady
      else eOk

/-- The method of a change (R398): 0 make-before-break, 1 hold-and-switch, 2 no overlap. -/
def Channel.rangeMethod (c : Channel) : Nat :=
  match c.mode.mode with
  | .meter => 2
  | .nested => if c.sp.outerQty ≤ 1 then 1 else 0
  | _ => 0

/-- A range change is in progress up to its switch tick. -/
def Channel.rangeRuns (c : Channel) : Bool := c.rng.changing

/-- The accepted mode change waits for the range change that was in progress at its acceptance, and for no later one
(R238). -/
def Channel.waitsRange (c : Channel) : Bool := c.mode.status == .waitRange && !c.mode.switched

/-- An accepted mode change takes effect at the boundary in hand (R238). -/
def Channel.leavesNow (c : Channel) : Bool := c.mode.pending.isSome && !c.waitsRange

/-- A mode change, entry to OFF or a range change disarms an armed step (R410). -/
def Channel.disarm (c : Channel) : Channel :=
  if c.fast.state == .armed then { c with fast := { c.fast with state := .idle } } else c

/-- A range request is accepted: nothing changes for the range already active (R397). -/
def Channel.acceptRange (c : Channel) (v : Nat) : Channel :=
  if c.range = v && !c.rng.running then { c with rng := { c.rng with req := some v } }
  else { c.disarm with rng := { c.rng with req := some v, target := some v, changing := true, method := c.rangeMethod } }

/-- A range change in progress is abandoned, and the pattern of R33 is driven (R406). -/
def Channel.abandonRange (c : Channel) : Channel :=
  { c with rng := { c.rng with target := none, changing := false, phase := .idle, bridge := false, left := 0,
                               stepReq := none, active := none },
           out := { c.out with holdTick := false } }

/-- The number of the inner program in force: ROM PI in IDLE and after R251, else PROG_MAIN (Table 7.1). -/
def Channel.innerProg (c : Channel) : Byte :=
  if c.mode.mode == .idle || c.mode.romPi then 0x01 else c.actProg.progMain

/-- The preset slot and the rescale mask of the inner program that a channel runs (Tables 7.6 and 7.8). -/
def Channel.presetSlot (c : Channel) : Nat :=
  if c.innerProg = 0x80 then ((c.actProg.userMain.map (·.presetSlot.val))).getD 0 else 0

def Channel.rescaleMask (c : Channel) : W16 :=
  if c.innerProg = 0x80 then (c.actProg.userMain.map (·.rescaleMask)).getD 0
  else if c.innerProg = 0x02 then 0x001E else 0x0006

/-- The same of the outer program; the ROM outer program rescales s0 in a current-forcing mode (Table 7.8). -/
def Channel.outerPresetSlot (c : Channel) : Nat :=
  if c.actProg.progOuter = 0x81 then ((c.actProg.userOuter.map (·.presetSlot.val))).getD 0 else 0

def Channel.outerMask (c : Channel) : W16 :=
  if c.actProg.progOuter = 0x81 then (c.actProg.userOuter.map (·.rescaleMask)).getD 0
  else if c.mode.forceKind = 1 then 0x0001 else 0

/-- An amount added to a slot, rounded and saturated under R262. -/
def addSlot (v : Vector Word 16) (j : Nat) (x : Q) : Vector Word 16 :=
  v.setIfInBounds j (((q30Val (v[j]?.getD 0)).add x).toQ30)

/-- The feed-forward of R403 for a change of resistance from `ra` to `rb`. -/
def Channel.feedForward (c : Channel) (ra rb : Q) : Channel :=
  if c.rng.ff then
    let du := ((f32Val c.rng.iBr).mul (rb.sub ra)).div c.vFs
    { c with slots := { c.slots with s := addSlot c.slots.s c.presetSlot du } }
  else c

/-- The states a mask names multiplied by the ratio of full scales, which is held in binary64 (R294). -/
def rescaleSlots (mask : W16) (ratio : F64) (v : Vector Word 16) : Vector Word 16 :=
  v.mapIdx fun j w => if mask.getLsbD j then ((q30Val w).mul (f64Val ratio)).toQ30 else w

/-- What the engine does at the switch boundary (R294): the bank follows RANGE_ACTIVE; in current-forcing modes the masked
states are rescaled. -/
def Channel.switchBank (c : Channel) (old new : Nat) : Channel :=
  if c.forcesI then
    let ratio := ((c.iFs old).div (c.iFs new)).toF64
    { c with slots := { c.slots with s := rescaleSlots c.rescaleMask ratio c.slots.s,
                                     outerS := if c.mode.mode == .nested then rescaleSlots c.outerMask ratio c.slots.outerS
                                       else c.slots.outerS },
             loop := { c.loop with outerOut := if c.mode.mode == .nested then
                                     ((q30Val c.loop.outerOut).mul (f64Val ratio)).toQ30 else c.loop.outerOut } }
  else c

/-! ### Fast steps (R408 to R410) -/

/-- An armed fast step fires (R410, items 1 and 2). -/
def Channel.fireFast (c : Channel) : Channel :=
  if c.fast.state == .armed then
    ({ c with out := { c.out with fastHeld := true, code := c.fastCode, queue := [], queueLevel := 0 },
              fast := { c.fast with state := .fired, held := c.fastCode, due := (c.fast.sp, c.mode.mode == .fi) :: c.fast.due } } : Channel).present
  else c

/-- FAST_FIRE. -/
def execFastFire (n : Ch) (s : State) : Host.Outcome State Fault Refusal := .next (s.modCh n Channel.fireFast)

/-! ### Trigger outputs (R412) -/

/-- A pulse source fires: each trigger output on it drives or extends its pulse; in RUN alone. -/
def firePulse (s : State) (src arg : Nat) : State :=
  if s.running then
    { s with trig := { s.trig with outs := s.trig.outs.map fun o =>
        if o.src == src && (src == 2 || o.arg == arg) then { o with pulsing := true } else o } }
  else s

/-- TRIGOUT_PULSE_END: 100 ns after the latest firing. -/
def execTrigoutPulseEnd (j : Fin 4) (s : State) : Host.Outcome State Fault Refusal :=
  .next { s with trig := { s.trig with
    outs := s.trig.outs.set j.val { s.trig.outs[j.val] with pulsing := false } } }

/-- The level of TRIGOUTj (Table 10.5). -/
def trigoutHigh (s : State) (j : Fin 4) : Bool :=
  let o := s.trig.outs[j.val]
  s.running &&
    match o.src with
    | 0 => o.level
    | 1 => (s.trig.pwgs[o.arg]?.map (·.out)).getD false
    | 4 => (match chOf o.arg with
      | some n => (s.chan n).clamp.tripped
      | none => false)
    | _ => o.pulsing

/-! ### Objects of Table 1.5 (R42 to R44) -/

/-- SHUNT_OHMS strictly increases over the declared ranges (R43). -/
def shuntsRise (d : Decl) : Bool :=
  (List.range (d.rangeCount - 1)).all fun k =>
    (f32Val (d.shuntOhms.toList.getD k 0)).lt (f32Val (d.shuntOhms.toList.getD (k + 1) 0))

/-- STAGE_GAIN suits the kind of output (Table 1.5, R43). -/
def gainSuits (d : Decl) : Bool :=
  let g := (f32Val d.stageGain).abs
  if d.dacKind = 0 then fWithin ⟨1, 10⟩ ⟨100, 1⟩ g else fWithin ⟨100, 1⟩ ⟨1000000, 1⟩ g

/-- A stage declaration took effect: CLEAR_CODE becomes the new ZERO_CODE and DRIVE_SCALE is computed anew (R44, R264). -/
def Channel.stageChanged (c : Channel) : Channel :=
  { c with decl := { c.decl with clearCode := c.zeroCode }, prog := { c.prog with driveScale := c.driveScaleOf } }

/-- A calibration set returns to offset 0 and gain 1 and its valid bit clears: 0 the ADC A set, 1 + k that of range k, 5
that of METER. -/
def Conv.clearSet (v : Conv) (k : Nat) : Conv :=
  { v with sets := v.sets.setIfInBounds k {}, calValid := v.calValid &&& ~~~(BitVec.twoPow 6 k),
           zeroMean := if v.calSet = k then none else v.zeroMean, fullMean := if v.calSet = k then none else v.fullMean }

/-- A running calibration capture of the channel is abandoned (R369). -/
def Conv.abort (v : Conv) : Conv :=
  if v.calStatus == .capturing then { v with calStatus := .aborted, capLeft := 0, capSum := 0, capOpen := false } else v

/-- A declaration is written only in OFF (R42); an accepted change abandons a calibration capture (R369). -/
def declObj (n : Ch) (o : Obj) : Obj :=
  { o with
    mode := fun w => (w.post.chan n).mode.mode == .off
    put := fun w s => (o.put w s).modCh n fun c => { c with conv := c.conv.abort } }

/-- Obj 0x2008.01 DAC_OUT_KIND. -/
def objDacKind (n : Ch) : Obj := declObj n
  { chNat n tU8 .rws (fun v => v ≤ 1) (·.decl.dacKind)
      (fun v c => ({ c with decl := { c.decl with dacKind := v } } : Channel).stageChanged) with
    range := fun w => decide (w.v ≤ 1) && gainSuits (w.post.chan n).decl }

/-- Obj 0x2008.02 DAC_GAIN. -/
def objDacGain (n : Ch) : Obj := declObj n
  (chNat n tU8 .rws (within 1 2) (·.decl.dacGain)
    fun v c => ({ c with decl := { c.decl with dacGain := v } } : Channel).stageChanged)

/-- Obj 0x2008.03 STAGE_GAIN. -/
def objStageGain (n : Ch) : Obj := declObj n
  { chF32 n .rws (fun _ => true) (·.decl.stageGain)
      (fun v c => ({ c with decl := { c.decl with stageGain := v } } : Channel).stageChanged) with
    range := fun w => gainSuits { (w.post.chan n).decl with stageGain := w.word } && gainSuits (w.post.chan n).decl }

/-- Obj 0x2008.04 STAGE_OFFSET. -/
def objStageOffset (n : Ch) : Obj := declObj n
  (chF32 n .rws (fWithin ⟨-100, 1⟩ ⟨100, 1⟩) (·.decl.stageOffset)
    fun v c => ({ c with decl := { c.decl with stageOffset := v } } : Channel).stageChanged)

/-- Obj 0x2008.05 RANGE_COUNT. -/
def objRangeCount (n : Ch) : Obj := declObj n
  { chNat n tU8 .rws (within 1 4) (·.decl.rangeCount) (fun v c => { c with decl := { c.decl with rangeCount := v } }) with
    range := fun w => within 1 4 w.v && shuntsRise (w.post.chan n).decl }

/-- Obj 0x2008.06 RNG_SETTLE. -/
def objRngSettle (n : Ch) : Obj := declObj n
  (chNat n tU16 .rws (within 0 10000) (·.decl.rngSettle) fun v c => { c with decl := { c.decl with rngSettle := v } })

/-- Obj 0x2008.08 CLEAR_CODE. -/
def objClearCode (n : Ch) : Obj := declObj n
  (chNat n tU32 .rws (within 0 262143) (·.decl.clearCode) fun v c => { c with decl := { c.decl with clearCode := v } })

/-- Obj 0x2009.01 V_ATTEN. -/
def objVAtten (n : Ch) : Obj := declObj n
  (chF32 n .rws (fWithin ⟨1, 1⟩ ⟨100, 1⟩) (·.decl.vAtten)
    fun v c =>
      let c : Channel := { c with decl := { c.decl with vAtten := v }, conv := (c.conv.clearSet 0).clearSet 5 }
      { c with prog := { c.prog with driveScale := c.driveScaleOf } })

/-- Obj 0x200A SHUNT_OHMS[k]. -/
def objShunt (n : Ch) (k : Nat) : Obj := declObj n
  { chF32 n .rws (fWithin ⟨1, 1000⟩ ⟨100000000, 1⟩) (fun c => c.decl.shuntOhms[k]?.getD 0)
      (fun v c => { c with decl := { c.decl with shuntOhms := c.decl.shuntOhms.setIfInBounds k v },
                           conv := c.conv.clearSet (1 + k) }) with
    range := fun w => fWithin ⟨1, 1000⟩ ⟨100000000, 1⟩ w.f && shuntsRise (w.post.chan n).decl }

/-- Obj 0x200B I_AMP_GAIN[k]. -/
def objAmpGain (n : Ch) (k : Nat) : Obj := declObj n
  (chF32 n .rws (fWithin ⟨1, 10⟩ ⟨1000, 1⟩) (fun c => c.decl.iAmpGain[k]?.getD 0)
    fun v c => { c with decl := { c.decl with iAmpGain := c.decl.iAmpGain.setIfInBounds k v },
                        conv := c.conv.clearSet (1 + k) })

/-- The signal-path objects of a channel by local index and element (Table 1.5). -/
def objsSignal (n : Ch) (j el : Nat) : Option Obj :=
  match j with
  | 0x08 => match el with
    | 0x01 => some (objDacKind n)
    | 0x02 => some (objDacGain n)
    | 0x03 => some (objStageGain n)
    | 0x04 => some (objStageOffset n)
    | 0x05 => some (objRangeCount n)
    | 0x06 => some (objRngSettle n)
    | 0x07 => some (chRo n tU32 Channel.zeroCode)
    | 0x08 => some (objClearCode n)
    | _ => none
  | 0x09 => match el with
    | 0x01 => some (objVAtten n)
    | 0x02 => some (chRo n tF32 fun c => c.vFs.toF32.toNat)
    | _ => none
  | 0x0A => if 1 ≤ el ∧ el ≤ 4 then some (objShunt n (el - 1)) else none
  | 0x0B => if 1 ≤ el ∧ el ≤ 4 then some (objAmpGain n (el - 1)) else none
  | 0x0C => if 1 ≤ el ∧ el ≤ 4 then some (chRo n tF32 fun c => (c.iFs (el - 1)).toF32.toNat) else none
  | 0x0D => match el with
    | 0x01 => some (chRo n tU8 Channel.range)
    | 0x02 => some (chRo n tBool fun c => bNat c.rng.changing)
    | _ => none
  | 0x0E => match el with
    | 0x01 => some (chRo n tF32 fun c => c.last.v.toNat)
    | 0x02 => some (chRo n tF32 fun c => c.last.i.toNat)
    | 0x03 => some (chRo n tU32 fun c => c.last.shown)
    | 0x04 => some (chRo n tU64 fun c => c.last.tick.toNat)
    | _ => none
  | _ => none

/-! ### Objects of Table 10.6 -/

/-- RANGE_REQ (R397). -/
def objRangeReq (n : Ch) : Obj :=
  { ty := tU8, acc := .rws, scope := fun _ => .chan n
    read := fun _ s => natBytes 1 ((s.chan n).rng.req.getD ((s.chan n).decl.rangeCount - 1))
    range := fun w => rangeCode w.post n w.v false != eRange
    mode := fun w => rangeCode w.pre n w.v false != eMode
    state := fun w =>
      if rangeCode w.seq n w.v false == eNotReady && !((w.seq.chan n).range == w.v && !(w.seq.chan n).rng.running) then eNotReady
      else eOk
    put := fun w s => s.modCh n fun c => c.acceptRange w.v }

/-- COMPL_V or COMPL_I (R391). -/
def objCompl (n : Ch) (top : Q) (lim : Limits → F32) (get : Channel → F32) (set : F32 → Channel → Channel) : Obj :=
  { chF32 n .rws (fWithin Q.zero top) get set with instr := fun w => w.f.le (f32Val (lim (w.post.chan n).lim)) }

/-- A staged fast-step setting: not while ARMED (R408). -/
def fastObj (n : Ch) (o : Obj) : Obj :=
  { o with state := fun w => if (w.seq.chan n).fast.state == .armed then eNotReady else eOk }

/-- FAST_ARM (R408). -/
def objFastArm (n : Ch) : Obj :=
  { ty := tU8, acc := .cmd, scope := fun _ => .chan n
    range := fun w =>
      let c := w.post.chan n
      let f := (f32Val c.fast.sp).abs
      w.v == 1 && c.fast.src != 0 &&
        (if c.forcesI then f.le (Q.ofNat 100) && f.le (c.iFs c.range) else f.le (Q.ofNat 1000))
    mode := fun w => (w.pre.chan n).mode.mode == .fv || (w.pre.chan n).mode.mode == .fi
    instr := fun w =>
      let c := w.post.chan n
      ((f32Val c.fast.sp).abs).le (f32Val (if c.forcesI then c.lim.iMax else c.lim.vMax))
    put := fun _ s => s.modCh n fun c => { c with fast := { c.fast with state := .armed } } }

/-- The output objects of a channel by local index and element (Table 10.6). -/
def objsOutput (n : Ch) (j el : Nat) : Option Obj :=
  match j with
  | 0x20 => match el with
    | 0x01 => some (chNat n tU8 .rws (within 0 1) (·.out.faultAct) fun v c => { c with out := { c.out with faultAct := v } })
    | 0x02 => some (chNat n tBool .rws (within 0 1) (fun c => bNat c.out.clrEn)
        fun v c => { c with out := { c.out with clrEn := v == 1 } })
    | 0x03 => some (chNat n tU8 .rw (within 0 1) (·.out.clrResume) fun v c => { c with out := { c.out with clrResume := v } })
    | 0x04 => some (roNat tU8 fun s => dacState s (s.chan n))
    | 0x05 => some (chRo n tU8 (·.out.queueLevel))
    | _ => none
  | 0x21 => match el with
    | 0x01 => some (objRangeReq n)
    | 0x02 => some (chRo n tU8 fun c => match c.rng.phase with | .idle => 0 | .make => 1 | .break_ => 2 | .hold => 3)
    | 0x03 => some (chRo n tU8 (·.rng.method))
    | 0x04 => some (chNat n tBool .rw (within 0 1) (fun c => bNat c.rng.ff)
        fun v c => { c with rng := { c.rng with ff := v == 1 } })
    | 0x05 => some (chRo n tU32 fun c => c.rng.changes.value.toNat)
    | 0x06 => some (chRo n tU64 fun c => c.rng.lastEdge.toNat)
    | 0x07 => some (chRo n tF32 fun c => c.rng.bridgeErr.toNat)
    | _ => none
  | 0x22 => match el with
    | 0x01 => some (objCompl n (Q.ofNat 1000) (·.vMax) (·.out.complV) fun v c => { c with out := { c.out with complV := v } })
    | 0x02 => some (objCompl n (Q.ofNat 100) (·.iMax) (·.out.complI) fun v c => { c with out := { c.out with complI := v } })
    | 0x03 => some (chNat n tU8 .rw (within 0 1) (·.out.clampMode) fun v c => { c with out := { c.out with clampMode := v } })
    | 0x04 => some (chNat n tU32 .rw (within 1 131072) (·.out.clampBackoff)
        fun v c => { c with out := { c.out with clampBackoff := v } })
    | 0x05 => some (chNat n tU8 .rw (within 1 63) (·.out.clampHyst) fun v c => { c with out := { c.out with clampHyst := v } })
    | 0x06 => some (chNat n tU16 .rw (within 1 65535) (·.out.clampRel) fun v c => { c with out := { c.out with clampRel := v } })
    | 0x07 => some (chF32 n .rw (fWithin ⟨1, 1000⟩ ⟨10, 1⟩) (·.out.clampHold)
        fun v c => { c with out := { c.out with clampHold := v } })
    | 0x08 => some (chNat n tU8 .rws (within 0 3) (fun c => c.out.pstDrop.toNat)
        fun v c => { c with out := { c.out with pstDrop := BitVec.ofNat 2 v } })
    | 0x09 => some (chRo n tU8 fun c => bNat c.clamp.trippedV + 2 * bNat c.clamp.trippedI)
    | 0x0A => some (chRo n tU16 (·.clamp.thrV))
    | 0x0B => some (chRo n tU16 (·.clamp.thrI))
    | 0x0C => some (chRo n tU32 fun c => c.clamp.trips.value.toNat)
    | _ => none
  | 0x23 => match el with
    | 0x01 => some (fastObj n (chNat n tU8 .rws (within 0 5) (·.fast.src)
        fun v c => { c with fast := { c.fast with src := v } }))
    | 0x02 => some (fastObj n (chNat n tU32 .rws (within 0 262143) Channel.fastCode
        fun v c => { c with fast := { c.fast with code := some v } }))
    | 0x03 => some (fastObj n (chF32 n .rws (fun _ => true) (·.fast.sp) fun v c => { c with fast := { c.fast with sp := v } }))
    | 0x04 => some (objFastArm n)
    | 0x05 => some (chRo n tU8 fun c => match c.fast.state with | .idle => 0 | .armed => 1 | .fired => 2)
    | 0x06 => some (chRo n tU32 fun c => c.fast.fires.value.toNat)
    | _ => none
  | _ => none

/-- RANGE_REQ. -/
def execRangeReq (r : Req) (n : Ch) (v : Byte) (s : State) : Host.Outcome State Fault Refusal :=
  .next (perform (objRangeReq n) r tU8 [v] s)

/-- FAST_ARM. -/
def execFastArm (r : Req) (n : Ch) (v : Byte) (s : State) : Host.Outcome State Fault Refusal :=
  .next (perform (objFastArm n) r tU8 [v] s)

end Sys2Proof.Machine
end

