-- ==== Sys2Proof/Machine/Programs.lean ====
section
/-! DEFINITION. Programs and budgets of a loop engine (R270 to R290): the notch design, the cost of a configuration, its
admission, and the program classes. -/

namespace Sys2Proof.Machine

/-! ### Period -/

/-- The loop period in s, binary64: N · 25 ns rounded. -/
def period64 (n : Nat) : F64 := (Q.mk (25 * n) 1000000000).toF64

/-- The loop period as an exact fraction. -/
def periodQ (n : Nat) : Q := ⟨25 * n, 1000000000⟩

/-! ### The notch (R277 to R280) -/

/-- π in binary64. -/
def pi64 : F64 := 0x400921FB54442D18
def one64 : F64 := 0x3FF0000000000000
def two64 : F64 := 0x4000000000000000

/-- The five coefficients of a notch, in binary64 operation by operation (R277). -/
def notchCoefs (f0 q depth t : F64) : List Word :=
  let w0 := mul64 (mul64 (mul64 two64 pi64) f0) t
  let alpha := div64 (sin64 w0) (mul64 two64 q)
  let a := pow10_64 (div64 (neg64 depth) (Q.ofNat 40).toF64)
  let a0 := add64 one64 (div64 alpha a)
  let m2c := mul64 (neg64 two64) (cos64 w0)
  let b0 := div64 (add64 one64 (mul64 alpha a)) a0
  let b1 := div64 m2c a0
  let b2 := div64 (sub64 one64 (mul64 alpha a)) a0
  let a1 := div64 m2c a0
  let a2 := div64 (sub64 one64 (div64 alpha a)) a0
  [f64ToQ30 b0, f64ToQ30 b1, f64ToQ30 b2, f64ToQ30 a1, f64ToQ30 a2]

/-- 0.45 / T, the highest design frequency (R279). -/
def notchTop (n : Nat) : F64 := div64 (Q.mk 45 100).toF64 (period64 n)

/-- Words written to consecutive slots from `j` on. -/
def putSlots {k : Nat} (v : Vector Word k) (j : Nat) (ws : List Word) : Vector Word k :=
  ws.zipIdx.foldl (fun v (w, i) => v.setIfInBounds (j + i) w) v

/-- The notch of a bank designed for period `n`, at NOTCH_F times the bank's LAC factor, limited at 0.45 / T, which
NOTCH_STATE 1 reports (R277, R279, R325). -/
def Channel.designBank (c : Channel) (n r : Nat) : Channel :=
  let d := c.notch[r]?.getD {}
  let f := mul64 (f32To64 d.f) ((c.lac.banks[r]?.getD {}).fF)
  let top := notchTop n
  let limited := (f64Val top).lt (f64Val f)
  let ws := notchCoefs (if limited then top else f) (f32To64 d.q) (f32To64 d.depth) (period64 n)
  { c with notch := c.notch.setIfInBounds r { d with state := bNat limited },
           coefs := { c.coefs with banks := c.coefs.banks.setIfInBounds r (putSlots (c.coefs.banks[r]?.getD defaultBank) 3 ws) } }

/-- A period change: every bank whose notch is not manual is designed again (R279). -/
def Channel.redesign (c : Channel) (n : Nat) : Channel :=
  (List.range 4).foldl (fun c r => if (c.notch[r]?.getD {}).state = 2 then c else c.designBank n r) c

/-! ### Program memory (Table 7.14) -/

/-- A program area of the memory with no program. -/
def noImage : Vector Word 98 := Vector.replicate 98 0

/-- A program area of the memory, with its header, after the load of a program, which replaces what stood there whole (R272,
R297). -/
def Program.image (p : Program) : Vector Word 98 :=
  let m := putSlots noImage 0 p.words
  (m.set 96 (p.rescaleMask ++ (BitVec.ofNat 8 (p.presetSlot.val) ++ BitVec.ofNat 8 p.words.length))).set 97 (BitVec.ofNat 32 p.wcet)

/-- The program that stands in an area: none while COUNT is 0. -/
def programIn (mem : Vector Word 98) : Option Program :=
  let h := mem[96].toNat
  if h % 128 = 0 then none
  else some { presetSlot := ⟨h / 256 % 16, Nat.mod_lt _ (by decide)⟩, rescaleMask := BitVec.ofNat 16 (h / 65536)
              wcet := mem[97].toNat % 65536, words := (mem.toList.take 96).take (h % 128) }

/-! ### Programs selected and their classes -/

/-- The inner program that PROG_MAIN selects. -/
def ProgSel.mainProg (p : ProgSel) : List LoopInstr :=
  if p.progMain = 0x80 then ((p.userMain.map fun u => u.words.filterMap decodeLoop)).getD []
  else if p.progMain = 0x02 then romPid else romPi

/-- The outer program that PROG_OUTER selects. -/
def ProgSel.outerProg (p : ProgSel) : List LoopInstr :=
  if p.progOuter = 0x81 then ((p.userOuter.map fun u => u.words.filterMap decodeLoop)).getD [] else romOuter

/-- WCET of the main and of the outer program (R273, Table 7.7). -/
def ProgSel.mainWcet (p : ProgSel) : Nat :=
  if p.progMain = 0x80 then (p.userMain.map (·.wcet)).getD 1 else if p.progMain = 0x02 then 25 else 16

def ProgSel.outerWcet (p : ProgSel) : Nat := if p.progOuter = 0x81 then (p.userOuter.map (·.wcet)).getD 1 else 8

/-- The bit of PROG_CLASSES of a main or outer program (Table 4.9). -/
def classBit (prog : Byte) : Nat :=
  if prog = 0x01 then 0 else if prog = 0x02 then 1 else if prog = 0x03 then 2 else 4

/-- Every program that a mode runs is of a permitted class (R172); IDLE's is always permitted (R174). -/
def classesOk (p : ProgSel) (classes : Byte) (m : Mode) : Bool :=
  match m with
  | .off | .meter | .idle => true
  | .nested => classes.getLsbD (classBit p.progMain) && classes.getLsbD (classBit p.progOuter)
  | .tune => classes.getLsbD (classBit p.progMain) && classes.getLsbD 3
  | _ => classes.getLsbD (classBit p.progMain)

/-- The number of a mode (Table 6.1). -/
def Mode.toNat : Mode → Nat
  | .off => 0
  | .idle => 1
  | .fv => 2
  | .fi => 3
  | .fvProfile => 4
  | .fiProfile => 5
  | .fvList => 6
  | .fiList => 7
  | .follow => 8
  | .nested => 9
  | .tune => 10
  | .meter => 11

/-- The mode of a number. -/
def modeOf (k : Nat) : Option Mode :=
  [Mode.off, .idle, .fv, .fi, .fvProfile, .fiProfile, .fvList, .fiList, .follow, .nested, .tune, .meter][k]?

/-- The program number that runs in a mode: ROM PI in IDLE, PROG_MAIN in modes 2 to 10, none in OFF and METER
(Table 7.1). -/
def runsProg (p : ProgSel) (m : Mode) : Byte :=
  match m with
  | .off | .meter => 0
  | .idle => 0x01
  | _ => p.progMain

/-! ### Costs and admission (R285, R288, R289) -/

/-- The base cost of a channel in a mode. -/
def baseCost (p : ProgSel) (m : Mode) : Nat :=
  match m with
  | .off | .meter => 0
  | .idle => 26
  | _ =>
    Nat.max (p.mainWcet + 10) 26 + (if m == .tune then 5 else 0)
      + (if m == .nested && p.outerDiv = 1 then p.outerWcet + 24 else 0)

/-- The occasional steps of a channel in a mode. -/
def extraCosts (p : ProgSel) (m : Mode) : List Nat :=
  (if m == .nested && 2 ≤ p.outerDiv then [p.outerWcet + 24] else [])
    ++ (if 2 ≤ m.toNat && m.toNat ≤ 9 && p.progMain != 0x80 then [64] else [])
    ++ (if m == .tune then [40] else [])

/-- The deadline of a channel in CCLK cycles (R285). -/
def deadline (p : ProgSel) (n : Nat) : Int := if p.timing = 0 then 6 * n - 8 else 6 * p.phaseA - 8

/-- One case of R289: both channels end by their deadlines, the earlier deadline first, slot 0 first on ties. -/
def caseFits (n : Nat) (p0 p1 : ProgSel) (c0 c1 : Nat) : Bool :=
  let d0 := deadline p0 n
  let d1 := deadline p1 n
  if d0 ≤ d1 then decide ((84 + c0 : Int) ≤ d0) && decide ((84 + c0 + c1 : Int) ≤ d1)
  else decide ((84 + c1 : Int) ≤ d1) && decide ((84 + c1 + c0 : Int) ≤ d0)

/-- The check of R289 on a pair with period `n`, each channel with its selection in its mode. -/
def budgetFits (n : Nat) (p0 p1 : ProgSel) (m0 m1 : Mode) : Bool :=
  let b0 := baseCost p0 m0
  let b1 := baseCost p1 m1
  (p0.timing = 0 || p0.phaseA < n) && (p1.timing = 0 || p1.phaseA < n) && caseFits n p0 p1 b0 b1
    && (extraCosts p0 m0).all (fun x => caseFits n p0 p1 (b0 + x) b1)
    && (extraCosts p1 m1).all (fun x => caseFits n p0 p1 b0 (b1 + x))

/-- The mode whose costs a channel is admitted with: the one being moved to while a change waits or runs. -/
def Channel.costMode (c : Channel) : Mode :=
  match c.mode.pending with
  | some m => m
  | none => if c.mode.status == .enabling then c.mode.target else c.mode.mode

/-- R289 on the pair of an engine in a state, at the period that is or will be in force. -/
def pairFits (s : State) (e : Eng) : Bool :=
  let c0 := s.chan e.slot0
  let c1 := s.chan e.slot1
  budgetFits (s.engine e).nShadow c0.prog c1.prog c0.costMode c1.costMode

/-- OFF, METER and IDLE taken as FV (R272). -/
def loadMode (m : Mode) : Mode := if m.toNat ≤ 1 || m == .meter then .fv else m

/-- R289 for a load on a channel with a selection of programs (R272). -/
def loadFits (s : State) (n : Ch) (p : ProgSel) : Bool :=
  let e := n.engine
  let c0 := s.chan e.slot0
  let c1 := s.chan e.slot1
  let m0 := if n = e.slot0 then loadMode c0.costMode else c0.costMode
  let m1 := if n = e.slot1 then loadMode c1.costMode else c1.costMode
  budgetFits (s.engine e).nShadow (if n = e.slot0 then p else c0.prog) (if n = e.slot1 then p else c1.prog) m0 m1

/-- BASE_LOAD and EXTRA_LOAD as last admitted (R290). -/
def admitSet (s : State) (e : Eng) : State :=
  let c0 := s.chan e.slot0
  let c1 := s.chan e.slot1
  let xs := extraCosts c0.prog c0.costMode ++ extraCosts c1.prog c1.costMode
  s.modEng e fun g =>
    { g with baseLoad := baseCost c0.prog c0.costMode + baseCost c1.prog c1.costMode, extraLoad := xs.foldl Nat.max 0 }

/-- A set of program words is in use: the mode is one of 2 to 10 and the selection names it (R272). -/
def Channel.mainInUse (c : Channel) : Bool :=
  2 ≤ c.mode.mode.toNat && c.mode.mode.toNat ≤ 10 && c.prog.progMain == 0x80

def Channel.outerInUse (c : Channel) : Bool :=
  2 ≤ c.mode.mode.toNat && c.mode.mode.toNat ≤ 10 && c.prog.progOuter == 0x81

end Sys2Proof.Machine
end

