-- ==== Sys2Proof/Machine/Motion.lean ====
section
/-! DEFINITION. Set-point motion and supervision of one channel (R299 to R320): the profile generator, the follow input,
the rate estimator, the following-error monitor, the oscillation detector and the hold of the set-point source. -/

namespace Sys2Proof.Machine

/-! ### Binary64 comparisons -/

def lt64 (a b : F64) : Bool := (f64Val a).lt (f64Val b)
def le64 (a b : F64) : Bool := (f64Val a).le (f64Val b)
def isZero64 (a : F64) : Bool := (f64Val a).isZero
def abs64 (a : F64) : F64 := a &&& 0x7FFFFFFFFFFFFFFF
def min64 (a b : F64) : F64 := if le64 a b then a else b
def max64 (a b : F64) : F64 := if le64 a b then b else a

/-- sign(x) · m, with sign(0) = 0. -/
def signTimes (x m : F64) : F64 := if isZero64 x then 0 else if lt64 x 0 then neg64 m else m

/-- A value limited to −m to m. -/
def clamp64 (x m : F64) : F64 := if lt64 m x then m else if lt64 x (neg64 m) then neg64 m else x

/-! ### The set-point in force -/

/-- The set-point in force, in the units of the forced quantity; SP_ACTIVE shows it as F32 (R235). -/
def Channel.setSp (c : Channel) (x : F64) : Channel := { c with sp := { c.sp with ramp := x, active := f64To32 x } }

/-- The outer output as a set-point of the inner loop (Table 7.2). -/
def Channel.outerSp (c : Channel) : F64 := ((q30Val c.loop.outerOut).mul c.forcedFs).toF64

/-! ### The profile generator (R299 to R302) -/

/-- The limits of the forced quantity: rate, acceleration and jerk. -/
def Channel.profLimits (c : Channel) : F64 × F64 × F64 :=
  let p := c.prof
  if c.forcesI then (f32To64 p.slewI, f32To64 p.accelI, f32To64 p.jerkI)
  else (f32To64 p.slewV, f32To64 p.accelV, f32To64 p.jerkV)

/-- The fastest rate from which a jerk-limited stop ends at a distance x (R299). -/
def stopRate (amax jmax x : F64) : F64 :=
  if le64 x (div64 (mul64 (mul64 amax amax) amax) (mul64 jmax jmax)) then
    cbrt64 (f64Val (mul64 (mul64 jmax x) x))
  else
    let a2 := mul64 amax amax
    let j4 := mul64 (Q.ofNat 4).toF64 (mul64 jmax jmax)
    let root := sqrt64 (f64Val (add64 (div64 (mul64 a2 a2) j4) (mul64 (mul64 two64 amax) x)))
    add64 (div64 (neg64 a2) (mul64 two64 jmax)) root

/-- Position, rate and acceleration after one tick toward `g`, and whether the target was reached (R299). -/
def profStep (vmax amax jmax t g p v a : F64) : F64 × F64 × F64 × Bool :=
  let e := sub64 g p
  if isZero64 e && isZero64 v then (p, v, 0, false)
  else
    let vd := signTimes e (min64 vmax (stopRate amax jmax (abs64 e)))
    let dv := sub64 vd v
    let ad := signTimes dv (min64 amax (sqrt64 (f64Val (mul64 (mul64 two64 jmax) (abs64 dv)))))
    let a1 := add64 a (clamp64 (sub64 ad a) (mul64 jmax t))
    let vn := add64 v (mul64 a1 t)
    let limited := le64 (abs64 v) vmax && lt64 vmax (abs64 vn)
    let vn' := if limited then signTimes vn vmax else vn
    let a2 := if limited then 0 else a1
    let pn := add64 p (mul64 vn' t)
    if le64 (mul64 e (sub64 g pn)) 0 then (g, 0, 0, true) else (pn, vn', a2, false)

/-- One tick of a channel's generator toward `g`, from the set-point in force. -/
def Channel.profTick (c : Channel) (n : Nat) (g : F64) : Channel × Bool :=
  let (vmax, amax, jmax) := c.profLimits
  let (p, v, a, hit) := profStep vmax amax jmax (period64 n) g c.sp.ramp c.prof.v c.prof.a
  (({ c with prof := { c.prof with p := p, v := v, a := a } } : Channel).setSp p, hit)

/-- While the source is held, p stays and v = a = 0 (R319). -/
def Channel.profHold (c : Channel) : Channel := { c with prof := { c.prof with v := 0, a := 0 } }

/-- The generator starts at the set-point in force, at rest (R302). -/
def Channel.profStart (c : Channel) : Channel := { c with prof := { c.prof with p := c.sp.ramp, v := 0, a := 0 } }

/-- The target g of the tick that begins at a boundary: PROF_TARGET, or the follow set-point in FOLLOW with FOL_SHAPE
(R299, R309). -/
def Channel.takeTarget (c : Channel) : Channel :=
  let g := if c.mode.mode == .follow && c.fol.shape then
      add64 (mul64 (f32To64 c.fol.scale) c.fol.q) (f32To64 c.fol.offset)
    else f32To64 c.prof.target
  { c with prof := { c.prof with g := g } }

/-- PROF_STATE (R301): p is the set-point in force, and g the target that the latest boundary took. -/
def Channel.profState (c : Channel) : Nat :=
  if c.hold.held != 0 then 2
  else if (f64Val c.sp.ramp).eq (f64Val c.prof.g) && isZero64 c.prof.v then 0 else 1

/-! ### The follow input (R303 to R309) -/

/-- The channel reads its aux input at every tick: FOLLOW with FOL_SRC 0, or NESTED with OUTER_QTY 2 (R304, R358). -/
def Channel.usesAux (c : Channel) : Bool :=
  (c.mode.mode == .follow && c.fol.src == 0) || (c.mode.mode == .nested && c.sp.outerQty == 2)

/-- A time of TBC counts in s, binary64. -/
def countsS (k : Nat) : F64 := (Q.mk k 240000000).toF64

/-- q of the frequency form at a tick boundary (R306): m / (t_b − t_a) in binary64, with the times in s; the first active
edge stands for t_a until a boundary has seen one. -/
def Follow.freqTick (f : Follow) : Follow :=
  match f.refEdge, f.lastEdge with
  | some ta, some tb =>
    if f.lastPeriod.isNone then { f with q := 0, valid := false }
    else if f.edgesSince = 0 || tb == ta then f
    else { f with q := div64 (Q.ofNat f.edgesSince).toF64 (countsS (tb - ta).toNat), valid := true, standstill := false }
  | _, _ => { f with q := 0, valid := false }

/-- What a boundary leaves for the next one: its latest active edge is the t_a of the next tick (R306). -/
def Follow.pass (f : Follow) : Follow := { f with refEdge := f.lastEdge, edgesSince := 0 }

/-- q of the width form (R307). -/
def Follow.widthTick (f : Follow) : Follow :=
  match f.pulseLen with
  | some k => { f with q := countsS k, valid := true, standstill := false }
  | none => { f with q := 0, valid := false }

/-- The follow value at a tick boundary, in every mode for the pulse forms (DEDUCED, log entry 95). q of the analogue form is
the aux value used at this tick (R304), which FOLLOW alone has; no rule moves VALID or STANDSTILL in it. -/
def Follow.tick (f : Follow) (follows : Bool) (aux : F32) : Follow :=
  match f.src with
  | 0 => (if follows then { f with q := f32To64 aux } else f).pass
  | 1 => f.freqTick.pass
  | _ => f.widthTick.pass

/-- FOL_SCALE · q + FOL_OFFSET (R303). -/
def Follow.setPoint (f : Follow) : F64 := add64 (mul64 (f32To64 f.scale) f.q) (f32To64 f.offset)

/-- A filtered edge of FOLn, time-stamped with the TBC (R305). An active edge is counted; the pulse of the width form
lies from the active edge to the other one. -/
def Follow.onEdge (f : Follow) (edge : Nat) (rising : Bool) (tbc : W64) : Follow :=
  if rising == (edge == 0) then
    { f with
      edges := f.edges.inc
      lastPeriod := (match f.lastEdge with
        | some x => some (tbc - x).toNat
        | none => f.lastPeriod)
      refEdge := (match f.refEdge with
        | some x => some x
        | none => some tbc)
      edgesSince := if f.refEdge.isNone then 0 else f.edgesSince + 1
      lastEdge := some tbc
      pulseStart := some tbc }
  else
    { f with
      pulseLen := (match f.pulseStart with
        | some x => some (tbc - x).toNat
        | none => f.pulseLen)
      pulseStart := none }

/-- FOL_EDGE. -/
def execFolEdge (n : Ch) (rising : Bool) (s : State) : Host.Outcome State Fault Refusal :=
  .next (s.modCh n fun c => { c with fol := c.fol.onEdge c.actSp.folEdge rising s.clk.tbc })

/-- FOL_STANDSTILL: no active edge came for the time of R308; VALID returns from fresh edges alone. -/
def execFolStandstill (n : Ch) (s : State) : Host.Outcome State Fault Refusal :=
  .next (s.modCh n fun c =>
    if c.fol.src = 0 then c
    else
      { c with fol := { c.fol with q := 0, valid := false, standstill := true, lastEdge := none, refEdge := none,
                                   edgesSince := 0, lastPeriod := none, pulseStart := none, pulseLen := none } })

/-! ### The rate estimator (R310 to R313) -/

/-- The least-squares slope over samples, newest first, one tick of `n` · 25 ns apart, in binary64 operation by operation;
one sample gives none (R310). -/
def slope (samples : List F32) (n : Nat) : F32 :=
  let k := (Q.ofNat samples.length).toF64
  let mid := div64 (sub64 k one64) two64
  let sum := samples.reverse.zipIdx.foldl
    (fun acc (x, i) => add64 acc (mul64 (sub64 (Q.ofNat i).toF64 mid) (f32To64 x))) 0
  f64To32 (div64 (mul64 (Q.ofNat 12).toF64 sum)
    (mul64 (mul64 (period64 n) k) (sub64 (mul64 k k) one64)))

/-- CMD_RATE at this tick (R311). -/
def Channel.cmdRate (c : Channel) (n : Nat) : F64 :=
  match c.mode.mode with
  | .fvProfile | .fiProfile => if c.mode.status == .safeRamp then diff else c.prof.v
  | .follow => if c.fol.shape && c.mode.status != .safeRamp then c.prof.v else diff
  | _ => diff
where
  diff : F64 := div64 (sub64 c.sp.ramp c.rate.prevSp) (period64 n)

/-- One tick of the estimator (R310 to R313). -/
def Channel.rateTick (c : Channel) (n : Nat) : Channel :=
  let r := c.rate
  let x := if c.forcesI then c.last.i else c.last.v
  let cmd := c.cmdRate n
  let moving := !isZero64 cmd
  let sgn : Int := if isZero64 cmd then 0 else if lt64 cmd 0 then -1 else 1
  let stood := decide (r.w ≤ r.still)
  let start := r.restart || (moving && stood)
  let turn := moving && !stood && r.lastSign != 0 && r.lastSign != sgn
  let still := if moving then 0 else Nat.min (r.still + 1) 256
  let lastSign := if moving then sgn else if r.w ≤ still then 0 else r.lastSign
  let r1 := { r with cmdRate := cmd, still := still, lastSign := lastSign, prevSp := c.sp.ramp, restart := false }
  let r2 : RateEst :=
    if start then { r1 with samples := [x], rate := 0, valid := false, part := false, est := false }
    else if turn then { r1 with samples := [x], rate := f64To32 cmd, valid := true, part := false, est := true }
    else
      let xs := (x :: r.samples).take r.w
      { r1 with samples := xs, rate := slope xs n, valid := true, part := decide (xs.length < r.w), est := false }
  { c with rate := r2 }

/-! ### The following-error monitor (R314, R315) -/

/-- A mode that is 4 to 8. -/
def Mode.listed (m : Mode) : Bool := decide (4 ≤ m.toNat) && decide (m.toNat ≤ 8)

/-- One tick of the monitor. -/
def Channel.feTick (c : Channel) : Channel :=
  if c.mode.mode.listed then
    let x := if c.forcesI then c.last.i else c.last.v
    let d := abs64 (sub64 c.sp.ramp (f32To64 x))
    let lim := f32To64 (if c.forcesI then c.fe.limitI else c.fe.limitV)
    let off := c.fe.clampSeen || c.clamp.tripped || c.mode.status == .enabling || c.mode.status == .safeRamp
      || c.hold.held != 0
    let count := if off || le64 d lim then 0 else Nat.min (c.fe.count + 1) 65535
    { c with fe := { c.fe with now_ := f64To32 d, count := count, clampSeen := false } }
  else { c with fe := { c.fe with clampSeen := false } }

/-- FE_COUNT has reached FE_TICKS, if it has: FOLLOWING_ERROR is sent, and the count starts anew (R314). -/
def feReport (s : State) (n : Ch) : State :=
  let c := s.chan n
  if c.actSp.feTicks ≤ c.fe.count then
    let s := s.modCh n fun c => { c with fe := { c.fe with count := 0, reports := c.fe.reports.inc } }
    sendMsg s (srcCh n) 0x70 (levelOf c.actSp.feLevel) (bNat c.forcesI + 256 * c.actSp.feTicks)
  else s

/-- FOLLOWING_ERROR_REPORT. -/
def execFollowingErrorReport (n : Ch) (s : State) : Host.Outcome State Fault Refusal := .next (feReport s n)

/-- Both estimators at a tick boundary, of `n` ACLK cycles per tick. -/
def Channel.supervise (c : Channel) (n : Nat) : Channel :=
  (({ c with mark := { rate := c.rate, feCount := c.fe.count, feClamp := c.fe.clampSeen } } : Channel).rateTick n).feTick

/-- Both estimators once more at the same boundary, where a change there gave the tick another set-point or another forced
quantity (R238, R311, R313, R410). -/
def Channel.superviseAgain (c : Channel) (n : Nat) : Channel :=
  (({ c with
      rate := { c.mark.rate with w := c.rate.w, restart := c.mark.rate.restart || c.rate.restart }
      fe := { c.fe with count := Nat.min c.mark.feCount 65535, clampSeen := c.mark.feClamp } } : Channel).rateTick n).feTick

/-- The same for a channel of the state. -/
def superviseAgain (s : State) (n : Ch) : State := s.modCh n fun c => c.superviseAgain (s.engine n.engine).nActive

/-- FAST_SP_APPLY: at the next tick boundary the staged set-point takes effect and the next run is a bumpless entry (R410,
items 3 to 5). SP_ACTIVE takes it while the mode it fired in still runs; a step armed anew since then stays armed. -/
def execFastSpApply (n : Ch) (s : State) : Host.Outcome State Fault Refusal :=
  match (s.chan n).fast.due with
  | [] => .next s
  | (x, current) :: more =>
    .next (superviseAgain (s.modCh n fun c =>
      let c : Channel :=
        { c with sp := if current then { c.sp with i := x } else { c.sp with v := x }
                 loop := { c.loop with first := true }
                 fast := { c.fast with due := [], fires := c.fast.fires.add (more.length + 1)
                                       state := if c.fast.state == .fired then .idle else c.fast.state } }
      if c.mode.mode == (if current then .fi else .fv) then
        { c with sp := { c.sp with active := x, ramp := f32To64 x } }
      else c) n)

/-! ### The oscillation detector (R316 to R318) -/

/-- One tick of the detector on the error `e` in units of 2^-30, under the settings in force, with COMPL or RSW in the tick's
FLAGS as `skipIt`; the threshold and the noise floor in binary64 operation by operation (R316). -/
def OscDet.tick (o : OscDet) (a : Acting) (e : Int) (skipIt : Bool) (tuneAmp : Option Word) : OscDet :=
  let shifted := { o with e1 := e, e2 := o.e1, since := Nat.min (o.since + 1) 4097 }
  if skipIt then { shifted with skip := 2 }
  else if o.skip ≠ 0 then { shifted with skip := o.skip - 1 }
  else
    let bp := e - o.e2
    let mag : F64 := (Q.mk bp.natAbs (2 ^ 30)).toF64
    let th0 := max64 (mul64 (f32To64 a.oscK) o.floor) (q30Val a.oscMin).toF64
    let th := match tuneAmp with
      | some x => max64 th0 (q30Val x).abs.toF64
      | none => th0
    let floor := add64 o.floor (div64 (sub64 (min64 mag th) o.floor) (Q.ofNat 4096).toF64)
    let sgn : Int := if bp < 0 then -1 else 1
    if lt64 mag th then { shifted with floor := floor }
    else if o.lastSig ≠ 0 ∧ o.lastSig ≠ sgn then
      { shifted with floor := floor, lastSig := sgn, since := 0,
                     count := if a.oscGap < shifted.since then 1 else o.count + 1 }
    else { shifted with floor := floor, lastSig := sgn }

/-- The detector starts anew as the channel leaves OFF: nf is OSC_MIN (R316), and no error has been formed yet. -/
def OscDet.restart (o : OscDet) (a : Acting) : OscDet :=
  { o with floor := (q30Val a.oscMin).toF64, count := 0, e1 := 0, e2 := 0, skip := 2, lastSig := 0, since := 4097 }

/-- OSC_COUNT has reached OSC_REV, if it has: OSCILLATION is sent, and the count starts anew (R317). -/
def oscReport (s : State) (n : Ch) : State :=
  let c := s.chan n
  if c.actSp.oscRev ≤ c.osc.count then
    let s := s.modCh n fun c => { c with osc := { c.osc with count := 0, reports := c.osc.reports.inc } }
    sendMsg s (srcCh n) 0x80 (levelOf c.actSp.oscLevel) c.actSp.oscRev
  else s

/-- OSCILLATION_REPORT. -/
def execOscillationReport (n : Ch) (s : State) : Host.Outcome State Fault Refusal := .next (oscReport s n)

/-! ### Holding the source (R319, R320) -/

/-- A FOLLOWING_ERROR or OSCILLATION at ERROR: the source of modes 4 to 8 is held from the next tick boundary; a direct
set-point and the outer loop are not (R319). A hold whose release is due counts as ended. -/
def Channel.holdDue (c : Channel) (cause : Nat) : Channel :=
  if c.mode.mode.listed && (c.hold.held == 0 || c.hold.resumeDue) && c.hold.due == 0 then { c with hold := { c.hold with due := cause } } else c

/-- The hold or the release that acts at this tick boundary. A window that a pause discarded reopens at the release
(R452). -/
def Channel.holdTick (c : Channel) : Channel :=
  if c.hold.resumeDue then { c with hold := { held := c.hold.due } }
  else if c.hold.due ≠ 0 then { c with hold := { held := c.hold.due } }
  else c

/-- The class of the message that holds the source: FOLLOWING or OSCILLATION. -/
def holdClass (held : Nat) : BitVec 4 := if held = 1 then 7 else 8

/-- SRC_RESUME (R320): it releases the hold in force and one that the next boundary would bring. -/
def objSrcResume (n : Ch) : Obj :=
  { chCmd n tU8 (fun w => w.v == 1) (fun _ s => s.modCh n fun c =>
      { c with hold := { c.hold with resumeDue := c.hold.held != 0, due := 0 } }) with
    state := fun w =>
      let h := (w.seq.chan n).hold
      let open_ (cause : Nat) : Bool := cause != 0 && (w.seq.badger.slot (holdClass cause) (srcCh n)).isSome
      if (open_ h.held && !h.resumeDue) || open_ h.due then eNotReady else eOk }

/-- SRC_RESUME. -/
def execSrcResume (r : Req) (n : Ch) (v : Byte) (s : State) : Host.Outcome State Fault Refusal :=
  .next (perform (objSrcResume n) r tU8 [v] s)

/-! ### Objects of Table 8.3 -/

/-- 10 to the power `k` as a fraction. -/
def pow10 (k : Int) : Q := if 0 ≤ k then ⟨10 ^ k.toNat, 1⟩ else ⟨1, 10 ^ (-k).toNat⟩

/-- A setting of the profile generator. -/
def profObj (n : Ch) (lo hi : Int) (get : Profile → F32) (set : F32 → Profile → Profile) : Obj :=
  chF32 n .rw (fWithin (pow10 lo) (pow10 hi)) (fun c => get c.prof) fun v c => { c with prof := set v c.prof }

/-- A setting of the follow input. -/
def folNat (n : Ch) (ty : Byte) (legal : Nat → Bool) (get : Follow → Nat) (set : Nat → Follow → Follow) : Obj :=
  chNat n ty .rw legal (fun c => get c.fol) fun v c => { c with fol := set v c.fol }

def folF32 (n : Ch) (legal : Q → Bool) (get : Follow → F32) (set : F32 → Follow → Follow) : Obj :=
  chF32 n .rw legal (fun c => get c.fol) fun v c => { c with fol := set v c.fol }

/-- Not in FOLLOW (R338). -/
def notFollow (n : Ch) (o : Obj) : Obj := { o with mode := fun w => (w.pre.chan n).mode.mode != .follow }

/-- A setting of the two monitors. -/
def feNat (n : Ch) (ty : Byte) (legal : Nat → Bool) (get : FeMon → Nat) (set : Nat → FeMon → FeMon) : Obj :=
  chNat n ty .rw legal (fun c => get c.fe) fun v c => { c with fe := set v c.fe }

def oscNat (n : Ch) (ty : Byte) (legal : Nat → Bool) (get : OscDet → Nat) (set : Nat → OscDet → OscDet) : Obj :=
  chNat n ty .rw legal (fun c => get c.osc) fun v c => { c with osc := set v c.osc }

/-- PROF_TARGET: ±1,000.0 V or ±100.0 A, as forced. -/
def objProfTarget (n : Ch) : Obj :=
  { chF32 n .rw (fun _ => true) (·.prof.target) (fun v c => { c with prof := { c.prof with target := v } }) with
    range := fun w => w.f.abs.le (if (w.post.chan n).forcesI then Q.ofNat 100 else Q.ofNat 1000) }

/-- The motion and supervision objects of a channel by local index and element (Table 8.3). -/
def objsMotion (n : Ch) (j el : Nat) : Option Obj :=
  match j with
  | 0x10 => match el with
    | 0x01 => some (objProfTarget n)
    | 0x02 => some (profObj n (-3) 7 (·.slewV) fun v p => { p with slewV := v })
    | 0x03 => some (profObj n (-3) 12 (·.accelV) fun v p => { p with accelV := v })
    | 0x04 => some (profObj n (-3) 18 (·.jerkV) fun v p => { p with jerkV := v })
    | 0x05 => some (profObj n (-9) 5 (·.slewI) fun v p => { p with slewI := v })
    | 0x06 => some (profObj n (-9) 10 (·.accelI) fun v p => { p with accelI := v })
    | 0x07 => some (profObj n (-9) 16 (·.jerkI) fun v p => { p with jerkI := v })
    | 0x08 => some (chRo n tU8 Channel.profState)
    | 0x09 => some (chRo n tF32 fun c => (f64To32 c.prof.v).toNat)
    | 0x0A => some (chRo n tF32 fun c => (f64To32 c.prof.a).toNat)
    | _ => none
  | 0x11 => match el with
    | 0x01 => some (notFollow n (folNat n tU8 (within 0 2) (·.src) fun v f => { f with src := v }))
    | 0x02 => some (notFollow n (folNat n tU8 (within 0 15) (·.aux) fun v f => { f with aux := v }))
    | 0x03 => some (folF32 n (fun _ => true) (·.scale) fun v f => { f with scale := v })
    | 0x04 => some (folF32 n (fun _ => true) (·.offset) fun v f => { f with offset := v })
    | 0x05 => some (folNat n tU8 (within 0 1) (·.edge) fun v f => { f with edge := v })
    | 0x06 => some (folNat n tU8 (within 0 255) (·.filter) fun v f => { f with filter := v })
    | 0x07 => some (folF32 n (fWithin (pow10 (-3)) (pow10 1)) (·.maxGap) fun v f => { f with maxGap := v })
    | 0x08 => some (folNat n tBool (within 0 1) (fun f => bNat f.shape) fun v f => { f with shape := v == 1 })
    | 0x09 => some (chRo n tF32 fun c => (f64To32 c.fol.q).toNat)
    | 0x0A => some (chRo n tU8 fun c => bNat c.fol.valid + 2 * bNat c.fol.standstill)
    | 0x0B => some (chRo n tU32 fun c => c.fol.edges.value.toNat)
    | _ => none
  | 0x12 => match el with
    | 0x01 => some (chNat n tU16 .rw (within 4 256) (·.rate.w)
        fun v c => { c with rate := { c.rate with w := v, restart := true } })
    | 0x02 => some (chRo n tF32 fun c => c.rate.rate.toNat)
    | 0x03 => some (chRo n tU8 fun c => bNat c.rate.valid + 2 * bNat c.rate.part + 4 * bNat c.rate.est)
    | 0x04 => some (chRo n tU16 fun c => c.rate.samples.length)
    | 0x05 => some (chRo n tF32 fun c => (f64To32 c.rate.cmdRate).toNat)
    | _ => none
  | 0x13 => match el with
    | 0x01 => some (chF32 n .rw (fWithin (pow10 (-6)) (Q.ofNat 2000)) (·.fe.limitV)
        fun v c => { c with fe := { c.fe with limitV := v } })
    | 0x02 => some (chF32 n .rw (fWithin (pow10 (-12)) (Q.ofNat 200)) (·.fe.limitI)
        fun v c => { c with fe := { c.fe with limitI := v } })
    | 0x03 => some (feNat n tU16 (within 1 65535) (·.ticks) fun v f => { f with ticks := v })
    | 0x04 => some (feNat n tU8 (within 1 3) (·.level) fun v f => { f with level := v })
    | 0x05 => some (chRo n tF32 fun c => c.fe.now_.toNat)
    | 0x06 => some (chRo n tU16 (·.fe.count))
    | 0x07 => some (chRo n tU32 fun c => c.fe.reports.value.toNat)
    | _ => none
  | 0x14 => match el with
    | 0x01 => some (chF32 n .rw (fWithin ⟨3, 2⟩ ⟨64, 1⟩) (·.osc.k) fun v c => { c with osc := { c.osc with k := v } })
    | 0x02 => some (oscNat n tQ30 (within 1 0x40000000) (fun o => o.minTh.toNat)
        fun v o => { o with minTh := BitVec.ofNat 32 v })
    | 0x03 => some (oscNat n tU16 (within 4 1000) (·.rev) fun v o => { o with rev := v })
    | 0x04 => some (oscNat n tU16 (within 2 4096) (·.gap) fun v o => { o with gap := v })
    | 0x05 => some (oscNat n tU8 (within 1 3) (·.level) fun v o => { o with level := v })
    | 0x06 => some (chRo n tQ30 fun c => (f64ToQ30 c.osc.floor).toNat)
    | 0x07 => some (chRo n tU16 (·.osc.count))
    | 0x08 => some (chRo n tU32 fun c => c.osc.reports.value.toNat)
    | _ => none
  | 0x15 => match el with
    | 0x01 => some (chRo n tU8 (·.hold.held))
    | 0x02 => some (objSrcResume n)
    | _ => none
  | _ => none

end Sys2Proof.Machine
end

