-- ==== Sys2Proof/Machine/Credit.lean ====
section
/-! DEFINITION. The counters of the credit arbiter (R462, R467 to R472): the decision, a grant's debit, masks, waits and forced
requesters. -/

namespace Sys2Proof.Machine

/-! ### Resources and their requesters -/

def State.arb (s : State) (res : Resource) : Arb :=
  match res with
  | .pool => s.pool
  | .ronko => s.link
  | .fsp => s.bus

def State.modArb (s : State) (res : Resource) (f : Arb → Arb) : State :=
  match res with
  | .pool => { s with pool := f s.pool }
  | .ronko => { s with link := f s.link }
  | .fsp => { s with bus := f s.bus }

/-- A requester replaced by its update. -/
def Arb.modReq (a : Arb) (q : Nat) (f : Requesting → Requesting) : Arb := { a with reqs := a.reqs.modify q f }

/-- The requester of the pool write port that a source belongs to (Table 12.1). -/
def poolReq : HwSource → Nat
  | .stream n | .result n => n.val
  | .aux => 8
  | .macRx => 9
  | .capture _ | .tune _ => 12

/-! ### The decision (R469 to R472) -/

/-- The group a requester is served in: unmasked high priority, normal, masked high. -/
def Requesting.group (r : Requesting) : Nat := if r.active.high then (if r.masked then 2 else 0) else 1

/-- Requester `a` goes before requester `b`: forced ones in the order they reached their limits, then the groups, then the
fuller counter, then the parked owner, then the lower number. -/
def goesFirst (parked : Option Nat) (a b : Nat × Requesting) : Bool :=
  if a.2.forced != b.2.forced then
    a.2.forced != 0 && (b.2.forced == 0 || a.2.forced < b.2.forced)
  else if a.2.group != b.2.group then a.2.group < b.2.group
  else if a.2.credit != b.2.credit then b.2.credit < a.2.credit
  else if parked == some a.1 then true
  else if parked == some b.1 then false
  else a.1 < b.1

/-- The winner among requesters. -/
def pick (parked : Option Nat) (xs : List (Nat × Requesting)) : Option (Nat × Requesting) :=
  xs.foldl (fun best x => match best with
    | none => some x
    | some b => if goesFirst parked x b then some x else some b) none

/-! ### A grant -/

/-- A credit counter after a grant (R468). -/
def debit (credit : Int) (cost : Nat) : Int :=
  if 0 < credit then (if credit - cost < -32768 then -32768 else credit - cost) else credit

/-- A wait counter after cycles of another's grant, and the longest wait (R472). -/
def Requesting.waited (r : Requesting) (cycles : Nat) : Requesting :=
  let w := Nat.min 65535 (r.wait + cycles)
  { r with wait := w, maxWait := Nat.max r.maxWait w }

/-- A requester of the link or the FSP becomes forced (R472). -/
def Arb.force (a : Arb) (q : Nat) : Arb :=
  { a.modReq q fun r => { r with forced := a.forcedNo + 1 } with forcedNo := a.forcedNo + 1 }

/-- The winner's own counters after its grant. -/
def Requesting.won (r : Requesting) (pool : Bool) (cost : Nat) : Requesting :=
  let granted := r.granted + 1
  let mask := pool && r.active.high && decide (r.active.limit ≤ granted)
  { r with
    credit := debit r.credit cost, granted := granted, masked := r.masked || mask, wait := 0, forced := 0
    grants := r.grants.inc
    events := if (mask && !r.masked) || r.forced != 0 then r.events.inc else r.events }

/-- A grant begins: the owner parks, and the others that request begin to wait. -/
def Arb.grant (a : Arb) (pool : Bool) (q cost : Nat) (others : List Nat) : Arb :=
  let a := a.modReq q (·.won pool cost)
  { a with reqs := a.reqs.map fun r => { r with counted := 0 }, owner := some q, parked := some q, cost := cost
           waiters := others.filter (· != q) }

/-- The cycles of the grant in progress that a requester waits, of those not yet counted: all of them where it requests from the
grant's beginning to its end, and a free part where it does so for a part of the grant (R472; log entry 57). -/
def Arb.waitCycles (a : Arb) (k : Nat) (atEnd : List Nat) (free : Nat) : Nat :=
  let full := a.cost - ((a.reqs[k]?).map (·.counted)).getD 0
  if a.owner == some k then 0
  else match a.waiters.contains k, atEnd.contains k with
    | true, true => full
    | false, false => 0
    | _, _ => Config.freeNat free % (full + 1)

/-- A place among requesters that reach their limits, by the cycle in which each does, then by number. -/
def insertDue (x : Nat × Nat) : List (Nat × Nat) → List (Nat × Nat)
  | [] => [x]
  | y :: ys => if x.1 < y.1 || (x.1 == y.1 && x.2 < y.2) then x :: y :: ys else y :: insertDue x ys

/-- The requesters whose wait counters reach their limits within a grant, the first one first (R472). -/
def Arb.due (a : Arb) (cycles : Nat → Nat) : List Nat :=
  ((a.reqs.zipIdx.filter fun x => x.1.forced == 0 && decide (x.1.active.limit ≤ x.1.wait + cycles x.2)).foldl
    (fun l x => insertDue (a.cost - cycles x.2 + (x.1.active.limit - x.1.wait), x.2) l) []).map (·.2)

/-- A grant ends: the others have waited its cycles, and on the link and the FSP those at their limits become forced (R472).
`atEnd` are the requesters that request then, and `free` the first of the free values that their parts of the grant may take. -/
def Arb.endGrant (a : Arb) (pool : Bool) (atEnd : List Nat) (free : Nat) : Arb :=
  let cycles := fun k => a.waitCycles k atEnd (free + k)
  let a' := { a with owner := none, cost := 0, waiters := []
                     reqs := a.reqs.zipIdx.map fun (r, k) => r.waited (cycles k) }
  if pool then a' else (a.due cycles).foldl Arb.force a'

/-- The grant of a resource ends. -/
def State.endGrant (s : State) (res : Resource) (atEnd : List Nat) : State :=
  let a := s.arb res
  if a.owner.isNone then s
  else { s.modArb res fun a => a.endGrant (res == .pool) atEnd s.free with free := s.free + a.reqs.length }

def reqApp : Nat := 10
def reqFsp : Nat := 11

end Sys2Proof.Machine
end

