-- ==== Sys2Proof/Machine/Rings.lean ====
section
/-! DEFINITION. Hamper's rings and page pool (R417 to R443): storing records and bundles under a ring's policy, gap
markers, removing records, and the accounting of losses. -/

namespace Sys2Proof.Machine

/-! ### Rings and pages -/

/-- Slots in one page (R418). -/
def Ring.perPage (r : Ring) : Nat := 256 / r.recSize

/-- Slots at the pages held (R418). -/
def Ring.capacity (r : Ring) : Nat := r.pagesHeld * r.perPage

/-- COUNT: the slots in use. -/
def Ring.count (r : Ring) : Nat := r.recs.length

/-- The configured ring of a number. -/
def Hamper.ring (h : Hamper) (k : Nat) : Option Ring := h.rings.find? fun r => r.num == k && r.enabled

/-- The ring of a number, configured or once configured. -/
def Hamper.anyRing (h : Hamper) (k : Nat) : Option Ring := h.rings.find? fun r => r.num == k

/-- A ring put in its place by number, in place of one with its number. -/
def putRing (x : Ring) : List Ring → List Ring
  | [] => [x]
  | y :: ys =>
    if y.num == x.num then x :: ys
    else if x.num < y.num then x :: y :: ys
    else y :: putRing x ys

/-- RINGS_CONFIGURED (Table 11.8). -/
def Hamper.ringsUsed (h : Hamper) : Nat := h.rings.countP (·.enabled)

/-- Pages held by the configured rings. -/
def Hamper.pagesUsed (h : Hamper) : Nat := ((h.rings.filter (·.enabled)).map (·.pagesHeld)).sum

/-- POOL_RESERVED: the reservations of the configured rings. -/
def Hamper.reserved (h : Hamper) : Nat := ((h.rings.filter (·.enabled)).map (·.minPages)).sum

/-- POOL_FREE: 4,096 pages less those held (R421, R458). -/
def Hamper.poolFree (h : Hamper) : Nat := if h.ready then 4096 - h.pagesUsed else 0

/-- Hamper after a change of what its rings hold: a page that returned to the pool ends an exhaustion episode, and the taking of the
last free page begins a new one (R423). -/
def Hamper.settle (h' h : Hamper) : Hamper :=
  { h' with refusedDry := h'.refusedDry && decide (h'.poolFree ≤ h.poolFree) && (h'.poolFree != 0 || h.poolFree == 0) }

/-- A ring replaced. -/
def Hamper.setRing (h : Hamper) (r : Ring) : Hamper := ({ h with rings := putRing r h.rings } : Hamper).settle h

def State.setRing (s : State) (r : Ring) : State := { s with hamper := s.hamper.setRing r }

/-! ### Words and bytes of a record (R12, R441) -/

/-- The bytes of a record in wire order, from its words: a word record most significant byte first, a byte record in
ascending address order, words being little-endian in memory. -/
def wireBytes (byteRecs : Bool) (ws : List Word) : List Byte :=
  ws.flatMap fun w => if byteRecs then (natBytes 4 w.toNat).reverse else natBytes 4 w.toNat

/-- Groups of four bytes as words, the first byte most significant. -/
def beWords : List Byte → List Word
  | a :: b :: c :: d :: rest => be32 a b c d :: beWords rest
  | _ => []

/-- The words of a record from its bytes in wire order. -/
def recWords (byteRecs : Bool) (bytes : List Byte) : List Word :=
  if byteRecs then (beWords bytes).map fun w => BitVec.ofNat 32 (beNat (natBytes 4 w.toNat).reverse) else beWords bytes

/-- A gap marker with its count (R436). -/
def markerRec (r : Ring) (n : Nat) : Rec :=
  { bytes := wireBytes r.byteRecs
      ([BitVec.ofNat 32 n, BitVec.ofNat 32 (n / 2 ^ 32)] ++ List.replicate (r.recSize / 4 - 2) 0), mark := true }

/-- The count of a gap marker (R436). -/
def markerCount (r : Ring) (x : Rec) : Nat :=
  match recWords r.byteRecs x.bytes with
  | lo :: hi :: _ => lo.toNat + 2 ^ 32 * hi.toNat
  | _ => 0

/-! ### The stream tap (R574) -/

/-- The words of a stored record enter the stream buffer of 256 words, all or none. -/
def Mgp.tap (m : Mgp) (x : Rec) : Mgp :=
  let ws := beWords x.bytes
  if 256 < m.buffer.length + ws.length then { m with streamLost := m.streamLost.inc, tapLoss := true }
  else
    let items := ws.zipIdx.map fun (w, i) =>
      ({ word := w, first := i == 0, mark := x.mark, loss := i == 0 && m.tapLoss, index := i } : StreamWord)
    { m with buffer := m.buffer ++ items, tapLoss := m.tapLoss && ws.isEmpty }

/-! ### Losses (R433 to R436) -/

/-- `k` records are lost from a ring: LOSS_TOTAL counts them, GAPS a new gap, and the first drop after a stored record
raises a ring-loss event. -/
def countLoss (s : State) (r : Ring) (k : Nat) (newGap : Bool) : State × Ring :=
  let r' := { r with lossTotal := r.lossTotal + BitVec.ofNat 64 k, gaps := if newGap then r.gaps.inc else r.gaps,
                     lossArmed := false }
  (if r.lossArmed then raiseEvent s evData 1 r.num else s, r')

/-- Records lost behind everything the ring holds: they join the pending loss (R433, R434). -/
def pendLoss (s : State) (r : Ring) (k : Nat) : State :=
  let (s', r') := countLoss s r k (r.pendLoss == 0)
  s'.setRing { r' with pendLoss := r'.pendLoss + k }

/-! ### Room -/

/-- Pages a ring needs for `k` slots more. -/
def Ring.pagesFor (r : Ring) (k : Nat) : Nat := (r.count + k + r.perPage - 1) / r.perPage

/-- A ring that holds at least `k` pages: the missing ones are taken at its tail (R422). -/
def Ring.hold (r : Ring) (k : Nat) : Ring :=
  let more := k - r.pagesHeld
  { r with pagesHeld := Nat.max r.pagesHeld k, pages := r.pages ++ (List.range more).map (r.pageNext + ·),
           pageNext := r.pageNext + more }

/-- The ring can take `k` slots more: in the pages it holds or in pages the pool can supply, up to MAX_PAGES (R422,
R423). -/
def Hamper.fits (h : Hamper) (r : Ring) (k : Nat) : Bool :=
  decide (r.pagesFor k ≤ r.maxPages) && decide (r.pagesFor k - r.pagesHeld ≤ h.poolFree)

/-- The pool alone stands in the way (R423). -/
def Hamper.poolShort (h : Hamper) (r : Ring) (k : Nat) : Bool :=
  decide (r.pagesFor k ≤ r.maxPages) && decide (h.poolFree < r.pagesFor k - r.pagesHeld)

/-- The first refusal of a page after the pool last held a free one is counted and reported (R423). -/
def poolRefusal (s : State) (r : Ring) (k : Nat) : State :=
  if s.hamper.poolShort r k && !s.hamper.refusedDry then
    sendMsg { s with hamper := { s.hamper with poolExhaust := s.hamper.poolExhaust.inc, refusedDry := true } }
      srcHamper 0xB1 .warn r.num
  else s

/-! ### Storing -/

/-- The slots of a bundle: CONT in every record after the first (R432). -/
def bundleRecs (recs : List (List Byte)) : List Rec :=
  recs.zipIdx.map fun (b, i) => ({ bytes := b, cont := i != 0 } : Rec)

/-- An injected pool error falls on the next record stored in its ring (R606, Table 15.9): one flipped bit is
correctable, two are not. -/
def faultBits (b : Badger) (num : Nat) (x : Rec) : Rec :=
  match b.injections.find? (fun j => b.testActive && j.target == 2 && j.arg == num && j.value != 0) with
  | some j => if j.value = 1 then { x with soft := true } else { x with bad := true }
  | none => x

/-- The first record among slots takes the injected bits; a gap marker is none (R606). -/
def faultFirst (b : Badger) (num : Nat) : List Rec → List Rec
  | [] => []
  | x :: rest => if x.mark then x :: faultFirst b num rest else faultBits b num x :: rest

/-- The injected bits have gone into a record: a correctable one ends the injection, two bits wait for their report. -/
def Badger.flipped (b : Badger) (num : Nat) : Badger :=
  { b with injections :=
      (b.injections.filter fun j => !(j.target == 2 && j.arg == num && j.value == 1)).map fun j =>
        if j.target == 2 && j.arg == num then { j with value := 0 } else j }

/-- The injected pool error of a ring has been reported. -/
def Badger.reported (b : Badger) (num : Nat) : Badger :=
  { b with injections := b.injections.filter fun j => !(j.target == 2 && j.arg == num && j.value == 0) }

/-- Slots appended to a ring that has room for them: pages are taken, the watermark is watched, and a tapped ring's
records are copied to the stream buffer (R422, R443, R574). -/
def appendSlots (s : State) (r : Ring) (xs : List Rec) : State :=
  let xs' := faultFirst s.badger r.num xs
  let recs := r.recs ++ xs'
  let rises := r.wmArmed && r.highWm != 0 && decide (r.count < r.highWm) && decide (r.highWm ≤ recs.length)
  let r' := { r.hold (r.pagesFor xs.length) with recs := recs, lossArmed := true, wmArmed := r.wmArmed && !rises }
  let s := s.setRing r'
  let s := if xs.all (·.mark) then s else { s with badger := s.badger.flipped r.num }
  let s := if rises then raiseEvent s evData 0 r.num else s
  if s.mgp.streamRing == r.num then { s with mgp := xs'.foldl Mgp.tap s.mgp } else s

/-- A record or bundle stored with the marker of the pending loss in front of it, if there is one (R433). -/
def storeNow (s : State) (r : Ring) (recs : List (List Byte)) : State :=
  if r.pendLoss = 0 then appendSlots s r (bundleRecs recs)
  else appendSlots s { r with pendLoss := 0 } (markerRec r r.pendLoss :: bundleRecs recs)

/-- Slots that a record or bundle needs, the marker of a pending loss included. -/
def Ring.slotsFor (r : Ring) (recs : List (List Byte)) : Nat := recs.length + bNat (r.pendLoss != 0)

/-- The head slot is freed: the page it leaves returns to the pool when the ring holds more than its reservation and the
records left fit in the other pages (R422); COUNT at or below LOW_WM arms the watermark (R443). -/
def Ring.freeHead (r : Ring) : Ring :=
  let recs := r.recs.tail
  let slot := r.headSlot + 1
  let leaves := decide (r.perPage ≤ slot)
  let back := leaves && decide (r.minPages < r.pagesHeld) && decide (recs.length + r.reserved ≤ (r.pagesHeld - 1) * r.perPage)
  { r with recs := recs, headSlot := if leaves then 0 else slot,
           pagesHeld := if back then r.pagesHeld - 1 else r.pagesHeld,
           pages := if back then r.pages.tail else if leaves then r.pages.tail ++ r.pages.take 1 else r.pages,
           wmArmed := r.wmArmed || decide (recs.length ≤ r.lowWm) }

/-- One head slot removed into the head gap: a record counts 1, a marker its count, which LOSS_TOTAL holds already
(R434, R436). -/
def dropHead (s : State) (r : Ring) : State × Ring :=
  match r.recs with
  | [] => (s, r)
  | x :: _ =>
    if x.mark then (s, { r.freeHead with headGap := r.headGap + markerCount r x })
    else
      let (s', r') := countLoss s r 1 (r.headGap == 0)
      (s', { r'.freeHead with headGap := r'.headGap + 1 })

/-- Head records removed until `k` slots fit, each with the rest of its bundle (R434). `n` bounds the slots removed. -/
def makeRoom : Nat → State → Ring → Nat → State × Ring
  | 0, s, r, _ => (s, r)
  | n + 1, s, r, k =>
    let inBundle := match r.recs with
      | x :: _ => x.cont
      | [] => false
    if s.hamper.fits r k && !inBundle then (s, r)
    else
      let (s', r') := dropHead s r
      makeRoom n (s'.setRing r') r' k

/-- How a producer's record or bundle fared. -/
inductive Put where
  | stored | full | dropped
  deriving DecidableEq, Repr

/-- `k` slots would fit if the ring were emptied (R434). -/
def Hamper.fitsEmpty (h : Hamper) (r : Ring) (k : Nat) : Bool := h.fits { r with recs := [] } k

/-- Room for a producer's record or bundle under the ring's policy (R433 to R435): the ring that can take it now, or how it fared.
Commands act in the order in which they are sent, and of two of one BCLK cycle the sender gives the removal first (R438, log entry
110). -/
def makeFit (s : State) (r : Ring) (recs : List (List Byte)) : State × Option Ring × Put :=
  let k := r.slotsFor recs
  if s.hamper.fits r k then (s, some r, .stored)
  else
    let s := poolRefusal s r k
    match r.policy with
    | .dropNewest => (pendLoss s r recs.length, none, .dropped)
    | .stall => (s, none, .full)
    | .dropOldest =>
      if s.hamper.fitsEmpty r k then
        let (s, r) := makeRoom r.recs.length s r k
        (s, some r, .stored)
      else (pendLoss s r recs.length, none, .dropped)

/-- A producer's record or bundle stored, or not, under the ring's policy. -/
def putRecords (s : State) (r : Ring) (recs : List (List Byte)) : State × Put :=
  match makeFit s r recs with
  | (s, some r, p) => (storeNow s r recs, p)
  | (s, none, p) => (s, p)

/-! ### Descriptor errors (R418) -/

/-- A ring disabled: no record, no page, and no pending loss or head gap stands (R418, R420). -/
def Ring.disable (r : Ring) : Ring :=
  { r with enabled := false, recs := [], headSlot := 0, pagesHeld := 0, pages := [], headGap := 0, pendLoss := 0
           reserved := 0 }

/-- An access to a ring whose descriptor an injection has hit: the ring is disabled, its pages are freed, and DESC_ECC
is sent (R418, Table 15.9). -/
def checkDesc (s : State) (num : Nat) : State :=
  if s.badger.testActive && s.badger.injections.any (fun j => j.target == 3 && j.arg == num) then
    match s.hamper.ring num with
    | some r =>
      let s := sendMsg (s.setRing r.disable) srcHamper 0xC0 .error num
      { s with badger := { s.badger with injections := s.badger.injections.filter fun j => !(j.target == 3 && j.arg == num) } }
    | none => s
  else s

/-! ### Removing (R439) -/

/-- What a reader finds at the head. -/
inductive Popped where
  | nothing
  | marker (count : Nat)
  | record (x : Rec)
  deriving DecidableEq, Repr

/-- The record in place `k` has an uncorrectable error: it is counted as lost, and a marker of 1 stands in its place; the
records of its bundle behind it begin anew (R425). -/
def eccTurn (s : State) (r : Ring) (k : Nat) : State :=
  let r' := { r with
    lossTotal := r.lossTotal + 1, gaps := r.gaps.inc
    recs := r.recs.take k ++ markerRec r 1 :: (match r.recs.drop (k + 1) with
      | y :: ys => { y with cont := false } :: ys
      | [] => []) }
  let s := s.setRing r'
  let s := sendMsg { s with hamper := { s.hamper with eccLost := s.hamper.eccLost.inc } } srcHamper 0xC1 .warn r.num
  { s with badger := s.badger.reported r.num }

/-- A correctable error is corrected on the read and counted (R425). -/
def eccRead (s : State) (x : Rec) : State :=
  if x.soft then { s with hamper := { s.hamper with eccCorrected := s.hamper.eccCorrected.inc } } else s

/-- The head of a ring removed as a reader receives it: a head gap first, then markers and records in order (R439,
R425). -/
def popHead (s : State) (r : Ring) : State × Popped :=
  if r.headGap != 0 then (s.setRing { r with headGap := 0 }, .marker r.headGap)
  else match r.recs with
    | [] => (s, .nothing)
    | x :: _ =>
      if x.mark then (s.setRing r.freeHead, .marker (markerCount r x))
      else if x.bad then
        let s := eccTurn s r 0
        match s.hamper.ring r.num with
        | some r => (s.setRing r.freeHead, .marker 1)
        | none => (s, .marker 1)
      else ((eccRead s x).setRing r.freeHead, .record { x with soft := false })

/-- The length of the bundle at the head: one slot and every CONT slot behind it. -/
def headBundle (recs : List Rec) : List Rec :=
  match recs with
  | [] => []
  | x :: rest => x :: rest.takeWhile fun y => y.cont && !y.mark && !y.bad

/-- `k` head slots removed, each counted if it was corrected. -/
def takeHeads : Nat → State → Ring → State × Ring
  | 0, s, r => (s, r)
  | k + 1, s, r =>
    match r.recs with
    | [] => (s, r)
    | x :: _ => takeHeads k ((eccRead s x).setRing r.freeHead) r.freeHead

/-- Whole bundles taken from the head for a READ_RING, at most `n` records in all; it stops before a marker and before a
bundle too large, and turns an uncorrectable record it meets into a marker. A bundle that no READ_RING can return whole
is returned alone, truncated, its rest counted as lost (R439, R440). -/
def readBundles : Nat → State → Nat → Nat → List (List Byte) → State × List (List Byte)
  | 0, s, _, _, acc => (s, acc)
  | fuel + 1, s, num, n, acc =>
    if n = 0 then (s, acc)
    else match s.hamper.ring num with
    | none => (s, acc)
    | some r =>
      match r.recs with
      | [] => (s, acc)
      | x :: _ =>
        if x.mark then (s, acc)
        else if x.bad then (eccTurn s r 0, acc)
        else
          let b := headBundle r.recs
          if 1446 / r.recSize < b.length then
            if acc.isEmpty then
              let (s, r) := takeHeads b.length s r
              let lost := b.length - n
              let r := if lost = 0 then r else
                { r with lossTotal := r.lossTotal + BitVec.ofNat 64 lost, gaps := r.gaps.inc }
              (s.setRing r, (b.take n).map (·.bytes))
            else (s, acc)
          else if n < b.length then (s, acc)
          else
            let (s, _) := takeHeads b.length s r
            readBundles fuel s num (n - b.length) (acc ++ b.map (·.bytes))

/-! ### Roles and bindings (Table 11.1, R428) -/

def roleHost : Nat := 0x01
def roleApp : Nat := 0x02
def roleFsp : Nat := 0x03
def roleMacTx : Nat := 0x04
def roleList (n : Ch) : Nat := 0x08 + n.val
def roleStream (n : Ch) : Nat := 0x10 + n.val
def roleResult (n : Ch) : Nat := 0x18 + n.val
def roleCapture (n : Ch) : Nat := 0x20 + n.val
def roleTune (n : Ch) : Nat := 0x28 + n.val
def roleAux : Nat := 0x30
def roleMacRx : Nat := 0x31

/-- A role reads its ring rather than writing it. -/
def roleConsumes (role : Nat) : Bool := role == roleMacTx || (0x08 ≤ role && role < 0x10)

/-- A role that must not stall: the real-time sources of Table 11.1. -/
def roleRealTime (role : Nat) : Bool := 0x10 ≤ role

/-- The channel of a channel source, if the role is one. -/
def roleChan (role : Nat) : Option Ch :=
  if 0x08 ≤ role && role < 0x30 then chOf (role % 8) else none

/-- The role on the side of a ring that a source occupies. -/
def Ring.side (r : Ring) (role : Nat) : Nat := if roleConsumes role then r.consumer else r.producer

def Ring.setSide (r : Ring) (role v : Nat) : Ring :=
  if roleConsumes role then { r with consumer := v } else { r with producer := v }

/-- The checks of R428 on a source object's ring number; `form` holds the record format the source writes (R364,
R429). -/
def bindOk (s : State) (role num : Nat) (form : Ring → Bool) : Bool :=
  num == 0xFFFF ||
    match s.hamper.ring num with
    | none => false
    | some r =>
      form r && !(roleRealTime role && r.policy == .stall) && !(4 ≤ r.side role && r.side role != role)
        && (match r.chan, roleChan role with
            | some c, some n => c == n
            | _, _ => true)

/-- The side of a source's former ring returns to None (R428). -/
def releaseSide (s : State) (role num : Nat) : State :=
  match s.hamper.ring num with
  | some r => if r.side role == role then s.setRing (r.setSide role 0) else s
  | none => s

/-- A source takes its side of a ring; one that another hardware source holds stays as it is, so that `bindOk` finds it there
(R428). -/
def takeSide (s : State) (role num : Nat) : State :=
  match s.hamper.ring num with
  | some r => if 4 ≤ r.side role then s else s.setRing (r.setSide role role)
  | none => s

/-- A source is bound to a ring, or to none, and its former ring's side returns to None (R428). -/
def bindRing (s : State) (role old num : Nat) : State := takeSide (releaseSide s role old) role num

/-- A change of the aux configuration: the ring that the active configuration no longer names is let go (R379, R428). -/
def State.withAux (s : State) (f : Aux → Aux) : State :=
  let old := s.aux.active.ring
  let s := { s with aux := f s.aux }
  if s.aux.active.ring = old then s else releaseSide s roleAux old

/-! ### Staging (R430) -/

/-- The ring a real-time source writes; none while its object is 0xFFFF. -/
def ringOfSource (s : State) : HwSource → Nat
  | .stream n => (s.chan n).stream.ring
  | .result n => (s.chan n).sweep.resultRing
  | .aux => s.aux.active.ring
  | .macRx => s.eth.rxRing
  | .capture n => (s.chan n).cap.ring
  | .tune n => (s.chan n).tune.ring

/-- The role code of a real-time source. -/
def roleOfSource : HwSource → Nat
  | .stream n => roleStream n
  | .result n => roleResult n
  | .aux => roleAux
  | .macRx => roleMacRx
  | .capture n => roleCapture n
  | .tune n => roleTune n

/-- The ring that accepts a source's records: its producer side names the source (R426, R428). -/
def boundRing (s : State) (src : HwSource) : Option Ring :=
  match s.hamper.ring (ringOfSource s src) with
  | some r => if r.producer == roleOfSource src then some r else none
  | none => none

/-- The records that wait in a source's staging buffer (R430). -/
def Hamper.stagedRecs (h : Hamper) (src : HwSource) : Nat :=
  ((h.staging.filter fun x => x.src == src).map fun x => x.recs.length - x.sent).sum

/-- A real-time producer hands over a record or bundle: its staging buffer takes it, or it is lost as a policy drop is where the
buffer is full, which it is with 4 records or more; a source without a ring hands nothing over (R430). -/
def stage (s : State) (src : HwSource) (recs : List (List Byte)) : State :=
  match boundRing s src with
  | none => s
  | some r =>
    if 4 ≤ s.hamper.stagedRecs src then pendLoss s r recs.length
    else { s with hamper := { s.hamper with staging := s.hamper.staging ++ [{ src := src, recs := recs }] } }

/-- The first element that meets a condition taken out of a list. -/
def takeFirst {α : Type} (p : α → Bool) : List α → Option (α × List α)
  | [] => none
  | x :: xs =>
    if p x then some (x, xs)
    else match takeFirst p xs with
      | some (y, ys) => some (y, x :: ys)
      | none => none

/-- A copy of BULK joins its order behind the others (R463, R464). -/
def State.joinBulk (s : State) (src : HwSource) : State :=
  { s with hamper := { s.hamper with bulk := s.hamper.bulk.filter (· != src) ++ [src] } }

/-- A copy of BULK has records left. -/
def bulkHas (s : State) (src : HwSource) : Bool :=
  match src with
  | .capture n => (s.chan n).cap.state == .copying && !(s.chan n).cap.codes.isEmpty
  | src => s.hamper.staging.any fun x => x.src == src

/-- The source whose record a requester of the pool write port presents: the older head of its staging buffers, or BULK's first
copy (R463). -/
def headSource (s : State) (q : Nat) : Option HwSource :=
  if q = 12 then s.hamper.bulk.find? (bulkHas s) else (s.hamper.staging.find? fun x => poolReq x.src == q).map (·.src)

/-- Records of TUNE that found no place (R323). -/
def loseTune (s : State) (n : Ch) (k : Nat) : State :=
  s.modCh n fun c => { c with tune := { c.tune with lost := c.tune.lost.add k } }

/-- What a ring did not take of a TUNE half (R323) or of the MAC's frames (Table 3.14). -/
def countLost (s : State) (src : HwSource) (k : Nat) : State :=
  match src with
  | .macRx => { s with eth := { s.eth with rxDropped := s.eth.rxDropped.inc } }
  | .tune n => loseTune s n k
  | _ => s

/-- The first element that meets a condition replaced. -/
def setFirst {α : Type} (p : α → Bool) (y : α) : List α → List α
  | [] => []
  | x :: xs => if p x then y :: xs else x :: setFirst p y xs

/-- The reservation for a bundle that will not be stored is given up. -/
def dropReserve (s : State) (num : Nat) : State :=
  match s.hamper.ring num with
  | some r => if r.reserved = 0 then s else s.setRing { r with reserved := 0 }
  | none => s

/-- The pool write port takes the first record of a source: its ring's policy decides on the record, or on the whole bundle, whose
room is reserved then (R430, R432, R467). -/
def firstRecord (s : State) (src : HwSource) (x : Staged) (rest : List Staged) : State :=
  let drop := fun (s : State) => { s with hamper := { s.hamper with staging := rest } }
  let s := checkDesc s (ringOfSource s src)
  match boundRing s src with
  | none => countLost (drop s) src x.recs.length
  | some r =>
    match makeFit s r x.recs with
    | (s, none, _) => countLost (drop s) src x.recs.length
    | (s, some r, _) =>
      if x.recs.length ≤ 1 then storeNow (drop s) r x.recs
      else
        let k := r.slotsFor x.recs
        let s := s.setRing { r.hold (r.pagesFor k) with reserved := k }
        { s with hamper := { s.hamper with staging := setFirst (·.src == src) { x with sent := 1, ring := r.num } s.hamper.staging } }

/-- The last record of a bundle makes all of them readable, in the ring in which they were reserved (R467). -/
def lastRecord (s : State) (src : HwSource) (x : Staged) (rest : List Staged) : State :=
  let s := { s with hamper := { s.hamper with staging := rest } }
  match boundRing s src with
  | some r => if r.num = x.ring then storeNow s { r with reserved := 0 } x.recs else countLost (dropReserve s x.ring) src x.recs.length
  | none => countLost (dropReserve s x.ring) src x.recs.length

/-- The next record of a source's staging buffer is written to its ring (R430, R467). -/
def writeStaged (s : State) (src : HwSource) : State :=
  match takeFirst (fun x => x.src == src) s.hamper.staging with
  | none => s
  | some (x, rest) =>
    if x.sent = 0 then firstRecord s src x rest
    else if x.sent + 1 < x.recs.length then
      { s with hamper := { s.hamper with staging := setFirst (·.src == src) { x with sent := x.sent + 1 } s.hamper.staging } }
    else lastRecord s src x rest

/-! ### Captured codes (R349, R362, R363) -/

/-- Word 0 of a converter record: KIND, REF_NR and CHAN, with the kind's own bits (Table 9.2). -/
def tagWord (kind : Nat) (refNr : Bool) (chan rest : Nat) : Word :=
  BitVec.ofNat 32 (2 ^ 28 * kind + 2 ^ 27 * bNat refNr + 2 ^ 24 * chan + rest)

/-- A value of `bits` bits in a value field (R363). -/
def alignVal (align bits : Nat) (v : Int) : Word :=
  if align = 0 then BitVec.ofInt 32 v else BitVec.ofInt 32 (v * 2 ^ (32 - bits))

/-- The record of one captured code (Table 9.6). -/
def capRecord (n : Ch) (align index : Nat) (x : CapCode) : List Word :=
  [tagWord 4 x.refNr n.val (2 ^ 23 * bNat x.adcB + 2 ^ 22 * bNat x.meter + index), alignVal align 16 x.code.toInt]

/-- The next record of a capture copy is written to its ring; the ring's policy rules, and the copy goes on (R349). -/
def writeCaptured (s : State) (n : Ch) : State :=
  let c := s.chan n
  match c.cap.codes with
  | [] => s
  | x :: rest =>
    let s := s.modCh n fun c => { c with cap := { c.cap with codes := rest, index := c.cap.index + 1 } }
    let s := checkDesc s c.cap.ring
    match boundRing s (.capture n) with
    | none => s
    | some r => (putRecords s r [wireBytes r.byteRecs (capRecord n c.cap.align c.cap.index x)]).1

/-! ### The pool write port (R462, R463, R467, R469, R471) -/

/-- The response that the FSP keeps for its ring, once the ring has room for it (R435, R541). -/
def keptResponse (s : State) : Option Ring :=
  if s.fsp.response.isEmpty then none
  else match s.hamper.ring s.fsp.respRing with
    | some r => if r.producer == roleFsp && s.hamper.fits r (r.slotsFor s.fsp.response) then some r else none
    | none => none

/-- The kept response is written. -/
def writeKept (s : State) : State :=
  match keptResponse s with
  | some r => storeNow { s with fsp := { s.fsp with response := [] } } r s.fsp.response
  | none => s

/-- A requester of the pool write port requests. APP's request, and that of the FSP for the response of the entry that completes, last
no longer than the command that writes its records (log entry 57). -/
def poolRequests (s : State) (q : Nat) : Bool := (headSource s q).isSome || (q == reqFsp && (keptResponse s).isSome)

/-- The requesters of the pool write port that request, `extra` among them. -/
def poolRequesting (s : State) (extra : List Nat) : List (Nat × Requesting) :=
  (s.pool.reqs.zipIdx.map fun (r, q) => (q, r)).filter fun x => poolRequests s x.1 || extra.contains x.1

/-- The cost of the next record of a requester: 2 where a gap marker goes in front of it (R467). -/
def headCost (s : State) (q : Nat) : Nat :=
  let r := if q = reqFsp then keptResponse s
    else match headSource s q with
      | some src => if s.hamper.staging.any (fun x => x.src == src && x.sent != 0) then none else s.hamper.ring (ringOfSource s src)
      | none => none
  match r with
  | some r => if r.pendLoss = 0 then 1 else 2
  | none => 1

/-- The record that a granted requester writes. -/
def servePort (s : State) (q : Nat) : State :=
  match headSource s q with
  | some (.capture n) => writeCaptured s n
  | some src => writeStaged s src
  | none => if q = reqFsp then writeKept s else s

/-- A requester is granted the pool write port. -/
def grantPort (s : State) (q cost : Nat) (extra : List Nat) : State :=
  s.modArb .pool fun a => a.grant true q cost ((poolRequesting s extra).map (·.1))

/-- The grant in progress on the pool write port completes: its record is written. -/
def finishPort (s : State) (extra : List Nat) : State :=
  match s.pool.owner with
  | none => s
  | some q =>
    let s := servePort s q
    s.endGrant .pool ((poolRequesting s extra).map (·.1))

/-- The grants that come before requester `q`'s; it has its own within 2 · WINDOW + 3 cycles (R469, R476). -/
def portTurn (q : Nat) : Nat → State → State
  | 0, s => s
  | n + 1, s =>
    match pick s.pool.parked (poolRequesting s [q]) with
    | some (w, _) => if w = q then s else portTurn q n (finishPort (grantPort s w (headCost s w) [q]) [q])
    | none => s

/-- A requester that writes within a command has its grant (R469). -/
def portGrant (q cost : Nat) (s : State) : State :=
  let s := portTurn q (2 * s.pool.windowActive + 3) (finishPort s [q])
  let s := grantPort s q cost [q]
  s.endGrant .pool ((poolRequesting s []).map (·.1))

/-- The grants of the `k` records of a bundle after its first (R467). -/
def portRest (q k : Nat) (s : State) : State := forEach (List.range (k - 1)) s fun s _ => portGrant q 1 s

/-! ### Configuration (R419, R420) -/

/-- The configuration a RING_CONFIG BLOB spells (Table 11.3), if it is legal in itself. -/
def ringOfBlob (data : List Byte) : Option Ring :=
  match data with
  | [r1, r0, size, pol, n1, n0, m1, m0, prod, cons, chan, form, h1, h0, l1, l0] =>
    let num := (be16 r1 r0).toNat
    let minP := (be16 n1 n0).toNat
    let maxP := (be16 m1 m0).toNat
    let hi := (be16 h1 h0).toNat
    let lo := (be16 l1 l0).toNat
    let sz := size.toNat
    if num ≤ 16383 && (sz == 8 || sz == 16 || sz == 32) && pol.toNat ≤ 2 && 1 ≤ minP && minP ≤ maxP && maxP ≤ 256
        && prod.toNat ≤ 3 && cons.toNat ≤ 3 && (chan.toNat ≤ 7 || chan == 0xFF) && form.toNat ≤ 1
        && hi ≤ maxP * (256 / sz) && (if hi = 0 then lo == 0 else decide (lo < hi)) then
      some { num := num, recSize := sz, byteRecs := form == 1,
             policy := if pol == 0 then .dropNewest else if pol == 1 then .dropOldest else .stall,
             minPages := minP, maxPages := maxP, producer := prod.toNat, consumer := cons.toNat,
             chan := if chan == 0xFF then none else chOf chan.toNat, highWm := hi, lowWm := lo, pagesHeld := minP }
    else none
  | _ => none

def policyCode : Policy → Nat
  | .dropNewest => 0
  | .dropOldest => 1
  | .stall => 2

/-- The BLOB of a ring (Table 11.3), as RING_INFO shows it. -/
def Ring.blob (r : Ring) : List Byte :=
  natBytes 2 r.num ++ [BitVec.ofNat 8 r.recSize, BitVec.ofNat 8 (policyCode r.policy)] ++ natBytes 2 r.minPages
    ++ natBytes 2 r.maxPages ++ [BitVec.ofNat 8 r.producer, BitVec.ofNat 8 r.consumer,
      (match r.chan with | some c => BitVec.ofNat 8 c.val | none => 0xFF), BitVec.ofNat 8 (bNat r.byteRecs)]
    ++ natBytes 2 r.highWm ++ natBytes 2 r.lowWm

/-- A list runs on a channel: WAIT_START, RUNNING or PAUSED (R446, R455). -/
def Sweep.active (w : Sweep) : Bool :=
  match w.listState with
  | .waitStart | .running | .paused => true
  | _ => false

/-- A list runs on a ring (R420). -/
def listRuns (s : State) (num : Nat) : Bool :=
  allCh.any fun n => (s.chan n).sweep.active && (s.chan n).sweep.listRing == num

/-- A hardware role is bound to a ring (R420). -/
def Ring.hwBound (r : Ring) : Bool := decide (4 ≤ r.producer) || decide (4 ≤ r.consumer)

/-- RING_CONFIG (R419). -/
def objRingConfig : Obj :=
  { ty := tBlob, acc := .cmd, max := 16
    range := fun w => match ringOfBlob w.data with
      | some r => decide (w.seq.hamper.reserved + (if (w.seq.hamper.ring r.num).isSome then 0 else r.minPages) ≤ 4096)
      | none => false
    own := fun w => match ringOfBlob w.data with
      | some r => (match r.chan with
        | some c => if holds (w.post.chan c).lock w.req.who then 0 else eNotOwner
        | none => 0)
      | none => 0
    state := fun w => match ringOfBlob w.data with
      | some r =>
        if (w.seq.hamper.ring r.num).isSome then eNotReady
        else if w.seq.hamper.poolFree < r.minPages then eBusy else 0
      | none => 0
    put := fun w s => match ringOfBlob w.data with
      | some r =>
        let next := ((s.hamper.anyRing r.num).map (·.pageNext)).getD 0
        s.setRing (({ r with pagesHeld := 0, pageNext := next } : Ring).hold r.minPages)
      | none => s }

/-- A ring that is not configured is no object to free or flush (R420). -/
def ringMissing (s : State) (num : Nat) : Byte := if (s.hamper.ring num).isSome then eOk else eNoObject

/-- The checks that RING_FREE and RING_FLUSH share (R420). -/
def ringCmd (act : Ring → Ring) : Obj :=
  { ty := tU16, acc := .cmd
    range := fun w => decide (w.v ≤ 16383)
    own := fun w => match w.seq.hamper.ring w.v with
      | none => ringMissing w.seq w.v
      | some r => (match r.chan with
        | some c => if holds (w.post.chan c).lock w.req.who then 0 else eNotOwner
        | none => 0)
    state := fun w => match w.seq.hamper.ring w.v with
      | some r => if r.hwBound || listRuns w.seq w.v then eNotReady else 0
      | none => 0
    put := fun w s => match s.hamper.ring w.v with
      | some r => s.setRing (act r)
      | none => s }

/-- RING_FREE (R420). -/
def objRingFree : Obj := ringCmd Ring.disable

/-- The records of a ring removed and the pages above its reservation returned (R420). -/
def Ring.flush (r : Ring) : Ring :=
  { r with recs := [], headSlot := 0, pagesHeld := r.minPages, pages := r.pages.take r.minPages, headGap := 0, pendLoss := 0,
           wmArmed := true }

/-- RING_FLUSH (R420). -/
def objRingFlush : Obj := ringCmd Ring.flush

/-! ### ROP ring operations (R427) -/

/-- The checks 1, 2, 5, 6 and 7 of R427 that both operations share; `role` is the side's role and `denied` its code. -/
def ringOpCode (s : State) (who : Requester) (num : Nat) (mid : Ring → Byte) (role : Ring → Nat) (denied : Byte) : Byte :=
  if 16383 < num then eRange
  else match s.hamper.ring num with
    | none => eNoObject
    | some r =>
      firstCode [mid r,
        (match normReq s who with
         | .sessionless named => if named then eStaleEpoch else eNotOwner
         | _ => eOk),
        (match r.chan with
         | some c => if holds (s.chan c).lock who then eOk else eNotOwner
         | none => eOk),
        if role r = roleHost then eOk else denied]

/-- Records of a ring's size cut from the data of a WRITE_RING. -/
def cutRecs (size : Nat) : Nat → List Byte → List (List Byte)
  | 0, _ => []
  | k + 1, d => d.take size :: cutRecs size k (d.drop size)

/-- Records stored as consecutive bundles of at most 64 (R432). -/
def storeBundles : Nat → State → Nat → List (List Byte) → State
  | 0, s, _, _ => s
  | fuel + 1, s, num, recs =>
    if recs.isEmpty then s
    else match s.hamper.ring num with
      | some r => storeBundles fuel (storeNow s r (recs.take 64)) num (recs.drop 64)
      | none => s

/-- The application core's turn at the pool write port for records that fit their ring: the ring as it then is, if they still do (R427,
R462). -/
def appTurn (s : State) (r : Ring) (recs : List (List Byte)) : State × Option Ring :=
  let short := fun (s : State) (r : Ring) => (poolRefusal s r (r.slotsFor recs), (none : Option Ring))
  if s.hamper.fits r (r.slotsFor recs) then
    let s := portGrant reqApp (if r.pendLoss = 0 then 1 else 2) s
    match s.hamper.ring r.num with
    | some r => if s.hamper.fits r (r.slotsFor recs) then (s, some r) else short s r
    | none => (s, none)
  else short s r

/-- WRITE_RING (R106, R427). No data at all is a whole multiple of every record size: it stores nothing and is answered E_OK
(DESIGN CHOICE, log entry 98). -/
def doWriteRing (who : Requester) (num : Nat) (ty : Byte) (data : List Byte) (s : State) : State :=
  let s := checkDesc s num
  let code := ringOpCode s who num
    (fun r => if ty = tBlob && data.length % r.recSize = 0 then eOk else eType) (·.producer) eReadOnly
  if code != eOk then s.reply code ty 0 []
  else match s.hamper.ring num with
    | none => s.reply eNoObject ty 0 []
    | some r =>
      let recs := cutRecs r.recSize (data.length / r.recSize) data
      if recs.isEmpty then s.reply eOk tBlob 0 []
      else match appTurn s r recs with
        | (s, some r) => (portRest reqApp recs.length (storeBundles recs.length s r.num recs)).reply eOk tBlob 0 []
        | (s, none) => s.reply eRingFull tBlob 0 []

/-- The marker or head gap that a READ_RING takes first, recorded for its session (R439). -/
def readMarker (s : State) (who : Requester) (r : Ring) : State :=
  let clear := s.modRelative who fun x => { x with lastReadGap := 0 }
  let atHead := r.headGap != 0 || (match r.recs with | x :: _ => x.mark || x.bad | [] => false)
  if atHead then
    match popHead s r with
    | (s, .marker n) =>
      s.modRelative who fun x => { x with lastReadRing := BitVec.ofNat 16 r.num, lastReadGap := BitVec.ofNat 64 n }
    | (s, _) => s
  else clear

/-- READ_RING with `room` bytes left in its response (R427, R439, R440). -/
def doReadRing (who : Requester) (num room : Nat) (ty : Byte) (data : List Byte) (s : State) : State :=
  let s := checkDesc s num
  let n := beNat data
  let code := ringOpCode s who num
    (fun _ => if ty != tBlob || data.length != 2 then eType else if 1 ≤ n && n ≤ 1024 then eOk else eRange)
    (·.consumer) eWriteOnly
  if code != eOk then s.reply code ty 0 []
  else match s.hamper.ring num with
    | none => s.reply eNoObject ty 0 []
    | some r =>
      let s := readMarker s who r
      let (s, recs) := readBundles (n + 1) s num (Nat.min n (room / r.recSize)) []
      s.reply eOk tBlob 0 recs.flatten

/-! ### Push and pop of a core (R426, Table 11.11) -/

/-- The registers of one core. -/
def Hamper.portOf (h : Hamper) : Master → RingPort
  | .app => h.appPort
  | .sup => h.supPort

def State.modRingPort (s : State) (m : Master) (f : RingPort → RingPort) : State :=
  match m with
  | .app => { s with hamper := { s.hamper with appPort := f s.hamper.appPort } }
  | .sup => { s with hamper := { s.hamper with supPort := f s.hamper.supPort } }

/-- The role a core acts in (R426). -/
def coreRole (asHost : Bool) : Nat := if asHost then roleHost else roleApp

def putCode : Put → Nat
  | .stored => 0
  | .full => 1
  | .dropped => 2

/-- A write of PUSH_CTRL with GO: one record joins the bundle being written, and the last stores it (R426, R432). -/
def pushGo (m : Master) (cont asHost : Bool) (s : State) : State :=
  let p := s.hamper.portOf m
  let s := checkDesc s p.pushRing
  let refuse := s.modRingPort m fun p => { p with pushCont := cont, pushAsHost := asHost, pushResult := 3, bundle := [] }
  match s.hamper.ring p.pushRing with
  | none => refuse
  | some r =>
    if r.producer != coreRole asHost || 64 ≤ p.bundle.length then refuse
    else
      let bytes := wireBytes r.byteRecs (p.pushData.toList.take (r.recSize / 4))
      let recs := p.bundle ++ [bytes]
      if cont then
        s.modRingPort m fun p => { p with pushCont := true, pushAsHost := asHost, pushResult := 0, bundle := recs }
      else
        let s := if m == .app then portGrant reqApp (if r.pendLoss = 0 then 1 else 2) s else s
        let (s, res) := match s.hamper.ring r.num with
          | some r => putRecords s r recs
          | none => (s, .dropped)
        let s := if m == .app then portRest reqApp recs.length s else s
        s.modRingPort m fun p =>
          { p with pushCont := false, pushAsHost := asHost, pushResult := putCode res, bundle := [] }

/-- A list of words as eight registers, zero beyond its end. -/
def eightWords (ws : List Word) : Vector Word 8 := Vector.ofFn fun i => ws.getD i.val 0

/-- A write of POP_CTRL with GO (R426, R439). -/
def popGo (m : Master) (asHost : Bool) (s : State) : State :=
  let p := s.hamper.portOf m
  let s := checkDesc s p.popRing
  let clear (p : RingPort) : RingPort :=
    { p with popAsHost := asHost, popValid := false, popMark := false, popCont := false, popRefused := false }
  match s.hamper.ring p.popRing with
  | none => s.modRingPort m fun p => { clear p with popRefused := true }
  | some r =>
    if r.consumer != coreRole asHost then s.modRingPort m fun p => { clear p with popRefused := true }
    else
      match popHead s r with
      | (s, .nothing) => s.modRingPort m clear
      | (s, .marker n) =>
        s.modRingPort m fun p =>
          { clear p with popValid := true, popMark := true,
                         popData := eightWords [BitVec.ofNat 32 n, BitVec.ofNat 32 (n / 2 ^ 32)] }
      | (s, .record x) =>
        s.modRingPort m fun p =>
          { clear p with popValid := true, popCont := x.cont, popData := eightWords (recWords r.byteRecs x.bytes) }

/-! ### The commands of this chapter's rings -/

/-- RING_CONFIG. -/
def execRingConfig (r : Req) (data : List Byte) (s : State) : Host.Outcome State Fault Refusal :=
  .next (perform objRingConfig r tBlob data s)

/-- RING_FREE. -/
def execRingFree (r : Req) (ring : W16) (s : State) : Host.Outcome State Fault Refusal :=
  .next (perform objRingFree r tU16 (natBytes 2 ring.toNat) s)

/-- RING_FLUSH. -/
def execRingFlush (r : Req) (ring : W16) (s : State) : Host.Outcome State Fault Refusal :=
  .next (perform objRingFlush r tU16 (natBytes 2 ring.toNat) s)

/-- RING_PUSH: a write of PUSH_CTRL; without GO it sets CONT and AS_HOST alone. -/
def execRingPush (m : Master) (w : Word) (s : State) : Host.Outcome State Fault Refusal :=
  .next (if !s.clocksRun then s
    else if w.getLsbD 0 then pushGo m (w.getLsbD 1) (w.getLsbD 2) s
    else s.modRingPort m fun p => { p with pushCont := w.getLsbD 1, pushAsHost := w.getLsbD 2 })

/-- RING_POP: a write of POP_CTRL; without GO it sets AS_HOST alone. -/
def execRingPop (m : Master) (w : Word) (s : State) : Host.Outcome State Fault Refusal :=
  .next (if !s.clocksRun then s
    else if w.getLsbD 0 then popGo m (w.getLsbD 1) s
    else s.modRingPort m fun p => { p with popAsHost := w.getLsbD 1 })

/-- The data bytes of a response to one operation alone: a datagram less the header and the record's header (R440). -/
def aloneRoom : Nat := 1446

/-- READ_RING: the datagram's only operation. Hamper stops with its clock (R83), and so does WRITE_RING. -/
def execReadRing (r : Req) (ring : W16) (ty : Byte) (data : List Byte) (s : State) : Host.Outcome State Fault Refusal :=
  .next (if s.clocksRun then doReadRing r.who ring.toNat aloneRoom ty data s else s)

/-- WRITE_RING. -/
def execWriteRing (r : Req) (ring : W16) (ty : Byte) (data : List Byte) (s : State) : Host.Outcome State Fault Refusal :=
  .next (if s.clocksRun then doWriteRing r.who ring.toNat ty data s else s)

/-- LOSS_RATE_UPDATE: at each whole second of TBC time the losses of the second are reported (R437). -/
def execLossRateUpdate (s : State) : Host.Outcome State Fault Refusal :=
  let rings := s.hamper.rings.map fun r =>
    { r with lossPerS := (r.lossTotal - r.lossMark).setWidth 32, lossMark := r.lossTotal }
  .next (if s.clocksRun then
      { s with hamper := { s.hamper with rings := rings, poolLossPerS := (rings.map (·.lossPerS)).foldl (· + ·) 0 } }
    else s)

/-- A semaphore is open to a master's write of 1: it is free, or the application core acquired it in this same cycle, in which the
supervisor core goes first (R456). -/
def semOpen (s : State) (m : Master) (i : Fin 32) : Bool :=
  match s.hamper.sems[i.val] with
  | none => true
  | some o => m == .sup && o == .app && s.hamper.semAt[i.val] == s.now

/-- SEM_WRITE: a write of 1 acquires an open semaphore, a write of 0 by the holder frees it (R456). -/
def execSemWrite (m : Master) (i : Fin 32) (w : Word) (s : State) : Host.Outcome State Fault Refusal :=
  let h := s.hamper
  .next (if !s.clocksRun then s
    else if w.getLsbD 0 then
      if semOpen s m i then
        { s with hamper := { h with sems := h.sems.set i.val (some m), semAt := h.semAt.set i.val s.now } }
      else s
    else if h.sems[i.val] = some m then { s with hamper := { h with sems := h.sems.set i.val none } }
    else s)

end Sys2Proof.Machine
end

