-- ==== Sys2Proof/Machine/Lac.lean ====
section
/-! DEFINITION. The injection and capture of TUNE, and load-adaptive compensation (R321 to R336). -/

namespace Sys2Proof.Machine

/-! ### The chip sequence (R328) -/

/-- The chip is the output bit of the register. -/
def lfsrBit (x : BitVec 12) : Bool := if Config.lfsrLow then x.getLsbD 0 else x.getLsbD 11

/-- One step of the Fibonacci LFSR with polynomial x^12 + x^6 + x^4 + x + 1. -/
def lfsrStep (x : BitVec 12) : BitVec 12 :=
  if Config.lfsrLow then
    BitVec.ofBool (x.getLsbD 0 ^^ x.getLsbD 6 ^^ x.getLsbD 8 ^^ x.getLsbD 11) ++ x.extractLsb' 1 11
  else
    x.extractLsb' 0 11 ++ BitVec.ofBool (x.getLsbD 11 ^^ x.getLsbD 5 ^^ x.getLsbD 3 ^^ x.getLsbD 0)

/-- The seed of a channel. -/
def lfsrSeed (n : Ch) : BitVec 12 := BitVec.ofNat 12 (0x801 + 0x010 * n.val)

/-! ### TUNE (R321 to R323) -/

/-- Every segment asked for has been filled. -/
def Tune.over (t : Tune) : Bool := t.segsNow != 0 && decide (t.segsNow ≤ t.segNo)

/-- The injection sample of this tick (R321); tick counts from 0 within TUNE. -/
def Tune.sample (t : Tune) : Word :=
  if t.done || t.over then 0
  else match t.wave with
    | 0 => if lfsrBit t.lfsr then t.ampNow else satWord (-t.ampNow.toInt)
    | 1 => if t.tick / t.half % 2 = 0 then t.ampNow else satWord (-t.ampNow.toInt)
    | _ => if t.tick < t.seg / 2 then 0 else t.ampNow

/-- TUNE starts: the counts begin at 0 and the chip sequence at its seed. -/
def Tune.start (t : Tune) (n : Ch) : Tune :=
  let t := { t with done := false, tick := 0, segNo := 0, buffer := [], half0 := [], half1 := [], filling := false,
                    lfsr := lfsrSeed n }
  { t with inject := t.sample }

/-- The injection sample of the tick that begins, with the settings that its boundary took (R110, R321). -/
def Channel.takeInject (c : Channel) : Channel :=
  if c.mode.mode == .tune && c.mode.status == .stable then { c with tune := { c.tune with inject := c.tune.sample } } else c

/-- The capture record of a tick (Table 8.1). -/
def Tune.record (t : Tune) (n : Ch) (compl sat : Bool) (meas measO : Word) : List Word :=
  [BitVec.ofNat 32 (2 ^ 31 * bNat t.buffer.isEmpty + 2 ^ 30 * bNat compl + 2 ^ 29 * bNat sat + 2 ^ 26 * n.val
      + 2 ^ 16 * (t.segNo % 1024) + t.tick % 65536), t.inject, meas, measO]

/-- A tick of TUNE after its run: the record joins the half being filled, and a full half closes its segment (R322). The
Bool tells that a segment close falls due. -/
def Tune.advance (t : Tune) (n : Ch) (compl sat : Bool) (meas measO : Word) : Tune × Bool :=
  if t.over then ({ t with tick := t.tick + 1, inject := 0 }, false)
  else
    let buf := t.buffer ++ [t.record n compl sat meas measO]
    let full := decide (t.seg ≤ buf.length)
    let t' := { t with tick := t.tick + 1, lfsr := lfsrStep t.lfsr }
    let t' : Tune :=
      if full then
        { t' with buffer := [], segNo := t.segNo + 1, filling := !t.filling,
                  half0 := if t.filling then t.half0 else buf, half1 := if t.filling then buf else t.half1 }
      else { t' with buffer := buf }
    ({ t' with inject := t'.sample }, full)

/-- The half that the latest segment filled. -/
def Tune.lastHalf (t : Tune) : List (List Word) := if t.filling then t.half0 else t.half1

/-- The close of a TUNE segment: the copy of the previous half, if it has not ended, is abandoned whole and lost (R464);
the half goes to Hamper as one bundle, or is lost where there is no ring (R322, R323). -/
def closeSegment (s : State) (n : Ch) : State :=
  let half := (s.chan n).tune.lastHalf
  let s := s.modCh n fun c =>
    { c with tune := { c.tune with segsDone := c.tune.segsDone.inc }, loop := { c.loop with tuneDue := false } }
  let src : HwSource := .tune n
  let s := match takeFirst (fun x => x.src == src) s.hamper.staging with
    | none => s
    | some (x, rest) =>
      let s := dropReserve (loseTune { s with hamper := { s.hamper with staging := rest } } n x.recs.length) x.ring
      match boundRing s src with
      | some r => pendLoss s r x.recs.length
      | none => s
  match boundRing s src with
  | none => loseTune s n half.length
  | some r => (stage s src (half.map (wireBytes r.byteRecs))).joinBulk src

/-- TUNE_SEGMENT_CLOSE: an occasional step of 40 cycles (R288). -/
def execTuneSegmentClose (n : Ch) (s : State) : Host.Outcome State Fault Refusal :=
  .next (if s.clocksRun && (s.chan n).loop.tuneDue then
      (closeSegment s n).modCh n fun c =>
        { c with loop := { c.loop with extra := c.loop.extra + 40, stepsRun := c.loop.stepsRun + 1 } }
    else s)

/-- TUNE_DONE: TUNE_SEGS segments have been filled (R323). -/
def execTuneDone (n : Ch) (s : State) : Host.Outcome State Fault Refusal :=
  let c := s.chan n
  if c.mode.mode == .tune && c.tune.over && !c.tune.done then
    let s := s.modCh n fun c => { c with tune := { c.tune with done := true, inject := 0 } }
    .next (raiseEvent s evSeq 6 n.val)
  else .next s

/-! ### The envelope (R332, Table 8.5) -/

def envPLo : Q := ⟨1, 4⟩
def envPHi : Q := ⟨4, 1⟩
def envILo : Q := ⟨1, 10⟩
def envIHi : Q := ⟨10, 1⟩
def envFLo : Q := ⟨1, 2⟩
def envFHi : Q := ⟨2, 1⟩
def envTuneAmp : Q := ⟨1, 16⟩
def envLacAmp : Nat := 64

/-- The effective bounds of a factor: 1 − s · (1 − lo) and 1 + s · (hi − 1), in binary64 operation by operation. -/
def Channel.envLo (c : Channel) (lo : Q) : F64 := sub64 one64 (mul64 (f32To64 c.lim.lacSpan) (sub64 one64 lo.toF64))
def Channel.envHi (c : Channel) (hi : Q) : F64 := add64 one64 (mul64 (f32To64 c.lim.lacSpan) (sub64 hi.toF64 one64))

/-- A binary64 value limited to two bounds, and whether the limit acted. -/
def limit64 (lo hi x : F64) : F64 × Bool :=
  if lt64 x lo then (lo, true) else if lt64 hi x then (hi, true) else (x, false)

/-! ### Bases and factors of a bank (R325 to R327) -/

def Channel.lacBank (c : Channel) (r : Nat) : LacBank := c.lac.banks[r]?.getD {}

def Channel.setLacBank (c : Channel) (r : Nat) (b : LacBank) : Channel :=
  { c with lac := { c.lac with banks := c.lac.banks.setIfInBounds r b } }

/-- A k slot of a bank. -/
def Channel.bankK (c : Channel) (r j : Nat) : Word := ((c.coefs.banks[r]?.getD defaultBank)[j]?).getD 0

def Channel.setBankK (c : Channel) (r j : Nat) (w : Word) : Channel :=
  { c with coefs := { c.coefs with
    banks := c.coefs.banks.setIfInBounds r (putSlots (c.coefs.banks[r]?.getD defaultBank) j [w]) } }

/-- The managed slots of a bank written from its bases and factors: k0, k1, and the notch (R325). -/
def Channel.writeGains (c : Channel) (r : Nat) : Channel :=
  let b := c.lacBank r
  (c.setBankK r 0 (f64ToQ30 (mul64 b.kpB b.fP))).setBankK r 1 (f64ToQ30 (mul64 b.kiB b.fI))

/-- New factors for a bank; the slots of a factor that moved are written anew (R325, R332). -/
def Channel.setFactors (c : Channel) (n r : Nat) (fP fI fF : F64) : Channel :=
  let b := c.lacBank r
  let c := c.setLacBank r { b with fP := fP, fI := fI, fF := fF }
  let c := if fP = b.fP then c else c.setBankK r 0 (f64ToQ30 (mul64 b.kpB fP))
  let c := if fI = b.fI then c else c.setBankK r 1 (f64ToQ30 (mul64 b.kiB fI))
  if fF = b.fF then c else c.designBank n r

/-- Every factor brought inside the effective envelope (R332). -/
def Channel.clampFactors (c : Channel) (n : Nat) : Channel :=
  (List.range 4).foldl (fun c r =>
    let b := c.lacBank r
    c.setFactors n r (limit64 (c.envLo envPLo) (c.envHi envPHi) b.fP).1 (limit64 (c.envLo envILo) (c.envHi envIHi) b.fI).1
      (limit64 (c.envLo envFLo) (c.envHi envFHi) b.fF).1) c

/-- Every factor of the channel's banks set to 1 (R326, R327). -/
def Channel.revertFactors (c : Channel) (n : Nat) : Channel :=
  (List.range 4).foldl (fun c r => c.setFactors n r one64 one64 one64) c

/-- The present slots count as written values: they become the bases with factors 1; a notch that the factor had moved
counts as written by hand (R327, R280). -/
def Channel.keepSlots (c : Channel) : Channel :=
  (List.range 4).foldl (fun c r =>
    let b := c.lacBank r
    let d := c.notch[r]?.getD {}
    let b' : LacBank :=
      { kpB := (q30Val (c.bankK r 0)).toF64, kiB := (q30Val (c.bankK r 1)).toF64, fB := f32To64 d.f,
        fP := one64, fI := one64, fF := one64 }
    let c := c.setLacBank r b'
    if b.fF = one64 then c else { c with notch := c.notch.setIfInBounds r { d with state := 2 } }) c

/-- The bases taken from the slots at entry to ADAPTING (R326): a slot that still holds base times factor keeps its
base. -/
def Channel.takeBases (c : Channel) : Channel :=
  (List.range 4).foldl (fun c r =>
    let b := c.lacBank r
    c.setLacBank r
      { b with kpB := if b.fP = one64 then (q30Val (c.bankK r 0)).toF64 else b.kpB
               kiB := if b.fI = one64 then (q30Val (c.bankK r 1)).toF64 else b.kiB
               fB := f32To64 (c.notch[r]?.getD {}).f }) c

/-! ### The states (R324, R230) -/

/-- The state R324 gives apart from FROZEN. -/
def Channel.lacBase (c : Channel) : LacState :=
  if !c.lac.en || c.mode.mode == .off || c.mode.mode == .meter || c.prog.progMain == 0x80 then .inactive
  else if c.mode.mode == .idle || c.mode.mode == .tune || c.mode.status == .enabling || c.mode.status == .safeRamp
      || (f32Val c.lim.lacSpan).isZero then .held
  else .adapting

/-- The frame in progress starts anew at the next tick. -/
def Lac.newFrame (l : Lac) : Lac :=
  { l with frameTick := 0, frameBad := false, sumV := Vector.replicate 32 0, sumI := Vector.replicate 32 0 }

/-- A frame that has begun is discarded and counted (R329). -/
def Lac.discard (l : Lac) : Lac :=
  ({ l with discards := if l.frameTick = 0 then l.discards else l.discards.inc } : Lac).newFrame

/-- The state at a tick boundary, with what an entry to ADAPTING and its end bring (R324, R326, R328, R329). -/
def Channel.lacStateTick (c : Channel) (n : Ch) : Channel :=
  let base := c.lacBase
  let new := if base != .inactive && c.lac.state == .frozen then .frozen else base
  if new == .adapting && c.lac.state != .adapting then
    let c := c.takeBases
    { c with lac := { c.lac.newFrame with state := .adapting, lfsr := lfsrSeed n, chips := 0 } }
  else if new != .adapting && c.lac.state == .adapting then { c with lac := { c.lac.discard with state := new } }
  else { c with lac := { c.lac with state := new } }

/-- LAC_EN 0 acts: the slots are kept, and an update that has not been made is dropped with the bases it was for (R327, DESIGN
CHOICE, log entry 96). -/
def Channel.stopAdapting (c : Channel) : Channel :=
  ({ c with lac := { c.lac with keepDue := false, targets := none }
            loop := { c.loop with lacLeft := 0, lacDue := false } } : Channel).keepSlots

/-- LAC's work at a tick boundary: LAC_EN 0, a revert or freeze that is due, the envelope, the state, and the ticks to an update
(R327, R332, R334, R335). -/
def Channel.lacTick (c : Channel) (ch : Ch) (n : Nat) : Channel :=
  let c := if c.lac.keepDue then c.stopAdapting else c
  let c := if c.lac.revertDue then c.revertFactors n else c
  let c : Channel :=
    if c.lac.freezeDue then
      let c := c.setFactors n c.range one64 one64 one64
      if c.lacBase == .inactive then c
      else { c with lac := { c.lac.discard with state := .frozen, freezeWhy := 6 } }
    else c
  let c : Channel := { c with lac := { c.lac with revertDue := false, freezeDue := false } }
  let c := (c.clampFactors n).lacStateTick ch
  if c.loop.lacLeft = 1 then { c with loop := { c.loop with lacLeft := 0, lacDue := true } }
  else { c with loop := { c.loop with lacLeft := c.loop.lacLeft - 1 } }

/-- The chip of this tick as a code offset; 0 while LAC does not adapt (R328). -/
def Channel.lacInject (c : Channel) : Int :=
  if c.lac.state == .adapting then (if lfsrBit c.lac.lfsr then (c.lac.ampNow : Int) else -(c.lac.ampNow : Int)) else 0

/-- One sample added to the sum of each lag, with the sign of its chip. -/
def correlate (chips : BitVec 32) (x : F64) (v : Vector F64 32) : Vector F64 32 :=
  v.mapIdx fun j y => if chips.getLsbD j then add64 y x else sub64 y x

/-- The correlator takes this tick's sample (R329); `bad` marks a tick with COMPL, SAT, RSW or RAMP. -/
def Channel.lacSample (c : Channel) (bad : Bool) : Channel :=
  let l := c.lac
  if l.state != .adapting then c
  else
    let chips := (l.chips <<< 1) ||| (if lfsrBit l.lfsr then 1 else 0)
    let l := { l with chips := chips, lfsr := lfsrStep l.lfsr }
    if bad || l.frameBad then { c with lac := ({ l with frameTick := l.frameTick + 1 } : Lac).discard }
    else if l.frameTick < 4096 then
      { c with lac := { l with frameTick := l.frameTick + 1, sumV := correlate chips (f32To64 c.last.v) l.sumV,
                               sumI := correlate chips (f32To64 c.last.i) l.sumI } }
    else { c with lac := l }

/-! ### The estimate (R329 to R331) -/

/-- What a frame yields, in binary64. -/
structure LacEst where
  g : F64
  c : F64
  tau : F64
  g0 : F64
  fRes : F64
  poorFit : Bool

/-- A sum in binary64, from the first term on. -/
def sum64 (l : List F64) : F64 := l.foldl add64 0

/-- A quotient in binary64; `x` where the divisor is 0 (the spec states no result there). -/
def divOr (a b x : F64) : F64 := if isZero64 b then x else div64 a b

/-- The crossings of a sequence: z = j + d(j) / (d(j) − d(j+1)) at each change of sign; a zero keeps the sign before it
(R330). -/
def crossings : List F64 → Int → Nat → List F64
  | a :: b :: rest, sign, j =>
    let s0 : Int := if lt64 a 0 then -1 else if lt64 0 a then 1 else sign
    if (lt64 b 0 ∧ 0 < s0) ∨ (lt64 0 b ∧ s0 < 0) then
      add64 (Q.ofNat j).toF64 (div64 a (sub64 a b)) :: crossings (b :: rest) s0 (j + 1)
    else crossings (b :: rest) s0 (j + 1)
  | _, _, _ => []

/-- An exact sum over lags 1 to 31. -/
def sumLags (f : Nat → Q) : Q := ((List.range 31).map fun j => f (j + 1)).foldl Q.add Q.zero

/-- The injection in open-loop volts, A = LAC_AMP · V_FS / DRIVE_SCALE (R329). -/
def Channel.lacA (c : Channel) : F64 :=
  div64 (mul64 (Q.ofNat c.lac.ampNow).toF64 (mul64 q2048.toF64 (f32To64 c.decl.vAtten))) c.driveScale.toF64

/-- hv or hi: a frame's sums over 4096 · A (R329). -/
def Channel.lacNorm (c : Channel) (v : Vector F64 32) (j : Nat) : F64 :=
  div64 (v.toList.getD j 0) (mul64 (Q.ofNat 4096).toF64 c.lacA)

/-- G_EST and C_EST / T as exact values: what minimises the sum of squares of R330 over the normalised samples; `g` and `cc`
where the minimum is not unique. R330 shows no operations here (DESIGN CHOICE, log entry 10). -/
def lacFit (hv hi : Nat → F64) (g cc : Q) : Q × Q :=
  let v := fun j => f64Val (hv j)
  let d := fun j => (v j).sub (v (j - 1))
  let i := fun j => f64Val (hi j)
  let a11 := sumLags fun j => (v j).mul (v j)
  let a12 := sumLags fun j => (v j).mul (d j)
  let a22 := sumLags fun j => (d j).mul (d j)
  let b1 := sumLags fun j => (i j).mul (v j)
  let b2 := sumLags fun j => (i j).mul (d j)
  let det := (a11.mul a22).sub (a12.mul a12)
  if det.isZero then (g, cc)
  else (((b1.mul a22).sub (b2.mul a12)).div det, ((a11.mul b2).sub (a12.mul b1)).div det)

/-- The estimates from a frame's sums, in binary64 operation by operation where R330 shows the operations, with period `n`;
`g` and `cc` are the values of G_EST and of C_EST / T where the minimum of R330 is not unique, and `ft` that of TAU_EST
where its divisor is 0. -/
def Channel.lacEstimate (c : Channel) (n : Nat) (g cc : Q) (ft : F64) : LacEst :=
  let t := period64 n
  let hv := c.lacNorm c.lac.sumV
  let hi := c.lacNorm c.lac.sumI
  let fit := lacFit hv hi g cc
  let gE := fit.1.toF64
  let cE := (fit.2.mul (periodQ n)).toF64
  let r := (c.ohms c.range).toF64
  let tau := divOr (mul64 r cE) (add64 one64 (mul64 r gE)) ft
  let err := fun j =>
    sub64 (sub64 (hi j) (mul64 gE (hv j))) (div64 (mul64 cE (sub64 (hv j) (hv (j - 1)))) t)
  let lags := (List.range 31).map fun j => j + 1
  let res := sum64 (lags.map fun j => mul64 (err j) (err j))
  let sii := sum64 (lags.map fun j => mul64 (hi j) (hi j))
  let mean := div64 (sum64 ((List.range 8).map fun j => hv (24 + j))) (Q.ofNat 8).toF64
  let fRes := match crossings ((List.range 24).map fun j => sub64 (hv j) mean) 0 0 with
    | z1 :: z2 :: _ => div64 one64 (mul64 (mul64 two64 t) (sub64 z2 z1))
    | _ => 0
  { g := gE, c := cE, tau := tau, g0 := sum64 ((List.range 32).map hv), fRes := fRes
    poorFit := lt64 (div64 sii two64) res }

/-- The case of Table 8.2 that an estimate falls under, the first that holds; 0 for none. -/
def LacEst.why (x : LacEst) (n : Nat) : Nat :=
  if lt64 x.g0 (Q.mk 1 20).toF64 || lt64 (Q.ofNat 20).toF64 x.g0 then 1
  else if lt64 x.g 0 || lt64 x.c 0 then 2
  else if lt64 (mul64 (Q.ofNat 4096).toF64 (period64 n)) x.tau then 3
  else if x.poorFit then 4
  else if lt64 (notchTop n) x.fRes then 5
  else 0

/-- The target factors of a plausible estimate (R333); `top` is the top of the I envelope, `x` and `y` stand where a base
value is 0. -/
def LacEst.targets (e : LacEst) (b : LacBank) (n : Nat) (top x y : F64) : F64 × F64 × F64 :=
  let kpT := div64 b.kpB e.g0
  let tI := if isZero64 e.tau then top else divOr (div64 (mul64 kpT (period64 n)) e.tau) b.kiB y
  (divOr kpT b.kpB x, tI, if isZero64 e.fRes then b.fF else div64 e.fRes b.fB)

/-- LAC_FRAME_END: 4,096 samples are correlated (R329 to R331, R334). -/
def execLacFrameEnd (n : Ch) (s : State) : Host.Outcome State Fault Refusal :=
  let c := s.chan n
  let per := (s.engine n.engine).nActive
  if c.lac.state == .adapting && c.lac.frameTick == 4096 then
    let f := fun k => f32Val (Config.freeWord (s.free + k))
    let e := c.lacEstimate per (f 0) (f 1) (f 2).toF64
    let why := e.why per
    let ts := e.targets (c.lacBank c.range) per (c.envHi envIHi) (Config.freeLong (s.free + 3)) (Config.freeLong (s.free + 4))
    let l : Lac :=
      { c.lac.newFrame with cEst := f64To32 e.c, gEst := f64To32 e.g, tauEst := f64To32 e.tau, g0 := f64To32 e.g0,
                            fRes := f64To32 e.fRes }
    let s := { s with free := s.free + 5 }
    if why = 0 then
      .next (s.modCh n fun c =>
        { c with lac := { l with frames := c.lac.frames.inc, targets := some ts }, loop := { c.loop with lacLeft := 16 } })
    else
      let s := s.modCh n fun c => { c with lac := { l with state := .frozen, freezeWhy := why } }
      .next (sendMsg s (srcCh n) 0xA0 .warn (why + 16 * c.range))
  else .next s

/-- The managed slots of a bank come into force at once: the tick whose LAC update wrote them runs with them (Table 7.17). -/
def Channel.takeGains (c : Channel) (r : Nat) : Channel :=
  let put (v : Vector Word 16) (j : Nat) : Vector Word 16 := v.setIfInBounds j (c.bankK r j)
  { c with actCoefs := { c.actCoefs with
    banks := c.actCoefs.banks.setIfInBounds r ([0, 1, 3, 4, 5, 6, 7].foldl put (c.actCoefs.banks[r]?.getD defaultBank)) } }

/-- The update of the active bank from the targets of the last plausible frame (R333, R334). -/
def Channel.lacUpdate (c : Channel) (n : Nat) : Channel :=
  match c.lac.targets with
  | none => { c with loop := { c.loop with lacDue := false } }
  | some (tP, tI, tF) =>
    let c : Channel := { c with lac := { c.lac with targets := none }, loop := { c.loop with lacDue := false } }
    if c.lac.state != .adapting then c
    else
      let b := c.lacBank c.range
      let alpha := f32To64 c.lac.alphaNow
      let (tP, hP) := limit64 (c.envLo envPLo) (c.envHi envPHi) tP
      let (tI, hI) := limit64 (c.envLo envILo) (c.envHi envIHi) tI
      let (tF, hF) := limit64 (c.envLo envFLo) (c.envHi envFHi) tF
      let move (f t : F64) : F64 := add64 f (mul64 alpha (sub64 t f))
      let c := c.setLacBank c.range { b with fP := move b.fP tP, fI := move b.fI tI, fF := move b.fF tF }
      let c : Channel := { c with lac := { c.lac with envHit := BitVec.ofNat 3 (bNat hP + 2 * bNat hI + 4 * bNat hF) } }
      ((c.writeGains c.range).designBank n c.range).takeGains c.range

/-- LAC_UPDATE: an occasional step of 64 cycles (R288, R334). -/
def execLacUpdate (n : Ch) (s : State) : Host.Outcome State Fault Refusal :=
  .next (if s.clocksRun && (s.chan n).loop.lacDue then
      s.modCh n fun c =>
        let c := c.lacUpdate (s.engine n.engine).nActive
        { c with loop := { c.loop with extra := c.loop.extra + 64, stepsRun := c.loop.stepsRun + 1 } }
    else s)

/-! ### Objects of Tables 8.4 and 8.5 -/

/-- LAC_REVERT (R327): at the next tick boundary, or at once while ACLK is stopped (R649). -/
def objLacRevert (n : Ch) : Obj :=
  chCmd n tU8 (fun w => w.v == 1) fun _ s => s.setCh n fun c =>
    if s.clocksRun then { c with lac := { c.lac with revertDue := true } }
    else c.revertFactors (s.engine n.engine).nActive

/-- LAC_RESUME (R327). -/
def objLacResume (n : Ch) : Obj :=
  chCmd n tU8 (fun w => w.v == 1) fun _ s => s.modCh n fun c =>
    if c.lac.state == .frozen then
      -- the next boundary's state work makes the entry to ADAPTING
      { c with lac := { c.lac with state := .held } }
    else c

/-- LAC_REVERT. -/
def execLacRevert (r : Req) (n : Ch) (v : Byte) (s : State) : Host.Outcome State Fault Refusal :=
  .next (perform (objLacRevert n) r tU8 [v] s)

/-- LAC_RESUME. -/
def execLacResume (r : Req) (n : Ch) (v : Byte) (s : State) : Host.Outcome State Fault Refusal :=
  .next (perform (objLacResume n) r tU8 [v] s)

/-- LAC_EN (R327): a 0 keeps the slots at the next tick boundary (R110), or at once while ACLK is stopped (R649). -/
def objLacEn (n : Ch) : Obj :=
  { chNat n tBool .rws (within 0 1) (fun c => bNat c.lac.en) (fun _ c => c) with
    put := fun w s => s.setCh n fun c =>
      let c : Channel := { c with lac := { c.lac with en := w.v == 1, keepDue := w.v != 1 } }
      if w.v != 1 && !s.clocksRun then c.stopAdapting else c }

/-- A setting that is not written in TUNE (R339). -/
def notTune (n : Ch) (o : Obj) : Obj := { o with mode := fun w => (w.pre.chan n).mode.mode != .tune }

/-- TUNE_RING (R339, R364, R428). -/
def objTuneRing (n : Ch) : Obj := notTune n
  { ty := tU16, acc := .rws, scope := fun _ => .chan n, read := fun _ s => natBytes 2 (s.chan n).tune.ring
    range := fun w => bindOk w.post (roleTune n) w.v fun r => r.recSize == 16
    put := fun w s => (bindRing s (roleTune n) (s.chan n).tune.ring w.v).modCh n fun c =>
      { c with tune := { c.tune with ring := w.v } } }

/-- A factor of the active bank as F32. -/
def Channel.factor (c : Channel) (get : LacBank → F64) : Nat := (f64To32 (get (c.lacBank c.range))).toNat

/-- The LAC and TUNE objects of a channel by j of Table 8.4 and element. -/
def objsLac (n : Ch) (j el : Nat) : Option Obj :=
  match j with
  | 0 => match el with
    | 0x01 => some (objLacEn n)
    | 0x02 => some { chNat n tU8 .rws (within 1 64) (·.lac.amp) (fun v c => { c with lac := { c.lac with amp := v } }) with
        env := fun w => if w.v ≤ envLacAmp then eOk else eEnvelope }
    | 0x03 => some (chF32 n .rws (fWithin ⟨1, 100⟩ ⟨1, 1⟩) (·.lac.alpha) fun v c => { c with lac := { c.lac with alpha := v } })
    | 0x04 => some (chRo n tU8 fun c => match c.lac.state with
        | .inactive => 0
        | .held => 1
        | .adapting => 2
        | .frozen => 3)
    | 0x05 => some (objLacResume n)
    | 0x06 => some (objLacRevert n)
    | 0x07 => some (chRo n tU32 fun c => c.lac.frames.value.toNat)
    | 0x08 => some (chRo n tU32 fun c => c.lac.discards.value.toNat)
    | 0x09 => some (chRo n tU8 (·.lac.freezeWhy))
    | _ => none
  | 1 => match el with
    | 0x01 => some (chRo n tF32 fun c => c.lac.cEst.toNat)
    | 0x02 => some (chRo n tF32 fun c => c.lac.gEst.toNat)
    | 0x03 => some (chRo n tF32 fun c => c.lac.tauEst.toNat)
    | 0x04 => some (chRo n tF32 fun c => c.lac.g0.toNat)
    | 0x05 => some (chRo n tF32 fun c => c.lac.fRes.toNat)
    | 0x06 => some (chRo n tF32 fun c => c.factor (·.fP))
    | 0x07 => some (chRo n tF32 fun c => c.factor (·.fI))
    | 0x08 => some (chRo n tF32 fun c => c.factor (·.fF))
    | 0x09 => some (chRo n tU8 fun c => c.lac.envHit.toNat)
    | _ => none
  | 2 => match el with
    | 0x01 => some (chRo n tF32 fun c => (f64To32 (c.envLo envPLo)).toNat)
    | 0x02 => some (chRo n tF32 fun c => (f64To32 (c.envHi envPHi)).toNat)
    | 0x03 => some (chRo n tF32 fun c => (f64To32 (c.envLo envILo)).toNat)
    | 0x04 => some (chRo n tF32 fun c => (f64To32 (c.envHi envIHi)).toNat)
    | 0x05 => some (chRo n tF32 fun c => (f64To32 (c.envLo envFLo)).toNat)
    | 0x06 => some (chRo n tF32 fun c => (f64To32 (c.envHi envFHi)).toNat)
    | _ => none
  | 8 => match el with
    | 0x01 => some (notTune n (chNat n tU8 .rws (within 0 2) (·.tune.wave) fun v c => { c with tune := { c.tune with wave := v } }))
    | 0x02 => some { chNat n tQ30 .rws (fun _ => true) (fun c => c.tune.amp.toNat)
          (fun v c => { c with tune := { c.tune with amp := BitVec.ofNat 32 v } }) with
        env := fun w => if ((q30Val w.word).abs).le envTuneAmp then eOk else eEnvelope }
    | 0x03 => some (notTune n (chNat n tU16 .rws (within 1 4096) (·.tune.half) fun v c => { c with tune := { c.tune with half := v } }))
    | 0x04 => some (notTune n (chNat n tU8 .rws (within 8 64) (·.tune.seg) fun v c => { c with tune := { c.tune with seg := v } }))
    | 0x05 => some (chNat n tU16 .rws (within 0 65535) (·.tune.segs) fun v c => { c with tune := { c.tune with segs := v } })
    | 0x06 => some (objTuneRing n)
    | 0x07 => some (chRo n tBool fun c => bNat c.tune.done)
    | 0x08 => some (chRo n tU32 fun c => c.tune.segsDone.value.toNat)
    | 0x09 => some (chRo n tU32 fun c => c.tune.lost.value.toNat)
    | _ => none
  | _ => none

/-- The TSF envelope, obj 0x3480 (Table 8.5). -/
def objsEnv (el : Nat) : Option Obj :=
  match el with
  | 0x01 => some (roNat tF32 fun _ => envPLo.toF32.toNat)
  | 0x02 => some (roNat tF32 fun _ => envPHi.toF32.toNat)
  | 0x03 => some (roNat tF32 fun _ => envILo.toF32.toNat)
  | 0x04 => some (roNat tF32 fun _ => envIHi.toF32.toNat)
  | 0x05 => some (roNat tF32 fun _ => envFLo.toF32.toNat)
  | 0x06 => some (roNat tF32 fun _ => envFHi.toF32.toNat)
  | 0x07 => some (roNat tF32 fun _ => envTuneAmp.toF32.toNat)
  | 0x08 => some (roNat tU8 fun _ => envLacAmp)
  | _ => none

end Sys2Proof.Machine
end

