-- ==== Sys2Proof/Machine/Convert.lean ====
section
/-! DEFINITION. The converters (R341 to R379): decimation, calibration, stream records, burst capture, the aux scan and
urgent requests, and the pulse-width generators that can trigger a scan (R413). -/

namespace Sys2Proof.Machine

/-! ### Records (R362, R363) -/

/-- A record of words handed to the ring of a source. -/
def stageWords (s : State) (src : HwSource) (ws : List Word) : State :=
  match boundRing s src with
  | some r => stage s src [wireBytes r.byteRecs ws]
  | none => s

/-! ### Decimation and calibration (R343, R366) -/

/-- The number of conversions in a window (R343). -/
def winM (w : AdcWin) : Nat := w.codes.length

/-- The sum of a window's codes (R343). -/
def winSum (w : AdcWin) : Int := (w.codes.map BitVec.toInt).sum

/-- A window is saturated when any code in it is 0x7FFF or 0x8000 (R344). -/
def winSat (w : AdcWin) : Bool := w.codes.any fun x => x == 0x7FFF || x == 0x8000

/-- d of a window (R343). -/
def winRaw (w : AdcWin) : Int := (Q.mk (256 * winSum w) (winM w)).roundUp

/-- dc = round((d − ofs · 2^23) · gain), limited to 24 bits (R366); OFS counts 2^-31 and GAIN 2^-30. -/
def CalSet.apply (k : CalSet) (d : Int) : Int :=
  clampInt (-8388608) 8388607 (Q.mk ((256 * d - k.ofs) * k.gain) (2 ^ 38)).roundUp

/-- The set of ADC B in the arrangement of a window (Table 9.7). -/
def Channel.setB (c : Channel) : Nat := if c.conv.meterIl then 5 else 1 + c.range

/-- The terminal voltage of the latest window, exact (R36, R347). -/
def Channel.voltQ (c : Channel) (ma mb : Nat) : Q :=
  let va := (Q.mk c.conv.calA (2 ^ 23)).mul c.vFs
  if c.conv.meterIl then
    let vb := (Q.mk c.conv.calB (2 ^ 23)).mul c.vFs
    (((Q.ofNat ma).mul va).add ((Q.ofNat mb).mul vb)).div (Q.ofNat (ma + mb))
  else va

/-- The resistance of the legs commanded closed in the latest window (R400). -/
def Channel.winOhms (c : Channel) : Q :=
  match c.conv.legB with
  | some k => parallel (c.ohms c.conv.legA) (c.ohms k)
  | none => c.ohms c.conv.legA

/-- The terminal current of the latest window, exact (R36, R400); 0 in METER. -/
def Channel.currQ (c : Channel) : Q :=
  if c.conv.meterIl then Q.zero
  else ((Q.mk c.conv.calB (2 ^ 23)).mul q2048).div ((c.ampGain c.conv.legA).mul c.winOhms)

/-- A window that closes: raw and calibrated values, marks, and the latest voltage and current (R343 to R347, R366,
R229, R400). A converter that delivered no conversion keeps its values. -/
def Channel.decimate (c : Channel) (w : ChanWin) (refNr : Bool) (tbc : W64) : Channel :=
  let v := c.conv
  let dA := if winM w.a = 0 then v.rawA else winRaw w.a
  let dB := if winM w.b = 0 then v.rawB else winRaw w.b
  let sat := winSat w.a || winSat w.b
  let other := match c.rng.phase, c.rng.target with
    | .make, some k => some k
    | .hold, some k => some k
    | _, _ => none
  let v : Conv :=
    { v with rawA := dA, rawB := dB, calA := (v.sets[0]).apply dA, calB := ((v.sets[c.setB]?).getD {}).apply dB,
             legA := c.range, legB := other, sat := sat, refNr := refNr,
             satCount := if sat then v.satCount.inc else v.satCount }
  let c : Channel := { c with conv := v }
  { c with last := { c.last with v := (c.voltQ (winM w.a) (winM w.b)).toF32, i := c.currQ.toF32, tick := tbc } }

/-- A calibration capture takes the window that closed (R368), or is abandoned by a window with REF_NR (R369). -/
def Conv.captureTick (v : Conv) : Conv :=
  if v.calStatus != .capturing then v
  else if !v.capOpen then { v with capOpen := true }
  else if v.refNr then v.abort
  else if v.capLeft = 0 then v
  else { v with capLeft := v.capLeft - 1, capSum := v.capSum + (if v.calSet = 0 then v.rawA else v.rawB) }

/-! ### Stream records (R365, Table 9.3) -/

/-- The main tick record of the latest window. -/
def Channel.streamRecord (c : Channel) (n : Ch) : List Word :=
  let v := c.conv
  [tagWord 1 v.refNr n.val (2 ^ 22 * v.legA + 2 ^ 21 * bNat v.meterIl + 2 ^ 20 * bNat (c.clamp.seen || c.clamp.tripped)
      + 2 ^ 19 * bNat v.sat + c.stream.tickNo.toNat),
   alignVal c.stream.align 24 v.calA, if v.meterIl then 0 else alignVal c.stream.align 24 v.calB,
   c.last.tick.setWidth 32]

/-- The stream at a tick boundary: a record every STREAM_DIV ticks, none in OFF. -/
def streamTick (s : State) (n : Ch) : State :=
  let c := s.chan n
  let due := c.stream.left = 0
  let s' := s.modCh n fun c =>
    { c with stream := { c.stream with left := if due then c.stream.div - 1 else c.stream.left - 1 } }
  if due && c.mode.mode != .off && c.stream.ring != 0xFFFF then stageWords s' (.stream n) (c.streamRecord n) else s'

/-! ### Burst capture (R348, R349) -/

/-- CAP_ARM (R348); with CAP_SRC 0 it is the trigger too. -/
def objCapArm (n : Ch) : Obj :=
  { chCmd n tU8 (fun w => w.v == 1) (fun _ s => s.modCh n fun c =>
      { c with cap := { c.cap with state := .armed, triggered := c.cap.src == 0 } }) with
    state := fun w => if (w.seq.chan n).cap.state == .idle then eOk else eNotReady }

/-- CAP_ARM. -/
def execCapArm (r : Req) (n : Ch) (v : Byte) (s : State) : Host.Outcome State Fault Refusal :=
  .next (perform (objCapArm n) r tU8 [v] s)

/-- A capture trigger of a channel (R348, R349): the next conversion edge starts an armed capture, and a trigger during a
capture or its copy is counted. -/
def Channel.captureTrigger (c : Channel) : Channel :=
  match c.cap.state with
  | .armed => { c with cap := { c.cap with triggered := true } }
  | .capturing | .copying => { c with cap := { c.cap with missed := c.cap.missed.inc } }
  | .idle => c

/-- The tick boundary is the trigger of an armed capture with CAP_SRC 5; no later boundary is one (R348). -/
def Channel.captureBoundary (c : Channel) : Channel :=
  if c.cap.src = 5 && c.cap.state == .armed then c.captureTrigger else c

/-- The capture starts in the arrangement of ADC B in force (R347, R348). -/
def Channel.captureStart (c : Channel) (refReady : Bool) : Channel :=
  { c with cap := { c.cap with state := .capturing, triggered := false, codes := [], index := 0, meter := c.conv.meterIl,
                               mixed := false, refLow := !refReady, refHigh := refReady } }

/-- CAPTURE_START: the first conversion edge at or after the trigger (R348). The trigger itself comes from CAP_ARM, from
TRIGIN_EDGE or from LOOP_TICK, as CAP_SRC has it, and one that comes too soon is counted there (R349). -/
def execCaptureStart (n : Ch) (s : State) : Host.Outcome State Fault Refusal :=
  let c := s.chan n
  .next (if s.clocksRun && c.cap.state == .armed && c.cap.triggered then
      s.modCh n fun c => c.captureStart s.dev.refReady
    else s)

/-- A stored code with its marks (Table 9.6): the two converters alternate, ADC A first (R348). The arrangement and
REF_READY are the block's own where they did not change during the capture; where they did, the code's own marks say what
held at its edge, and so which converter gave it. -/
def Capture.mark (k : Capture) (i : Nat) (x : CapCode) : CapCode :=
  { x with adcB := if k.mixed then x.adcB else i % 2 == 1, meter := if k.mixed then x.meter else k.meter, refNr := k.refLow && (!k.refHigh || x.refNr) }

/-- CAPTURE_COMPLETE: CAP_LEN codes are stored, and the copy begins; without a ring it has nothing to copy. -/
def execCaptureComplete (n : Ch) (codes : List CapCode) (s : State) : Host.Outcome State Fault Refusal :=
  let k := (s.chan n).cap
  let kept := if k.ring = 0xFFFF then [] else (codes.take k.len).zipIdx.map fun (x, i) => k.mark i x
  .next (if s.clocksRun && k.state == .capturing && decide (k.len ≤ codes.length) then
      State.joinBulk (s.modCh n fun c => { c with cap := { c.cap with state := .copying, index := 0, codes := kept } }) (.capture n)
    else s)

/-- CAPTURE_COPY_DONE: the last record has been handed to its ring. -/
def execCaptureCopyDone (n : Ch) (s : State) : Host.Outcome State Fault Refusal :=
  let c := s.chan n
  if c.cap.state == .copying && c.cap.codes.isEmpty then
    .next (raiseEvent (s.modCh n fun c => { c with cap := { c.cap with state := .idle } }) evSeq 7 n.val)
  else .next s

/-- HW_RECORD_WRITE: the record of a source whose requester holds the pool write port is written, and the grant ends (R469). -/
def execHwRecordWrite (src : HwSource) (s : State) : Host.Outcome State Fault Refusal :=
  let q := poolReq src
  .next (if s.clocksRun && s.pool.owner == some q && headSource s q == some src then finishPort s [] else s)

/-! ### Calibration (R367 to R371) -/

/-- Full scale of a set (Table 9.7). -/
def Channel.setFs (c : Channel) (k : Nat) : Q := if k = 0 ∨ k = 5 then c.vFs else c.iFs (k - 1)

/-- A set is measurable in the present mode (R368). -/
def Channel.measurable (c : Channel) (k : Nat) : Bool :=
  if k = 0 then true
  else if k = 5 then c.mode.mode == .meter
  else c.mode.mode != .meter && k - 1 == c.range

/-- A new value of a set: its CAL_VALID bit is set, and a capture of the set is abandoned (R367, R369). -/
def Conv.writeSet (v : Conv) (k : Nat) (f : CalSet → CalSet) : Conv :=
  let v := { v with sets := v.sets.setIfInBounds k (f (v.sets[k]?.getD {})), calValid := v.calValid ||| BitVec.twoPow 6 k }
  if v.calSet = k then v.abort else v

/-- CAL_OFS[k]. -/
def objCalOfs (n : Ch) (k : Nat) : Obj :=
  chF32 n .rw (fWithin ⟨-1, 16⟩ ⟨1, 16⟩) (fun c => (c.conv.sets[k]?.getD {}).ofsF) fun v c =>
    { c with conv := c.conv.writeSet k fun x => { x with ofsF := v, ofs := ((f32Val v).scale2 31).roundUp } }

/-- CAL_GAIN[k]. -/
def objCalGain (n : Ch) (k : Nat) : Obj :=
  chF32 n .rw (fWithin ⟨4, 5⟩ ⟨5, 4⟩) (fun c => (c.conv.sets[k]?.getD {}).gainF) fun v c =>
    { c with conv := c.conv.writeSet k fun x => { x with gainF := v, gain := ((f32Val v).scale2 30).roundUp } }

/-- CAL_SET: a running capture is abandoned and both points clear (R369, R370). -/
def objCalSet (n : Ch) : Obj :=
  chNat n tU8 .rw (within 0 5) (·.conv.calSet) fun v c =>
    { c with conv := { c.conv.abort with calSet := v, zeroMean := none, fullMean := none } }

/-- The calibration engine captures a point, 1 or 2, of a channel's set; CALE_CTRL shows what it was given (R368, Table
9.13). -/
def startPoint (s : State) (n : Ch) (point : Nat) : State :=
  let v := (s.chan n).conv
  let ctrl := n.val + 8 * v.calSet + 64 * point + 65536 * v.calTicks
  ({ s with refMon := { s.refMon with ctrl := BitVec.ofNat 32 ctrl } } : State).modCh n fun c =>
    { c with conv := { c.conv with calStatus := .capturing, capFull := point == 2, capTicks := c.conv.calTicks,
                                   capLeft := c.conv.calTicks, capSum := 0, capOpen := false } }

/-- What step 9 of R97 says of a point: one engine serves every channel, and it needs REFOUT (R368). -/
def pointCode (s : State) : Byte :=
  if allCh.any fun m => (s.chan m).conv.calStatus == .capturing then eBusy
  else if s.dev.refReady then eOk else eNotReady

/-- CAL_POINT (R368). -/
def objCalPoint (n : Ch) : Obj :=
  { chCmd n tU8 (fun w => within 1 2 w.v) (fun w s => startPoint s n w.v) with
    mode := fun w => let c := w.post.chan n; c.measurable c.conv.calSet
    state := fun w => pointCode w.seq }

/-- CAL_POINT. -/
def execCalPoint (r : Req) (n : Ch) (v : Byte) (s : State) : Host.Outcome State Fault Refusal :=
  .next (perform (objCalPoint n) r tU8 [v] s)

/-- CAL_CAPTURE_DONE: all windows are in, and the point is held with its mean (R368). -/
def execCalCaptureDone (n : Ch) (s : State) : Host.Outcome State Fault Refusal :=
  .next (s.modCh n fun c =>
    let v := c.conv
    if v.calStatus == .capturing && v.capOpen && v.capLeft == 0 then
      let mean := (Q.mk v.capSum v.capTicks).toF64
      { c with conv := { v with calStatus := .idle, capOpen := false,
                                zeroMean := if v.capFull then v.zeroMean else some mean,
                                fullMean := if v.capFull then some mean else v.fullMean } }
    else c)

/-- 2^23 in binary64. -/
def two23 : F64 := 0x4160000000000000

/-- A true value as a fraction of full scale times 2^23, binary64. -/
def Channel.trueD (c : Channel) (f : F32) : F64 := mul64 (div64 (f32To64 f) (c.setFs c.conv.calSet).toF64) two23

/-- Dz and Df of CAL_TRUE_ZERO and CAL_TRUE_FULL (R371). -/
def Channel.trueDs (c : Channel) : F64 × F64 := (c.trueD c.conv.trueZero, c.trueD c.conv.trueFull)

/-- The gain and offset that CAL_COMPUTE finds with Dz and Df (R371), if the points it needs are held. -/
def Conv.calResult (v : Conv) (method : Nat) (ds : F64 × F64) : Option (F64 × F64) :=
  let dzT := ds.1
  match v.zeroMean, v.fullMean with
  | some dz, some df =>
    let gain :=
      if method = 1 then div64 (sub64 ds.2 dzT) (sub64 df dz)
      else (Q.mk (v.sets[v.calSet]?.getD {}).gain (2 ^ 30)).toF64
    some (gain, div64 (sub64 dz (div64 dzT gain)) two23)
  | some dz, none =>
    if method = 1 then none
    else
      let gain := (Q.mk (v.sets[v.calSet]?.getD {}).gain (2 ^ 30)).toF64
      some (gain, div64 (sub64 dz (div64 dzT gain)) two23)
  | _, _ => none

/-- The two held means of a two-point computation lie too close together (R371). -/
def Conv.tooClose (v : Conv) (method : Nat) : Bool :=
  match v.zeroMean, v.fullMean with
  | some dz, some df => method == 1 && lt64 (abs64 (sub64 df dz)) (Q.ofNat (2 ^ 19)).toF64
  | _, _ => false

/-- A result is legal under R367. -/
def calLegal (gain ofs : F64) : Bool :=
  qWithin ⟨4, 5⟩ ⟨5, 4⟩ (f64Val gain) && qWithin ⟨-1, 16⟩ ⟨1, 16⟩ (f64Val ofs)

/-- CAL_COMPUTE applied: a legal result becomes the set, and the points clear; any other sets OUT_OF_RANGE (R370, R371). -/
def Channel.calApply (c : Channel) (method : Nat) (ds : F64 × F64) : Channel :=
  match c.conv.calResult method ds with
  | none => c
  | some (gain, ofs) =>
    if calLegal gain ofs then
      let v := c.conv.writeSet c.conv.calSet fun _ =>
        { ofs := ((f64Val ofs).scale2 31).roundUp, gain := ((f64Val gain).scale2 30).roundUp,
          ofsF := f64To32 ofs, gainF := f64To32 gain }
      { c with conv := { v with calStatus := .applied, zeroMean := none, fullMean := none } }
    else { c with conv := { c.conv with calStatus := .outOfRange } }

/-- A number of units of d as CALE_MEAN and CALE_TRUE hold it: 1 LSB is 2^-8 of d (Table 9.13). -/
def dWord (d : F64) : Word := BitVec.ofInt 32 ((f64Val d).scale2 8).roundUp

/-- What a word of CALE_MEAN or CALE_TRUE stands for. -/
def wordD (w : Word) : F64 := ((Q.ofInt w.toInt).scale2 (-8)).toF64

/-- The calibration engine computes with Dz and Df, which CALE_TRUE_Z and CALE_TRUE_F then hold (R371, Table 9.13). -/
def computeWith (s : State) (n : Ch) (method : Nat) (ds : F64 × F64) : State :=
  ({ s with refMon := { s.refMon with trueZ := dWord ds.1, trueF := dWord ds.2 } } : State).modCh n fun c =>
    c.calApply method ds

/-- CAL_COMPUTE (R371): a result out of range is the answer E_RANGE of an action that ran, since it sets CAL_STATUS. -/
def objCalCompute (n : Ch) : Obj :=
  { chCmd n tU8 (fun w => within 1 2 w.v && !(w.seq.chan n).conv.tooClose w.v)
      (fun w s => computeWith s n w.v (s.chan n).trueDs) with
    state := fun w => let c := w.seq.chan n; if (c.conv.calResult w.v c.trueDs).isSome then eOk else eNotReady
    after := fun w => let c := w.seq.chan n; match c.conv.calResult w.v c.trueDs with
      | some (gain, ofs) => if calLegal gain ofs then eOk else eRange
      | none => eOk }

/-- CAL_COMPUTE. -/
def execCalCompute (r : Req) (n : Ch) (v : Byte) (s : State) : Host.Outcome State Fault Refusal :=
  .next (perform (objCalCompute n) r tU8 [v] s)

/-- CAL_STATUS (Table 9.9). -/
def Conv.status (v : Conv) : Nat :=
  (match v.calStatus with
    | .idle => 0
    | .capturing => 1
    | .aborted => 2
    | .outOfRange => 3
    | .applied => 4) + 8 * bNat v.zeroMean.isSome + 16 * bNat v.fullMean.isSome

/-- A held mean in terminal units, 0.0 while the point is not held. -/
def Channel.meanF32 (c : Channel) (m : Option F64) : F32 :=
  match m with
  | some d => (((f64Val d).scale2 (-23)).mul (c.setFs c.conv.calSet)).toF32
  | none => 0

/-! ### Objects of Table 9.9 -/

/-- CAL_TRUE_ZERO or CAL_TRUE_FULL: within ±1.5 · FS of CAL_SET. -/
def objCalTrue (n : Ch) (get : Conv → F32) (set : F32 → Conv → Conv) : Obj :=
  { chF32 n .rw (fun _ => true) (fun c => get c.conv) (fun v c => { c with conv := set v c.conv }) with
    range := fun w =>
      let c := w.post.chan n
      w.f.abs.le ((c.setFs c.conv.calSet).mul ⟨3, 2⟩) }

/-- STREAM_RING (R364, R365, R428). -/
def objStreamRing (n : Ch) : Obj :=
  { ty := tU16, acc := .rw, scope := fun _ => .chan n, read := fun _ s => natBytes 2 (s.chan n).stream.ring
    range := fun w => bindOk w.post (roleStream n) w.v fun r => r.recSize == 16
    put := fun w s => (bindRing s (roleStream n) (s.chan n).stream.ring w.v).modCh n fun c =>
      { c with stream := { c.stream with ring := w.v, left := 0 } } }

/-- A capture setting: not while a capture runs (Table 9.9). -/
def capObj (n : Ch) (o : Obj) : Obj :=
  { o with state := fun w => if (w.seq.chan n).cap.state == .idle then eOk else eNotReady }

/-- CAP_RING. -/
def objCapRing (n : Ch) : Obj := capObj n
  { ty := tU16, acc := .rw, scope := fun _ => .chan n, read := fun _ s => natBytes 2 (s.chan n).cap.ring
    range := fun w => bindOk w.post (roleCapture n) w.v fun r => r.recSize == 8
    put := fun w s => (bindRing s (roleCapture n) (s.chan n).cap.ring w.v).modCh n fun c =>
      { c with cap := { c.cap with ring := w.v } } }

def capNat (n : Ch) (ty : Byte) (legal : Nat → Bool) (get : Capture → Nat) (set : Nat → Capture → Capture) : Obj :=
  capObj n (chNat n ty .rw legal (fun c => get c.cap) fun v c => { c with cap := set v c.cap })

/-- A signed value as the four bytes of an I32. -/
def i32Nat (i : Int) : Nat := (BitVec.ofInt 32 i).toNat

/-- The main-converter objects of a channel by j and element. -/
def objsConv (n : Ch) (j el : Nat) : Option Obj :=
  match j with
  | 0x00 => if el = 1 then some (chRo n tU8 fun c => c.conv.calValid.toNat) else none
  | 0x01 => if 1 ≤ el ∧ el ≤ 6 then some (objCalOfs n (el - 1)) else none
  | 0x02 => if 1 ≤ el ∧ el ≤ 6 then some (objCalGain n (el - 1)) else none
  | 0x03 => match el with
    | 0x01 => some (objCalSet n)
    | 0x02 => some (chNat n tU16 .rw (within 1 65535) (·.conv.calTicks)
        fun v c => { c with conv := { c.conv with calTicks := v } })
    | 0x03 => some (objCalPoint n)
    | 0x04 => some (objCalTrue n (·.trueZero) fun v k => { k with trueZero := v })
    | 0x05 => some (objCalTrue n (·.trueFull) fun v k => { k with trueFull := v })
    | 0x06 => some (objCalCompute n)
    | 0x07 => some (chRo n tU8 fun c => c.conv.status)
    | 0x08 => some (chRo n tF32 fun c => (c.meanF32 c.conv.zeroMean).toNat)
    | 0x09 => some (chRo n tF32 fun c => (c.meanF32 c.conv.fullMean).toNat)
    | _ => none
  | 0x04 => match el with
    | 0x01 => some (objStreamRing n)
    | 0x02 => some (chNat n tU16 .rw (within 1 65535) (·.stream.div) fun v c => { c with stream := { c.stream with div := v } })
    | 0x03 => some (chNat n tU8 .rw (within 0 1) (·.stream.align) fun v c => { c with stream := { c.stream with align := v } })
    | _ => none
  | 0x05 => match el with
    | 0x01 => some (objCapRing n)
    | 0x02 => some (capNat n tU16 (within 1 4096) (·.len) fun v k => { k with len := v })
    | 0x03 => some (capNat n tU8 (within 0 5) (·.src) fun v k => { k with src := v })
    | 0x04 => some (capNat n tU8 (within 0 1) (·.align) fun v k => { k with align := v })
    | 0x05 => some (objCapArm n)
    | 0x06 => some (chRo n tU8 fun c => match c.cap.state with
        | .idle => 0
        | .armed => 1
        | .capturing => 2
        | .copying => 3)
    | 0x07 => some (chRo n tU32 fun c => c.cap.missed.value.toNat)
    | _ => none
  | 0x06 => match el with
    | 0x01 => some (chRo n tU32 fun c => c.conv.satCount.value.toNat)
    | 0x02 => some (chRo n tI32 fun c => i32Nat c.conv.rawA)
    | 0x03 => some (chRo n tI32 fun c => i32Nat c.conv.rawB)
    | _ => none
  | _ => none

/-! ### The aux converter (R350 to R361) -/

/-- An input as the configuration joins it: the even input of a joined pair, and whether it is one (R351). -/
def joined (diff : Byte) (input : Nat) : Nat × Bool :=
  if input < 16 && diff.getLsbD (input / 2) then (input / 2 * 2, true) else (input, false)

/-- The entries of a scan: the enabled inputs in order, without the odd inputs of joined pairs (R351, R355). -/
def scanEntries (cfg : AuxCfg) : List Nat :=
  (List.range 24).filter fun i => cfg.mask.getLsbD i && !((joined cfg.diff i).2 && i % 2 == 1)

/-- The voltage of a code (R351). -/
def auxVolts (x : AuxLast) : Q :=
  if !x.done then Q.zero
  else if x.diff then Q.mk (x.code.toInt * 4096) 32768000 else Q.mk (x.code.toNat * 4096) 65536000

/-- The latest conversion of an input in V (AUX_LAST). -/
def Aux.volts (a : Aux) (input : Nat) : Q := auxVolts (a.last[input]?.getD {})

/-- A trigger is accepted: the shadow configuration becomes active, and the scan runs (R355, R379). -/
def Aux.accept (a : Aux) (latched : Bool) : Aux :=
  { a with active := a.shadow, state := .delay, todo := scanEntries a.shadow, firstDue := true, latched := latched,
           stopDue := false, scans := a.scans.inc }

/-- A scan trigger (R355, R356); one with nothing to convert is ignored. -/
def Aux.trigger (a : Aux) : Aux :=
  if (scanEntries a.shadow).isEmpty then a
  else if a.state == .idle then a.accept false
  else if a.active.policy = 0 || a.latchPending then { a with missedTrig := a.missedTrig.inc }
  else { a with latchPending := true }

/-- The running scan ends; a pending start is accepted (R355, R356). -/
def Aux.endScan (a : Aux) : Aux :=
  let a := { a with state := .idle, todo := [], stopDue := false, latched := false, active := a.shadow }
  if a.latchPending then
    let a := { a with latchPending := false }
    if (scanEntries a.shadow).isEmpty then a else a.accept true
  else a

/-- Work a slot can start with: the oldest urgent request, else the next entry of the scan (R359). -/
def Aux.nextJob (a : Aux) : Option AuxJob × Aux :=
  match a.urgent with
  | u :: rest =>
    let (i, d) := joined a.active.diff u.input
    (some { input := i, diff := d, req := some u.src, first := false, latched := false, scanNo := a.scans.value.toNat,
            refLow := false, refHigh := false, known := none },
      { a with urgent := rest, urgentCount := a.urgentCount.inc })
  | [] =>
    if a.state == .scanning && !a.stopDue then
      match a.todo with
      | i :: rest =>
        (some { input := i, diff := (joined a.active.diff i).2, req := none, first := a.firstDue, latched := a.latched,
                scanNo := a.scans.value.toNat, refLow := false, refHigh := false, known := none },
          { a with todo := rest, firstDue := false })
      | [] => (none, a)
    else (none, a)

/-- The DAC code whose ladder node a readback input presents: of CH(2p) at input 22 and of CH(2p+1) at 23 (Table 9.1). -/
def ladderCode (s : State) (input : Nat) : Nat :=
  match chOf (2 * s.aux.active.pair + (input - 22)) with
  | some n => (s.chan n).presented
  | none => 0

/-- The code of what the block itself presents at an input (Table 9.1, R351): 0 at the internal zero, and d / 8 of a DAC code d
at a readback input, as y · 2.048 V over 62.5 µV an LSB gives it. -/
def ownCode (s : State) (input : Nat) : Option W16 :=
  match input with
  | 21 => some 0
  | 22 | 23 => some (BitVec.ofNat 16 (ladderCode s input / 8))
  | _ => none

/-- A job as its slot starts, with what the block knows of its sample. -/
def AuxJob.starts (j : AuxJob) (s : State) : AuxJob :=
  { j with refLow := !s.dev.refReady, refHigh := s.dev.refReady, known := ownCode s j.input }

/-- A slot starts; the one before it has ended, and its result is still to come (R353). -/
def startSlot (s : State) : State :=
  let a := { s.aux with inFlight := s.aux.inFlight ++ s.aux.slot.toList, slot := none }
  let (j, a) := a.nextJob
  { s with aux := { a with slot := j.map fun j => j.starts s } }

/-- The record of a conversion (Tables 9.4 and 9.5). -/
def auxRecord (cfg : AuxCfg) (j : AuxJob) (code : W16) (refNr : Bool) (tbc : W64) : List Word :=
  let (chan, host, kind) := match j.req with
    | some (.chan n) => (n.val, 0, 3)
    | some .host => (0, 1, 3)
    | none => (0, 0, 2)
  let w0 := tagWord kind refNr chan (2 ^ 23 * host + 2 ^ 22 * bNat j.first + 2 ^ 21 * bNat j.latched
    + 2 ^ 20 * bNat j.diff + 2 ^ 15 * j.input + j.scanNo % 32768)
  let w1 := alignVal cfg.align 16 (if j.diff then code.toInt else code.toNat)
  if cfg.rec16 then [w0, w1, tbc.setWidth 32, tbc.extractLsb' 32 32] else [w0, w1]

/-- The TBC at the sample of a result, 24 ACLK cycles before it (R353): what the TBC read 144 CCLK cycles ago, whatever trim or
load it met since. -/
def sampleTbc (s : State) : W64 := s.clk.past[143]?.getD (s.clk.tbc - 144)

/-- A result is delivered (R353, R360, R361). -/
def auxDeliver (s : State) (j : AuxJob) (code : W16) (refNr : Bool) : State :=
  let x : AuxLast := { code := code, refNr := refNr, diff := j.diff, done := true }
  let a := s.aux
  let last := a.last.setIfInBounds j.input x
  let a := { a with last := if j.diff then last.setIfInBounds (j.input + 1) x else last }
  let a := match j.req with
    | some .host => { a with urgResult := code, urgDiff := j.diff, urgDone := true }
    | _ => a
  let s := { s with aux := a }
  let s := match j.req with
    | some (.chan n) => s.modCh n fun c =>
        { c with fol := { c.fol with auxValue := (auxVolts x).toF32 }, auxFol := { c.auxFol with everDone := true } }
    | _ => s
  stageWords s .aux (auxRecord s.aux.active j code refNr (sampleTbc s))

/-- The code of a conversion: what the block itself presented, where that stood the same as the slot started and as the result
comes; elsewhere the sample lies outside the block and the command carries it. A readback code between two LSBs gives either
of them. -/
def AuxJob.result (j : AuxJob) (s : State) (code : W16) : W16 :=
  match j.known with
  | some k =>
    if ownCode s j.input != some k then code
    else if 22 ≤ j.input && ladderCode s j.input % 8 != 0 && code == k + 1 then code
    else k
  | none => code

/-- REF_NR of a conversion (Table 9.2): the block knows it, but for a slot in which REF_READY changed, where the command says
what held at the sample. -/
def AuxJob.refTag (j : AuxJob) (refReady : Bool) : Bool := j.refLow && (!j.refHigh || !refReady)

/-- AUX_RESULT: the oldest conversion that is sampled gives its result. -/
def execAuxResult (code : W16) (refReady : Bool) (s : State) : Host.Outcome State Fault Refusal :=
  let give := fun (j : AuxJob) (a : Aux) => auxDeliver { s with aux := a } j (j.result s code) (j.refTag refReady)
  if s.clocksRun then
    match s.aux.inFlight, s.aux.slot with
    | j :: rest, _ => .next (give j { s.aux with inFlight := rest })
    | [], some j => .next (give j { s.aux with slot := none })
    | [], none => .next s
  else .next s

/-- AUX_SLOT_START. -/
def execAuxSlotStart (s : State) : Host.Outcome State Fault Refusal := .next (if s.clocksRun then startSlot s else s)

/-- SCAN_DELAY_END: the first entry takes the next slot (R355). -/
def execScanDelayEnd (s : State) : Host.Outcome State Fault Refusal :=
  .next (if s.clocksRun && s.aux.state == .delay then { s with aux := { s.aux with state := .scanning } } else s)

/-- SCAN_END: the last entry's slot has ended, or the slot in progress at a stop has. -/
def execScanEnd (s : State) : Host.Outcome State Fault Refusal :=
  let a := s.aux
  if s.clocksRun && (a.stopDue && a.state != .idle || a.state == .scanning && a.todo.isEmpty) then
    .next (s.withAux fun a =>
      (match a.slot with
      | some j => if j.req.isNone then { a with inFlight := a.inFlight ++ [j], slot := none } else a
      | none => a).endScan)
  else .next s

/-- SCAN_START (R354). -/
def objScanStart : Obj :=
  { ty := tU8, acc := .cmd, range := fun w => w.v == 1, put := fun _ s => s.withAux Aux.trigger }

/-- SCAN_STOP (R357). -/
def objScanStop : Obj :=
  { ty := tU8, acc := .cmd, range := fun w => w.v == 1
    put := fun _ s => if s.aux.state == .idle then s else { s with aux := { s.aux with stopDue := true } } }

/-- The order of requests of one edge (R359): CH0 to CH7, then the host. -/
def UrgSrc.rank : UrgSrc → Nat
  | .chan n => n.val
  | .host => 8

/-- A request enters the queue behind the older ones and, among those of its edge, in their order (R359). -/
def insertUrg (u : UrgReq) : List UrgReq → List UrgReq
  | [] => [u]
  | x :: xs => if x.at_ = u.at_ ∧ u.src.rank < x.src.rank then u :: x :: xs else x :: insertUrg u xs

/-- A conversion of a source is pending or under way. -/
def Aux.hasUrgent (a : Aux) (src : UrgSrc) : Bool :=
  a.urgent.any (fun u => u.src == src) || (a.slot.toList ++ a.inFlight).any fun j => j.req == some src

/-- URG_REQ (R358, R361): refused while the host's previous request waits for its slot. -/
def objUrgReq : Obj :=
  { ty := tU8, acc := .cmd, range := fun w => within 0 23 w.v
    state := fun w => if w.seq.aux.urgent.any fun u => u.src == .host then eBusy else eOk
    put := fun w s =>
      { s with aux := { s.aux with urgent := insertUrg ⟨.host, w.v, s.now⟩ s.aux.urgent, urgDone := false,
                                   urgInput := BitVec.ofNat 5 w.v } } }

/-- SCAN_START. -/
def execScanStart (r : Req) (v : Byte) (s : State) : Host.Outcome State Fault Refusal :=
  .next (perform objScanStart r tU8 [v] s)

/-- SCAN_STOP. -/
def execScanStop (r : Req) (v : Byte) (s : State) : Host.Outcome State Fault Refusal :=
  .next (perform objScanStop r tU8 [v] s)

/-- URG_REQ. -/
def execUrgReq (r : Req) (v : Byte) (s : State) : Host.Outcome State Fault Refusal :=
  .next (perform objUrgReq r tU8 [v] s)

/-- SCAN_TIMER_WRAP: the timer runs while SCAN_SRC is 1; the shadow period becomes active, and the wrap is a trigger
(R76, R354). -/
def execScanTimerWrap (s : State) : Host.Outcome State Fault Refusal :=
  .next (if s.clocksRun && s.aux.src == 1 then
      s.withAux fun a => ({ a with periodActive := a.period } : Aux).trigger
    else s)

/-- A channel's urgent request at its tick boundary: a pending one is replaced in its place (R358). -/
def Aux.request (a : Aux) (n : Ch) (input now : Nat) : Aux :=
  if a.urgent.any fun u => u.src == .chan n then
    { a with urgent := a.urgent.map fun u => if u.src == .chan n then { u with input := input } else u }
  else { a with urgent := insertUrg ⟨.chan n, input, now⟩ a.urgent }

/-- The boundary at which a mode that uses the aux value is entered: the channel issues its first request there, and its
value is the latest conversion of FOL_AUX (R358, R360). -/
def auxEntry (s : State) (n : Ch) : State :=
  let c := s.chan n
  if c.usesAux then
    ({ s with aux := s.aux.request n c.actSp.folAux s.now } : State).modCh n fun c =>
      { c with auxFol := { c.auxFol with issued := true, everDone := false, used := (s.aux.volts c.actSp.folAux).toF32 } }
  else s

/-- The aux value of a channel at its tick boundary, and its next request (R304, R358, R360). A request that leaves FOLLOW or
NESTED starts the safe ramp, in which MODE still is the mode being left (R249). -/
def auxTick (s : State) (n : Ch) : State :=
  let c := s.chan n
  if c.usesAux then
    let late := c.auxFol.issued && s.aux.hasUrgent (.chan n)
    let prev : F32 :=
      if c.auxFol.issued && c.auxFol.everDone then c.auxFol.used else (s.aux.volts c.actSp.folAux).toF32
    let v := if c.auxFol.issued && !late then c.fol.auxValue else prev
    let a := if late then { s.aux with urgLate := s.aux.urgLate.inc } else s.aux
    ({ s with aux := a.request n c.actSp.folAux s.now } : State).modCh n fun c =>
      { c with auxFol := { c.auxFol with issued := true, used := v } }
  else s.modCh n fun c => { c with auxFol := { c.auxFol with issued := false, everDone := false } }

/-! ### Objects of Table 9.10 -/

/-- A configuration write enters the shadow, which is active at once while no scan runs (R374, R379). -/
def Aux.setShadow (a : Aux) (f : AuxCfg → AuxCfg) : Aux :=
  let a := { a with shadow := f a.shadow }
  if a.state == .idle then { a with active := a.shadow } else a

def auxNat (ty : Byte) (legal : Nat → Bool) (get : AuxCfg → Nat) (set : Nat → AuxCfg → AuxCfg) : Obj :=
  rwNat ty .rw legal (fun s => get s.aux.shadow) fun v s => s.withAux fun a => a.setShadow (set v)

/-- The record size a configuration writes. -/
def AuxCfg.size (c : AuxCfg) : Nat := if c.rec16 then 16 else 8

/-- AUX_RING (R364, R379): the ring of the active configuration keeps its side until that configuration is left. -/
def objAuxRing : Obj :=
  { ty := tU16, acc := .rw, read := fun _ s => natBytes 2 s.aux.shadow.ring
    range := fun w => bindOk w.post roleAux w.v fun r => r.recSize == w.post.aux.shadow.size
    put := fun w s =>
      let former := s.aux.shadow.ring
      let s := if former = s.aux.active.ring then s else releaseSide s roleAux former
      (takeSide s roleAux w.v).withAux fun a => a.setShadow fun c => { c with ring := w.v } }

/-- AUX_REC: checked as a binding at the new size while a ring is named (R364). -/
def objAuxRec : Obj :=
  { auxNat tU8 (fun _ => true) AuxCfg.size (fun v c => { c with rec16 := v == 16 }) with
    range := fun w => (w.v == 8 || w.v == 16) &&
      bindOk w.post roleAux w.post.aux.shadow.ring fun r => r.recSize == w.v }

/-- SCAN_SRC: a write that sets 1 starts the timer; one that leaves the source non-zero ends a running scan and discards a
pending start (R354, R357). -/
def objScanSrc : Obj :=
  rwNat tU8 .rw (within 0 2) (·.aux.src) fun v s =>
    let a := s.aux
    let a := { a with src := v, periodActive := if v = 1 then a.period else a.periodActive }
    if v = 0 then { s with aux := a }
    else { s with aux := { a with latchPending := false, stopDue := a.stopDue || a.state != .idle } }

/-- A new scan period: the shadow, and at once the active value while the timer is stopped (R76). -/
def Aux.setPeriod (a : Aux) (v : Nat) : Aux :=
  { a with period := v, periodActive := if a.src = 1 then a.periodActive else v }

/-- A derived object of R352: 0.0 until its input has been converted. -/
def derived (input : Nat) (f : Q → Q) : Obj :=
  roNat tF32 fun s =>
    let x := s.aux.last[input]?.getD {}
    if x.done then (f (auxVolts x)).toF32.toNat else 0

/-- The aux objects by index and element. -/
def objsAux (idx el : Nat) : Option Obj :=
  match idx with
  | 0x4800 => match el with
    | 0x01 => some (auxNat tU32 (fun v => v < 2 ^ 24) (fun c => c.mask.toNat) fun v c => { c with mask := BitVec.ofNat 24 v })
    | 0x02 => some objScanSrc
    | 0x03 => some (rwNat tU32 .rw (within 16 0xFFFFFFFF) (·.aux.period) fun v s => { s with aux := s.aux.setPeriod v })
    | 0x04 => some (roNat tU32 (·.aux.periodActive))
    | 0x05 => some (auxNat tU16 (within 0 65535) (·.delay) fun v c => { c with delay := v })
    | 0x06 => some (auxNat tU8 (within 0 1) (·.policy) fun v c => { c with policy := v })
    | 0x07 => some (auxNat tU8 (within 0 3) (·.pwgSel) fun v c => { c with pwgSel := v })
    | 0x08 => some (auxNat tU8 (within 0 255) (·.settle) fun v c => { c with settle := v })
    | 0x09 => some objAuxRing
    | 0x0A => some objAuxRec
    | 0x0B => some (auxNat tU8 (within 0 1) (·.align) fun v c => { c with align := v })
    | 0x0C => some (auxNat tU8 (within 0 255) (fun c => c.diff.toNat) fun v c => { c with diff := BitVec.ofNat 8 v })
    | 0x0D => some (auxNat tU8 (within 0 3) (·.pair) fun v c => { c with pair := v })
    | 0x0E => some objScanStart
    | 0x0F => some objScanStop
    | _ => none
  | 0x4801 => match el with
    | 0x01 => some (roNat tU8 fun s => match s.aux.state with
        | .idle => 0
        | .delay => 1
        | .scanning => 2)
    | 0x02 => some (roNat tU32 fun s => s.aux.scans.value.toNat)
    | 0x03 => some (roNat tU32 fun s => s.aux.missedTrig.value.toNat)
    | 0x04 => some (roNat tU32 fun s => s.aux.urgentCount.value.toNat)
    | 0x05 => some (roNat tU32 fun s => s.aux.urgLate.value.toNat)
    | 0x06 => some (roNat tBool fun s => bNat s.aux.latchPending)
    | _ => none
  | 0x4802 => if 1 ≤ el ∧ el ≤ 24 then some (roNat tF32 fun s => (s.aux.volts (el - 1)).toF32.toNat) else none
  | 0x4803 => match el with
    | 0x01 => some objUrgReq
    | 0x02 => some (roNat tF32 fun s =>
        (auxVolts { code := s.aux.urgResult, diff := s.aux.urgDiff, done := true }).toF32.toNat)
    | 0x03 => some (roNat tBool fun s => bNat s.aux.urgDone)
    | _ => none
  | 0x4804 => match el with
    | 0x01 => some (derived 16 fun v => (Q.ofNat 25).add (((Q.mk 3 4).sub v).mul (Q.ofNat 500)))
    | 0x02 => some (derived 17 fun v => v.mul (Q.ofNat 2))
    | 0x03 => some (derived 18 fun v => v.mul (Q.ofNat 2))
    | 0x04 => some (derived 19 fun v => v)
    | _ => none
  | _ => none

/-! ### Pulse-width generators (R413) -/

/-- The period begins: the shadows are active, and the output rises unless WIDTH is 0. -/
def Pwg.wrap (g : Pwg) : Pwg :=
  { g with run := true, periodActive := g.period, widthActive := g.width, out := g.width != 0 }

/-- The event of a generator triggers a scan that selects it (R354). -/
def pwgEvent (s : State) (p : Fin 4) : State :=
  if s.aux.src = 2 ∧ s.aux.active.pwgSel = p.val then s.withAux Aux.trigger else s

def State.modPwg (s : State) (p : Fin 4) (f : Pwg → Pwg) : State :=
  { s with trig := { s.trig with pwgs := s.trig.pwgs.set p.val (f s.trig.pwgs[p.val]) } }

/-- PWG_RUN: a write of PWGp_CTRL; RUN set to 1 starts the generator, set to 0 stops it and drives the output low. -/
def execPwgRun (p : Fin 4) (w : Word) (s : State) : Host.Outcome State Fault Refusal :=
  let g := s.trig.pwgs[p.val]
  if w.getLsbD 0 then
    if g.run then .next s else .next (pwgEvent (s.modPwg p Pwg.wrap) p)
  else .next (s.modPwg p fun g => { g with run := false, out := false })

/-- PWG_WRAP. -/
def execPwgWrap (p : Fin 4) (s : State) : Host.Outcome State Fault Refusal :=
  if s.clocksRun && s.trig.pwgs[p.val].run then .next (pwgEvent (s.modPwg p Pwg.wrap) p) else .next s

/-- PWG_WIDTH_END: WIDTH cycles after the wrap the output falls; it stays high where WIDTH reaches PERIOD. -/
def execPwgWidthEnd (p : Fin 4) (s : State) : Host.Outcome State Fault Refusal :=
  .next (if s.clocksRun then s.modPwg p fun g => if g.widthActive < g.periodActive then { g with out := false } else g
    else s)

/-- PERIOD_REG_WRITE: a write to a period register (R76, R77, R413): an illegal value is ignored. -/
def execPeriodRegWrite (p : PeriodReg) (w : Word) (s : State) : Host.Outcome State Fault Refusal :=
  match p with
  | .scan => .next (if 16 ≤ w.toNat then { s with aux := s.aux.setPeriod w.toNat } else s)
  | .pwgPeriod p =>
    .next (if 2 ≤ w.toNat then
        s.modPwg p fun g => { g with period := w.toNat, periodActive := if g.run then g.periodActive else w.toNat }
      else s)
  | .pwgWidth p =>
    .next (s.modPwg p fun g => { g with width := w.toNat, widthActive := if g.run then g.widthActive else w.toNat })

/-- PHASE_UPDATE: the DAC update instant of a channel in PHASE timing (R284, R384). -/
def execPhaseUpdate (n : Ch) (s : State) : Host.Outcome State Fault Refusal :=
  .next (if s.clocksRun && (s.chan n).actProg.timing == 1 then s.modCh n Channel.update else s)

end Sys2Proof.Machine
end

