-- ==== Sys2Proof/Machine/Sweep.lean ====
section
/-! DEFINITION. The sweep sequencer (R444 to R455), and the objects of Hamper and of the sequencer (R458, R459). -/

namespace Sys2Proof.Machine

/-! ### Step records (R444) -/

/-- A legal step record's fields, from its four words. -/
def parseStep (ws : List Word) : Option StepRec :=
  match ws with
  | [w0, w1, w2, w3] =>
    let meas := w3.toNat % 2 ^ 24
    if w0.extractLsb' 28 4 == 8 && w0.extractLsb' 16 6 == 0 && w3.extractLsb' 24 8 == 0 && f32Finite w1
        && !(w2 == 0 && meas == 0) then
      some { endStep := w0.getLsbD 27, order := w0.getLsbD 26, rngEn := w0.getLsbD 25,
             range := (w0.extractLsb' 23 2).toNat, mark := w0.getLsbD 22, stepId := w0.extractLsb' 0 16,
             sp := w1, dwell := w2.toNat, meas := meas }
    else none
  | _ => none

/-- The mode is FV_LIST or FI_LIST. -/
def Mode.lists (m : Mode) : Bool := m == .fvList || m == .fiList

def State.modSweep (s : State) (n : Ch) (f : Sweep → Sweep) : State :=
  s.modCh n fun c => { c with sweep := f c.sweep }

/-! ### Results (R451) -/

/-- The mean of `k` samples from their exact sum, rounded once; 0.0 of no samples. -/
def meanOf (sum : Int) (k : Nat) : F32 := if k = 0 then 0 else ((unitsVal sum).div (Q.ofNat k)).toF32

/-- The result record of a step (Table 11.7). -/
def resultRecord (n : Ch) (w : Sweep) (r : StepRec) (range : Nat) (short : Bool) : List Word :=
  let x := w.window
  [tagWord 5 x.refNr n.val (2 ^ 22 * range + 2 ^ 21 * bNat short + 2 ^ 20 * bNat x.compl + 2 ^ 19 * bNat x.sat
      + 2 ^ 18 * bNat x.resumed + r.stepId.toNat),
   meanOf x.sumV x.samples, meanOf x.sumI x.samples, BitVec.ofNat 32 (x.samples % 2 ^ 24),
   x.openTbc.setWidth 32, x.openTbc.extractLsb' 32 32, r.sp, w.stepSeq.value]

/-- The result record of the step in progress is written; a RESULT_RING of 0xFFFF writes and counts nothing (R455). -/
def writeResult (s : State) (n : Ch) (short : Bool) : State :=
  let c := s.chan n
  match c.sweep.cur with
  | none => s
  | some r =>
    if c.sweep.resultRing = 0xFFFF then s
    else
      let range := if c.sweep.window.samples = 0 then c.range else c.sweep.window.range
      let s' := s.modSweep n fun w => { w with short := if short then w.short.inc else w.short }
      stageWords s' (.result n) (resultRecord n c.sweep r range short)

/-! ### Ends (R453, R454) -/

/-- The SEQ event of a step with MARK that ends. -/
def markEvent (s : State) (n : Ch) (r : StepRec) : State :=
  if r.mark then raiseEvent s evSeq 1 (n.val + 65536 * r.stepId.toNat) else s

/-- The list ends with a reason. -/
def listEnd (s : State) (n : Ch) (reason : Nat) (code : Byte) : State :=
  let s := s.modSweep n fun w =>
    { w with listState := .ended, phase := .none, endReason := reason, endCode := code, cur := none, window := {}, left := 0,
             startDue := false, abortDue := false, trigPending := false, reopen := false }
  raiseEvent s evSeq 2 (n.val + 256 * reason)

/-- The list ends under LIST_STOP or a mode event: a window with at least one sample is written SHORT (R454). Nothing
happens where no list runs. -/
def listCut (s : State) (n : Ch) (reason : Nat) : State :=
  let w := (s.chan n).sweep
  if !w.active then s
  else
    let s := if w.window.samples = 0 then s else writeResult s n true
    let s := match w.cur with
      | some r => markEvent s n r
      | none => s
    listEnd s n reason 0

/-- A step ends: its record, its event, the end of the list or what starts the next step (R447 to R450). -/
def stepEnd (s : State) (n : Ch) (write short : Bool) : State :=
  let w := (s.chan n).sweep
  match w.cur with
  | none => s
  | some r =>
    let s := if write then writeResult s n short else s
    let s := markEvent s n r
    if r.endStep then listEnd s n 1 0
    else if w.replay && decide (w.passLen ≤ w.passAt) && w.loops != 0 && decide (w.loops ≤ w.loopNow) then listEnd s n 2 0
    else s.modSweep n fun w =>
      let go := w.advSrc == 0 || w.trigPending || w.abortDue
      { w with cur := none, window := {}, left := 0, phase := if go then .none else .waitTrig, startDue := go,
               trigPending := false, abortDue := false, reopen := false }

/-! ### Starts (R446 to R448) -/

/-- A list starts: at the next tick boundary, or in WAIT_START. -/
def listBegin (s : State) (n : Ch) : State :=
  s.modSweep n fun w =>
    { w with listState := if w.startSrc = 0 then .running else .waitStart, phase := .none, endReason := 0, endCode := 0,
             stepSeq := { w.stepSeq with value := 0 }, loopNow := 0, cur := none, window := {}, left := 0,
             startDue := decide (w.startSrc = 0), abortDue := false, trigPending := false, reopen := false,
             missedOnce := false, passAt := 0, passLen := 0 }

/-- What a step finds to run. -/
inductive NextStep where
  | empty
  | bad (id : Nat)
  | step (r : StepRec)
  deriving DecidableEq, Repr

/-- A slot of a list ring as a step; a gap marker is no step record. -/
def stepOf (r : Ring) (x : Rec) : NextStep :=
  let ws := recWords r.byteRecs x.bytes
  if x.mark then .bad ((ws.headD 0).toNat % 65536)
  else match parseStep ws with
    | some q => .step q
    | none => .bad ((ws.headD 0).toNat % 65536)

/-- What the sequencer reads in a slot: one with an uncorrectable error turns into a marker of 1, which is no step record, and a
correctable error is corrected and counted (R425). -/
def stepAt (s : State) (r : Ring) (k : Nat) : State × NextStep :=
  match r.recs[k]? with
  | none => (s, .empty)
  | some x => if x.bad then (eccTurn s r k, .bad 1) else (eccRead s x, stepOf r x)

/-- The next step record: the head under CONSUME, the next of the pass under REPLAY, where a pass begins with the records as
they stand (R447). A good record is removed under CONSUME. A ring whose consumer is not the sequencer gives up none (R426,
R428). -/
def nextStep (s : State) (n : Ch) : State × NextStep :=
  let w := (s.chan n).sweep
  let s := checkDesc s w.listRing
  match s.hamper.ring w.listRing with
  | none => (s, .empty)
  | some r =>
    if r.consumer != roleList n then (s, .empty)
    else if w.replay then
      let fresh := decide (w.passLen ≤ w.passAt)
      let at_ := if fresh then 0 else w.passAt
      let s := s.modSweep n fun w =>
        { w with passAt := at_ + 1, passLen := if fresh then r.count else w.passLen,
                 loopNow := if fresh then w.loopNow + 1 else w.loopNow }
      stepAt s r at_
    else match stepAt s r 0 with
      | (s, .step q) => (s.setRing r.freeHead, .step q)
      | x => x

/-- The set-point of the sequencer takes effect. -/
def stepSp (s : State) (n : Ch) (r : StepRec) : State :=
  superviseAgain (s.modCh n fun c => c.setSp (f32To64 r.sp)) n

/-- DWELL begins at E. -/
def dwellStart (s : State) (n : Ch) (r : StepRec) : State :=
  s.modSweep n fun w => { w with phase := .dwell, left := r.dwell }

/-- A step starts with its record (R448, Table 11.6): its range request is checked as any other, with the step's set-point
in force where ORDER is 1. -/
def runStep (s : State) (n : Ch) (r : StepRec) : State :=
  let s := { s with hamper := { s.hamper with stepsTotal := s.hamper.stepsTotal + 1 } }
  let s := s.modSweep n fun w =>
    { w with listState := .running, stepSeq := w.stepSeq.inc, stepId := r.stepId, cur := some r, window := {},
             startDue := false, abortDue := false, trigPending := false, missedOnce := false, reopen := false }
  if r.rngEn then
    let s := if r.order then stepSp s n r else s
    let c := s.chan n
    let code := rangeCode s n r.range true
    let waits := code == eNotReady && c.rng.running
    if code != eOk && !waits then listEnd s n 5 code
    else if waits then
      (s.modCh n fun c => { c with rng := { c.rng with stepReq := some r.range } }).modSweep n fun w =>
        { w with phase := .ranging }
    else if c.range = r.range then
      dwellStart (stepSp (s.modCh n fun c => c.acceptRange r.range) n r) n r
    else
      (s.modCh n fun c => c.acceptRange r.range).modSweep n fun w => { w with phase := .ranging }
  else dwellStart (stepSp s n r) n r

/-- The ranging phase ends at boundary E: with ORDER 0 the set-point takes effect (R448). -/
def rangingDone (s : State) (n : Ch) : State :=
  let w := (s.chan n).sweep
  match w.cur, w.phase with
  | some r, .ranging => dwellStart (if r.order then s else stepSp s n r) n r
  | _, _ => s

/-- A step may start: a start or advance condition is met, and the list does not pause. -/
def Sweep.mayStart (w : Sweep) : Bool := w.startDue && (w.listState == .running || w.listState == .waitStart)

/-- The sequencer is the set-point source: in the list modes, and there not while the safe ramp runs (R247, R445). -/
def Channel.sweeps (c : Channel) : Bool := c.mode.mode.lists && c.mode.status != .safeRamp

/-- STEP_START. -/
def execStepStart (n : Ch) (s : State) : Host.Outcome State Fault Refusal :=
  if s.clocksRun && (s.chan n).sweeps && (s.chan n).sweep.mayStart then
    match nextStep s n with
    | (s, .empty) => .next (listEnd s n 3 0)
    | (s, .bad id) => .next (listEnd (sendMsg s (srcCh n) 0xB0 .warn id) n 4 0)
    | (s, .step r) => .next (runStep s n r)
  else .next s

/-- STEP_DWELL_END: DWELL ticks have passed; the window opens, or a step without one ends (R448, R450). -/
def execStepDwellEnd (n : Ch) (s : State) : Host.Outcome State Fault Refusal :=
  let c := s.chan n
  match c.sweep.cur with
  | some r =>
    if s.clocksRun && c.sweep.phase == .dwell && c.sweep.left == 0 && c.sweep.listState == .running then
      let s := s.modSweep n fun w =>
        { w with phase := .measure, left := r.meas, window := { w.window with opened := true, openTbc := c.last.tick } }
      .next (if r.meas = 0 then stepEnd s n (c.sweep.stepPolicy == 2) false else s)
    else .next s
  | none => .next s

/-- STEP_MEASURE_END: the window is full, or an advance trigger aborts the step (R448, R450). -/
def execStepMeasureEnd (n : Ch) (s : State) : Host.Outcome State Fault Refusal :=
  let w := (s.chan n).sweep
  if w.listState != .running || !s.clocksRun then .next s
  else if w.phase == .measure && w.left == 0 && w.window.opened then .next (stepEnd s n true false)
  else if w.abortDue && (w.phase == .dwell || w.phase == .measure) then .next (stepEnd s n true true)
  else .next s

/-! ### The tick (R448, R452) -/

/-- The window that closed at this boundary counts for the step: marks always, the sample while its window is open. -/
def Channel.sweepSample (c : Channel) : Channel :=
  let w := c.sweep
  match w.cur with
  | none => c
  | some _ =>
    let x := w.window
    let x := { x with refNr := x.refNr || c.conv.refNr, sat := x.sat || c.conv.sat }
    if w.phase == .measure && x.opened && w.left != 0 then
      { c with sweep := { w with
          left := w.left - 1
          window := { x with samples := x.samples + 1, sumV := x.sumV + f32Units c.last.v, sumI := x.sumI + f32Units c.last.i,
                             compl := x.compl || c.clamp.seen || c.clamp.tripped, range := c.conv.legA } } }
    else { c with sweep := { w with window := x, left := if w.phase == .dwell then w.left - 1 else w.left } }

/-- The list pauses with its source, its open window discarded; at the release a discarded window reopens whole (R452). -/
def Channel.sweepPause (c : Channel) (tbc : W64) : Channel :=
  let w := c.sweep
  let held := c.hold.held != 0
  if held && (w.listState == .running || w.listState == .waitStart) then
    let open_ := w.phase == .measure && w.window.opened
    { c with sweep := { w with
        listState := .paused, reopen := open_
        window := if open_ then { refNr := w.window.refNr, sat := w.window.sat } else w.window } }
  else if !held && w.listState == .paused then
    let fresh := w.cur.isNone && w.phase == .none && !w.startDue
    { c with sweep := { w with
        listState := if fresh then .waitStart else .running, reopen := false
        left := if w.reopen then ((w.cur.map (·.meas)).getD 0) else w.left
        window := if w.reopen then { w.window with resumed := true, opened := true, openTbc := tbc } else w.window } }
  else c

/-- The sequencer at a tick boundary: the window that closed belongs to the tick before, in which a paused list counted
nothing. -/
def Channel.sweepTick (c : Channel) (tbc : W64) : Channel :=
  (if c.sweep.listState == .running then c.sweepSample else c).sweepPause tbc

/-- The ticks that a change still runs to the end of a step's ranging phase: B2, the switch boundary or B0, by its method (Table
11.6). -/
def Channel.rangingTicks (c : Channel) (ts : Nat) : Nat :=
  match c.rng.phase with
  | .idle => match c.rng.method with
    | 0 => 1 + 2 * ts
    | 1 => 2
    | _ => 1
  | .make => c.rng.left + ts
  | _ => c.rng.left

/-- SWP_LEFT: the ticks left in the phase (Table 11.11). A step whose request waits for a running change to another range has
its own change before it yet (R397). -/
def stepLeft (s : State) (n : Ch) : Nat :=
  let c := s.chan n
  let ts := settleTicks (s.engine n.engine).nActive c.decl.rngSettle
  match c.sweep.phase with
  | .ranging =>
    c.rangingTicks ts + (if c.rng.stepReq.any fun v => v != c.rng.target.getD c.range then
      ({ c with rng := { c.rng with phase := .idle, method := c.rangeMethod } } : Channel).rangingTicks ts else 0)
  | _ => c.sweep.left

/-! ### Triggers (R449, R450, R452) -/

/-- A trigger is counted and discarded; the first of each step raises a SEQ event. -/
def missTrigger (s : State) (n : Ch) : State :=
  let first := !(s.chan n).sweep.missedOnce
  let s := s.modSweep n fun w => { w with missed := w.missed.inc, missedOnce := true }
  if first then raiseEvent s evSeq 3 n.val else s

/-- An advance trigger of a channel from the source it selects. -/
def advance (s : State) (n : Ch) : State :=
  let w := (s.chan n).sweep
  if w.advSrc = 0 then s
  else match w.listState with
    | .idle | .ended => s
    | .paused => missTrigger s n
    | .waitStart => s.modSweep n fun w => { w with startDue := true }
    | .running =>
      match w.phase with
      | .none => s
      | .waitTrig => s.modSweep n fun w => { w with startDue := true }
      | _ =>
        if w.stepPolicy = 1 && !w.trigPending then s.modSweep n fun w => { w with trigPending := true }
        else if w.stepPolicy = 2 && !w.abortDue then s.modSweep n fun w => { w with abortDue := true }
        else missTrigger s n

/-- STEP_ADVANCE_TRIGGER: the selected source triggers. -/
def execStepAdvanceTrigger (n : Ch) (s : State) : Host.Outcome State Fault Refusal := .next (advance s n)

/-! ### Commands and objects of Table 11.9 -/

/-- LIST_START (R446). -/
def objListStart (n : Ch) : Obj :=
  { chCmd n tU8 (fun w => w.v == 1 && (w.post.chan n).sweep.listRing != 0xFFFF) (fun _ s => listBegin s n) with
    mode := fun w => (w.pre.chan n).mode.mode.lists
    state := fun w => if (w.seq.chan n).sweep.active then eNotReady else eOk }

/-- LIST_STOP (R453). -/
def objListStop (n : Ch) : Obj := chCmd n tU8 (fun w => w.v == 1) fun _ s => listCut s n 6

/-- SWP_TRIG (R449, Table 11.9). -/
def objSwpTrig (n : Ch) : Obj :=
  { chCmd n tU8 (fun w => w.v == 1) (fun _ s => advance s n) with
    mode := fun w => (w.seq.chan n).sweep.advSrc == 6 }

/-- LIST_START. -/
def execListStart (r : Req) (n : Ch) (v : Byte) (s : State) : Host.Outcome State Fault Refusal :=
  .next (perform (objListStart n) r tU8 [v] s)

/-- LIST_STOP. -/
def execListStop (r : Req) (n : Ch) (v : Byte) (s : State) : Host.Outcome State Fault Refusal :=
  .next (perform (objListStop n) r tU8 [v] s)

/-- SWP_TRIG. -/
def execSwpTrig (r : Req) (n : Ch) (v : Byte) (s : State) : Host.Outcome State Fault Refusal :=
  .next (perform (objSwpTrig n) r tU8 [v] s)

/-- A setting of a list: not while one runs (R455). -/
def listObj (n : Ch) (o : Obj) : Obj :=
  { o with state := fun w => if (w.seq.chan n).sweep.active then eNotReady else eOk }

def listNat (n : Ch) (ty : Byte) (legal : Nat → Bool) (get : Sweep → Nat) (set : Nat → Sweep → Sweep) : Obj :=
  listObj n (chNat n ty .rw legal (fun c => get c.sweep) fun v c => { c with sweep := set v c.sweep })

/-- LIST_RING or RESULT_RING (R428, R429). -/
def listRingObj (n : Ch) (role : Nat) (form : Ring → Bool) (get : Sweep → Nat) (set : Nat → Sweep → Sweep) : Obj :=
  listObj n
    { ty := tU16, acc := .rw, scope := fun _ => .chan n, read := fun _ s => natBytes 2 (get (s.chan n).sweep)
      range := fun w => bindOk w.post role w.v form
      put := fun w s => (bindRing s role (get (s.chan n).sweep) w.v).modSweep n (set w.v) }

def listStateCode : ListState → Nat
  | .idle => 0
  | .waitStart => 1
  | .running => 2
  | .paused => 3
  | .ended => 4

def stepPhaseCode : StepPhase → Nat
  | .none => 0
  | .ranging => 1
  | .dwell => 2
  | .measure => 3
  | .waitTrig => 4

/-- The sweep objects of a channel by local index and element. -/
def objsSweep (n : Ch) (j el : Nat) : Option Obj :=
  match j with
  | 0x30 => match el with
    | 0x01 => some (listRingObj n (roleList n) (fun r => r.recSize == 16 && !r.byteRecs && r.policy == .stall) (·.listRing)
        fun v w => { w with listRing := v })
    | 0x02 => some (listRingObj n (roleResult n) (fun r => r.recSize == 32 && !r.byteRecs) (·.resultRing)
        fun v w => { w with resultRing := v })
    | 0x03 => some (listNat n tU8 (within 0 1) (fun w => bNat w.replay) fun v w => { w with replay := v == 1 })
    | 0x04 => some (listNat n tU16 (within 0 65535) (·.loops) fun v w => { w with loops := v })
    | 0x05 => some (listNat n tU8 (within 0 6) (·.advSrc) fun v w => { w with advSrc := v })
    | 0x06 => some (listNat n tU8 (within 0 2) (·.stepPolicy) fun v w => { w with stepPolicy := v })
    | 0x07 => some (listNat n tU8 (within 0 1) (·.startSrc) fun v w => { w with startSrc := v })
    | 0x08 => some (listNat n tBool (within 0 1) (fun w => bNat w.listAuto) fun v w => { w with listAuto := v == 1 })
    | _ => none
  | 0x31 => match el with
    | 0x01 => some (objListStart n)
    | 0x02 => some (objListStop n)
    | 0x03 => some (objSwpTrig n)
    | _ => none
  | 0x32 => match el with
    | 0x01 => some (chRo n tU8 fun c => listStateCode c.sweep.listState)
    | 0x02 => some (chRo n tU8 fun c => stepPhaseCode c.sweep.phase)
    | 0x03 => some (chRo n tU8 (·.sweep.endReason))
    | 0x04 => some (chRo n tU8 fun c => c.sweep.endCode.toNat)
    | 0x05 => some (chRo n tU32 fun c => c.sweep.stepSeq.value.toNat)
    | 0x06 => some (chRo n tU16 fun c => c.sweep.stepId.toNat)
    | 0x07 => some (chRo n tU16 fun c => c.sweep.loopNow % 65536)
    | 0x08 => some (chRo n tU32 fun c => c.sweep.missed.value.toNat)
    | 0x09 => some (chRo n tU32 fun c => c.sweep.short.value.toNat)
    | _ => none
  | _ => none

/-! ### Objects of Table 11.8 -/

/-- The mask of channels that meet a condition. -/
def chMask (p : Ch → Bool) : Nat := (allCh.map fun n => if p n then 2 ^ n.val else 0).sum

/-- The mask of semaphores that a core holds. -/
def semMask (h : Hamper) (m : Master) : Nat :=
  (h.sems.toList.zipIdx.map fun (x, i) => if x == some m then 2 ^ i else 0).sum

/-- A value of the ring that RING_SEL of the requester selects; 0 for a ring never configured and for a requester without
a session (R458). -/
def selObj (ty : Byte) (get : Ring → Nat) : Obj :=
  { ty := ty, acc := .ro
    read := fun who s =>
      let v := if hasSession s who then ((s.hamper.anyRing (s.relative who).ringSel.toNat).map get).getD 0 else 0
      natBytes ((typeSize ty).getD 0) v }

/-- RING_INFO: 16 bytes, 0 for a free ring. -/
def objRingInfo : Obj :=
  { ty := tBlob, acc := .ro, max := 16
    read := fun who s =>
      match (if hasSession s who then s.hamper.ring (s.relative who).ringSel.toNat else none) with
      | some r => r.blob
      | none => List.replicate 16 0 }

/-- The ring objects by index and element. -/
def objsHamper (idx el : Nat) : Option Obj :=
  match idx with
  | 0x5000 => match el with
    | 0x01 => some (roNat tU16 fun s => s.hamper.poolFree)
    | 0x02 => some (roNat tU16 fun s => s.hamper.reserved)
    | 0x03 => some (roNat tU16 fun s => s.hamper.ringsUsed)
    | 0x04 => some (roNat tU32 fun s => s.hamper.poolExhaust.value.toNat)
    | 0x05 => some (roNat tU32 fun s => s.hamper.eccCorrected.value.toNat)
    | 0x06 => some (roNat tU32 fun s => s.hamper.eccLost.value.toNat)
    | 0x07 => some (roNat tU32 fun s => s.hamper.poolLossPerS.toNat)
    | _ => none
  | 0x5001 => match el with
    | 0x01 => some objRingConfig
    | 0x02 => some objRingFree
    | 0x03 => some objRingFlush
    | _ => none
  | 0x5002 => match el with
    | 0x01 => some
      { ty := tU16, acc := .rw, read := fun who s => natBytes 2 (s.relative who).ringSel.toNat
        range := fun w => decide (w.v ≤ 16383)
        put := fun w s => s.modRelative w.req.who fun x => { x with ringSel := BitVec.ofNat 16 w.v } }
    | 0x02 => some objRingInfo
    | 0x03 => some (selObj tU16 Ring.count)
    | 0x04 => some (selObj tU16 Ring.capacity)
    | 0x05 => some (selObj tU16 (·.pagesHeld))
    | 0x06 => some (selObj tU64 fun r => r.lossTotal.toNat)
    | 0x07 => some (selObj tU32 fun r => r.gaps.value.toNat)
    | 0x08 => some (selObj tU32 fun r => r.lossPerS.toNat)
    | 0x09 => some (selObj tU64 fun r => r.pendLoss + r.headGap)
    | _ => none
  | 0x5003 => match el with
    | 0x01 => some { ty := tU16, acc := .ro, read := fun who s => natBytes 2 (s.relative who).lastReadRing.toNat }
    | 0x02 => some { ty := tU64, acc := .ro, read := fun who s => natBytes 8 (s.relative who).lastReadGap.toNat }
    | _ => none
  | 0x5004 => match el with
    | 0x01 => some (roNat tU32 fun s => semMask s.hamper .app)
    | 0x02 => some (roNat tU32 fun s => semMask s.hamper .sup)
    | 0x03 => some (roNat tU32 fun s => s.hamper.semReleased.value.toNat)
    | _ => none
  | 0x5100 => match el with
    | 0x01 => some (roNat tU8 fun s => chMask fun n =>
        (s.chan n).sweep.listState == .running || (s.chan n).sweep.listState == .paused)
    | 0x02 => some (roNat tU32 fun s => s.hamper.stepsTotal.toNat)
    | _ => none
  | _ => none

end Sys2Proof.Machine
end

