-- ==== Sys2Proof/Machine/Crc.lean ====
section
/-! DEFINITION. The three CRCs of Table 0.3 (R18). -/

namespace Sys2Proof.Machine

/-- One bit of a reflected CRC-32 with polynomial 0x04C1_1DB7. -/
def crc32Bit (c : Word) : Word := if c.getLsbD 0 then (c >>> 1) ^^^ 0xEDB88320 else c >>> 1

/-- One byte. -/
def crc32Byte (c : Word) (b : Byte) : Word :=
  crc32Bit (crc32Bit (crc32Bit (crc32Bit (crc32Bit (crc32Bit (crc32Bit (crc32Bit (c ^^^ b.setWidth 32))))))))

/-- The Ronko CRC-32. -/
def crc32 (bytes : List Byte) : Word := bytes.foldl crc32Byte 0xFFFFFFFF ^^^ 0xFFFFFFFF

/-- One bit of a CRC-16 with polynomial 0x1021. -/
def crc16Bit (c : W16) : W16 := if c.msb then (c <<< 1) ^^^ 0x1021 else c <<< 1

/-- One byte. -/
def crc16Byte (c : W16) (b : Byte) : W16 :=
  crc16Bit (crc16Bit (crc16Bit (crc16Bit (crc16Bit (crc16Bit (crc16Bit (crc16Bit (c ^^^ (b.setWidth 16 <<< 8)))))))))

/-- The MGP CRC-16. -/
def crc16 (bytes : List Byte) : W16 := bytes.foldl crc16Byte 0xFFFF

/-- One bit of a CRC-8 with polynomial 0x07. -/
def crc8Bit (c : Byte) : Byte := if c.msb then (c <<< 1) ^^^ 0x07 else c <<< 1

/-- One byte. -/
def crc8Byte (c b : Byte) : Byte :=
  crc8Bit (crc8Bit (crc8Bit (crc8Bit (crc8Bit (crc8Bit (crc8Bit (crc8Bit (c ^^^ b))))))))

/-- The FSP CRC-8. -/
def crc8 (bytes : List Byte) : Byte := bytes.foldl crc8Byte 0

end Sys2Proof.Machine
end

