-- ==== Sys2Proof/Machine/Modes.lean ====
section
/-! DEFINITION. The channel modes (R228 to R256): requests and their checks, the enabling sequence, bumpless entry, the safe
ramp, entry into OFF, revocation (R187) and what a limit change brings (R173). -/

namespace Sys2Proof.Machine

/-! ### Transitions (Table 6.3) -/

/-- Modes that force the same quantity and pass into each other. -/
def Mode.group : Mode → Nat
  | .fv | .fvProfile | .fvList => 1
  | .fi | .fiProfile | .fiList => 2
  | _ => 0

/-- One of modes 2 to 10. -/
def Mode.works (m : Mode) : Bool := decide (2 ≤ m.toNat) && decide (m.toNat ≤ 10)

/-- The transition stands in Table 6.3. -/
def permitted (a b : Mode) : Bool :=
  match a with
  | .off => b != .off
  | .idle => b == .off || b.works
  | .meter => b == .off
  | a => b == .idle || b == .off || (a != b && a.group != 0 && a.group == b.group)

def ModeStatus.code : ModeStatus → Nat
  | .stable => 0
  | .enabling => 1
  | .safeRamp => 2
  | .waitRange => 3

def OffReason.code : OffReason → Nat
  | .reset => 0
  | .modeRequest => 1
  | .offNow => 2
  | .trip => 3
  | .deviceState => 4
  | .instructor => 5
  | .revocation => 6

/-- MODE_TARGET: equal to MODE while MODE_STATUS is STABLE (Table 6.6). -/
def ModeSt.shownTarget (m : ModeSt) : Nat := if m.status == .stable then m.mode.toNat else m.target.toNat

/-! ### Changes of MODE -/

/-- MODE becomes `m`: the change is counted and raises a SEQ event (Table 6.6, Table 15.7). -/
def setMode (s : State) (n : Ch) (m : Mode) : State :=
  if (s.chan n).mode.mode == m then s
  else
    let s := s.modCh n fun c => { c with mode := { c.mode with mode := m, changes := c.mode.changes.inc } }
    raiseEvent s evSeq 0 (n.val + 256 * m.toNat)

/-- A lock whose revocation has run to its end is FREE (R187). -/
def freeLock (s : State) (n : Ch) : State :=
  s.modCh n fun c => if c.lock.state == .ramping then { c with lock := { c.lock with state := .free } } else c

/-- What every change of mode ends: a calibration capture (R369), an armed fast step (R410), a source hold (R320) and the
LAC frame in progress (R329); the LAC state follows the mode (R324). -/
def Channel.modeLeft (c : Channel) (n : Ch) : Channel :=
  let c := c.disarm
  let c : Channel :=
    { c with conv := c.conv.abort, hold := {}, lac := if c.lac.state == .adapting then c.lac.discard else c.lac }
  c.lacStateTick n

/-- The output side of entry into OFF (R241, R282, R395, R406): the queue and the rows of Table 10.2 end, the clamps are not
armed, the safe range's pattern is driven, and both sets of state slots are cleared. -/
def Channel.silence (c : Channel) : Channel :=
  let c := c.abandonRange
  { c with
    out := { c.out with queue := [], queueLevel := 0, enabling := false, holdTick := false, fastHeld := false,
                        clrHeld := false, clrKeep := false, faultHold := false }
    clamp := { c.clamp with trippedV := false, trippedI := false, seen := false, armed := false, pstDropped := false }
    slots := { c.slots with s := Vector.replicate 16 0, outerS := Vector.replicate 16 0 }
    loop := { c.loop with first := false, firstOuter := false, outerDue := false, outerLeft := 0, outerOut := 0, lastProg := 0,
                          lacLeft := 0, lacDue := false, tuneDue := false, sampled := false, rsw := false }
    fast := { c.fast with state := .idle, due := [] }
    sp := { c.sp with active := 0, ramp := 0 }
    powerCount := 0 }

/-- The channel enters OFF (R241, R252, R253): every request, sequence and ramp in progress is abandoned. ADC B keeps its
arrangement to the next tick boundary (R347). -/
def enterOff (s : State) (n : Ch) (why : OffReason) : State :=
  let was := (s.chan n).mode.mode
  let s := if was == .off then s else listCut s n 7
  let s := setMode s n .off
  let s := s.modCh n fun c =>
    let c : Channel :=
      ({ c with mode := { c.mode with target := .off, status := .stable, pending := none, offNow := false, overrunDue := false,
                                      limitRampDue := false, enable := none, romPi := false,
                                      offReason := if was == .off then c.mode.offReason else why } } : Channel).silence
    -- a calibration capture of a channel that already is in OFF sees no change of mode (R369)
    let c := if was == .off then c else c.modeLeft n
    if s.clocksRun then c else c.setMeterIl false
  freeLock s n

/-- The fault action in force (R389): with FAULT_ACT 1 the clear code is held. -/
def Channel.faultAction (c : Channel) : Channel :=
  ({ c with out := { c.out with faultHold := c.actSp.faultAct == 1 } } : Channel).present

/-- A TRIP on a channel (R252). -/
def tripChannel (s : State) (n : Ch) : State :=
  (enterOff s n .trip).modCh n fun c =>
    ({ c with mode := { c.mode with offReason := .trip } } : Channel).faultAction

/-- Every channel goes to OFF at an entry into a device state other than RUN, with or without its fault action (R253, R389,
R80). -/
def allOff (s : State) (fault : Bool) : State :=
  forEach allCh s fun s n =>
    let s := enterOff s n .deviceState
    if fault then s.modCh n Channel.faultAction else s

/-! ### Bumpless entry (R242, R281, R282) -/

/-- The stored set-point that a mode uses (Table 6.1), if it uses one of SP_V and SP_I: whether it is SP_I, and its value. -/
def Channel.storedSp (c : Channel) (m : Mode) : Option (Bool × F32) :=
  match m with
  | .fv => some (false, c.sp.v)
  | .fi => some (true, c.sp.i)
  | .tune => some (if c.mode.forceKind = 1 then (true, c.sp.i) else (false, c.sp.v))
  | _ => none

/-- The state slots cleared where the inner program changes or TUNE starts (R282). -/
def Channel.clearSlots (c : Channel) : Channel := { c with slots := { c.slots with s := Vector.replicate 16 0 } }

/-- The number of the inner program that runs now: ROM PI after R251 until the mode is left. -/
def Channel.runsNow (c : Channel) : Byte := if c.mode.romPi then 0x01 else runsProg c.actProg c.mode.mode

/-- The set-point in force at a bumpless entry (Table 6.4); `aux` is the latest voltage of the follow input. -/
def Channel.entrySp (c : Channel) (aux : F32) : Channel :=
  match c.mode.mode with
  | .fv | .fi | .tune => (match c.storedSp c.mode.mode with
    | some (_, x) => c.setSp (f32To64 x)
    | none => c)
  | .fvProfile | .fiProfile => c.profStart
  | .follow =>
    if c.fol.shape then c.profStart
    else
      let f := if c.fol.src = 0 then { c.fol with q := f32To64 aux } else c.fol
      ({ c with fol := f } : Channel).setSp f.setPoint
  | .nested =>
    { c with
      slots := { c.slots with outerS := Vector.replicate 16 0 }
      loop := { c.loop with firstOuter := true, outerDue := true, outerLeft := 0,
                            outerOut := ((f32Val c.sp.active).div c.forcedFs).toQ30 } }
  | _ => c

/-- The rate estimator of a channel that leaves OFF begins with this tick's sample alone and a set-point of 0 (R311 to
R313). -/
def Channel.rateFromOff (c : Channel) : Channel :=
  { c with rate := { samples := [c.last.v], w := c.rate.w, still := 1, restart := false } }

/-- The requested mode is entered bumpless (R242, R281): FIRST is set for its first run, the state is cleared where the
program changes, the rate estimator restarts where the forced quantity changes, and the following-error monitor where the
new mode adds it (R243). -/
def enterMode (s : State) (n : Ch) (m : Mode) : State :=
  let old := s.chan n
  let s := if old.mode.mode.lists then listCut s n 7 else s
  let s := setMode s n m
  let s := s.modCh n fun c =>
    let c : Channel :=
      { c with mode := { c.mode with target := m, status := .stable, pending := none, enable := none, romPi := false },
               loop := { c.loop with first := true, outerDue := false, outerLeft := 0 } }
    let c := if old.runsNow != c.runsNow || m == .tune then c.clearSlots else c
    let c : Channel := if old.forcesI != c.forcesI then { c with rate := { c.rate with restart := true } } else c
    let c : Channel := if m.listed && !old.mode.mode.listed then { c with mark := { c.mark with feCount := 0 } } else c
    let c : Channel := if m == .tune then { c with tune := c.tune.start n } else c
    let c : Channel := { c with rng := { c.rng with bridge := c.forcesI && (c.rng.phase == .make || c.rng.phase == .break_) } }
    (c.entrySp (s.aux.volts c.actSp.folAux).toF32).modeLeft n
  let s := superviseAgain (auxEntry s n) n
  let w := (s.chan n).sweep
  if m.lists && w.listAuto && w.listRing != 0xFFFF then listBegin s n else s

/-! ### The safe ramp (R247 to R251) -/

/-- The ramp starts: the source, the outer loop, TUNE and LAC stop, and the list ends (R247, R453). -/
def startRamp (s : State) (n : Ch) (target : Mode) (why : OffReason) : State :=
  let s := listCut s n 7
  s.modCh n fun c =>
    let c : Channel :=
      { c with mode := { c.mode with status := .safeRamp, target := target, rampReason := why, pending := none,
                                     rampBase := c.sp.ramp, rampTicks := 0, rampRate := 0, rampPer := 0 }
               loop := { c.loop with outerDue := false, outerLeft := 0 }
               tune := { c.tune with inject := 0 }
               hold := {} }
    c.lacStateTick n

/-- RAMP_V or RAMP_I, as the ramp's phase uses it. -/
def Channel.rampRate (c : Channel) : F32 := if c.forcesI then c.mode.rampI else c.mode.rampV

/-- The set-point after one more tick of the ramp: k ticks after its base value at one rate it has moved k steps toward zero,
computed exactly and rounded once (R247). -/
def Channel.rampMove (c : Channel) (n : Nat) : Channel :=
  let m := c.mode
  let rate := c.rampRate
  let same := m.rampRate == rate && m.rampPer == n
  let base := if same then m.rampBase else c.sp.ramp
  let k := if same then m.rampTicks + 1 else 1
  let way := ((f32Val rate).mul (periodQ n)).mul (Q.ofNat k)
  let b := f64Val base
  let sp : F64 :=
    if b.abs.le way then 0 else if b.sign < 0 then (b.add way).toF64 else (b.sub way).toF64
  ({ c with mode := { m with rampBase := base, rampTicks := k, rampRate := rate, rampPer := n } } : Channel).setSp sp

/-- IDLE is entered during the ramp: with its set-point at 0, or at LAST_V after a current-forcing mode (R247, R248). -/
def rampToIdle (s : State) (n : Ch) : State :=
  let old := s.chan n
  let s := if old.mode.mode.lists then listCut s n 7 else s
  let s := setMode s n .idle
  s.modCh n fun c =>
    let sp : F64 := if old.forcesI then f32To64 c.last.v else 0
    let c : Channel :=
      { c with mode := { c.mode with romPi := false, rampBase := sp, rampTicks := 0, rampRate := 0, rampPer := 0 }
               loop := { c.loop with first := true }
               rng := { c.rng with bridge := false } }
    let c := if old.runsNow != 0x01 then c.clearSlots else c
    let c : Channel := if old.forcesI then { c with rate := { c.rate with restart := true } } else c
    (c.setSp sp).modeLeft n

/-- One tick of a safe ramp (R247). -/
def rampTick (s : State) (n : Ch) : State :=
  let c := s.chan n
  if c.mode.status != .safeRamp || isZero64 c.sp.ramp && c.mode.mode == .idle then s
  else
    let s := s.modCh n fun c => c.rampMove (s.engine n.engine).nActive
    if isZero64 (s.chan n).sp.ramp && c.mode.mode != .idle then rampToIdle s n else s

/-- RAMP_LEFT: the ticks that the present set-point takes at the present rate, as a time (R249). -/
def rampLeft (s : State) (n : Ch) : F32 :=
  let c := s.chan n
  let t := periodQ (s.engine n.engine).nActive
  if c.mode.status == .safeRamp then
    ((Q.ofInt ((f64Val c.sp.ramp).abs.div ((f32Val c.rampRate).mul t)).ceil).mul t).toF32
  else 0

/-- MODE_MASK permits a mode (R171). -/
def Channel.permits (c : Channel) (m : Mode) : Bool := c.lim.modeMask.getLsbD m.toNat

/-- IDLE at 0 V is reached with nothing more to run: the channel stays there, or goes to OFF where that is its target or
MODE_MASK forbids IDLE (R187, R249, R250). -/
def settleIdle (s : State) (n : Ch) (why : OffReason) : State :=
  let c := s.chan n
  if c.mode.target == .off || !c.permits .idle then enterOff s n why
  else
    freeLock (s.modCh n fun c =>
      ({ c with mode := { c.mode with status := .stable, target := .idle, enable := none } } : Channel).lacStateTick n) n

/-- SAFE_RAMP_END: IDLE's set-point has reached 0 (R249). -/
def execSafeRampEnd (n : Ch) (s : State) : Host.Outcome State Fault Refusal :=
  let c := s.chan n
  .next (if c.mode.status == .safeRamp && c.mode.mode == .idle && isZero64 c.sp.ramp then settleIdle s n c.mode.rampReason
    else s)

/-! ### Applying a request (R238, R240, R246) -/

/-- METER is entered from OFF: ADC B goes to the voltage input, nothing is driven, and the clamps are armed (R228, R246). -/
def enterMeter (s : State) (n : Ch) : State :=
  (setMode s n .meter).modCh n fun c =>
    let c : Channel :=
      { c with mode := { c.mode with target := .meter, status := .stable, pending := none }
               clamp := { c.clamp with armed := true }
               out := { c.out with faultHold := false }
               osc := c.osc.restart c.actSp }
    ((c.setMeterIl true).rateFromOff.loadThr.modeLeft n)

/-- MODE_CHANGE_APPLY: at a tick boundary an accepted change takes effect; one out of OFF into a sourcing mode begins with
ENABLE_START instead (R238, R244). One that waits for a range change takes effect at the first boundary after the switch. An
accepted OFF_NOW acts at the same boundary (R241). -/
def applyMode (s : State) (n : Ch) : State :=
  let c := s.chan n
  if c.mode.offNow then enterOff s n .offNow
  else match c.mode.pending with
    | none => s
    | some m =>
      if c.waitsRange || c.mode.status == .waitRange && c.loop.rsw then s
      else match c.mode.mode, m with
        | .off, .meter => enterMeter s n
        | .off, _ => s
        | .meter, _ | .idle, .off => (enterOff s n .modeRequest).modCh n fun c => c.setMeterIl false
        | _, .off => superviseAgain (startRamp s n .off .modeRequest) n
        | _, .idle => superviseAgain (startRamp s n .idle .instructor) n
        | _, m => enterMode s n m

/-- MODE_CHANGE_APPLY. -/
def execModeChangeApply (n : Ch) (s : State) : Host.Outcome State Fault Refusal := .next (applyMode s n)

/-! ### Enabling (R244, Table 6.5) -/

/-- ENABLE_START: T0. CLR_n, if it is low, holds the channel as soon as it is driven (R387). -/
def execEnableStart (n : Ch) (s : State) : Host.Outcome State Fault Refusal :=
  let c := s.chan n
  match c.mode.mode, c.mode.pending with
  | .off, some m =>
    if m == .off || m == .meter || !s.running then .next s
    else
      let s := setMode s n .idle
      .next (s.modCh n fun c =>
        let c : Channel :=
          { c with
            mode := { c.mode with status := .enabling, target := m, pending := none, enable := some .started,
                                  rampReason := .instructor }
            out := { c.out with queue := [], queueLevel := 0, enabling := true, faultHold := false, code := c.zeroCode,
                                clrHeld := c.actSp.clrEn && !s.trig.clrN }
            clamp := { c.clamp with armed := true }
            osc := c.osc.restart c.actSp
            fe := { c.fe with count := 0 }
            powerCount := 0 }
        ((c.rateFromOff.setSp 0).loadThr.modeLeft n).show)
  | _, _ => .next s

/-- ENABLE_STAGE_ON: one period after T0, PSTn_EN rises. -/
def execEnableStageOn (n : Ch) (s : State) : Host.Outcome State Fault Refusal :=
  .next (s.modCh n fun c =>
    if c.mode.enable == some .started then { c with mode := { c.mode with enable := some .stageOn } } else c)

/-- ENABLE_LOOP_CLOSE: the loop closes in IDLE at 0 V, bumpless; the sequence ends here where IDLE is the target. -/
def execEnableLoopClose (n : Ch) (s : State) : Host.Outcome State Fault Refusal :=
  let c := s.chan n
  if c.mode.enable == some .stageOn then
    let s := s.modCh n fun c =>
      ({ c with mode := { c.mode with enable := some .loopClosed }, out := { c.out with enabling := false },
                loop := { c.loop with first := true } } : Channel).clearSlots.show
    .next (if c.mode.target == .idle || c.mode.target == .off then settleIdle s n c.mode.rampReason else s)
  else .next s

/-- ENABLE_MODE_ENTRY: one tick later the requested mode is entered. -/
def execEnableModeEntry (n : Ch) (s : State) : Host.Outcome State Fault Refusal :=
  let c := s.chan n
  .next (if c.mode.enable == some .loopClosed && c.mode.target.works then enterMode s n c.mode.target else s)

/-! ### Revocation (R187) -/

/-- A channel's lock is revoked: the owner goes, the epoch rises, and the channel ramps to IDLE; the lock is FREE at once where
nothing has to ramp. -/
def revoke (s : State) (n : Ch) : State :=
  let s := s.modCh n fun c =>
    { c with lock := { kind := .none, session := 0, epoch := c.lock.epoch + 1, state := .ramping } }
  let s := { s with trust := { s.trust with revocations := s.trust.revocations.inc } }
  let s := raiseEvent s evMgmt 0 (n.val + 65536 * (s.chan n).lock.epoch.toNat)
  let c := s.chan n
  match c.mode.mode with
  | .off => freeLock (s.modCh n fun c => { c with mode := { c.mode with pending := none } }) n
  | .meter => enterOff s n .revocation
  | m =>
    match c.mode.status with
    | .enabling =>
      let s := s.modCh n fun c =>
        { c with mode := { c.mode with target := .idle, pending := none, rampReason := .revocation } }
      if c.mode.enable == some .loopClosed then settleIdle s n .revocation else s
    | .safeRamp => s.modCh n fun c => { c with mode := { c.mode with target := .idle, rampReason := .revocation } }
    | _ =>
      if m == .idle then
        settleIdle (s.modCh n fun c => { c with mode := { c.mode with target := .idle, pending := none, status := .stable } })
          n .revocation
      else startRamp s n .idle .revocation

/-! ### Limit changes (R173) -/

/-- Mode and programs are permitted by the limits (R171, R172). -/
def Channel.modeOk (c : Channel) (m : Mode) : Bool := c.permits m && classesOk c.prog c.lim.progClasses m

/-- What changed limits bring at the tick boundary: a mode or program they forbid is left. -/
def limitTick (s : State) (n : Ch) : State :=
  let c := s.chan n
  if !c.mode.limitRampDue then s
  else
    let s := s.modCh n fun c => { c with mode := { c.mode with
      limitRampDue := false
      pending := match c.mode.pending with
        | some m => if c.modeOk m then some m else none
        | none => none
      status := match c.mode.status, c.mode.pending with
        | .waitRange, some m => if c.modeOk m then .waitRange else .stable
        | x, _ => x } }
    match c.mode.mode, c.mode.status with
    | .off, _ => s
    | .meter, _ => if c.permits .meter then s else enterOff s n .instructor
    | _, .enabling =>
      if c.mode.target == .off || c.modeOk c.mode.target then s
      else
        let s := s.modCh n fun c => { c with mode := { c.mode with target := .idle, rampReason := .instructor } }
        if c.mode.enable == some .loopClosed then settleIdle s n .instructor else s
    | _, .safeRamp => s
    | .idle, _ => if c.permits .idle then s else enterOff s n .instructor
    | m, _ => if c.modeOk m then s else startRamp s n .idle .instructor

/-- A channel's limits change: the clamps and the mode follow at the next tick boundary, or at once while no clock runs
(R173, R649). -/
def changeLimits (s : State) (n : Ch) (f : Limits → Limits) : State :=
  let s := s.setCh n fun c => { c with lim := f c.lim, mode := { c.mode with limitRampDue := true } }
  if s.clocksRun then s else limitTick s n

/-! ### Faults of a channel -/

/-- OVERRUN_FALLBACK: LOOP_OVERRUN stood at ERROR (R251). A ramp that already runs goes on. -/
def execOverrunFallback (n : Ch) (s : State) : Host.Outcome State Fault Refusal :=
  let c := s.chan n
  if c.mode.overrunDue then
    let s := s.modCh n fun c => { c with mode := { c.mode with overrunDue := false } }
    if !c.mode.mode.works then .next s
    else
      let s := s.modCh n fun c =>
        let c' : Channel := { c with mode := { c.mode with romPi := true }, loop := { c.loop with first := true } }
        if c.runsNow != 0x01 then c'.clearSlots else c'
      .next (if c.mode.status == .safeRamp then s else superviseAgain (startRamp s n .idle .instructor) n)
  else .next s

/-- |LAST_V · LAST_I| is above P_MAX (R170). -/
def Channel.overPower (c : Channel) : Bool :=
  (f32Val c.lim.pMax).lt (((f32Val c.last.v).mul (f32Val c.last.i)).abs)

/-- The P_MAX count at a tick: not in OFF and METER (R231). -/
def Channel.powerTick (c : Channel) : Channel :=
  { c with powerCount := if c.sources && c.overPower then Nat.min (c.powerCount + 1) 16 else 0 }

/-- POWER_LIMIT_EXCEEDED: 16 consecutive ticks lay above P_MAX. -/
def execPowerLimitExceeded (n : Ch) (s : State) : Host.Outcome State Fault Refusal :=
  let c := s.chan n
  if 16 ≤ c.powerCount then
    let p := (((f32Val c.last.v).mul (f32Val c.last.i)).abs.mul (Q.ofNat 100)).floor.toNat
    let s := s.modCh n fun c => { c with powerCount := 0 }
    .next (sendMsg s (srcCh n) 0x60 .trip (Nat.min p 0xFFFFFF))
  else .next s

/-! ### The request (R236, Table 6.2) -/

/-- The channel's last TRIP message is unacknowledged in Badger: the newest history entry of it, or an open slot where the
history no longer holds one. -/
def tripOpen (s : State) (n : Ch) : Bool :=
  match s.badger.history.find? fun h => h.msg.source == srcCh n && h.level == .trip with
  | some h => !h.acked
  | none => s.badger.slots.any fun x => x.source == srcCh n && decide (3 ≤ x.level.toNat)

/-- The request is for the mode the channel is in, with nothing under way (R237). -/
def Channel.already (c : Channel) (v : Nat) : Bool := c.mode.mode.toNat == v && c.mode.status == .stable

/-- A set-point lies within ±I_FS of the active range (R234). -/
def Channel.withinRange (c : Channel) (x : F32) : Bool := ((f32Val x).abs).le (c.iFs c.range)

/-- Step 5 of Table 6.2 on the state that the request or its group would produce. -/
def modeRangeOk (c : Channel) (v : Nat) : Bool :=
  match modeOf v with
  | none => false
  | some m => (match c.storedSp m with
    | some (true, x) => c.already v || c.withinRange x
    | _ => true)

/-- Table 6.3 from where the channel stands: during a safe ramp from the mode being left or from the ramp's target, and to
OFF at any time of enabling. -/
def ModeSt.mayGo (m : ModeSt) (b : Mode) : Bool :=
  permitted m.mode b || (m.status == .safeRamp && permitted m.target b) || (m.status == .enabling && b == .off)

/-- Step 9 of Table 6.2. -/
def modeStateCode (s : State) (n : Ch) (v : Nat) : Byte :=
  let c := s.chan n
  let leaves := c.mode.mode == .off && v != 0
  if !s.running then eState
  else if v != 0 && !c.already v && !s.dev.refReady then eNotReady
  else if (c.mode.status == .enabling || c.mode.status == .safeRamp) && v != 0 then eNotReady
  else if leaves && tripOpen s n then eNotReady
  else eOk

/-- Step 10 of Table 6.2. -/
def modeInstrOk (c : Channel) (v : Nat) : Bool :=
  c.already v ||
    match modeOf v with
    | none => false
    | some m => c.permits m && classesOk c.prog c.lim.progClasses m &&
      (match c.storedSp m with
       | some (i, x) => ((f32Val x).abs).le (f32Val (if i then c.lim.iMax else c.lim.vMax))
       | none => true)

/-- An accepted request (R237, R238, R250). -/
def acceptMode (s : State) (n : Ch) (m : Mode) : State :=
  let c := s.chan n
  if c.already m.toNat then s
  else if c.mode.status == .safeRamp then
    s.modCh n fun c => { c with mode := { c.mode with target := .off, rampReason := .modeRequest } }
  else
    admitSet (s.modCh n fun c => { c with mode := { c.mode with
      pending := some m
      status := if c.mode.status == .enabling then .enabling else if c.rangeRuns then .waitRange else c.mode.status
      switched := !c.rangeRuns && c.mode.status == .waitRange && c.mode.switched
      target := if c.mode.status == .enabling || c.mode.status == .waitRange || c.rangeRuns then m else c.mode.target } }) n.engine

/-- MODE (R236, Table 6.2). -/
def objMode (n : Ch) : Obj :=
  { ty := tU8, acc := .rws, scope := fun _ => .chan n
    read := fun _ s => natBytes 1 (s.chan n).mode.mode.toNat
    range := fun w => modeRangeOk (w.post.chan n) w.v
    mode := fun w => match modeOf w.v with
      | some m => (w.pre.chan n).already w.v || (w.pre.chan n).mode.mayGo m
      | none => false
    state := fun w => modeStateCode w.seq n w.v
    instr := fun w => modeInstrOk (w.post.chan n) w.v
    env := fun w => if (w.pre.chan n).already w.v || pairFits w.post n.engine then eOk else eBudget
    put := fun w s => match modeOf w.v with
      | some m => acceptMode s n m
      | none => s
    onRefuse := fun _ code s => s.modCh n fun c => { c with mode := { c.mode with lastReject := code } } }

/-- MODE_REQUEST. -/
def execModeRequest (r : Req) (n : Ch) (v : Byte) (s : State) : Host.Outcome State Fault Refusal :=
  .next (perform (objMode n) r tU8 [v] s)

/-- OFF_NOW (R241). -/
def objOffNow (n : Ch) : Obj :=
  chCmd n tU8 (fun w => w.v == 1) fun _ s => s.modCh n fun c =>
    if c.mode.mode == .off then { c with mode := { c.mode with pending := none } }
    else { c with mode := { c.mode with offNow := true } }

/-- OFF_NOW. -/
def execOffNow (r : Req) (n : Ch) (v : Byte) (s : State) : Host.Outcome State Fault Refusal :=
  .next (perform (objOffNow n) r tU8 [v] s)

/-! ### Objects of Table 6.6 -/

/-- SP_V (R233). -/
def objSpV (n : Ch) : Obj :=
  { chF32 n .rws (fWithin (Q.ofInt (-1000)) (Q.ofNat 1000)) (·.sp.v) (fun v c => { c with sp := { c.sp with v := v } }) with
    instr := fun w => w.f.abs.le (f32Val (w.post.chan n).lim.vMax) }

/-- SP_I (R233, R234). -/
def objSpI (n : Ch) : Obj :=
  { chF32 n .rws (fun _ => true) (·.sp.i) (fun v c => { c with sp := { c.sp with i := v } }) with
    range := fun w => fWithin (Q.ofInt (-100)) (Q.ofNat 100) w.f
      && (!(w.post.chan n).forcesI || (w.post.chan n).withinRange w.word)
    instr := fun w => w.f.abs.le (f32Val (w.post.chan n).lim.iMax) }

/-- SP_OUTER (Table 6.6). -/
def objSpOuter (n : Ch) : Obj :=
  { chF32 n .rws (fun _ => true) (·.sp.outer) (fun v c => { c with sp := { c.sp with outer := v } }) with
    range := fun w => match (w.post.chan n).sp.outerQty with
      | 0 => fWithin (Q.ofInt (-100000)) (Q.ofNat 100000) w.f
      | 1 => fWithin ⟨1, 1000⟩ (pow10 9) w.f
      | _ => true
    instr := fun w => (w.post.chan n).sp.outerQty != 0 || w.f.abs.le (f32Val (w.post.chan n).lim.pMax) }

/-- A setting written only in OFF or IDLE (R232). -/
def offOrIdle (n : Ch) (o : Obj) : Obj :=
  { o with mode := fun w => (w.pre.chan n).mode.mode == .off || (w.pre.chan n).mode.mode == .idle }

/-- The mode and set-point objects of a channel by local index and element. -/
def objsMode (n : Ch) (j el : Nat) : Option Obj :=
  match j with
  | 0x00 => match el with
    | 0x01 => some (objMode n)
    | 0x02 => some (chRo n tU8 fun c => c.mode.shownTarget)
    | 0x03 => some (chRo n tU8 fun c => c.mode.status.code)
    | 0x04 => some (offOrIdle n (chNat n tU8 .rws (within 0 1) (·.mode.forceKind)
        fun v c => { c with mode := { c.mode with forceKind := v } }))
    | 0x05 => some (objOffNow n)
    | 0x06 => some (chRo n tU8 fun c => c.mode.offReason.code)
    | 0x07 => some (chRo n tU32 fun c => c.mode.changes.value.toNat)
    | 0x08 => some (chRo n tU8 fun c => c.mode.lastReject.toNat)
    | _ => none
  | 0x01 => match el with
    | 0x01 => some (objSpV n)
    | 0x02 => some (objSpI n)
    | 0x03 => some (objSpOuter n)
    | 0x04 => some (offOrIdle n (chNat n tU8 .rws (within 0 2) (·.sp.outerQty)
        fun v c => { c with sp := { c.sp with outerQty := v } }))
    | 0x05 => some (chRo n tF32 fun c => c.sp.active.toNat)
    | _ => none
  | 0x02 => match el with
    | 0x01 => some (chF32 n .rws (fWithin ⟨1, 1000⟩ (pow10 6)) (·.mode.rampV)
        fun v c => { c with mode := { c.mode with rampV := v } })
    | 0x02 => some (chF32 n .rws (fWithin (pow10 (-9)) (pow10 4)) (·.mode.rampI)
        fun v c => { c with mode := { c.mode with rampI := v } })
    | 0x03 => some
      { chNat n tU16 .rws (within 0 10000) (·.mode.pstSettle) (fun v c => { c with mode := { c.mode with pstSettle := v } }) with
        mode := fun w => (w.pre.chan n).mode.mode == .off }
    | 0x04 => some (roNat tF32 fun s => (rampLeft s n).toNat)
    | _ => none
  | _ => none

end Sys2Proof.Machine
end

