-- ==== Sys2Proof/Machine/Ranges.lean ====
section
/-! DEFINITION. The boundaries of a range change (R397 to R407). -/

namespace Sys2Proof.Machine

/-- The bridge estimate of the terminal current in A from the present voltage, the latest window's (R401). -/
def Channel.bridgeAmps (c : Channel) : Q :=
  let vb := f32Val c.rng.vBr
  let ib := f32Val c.rng.iBr
  if (c.vFs.div (Q.ofNat 256)).le vb.abs then (ib.mul (f32Val c.last.v)).div vb else ib

/-- The change ends: it is counted and raises a SEQ event (Table 10.4, Table 15.7). -/
def rangeEnd (s : State) (n : Ch) : State :=
  let s := s.modCh n fun c =>
    { c with rng := { c.rng with phase := .idle, target := none, changing := false, bridge := false, left := 0,
                                 changes := c.rng.changes.inc },
             mode := { c.mode with switched := true },
             out := { c.out with holdTick := false } }
  raiseEvent s evSeq 8 (n.val + 256 * (s.chan n).range)

/-- What the sequencer does after a change: its own waiting request starts, is found to name the active range, or is
refused; else the step's ranging phase ends (R397, R448). -/
def rangeFollowUp (s : State) (n : Ch) : State :=
  let c := s.chan n
  match c.rng.stepReq with
  | some v =>
    let s := s.modCh n fun c => { c with rng := { c.rng with stepReq := none } }
    let code := rangeCode s n v true
    if code != eOk then listEnd s n 5 code
    else
      let s := s.modCh n fun c => c.acceptRange v
      if (s.chan n).rng.running then s else rangingDone s n
  | none => rangingDone s n

/-- RANGE_MAKE: B0 (Table 10.4, R401, R403, R404). The values of the window that closed at B0 are kept for the bridge. -/
def execRangeMake (n : Ch) (s : State) : Host.Outcome State Fault Refusal :=
  let c := s.chan n
  match c.rng.target, c.rng.phase with
  | some k, .idle =>
    if c.rng.method = 2 || !s.running then .next s
    else
      let hold := c.rng.method = 1
      .next (s.modCh n fun c =>
        let c : Channel :=
          { c.disarm with
            rng := { c.rng with
              phase := (if hold then .hold else .make)
              left := (if hold then 1 else settleTicks (s.engine n.engine).nActive c.decl.rngSettle)
              lastEdge := c.last.tick, iBr := c.last.i, vBr := c.last.v, bridge := !hold && c.forcesI },
            out := { c.out with holdTick := hold } }
        let c := if hold then c else c.feedForward (c.ohms c.range) (parallel (c.ohms c.range) (c.ohms k))
        c.loadThr.show)
  | _, _ => .next s

/-- A LAC update that has not been made is dropped at a range switch: its targets rest on the old bank's bases (R336, DESIGN
CHOICE, log entry 96). -/
def Channel.dropUpdate (c : Channel) : Channel :=
  { c with lac := { c.lac with targets := none }, loop := { c.loop with lacLeft := 0, lacDue := false } }

/-- The new range takes the loop (the B1 row of Table 10.4): the bank and the normalisation, the feed-forward from `ra`, the
threshold; a calibration capture is abandoned (R369), and the TRIGOUT outputs on the channel pulse (Table 10.5). -/
def switchRange (s : State) (n : Ch) (k : Nat) (ra : Q) (phase : RngPhase) : State :=
  let s := s.modCh n fun c =>
    let old := c.range
    let left := if phase == .break_ then settleTicks (s.engine n.engine).nActive c.decl.rngSettle else 0
    let c : Channel :=
      { c with rng := { c.rng with active := some k, changing := false, phase := phase, lastEdge := c.last.tick,
                                   left := left },
               mode := { c.mode with switched := true },
               loop := { c.loop with rsw := true },
               conv := c.conv.abort }
    (((c.switchBank old k).feedForward ra (c.ohms k)).loadThr).dropUpdate
  firePulse s 5 n.val

/-- RANGE_SWITCH: B1 of a make-before-break change. -/
def execRangeSwitch (n : Ch) (s : State) : Host.Outcome State Fault Refusal :=
  let c := s.chan n
  match c.rng.target, c.rng.phase with
  | some k, .make =>
    if c.rng.left = 0 then .next (switchRange s n k (parallel (c.ohms c.range) (c.ohms k)) .break_) else .next s
  | _, _ => .next s

/-- RANGE_BREAK_END: B2. While the bridge ran, BRIDGE_ERR takes the measured current less the estimate (R402). -/
def execRangeBreakEnd (n : Ch) (s : State) : Host.Outcome State Fault Refusal :=
  let c := s.chan n
  if c.rng.phase == .break_ && c.rng.left == 0 then
    let s := s.modCh n fun c =>
      if c.rng.bridge then { c with rng := { c.rng with bridgeErr := (c.currQ.sub c.bridgeAmps).toF32 } } else c
    .next (rangeFollowUp (rangeEnd s n) n)
  else .next s

/-- RANGE_HOLD_SWITCH: the boundary after a hold tick; the whole feed-forward is one addition (R404). -/
def execRangeHoldSwitch (n : Ch) (s : State) : Host.Outcome State Fault Refusal :=
  let c := s.chan n
  match c.rng.target, c.rng.phase with
  | some k, .hold =>
    if c.rng.left = 0 then .next (rangeFollowUp (rangeEnd (switchRange s n k (c.ohms c.range) .idle) n) n) else .next s
  | _, _ => .next s

/-- RANGE_NO_OVERLAP: a change in METER happens whole at B0 (R405). -/
def execRangeNoOverlap (n : Ch) (s : State) : Host.Outcome State Fault Refusal :=
  let c := s.chan n
  match c.rng.target with
  | some k =>
    if c.rng.method = 2 && c.mode.mode == .meter then
      let s := s.modCh n fun c =>
        ({ c with rng := { c.rng with active := some k, lastEdge := c.last.tick }, conv := c.conv.abort,
                  loop := { c.loop with rsw := true } } : Channel).loadThr
      .next (rangeEnd (firePulse s 5 n.val) n)
    else .next s
  | none => .next s

end Sys2Proof.Machine
end

