-- ==== Sys2Proof/Machine/Engine.lean ====
section
/-! DEFINITION. The service of a loop engine (R257 to R269, R281 to R293): the inputs of a run, inner and outer runs, the order
and the cycles of a tick's work, overruns, and the control-law instructions as commands on the run in progress. -/

namespace Sys2Proof.Machine

/-! ### Inputs (Table 7.2, Table 7.3) -/

/-- The wind-up scheme in force: WINDUP, or the mode default of Table 6.1 while it is 0 (R283). -/
def Channel.scheme (c : Channel) : Nat :=
  if c.actProg.windup != 0 then c.actProg.windup
  else match c.mode.mode with
    | .idle | .fv | .fi | .tune => 1
    | _ => 2

/-- The calibrated forced quantity, exact. -/
def Channel.forcedQ (c : Channel) : Q := if c.forcesI then c.currQ else c.voltQ 0 0

/-- The calibrated other quantity, exact. -/
def Channel.otherQ (c : Channel) : Q := if c.forcesI then c.voltQ 0 0 else c.currQ

/-- The forced quantity that the inner program's MEAS shows: the bridge estimate while the bridge runs (R401). -/
def Channel.measQ (c : Channel) : Q := if c.rng.bridge && c.forcesI then c.bridgeAmps else c.forcedQ

/-- AUX: the calibrated value of the follow input over 2.048 V. -/
def auxIn (s : State) (c : Channel) : Q :=
  (if c.usesAux then f32Val c.auxFol.used else s.aux.volts c.actSp.folAux).div q2048

/-- The inputs of the inner program. -/
def innerInputs (s : State) (c : Channel) : Inputs :=
  let bank := c.actCoefs.banks[c.range]?.getD defaultBank
  { sp := ((f64Val c.sp.ramp).div c.forcedFs).toQ30
    meas := (c.measQ.div c.forcedFs).toQ30
    measO := (c.otherQ.div c.otherFs).toQ30
    lastU := c.driveOfCode c.last.code
    aux := (auxIn s c).toQ30
    inject := c.tune.inject
    k := Vector.ofFn fun i => if i.val < 16 then bank[i.val]?.getD 0 else c.actCoefs.shared[i.val - 16]?.getD 0
    scheme := c.scheme
    lo := c.actProg.intMin.toInt
    hi := c.actProg.intMax.toInt }

/-- The outer quantity over OUTER_SCALE, and whether a zero current met it (R287). -/
def outerMeas (s : State) (c : Channel) : Word × Bool :=
  let sc := f32Val c.actProg.outerScale
  let v := c.voltQ 0 0
  let i := c.currQ
  match c.sp.outerQty with
  | 0 => (((v.mul i).div sc).toQ30, false)
  | 1 => if i.isZero then (if v.sign < 0 then 0x80000000 else 0x7FFFFFFF, true) else (((v.div i).div sc).toQ30, false)
  | _ => (((if c.usesAux then f32Val c.auxFol.used else s.aux.volts c.actSp.folAux).div sc).toQ30, false)

/-- The inputs of the outer program. -/
def outerInputs (s : State) (c : Channel) : Inputs :=
  { sp := ((f32Val c.actSp.outer).div (f32Val c.actProg.outerScale)).toQ30
    meas := (outerMeas s c).1
    measO := (c.forcedQ.div c.forcedFs).toQ30
    lastU := c.loop.outerOut
    aux := (auxIn s c).toQ30
    inject := 0
    k := c.actCoefs.outer
    scheme := c.scheme
    lo := c.actProg.ointMin.toInt
    hi := c.actProg.ointMax.toInt }

/-- FLAGS at the start of a run. -/
def Channel.runFlags (c : Channel) (first outer divz : Bool) : Byte :=
  packFlags c.loop.sat c.clamp.tripped (c.mode.status == .safeRamp) first c.loop.rsw outer divz false

/-- The inner program in force (Table 7.1). -/
def Channel.innerList (c : Channel) : List LoopInstr :=
  if c.innerProg = 0x80 then ((c.actProg.userMain.map fun u => u.words.filterMap decodeLoop)).getD []
  else if c.innerProg = 0x02 then romPid else romPi

/-! ### Completed runs (R264, R269, R281) -/

/-- The preset of R281: (`want` − OUT) added to the preset slot, and whether the sum saturated. -/
def presetSlots (v : Vector Word 16) (j : Nat) (want out : Word) : Vector Word 16 × Bool :=
  let sum := (v[j]?.getD 0).toInt + (want.toInt - out.toInt)
  (v.setIfInBounds j (satWord sum), satHit sum)

/-- An inner run completes: the s slots take its copy, and its drive becomes the code pushed into the queue (R264, R269,
R281, R328, R384). -/
def Channel.finishInner (c : Channel) (x : Inputs) (r : Run) : Channel :=
  let (s, hit) := if c.loop.first then presetSlots r.s c.presetSlot x.lastU r.out else (r.s, false)
  let base : Int := if c.loop.first then (c.last.code : Int) else c.codeOfDrive r.out
  let raw := base + c.lacInject
  let code := clampInt 0 262143 raw
  let c : Channel :=
    { c with slots := { c.slots with s := s, t := r.t },
             loop := { c.loop with flags := raiseFlag r.flags flagQsat hit, first := false, sat := code != raw, ovrRun := 0,
                                   lastProg := c.innerProg } }
  c.push code.toNat

/-- An outer run completes: its output is the inner set-point (R281, R286). -/
def Channel.finishOuter (c : Channel) (r : Run) : Channel :=
  let want := ((f32Val c.sp.active).div c.forcedFs).toQ30
  let (s, hit) :=
    if c.loop.firstOuter then presetSlots r.s c.outerPresetSlot want r.out else (r.s, false)
  let c : Channel :=
    { c with slots := { c.slots with outerS := s, outerT := r.t },
             loop := { c.loop with outerOut := if c.loop.firstOuter then want else r.out,
                                   flags := raiseFlag r.flags flagQsat hit, outerRan := true, firstOuter := false, outerDue := false,
                                   outerLeft := c.actProg.outerDiv } }
  c.setSp c.outerSp

/-- The run that an outer step makes. -/
def outerRun (s : State) (c : Channel) : Run :=
  runProgram (outerInputs s c) c.actProg.outerProg c.slots.outerS
    (c.runFlags c.loop.firstOuter false (outerMeas s c).2)

/-- The run that the inner program makes, with the TUNE tail in TUNE (R278, Table 7.1). -/
def innerRun (s : State) (c : Channel) : Run :=
  let x := innerInputs s c
  let r := runProgram x c.innerList c.slots.s (c.runFlags c.loop.first c.loop.outerRan false)
  if c.mode.mode == .tune then runFrom 2 x romTail { r with pc := 0, ended := false } else r

/-! ### A tick's work (R259, R291 to R293) -/

/-- An outer step is due in this tick. -/
def Channel.outerNow (c : Channel) : Bool :=
  c.mode.mode == .nested && c.mode.status != .safeRamp && c.loop.outerDue

/-- The loop is closed: the channel sources, and its enabling sequence has closed the loop. -/
def Channel.loopClosed (c : Channel) : Bool :=
  c.sources && c.mode.enable != some .started && c.mode.enable != some .stageOn

/-- The deadline of a channel in the present tick (R285). -/
def deadlineOf (s : State) (n : Ch) : Nat := (deadline (s.chan n).actProg (s.engine n.engine).nActive).toNat

/-- An outer step as part of the service or on its own. -/
def outerAct (n : Ch) (s : State) : State :=
  let c := s.chan n
  let r := outerRun s c
  (s.modCh n fun c => c.finishOuter r).modEng n.engine fun g =>
    { g with run := { r with odd := n.val % 2 == 1, outer := true, flags := ((s.chan n).finishOuter r).loop.flags } }

/-- One occasional step of the service: it runs if it ends by the deadline, else the deadline stops it (R291). -/
def occasional (d : Nat) (due : Bool) (cost : Nat) (act : State → State) (x : State × Nat × Bool) : State × Nat × Bool :=
  let (s, cyc, late) := x
  if !due || late then x else if cyc + cost ≤ d then (act s, cyc + cost, false) else (s, d, true)

/-- The supervision that takes the tick's inputs and FLAGS: the oscillation detector (R316), the LAC correlator (R329) and
the TUNE capture (R322). -/
def superviseTick (s : State) (n : Ch) (x : Inputs) (flags : Byte) (ran : Bool) : State :=
  let compl := flags.getLsbD flagCompl
  let rsw := flags.getLsbD flagRsw
  let sat := flags.getLsbD flagSat
  s.modCh n fun c =>
    let c : Channel :=
      { c with osc := c.osc.tick c.actSp (x.sp.toInt - x.meas.toInt) (compl || rsw)
                 (if c.mode.mode == .tune then some c.tune.ampNow else none)
               loop := { c.loop with sampled := false } }
    let c := c.lacSample (compl || sat || rsw || flags.getLsbD flagRamp)
    if c.mode.mode == .tune && c.mode.status == .stable then
      if ran then
        let (t, full) := c.tune.advance n compl sat x.meas x.measO
        { c with tune := t, loop := { c.loop with tuneDue := c.loop.tuneDue || full } }
      else
        let t := { c.tune with tick := c.tune.tick + 1, lfsr := lfsrStep c.tune.lfsr }
        { c with tune := { t with inject := t.sample } }
    else c

/-- An overrun of a channel whose service began at `start`: the previous output stands (R291, R292). The supervisors
evaluate the tick first, and what they report precedes LOOP_OVERRUN (R337). -/
def overrun (s : State) (n : Ch) (x : Inputs) (flags : Byte) (start stop : Nat) : State :=
  let third := decide (2 ≤ (s.chan n).loop.ovrRun)
  let s := s.modCh n fun c =>
    ({ c with loop := { c.loop with ovrCount := c.loop.ovrCount.inc, ovrRun := if third then 0 else c.loop.ovrRun + 1,
                                    sat := false, lastCycles := stop - start, lastStart := start } } : Channel).push c.last.code
  let s := superviseTick (raiseEvent s evSeq 4 n.val) n x flags false
  if third then sendMsg (oscReport (feReport s n) n) (srcCh n) 0x90 .error (stop - start) else s

/-- The end of a service at cycle `stop`: PEAK_LOAD and the engine's position (R293). -/
def served (s : State) (e : Eng) (stop : Nat) : State :=
  s.modEng e fun g => { g with cycle := stop, peakLoad := Nat.max g.peakLoad stop }

/-- The occasional steps and the inner run of one channel from cycle `cyc` on, and the cycle at which its service ends. -/
def serveChannel (s : State) (n : Ch) (cyc : Nat) : State × Nat :=
  let c := s.chan n
  if c.out.holdTick then
    -- R404: no program runs, and LAST_CODE is presented again
    let s := s.modCh n fun c => ({ c with loop := { c.loop with sat := false } } : Channel).push c.last.code
    (superviseTick s n (innerInputs s c) (c.runFlags c.loop.first false false) false, cyc)
  else
    let d := deadlineOf s n
    let per := (s.engine n.engine).nActive
    let x := (s, cyc + c.loop.extra, false)
    let x := occasional d c.outerNow (c.actProg.outerWcet + 24) (outerAct n) x
    let x := occasional d c.loop.lacDue 64 (fun s => s.modCh n fun c => c.lacUpdate per) x
    let (s, at_, late) := occasional d c.loop.tuneDue 40 (fun s => closeSegment s n) x
    let s := s.modCh n fun c => if c.loop.lastProg != 0 && c.loop.lastProg != c.innerProg then c.clearSlots else c
    let c := s.chan n
    let inp := innerInputs s c
    let r := innerRun s c
    let stop := at_ + 10 + r.cycles
    if late || d < stop then
      (served (overrun s n inp (c.runFlags c.loop.first c.loop.outerRan false) cyc d) n.engine d, d)
    else
      let s := s.modCh n fun c =>
        let c := c.finishInner inp r
        { c with loop := { c.loop with lastCycles := stop - cyc, lastStart := cyc } }
      let s := s.modEng n.engine fun g => { g with run := { r with odd := n.val % 2 == 1, outer := false } }
      (served (superviseTick s n inp (c.runFlags c.loop.first c.loop.outerRan false) true) n.engine stop, stop)

/-- The channel's samples wait for a run that this tick makes. -/
def Channel.awaits (c : Channel) : Bool := c.loop.sampled && c.loopClosed

/-- The number of occasional steps due in the tick, those that have run in it on their own among them (R259). -/
def Channel.stepsDue (c : Channel) : Nat := c.loop.stepsRun + bNat c.outerNow + bNat c.loop.lacDue + bNat c.loop.tuneDue

/-- Slot 1 is served before slot 0 (R259). -/
def oddFirst (s : State) (e : Eng) : Bool :=
  let d0 := deadlineOf s e.slot0
  let d1 := deadlineOf s e.slot1
  decide (d1 < d0) || (d0 == d1 && decide ((s.chan e.slot1).stepsDue < (s.chan e.slot0).stepsDue))

/-- One channel of the pair in its turn. -/
def serveTurn (n : Ch) (x : State × Nat) : State × Nat :=
  if (x.1.chan n).awaits then serveChannel x.1 n x.2
  else if (x.1.chan n).loop.sampled && (x.1.chan n).sources then
    let c := x.1.chan n
    (superviseTick x.1 n (innerInputs x.1 c) (c.runFlags false false false) false, x.2)
  else x

/-- ENGINE_SERVICE: cycle 84 of a tick. -/
def engineService (s : State) (e : Eng) : State :=
  let start := Nat.max 84 (s.engine e).cycle
  if oddFirst s e then (serveTurn e.slot0 (serveTurn e.slot1 (s, start))).1
  else (serveTurn e.slot1 (serveTurn e.slot0 (s, start))).1

/-- ENGINE_SERVICE: the engines stop with their clock (R83). -/
def execEngineService (e : Eng) (s : State) : Host.Outcome State Fault Refusal :=
  .next (if s.clocksRun then engineService s e else s)

/-- OUTER_STEP: an outer step that is due, on its own (R286). -/
def execOuterStep (n : Ch) (s : State) : Host.Outcome State Fault Refusal :=
  let c := s.chan n
  if s.clocksRun && c.awaits && c.outerNow && !c.out.holdTick then
    .next ((outerAct n s).modCh n fun c =>
      { c with loop := { c.loop with extra := c.loop.extra + c.actProg.outerWcet + 24, stepsRun := c.loop.stepsRun + 1 } })
  else .next s

/-- DEADLINE_OVERRUN: a channel's deadline arrives before its inner run has ended (R291). -/
def execDeadlineOverrun (n : Ch) (s : State) : Host.Outcome State Fault Refusal :=
  let c := s.chan n
  if s.clocksRun && c.awaits && !c.out.holdTick then
    let start := Nat.max 84 (s.engine n.engine).cycle
    let d := Nat.max start (deadlineOf s n)
    .next (served (overrun s n (innerInputs s c) (c.runFlags c.loop.first c.loop.outerRan false) start d) n.engine d)
  else .next s

/-! ### Single instructions (Table 7.5) -/

/-- The channel of an engine's run. -/
def runCh (s : State) (e : Eng) : Ch := if (s.engine e).run.odd then e.slot1 else e.slot0

/-- The inputs of an engine's run. -/
def runInputs (s : State) (e : Eng) : Inputs :=
  let c := s.chan (runCh s e)
  if (s.engine e).run.outer then outerInputs s c else innerInputs s c

/-- The run that an instruction works on: the one in progress, or after an END a fresh run of the same program (R268,
R269). -/
def runOf (s : State) (e : Eng) : Run :=
  let r := (s.engine e).run
  if r.ended then
    let c := s.chan (runCh s e)
    { odd := r.odd, outer := r.outer, out := (runInputs s e).lastU
      s := if r.outer then c.slots.outerS else c.slots.s
      flags := if r.outer then c.runFlags c.loop.firstOuter false (outerMeas s c).2
        else c.runFlags c.loop.first c.loop.outerRan false }
  else r

/-- One instruction executed on the run of an engine, which stops with its clock (R83); a word with illegal fields is in no
program (R272), so it executes nothing. -/
def leStep (i : LoopInstr) (f : Run → Run) (e : Eng) (s : State) : State :=
  if s.clocksRun && i.wf then s.modEng e fun g => { g with run := f (runOf s e) } else s

def execLeNop (e : Eng) (s : State) : Host.Outcome State Fault Refusal := .next (leStep .nop runNop e s)

def execLeMov (e : Eng) (d a : Opnd) (s : State) : Host.Outcome State Fault Refusal :=
  .next (leStep (.mov d a) (runMov (runInputs s e) d a) e s)

def execLeAdd (e : Eng) (d a b : Opnd) (s : State) : Host.Outcome State Fault Refusal :=
  .next (leStep (.add d a b) (runAdd (runInputs s e) d a b) e s)

def execLeSub (e : Eng) (d a b : Opnd) (s : State) : Host.Outcome State Fault Refusal :=
  .next (leStep (.sub d a b) (runSub (runInputs s e) d a b) e s)

def execLeMul (e : Eng) (d a b : Opnd) (s : State) : Host.Outcome State Fault Refusal :=
  .next (leStep (.mul d a b) (runMul (runInputs s e) d a b) e s)

def execLeMac (e : Eng) (a b : Opnd) (s : State) : Host.Outcome State Fault Refusal :=
  .next (leStep (.mac a b) (runMac (runInputs s e) a b) e s)

def execLeMsu (e : Eng) (a b : Opnd) (s : State) : Host.Outcome State Fault Refusal :=
  .next (leStep (.msu a b) (runMsu (runInputs s e) a b) e s)

def execLeClra (e : Eng) (s : State) : Host.Outcome State Fault Refusal := .next (leStep .clra runClra e s)

def execLeLda (e : Eng) (a : Opnd) (s : State) : Host.Outcome State Fault Refusal :=
  .next (leStep (.lda a) (runLda (runInputs s e) a) e s)

def execLeSta (e : Eng) (d : Opnd) (s : State) : Host.Outcome State Fault Refusal := .next (leStep (.sta d) (runSta d) e s)

def execLeMin (e : Eng) (d a b : Opnd) (s : State) : Host.Outcome State Fault Refusal :=
  .next (leStep (.min d a b) (runMin (runInputs s e) d a b) e s)

def execLeMax (e : Eng) (d a b : Opnd) (s : State) : Host.Outcome State Fault Refusal :=
  .next (leStep (.max d a b) (runMax (runInputs s e) d a b) e s)

def execLeLim (e : Eng) (d a b : Opnd) (s : State) : Host.Outcome State Fault Refusal :=
  .next (leStep (.lim d a b) (runLim (runInputs s e) d a b) e s)

def execLeAbs (e : Eng) (d a : Opnd) (s : State) : Host.Outcome State Fault Refusal :=
  .next (leStep (.abs d a) (runAbs (runInputs s e) d a) e s)

def execLeNeg (e : Eng) (d a : Opnd) (s : State) : Host.Outcome State Fault Refusal :=
  .next (leStep (.neg d a) (runNeg (runInputs s e) d a) e s)

def execLeShl (e : Eng) (d a : Opnd) (imm : Byte) (s : State) : Host.Outcome State Fault Refusal :=
  .next (leStep (.shl d a imm) (runShl (runInputs s e) d a imm) e s)

def execLeShr (e : Eng) (d a : Opnd) (imm : Byte) (s : State) : Host.Outcome State Fault Refusal :=
  .next (leStep (.shr d a imm) (runShr (runInputs s e) d a imm) e s)

def execLeDiv (e : Eng) (d a b : Opnd) (s : State) : Host.Outcome State Fault Refusal :=
  .next (leStep (.div d a b) (runDiv (runInputs s e) d a b) e s)

def execLeIntg (e : Eng) (d a b : Opnd) (s : State) : Host.Outcome State Fault Refusal :=
  .next (leStep (.intg d a b) (runIntg (runInputs s e) d a b) e s)

def execLeBqd (e : Eng) (d a b : Opnd) (imm : Byte) (s : State) : Host.Outcome State Fault Refusal :=
  .next (leStep (.bqd d a b imm) (runBqd (runInputs s e) d a b imm) e s)

def execLeLdi (e : Eng) (d : Opnd) (imm : Byte) (s : State) : Host.Outcome State Fault Refusal :=
  .next (leStep (.ldi d imm) (runLdi d imm) e s)

def execLeBneg (e : Eng) (a : Opnd) (imm : Byte) (s : State) : Host.Outcome State Fault Refusal :=
  .next (leStep (.bneg a imm) (runBneg (runInputs s e) a imm) e s)

def execLeBpos (e : Eng) (a : Opnd) (imm : Byte) (s : State) : Host.Outcome State Fault Refusal :=
  .next (leStep (.bpos a imm) (runBpos (runInputs s e) a imm) e s)

def execLeBz (e : Eng) (a : Opnd) (imm : Byte) (s : State) : Host.Outcome State Fault Refusal :=
  .next (leStep (.bz a imm) (runBz (runInputs s e) a imm) e s)

def execLeBnz (e : Eng) (a : Opnd) (imm : Byte) (s : State) : Host.Outcome State Fault Refusal :=
  .next (leStep (.bnz a imm) (runBnz (runInputs s e) a imm) e s)

def execLeBfs (e : Eng) (b : Opnd) (imm : Byte) (s : State) : Host.Outcome State Fault Refusal :=
  .next (leStep (.bfs b imm) (runBfs b imm) e s)

def execLeJmp (e : Eng) (imm : Byte) (s : State) : Host.Outcome State Fault Refusal :=
  .next (leStep (.jmp imm) (runJmp imm) e s)

/-- END: the run ends, and its copy replaces the s slots (R269). A channel whose loop is closed takes the drive of the run. The
engine stops with its clock (R83). -/
def execLeEnd (e : Eng) (s : State) : Host.Outcome State Fault Refusal :=
  let n := runCh s e
  let r := runEnd (runOf s e)
  let x := runInputs s e
  if !s.clocksRun then .next s
  else
  let s := s.modEng e fun g => { g with run := r }
  .next (s.modCh n fun c =>
    if c.loopClosed then (if r.outer then c.finishOuter r else c.finishInner x r)
    else if r.outer then { c with slots := { c.slots with outerS := r.s, outerT := r.t } }
    else { c with slots := { c.slots with s := r.s, t := r.t } })

/-- TUNT: the injection sample joins the drive, and the capture buffer takes the tick's record (R278, R322);
the engine stops with its clock (R83). -/
def execLeTunt (e : Eng) (s : State) : Host.Outcome State Fault Refusal :=
  let n := runCh s e
  let x := runInputs s e
  let r := runOf s e
  if !s.clocksRun then .next s
  else
  let s := s.modEng e fun g => { g with run := runTunt x r }
  .next (s.modCh n fun c =>
    if c.mode.mode == .tune && c.mode.status == .stable then
      let (t, full) := c.tune.advance n (r.flags.getLsbD flagCompl) (r.flags.getLsbD flagSat) x.meas x.measO
      { c with tune := t, loop := { c.loop with tuneDue := c.loop.tuneDue || full } }
    else c)

end Sys2Proof.Machine
end

