-- ==== Sys2Proof/Machine/EngineObjs.lean ====
section
/-! DEFINITION. The objects of the loop engines (R60, R61, R271 to R280, R295, R296): the loop period, programs, timing,
coefficients and notches. -/

namespace Sys2Proof.Machine

/-! ### The loop period (R60, R61, R172) -/

/-- MIN_N (R172). -/
def minN (minPeriod : F32) : Nat :=
  let q := f64Val (div64 (f32To64 minPeriod) (Q.mk 25 1000000000).toF64)
  let r := q.roundUp
  if ((q.sub (Q.ofInt r)).abs).le ((Q.ofInt r).abs.mul (pow10 (-6))) then r.toNat else q.ceil.toNat

/-- The shadow period becomes active: every factor of both channels is set to 1, their frames are discarded, and their
notches are designed anew (R61, R279, R326, R329). -/
def activatePeriod (s : State) (e : Eng) : State :=
  let g := s.engine e
  if g.nShadow = g.nActive then s
  else
    let redo (c : Channel) : Channel :=
      (({ c with lac := if c.lac.state == .adapting then c.lac.discard else c.lac } : Channel).revertFactors g.nShadow).redesign
        g.nShadow
    ((s.modEng e fun g => { g with nActive := g.nShadow }).modCh e.slot0 redo).modCh e.slot1 redo

/-- The requester owns a channel; one in OFF with a free lock counts as owned (R60). -/
def ownsForPeriod (s : State) (who : Requester) (n : Ch) : Bool :=
  let c := s.chan n
  holds c.lock who || (c.mode.mode == .off && c.lock.state == .free)

/-- LOOP_N[e] (R60). While ACLK is stopped an accepted N takes effect at once (R649). -/
def objLoopN (e : Eng) : Obj :=
  { ty := tU16, acc := .rws, read := fun _ s => natBytes 2 (s.engine e).nShadow
    range := fun w => within 40 65535 w.v
    own := fun w =>
      if ownsForPeriod w.post w.req.who e.slot0 && ownsForPeriod w.post w.req.who e.slot1 then eOk else eNotOwner
    instr := fun w => decide (minN (w.post.chan e.slot0).lim.minPeriod ≤ w.v)
      && decide (minN (w.post.chan e.slot1).lim.minPeriod ≤ w.v)
    env := fun w => if pairFits w.post e then eOk else eBudget
    put := fun w s =>
      let s := s.modEng e fun g => { g with nShadow := w.v }
      admitSet (if s.clocksRun then s else activatePeriod s e) e }

/-- LOOP_N_REQUEST. -/
def execLoopNRequest (r : Req) (e : Eng) (n : W16) (s : State) : Host.Outcome State Fault Refusal :=
  .next (perform (objLoopN e) r tU16 (natBytes 2 n.toNat) s)

/-! ### Engine-wide objects (Table 7.11) -/

/-- PEAK_CLEAR: it needs an owner of both channels (R295). -/
def objPeakClear (e : Eng) : Obj :=
  { ty := tU8, acc := .cmd, range := fun w => w.v == 1
    own := fun w =>
      if ownsForPeriod w.post w.req.who e.slot0 && ownsForPeriod w.post w.req.who e.slot1 then eOk else eNotOwner
    put := fun _ s => s.modEng e fun g => { g with peakLoad := 0 } }

/-- PEAK_CLEAR. -/
def execPeakClear (r : Req) (e : Eng) (v : Byte) (s : State) : Host.Outcome State Fault Refusal :=
  .next (perform (objPeakClear e) r tU8 [v] s)

/-! ### Programs and timing (Tables 7.10 and 7.12) -/

/-- A setting of the selection structure. -/
def progNat (n : Ch) (ty : Byte) (legal : Nat → Bool) (get : ProgSel → Nat) (set : Nat → ProgSel → ProgSel) : Obj :=
  chNat n ty .rws legal (fun c => get c.prog) fun v c => { c with prog := set v c.prog }

/-- The class of a program is permitted, or E_INSTRUCTOR (R172). -/
def classOk (c : Channel) (v : Nat) : Bool := c.lim.progClasses.getLsbD (classBit (BitVec.ofNat 8 v))

/-- PROG_MAIN. -/
def objProgMain (n : Ch) : Obj :=
  { offOrIdle n (progNat n tU8 (fun v => v == 1 || v == 2 || v == 0x80) (fun p => p.progMain.toNat)
      fun v p => { p with progMain := BitVec.ofNat 8 v }) with
    state := fun w => if w.v == 0x80 && (w.post.chan n).prog.userMain.isNone then eNotReady else eOk
    instr := fun w => classOk (w.post.chan n) w.v }

/-- PROG_OUTER. -/
def objProgOuter (n : Ch) : Obj :=
  { offOrIdle n (progNat n tU8 (fun v => v == 3 || v == 0x81) (fun p => p.progOuter.toNat)
      fun v p => { p with progOuter := BitVec.ofNat 8 v }) with
    state := fun w => if w.v == 0x81 && (w.post.chan n).prog.userOuter.isNone then eNotReady else eOk
    instr := fun w => classOk (w.post.chan n) w.v }

/-- A setting that R289 checks at step 12; what is admitted is reported (R290). -/
def budgeted (n : Ch) (o : Obj) : Obj :=
  { o with env := fun w => if pairFits w.post n.engine then eOk else eBudget
           put := fun w s => admitSet (o.put w s) n.engine }

/-- TIMING. -/
def objTiming (n : Ch) : Obj :=
  budgeted n (offOrIdle n (progNat n tU8 (within 0 1) (·.timing) fun v p => { p with timing := v }))

/-- PHASE_A: 16 to N − 1, N as R284 gives. -/
def objPhaseA (n : Ch) : Obj :=
  let o := budgeted n (offOrIdle n (progNat n tU16 (fun _ => true) (·.phaseA) fun v p => { p with phaseA := v }))
  { o with range := fun w => within 16 ((w.post.engine n.engine).nShadow - 1) w.v }

/-- OUTER_DIV. -/
def objOuterDiv (n : Ch) : Obj :=
  budgeted n (offOrIdle n (progNat n tU16 (within 1 256) (·.outerDiv) fun v p => { p with outerDiv := v }))

/-- A Q2.30 setting of the limits; the minimum stays below the maximum (Table 7.10). -/
def limitObj (n : Ch) (get : ProgSel → Word) (set : Word → ProgSel → ProgSel) (lo hi : ProgSel → Word) : Obj :=
  { progNat n tQ30 (fun _ => true) (fun p => (get p).toNat) (fun v p => set (BitVec.ofNat 32 v) p) with
    range := fun w => decide ((lo (w.post.chan n).prog).toInt < (hi (w.post.chan n).prog).toInt) }

/-- OUTER_SCALE. -/
def objOuterScale (n : Ch) : Obj :=
  offOrIdle n (chF32 n .rws (fWithin (pow10 (-12)) (pow10 12)) (·.prog.outerScale)
    fun v c => { c with prog := { c.prog with outerScale := v } })

/-- The checks that LOAD_MAIN and LOAD_OUTER share (R272). -/
def loadObj (n : Ch) (main : Bool) (inUse : Channel → Bool) (sel : ProgSel → ProgSel)
    (set : Program → ProgSel → ProgSel) : Obj :=
  { ty := tBlob, acc := .cmd, scope := fun _ => .chan n, max := 392
    range := fun w => (decodeProgram main w.data).isSome
    mode := fun w => !inUse (w.pre.chan n)
    instr := fun w => (w.post.chan n).lim.progClasses.getLsbD 4
    env := fun w => if loadFits w.post n (sel (w.post.chan n).prog) then eOk else eBudget
    put := fun w s => match decodeProgram main w.data with
      | some p => admitSet (s.setCh n fun c => { c with prog := set p c.prog }) n.engine
      | none => s }

/-- LOAD_MAIN. -/
def objLoadMain (n : Ch) : Obj :=
  loadObj n true Channel.mainInUse (fun p => { p with progMain := 0x80 }) fun x p =>
    { p with userMain := some x, memMain := x.image }

/-- LOAD_OUTER. -/
def objLoadOuter (n : Ch) : Obj :=
  loadObj n false Channel.outerInUse (fun p => { p with progOuter := 0x81 }) fun x p =>
    { p with userOuter := some x, memOuter := x.image }

/-- UNLOAD. -/
def objUnload (n : Ch) : Obj :=
  { chCmd n tU8 (fun w => within 1 2 w.v) (fun w s => s.setCh n fun c =>
      { c with prog := if w.v = 1 then { c.prog with userMain := none, memMain := noImage }
        else { c.prog with userOuter := none, memOuter := noImage } }) with
    mode := fun w => if w.v = 1 then !(w.pre.chan n).mainInUse else !(w.pre.chan n).outerInUse }

/-- LOAD_MAIN. -/
def execLoadMain (r : Req) (n : Ch) (data : List Byte) (s : State) : Host.Outcome State Fault Refusal :=
  .next (perform (objLoadMain n) r tBlob data s)

/-- LOAD_OUTER. -/
def execLoadOuter (r : Req) (n : Ch) (data : List Byte) (s : State) : Host.Outcome State Fault Refusal :=
  .next (perform (objLoadOuter n) r tBlob data s)

/-- UNLOAD. -/
def execUnload (r : Req) (n : Ch) (v : Byte) (s : State) : Host.Outcome State Fault Refusal :=
  .next (perform (objUnload n) r tU8 [v] s)

/-- The CRC-32 of a program's instruction bytes, 0 when none is loaded (Table 7.12). -/
def progCrc (p : Option Program) : Nat :=
  match p with
  | some x => (crc32 (x.words.flatMap fun w => natBytes 4 w.toNat)).toNat
  | none => 0

/-! ### Coefficients and notches (Tables 7.10 and 7.13) -/

/-- A direct write of a bank's slot: k0 and k1 become bases with factor 1, k3 to k7 make the notch manual (R280, R326). -/
def Channel.writeBank (c : Channel) (r j : Nat) (x : Word) : Channel :=
  let b := c.lacBank r
  let c := c.setBankK r j x
  if j = 0 then c.setLacBank r { b with kpB := (q30Val x).toF64, fP := one64 }
  else if j = 1 then c.setLacBank r { b with kiB := (q30Val x).toF64, fI := one64 }
  else if 3 ≤ j ∧ j ≤ 7 then
    ({ c with notch := c.notch.setIfInBounds r { (c.notch[r]?.getD {}) with state := 2 } } : Channel).setLacBank r
      { b with fF := one64 }
  else c

/-- k slot `j` of bank `r`. -/
def objBankK (n : Ch) (r j : Nat) : Obj :=
  { chNat n tQ30 .rws (fun _ => true) (fun c => (c.bankK r j).toNat) (fun v c => c.writeBank r j (BitVec.ofNat 32 v)) with
    mode := fun w =>
      let c := w.pre.chan n
      !(c.lac.state == .adapting && c.range == r && (j ≤ 1 || (3 ≤ j && j ≤ 7))) }

/-- A notch setting of bank `r`: the design is made anew, with the bank's factor at 1; while LAC adapts the frame in progress
is discarded (R277, R280, R326). -/
def notchObj (n : Ch) (r : Nat) (get : Notch → F32) (set : F32 → Notch → Notch) (legal : State → Q → Bool) : Obj :=
  { ty := tF32, acc := .rws, scope := fun _ => .chan n
    read := fun _ s => natBytes 4 (get ((s.chan n).notch[r]?.getD {})).toNat
    range := fun w => legal w.post w.f
    put := fun w s => s.setCh n fun c =>
      let d := set w.word (c.notch[r]?.getD {})
      let c : Channel := { c with notch := c.notch.setIfInBounds r d }
      let b := c.lacBank r
      let c := (c.setLacBank r { b with fB := f32To64 d.f, fF := one64 }).designBank (s.engine n.engine).nActive r
      if c.lac.state == .adapting then { c with lac := c.lac.discard } else c }

/-- NOTCH_F, NOTCH_Q, NOTCH_DEPTH by element. -/
def objNotch (n : Ch) (r el : Nat) : Option Obj :=
  match el with
  | 0x01 => some (notchObj n r (·.f) (fun v d => { d with f := v }) fun s v =>
      (Q.ofNat 1).le v && v.le (f64Val (notchTop (s.engine n.engine).nActive)))
  | 0x02 => some (notchObj n r (·.q) (fun v d => { d with q := v }) fun _ v => fWithin ⟨1, 2⟩ (Q.ofNat 50) v)
  | 0x03 => some (notchObj n r (·.depth) (fun v d => { d with depth := v }) fun _ v => fWithin Q.zero (Q.ofNat 60) v)
  | 0x04 => some (chRo n tU8 fun c => (c.notch[r]?.getD {}).state)
  | _ => none

/-- NOTCH_DESIGN: a write of NOTCH_F, NOTCH_Q or NOTCH_DEPTH of a bank. -/
def execNotchDesign (r : Req) (n : Ch) (bank : Fin 4) (el : Byte) (v : Word) (s : State) :
    Host.Outcome State Fault Refusal :=
  match objNotch n bank.val el.toNat with
  | some o => .next (perform o r tF32 (natBytes 4 v.toNat) s)
  | none => .next (s.reply eNoElement tF32 0 [])

/-! ### Lookup -/

/-- The engine objects of a channel by j (Tables 7.12 and 7.13) and element. -/
def objsEngineCh (n : Ch) (j el : Nat) : Option Obj :=
  match j with
  | 0x0 => match el with
    | 0x01 => some (objProgMain n)
    | 0x02 => some (objProgOuter n)
    | 0x03 => some (objTiming n)
    | 0x04 => some (objPhaseA n)
    | 0x05 => some (progNat n tU8 (within 0 2) (·.windup) fun v p => { p with windup := v })
    | 0x06 => some (objOuterDiv n)
    | 0x07 => some (limitObj n (·.intMax) (fun v p => { p with intMax := v }) (·.intMin) (·.intMax))
    | 0x08 => some (limitObj n (·.intMin) (fun v p => { p with intMin := v }) (·.intMin) (·.intMax))
    | 0x09 => some (limitObj n (·.ointMax) (fun v p => { p with ointMax := v }) (·.ointMin) (·.ointMax))
    | 0x0A => some (limitObj n (·.ointMin) (fun v p => { p with ointMin := v }) (·.ointMin) (·.ointMax))
    | 0x0B => some (objOuterScale n)
    | 0x0C => some (chRo n tF32 fun c => c.driveScale.toF32.toNat)
    | _ => none
  | 0x1 => match el with
    | 0x01 => some (objLoadMain n)
    | 0x02 => some (objLoadOuter n)
    | 0x03 => some (chRo n tU16 fun c => (c.prog.userMain.map (·.wcet)).getD 0)
    | 0x04 => some (chRo n tU16 fun c => (c.prog.userOuter.map (·.wcet)).getD 0)
    | 0x05 => some (chRo n tU8 fun c => (c.prog.userMain.map (·.words.length)).getD 0)
    | 0x06 => some (chRo n tU8 fun c => (c.prog.userOuter.map (·.words.length)).getD 0)
    | 0x07 => some (chRo n tU32 fun c => progCrc c.prog.userMain)
    | 0x08 => some (chRo n tU32 fun c => progCrc c.prog.userOuter)
    | 0x09 => some (objUnload n)
    | _ => none
  | 0x6 =>
    if 1 ≤ el ∧ el ≤ 16 then
      some (chNat n tQ30 .rws (fun _ => true) (fun c => (c.coefs.shared[el - 1]?.getD 0).toNat) fun v c =>
        { c with coefs := { c.coefs with shared := c.coefs.shared.setIfInBounds (el - 1) (BitVec.ofNat 32 v) } })
    else none
  | 0x7 =>
    if 1 ≤ el ∧ el ≤ 32 then
      some (chNat n tQ30 .rws (fun _ => true) (fun c => (c.coefs.outer[el - 1]?.getD 0).toNat) fun v c =>
        { c with coefs := { c.coefs with outer := c.coefs.outer.setIfInBounds (el - 1) (BitVec.ofNat 32 v) } })
    else none
  | 0x8 =>
    if 1 ≤ el ∧ el ≤ 16 then some (chRo n tQ30 fun c => (c.slots.s[el - 1]?.getD 0).toNat)
    else if 17 ≤ el ∧ el ≤ 32 then some (chRo n tQ30 fun c => (c.slots.outerS[el - 17]?.getD 0).toNat)
    else none
  | 0xD => match el with
    | 0x01 => some (counterObj (.chan n) (fun s => (s.chan n).loop.ovrCount) fun f s =>
        s.modCh n fun c => { c with loop := { c.loop with ovrCount := f c.loop.ovrCount } })
    | 0x02 => some (counterStatusObj (.chan n) (fun s => (s.chan n).loop.ovrCount) fun f s =>
        s.modCh n fun c => { c with loop := { c.loop with ovrCount := f c.loop.ovrCount } })
    | 0x03 => some (chRo n tU8 (·.loop.ovrRun))
    | 0x04 => some (chRo n tU16 (·.loop.lastCycles))
    | 0x05 => some (chRo n tU16 fun c => baseCost c.prog c.mode.mode)
    | _ => none
  | j =>
    if 2 ≤ j ∧ j ≤ 5 then (if 1 ≤ el ∧ el ≤ 16 then some (objBankK n (j - 2) (el - 1)) else none)
    else if 9 ≤ j ∧ j ≤ 12 then objNotch n (j - 9) el
    else none

/-- The engine objects by local index and element (Tables 7.11 to 7.13). -/
def objsEngine (e : Eng) (idx el : Nat) : Option Obj :=
  if idx = 0 then
    match el with
    | 0x01 => some (roNat tU16 fun s => 6 * (s.engine e).nActive - 92)
    | 0x02 => some (roNat tU16 fun s => (s.engine e).baseLoad)
    | 0x03 => some (roNat tU16 fun s => (s.engine e).extraLoad)
    | 0x04 => some (roNat tU16 fun s => (s.engine e).peakLoad)
    | 0x05 => some (objPeakClear e)
    | _ => none
  else if 0x10 ≤ idx ∧ idx < 0x20 then objsEngineCh e.slot0 (idx - 0x10) el
  else if 0x20 ≤ idx ∧ idx < 0x30 then objsEngineCh e.slot1 (idx - 0x20) el
  else none

end Sys2Proof.Machine
end

