-- ==== Sys2Proof/Machine/Crypto.lean ====
section
/-! DEFINITION. SHA-512 and Ed25519 as their published standards have them (R17, Table 0.2; FIPS 180-4 and RFC 8032, log entry
104). The spec names the two standards and restates neither. -/

namespace Sys2Proof.Machine

/-! ### Bytes and numbers -/

/-- Bytes as a number, the first most significant. -/
def bigEndian (b : List (BitVec 8)) : Nat := b.foldl (fun a x => 256 * a + x.toNat) 0

/-- Bytes as a number, the first least significant. -/
def littleEndian (b : List (BitVec 8)) : Nat := bigEndian b.reverse

/-- A number as `k` bytes, the first least significant. -/
def littleBytes (k v : Nat) : List (BitVec 8) := (List.range k).map fun i => BitVec.ofNat 8 (v / 256 ^ i)

/-- The greatest number of at most `k` bits that has a property which every smaller number has too. -/
def greatest (ok : Nat → Bool) : Nat → Nat
  | 0 => 0
  | k + 1 => let hi := greatest (fun v => ok (2 * v)) k * 2; if ok (hi + 1) then hi + 1 else hi

/-! ### SHA-512 -/

/-- The first 80 primes. -/
def primes80 : List Nat :=
  ((List.range 410).filter fun n => 2 ≤ n && (List.range n).all fun d => d < 2 || n % d != 0).take 80

/-- The first 64 bits of the fraction of a prime's cube root: the round constants. -/
def shaK : List (BitVec 64) := primes80.map fun p => BitVec.ofNat 64 (greatest (fun v => v * v * v ≤ p * 2 ^ 192) 68)

/-- The first 64 bits of the fraction of a prime's square root: the initial hash value. -/
def shaH : List (BitVec 64) := (primes80.take 8).map fun p => BitVec.ofNat 64 (greatest (fun v => v * v ≤ p * 2 ^ 128) 69)

/-- The message with its padding and its length in bits. -/
def shaPad (m : List (BitVec 8)) : List (BitVec 8) :=
  let zeros := (111 + 128 - m.length % 128) % 128
  m ++ [0x80] ++ List.replicate zeros 0 ++ (littleBytes 16 (8 * m.length)).reverse

/-- The next word of the schedule from the last 16, the newest first. -/
def shaNext (w : List (BitVec 64)) : BitVec 64 :=
  let g := fun (i : Nat) => w[i]?.getD 0
  let s0 := fun (x : BitVec 64) => x.rotateRight 1 ^^^ x.rotateRight 8 ^^^ (x >>> 7)
  let s1 := fun (x : BitVec 64) => x.rotateRight 19 ^^^ x.rotateRight 61 ^^^ (x >>> 6)
  s1 (g 1) + g 6 + s0 (g 14) + g 15

/-- The eight working variables. -/
structure ShaVars where
  a : BitVec 64
  b : BitVec 64
  c : BitVec 64
  d : BitVec 64
  e : BitVec 64
  f : BitVec 64
  g : BitVec 64
  h : BitVec 64

/-- One round with its constant and its word. -/
def shaRound (v : ShaVars) (k w : BitVec 64) : ShaVars :=
  let t1 := v.h + (v.e.rotateRight 14 ^^^ v.e.rotateRight 18 ^^^ v.e.rotateRight 41) + ((v.e &&& v.f) ^^^ (~~~v.e &&& v.g)) + k + w
  let t2 := (v.a.rotateRight 28 ^^^ v.a.rotateRight 34 ^^^ v.a.rotateRight 39)
    + ((v.a &&& v.b) ^^^ (v.a &&& v.c) ^^^ (v.b &&& v.c))
  ⟨t1 + t2, v.a, v.b, v.c, v.d + t1, v.e, v.f, v.g⟩

/-- The 80 words of a block's schedule. -/
def shaWords (block : List (BitVec 8)) : List (BitVec 64) :=
  let first := (List.range 16).map fun i => BitVec.ofNat 64 (bigEndian ((block.drop (8 * i)).take 8))
  ((List.range 64).foldl (fun w _ => shaNext (w.take 16) :: w) first.reverse).reverse

/-- One block of 128 bytes. -/
def shaBlock (h : List (BitVec 64)) (block : List (BitVec 8)) : List (BitVec 64) :=
  let g := fun (i : Nat) => h[i]?.getD 0
  let v := (shaK.zip (shaWords block)).foldl (fun v (k, w) => shaRound v k w) ⟨g 0, g 1, g 2, g 3, g 4, g 5, g 6, g 7⟩
  h.zipWith (· + ·) [v.a, v.b, v.c, v.d, v.e, v.f, v.g, v.h]

/-- The SHA-512 digest of a message, 64 bytes. -/
def sha512 (m : List (BitVec 8)) : List (BitVec 8) :=
  let p := shaPad m
  ((List.range (p.length / 128)).foldl (fun h i => shaBlock h ((p.drop (128 * i)).take 128)) shaH).flatMap fun x =>
    (littleBytes 8 x.toNat).reverse

/-- The first 32 bytes of the digest (R158, R175). -/
def sha512Head (m : List (BitVec 8)) : List (BitVec 8) := (sha512 m).take 32

/-! ### Ed25519 -/

/-- The field prime, the group order, the curve constant and the square root of −1. -/
def edP : Nat := 2 ^ 255 - 19
def edL : Nat := 2 ^ 252 + 27742317777372353535851937790883648493
def edD : Nat := 37095705934669439343138083508754565189542113879843219016388785533085940283555
def edI : Nat := 19681161376707505956807079304988542015446066515923890162744021073123829784752

/-- A power in the field; `k` bits of the exponent are used. -/
def edPow (x : Nat) : Nat → Nat → Nat
  | 0, _ => 1
  | k + 1, e => let y := edPow (x * x % edP) k (e / 2); if e % 2 = 1 then x * y % edP else y

/-- The inverse in the field. -/
def edInv (x : Nat) : Nat := edPow x 255 (edP - 2)

/-- A point in extended coordinates. -/
structure EdPoint where
  x : Nat
  y : Nat
  z : Nat
  t : Nat

/-- The sum of two points. -/
def edAdd (p q : EdPoint) : EdPoint :=
  let a := (p.y + edP - p.x) * (q.y + edP - q.x) % edP
  let b := (p.y + p.x) * (q.y + q.x) % edP
  let c := 2 * p.t * q.t % edP * edD % edP
  let d := 2 * p.z * q.z % edP
  let e := b + edP - a
  let f := d + edP - c
  let g := d + c
  let h := b + a
  ⟨e * f % edP, g * h % edP, f * g % edP, e * h % edP⟩

/-- A multiple of a point; `k` bits of the factor are used. -/
def edMul (p : EdPoint) : Nat → Nat → EdPoint
  | 0, _ => ⟨0, 1, 1, 0⟩
  | k + 1, n =>
    let q := edMul (edAdd p p) k (n / 2)
    if n % 2 = 1 then edAdd p q else q

/-- Two points are the same. -/
def edSame (p q : EdPoint) : Bool :=
  (p.x * q.z % edP == q.x * p.z % edP) && (p.y * q.z % edP == q.y * p.z % edP)

/-- The x coordinate that belongs to y with a sign, if one does. -/
def edRecover (y sign : Nat) : Option Nat :=
  if edP ≤ y then none
  else
    let x2 := (y * y + edP - 1) % edP * edInv ((edD * (y * y % edP) + 1) % edP) % edP
    let x := edPow x2 255 ((edP + 3) / 8)
    let x := if x * x % edP = x2 then x else x * edI % edP
    if x * x % edP ≠ x2 ∨ (x = 0 ∧ sign = 1) then none
    else some (if x % 2 = sign then x else (edP - x) % edP)

/-- A point from its 32 bytes. -/
def edDecode (b : List (BitVec 8)) : Option EdPoint :=
  if b.length ≠ 32 then none
  else
    let v := littleEndian b
    (edRecover (v % 2 ^ 255) (v / 2 ^ 255)).map fun x => ⟨x, v % 2 ^ 255, 1, x * (v % 2 ^ 255) % edP⟩

/-- The 32 bytes of a point. -/
def edEncode (p : EdPoint) : List (BitVec 8) :=
  let zi := edInv p.z
  littleBytes 32 (p.y * zi % edP + p.x * zi % edP % 2 * 2 ^ 255)

/-- The base point: y is 4/5 and x is even. -/
def edBase : EdPoint :=
  let y := 4 * edInv 5 % edP
  let x := (edRecover y 0).getD 0
  ⟨x, y, 1, x * y % edP⟩

/-- An Ed25519 signature verifies: public key, message, signature. -/
def ed25519 (key msg sig : List (BitVec 8)) : Bool :=
  match edDecode key, edDecode (sig.take 32) with
  | some a, some r =>
    let s := littleEndian (sig.drop 32)
    let k := littleEndian (sha512 (sig.take 32 ++ key ++ msg)) % edL
    sig.length == 64 && decide (s < edL) && edSame (edMul edBase 253 s) (edAdd r (edMul a 253 k))
  | _, _ => false

/-- The secret scalar and the rest of the digest of a private key. -/
def edSecret (priv : List (BitVec 8)) : Nat × List (BitVec 8) :=
  let h := sha512 priv
  (littleEndian (h.take 32) % 2 ^ 254 / 8 * 8 + 2 ^ 254, h.drop 32)

/-- The public key of a private key. -/
def ed25519Public (priv : List (BitVec 8)) : List (BitVec 8) := edEncode (edMul edBase 255 (edSecret priv).1)

/-- The Ed25519 signature of a message. -/
def ed25519Sign (priv msg : List (BitVec 8)) : List (BitVec 8) :=
  let (a, tail) := edSecret priv
  let key := ed25519Public priv
  let r := littleEndian (sha512 (tail ++ msg)) % edL
  let rb := edEncode (edMul edBase 253 r)
  let k := littleEndian (sha512 (rb ++ key ++ msg)) % edL
  rb ++ littleBytes 32 ((r + k * a) % edL)

end Sys2Proof.Machine
end

