-- ==== Sys2Proof/Machine/Device.lean ====
section
/-! DEFINITION. Device states and what an entry into each brings (R200 to R217): the end of sessions (R116), HALT, RESET, the
application core's reset (R190), and the verification of images and patches (R159 to R166). -/

namespace Sys2Proof.Machine

/-! ### Sessions (R116) -/

/-- A session ends: its slot is free, a SESSION event is raised with how (1 opened, 2 closed, 3 expired), and every channel
lock it held is revoked (R116, R188). -/
def removeSession (s : State) (i : Fin 8) (how : Nat) : State :=
  let id := (s.session i).id
  if id == 0 then s
  else
    let s := s.modSession i fun _ => {}
    let s := raiseEvent s evMgmt 3 (id.toNat + 65536 * how)
    forEach allCh s fun s n =>
      let l := (s.chan n).lock
      if l.state == .held && l.kind == .host && l.session == id then revoke s n else s

/-- The session slots. -/
def allSlots : List (Fin 8) := [0, 1, 2, 3, 4, 5, 6, 7]

/-- Every session of the unit ends, each reported as closed. -/
def removeSessions (s : State) : State := forEach allSlots s fun s i => removeSession s i 2

/-! ### Entries into a state (R211, R214, R217) -/

/-- The device state changes; a change that neither leaves nor enters RESET raises an MGMT event (R217), and leaving RUN
empties the trigger queues (R521). -/
def setDevice (s : State) (d : DeviceState) : State :=
  if s.dev.state == d then s
  else
    let tell := s.dev.state != .reset && d != .reset
    let trig := if s.running then { s.ronko.trig with issue := [], pending := [] } else s.ronko.trig
    let s := { s with dev := { s.dev with state := d }, ronko := { s.ronko with trig := trig }
                      fsp := { s.fsp with sckHigh := s.fsp.sckHigh && d == .run } }
    if tell then raiseEvent s evMgmt 2 (deviceCode d) else s

/-- The host command ring as Myvex first configures it (R431): a ring of 32-byte byte records that the application core fills and
empties; `old` is what stood under its number before. -/
def newHostRing (num : Nat) (old : Option Ring) : Ring :=
  { num := num, recSize := 32, byteRecs := true, policy := .stall, producer := roleApp, consumer := roleApp, pagesHeld := 0
    pageNext := (old.map (·.pageNext)).getD 0 }

/-- A ring with other page limits; a page that its records still need stays until they are gone. -/
def Ring.resize (r : Ring) (k : Nat) : Ring :=
  let keep := Nat.min r.pagesHeld (Nat.max k (r.pagesFor 0))
  Ring.hold { r with minPages := k, maxPages := k, pagesHeld := keep, pages := r.pages.take keep } k

/-- Myvex configures the host command ring for its depth: 46 slots of a transaction, 8 slots to the page (R431). Where the pool
cannot supply the pages, or the reservations would pass 4,096, the ring stays as it is (R419, R421). -/
def hostRing (s : State) : State :=
  let h := s.hamper
  let k := (46 * s.rop.cmdDepth + 7) / 8
  let r := (h.ring h.hostNum).getD (newHostRing h.hostNum (h.anyRing h.hostNum))
  let mine := if (h.ring h.hostNum).isSome then r.minPages else 0
  if k ≤ r.pagesHeld + h.poolFree && h.reserved - mine + k ≤ 4096 then
    { s with hamper := ({ h with hostPages := k } : Hamper).setRing (r.resize k) }
  else s

/-- The application core is released: no prefetch line is valid (R551), and Myvex starts. -/
def coreReleased (s : State) : State :=
  hostRing { s with xip := { s.xip with lines := [], miss := none, prefetch := none } }

/-- Entry into RUN: PENDING of every line is emptied (R600), and the core is released. -/
def enterRun (s : State) : State :=
  coreReleased <| setDevice { s with events := { s.events with lines := s.events.lines.map fun l => { l with pending := 0 } } } .run

/-- Entry into SAFE or VERIFY: every channel goes to OFF, high impedance (R214). -/
def enterQuiet (s : State) (d : DeviceState) : State := allOff (setDevice s d) false

/-- What ends with the application core's run: the staged group, the long-value buffer, and the watchdog (R151, R152,
R206). -/
def coreHeld (s : State) : State :=
  { s with trust := { s.trust with mbx := { s.trust.mbx with staged := [], long := [] } }, dev := { s.dev with wdt := {} } }

/-- REF_READY changes or stays: the windows, captures and aux slots in progress have seen its new value (R345, Table 9.2). -/
def setRefReady (s : State) (on : Bool) : State :=
  { s with dev := { s.dev with refReady := on }
           eng := s.eng.map fun g => { g with refLow := g.refLow || !on, refHigh := g.refHigh || on }
           ch := s.ch.map fun c => { c with cap := { c.cap with refLow := c.cap.refLow || !on, refHigh := c.cap.refHigh || on } }
           aux := { s.aux with slot := s.aux.slot.map fun j =>
             { j with refLow := j.refLow || !on, refHigh := j.refHigh || on } } }

/-- Entry into HALT with the message that caused it (R204, R214, R215, R221): the outputs, LAST_HALT, what R215 says, and
DEVICE_STATE, in the order of R590. -/
def enterHalt (s : State) (message : W64) (refFault : Bool) : State :=
  if s.dev.state == .halt || s.dev.state == .reset then s
  else
    let s := allOff s true
    let s := { s with dev := { s.dev with lastHalt := message, reverify := false, refFault := refFault,
                                          refbufOn := s.dev.refbufOn && !refFault } }
    let s := removeSessions (coreHeld (if refFault then setRefReady s false else s))
    let s := forEach allCh s fun s n => if (s.chan n).lock.state == .held then revoke s n else s
    setDevice s .halt

/-- A HALT that the TSF or the clock monitors cause at once, and the message of the fault, which LAST_HALT keeps even where
its source's queue is full (R204, R584). -/
def haltNow (s : State) (src : BitVec 6) (kind : Byte) (detail : Nat) : State :=
  enterHalt (sendMsg s src kind .halt detail) (newMsg s src kind .halt (BitVec.ofNat 24 detail) false).word false

/-! ### RESET (R200 to R204) -/

/-- The brown-out bits of the main supplies that are not good (Table 5.2). -/
def brownOut (p : Power) : W16 := (~~~p.good &&& 0x3E).setWidth 16

/-- The state at an entry into RESET: everything at its default but what survives. The always-on record, the history, the
fault counters of R592, the lockout and what stands in OTP and flash survive every reset; an AON reset takes the rest of the
always-on domain with it. CLR_n has the level that its board gives it (R387). -/
def afterReset (s : State) (aon : Bool) : State :=
  let t := s.trust.instr
  { ({} : State) with
    otp := s.otp, ident := s.ident, lockoutRec := s.lockoutRec
    power := { s.power with aonHeld := s.power.aonHeld || aon }
    dev := { state := .reset, resetCause := s.dev.resetCause, resetCount := { value := s.dev.resetCount.value }, lastHalt := s.dev.lastHalt }
    clk := { refPresent := s.clk.refPresent && !aon, aonOnRc := s.clk.aonOnRc || aon }
    trust := { instr := { state := if t.state == .lockout && !aon then .lockout else .locked
                          failedStreak := t.failedStreak, lastLockout := t.lastLockout, lockoutEnd := t.lockoutEnd
                          saved := t.saved } }
    badger := { history := s.badger.closeAll.history, histSeq := s.badger.histSeq, histDropped := s.badger.histDropped,
                msgLost := s.badger.msgLost }
    trig := { clrN := s.trig.clrN }
    mgp := if aon then {} else
      { s.mgp with
        streamRing := 0xFFFF, buffer := [], tapLoss := false, streaming := false, seq := 0, prev := ({} : Mgp).prev }
    now := s.now, answer := s.answer, emit := s.emit, free := s.free, pending := s.pending }

/-- The objects of the MGP take their defaults as the device leaves RESET, as every object does (R96); the reply held and what
is being executed are none. -/
def Mgp.defaults (m : Mgp) : Mgp :=
  { m with alive := 0, aliveSeen := false, aliveAt := none, frames := {}, badFrames := {}, repeats := {}, busyIgnored := {},
           underruns := {}, streamLost := {} }

/-- An entry into RESET with its causes (R203): HALTED is set when the device was in HALT. A source that finds the device in
RESET makes no new entry. -/
def enterReset (s : State) (cause : W16) (aon : Bool) : State :=
  if s.dev.state == .reset then afterReset s aon
  else
    let halted : W16 := if s.dev.state == .halt then 0x0200 else 0
    let s := afterReset s aon
    { s with dev := { s.dev with resetCause := cause ||| brownOut s.power ||| halted, resetCount := s.dev.resetCount.inc } }

/-- A power-on reset of the always-on domain: the reset record and the history are cleared, and the power-on is recorded as
an entry (R203, R204, R592). -/
def powerOn (s : State) : State :=
  let s := afterReset s true
  { s with dev := { s.dev with lastHalt := 0, resetCount := { value := 1 }, resetCause := 1 ||| brownOut s.power }
           badger := {}
           trust := { s.trust with instr := { s.trust.instr with failedStreak := 0, lastLockout := 0, lockoutEnd := 0 } } }

/-! ### The application core's reset (R190, R457) -/

/-- The semaphores that the application core holds are freed, each with a NOTE. -/
def freeSems (s : State) : State :=
  forEach (List.range 32) s fun s i =>
    if s.hamper.sems[i]?.getD none == some .app then
      let s := { s with hamper := { s.hamper with
        sems := s.hamper.sems.setIfInBounds i none, semReleased := s.hamper.semReleased.inc } }
      sendMsg s srcTsf 0x42 .note i
    else s

/-- The application core is reset: the core is held, sessions and HOST and LOCAL locks end, its semaphores are freed, and the
image is verified again. -/
def coreReset (s : State) : State :=
  let s := { s with dev := { s.dev with appResets := s.dev.appResets.inc, reverify := true } }
  let s := removeSessions s
  let s := forEach allCh s fun s n =>
    let l := (s.chan n).lock
    if l.state == .held && (l.kind == .host || l.kind == .loc) then revoke s n else s
  freeSems (coreHeld s)

/-! ### Images and patches (R159 to R166) -/

/-- A little-endian number. -/
def leNat (bytes : List Byte) : Nat := beNat bytes.reverse

/-- `k` bytes from an offset. -/
def slice (bytes : List Byte) (off k : Nat) : List Byte := (bytes.drop off).take k

/-- The fields of a header (Table 4.3). -/
def hdrSlot (h : List Byte) : Nat := leNat (slice h 6 1)
def hdrSequence (h : List Byte) : Nat := leNat (slice h 8 4)
def hdrBody (h : List Byte) : Nat := leNat (slice h 12 4)
def hdrEntry (h : List Byte) : Nat := leNat (slice h 16 4)
def hdrVersion (h : List Byte) : Nat := leNat (slice h 20 4)
def hdrMinTsf (h : List Byte) : Nat := leNat (slice h 24 2)

/-- FORMAT, the reserved bytes, BODY_SIZE up to `top`, and ENTRY are legal. -/
def hdrLegal (h : List Byte) (top : Nat) : Bool :=
  leNat (slice h 4 2) == 1 && slice h 7 1 == [0] && slice h 26 6 == List.replicate 6 0
    && hdrBody h % 4 == 0 && within 4 top (hdrBody h) && hdrEntry h % 2 == 0 && decide (hdrEntry h < hdrBody h)

/-- The signed message (R160). -/
def signedPart (x : FlashImage) : List Byte := x.header.take 32 ++ x.body.take (hdrBody x.header)

/-- A part with a DISABLED slot admits unsigned images (R157). -/
def Otp.teaching (o : Otp) : Bool := o.slots.toList.any (·.disabled)

/-- VERIFY_RESULT of a location: the first failing step of R162 (Table 4.4). -/
def verifyImage (o : Otp) (x : FlashImage) : Byte :=
  let h := x.header
  let key := slice h 32 32
  if x.readError then 0x09
  else if slice h 0 4 != [0x53, 0x47, 0x41, 0x49] then 0x02
  else if !hdrLegal h 1048448 || !(decide (hdrSlot h ≤ 3) || hdrSlot h == 0xFF) then 0x03
  else if 0x0100 < hdrMinTsf h then 0x04
  else if hdrSlot h == 0xFF then
    if !o.teaching then 0x08
    else if slice h 32 96 != List.replicate 96 0 then 0x03
    else 0x01
  else match o.slots[hdrSlot h]? with
    | none => 0x05
    | some k =>
      if !k.keyed || k.disabled then 0x05
      else if sha512Head key != k.hash then 0x06
      else if ed25519 key (signedPart x) (slice h 64 64) then 0x00
      else 0x07

/-- The location that R163 admits: 0, 1, or none. -/
def admitted (o : Otp) (x0 x1 : FlashImage) : Option Nat :=
  let ok0 := decide ((verifyImage o x0).toNat ≤ 1)
  let ok1 := decide ((verifyImage o x1).toNat ≤ 1)
  if ok0 && (!ok1 || decide (hdrSequence x1.header ≤ hdrSequence x0.header)) then some 0
  else if ok1 then some 1 else none

/-- The results of a verification, the admitted image's record (Table 4.6), and where its body lies for execute-in-place
(R546). -/
def recordImages (s : State) (x0 x1 : FlashImage) : State :=
  let g := { s.trust.image with result0 := verifyImage s.otp x0, result1 := verifyImage s.otp x1 }
  let g : Image := match admitted s.otp x0 x1 with
    | none => { g with active := 0xFF, signed := false, keySlot := 0xFF, version := 0, sequence := 0, entry := 0 }
    | some k =>
      let h := (if k = 0 then x0 else x1).header
      { g with active := BitVec.ofNat 8 k, signed := hdrSlot h != 0xFF, keySlot := BitVec.ofNat 8 (hdrSlot h),
               version := BitVec.ofNat 32 (hdrVersion h), sequence := BitVec.ofNat 32 (hdrSequence h),
               entry := BitVec.ofNat 32 (hdrEntry h) }
  let (base, size) := match admitted s.otp x0 x1 with
    | none => (0, 0)
    | some k => (0x100000 * k + 128, hdrBody (if k = 0 then x0 else x1).header)
  { s with trust := { s.trust with image := g }, xip := { s.xip with base := base, size := size } }

/-- The TSF patch region: its level if the patch is applied, and whether a patch was rejected (R165, R166). A KEY_SLOT other
than 0x00 is taken as a header that is not legal: R165 gives the byte one value and does not say what another does (DESIGN
CHOICE, log entry 103). -/
def patchVerdict (x : FlashImage) : W16 × Bool :=
  let h := x.header
  if !x.readError && (h ++ x.body).all (· == 0xFF) then (0, false)
  else if !x.readError && slice h 0 4 == [0x53, 0x47, 0x54, 0x50] && slice h 6 1 == [0] && hdrLegal h 16256
      && sha512Head (slice h 32 32) == Config.patchKeyHash
      && ed25519 (slice h 32 32) (signedPart x) (slice h 64 64) && hdrMinTsf h == 0x0100 then
    (BitVec.ofNat 16 (hdrVersion h), false)
  else (0, true)

/-! ### Lockout and the instructor record (R176, R177) -/

/-- A lockout of `len` seconds begins (R177, Table 15.7). -/
def beginLockout (s : State) (len : Nat) : State :=
  let s := { s with trust := { s.trust with instr := { s.trust.instr with state := .lockout, lockoutEnd := s.now + secs len } } }
  raiseEvent s evMgmt 1 5

/-- A record of these bytes and this signature verifies under the device's public key (R176, R177). -/
def Otp.verifies (o : Otp) (bytes sig : List Byte) : Bool := ed25519 o.pubkey bytes sig

/-- The device signs (R156). -/
def Otp.signs (o : Otp) (bytes : List Byte) : List Byte := ed25519Sign o.privkey bytes

/-- The instructor record that the TSF finds with its signature, none where the region holds none (R176). -/
def recordFound (s : State) : RecordObs → Option (SavedRecord × List Byte)
  | .kept => s.trust.instr.saved.map fun x => (x, s.otp.signs (Config.recordBytes x.limits x.verifier))
  | .erased => none
  | .other limits verifier sig => some (⟨limits, verifier⟩, sig)

/-- The lockout record that the TSF finds, where it is valid (R177). -/
def lockoutFound (s : State) (r : LockoutObs) : Option LockoutRecord :=
  let found : Option (LockoutRecord × List Byte) := match r with
    | .kept => s.lockoutRec.map fun x => (x, s.otp.signs (Config.lockoutBytes x.streak x.lastLen x.running))
    | .erased => none
    | .other streak lastLen running sig => some (⟨streak, lastLen, running⟩, sig)
  match found with
  | some (x, sig) => if s.otp.verifies (Config.lockoutBytes x.streak x.lastLen x.running) sig then some x else none
  | none => none

/-- The limits that apply while no valid record exists (R176). -/
def noRecord (s : State) (st : RecordState) : State :=
  let s := { s with trust := { s.trust with instr := { s.trust.instr with
    record := if s.trust.instr.verifier.isSome then .unsaved else st, saved := none } } }
  let teach := s.otp.teaching
  let s := s.modAllCh fun _ c => { c with lim := { defaultLimits with modeMask := if teach then 0x0001 else 0x0FFF } }
  if teach then sendMsg s srcTsf 0x03 .warn (if st == .absent then 1 else 2) else s

/-- The instructor record as VERIFY finds it: limits, verifier and RECORD_STATE (R176). A code that the MGP set before VERIFY
stays in force and is unsaved (DESIGN CHOICE, log entry 106). -/
def applyRecord (s : State) (r : RecordObs) : State :=
  match recordFound s r with
  | none => noRecord s .absent
  | some (x, sig) =>
    if s.otp.verifies (Config.recordBytes x.limits x.verifier) sig then
      let own := s.trust.instr.verifier.getD x.verifier
      let s := { s with trust := { s.trust with instr := { s.trust.instr with
        record := if own == x.verifier then .valid else .unsaved, verifier := some own, saved := some x } } }
      s.modAllCh fun n c => { c with lim := x.limits[n.val] }
    else noRecord s .invalid

def State.modInstr (s : State) (f : Instructor → Instructor) : State :=
  { s with trust := { s.trust with instr := f s.trust.instr } }

/-- The verifier in force: before the VERIFY that reads the record, the one of the record in flash (R175, R176). -/
def verifierNow (s : State) : Option (List Byte) := s.trust.instr.verifier.or (s.trust.instr.saved.map (·.verifier))

/-- The limits and the verifier as a record would hold them. -/
def recordNow (s : State) : SavedRecord :=
  { limits := Vector.ofFn fun n => (s.chan n).lim, verifier := (verifierNow s).getD [] }

/-! ### The TSF's accesses to the flash (R466, R536, R549, R553) -/

def State.modFsp (s : State) (f : Fsp → Fsp) : State := { s with fsp := f s.fsp }

def State.modXip (s : State) (f : Xip → Xip) : State := { s with xip := f s.xip }

/-- A grant is in progress on the bus. -/
def State.busUsed (s : State) : Bool := s.fsp.entry.isSome || s.xip.filling.isSome || s.bus.owner.isSome

/-- One assertion of FSS0, in mode 0, at whose end FSCK idles low (R532, R533). -/
def State.fss0 (s : State) (bytes : List Byte) (dummy read : Nat) : State :=
  (s.modFsp fun f => { f with sckHigh := false }).send (.fsp 0 bytes dummy read)

/-- The exit sequence of Table 14.6. -/
def exitNow (s : State) : State :=
  (s.modFsp fun f => { f with contRead := false, inCont := false }).fss0 (List.replicate (if s.xip.addr4 then 5 else 4) 0xFF) s.xip.dummy.toNat 0

/-- The exit sequence, where the flash may be in continuous read (R549). -/
def sendExit (s : State) : State := if s.fsp.contRead then exitNow s else s

/-- A request that the TSF executes is a flash frame of the MGP (Table 14.9). -/
def Mgp.flashRequest (m : Mgp) : Bool :=
  match m.executing with
  | some bytes => within 4 6 (beNat (slice bytes 0 1) % 16)
  | none => false

/-- The TSF has an access to the flash to make: a flash frame, a save, or a verification (R162, R180, R572). -/
def State.supWants (s : State) : Bool :=
  (s.mgp.flashRequest && s.mgp.staged.isNone) || s.trust.instr.saving.isSome || s.dev.reverify || s.dev.state == .verify

/-- The TSF has the flash: SUP is granted, or the clocks of the arbiter stand still and the TSF alone uses the FSP (R466, R536;
log entry 129). -/
def State.supOn (s : State) : Bool :=
  s.fsp.master == .master && if s.clocksRun then s.bus.owner == some 0 else s.supWants

/-- The TSF has the flash, and no polling is due (R553). -/
def State.supMay (s : State) : Bool := s.supOn && !s.fsp.busyPend

/-- An access of the TSF within a command, whose grant the model does not show: the exit sequence goes before it, unless a grant
is in progress (R549; log entry 129). -/
def supAccess (s : State) : State := if s.busUsed then s else sendExit s

/-- The TSF has programmed or erased flash: BUSY_PEND is set, and the prefetch lines are invalid (R551, R553). -/
def State.flashWritten (s : State) : State := { s with fsp := { s.fsp with busyPend := true }, xip := { s.xip with lines := [] } }

/-- A running save ends: the record stands in flash, and a change made since stays unsaved (R180, Table 15.7). -/
def saveDone (s : State) : State :=
  match s.trust.instr.saving with
  | none => s
  | some r =>
    let same := r == recordNow s
    let s := s.modInstr fun t => { t with saving := none, saved := some r, record := if same then .valid else .unsaved }
    raiseEvent (supAccess s).flashWritten evMgmt 1 4

/-- The reset of DEVICE_RESET: a write of the instructor record that is in progress completes first (R205). -/
def deviceReset (s : State) : State := enterReset (saveDone s) 0x0100 true

/-- Without a lockout record, the TSF takes a streak of 5 with a lockout of 60 s running where the instructor record is valid,
and a streak of 0 with no lockout where none is (R177). -/
def lockoutDefault (s : State) : State :=
  if s.lockoutRec.isSome then s
  else if s.trust.instr.saved.isSome then
    if s.trust.instr.state == .lockout then s
    else beginLockout (s.modInstr fun t => { t with failedStreak := 5, lastLockout := 60 }) 60
  else s.modInstr fun t =>
    { t with failedStreak := 0, lastLockout := 0, state := if t.state == .lockout then .locked else t.state }

end Sys2Proof.Machine
end

