-- ==== Sys2Proof/Machine/Power.lean ====
section
/-! DEFINITION. Supplies, reset, boot, the application watchdog, the reference buffer and the clocks (R48 to R57, R65 to R83,
R197 to R227): the commands of chapters 2 and 5. -/

namespace Sys2Proof.Machine

/-! ### Supplies and reset lines -/

/-- The bit of a supply in SUPPLY_GOOD (Table 5.7). -/
def supplyBit : Supply → Nat
  | .aon => 0
  | .core => 1
  | .link => 2
  | .io => 3
  | .ioB => 4
  | .avdd => 5

/-- SUPPLY_FAIL: a supply has stayed below its falling threshold. A main supply puts every output to high impedance, whatever
the fault action, and the device into RESET; VDD_AON resets the always-on domain as well (R200, R201). -/
def execSupplyFail (sup : Supply) (s : State) : Host.Outcome State Fault Refusal :=
  let s := { s with power := { s.power with good := s.power.good &&& ~~~(BitVec.twoPow 6 (supplyBit sup)) } }
  .next (match sup with
    | .aon => powerOn s
    | _ => if s.dev.state == .reset then s else enterReset s 0 false)

/-- SUPPLY_RISING_THRESHOLD: a supply has crossed its rising threshold and is good (R197). -/
def execSupplyRisingThreshold (sup : Supply) (s : State) : Host.Outcome State Fault Refusal :=
  .next { s with power := { s.power with good := s.power.good ||| BitVec.twoPow 6 (supplyBit sup) } }

/-- AON_POR: VDD_AON is not good (Table 5.2). -/
def execAonPor (s : State) : Host.Outcome State Fault Refusal :=
  .next (powerOn { s with power := { s.power with good := s.power.good &&& 0x3E } })

/-- RST_N_RECOGNISED: the SG8 recognises RST_n low (R202). -/
def execRstNRecognised (s : State) : Host.Outcome State Fault Refusal :=
  .next (enterReset { s with power := { s.power with rstLow := true } } 0x0040 true)

/-- RST_N_HIGH: RST_n is high again; the AON reset holds for 1 ms more (R202). -/
def execRstNHigh (s : State) : Host.Outcome State Fault Refusal :=
  .next { s with power := { s.power with rstLow := false } }

/-- SUP_WATCHDOG_EXPIRE: the TSF has not serviced the supervisor watchdog for 100 ms (Table 5.2). -/
def execSupWatchdogExpire (s : State) : Host.Outcome State Fault Refusal := .next (enterReset s 0x0080 true)

/-- AON_RESET_RELEASE: the straps are sampled and the always-on domain starts, on the RC oscillator until REFCLK is present;
a lockout that was running when power was lost starts again for 60 s (R55, R177, R202, R207). -/
def execAonResetRelease (straps : BitVec 4) (lockout : LockoutObs) (s : State) : Host.Outcome State Fault Refusal :=
  if s.power.aonHeld && s.power.good.getLsbD 0 && !s.power.rstLow then
    let s := { s with power := { s.power with aonHeld := false, straps := straps, strapsLive := straps, strapsAt := some s.now } }
    let found := lockoutFound s lockout
    let x := found.getD ⟨0, 0, false⟩
    let s := { s with lockoutRec := found
                      trust := { s.trust with instr := { s.trust.instr with
                        failedStreak := x.streak, lastLockout := x.lastLen, state := .locked } } }
    .next (if x.running then beginLockout s 60 else lockoutDefault s)
  else .next s

/-! ### Leaving BOOT and VERIFY -/

/-- The probe of R550, behind the exit sequence: 16 bytes at offset 0 with the full sequence and CONT_MODE, and the same with the
command byte omitted. Where both agree and are not all 0xFF, the flash has continuous read and stands in it; otherwise it is
taken out of it again. -/
def probeFlash (s : State) (read1 read2 : List Byte) : State :=
  let addr := List.replicate (if s.xip.addr4 then 4 else 3) (0 : Byte) ++ [s.xip.contMode]
  let s := (exitNow s).fss0 (s.xip.cmd :: addr) s.xip.dummy.toNat 16
  let s := s.fss0 addr s.xip.dummy.toNat 16
  if read1 == read2 && read1.length == 16 && read1.any (· != 0xFF) then
    (s.modXip fun x => { x with cont := true }).modFsp fun f => { f with contRead := true, inCont := true }
  else (exitNow s).modXip fun x => { x with cont := false }

/-- BOOT_ENTRY: every main supply has been good for 2 ms with the AON reset released (R199, R211, R212). The TSF probes the
flash, and `reads` is what the probe's two reads bring. -/
def execBootEntry (reads : List Byte × List Byte) (s : State) : Host.Outcome State Fault Refusal :=
  if s.dev.state == .reset && !s.power.aonHeld && s.power.good == 0x3F then
    let s := { s with dev := { s.dev with state := .boot, refbufOn := true, refbufAt := s.now }
                      mgp := s.mgp.defaults
                      clk := { s.clk with pllEn := s.clk.refPresent } }
    let s := probeFlash s reads.1 reads.2
    let s := sendMsg s srcTsf 0x00 .note s.dev.resetCause.toNat
    .next (if s.power.straps.getLsbD 3 then sendMsg s srcTsf 0x02 .warn 0 else s)
  else .next s

/-- REF_PRESENT_SET: 64 good REFCLK windows have passed; the always-on domain moves to REFCLK, and in BOOT the TSF enables the
main PLL (R50, R55, R79). -/
def execRefPresentSet (s : State) : Host.Outcome State Fault Refusal :=
  if s.power.aonHeld then .next s
  else
    .next { s with clk := { s.clk with refPresent := true, aonOnRc := false
                                       pllEn := s.clk.pllEn || s.dev.state == .boot } }

/-- The Ronko ports are active from VERIFY onward (Table 5.6). -/
def startPorts (s : State) : State :=
  { s with ronko := { s.ronko with ports := s.ronko.ports.map fun p =>
      { p with link := if p.en then .down else .disabled } } }

/-- PLL_LOCK: ROOT and its clocks start, Hamper is initialised, a patch is verified, and BOOT ends (R50, R65, R78, R166,
R212). A lock outside BOOT, where R81 keeps the main domains stopped, changes nothing: PLL_LOCK stays 0 in HALT though PLL_EN
is 1 (DESIGN CHOICE, log entry 94). -/
def execPllLock (patchArea : FlashImage) (s : State) : Host.Outcome State Fault Refusal :=
  if s.dev.state == .boot && s.clk.pllEn && !s.clk.pllLock then
    let (level, bad) := patchVerdict patchArea
    let s := { s with clk := { s.clk with pllLock := true, monitorsOn := true, rootAt := s.now, tbc := 0, frac := 0, past := [] }
                      eng := s.eng.map fun g => { g with base := s.now }
                      hamper := { s.hamper with ready := true }
                      trust := { s.trust with image := { s.trust.image with patchLevel := level } } }
    let s := supAccess s
    let s := if bad then sendMsg s srcTsf 0x01 .warn 0 else s
    .next (startPorts (enterQuiet s .verify))
  else .next s

/-- PLL_LOCK_TIMEOUT: 1 ms has passed without a lock; the TSF disables the PLL and enables it again, and after the third
attempt the device enters HALT (R51). DESIGN CHOICE: PLL_EN reads 0 after the third failed attempt, and CLOCK_LOST stays as
it is (log entry 93). -/
def execPllLockTimeout (s : State) : Host.Outcome State Fault Refusal :=
  if s.dev.state == .boot && s.clk.pllEn && !s.clk.pllLock then
    let s := { s with clk := { s.clk with pllFails := s.clk.pllFails + 1 } }
    if s.clk.pllFails < 3 then .next s
    else .next (haltNow { s with clk := { s.clk with pllEn := false } } srcTsf 0x13 0)
  else .next s

/-- REF_PRESENT_TIMEOUT: 100 ms in BOOT without REF_PRESENT (R213). -/
def execRefPresentTimeout (s : State) : Host.Outcome State Fault Refusal :=
  if s.dev.state == .boot && !s.clk.refPresent then .next (haltNow s srcTsf 0x14 0) else .next s

/-- A verification can end: the TSF has the flash and no polling is due, or the flash has failed its reads (R162, R553). -/
def verifyMay (s : State) (x0 x1 : FlashImage) : Bool :=
  s.supOn && (!s.fsp.busyPend || (x0.readError && x1.readError))

/-- VERIFY_COMPLETE: the verification that follows BOOT ends, after the instructor record was read (R163, R164, R176, R209). -/
def execVerifyComplete (x0 x1 : FlashImage) (record : RecordObs) (s : State) : Host.Outcome State Fault Refusal :=
  if s.dev.state == .verify && !s.dev.reverify && verifyMay s x0 x1 then
    let s := lockoutDefault (applyRecord (recordImages (sendExit s) x0 x1) record)
    if (admitted s.otp x0 x1).isSome && !s.power.straps.getLsbD 2 then .next (enterRun s)
    else .next (enterQuiet s .safe)
  else .next s

/-! ### Clock monitors (R78 to R83) -/

/-- The kind of a monitor's message (Table 15.3). -/
def monitorKind : Monitor → Byte
  | .refclk => 0x10
  | .pll => 0x11
  | .rootFreq => 0x12

/-- What a failing monitor shows: REFCLK is gone, and with it the lock; the lock is gone; or a ROOT window was bad. -/
def Clocks.fail (c : Clocks) : Monitor → Clocks
  | .refclk => { c with refPresent := false, aonOnRc := true, pllLock := false, rmiiLock := false }
  | .pll => { c with pllLock := false }
  | .rootFreq => { c with rootFreqOk := false }

/-- A clock monitor fails: in RUN, SAFE, VERIFY, and in BOOT after the first lock, the clock-loss reaction (R80): outputs go to
their fault actions, CLOCK_LOST is set, the message goes to Badger, and the device enters HALT. The lock and frequency
monitors report nothing before the first lock (R78). -/
def clockFails (m : Monitor) (count : Byte) (s : State) : State :=
  if m != .refclk && !s.clk.monitorsOn then s
  else
    let s := { s with clk := s.clk.fail m }
    match s.dev.state with
    | .reset | .halt => s
    | .boot => if s.clk.monitorsOn then react s else s
    | _ => react s
where
  react (s : State) : State :=
    let s := allOff { s with clk := { s.clk with clockLost := true } } true
    haltNow s srcClock (monitorKind m) (if m == .rootFreq then count.toNat else 0)

/-- CLOCK_MONITOR_FAIL. -/
def execClockMonitorFail (m : Monitor) (count : Byte) (s : State) : Host.Outcome State Fault Refusal := .next (clockFails m count s)

/-! ### The reference buffer (R221 to R225) -/

/-- REF_READY_SET: not while an injection has the monitor report REFOUT outside its window (R606). -/
def execRefReadySet (s : State) : Host.Outcome State Fault Refusal :=
  .next (if s.dev.refbufOn && !s.badger.refInjected then setRefReady s true else s)

/-- REF_READY_TIMEOUT: 20 ms after the enable (R222). -/
def execRefReadyTimeout (s : State) : Host.Outcome State Fault Refusal :=
  .next (if s.dev.refbufOn && !s.dev.refReady then sendMsg s srcRef 0x20 .halt s.refMon.mon.toNat else s)

/-- REF_MON in volts: 62.5 µV per step (Table 9.13). -/
def refVoltsOf (mon : W16) : F32 := (Q.mk mon.toNat 16000).toF32

/-- REFOUT has left ±1% for more than 10 µs, or is reported so (R222). -/
def refFails (mon : W16) (s : State) : State :=
  if s.dev.refReady then
    let s := setRefReady s false
    sendMsg { s with dev := { s.dev with refVolts := refVoltsOf mon }, refMon := { s.refMon with mon := mon } }
      srcRef 0x21 .halt mon.toNat
  else s

/-- REF_WINDOW_FAIL. -/
def execRefWindowFail (mon : W16) (s : State) : Host.Outcome State Fault Refusal := .next (refFails mon s)

/-- REF_VOLTS_UPDATE: every 100 µs while REFBUF is on (R372). -/
def execRefVoltsUpdate (mon : W16) (s : State) : Host.Outcome State Fault Refusal :=
  .next (if s.dev.refbufOn then
      { s with dev := { s.dev with refVolts := refVoltsOf mon }, refMon := { s.refMon with mon := mon } }
    else s)

/-! ### The application watchdog (R206) -/

/-- The watchdog expires: the application core is reset and a WARN is sent. The core runs in RUN alone, and not while its
image is verified again (Table 5.4, R190). -/
def wdtExpire (s : State) : State :=
  if s.dev.wdt.on && s.running && !s.dev.reverify then coreReset (sendMsg s srcApp 0x40 .warn 0) else s

/-- APP_WDT_CTRL_WRITE. -/
def execAppWdtCtrlWrite (w : Word) (s : State) : Host.Outcome State Fault Refusal :=
  let period := (w.extractLsb' 0 14).toNat
  if s.dev.wdt.on then .next s
  else if w.getLsbD 31 then
    if within 1 10000 period then
      .next { s with dev := { s.dev with wdt := { on := true, period := period, deadline := s.now + msec period } } }
    else .next s
  else .next { s with dev := { s.dev with wdt := { s.dev.wdt with period := period } } }

/-- APP_WDT_KICK. -/
def execAppWdtKick (w : Word) (s : State) : Host.Outcome State Fault Refusal :=
  if !s.dev.wdt.on then .next s
  else if w == 0x000000A5 then
    .next { s with dev := { s.dev with wdt := { s.dev.wdt with deadline := s.now + msec s.dev.wdt.period } } }
  else .next (wdtExpire s)

/-- APP_WDT_EXPIRE: the period has passed without a kick. -/
def execAppWdtExpire (s : State) : Host.Outcome State Fault Refusal := .next (wdtExpire s)

/-! ### DEVICE_RESET and APP_RESET (R190, R194, R205, R216) -/

/-- DEVICE_RESET: the reply goes out before the reset (R205). -/
def objDeviceReset : Obj :=
  { ty := tU8, acc := .cmd, mgp := .path, range := fun w => w.v == 1
    instr := fun w => w.pre.dev.state == .safe || w.pre.dev.state == .halt ||
      (w.pre.dev.state != .reset && w.pre.trust.instr.state == .unlocked)
    put := fun _ s => { s with dev := { s.dev with resetPending := true } } }

/-- DEVICE_RESET. -/
def execDeviceReset (r : Req) (v : Byte) (s : State) : Host.Outcome State Fault Refusal :=
  .next (perform objDeviceReset r tU8 [v] s)

/-- DEVICE_RESET_TIMEOUT: the reset of an accepted DEVICE_RESET (R201, R205). -/
def execDeviceResetTimeout (s : State) : Host.Outcome State Fault Refusal :=
  .next (if s.dev.resetPending then deviceReset s else s)

/-- APP_RESET. -/
def objAppReset : Obj :=
  { ty := tU8, acc := .cmd, mgp := .unlocked, range := fun w => w.v == 1
    state := fun w => if w.seq.dev.reverify then eBusy
      else if w.pre.dev.state == .run || w.pre.dev.state == .safe then eOk else eState
    put := fun _ s =>
      if s.dev.state == .safe then enterQuiet { s with dev := { s.dev with reverify := true } } .verify else coreReset s }

/-- APP_RESET. -/
def execAppReset (r : Req) (v : Byte) (s : State) : Host.Outcome State Fault Refusal :=
  .next (perform objAppReset r tU8 [v] s)

/-- APP_REVERIFY_COMPLETE: the verification of R190 or R216 ends. -/
def execAppReverifyComplete (x0 x1 : FlashImage) (s : State) : Host.Outcome State Fault Refusal :=
  if s.dev.reverify && verifyMay s x0 x1 then
    let s := recordImages { sendExit s with dev := { s.dev with reverify := false } } x0 x1
    if (admitted s.otp x0 x1).isSome then .next (if s.dev.state == .run then coreReleased s else enterRun s)
    else .next (enterQuiet s .safe)
  else .next s

/-! ### The timebase (R66, R67) -/

/-- TBC_RATE_WRITE: stored as the nearer limit beyond ±858,993, which sets RATE_CLAMP. -/
def execTbcRateWrite (w : Word) (s : State) : Host.Outcome State Fault Refusal :=
  let x := clampInt (-858993) 858993 w.toInt
  .next { s with clk := { s.clk with rate := x, rateClamp := s.clk.rateClamp || x != w.toInt } }

/-- TBC_LOAD: a write of TBC_CMD; LOAD acts on the next CCLK cycle. -/
def execTbcLoad (w : Word) (s : State) : Host.Outcome State Fault Refusal :=
  .next (if w.getLsbD 0 then { s with clk := { s.clk with loadPending := true } } else s)

/-! ### Objects of Tables 2.4 and 5.7 -/

/-- The clock and device objects by index and element. -/
def objsDevice (idx el : Nat) : Option Obj :=
  match idx with
  | 0x0010 => match el with
    | 0x01 => some (roNat tU8 fun s => deviceCode s.dev.state)
    | 0x02 => some (roNat tU16 fun s => s.dev.resetCause.toNat)
    | 0x03 => some (roNat tU32 fun s => s.dev.resetCount.value.toNat)
    | 0x04 => some (roNat tU64 fun s => s.dev.lastHalt.toNat)
    | 0x05 => some objDeviceReset
    | 0x06 => some (roNat tU32 fun s => s.dev.appResets.value.toNat)
    | _ => none
  | 0x0011 => match el with
    | 0x01 => some (roNat tU8 fun s => s.power.straps.toNat)
    | 0x02 => some (roNat tU8 fun s => s.strapLevels.toNat)
    | _ => none
  | 0x0012 => match el with
    | 0x01 => some (roNat tU8 fun s => s.power.good.toNat)
    | _ => none
  | 0x0013 => match el with
    | 0x01 => some (roNat tBool fun s => bNat s.dev.refbufOn)
    | 0x02 => some (roNat tBool fun s => bNat s.dev.refReady)
    | 0x03 => some (roNat tF32 fun s => s.dev.refVolts.toNat)
    | _ => none
  | 0x0020 => match el with
    | 0x01 => some (roNat tBool fun s => bNat s.clk.refPresent)
    | 0x02 => some (roNat tU8 fun s => bNat (s.power.straps.getLsbD 0))
    | 0x03 => some (roNat tBool fun s => bNat s.clk.pllLock)
    | 0x04 => some (roNat tBool fun s => bNat (s.clk.rmiiLock && s.eth.refOut))
    | 0x05 => some (roNat tBool fun s => bNat s.clk.aonOnRc)
    | 0x06 => some (roNat tBool fun s => bNat s.clk.clockLost)
    | _ => none
  | 0x0021 => match el with
    | 0x01 => some (roNat tU64 fun s => s.clk.tbc.toNat)
    | 0x02 => some (roNat tI32 fun s => i32Nat s.clk.rate)
    | _ => none
  | _ => none

end Sys2Proof.Machine
end

