-- ==== Sys2Proof/Machine/Trust.lean ====
section
/-! DEFINITION. Trust and ownership (R144 to R149, R156 to R196): the instructor state and record, instructor limits, key
slots, the protection unit, and channel locks. -/

namespace Sys2Proof.Machine

/-! ### The instructor state (R175 to R180) -/

/-- The verifier of a code: the hash of DEVICE_UID, most significant byte first, followed by the code (R175). -/
def verifierOf (s : State) (code : List Byte) : List Byte := sha512Head (natBytes 8 s.otp.uid.toNat ++ code)

/-- A change that no save holds yet (Table 4.7). -/
def unsaved (s : State) : State := s.modInstr fun t => { t with record := .unsaved }

/-- The TSF writes its lockout record (R177). -/
def writeLockout (s : State) : State :=
  let t := s.trust.instr
  { (supAccess s).flashWritten with lockoutRec := some ⟨t.failedStreak, t.lastLockout, t.state == .lockout⟩ }

/-- A save begins (R180). -/
def beginSave (s : State) : State := s.modInstr fun t => { t with saving := some (recordNow s) }

/-- Factory test mode ends: an injection ends at once, and a held comparator is let go (R607). -/
def endTest (s : State) : State :=
  if s.badger.testActive then
    { s with badger := { s.badger with testActive := false, injections := [] } }.modAllCh fun _ c =>
      { c with clamp := { c.clamp with injV := false, injI := false } }
  else s

/-- UNLOCKED ends, with a save first where changes are unsaved (R179, R180, Table 15.7). -/
def lockInstr (s : State) : State :=
  if s.trust.instr.state == .unlocked then
    let s := if s.trust.instr.record == .unsaved then beginSave s else s
    let s := endTest (s.modInstr fun t => { t with state := .locked })
    raiseEvent s evMgmt 1 2
  else s

/-- The code of UNLOCK is right: it matches the verifier, or no verifier exists and it becomes one (R175). -/
def codeRight (s : State) (code : List Byte) : Bool :=
  match verifierNow s with
  | some v => v == verifierOf s code
  | none => true

/-- A right code (R175, R177). -/
def unlockOk (s : State) (code : List Byte) : State :=
  let claim := (verifierNow s).isNone
  let s := s.modInstr fun t =>
    { t with state := .unlocked, failedStreak := 0, lastLockout := 0, unlockEnd := s.now + secs 600
             verifier := some (verifierOf s code), record := if claim then .unsaved else t.record }
  raiseEvent (writeLockout s) evMgmt 1 1

/-- A wrong code (R177): the fifth of a streak and each further one start a lockout. -/
def unlockWrong (s : State) : State :=
  let t := s.trust.instr
  let streak := Nat.min (t.failedStreak + 1) 255
  if streak < 5 then writeLockout (s.modInstr fun t => { t with failedStreak := streak })
  else
    let len := if t.lastLockout = 0 then 60 else Nat.min 3600 (2 * t.lastLockout)
    writeLockout (beginLockout (s.modInstr fun t => { t with failedStreak := streak, lastLockout := len }) len)

/-- UNLOCK. -/
def objUnlock : Obj :=
  { ty := tBlob, acc := .cmd, mgp := .path, max := 16, range := fun w => within 4 16 w.data.length
    instr := fun w => w.pre.trust.instr.state == .locked
    put := fun w s => if codeRight s w.data then unlockOk s w.data else unlockWrong s
    after := fun w => if codeRight w.pre w.data then eOk else eSignature }

/-- LOCK. -/
def objLock : Obj :=
  { ty := tU8, acc := .cmd, mgp := .unlocked, range := fun w => w.v == 1, put := fun _ s => lockInstr s }

/-- SET_CODE. -/
def objSetCode : Obj :=
  { ty := tBlob, acc := .cmd, mgp := .unlocked, max := 16, range := fun w => within 4 16 w.data.length
    put := fun w s => unsaved (s.modInstr fun t => { t with verifier := some (verifierOf s w.data) }) }

/-- SAVE. -/
def objSave : Obj :=
  { ty := tU8, acc := .cmd, mgp := .unlocked, range := fun w => w.v == 1, put := fun _ s => beginSave s }

/-- UNLOCK. -/
def execUnlock (r : Req) (code : List Byte) (s : State) : Host.Outcome State Fault Refusal :=
  .next (perform objUnlock r tBlob code s)

/-- LOCK. -/
def execLock (r : Req) (v : Byte) (s : State) : Host.Outcome State Fault Refusal := .next (perform objLock r tU8 [v] s)

/-- SET_CODE. -/
def execSetCode (r : Req) (code : List Byte) (s : State) : Host.Outcome State Fault Refusal :=
  .next (perform objSetCode r tBlob code s)

/-- SAVE. -/
def execSave (r : Req) (v : Byte) (s : State) : Host.Outcome State Fault Refusal := .next (perform objSave r tU8 [v] s)

/-- SAVE_COMPLETE: the TSF has the flash, and the write ends (R180, R553). -/
def execSaveComplete (s : State) : Host.Outcome State Fault Refusal := .next (if s.supMay then saveDone s else s)

/-- UNLOCK_TIMEOUT: 600 s without an instructor command (R179). -/
def execUnlockTimeout (s : State) : Host.Outcome State Fault Refusal := .next (lockInstr s)

/-- LOCKOUT_END (R177). -/
def execLockoutEnd (s : State) : Host.Outcome State Fault Refusal :=
  .next (if s.trust.instr.state == .lockout then writeLockout (s.modInstr fun t => { t with state := .locked }) else s)

/-! ### Instructor limits (R168 to R173, Table 4.8) -/

/-- MIN_PERIOD of either channel above the period that is or will be in force: the TSF writes the smallest N that satisfies
both (R173). -/
def raisePeriod (s : State) (e : Eng) : State :=
  let need := Nat.max (minN (s.chan e.slot0).lim.minPeriod) (minN (s.chan e.slot1).lim.minPeriod)
  if (s.engine e).nShadow < need then
    let s := s.modEng e fun g => { g with nShadow := need }
    if s.clocksRun then s else activatePeriod s e
  else s

/-- A limit of a channel: written through the MGP while UNLOCKED; it acts at the channel's next tick boundary (R173). -/
def limObj (n : Ch) (ty : Byte) (legal : W → Bool) (get : Limits → Nat) (set : Nat → Limits → Limits) : Obj :=
  { ty := ty, acc := .rws, mgp := .unlocked, read := fun _ s => natBytes ((typeSize ty).getD 0) (get (s.chan n).lim)
    range := legal
    put := fun w s =>
      raiseEvent (unsaved (raisePeriod (changeLimits s n (set w.v)) n.engine)) evMgmt 1 3 }

/-- The limits of CHn by element. -/
def objLimit (n : Ch) (el : Nat) : Option Obj :=
  match el with
  | 0x01 => some (limObj n tF32 (fun w => fWithin Q.zero (Q.ofNat 1000) w.f) (fun l => l.vMax.toNat)
      fun v l => { l with vMax := BitVec.ofNat 32 v })
  | 0x02 => some (limObj n tF32 (fun w => fWithin Q.zero (Q.ofNat 100) w.f) (fun l => l.iMax.toNat)
      fun v l => { l with iMax := BitVec.ofNat 32 v })
  | 0x03 => some (limObj n tF32 (fun w => fWithin Q.zero (Q.ofNat 100000) w.f) (fun l => l.pMax.toNat)
      fun v l => { l with pMax := BitVec.ofNat 32 v })
  | 0x04 => some (limObj n tU16 (fun w => w.v % 2 == 1 && decide (w.v < 4096)) (fun l => l.modeMask.toNat)
      fun v l => { l with modeMask := BitVec.ofNat 16 v })
  | 0x05 => some (limObj n tF32 (fun w => fWithin ⟨1, 1000000⟩ ⟨1638375, 1000000000⟩ w.f) (fun l => l.minPeriod.toNat)
      fun v l => { l with minPeriod := BitVec.ofNat 32 v })
  | 0x06 => some (limObj n tU8 (fun w => decide (w.v < 32)) (fun l => l.progClasses.toNat)
      fun v l => { l with progClasses := BitVec.ofNat 8 v })
  | 0x07 => some (limObj n tF32 (fun w => fWithin Q.zero Q.one w.f) (fun l => l.lacSpan.toNat)
      fun v l => { l with lacSpan := BitVec.ofNat 32 v })
  | _ => none

/-- LIMIT_WRITE. -/
def execLimitWrite (r : Req) (n : Ch) (el ty : Byte) (data : List Byte) (s : State) : Host.Outcome State Fault Refusal :=
  match objLimit n el.toNat with
  | some o => .next (perform o r ty data s)
  | none => .next (s.reply eNoElement ty 0 [])

/-! ### Key slots (R156 to R158) -/

/-- SLOT_STATE. -/
def KeySlot.state (k : KeySlot) : Nat := if k.disabled then 2 else if k.keyed then 1 else 0

def State.modSlot (s : State) (k : Nat) (f : KeySlot → KeySlot) : State :=
  { s with otp := { s.otp with slots := s.otp.slots.setIfInBounds k (f (s.otp.slots[k]?.getD {})) } }

/-- KEY_PROGRAM: slot, 0xA5 and hash; the slot must be BLANK. -/
def objKeyProgram : Obj :=
  { ty := tBlob, acc := .cmd, mgp := .unlocked
    range := fun w => match w.data with
      | k :: c :: hash =>
        c == 0xA5 && hash.length == 32 && ((w.pre.otp.slots[k.toNat]?.map KeySlot.state) == some 0)
      | _ => false
    put := fun w s => match w.data with
      | k :: _ :: hash => s.modSlot k.toNat fun x => { x with keyed := true, hash := hash }
      | _ => s }

/-- KEY_DISABLE: slot and 0xA5; a slot in any state. -/
def objKeyDisable : Obj :=
  { ty := tBlob, acc := .cmd, mgp := .unlocked
    range := fun w => match w.data with
      | [k, c] => c == 0xA5 && decide (k.toNat < 4)
      | _ => false
    put := fun w s => match w.data with
      | k :: _ => s.modSlot k.toNat fun x => { x with disabled := true }
      | _ => s }

/-- KEY_PROGRAM. -/
def execKeyProgram (r : Req) (data : List Byte) (s : State) : Host.Outcome State Fault Refusal :=
  .next (perform objKeyProgram r tBlob data s)

/-- KEY_DISABLE. -/
def execKeyDisable (r : Req) (data : List Byte) (s : State) : Host.Outcome State Fault Refusal :=
  .next (perform objKeyDisable r tBlob data s)

/-! ### The protection unit (R145, R146) -/

/-- A write of the application core to a TSF-owned register is discarded and counted, and raises a store access fault on the
core; the first after each acknowledge of its message sends a NOTE (R146). -/
def protViolation (s : State) (addr : Nat) : State :=
  let s : State := { s with trust := { s.trust with
    protViol := s.trust.protViol.inc, protLastAddr := BitVec.ofNat 32 addr } }
  let s := s.send (.storeFault (BitVec.ofNat 32 addr))
  if (s.badger.slot 3 srcProt).isSome || s.badger.queue.any (fun m => m.source == srcProt) then s
  else sendMsg s srcProt 0x30 .note ((addr - 0x40000000) / 4)

/-- PROT_VIOLATION. -/
def execProtViolation (addr : Nat) (s : State) : Host.Outcome State Fault Refusal := .next (protViolation s addr)

/-! ### Locks (R181 to R193) -/

def ownerCode : OwnerKind → Nat
  | .none => 0
  | .host => 1
  | .mgmt => 2
  | .loc => 3

def lockCode : LockState → Nat
  | .free => 0
  | .held => 1
  | .ramping => 2

/-- Table 4.5. -/
def claimCode (s : State) (n : Ch) (who : Requester) : Byte :=
  let l := (s.chan n).lock
  match l.state with
  | .ramping => eNotReady
  | .free => if who == .mgmt && s.trust.instr.state != .unlocked then eInstructor else eOk
  | .held =>
    if who == .mgmt then (if s.trust.instr.state == .unlocked then eOk else eInstructor)
    else if holds l who then eOk else eNotOwner

/-- The lock becomes the requester's, unless it is already (R182, Table 15.7). -/
def claimLock (s : State) (n : Ch) (who : Requester) : State :=
  if holds (s.chan n).lock who then s
  else
    let (kind, sid) : OwnerKind × W16 := match who with
      | .host sid => (.host, sid)
      | .mgmt => (.mgmt, 0)
      | _ => (.loc, 0)
    let s := s.modCh n fun c =>
      { c with lock := { kind := kind, session := sid, epoch := c.lock.epoch + 1, state := .held } }
    raiseEvent s evMgmt 0 (n.val + 65536 * (s.chan n).lock.epoch.toNat)

/-- CLAIM. -/
def objClaim (n : Ch) : Obj :=
  { ty := tU8, acc := .cmd, scope := fun _ => .lock n, range := fun w => w.v == 1
    own := fun w => claimCode w.seq n w.req.who, put := fun w s => claimLock s n w.req.who }

/-- RELEASE. -/
def objRelease (n : Ch) : Obj :=
  { ty := tU8, acc := .cmd, scope := fun _ => .lock n, range := fun w => w.v == 1
    own := fun w => if holds (w.seq.chan n).lock w.req.who then eOk else eNotOwner, put := fun _ s => revoke s n }

/-- CLAIM. -/
def execClaim (r : Req) (n : Ch) (v : Byte) (s : State) : Host.Outcome State Fault Refusal :=
  .next (perform (objClaim n) r tU8 [v] s)

/-- RELEASE. -/
def execRelease (r : Req) (n : Ch) (v : Byte) (s : State) : Host.Outcome State Fault Refusal :=
  .next (perform (objRelease n) r tU8 [v] s)

/-- An MGMT revocation condition holds: every MGMT lock is revoked, and UNLOCKED ends (R179, R192). -/
def mgmtRevoke (s : State) : State :=
  let s := forEach allCh s fun s n =>
    let l := (s.chan n).lock
    if l.state == .held && l.kind == .mgmt then revoke s n else s
  lockInstr s

/-- MGMT_ALIVE_TIMEOUT: the alive counter has not advanced for more than 500 ms. -/
def execMgmtAliveTimeout (s : State) : Host.Outcome State Fault Refusal := .next (mgmtRevoke s)

/-! ### Objects of Tables 4.6 to 4.8 and R195 -/

def instrCode : InstrState → Nat
  | .locked => 0
  | .unlocked => 1
  | .lockout => 2

def recordCode : RecordState → Nat
  | .valid => 0
  | .absent => 1
  | .invalid => 2
  | .unsaved => 3

/-- The trust objects by index and element. -/
def objsTrust (idx el : Nat) : Option Obj :=
  match idx with
  | 0x7000 => match el with
    | 0x01 => some (roNat tU16 fun _ => 0x0100)
    | 0x02 => some (roNat tU16 fun s => s.trust.image.patchLevel.toNat)
    | 0x03 => some (roNat tU64 fun s => s.otp.uid.toNat)
    | 0x04 => some (roBlob 32 fun s => s.otp.pubkey)
    | 0x05 => some (roNat tU32 fun s => s.trust.protViol.value.toNat)
    | _ => none
  | 0x7001 => match el with
    | 0x01 => some (roNat tU8 fun s => s.trust.image.active.toNat)
    | 0x02 => some (roNat tBool fun s => bNat s.trust.image.signed)
    | 0x03 => some (roNat tU8 fun s => s.trust.image.keySlot.toNat)
    | 0x04 => some (roNat tU32 fun s => s.trust.image.version.toNat)
    | 0x05 => some (roNat tU32 fun s => s.trust.image.sequence.toNat)
    | 0x06 => some (roNat tU8 fun s => s.trust.image.result0.toNat)
    | 0x07 => some (roNat tU8 fun s => s.trust.image.result1.toNat)
    | _ => none
  | 0x7002 =>
    if 1 ≤ el ∧ el ≤ 4 then some (roNat tU8 fun s => (s.otp.slots[el - 1]?.getD {}).state)
    else if 5 ≤ el ∧ el ≤ 8 then some (roBlob 32 fun s => (s.otp.slots[el - 5]?.getD {}).hash)
    else none
  | 0x7100 => match el with
    | 0x01 => some (roNat tU8 fun s => instrCode s.trust.instr.state)
    | 0x02 => some objUnlock
    | 0x03 => some objLock
    | 0x04 => some objSetCode
    | 0x05 => some objSave
    | 0x06 => some (roNat tU8 fun s => recordCode s.trust.instr.record)
    | 0x07 => some (roNat tU8 fun s => s.trust.instr.failedStreak)
    | 0x08 => some (roNat tU32 fun s =>
        if s.trust.instr.state == .lockout then (s.trust.instr.lockoutEnd - s.now + 239999999) / 240000000 else 0)
    | 0x09 => some objKeyProgram
    | 0x0A => some objKeyDisable
    | 0x0B => some objAppReset
    | _ => none
  | 0x7208 => match el with
    | 0x01 => some (roNat tU32 fun s => s.trust.revocations.value.toNat)
    | _ => none
  | idx =>
    if 0x7110 ≤ idx then
      match chOf (idx - 0x7110), chOf (idx - 0x7200) with
      | some n, _ => objLimit n el
      | none, some n =>
        if idx < 0x7200 then none
        else match el with
          | 0x01 => some (chRo n tU8 fun c => ownerCode c.lock.kind)
          | 0x02 => some (chRo n tU16 fun c => c.lock.session.toNat)
          | 0x03 => some (chRo n tU16 fun c => c.lock.epoch.toNat)
          | 0x04 => some (chRo n tU8 fun c => lockCode c.lock.state)
          | 0x05 => some (objClaim n)
          | 0x06 => some (objRelease n)
          | _ => none
      | none, none => none
    else none

end Sys2Proof.Machine
end

