-- ==== Sys2Proof/Machine/Badger.lean ====
section
/-! DEFINITION. Badger's classification and reactions, acknowledgement, firmware posts, forced messages, factory test mode,
and the objects of Table 15.10 (R585 to R608). -/

namespace Sys2Proof.Machine

/-! ### Classification (R584, R586, R589 to R592) -/

/-- The heads of the sources' queues. -/
def heads : List (BitVec 6) → List Msg → List Msg
  | _, [] => []
  | seen, m :: ms => if seen.contains m.source then heads seen ms else m :: heads (m.source :: seen) ms

/-- `a` is taken before `b`: the higher base level, then the lower source. -/
def takenBefore (a b : Msg) : Bool :=
  b.base.toNat < a.base.toNat || (a.base == b.base && a.source.toNat < b.source.toNat)

/-- The message that Badger takes next (R584). -/
def nextMsg (q : List Msg) : Option Msg :=
  (heads [] q).foldl (fun best m => match best with
    | none => some m
    | some x => if takenBefore m x then some m else some x) none

/-- The level a message gets (R586). -/
def appliedLevel (m : Msg) (slot : Option Slot) : Level :=
  match slot with
  | none => m.base
  | some x =>
    if m.base == .note || x.level == .note then m.base
    else
      let a := m.base.max ((ceilingOf (classOf m.kind)).min x.level.up)
      if a == .trip && (chOfSource m.source).isNone then .halt else a

/-- The detail of a FAULT event (Table 15.7). -/
def faultDetail (m : Msg) (a : Level) (count : Nat) : Nat :=
  a.toNat + 16 * bNat (decide (m.base.toNat < a.toNat)) + 32 * bNat m.forced + 256 * count

/-- What ERROR does to a channel: following error and oscillation hold the set-point source, oscillation reverts LAC, and
an overrun starts the fallback (R319, R335, R251). -/
def Channel.errorAction (c : Channel) (cls : BitVec 4) : Channel :=
  match cls.toNat with
  | 7 => c.holdDue 1
  | 8 =>
    let c := c.holdDue 2
    { c with lac := { c.lac with freezeDue := true } }
  | 9 => { c with mode := { c.mode with overrunDue := true } }
  | _ => c

/-- The reaction to an applied level (Table 15.5, R590, R591). -/
def react (s : State) (m : Msg) (a : Level) : State :=
  match a, chOfSource m.source with
  | .error, some n => s.modCh n fun c => c.errorAction (classOf m.kind)
  | .trip, some n => tripChannel s n
  | .halt, _ => enterHalt s m.word (classOf m.kind == 2)
  | _, _ => s

/-- A message is classified: slot, history, event, ALERT, reaction. -/
def classify (s : State) (m : Msg) : State :=
  let b := s.badger
  let cls := classOf m.kind
  let old := b.slot cls m.source
  let a := appliedLevel m old
  let level := match old with
    | none => a
    | some x => x.level.max a
  let count := Nat.min 255 ((old.map (·.count)).getD 0 + 1)
  let b := { b with slots := putSlot ⟨cls, m.source, level, count⟩ b.slots,
                    alertPulsing := b.alertPulsing || decide (b.alertLevel ≤ a.toNat) }
  let s := { s with badger := b.store m a count }
  let s := if b.faultMin ≤ a.toNat then raiseWith s evFault cls.toNat (faultDetail m a count) m.word else s
  react s m a

/-- BADGER_CLASSIFY. -/
def execBadgerClassify (s : State) : Host.Outcome State Fault Refusal :=
  match nextMsg s.badger.queue with
  | some m => .next (classify { s with badger := { s.badger with queue := s.badger.queue.erase m } } m)
  | none => .next s

/-! ### Acknowledgement (R587, R595, R596) -/

/-- A slot closes by itself: its class has a quiet time, it stands at WARN, and no clamp episode of its channel lasts. -/
def quietCloses (s : State) (cls : BitVec 4) (src : BitVec 6) : Bool :=
  !(f32Val (s.badger.ackQuiet.toList.getD cls.toNat 0)).isZero
    && (match s.badger.slot cls src with
        | some x => x.level == .warn
        | none => false)
    && (match chOfSource src with
        | some n => !(cls == 5 && (s.chan n).clamp.tripped)
        | none => true)

/-- ACK_QUIET_CLOSE: the quiet time of a slot has passed. -/
def execAckQuietClose (cls : Fin 16) (src : BitVec 6) (s : State) : Host.Outcome State Fault Refusal :=
  let c : BitVec 4 := BitVec.ofNat 4 cls.val
  .next (if quietCloses s c src then { s with badger := s.badger.closeSlot c src } else s)

/-- SOURCE and class of a FAULT_ACK value. -/
def ackSource (v : Nat) : BitVec 6 := BitVec.ofNat 6 (v / 256)
def ackClass (v : Nat) : BitVec 4 := BitVec.ofNat 4 v

/-- A value laid out as [13:8] SOURCE and [3:0] class. -/
def slotValue (v : Nat) : Bool := decide (v < 0x4000) && decide (v / 16 % 16 = 0)

/-- The requester holds the channel that a source names, or is MGMT; a source that is no channel needs neither. -/
def mayActOn (s : State) (who : Requester) (src : BitVec 6) : Bool :=
  match chOfSource src with
  | some n => who == .mgmt || holds (s.chan n).lock who
  | none => true

/-- The scope that a named source gives a write: the channel's epoch for a channel source (R595, R604). -/
def sourceScope (src : BitVec 6) : Scope :=
  match chOfSource src with
  | some n => .lock n
  | none => .session

/-- FAULT_ACK (R595). -/
def objFaultAck : Obj :=
  { ty := tU16, acc := .cmd
    scope := fun w => if w.v = 0xFFFF then .session else sourceScope (ackSource w.v)
    range := fun w => w.v == 0xFFFF || slotValue w.v
    own := fun w => if w.v = 0xFFFF || mayActOn w.seq w.req.who (ackSource w.v) then eOk else eNotOwner
    instr := fun w => w.v == 0xFFFF || w.req.path == .mgp ||
      (match w.seq.badger.slot (ackClass w.v) (ackSource w.v) with
       | some x => x.level != .halt
       | none => true)
    put := fun w s =>
      let b := s.badger
      if w.v = 0xFFFF then
        let mine := b.slots.filter fun x =>
          (w.req.path == .mgp || x.level != .halt) && mayActOn s w.req.who x.source
        { s with badger := mine.foldl (fun b x => b.closeSlot x.cls x.source) b }
      else { s with badger := b.closeSlot (ackClass w.v) (ackSource w.v) } }

/-- FAULT_ACK. -/
def execFaultAck (r : Req) (v : W16) (s : State) : Host.Outcome State Fault Refusal :=
  .next (perform objFaultAck r tU16 (natBytes 2 v.toNat) s)

/-! ### Posts and forced messages (R603, R604) -/

/-- APP_POST: DETAIL in [23:0], WARN in [24]. -/
def execAppPost (w : Word) (s : State) : Host.Outcome State Fault Refusal :=
  .next (sendMsg s srcApp 0x41 (if w.getLsbD 24 then .warn else .note) (w.toNat % 2 ^ 24))

/-- The kinds of a source (Tables 15.2 and 15.3). -/
def kindsOf (src : Nat) : List Nat :=
  match src with
  | 0x00 => [0x00, 0x01, 0x02, 0x03, 0x04, 0x13, 0x14, 0x42, 0xC2]
  | 0x01 => [0x10, 0x11, 0x12]
  | 0x02 => [0x20, 0x21]
  | 0x03 => [0x30]
  | 0x04 => [0x40, 0x41]
  | 0x05 => [0xB1, 0xC0, 0xC1]
  | 0x10 | 0x11 | 0x12 => [0xD0, 0xD1, 0xD2, 0xD3]
  | 0x13 => [0xB2, 0xB3, 0xD4, 0xD5, 0xE0, 0xE1, 0xE2]
  | 0x14 => [0x31, 0xF0, 0xF1, 0xF2]
  | k => if 8 ≤ k ∧ k < 16 then [0x50, 0x51, 0x60, 0x70, 0x80, 0x90, 0xA0, 0xB0] else []

/-- A forced message as FORCE carries it: SOURCE, KIND, LEVEL and DETAIL. -/
def forceLegal (data : List Byte) : Bool :=
  let src := beNat (slice data 0 1)
  let level := beNat (slice data 2 1)
  decide (data.length = 6) && (kindsOf src).contains (beNat (slice data 1 1)) && decide (level ≤ 4)
    && (level != 3 || (8 ≤ src && src < 16))

/-- The source that FORCE names. -/
def forceSource (data : List Byte) : BitVec 6 := BitVec.ofNat 6 (beNat (slice data 0 1))

/-- FORCE (R604). -/
def objForce : Obj :=
  { ty := tBlob, acc := .cmd, max := 6
    scope := fun w => sourceScope (forceSource w.data)
    range := fun w => forceLegal w.data
    own := fun w => if mayActOn w.seq w.req.who (forceSource w.data) then eOk else eNotOwner
    state := fun w =>
      if w.pre.dev.state == .reset || (w.req.path == .rop && !w.pre.running) then eState else eOk
    instr := fun w => beNat (slice w.data 2 1) != 4 ||
      (w.req.path == .mgp && w.pre.trust.instr.state == .unlocked)
    put := fun w s =>
      sendFull s (forceSource w.data) (BitVec.ofNat 8 (beNat (slice w.data 1 1))) (levelOf (beNat (slice w.data 2 1)))
        (BitVec.ofNat 24 (beNat (slice w.data 3 3))) true }

/-- FORCE. -/
def execForce (r : Req) (data : List Byte) (s : State) : Host.Outcome State Fault Refusal :=
  .next (perform objForce r tBlob data s)

/-! ### Factory test mode (R605 to R607) -/

/-- TEST_ENTER (R605). -/
def objTestEnter : Obj :=
  { ty := tU8, acc := .cmd, mgp := .unlocked
    state := fun w => if w.pre.dev.state == .safe || w.pre.dev.state == .run then eOk else eState
    instr := fun w => w.v == 0xA5 && w.pre.power.straps.getLsbD 3
    put := fun _ s =>
      if s.badger.testActive then s
      else sendMsg { s with badger := { s.badger with testActive := true } } srcTsf 0x04 .warn 0 }

/-- TEST_EXIT (R607). -/
def objTestExit : Obj :=
  { ty := tU8, acc := .cmd, mgp := .unlocked, range := fun w => w.v == 1, put := fun _ s => endTest s }

/-- TARGET, ARG and VALUE of an injection that Table 15.9 allows. -/
def injectLegal (data : List Byte) : Bool :=
  let arg := beNat (slice data 1 2)
  let value := beNat (slice data 3 2)
  decide (data.length = 5) && (match beNat (slice data 0 1) with
    | 1 => decide (arg < 16) && decide (1 ≤ value)
    | 2 => decide (arg < 16384) && within 1 2 value
    | 3 => decide (arg < 16384) && value == 2
    | 4 => arg == 0 && decide (1 ≤ value)
    | 5 => arg == 0 && value == 1
    | 6 => decide (arg ≤ 2) && within 1 1000 value
    | _ => false)

/-- The comparator of an injection of target 1 is held, or let go. -/
def holdComparator (s : State) (arg : Nat) (on : Bool) : State :=
  match chOf (arg / 2) with
  | some n => s.modCh n fun c =>
      { c with clamp := if arg % 2 = 0 then { c.clamp with injV := on } else { c.clamp with injI := on } }
  | none => s

/-- How the detector of an injection reacts at once: the comparator is held tripped; a reference monitor that reports REFOUT outside
±1% for more than 10 µs raises its fault; REFCLK's monitor fails its window, the one that the injection names, and code errors go
out on a port. The ECC targets act when Hamper next stores a record or reads a descriptor (R222, R606, Table 15.9; log entry 130). -/
def injectAt (s : State) (target arg value : Nat) : State :=
  match target with
  | 1 => (match chOf (arg / 2) with
    | some n => clampTrip (holdComparator s arg true) n (if arg % 2 = 0 then .v else .i)
    | none => s)
  | 4 => if 10 < value then refFails s.refMon.mon s else s
  | 5 =>
    let s := clockFails .refclk 0 s
    { s with badger := { s.badger with injections := s.badger.injections.filter (·.target != 5) } }
  | 6 => if s.linkOn then s.send (.codeErrors ⟨arg % 3, Nat.mod_lt _ (by decide)⟩ value) else s
  | _ => s

/-- INJECT (R606). -/
def objInject : Obj :=
  { ty := tBlob, acc := .cmd, mgp := .unlocked, max := 5, range := fun w => injectLegal w.data
    state := fun w => if w.seq.badger.testActive then eOk else eState
    put := fun w s =>
      let arg := beNat (slice w.data 1 2)
      let value := beNat (slice w.data 3 2)
      let target := beNat (slice w.data 0 1)
      let ends := s.now + (if target = 1 ∨ target = 4 then usec value else 0)
      let s := { s with badger := { s.badger with injections := s.badger.injections ++ [⟨target, arg, value, ends⟩] } }
      injectAt s target arg value }

/-- TEST_ENTER. -/
def execTestEnter (r : Req) (v : Byte) (s : State) : Host.Outcome State Fault Refusal :=
  .next (perform objTestEnter r tU8 [v] s)

/-- TEST_EXIT. -/
def execTestExit (r : Req) (v : Byte) (s : State) : Host.Outcome State Fault Refusal :=
  .next (perform objTestExit r tU8 [v] s)

/-- INJECT. -/
def execInject (r : Req) (data : List Byte) (s : State) : Host.Outcome State Fault Refusal :=
  .next (perform objInject r tBlob data s)

/-- The injection that ends first, of those that last for a time. -/
def nextEnding (l : List Injection) : Option Injection :=
  (l.filter fun j => j.target != 2 && j.target != 3).foldl (fun best j => match best with
    | none => some j
    | some x => if j.ends < x.ends then some j else some x) none

/-- INJECTION_END: the duration of the injection that ends first is over. -/
def execInjectionEnd (s : State) : Host.Outcome State Fault Refusal :=
  match nextEnding s.badger.injections with
  | some j =>
    let rest := s.badger.injections.erase j
    let s := { s with badger := { s.badger with injections := rest } }
    .next (if j.target == 1 then holdComparator s j.arg (rest.any fun x => x.target == 1 && x.arg == j.arg) else s)
  | none => .next s

/-! ### Pins and events (R598, R600, R609) -/

/-- ALERT_PULSE_END. -/
def execAlertPulseEnd (s : State) : Host.Outcome State Fault Refusal :=
  .next { s with badger := { s.badger with alertPulsing := false } }

def State.modLine (s : State) (x : Fin 4) (f : EventLine → EventLine) : State :=
  { s with events := { s.events with lines := s.events.lines.set x.val (f s.events.lines[x.val]) } }

/-- EVT_PULSE_END. -/
def execEvtPulseEnd (x : Fin 4) (s : State) : Host.Outcome State Fault Refusal :=
  .next (s.modLine x fun l => { l with pulsing := false })

/-- Bits of PENDING cleared. -/
def EventLine.clear (l : EventLine) (mask : Word) : EventLine := { l with pending := l.pending &&& ~~~mask }

/-- CLEAR of a line (R600). -/
def objEvtClear (x : Fin 4) : Obj :=
  { ty := tU32, acc := .cmd, put := fun w s => s.modLine x fun l => l.clear w.word }

/-- EVT_CLEAR. -/
def execEvtClear (r : Req) (x : Fin 4) (mask : Word) (s : State) : Host.Outcome State Fault Refusal :=
  .next (perform (objEvtClear x) r tU32 (natBytes 4 mask.toNat) s)

/-- FIFO_POP: the head event record is removed. -/
def execFifoPop (s : State) : Host.Outcome State Fault Refusal :=
  .next { s with events := { s.events with fifo := s.events.fifo.drop 1 } }

/-! ### Objects of Table 15.10 -/

/-- The causes of a line (Table 15.7). -/
def lineCauses (x : Fin 4) : Nat :=
  match x with
  | 0 => 0x3
  | 1 => 0x1FF
  | 2 => 0xFFFF
  | 3 => 0xF

/-- OPEN_LEVELS: bit l is set while a slot is open at level l. -/
def Badger.openLevels (b : Badger) : Nat :=
  ([Level.note, .warn, .error, .trip, .halt].map fun l => if b.slots.any (·.level == l) then 2 ^ l.toNat else 0).sum

/-- Level and count of the slot that a selection names; 7 and 0 for a closed one. -/
def Badger.selected (b : Badger) (sel : W16) : Nat × Nat :=
  match b.slot (ackClass sel.toNat) (ackSource sel.toNat) with
  | some x => (x.level.toNat, x.count)
  | none => (7, 0)

/-- A setting of Badger. -/
def badgerNat (ty : Byte) (legal : Nat → Bool) (get : Badger → Nat) (set : Nat → Badger → Badger) : Obj :=
  rwNat ty .rw legal (fun s => get s.badger) fun v s => { s with badger := set v s.badger }

/-- Legal values of ACK_QUIET: 0, or 0.1 to 60 s. -/
def quietLegal (q : Q) : Bool := q.isZero || fWithin ⟨1, 10⟩ ⟨60, 1⟩ q

/-- The objects of one event line. -/
def objsLine (x : Fin 4) (el : Nat) : Option Obj :=
  match el with
  | 1 => some (rwNat tU32 .rw (fun v => v &&& lineCauses x == v) (fun s => s.events.lines[x.val].mask.toNat)
      fun v s => s.modLine x fun l => { l with mask := BitVec.ofNat 32 v })
  | 2 => some (roNat tU32 fun s => s.events.lines[x.val].pending.toNat)
  | 3 => some (objEvtClear x)
  | 4 => some (rwNat tBool .rw (fun _ => true) (fun s => bNat s.events.lines[x.val].pulse)
      fun v s => s.modLine x fun l => { l with pulse := v == 1 })
  | 5 => some (roNat tU32 fun s => s.events.lines[x.val].count.value.toNat)
  | _ => none

/-- The objects of Badger itself (obj 0x6100). -/
def objsBadgerMain (el : Nat) : Option Obj :=
  match el with
  | 0x01 => some (roNat tU8 fun s => s.badger.openLevels)
  | 0x02 => some (roNat tBool fun s => bNat s.faultLow)
  | 0x03 => some objFaultAck
  | 0x04 => some (roNat tU32 fun s => s.badger.histSeq.value.toNat)
  | 0x05 => some
      { ty := tU16, acc := .rw, read := fun who s => natBytes 2 (s.relative who).openSel.toNat
        range := fun w => slotValue w.v
        put := fun w s => s.modRelative w.req.who fun x => { x with openSel := BitVec.ofNat 16 w.v } }
  | 0x06 => some { ty := tU8, acc := .ro, read := fun who s => natBytes 1 (s.badger.selected (s.relative who).openSel).1 }
  | 0x07 => some { ty := tU8, acc := .ro, read := fun who s => natBytes 1 (s.badger.selected (s.relative who).openSel).2 }
  | 0x08 => some (roNat tU32 fun s => s.badger.histDropped.value.toNat)
  | 0x09 => some (roNat tU32 fun s => s.badger.msgLost.value.toNat)
  | 0x0A => some (badgerNat tU8 (within 0 4) (·.alertLevel) fun v b => { b with alertLevel := v })
  | 0x0B => some (badgerNat tU32 (within 10 1000000) (·.alertPulse) fun v b => { b with alertPulse := v })
  | 0x0C => some (badgerNat tBool (fun _ => true) (fun b => bNat b.alertSw) fun v b => { b with alertSw := v == 1 })
  | _ => none

/-- The objects of Table 15.10. -/
def objsBadger (idx el : Nat) : Option Obj :=
  match idx with
  | 0x6000 => objsLine 0 el
  | 0x6001 => objsLine 1 el
  | 0x6002 => objsLine 2 el
  | 0x6003 => objsLine 3 el
  | 0x6004 =>
    match el with
    | 1 => some (badgerNat tU8 (within 0 4) (·.faultMin) fun v b => { b with faultMin := v })
    | 2 => some (roNat tU32 fun s => s.events.fifoLost.value.toNat)
    | _ => none
  | 0x6100 => objsBadgerMain el
  | 0x6101 =>
    if 1 ≤ el ∧ el ≤ 0x20 then
      some (roBlob 16 fun s => ((s.badger.history[el - 1]?).map HistEntry.bytes).getD [])
    else none
  | 0x6102 =>
    if 1 ≤ el ∧ el ≤ 0x10 then
      some (rwF32 .rw quietLegal (fun s => s.badger.ackQuiet.toList.getD (el - 1) 0)
        fun v s => { s with badger := { s.badger with ackQuiet := s.badger.ackQuiet.setIfInBounds (el - 1) v } })
    else none
  | 0x6103 =>
    if 1 ≤ el ∧ el ≤ 0x10 then some (roNat tU8 fun _ => (ceilingOf (BitVec.ofNat 4 (el - 1))).toNat) else none
  | 0x6104 => if el = 1 then some objForce else none
  | 0x6105 =>
    match el with
    | 1 => some (roNat tBool fun s => bNat s.badger.testActive)
    | 2 => some objTestEnter
    | 3 => some objTestExit
    | 4 => some objInject
    | _ => none
  | _ => none

end Sys2Proof.Machine
end

