-- ==== Sys2Proof/Machine/Wire.lean ====
section
/-! DEFINITION. The ROP header on the wire (Table 3.4), the answers an entry unit gives for a transaction that it forwarded
(R125, R126, R506, R524), and the device states in which the Ronko ports run (R527). -/

namespace Sys2Proof.Machine

/-- A ROP header (Table 3.4). -/
def ropHeader (flags : Byte) (session seq dest timeout : W16) (count : Nat) (status : Byte) (retry : Nat) : List Byte :=
  [0x52, 0x50, 0x01, flags] ++ natBytes 2 session.toNat ++ natBytes 2 seq.toNat ++ natBytes 2 dest.toNat
    ++ natBytes 2 timeout.toNat ++ [BitVec.ofNat 8 count, status] ++ natBytes 2 retry

/-- An answer with a code is counted under its name (Table 3.12). -/
def Rop.countAnswer (r : Rop) (code : Byte) : Rop :=
  if code == eBusy then { r with busyCount := r.busyCount + 1 }
  else if code == eSequence then { r with seqErrors := r.seqErrors + 1 }
  else if code == eTimeout then { r with timeouts := r.timeouts + 1 }
  else r

/-- The entry unit answers a forwarded transaction itself, once, and ends it. -/
def answerForwarded (s : State) (f : Forwarded) (code : Byte) (retry : Nat) : State :=
  let rop := { s.rop with forwarded := s.rop.forwarded.erase f }
  State.sendUdp { s with rop := rop.countAnswer code } f.peer.ip f.peer.port
    (ropHeader 0x80 f.session f.seq f.dest f.timeout 0 code retry)

/-- Every transaction that waits for a tunnelled response is answered E_NOT_READY (R506). -/
def answerAll (s : State) : State := s.rop.forwarded.foldl (fun s f => answerForwarded s f eNotReady 0) s

/-- The code for a TUN_NACK's reason, and its RETRY_AFTER (Table 13.9). -/
def nackCode (reason : Byte) : Option (Byte × Nat) :=
  match reason.toNat with
  | 1 => some (eCrc, 0)
  | 2 => some (eState, 0)
  | 3 => some (eBusy, 1)
  | 4 => some (eNotReady, 0)
  | _ => none

/-- Myvex runs: the device is in RUN and the core is not held (R527, R190). -/
def State.coreRuns (s : State) : Bool := s.running && !s.dev.reverify

end Sys2Proof.Machine
end

