-- ==== Sys2Proof/Machine/Ronko.lean ====
section
/-! DEFINITION. The Ronko link but for received frames: ports and their link controls, sending and forwarding, routes,
enumeration, and TUN_NACK (R482 to R507, R522 to R525). -/

namespace Sys2Proof.Machine

/-! ### Ports -/

/-- RKU, RKL and RKM. -/
def rku : Port := 0
def rkl : Port := 1
def rkm : Port := 2

def State.active (s : State) (p : Port) : Bool := (s.port p).link == .active

/-- The unit is a root: its RKU is not ACTIVE (R482). -/
def State.isRoot (s : State) : Bool := !s.active rku

/-- The role a port names in HELLO: 1 up, 2 down (Table 13.7). -/
def roleOfPort (p : Port) : Nat := if p = 0 then 1 else 2

def State.modNode (s : State) (f : Node → Node) : State := { s with ronko := { s.ronko with node := f s.ronko.node } }

def State.modTime (s : State) (f : TimeSt → TimeSt) : State := { s with ronko := { s.ronko with time := f s.ronko.time } }

def State.modTrig (s : State) (f : Triggers → Triggers) : State :=
  { s with ronko := { s.ronko with trig := f s.ronko.trig } }

def State.modTun (s : State) (f : Tunnel → Tunnel) : State := { s with ronko := { s.ronko with tun := f s.ronko.tun } }

/-! ### Sending (R497 to R499, R502) -/

/-- A new frame of a class can go out: its port is ACTIVE, holds a credit, and has room in its retry store, where no frame waits to
be sent again before it (R498, R499). -/
def PortSt.canX (q : PortSt) : Bool :=
  q.link == .active && decide (0 < q.xcredits) && decide (q.xkept.length < 4) && q.xkept.all fun k => !k.again
def PortSt.canN (q : PortSt) : Bool :=
  q.link == .active && decide (0 < q.credits) && decide (q.kept.length < 8) && q.kept.all fun k => !k.again

/-- Bytes with their CRC-32, most significant byte first (R495). -/
def withCrc (bytes : List Byte) : List Byte := bytes ++ natBytes 4 (crc32 bytes).toNat

/-- A normal frame goes out on a port with its CRC-32, and an IDLE pair after it (R486). -/
def State.sendFrame (s : State) (p : Port) (bytes : List Byte) : State := (s.send (.frame p (withCrc bytes))).send (.idlePair p)

/-- A normal frame with the port's next LSEQ (R497, R498). -/
def sendNormal (s : State) (p : Port) (bytes : List Byte) : State :=
  let q := s.port p
  let out := bytes.set 1 q.txSeq
  let s := s.modPort p fun q =>
    { q with txSeq := q.txSeq + 1, credits := q.credits - 1, txFrames := q.txFrames.inc,
             kept := q.kept ++ [⟨q.txSeq, out, 1, false⟩] }
  s.sendFrame p out

/-- An express frame with the port's next XSEQ. -/
def sendExpress (s : State) (p : Port) (bytes : List Byte) : State :=
  let q := s.port p
  let out := bytes.set 1 q.txXseq
  let s := s.modPort p fun q =>
    { q with txXseq := q.txXseq + 1, xcredits := q.xcredits - 1, txFrames := q.txFrames.inc,
             xkept := q.xkept ++ [⟨q.txXseq, out, 1, false⟩] }
  s.send (.express p (withCrc out))

/-- A link control goes out with its CHECK (R496). -/
def sendLc (s : State) (p : Port) (type value : Byte) : State := s.send (.linkControl p type value (crc8 [type, value]))

/-- A frame received on a port still waits at some output. -/
def stillHeld (s : State) (from_ : Port) (bytes : List Byte) (express : Bool) : Bool :=
  allPort.any fun o =>
    (if express then (s.port o).outX else (s.port o).outFwd).contains (from_, bytes)

/-- The receive buffer of a frame is freed once no output holds it: its credit goes back (R499). -/
def freeBuffer (s : State) (from_ : Port) (bytes : List Byte) (express : Bool) : State :=
  if stillHeld s from_ bytes express || !s.active from_ then s else sendLc s from_ (if express then 0x06 else 0x05) 1

/-- The forwarded normal frame that goes next: the oldest from the input port that was not served last, else the oldest
(R502). -/
def nextForward (q : PortSt) : Option (Port × List Byte) :=
  match q.outFwd.find? (fun x => some x.1 != q.lastIn) with
  | some x => some x
  | none => q.outFwd.head?

/-- A route of a segment for a node ID below a port. -/
def inSubtree (q : PortSt) (dest : W16) : Bool :=
  decide (q.subFirst ≤ dest.toNat) && decide (dest.toNat < q.subFirst + q.subCount)

/-- The output for a node ID once the tree is enumerated: the subtree's port, else RKU (R500). -/
def portFor (s : State) (dest : W16) : Port :=
  if inSubtree (s.port rkl) dest then rkl else if inSubtree (s.port rkm) dest then rkm else rku

/-- The port that the head segment of a transmit slot needs, if the slot is sending. -/
def TxSlot.wants (s : State) (x : TxSlot) : Option Port :=
  if x.state == 1 && !x.segs.isEmpty then some (portFor s (x.d0.extractLsb' 0 16)) else none

/-- A local normal frame waits for a port (R502). -/
def localWaits (s : State) (p : Port) : Bool :=
  s.ronko.sup.any (fun x => x.port == p && !x.express) || s.ronko.tun.tx.toList.any fun x => x.wants s == some p

/-- The first kept frame that waits to be sent again has gone: its attempts count (R498). -/
def markSent : List Kept → List Kept
  | [] => []
  | k :: rest => if k.again then { k with again := false, attempts := k.attempts + 1 } :: rest else k :: markSent rest

/-- A kept express frame is sent again; it takes a credit (R498, R499). -/
def resendX (s : State) (p : Port) (k : Kept) : State :=
  let s := s.modPort p fun q => { q with xkept := markSent q.xkept, xcredits := q.xcredits - 1, retries := q.retries.inc }
  s.send (.express p (withCrc k.bytes))

/-- A kept normal frame is sent again; it takes a credit (R498, R499). -/
def resendN (s : State) (p : Port) (k : Kept) : State :=
  let s := s.modPort p fun q => { q with kept := markSent q.kept, credits := q.credits - 1, retries := q.retries.inc }
  s.sendFrame p k.bytes

/-- The normal frame that goes next on an output: one that is sent again, then a forwarded one (R498, R502). -/
def pumpNormal (s : State) (p : Port) : State :=
  let q := s.port p
  match q.kept.find? (·.again) with
  | some k => if 0 < q.credits then resendN s p k else s
  | none => match nextForward q with
    | some x =>
      if q.canN && !(localWaits s p && 4 ≤ q.fwdRow) then
        let row := if localWaits s p then q.fwdRow + 1 else 0
        let s := sendNormal
          (s.modPort p fun q => { q with outFwd := q.outFwd.erase x, lastIn := some x.1, fwdRow := row }) p x.2
        freeBuffer s x.1 x.2 false
      else s
    | none => s

/-- One frame of an output is sent, if one can be: an express frame first, and where none can go, a normal one (R502). -/
def pumpOne (s : State) (p : Port) : State :=
  let q := s.port p
  match q.xkept.find? (·.again), q.outX with
  | some k, _ => if 0 < q.xcredits then resendX s p k else pumpNormal s p
  | none, x :: rest =>
    if q.canX then
      let s := sendExpress (s.modPort p fun q => { q with outX := rest }) p x.2
      freeBuffer s x.1 x.2 true
    else pumpNormal s p
  | none, [] => pumpNormal s p

/-- Frames of an output are sent as far as credits and the retry store allow. -/
def pump (s : State) (p : Port) : State :=
  let q := s.port p
  forEach (List.range (q.outX.length + q.outFwd.length + q.xkept.length + q.kept.length)) s fun s _ => pumpOne s p

/-- A forwarded frame joins the queues of its outputs; with none, its buffer is free at once. -/
def forward (s : State) (from_ : Port) (outs : List Port) (bytes : List Byte) (express : Bool) : State :=
  let s := forEach outs s fun s o => s.modPort o fun q =>
    if express then { q with outX := q.outX ++ [(from_, bytes)] } else { q with outFwd := q.outFwd ++ [(from_, bytes)] }
  if outs.isEmpty then freeBuffer s from_ bytes express else forEach outs s pump

/-! ### Frames (R493, Table 13.6) -/

/-- This unit's node ID as SRC carries it. -/
def State.srcId (s : State) : W16 := s.ronko.node.id.getD 0xFFFF

/-- A normal frame without its CRC. -/
def normalFrame (s : State) (kind : Byte) (dest : W16) (payload : List Byte) : List Byte :=
  [kind, 0] ++ natBytes 2 dest.toNat ++ natBytes 2 s.srcId.toNat ++ natBytes 2 payload.length ++ payload

/-- A frame of the supervisor waits for its grant, if its port is ACTIVE. -/
def queueSup (s : State) (p : Port) (kind : Byte) (dest : W16) (payload : List Byte) : State :=
  if s.active p then
    { s with ronko := { s.ronko with sup := s.ronko.sup ++ [⟨p, false, normalFrame s kind dest payload⟩] } }
  else s

/-- A TIME frame of the supervisor, an express frame, waits for its grant (R465, R509). -/
def queueTime (s : State) (p : Port) (bytes : List Byte) : State :=
  { s with ronko := { s.ronko with sup := s.ronko.sup ++ [⟨p, true, bytes⟩] } }

/-! ### Routes (R500) -/

/-- A frame is for this unit, and the ports it goes out on. -/
structure Route where
  here : Bool
  outs : List Port
  deriving DecidableEq, Repr

/-- The ACTIVE ports but the one a frame came from. -/
def floodPorts (s : State) (from_ : Option Port) : List Port := allPort.filter fun p => s.active p && some p != from_

/-- The route of a destination; `topo` marks a TOPO_CHANGE. A port that is not ACTIVE takes nothing. -/
def routeOf (s : State) (from_ : Option Port) (dest : W16) (topo : Bool) : Route :=
  let n := s.ronko.node
  if dest == 0xFFFE then ⟨true, []⟩
  else if n.enum == .rootless || n.enum == .unadmitted then ⟨false, []⟩
  else if dest == 0xFFFF then ⟨true, floodPorts s from_⟩
  else if topo then (if s.isRoot then ⟨true, []⟩ else ⟨false, [rku]⟩)
  else if n.enum != .ready then ⟨false, []⟩
  else if n.id == some dest then ⟨true, []⟩
  else
    let p := portFor s dest
    ⟨false, if s.active p then [p] else []⟩

/-! ### TUN_NACK (R523, R524) -/

/-- A receive slot that is free (R523). -/
def freeSlot (t : Tunnel) : Option (Fin 8) :=
  ([0, 1, 2, 3, 4, 5, 6, 7] : List (Fin 8)).find? fun i => !t.rx[i.val].filling && !t.rx[i.val].full

def Tunnel.setRx (t : Tunnel) (i : Fin 8) (x : RxSlot) : Tunnel := { t with rx := t.rx.set i.val x }

/-- A TUN_NACK for this unit: it fills a receive slot, and Myvex answers the host once with the mapped code (R524). -/
def takeNack (s : State) (src tag entry : W16) (reason : Byte) : State :=
  let s := s.modTun fun t => { t with nackRx := t.nackRx.inc }
  if !s.coreRuns then s
  else
    let s := s.modTun fun t =>
      match (if t.rxEn then freeSlot t else none) with
      | some i => t.setRx i { full := true, kind := 3, src := src, tag := tag, entry := entry, reason := reason }
      | none => { t with reasmDrops := t.reasmDrops.inc }
    match nackCode reason, s.rop.forwarded.find? (fun f => f.tag == tag) with
    | some (code, retry), some f => answerForwarded s f code retry
    | _, _ => s

/-- A TUN_NACK goes to the entry unit when it can be reached. -/
def sendNack (s : State) (entry tag : W16) (reason : Byte) : State :=
  let r := routeOf s none entry false
  let s := if r.here || !r.outs.isEmpty then s.modTun fun t => { t with nackTx := t.nackTx.inc } else s
  if r.here then takeNack s s.srcId tag entry reason
  else forEach r.outs s fun s p =>
    queueSup s p 0x13 entry (natBytes 2 tag.toNat ++ natBytes 2 entry.toNat ++ [reason])

/-- ENTRY and TAG of a tunnel segment in a frame without its CRC; none for a frame of another kind. -/
def segmentOf (bytes : List Byte) : Option (W16 × W16) :=
  if beNat (slice bytes 0 1) / 16 = 1 && beNat (slice bytes 0 1) != 0x13 && decide (24 ≤ bytes.length) then
    some (BitVec.ofNat 16 (beNat (slice bytes 10 2)), BitVec.ofNat 16 (beNat (slice bytes 8 2)))
  else none

/-- A discarded frame: a tunnel segment causes a TUN_NACK. -/
def nackFrame (s : State) (bytes : List Byte) (reason : Byte) : State :=
  match segmentOf bytes with
  | some (entry, tag) => sendNack s entry tag reason
  | none => s

/-! ### Transmit slots of the tunnel (R522) -/

/-- The tunnel header of a segment (R522). -/
def tunHeader (tag entry : W16) (ip : Word) (port : W16) (seg count total : Nat) : List Byte :=
  natBytes 2 tag.toNat ++ natBytes 2 entry.toNat ++ natBytes 4 ip.toNat ++ natBytes 2 port.toNat
    ++ [BitVec.ofNat 8 seg, BitVec.ofNat 8 count] ++ natBytes 2 total ++ [0, 0]

/-- The fields of a transmit slot. -/
def TxSlot.dest (x : TxSlot) : W16 := x.d0.extractLsb' 0 16
def TxSlot.kind (x : TxSlot) : Nat := x.d0.toNat / 65536
def TxSlot.tag (x : TxSlot) : W16 := x.d1.extractLsb' 0 16
def TxSlot.len (x : TxSlot) : Nat := (x.d1.extractLsb' 16 11).toNat
def TxSlot.entry (x : TxSlot) : W16 := (x.d3.extractLsb' 16 12).setWidth 16

/-- The payloads of a datagram's segments, 240 data bytes each (R522). -/
def TxSlot.payloads (x : TxSlot) (data : List Byte) : List (List Byte) :=
  let count := (data.length + 239) / 240
  (List.range count).map fun i =>
    tunHeader x.tag x.entry x.d2 (x.d3.extractLsb' 0 16) i count data.length ++ (data.drop (240 * i)).take 240

/-- The frame of a slot's head segment, without its CRC: KIND, DEST and SRC before the payload (R493, R522). -/
def TxSlot.frame (s : State) (x : TxSlot) : List Byte :=
  normalFrame s (BitVec.ofNat 8 (0x10 + x.kind)) x.dest (x.segs.headD [])

def Tunnel.setTx (t : Tunnel) (k : Fin 4) (x : TxSlot) : Tunnel := { t with tx := t.tx.set k.val x }

/-- A slot begins to send a datagram; without a route its segments are discarded (R500, R522). -/
def startTx (s : State) (k : Fin 4) (x : TxSlot) (data : List Byte) : State :=
  if (routeOf s none x.dest false).outs.isEmpty then
    sendNack (s.modTun fun t => t.setTx k { x with state := 3, segs := [] }) x.entry x.tag 4
  else s.modTun fun t => t.setTx k { x with state := 1, segs := x.payloads data }

/-- A transmit slot of the tunnel that is not sending. -/
def idleTx (s : State) : Option (Fin 4) := ([0, 1, 2, 3] : List (Fin 4)).find? fun k => (s.ronko.tun.tx[k.val]).state != 1

/-- Myvex's waiting datagrams take the transmit slots that do not send, oldest first; `n` bounds their number. -/
def serveTx : Nat → State → State
  | 0, s => s
  | n + 1, s =>
    match s.ronko.tun.waiting, idleTx s with
    | (x, data) :: rest, some k => serveTx n (startTx (s.modTun fun t => { t with waiting := rest }) k x data)
    | _, _ => s

/-- Every waiting datagram that finds a slot begins to go out. -/
def refillTx (s : State) : State := serveTx s.ronko.tun.waiting.length s

/-! ### The aligned time (R66, R508) -/

/-- The aligned time in whole units of 1/128 cycle, modulo 2^64 (R508). -/
def alignedStamp (s : State) : W64 := BitVec.ofNat 64 (s.clk.tbc.toNat * 128 + s.clk.frac.toNat / 2 ^ 25)

/-- A receive stamp on a port: the aligned time `ago` units back, when the first bit of the frame's SOX crossed the ball; EQ_DELAY, in
units of 1/128 cycle, is subtracted before the stamp is cut to whole units (R492, R508; log entry 108). -/
def receiveStamp (s : State) (p : Port) (ago : Nat) : W64 :=
  alignedStamp s - BitVec.ofNat 64 ago - BitVec.ofNat 64 ((96 * (s.port p).eqDelayPs.toNat + 3124) / 3125)

/-- The open exchange of a child is skipped and counted (R509). -/
def skipExchange (s : State) : State :=
  s.modTime fun t => { t with open_ := none, fails := if t.open_.isSome then t.fails.inc else t.fails }

/-! ### Entering and leaving ACTIVE (R487, R488, R503, R511, R513) -/

/-- Leaving LOCKED is told (R511). -/
def leaveLocked (s : State) (next : TimeState) : State :=
  let was := s.ronko.time.state
  let s := s.modTime fun t => { t with state := next, good := 0 }
  if was == .locked && next != .locked then
    sendMsg (s.modTime fun t => { t with lockLosses := t.lockLosses.inc }) srcTree 0xE2 .warn 0
  else s

/-- A port has entered or left ACTIVE: on RKU the unit becomes a child or a root; on a down port a child tells the root. -/
def activeChanged (s : State) (p : Port) : State :=
  if p = rku then
    if s.active rku then
      let s := s.modNode fun n => { n with assigned := false, rootlessDue := true }
      leaveLocked ((skipExchange s).modTime fun t => { t with wasChild := true }) .acquire
    else
      let t := s.ronko.time.state
      let s := (skipExchange (s.modNode fun n => { n with rootlessDue := false })).modTime fun t => { t with parentLocked := false }
      if t == .acquire || t == .track || t == .locked then leaveLocked s .holdover else s
  else if s.isRoot then s
  else queueSup s rku 0x04 0x0000 []

/-- Entry to ACTIVE: sequence numbers 0 and full credits. -/
def portActive (s : State) (p : Port) : State :=
  let s := s.modPort p fun q =>
    { q with link := .active, alignOpen := none, txSeq := 0, txXseq := 0, rxSeq := 0, rxXseq := 0, nakSent := false
             xnakSent := false, credits := 8, xcredits := 4, kept := [], xkept := [], outX := [], outFwd := [], lastIn := none, fwdRow := 0 }
  activeChanged s p

/-- An ACTIVE port goes to DOWN, or to DISABLED where PORT_EN became 0: what it kept and what waited for it is discarded,
and discarded segments cause TUN_NACKs (R488, R498, R500). -/
def portDown (s : State) (p : Port) (cause : Nat) : State :=
  let q := s.port p
  let to_ : LinkState := if q.en then .down else .disabled
  let failed := (s.ronko.tun.tx.toList.filter fun x => x.wants s == some p).map fun x =>
    ((x.d3.extractLsb' 16 12).setWidth 16, x.d1.extractLsb' 0 16)
  let tx := s.ronko.tun.tx.map fun x => if x.wants s == some p then { x with state := 3, segs := [] } else x
  let s := s.modPort p fun q =>
    { q with link := to_, linkDowns := q.linkDowns.inc, signal := false, kept := [], xkept := [], outX := [], outFwd := [] }
  let s : State := { s with ronko :=
    { s.ronko with
      sup := s.ronko.sup.filter fun x => x.port != p
      tun := { s.ronko.tun with tx := tx }
      trig := { s.ronko.trig with issue :=
        (s.ronko.trig.issue.map fun x => (x.1, x.2.filter (· != p))).filter fun x => !x.2.isEmpty } } }
  let s := sendMsg s (srcPort p) 0xD2 .warn cause
  let s := forEach q.outX s fun s x => freeBuffer s x.1 x.2 true
  let s := forEach q.outFwd s fun s x => freeBuffer s x.1 x.2 false
  let s := activeChanged s p
  let s := forEach q.kept s fun s k => nackFrame s k.bytes 1
  let s := forEach q.outFwd s fun s x => nackFrame s x.2 4
  refillTx (forEach failed s fun s x => sendNack s x.1 x.2 4)

/-! ### Bring-up (R487) -/

/-- SIGNAL_DETECT. -/
def execSignalDetect (p : Port) (s : State) : Host.Outcome State Fault Refusal :=
  .next (if s.linkOn && (s.port p).link == .down then
    s.modPort p fun q => { q with link := .train, signal := true, peerRole := 0, eqTrained := false }
  else s)

/-- TRAIN_COMPLETE: the port enters ALIGN and sends HELLO. -/
def execTrainComplete (p : Port) (s : State) : Host.Outcome State Fault Refusal :=
  .next (if s.linkOn && (s.port p).link == .train then
    sendLc (s.modPort p fun q => { q with link := .align, aligned := 0, alignOpen := none }) p 0x07 (BitVec.ofNat 8 (64 * roleOfPort p + 1))
  else s)

/-- 160 ns in whole units of 1/128 cycle: no more than 4,915. -/
def longestDelay : Nat := 4915

/-- ALIGN_COMPLETE: the peer's role is known, and, where it is a legal one, 8 exchanges have measured the one-way delay,
which `delayU` names in halves of 1/128 cycle (log entry 61). -/
def execAlignComplete (p : Port) (delayU : Int) (s : State) : Host.Outcome State Fault Refusal :=
  let q := s.port p
  if s.linkOn && q.link == .align && q.peerRole != 0 then
    if q.peerRole = roleOfPort p then
      .next (sendMsg (s.modPort p fun q => { q with link := .miswired, alignOpen := none }) (srcPort p) 0xD0 .warn 0)
    else if q.aligned < 8 || q.delay != delayU then .next s
    else if 2 * (longestDelay : Int) < q.delay then
      .next (sendMsg (s.modPort p fun q => { q with link := .tooLong, alignOpen := none }) (srcPort p) 0xD1 .warn 0)
    else .next (portActive s p)
  else .next s

/-- PORT_RESTART. -/
def execPortRestart (p : Port) (s : State) : Host.Outcome State Fault Refusal :=
  let q := s.port p
  .next (if s.linkOn && (q.link == .miswired || q.link == .tooLong) then
    s.modPort p fun q => { q with link := .down, signal := false }
  else s)

/-- The cause of a link loss (KIND 0xD2 of Table 15.3). -/
def lossCode : LossCause → Nat
  | .noSignal => 1
  | .codeErrors _ => 2

/-- The code errors that a link loss adds to CODE_ERRORS (R485). -/
def lossErrors : LossCause → Nat
  | .noSignal => 0
  | .codeErrors n => n

/-- LINK_LOSS. -/
def execLinkLoss (p : Port) (why : LossCause) (s : State) : Host.Outcome State Fault Refusal :=
  .next (if s.linkOn && s.active p then
    portDown (s.modPort p fun q => { q with codeErrors := q.codeErrors.add (lossErrors why) }) p (lossCode why)
  else s)

/-- PORT_EN (R488, Table 13.2). -/
def objPortEn (p : Port) : Obj :=
  rwNat tBool .rw (fun _ => true) (fun s => bNat (s.port p).en) fun v s =>
    if v = 1 then
      s.modPort p fun q => { q with en := true, link := if q.link == .disabled && s.linkOn then .down else q.link }
    else
      let was := s.active p
      let s := if was && s.linkOn then sendLc s p 0x08 0 else s
      let s := s.modPort p fun q => { q with en := false }
      if was then portDown s p 5 else s.modPort p fun q => { q with link := .disabled, signal := false }

/-- PORT_EN_WRITE. -/
def execPortEnWrite (r : Req) (p : Port) (v : Byte) (s : State) : Host.Outcome State Fault Refusal :=
  .next (perform (objPortEn p) r tBool [v] s)

/-! ### Link controls (R496 to R499) -/

/-- A link control group with a good CHECK (R496). -/
def lcGood (type v check : Byte) : Bool := check == crc8 [type, v]

/-- Frames up to the one with a sequence number are freed. -/
def freeKept (kept : List Kept) (v : Byte) : List Kept :=
  if kept.any (·.seq == v) then (kept.dropWhile fun k => k.seq != v).drop 1 else kept

/-- A frame has failed: the port goes down (R498). -/
def failFrame (s : State) (p : Port) : State :=
  portDown (s.modPort p fun q => { q with linkFails := q.linkFails.inc }) p 3

/-- Every kept frame of a class is to be sent again, oldest first and as credits allow; an oldest frame whose third attempt is over
has failed (R498, R499). -/
def resend (s : State) (p : Port) (express : Bool) : State :=
  let q := s.port p
  let kept := if express then q.xkept else q.kept
  match kept with
  | [] => s
  | k :: _ =>
    if 3 ≤ k.attempts then failFrame s p
    else
      let again := kept.map fun k => { k with again := true }
      pump (s.modPort p fun q => if express then { q with xkept := again } else { q with kept := again }) p

/-- LC_ACK. -/
def execLcAck (p : Port) (v check : Byte) (s : State) : Host.Outcome State Fault Refusal :=
  .next (if s.linkOn && s.active p && lcGood 0x01 v check then pump (s.modPort p fun q => { q with kept := freeKept q.kept v }) p else s)

/-- LC_NAK. -/
def execLcNak (p : Port) (v check : Byte) (s : State) : Host.Outcome State Fault Refusal :=
  .next (if s.linkOn && s.active p && lcGood 0x02 v check then resend s p false else s)

/-- LC_XACK. -/
def execLcXack (p : Port) (v check : Byte) (s : State) : Host.Outcome State Fault Refusal :=
  .next (if s.linkOn && s.active p && lcGood 0x03 v check then pump (s.modPort p fun q => { q with xkept := freeKept q.xkept v }) p else s)

/-- LC_XNAK. -/
def execLcXnak (p : Port) (v check : Byte) (s : State) : Host.Outcome State Fault Refusal :=
  .next (if s.linkOn && s.active p && lcGood 0x04 v check then resend s p true else s)

/-- LC_CREDIT: 1 to 8 buffers, at most 8 credits in all. -/
def execLcCredit (p : Port) (v check : Byte) (s : State) : Host.Outcome State Fault Refusal :=
  .next (if s.linkOn && s.active p && lcGood 0x05 v check && within 1 8 v.toNat then
    pump (s.modPort p fun q => { q with credits := Nat.min 8 (q.credits + v.toNat) }) p
  else s)

/-- LC_XCREDIT: 1 to 4 buffers, at most 4 credits in all. -/
def execLcXcredit (p : Port) (v check : Byte) (s : State) : Host.Outcome State Fault Refusal :=
  .next (if s.linkOn && s.active p && lcGood 0x06 v check && within 1 4 v.toNat then
    pump (s.modPort p fun q => { q with xcredits := Nat.min 4 (q.xcredits + v.toNat) }) p
  else s)

/-- LC_HELLO: the peer's role, of protocol version 1. -/
def execLcHello (p : Port) (v check : Byte) (s : State) : Host.Outcome State Fault Refusal :=
  let role := v.toNat / 64
  .next (if s.linkOn && (s.port p).link == .align && lcGood 0x07 v check && v.toNat % 64 == 1 && within 1 2 role then
    s.modPort p fun q => { q with peerRole := role }
  else s)

/-- LC_LINKDOWN. -/
def execLcLinkdown (p : Port) (v check : Byte) (s : State) : Host.Outcome State Fault Refusal :=
  .next (if s.linkOn && s.active p && lcGood 0x08 v check then portDown s p 4 else s)

/-- RETRY_TIMEOUT: no acknowledgement within 400 ns. -/
def execRetryTimeout (p : Port) (express : Bool) (s : State) : Host.Outcome State Fault Refusal :=
  .next (if s.linkOn && s.active p then resend s p express else s)

/-- FRAME_FAIL: the oldest kept frame's third attempt is not acknowledged, or 6 µs have passed. -/
def execFrameFail (p : Port) (express : Bool) (s : State) : Host.Outcome State Fault Refusal :=
  let q := s.port p
  .next (if s.linkOn && s.active p && !(if express then q.xkept else q.kept).isEmpty then failFrame s p else s)

/-! ### The equaliser (R490 to R492) -/

/-- The three taps as a list. -/
def PortSt.taps (q : PortSt) : List Byte := [q.dfe1, q.dfe2, q.dfe3]

/-- A tap lies in its range (R490). -/
def tapLegal (x : Byte) : Bool := decide (-64 ≤ x.toInt) && decide (x.toInt ≤ 63)

/-- The difference of two settings. -/
def stepsBetween (a b : Int) : Nat := (a - b).natAbs

/-- A setting keeps its value, or moves by one step when the time of one step is over (R490). -/
def stepOk (old new : Int) (since pace : Nat) : Bool :=
  stepsBetween old new == 0 || (stepsBetween old new == 1 && decide (pace ≤ since))

/-- The settings are ones that the equaliser can take now: taps and EQ_DELAY in their ranges; once it has settings, a peaking step
changes EQ_DELAY by at most 12 ps; and from ALIGN on it moves a tap by one step a µs and the peaking by one step per 100 µs (R490,
R492; log entry 128). -/
def eqMay (q : PortSt) (now : Nat) (peak : BitVec 4) (taps : List Byte) (delayPs : Byte) : Bool :=
  let moved := stepsBetween q.eqPeak.toNat peak.toNat
  taps.all tapLegal && decide (delayPs.toNat ≤ 200) &&
    (!q.eqTrained || decide (stepsBetween q.eqDelayPs.toNat delayPs.toNat ≤ 12 * moved)) &&
    (q.link == .train || (stepOk q.eqPeak.toNat peak.toNat (now - q.peakAt) (usec 100) &&
      ((q.taps.zip taps).zip q.tapAt.toList).all fun x => stepOk x.1.1.toInt x.1.2.toInt (now - x.2) (usec 1)))

/-- EQ_ADAPT: the equaliser's settings as they now are; EQ_FREEZE holds them. -/
def execEqAdapt (p : Port) (peak : BitVec 4) (dfe1 dfe2 dfe3 delayPs : Byte) (s : State) :
    Host.Outcome State Fault Refusal :=
  let q := s.port p
  let at_ (moved : Bool) (was : Nat) : Nat := if moved then s.now else was
  .next (if !s.linkOn || q.freeze || q.link == .disabled || q.link == .down || !eqMay q s.now peak [dfe1, dfe2, dfe3] delayPs then s
    else s.modPort p fun q =>
      { q with eqPeak := peak, dfe1 := dfe1, dfe2 := dfe2, dfe3 := dfe3, eqDelayPs := delayPs, eqTrained := true
               peakAt := at_ (q.eqPeak != peak) q.peakAt
               tapAt := #v[at_ (q.dfe1 != dfe1) q.tapAt[0], at_ (q.dfe2 != dfe2) q.tapAt[1], at_ (q.dfe3 != dfe3) q.tapAt[2]] })

/-- EYE_UPDATE: height in mV, width in 1/1,024 UI. LINK_MARGIN is sent once per dip below 40 mV or 0.30 UI. A port without a signal
has no eye, and an unused one sends nothing (R616). -/
def execEyeUpdate (p : Port) (heightMv widthU : W16) (s : State) : Host.Outcome State Fault Refusal :=
  let low := decide (heightMv.toNat < 40) || decide (widthU.toNat ≤ 307)
  let above := decide (40 < heightMv.toNat) && decide (308 ≤ widthU.toNat)
  let q := s.port p
  .next (if !s.linkOn || q.link == .disabled || q.link == .down then s
    else
      let s := s.modPort p fun q => { q with eyeMv := heightMv, eyeWidth := widthU, marginLow := (q.marginLow || low) && !above }
      if low && !q.marginLow then sendMsg s (srcPort p) 0xD3 .note heightMv.toNat else s)

/-! ### Enumeration (R503 to R507) -/

/-- The level that a child of this unit has, and whether the unit admits it under an ID (R504). -/
def admits (n : Node) : Bool := n.admitIt && decide (n.level + 1 ≤ 12) && decide (n.nextId ≤ 0xFFF)

/-- The enumeration of the subtree is complete: a child reports, the root floods ENUM_READY (R504, R505). -/
def enumFinish (s : State) : State :=
  let n := s.ronko.node
  if s.isRoot then
    let s := s.modNode fun n =>
      { n with id := some 0, enum := .ready, nodeCount := n.nextId, unadmitted := n.total, waiting := none }
    let s := forEach (floodPorts s none) s fun s p =>
      queueSup s p 0x03 0xFFFF (natBytes 2 n.gen.toNat ++ natBytes 2 n.nextId)
    if n.total = 0 then s else sendMsg s srcTree 0xD4 .warn n.total
  else
    let own := if n.admitIt then 0 else 1
    queueSup (s.modNode fun n => { n with waiting := none }) rku 0x02 0xFFFE
      (natBytes 2 n.nextId ++ natBytes 2 (n.total + own))

/-- The next child is offered an ID, or the enumeration of this subtree ends. -/
def enumNext (s : State) : State :=
  let n := s.ronko.node
  match n.todo with
  | p :: rest =>
    let s := s.modNode fun n => { n with todo := rest, waiting := some p }
    queueSup s p 0x01 0xFFFE
      (natBytes 2 n.nextId ++ [BitVec.ofNat 8 (n.level + 1), if admits n then 1 else 0] ++ natBytes 2 n.gen.toNat)
  | [] => enumFinish s

/-- A unit begins to enumerate its children: RUNNING, and its outstanding tunnelled transactions are answered (R506). -/
def enumBegin (s : State) (offered level : Nat) (admitIt : Bool) (gen : W16) : State :=
  let s := answerAll s
  let s := (s.modPort rkl fun q => { q with subFirst := 0, subCount := 0 }).modPort rkm fun q =>
    { q with subFirst := 0, subCount := 0 }
  enumNext (s.modNode fun n =>
    { n with offered := offered, level := level, admitIt := admitIt, gen := gen, total := 0
             enum := if admitIt then .running else .unadmitted
             nextId := if admitIt then offered + 1 else offered
             todo := [rkl, rkm].filter s.active, waiting := none })

/-- The root begins an enumeration (R503). -/
def enumRoot (s : State) : State :=
  if s.isRoot && s.linkOn then enumBegin s 0 0 true (s.ronko.node.gen + 1) else s

/-- ENUM_START: 10 ms after the last port change or TOPO_CHANGE. -/
def execEnumStart (s : State) : Host.Outcome State Fault Refusal := .next (enumRoot s)

/-- ENUM_RESTART. -/
def objEnumRestart : Obj :=
  { ty := tU8, acc := .cmd, range := fun w => w.v == 1
    state := fun w => if w.pre.isRoot then eOk else eState
    put := fun _ s => enumRoot s }

/-- ENUM_RESTART. -/
def execEnumRestart (r : Req) (v : Byte) (s : State) : Host.Outcome State Fault Refusal :=
  .next (perform objEnumRestart r tU8 [v] s)

/-- An ENUM_ASSIGN on RKU (R504). -/
def takeAssign (s : State) (id : W16) (level : Byte) (admitIt : Bool) (gen : W16) : State :=
  if s.isRoot || !s.linkOn then s
  else
    let s := s.modNode fun n => { n with assigned := true, rootlessDue := false, id := if admitIt then some id else none }
    enumBegin s id.toNat level.toNat admitIt gen

/-- ENUM_ASSIGN. -/
def execEnumAssign (id : W16) (level : Byte) (admitIt : Bool) (gen : W16) (s : State) : Host.Outcome State Fault Refusal :=
  .next (takeAssign s id level admitIt gen)

/-- An ENUM_DONE on the port that is waited for: its subtree runs from the ID offered up to the next one (R504). -/
def takeDone (s : State) (p : Port) (next unadmitted : W16) : State :=
  let n := s.ronko.node
  if n.waiting == some p && s.active p then
    let s := s.modPort p fun q => { q with subFirst := n.nextId, subCount := next.toNat - n.nextId }
    enumNext (s.modNode fun n => { n with nextId := next.toNat, total := n.total + unadmitted.toNat, waiting := none })
  else s

/-- ENUM_DONE. -/
def execEnumDone (p : Port) (nextId unadmitted : W16) (s : State) : Host.Outcome State Fault Refusal :=
  .next (takeDone s p nextId unadmitted)

/-- An ENUM_READY at an admitted unit (R505). -/
def takeReady (s : State) (gen nodeCount : W16) : State :=
  let e := s.ronko.node.enum
  if !s.isRoot && (e == .running || e == .ready) then
    s.modNode fun n => { n with enum := .ready, gen := gen, nodeCount := nodeCount.toNat }
  else s

/-- ENUM_READY. -/
def execEnumReady (gen nodeCount : W16) (s : State) : Host.Outcome State Fault Refusal := .next (takeReady s gen nodeCount)

/-- A TOPO_CHANGE at the root: it is counted, and the start of the next enumeration waits 10 ms more (R503). -/
def takeTopo (s : State) : State :=
  if s.isRoot && s.linkOn then s.modNode fun n => { n with topoChanges := n.topoChanges.inc } else s

/-- TOPO_CHANGE. -/
def execTopoChange (s : State) : Host.Outcome State Fault Refusal := .next (takeTopo s)

/-- ROOTLESS_TIMEOUT: no ENUM_ASSIGN within 1 s of RKU becoming ACTIVE. -/
def execRootlessTimeout (s : State) : Host.Outcome State Fault Refusal :=
  .next (if s.linkOn && !s.isRoot && s.ronko.node.rootlessDue then
    sendMsg (s.modNode fun n => { n with enum := .rootless, rootlessDue := false }) srcTree 0xD5 .warn 0
  else s)

end Sys2Proof.Machine
end

