-- ==== Sys2Proof/Machine/Align.lean ====
section
/-! DEFINITION. Time alignment, scheduled triggers, express frames, TRIGIN edges, and the objects of Table 13.11 (R497, R508
to R521, R411). -/

namespace Sys2Proof.Machine

/-! ### Time exchanges (R509 to R511) -/

/-- Units of 1/128 cycle, halved: 1/61,440,000,000 s. -/
def halfUnits (x : Int) : Q := Q.mk x 61440000000

/-- PORT_ASYM in units of 1/128 cycle, rounded to the nearest. -/
def PortSt.asymU (q : PortSt) : Int := ((f32Val q.asym).mul (Q.ofNat 30720000000)).roundUp

/-- The unit reports LOCKED: it is LOCKED, or a root in state ROOT (R511). -/
def State.reportsLocked (s : State) : Bool := s.ronko.time.state == .locked || s.ronko.time.state == .root

/-- The body of a TIME_REQ frame, without its CRC (R494, R509). -/
def timeReqBytes (no : W16) : List Byte := [0x02, 0, 0xFF, 0xFE] ++ natBytes 2 no.toNat ++ List.replicate 18 0

/-- A TIME_RSP frame without its CRC; `t3` stands in bytes 12 to 19 (R494, R509). -/
def timeRspBytes (s : State) (t2 t3 : W64) (reqNo : W16) : List Byte :=
  [0x03, 0, 0xFF, 0xFE] ++ natBytes 8 t2.toNat ++ natBytes 8 t3.toNat ++ natBytes 2 reqNo.toNat
    ++ [BitVec.ofNat 8 (bNat s.reportsLocked + 2 * bNat s.isRoot), 0]

/-- SYNC_EXCHANGE_START: on RKU a child gives TIME_REQ to SUP, and t1 is the stamp of its sending; in ALIGN any port sends TIME_REQ
itself (R487; log entry 61). An exchange still open on the port is skipped and counted. -/
def execSyncExchangeStart (p : Port) (s : State) : Host.Outcome State Fault Refusal :=
  let no := s.ronko.time.reqNo + 1
  .next (if !s.linkOn then s
    else if (s.port p).link == .align then
      let s := s.modTime fun t => { t with reqNo := no, fails := if (s.port p).alignOpen.isSome then t.fails.inc else t.fails }
      (s.modPort p fun q => { q with alignOpen := some (no, alignedStamp s) }).send (.express p (withCrc (timeReqBytes no)))
    else if p = rku && s.active rku then
      queueTime ((skipExchange s).modTime fun t => { t with reqNo := no, periodNow := t.syncPeriod, open_ := some (no, none) }) rku
        (timeReqBytes no)
    else s)

/-- TIME_REQ: the parent gives its answer with its receive stamp to SUP, which puts the transmit stamp in; in ALIGN a port answers with
t3 `lead` units of 1/128 cycle ahead, at most the 2 µs of R509 (log entry 61). A request on a down port in any other state, or on
RKU, is ignored. -/
def execTimeReq (p : Port) (reqNo : W16) (ago lead : Nat) (s : State) : Host.Outcome State Fault Refusal :=
  .next (if !s.linkOn then s
    else if (s.port p).link == .align then
      s.send (.express p (withCrc (timeRspBytes s (receiveStamp s p ago) (alignedStamp s + BitVec.ofNat 64 (Nat.min lead 61440)) reqNo)))
    else if p != rku && s.active p then queueTime s p (timeRspBytes s (receiveStamp s p ago) 0 reqNo)
    else s)

/-- The rate trim of the servo, beyond its limits stored as the nearer one with RATE_CLAMP and a message (R67, R510). -/
def setRate (s : State) (x : Int) : State :=
  let y := clampInt (-858993) 858993 x
  let s := { s with clk := { s.clk with rate := y, rateClamp := s.clk.rateClamp || y != x } }
  if y != x then sendMsg s srcTree 0xE0 .error 0 else s

/-- A step: the TBC is loaded with the integer part of the aligned time plus the offset (R510). -/
def stepTime (s : State) (offset : Int) : State :=
  let whole := ((Q.ofNat s.clk.tbc.toNat).add ((Q.mk s.clk.frac.toNat 4294967296).add (Q.mk offset 256))).floor
  let s := { s with clk := { s.clk with tbcSet := BitVec.ofInt 64 whole, loadPending := true } }
  let st := s.ronko.time.state
  let s := s.modTime fun t => { t with steps := t.steps.inc }
  if st == .locked || st == .track then
    let ns := ((halfUnits offset).abs.mul (Q.ofNat 1000000000)).floor.toNat
    sendMsg s srcTree 0xE1 .warn (Nat.min ns (2 ^ 24 - 1))
  else s

/-- The slewing servo in binary64 (R510). -/
def slewTime (s : State) (o : Q) : State :=
  let p := f32To64 s.ronko.time.periodNow
  let f := add64 s.ronko.time.freq (div64 o.toF64 (mul64 (Q.ofNat 8).toF64 p))
  let r := add64 f (div64 o.toF64 (mul64 two64 p))
  setRate (s.modTime fun t => { t with freq := f }) ((f64Val r).scale2 32).roundUp

/-- The state after an exchange of offset `o` (Table 13.8). -/
def timeAfter (t : TimeSt) (o : Q) : TimeState × Nat :=
  let good := if o.abs.le ⟨1, 4000000000⟩ then t.good + 1 else 0
  let follows : TimeState := if t.parentLocked then .locked else .track
  match t.state with
  | .track | .locked => if (Q.mk 1 1000000000).lt o.abs then (.acquire, good) else (follows, good)
  | .acquire => if 16 ≤ good then (follows, good) else (.acquire, good)
  | x => (x, good)

/-- Delay and offset of an exchange on a port, in halves of 1/128 cycle (R509). -/
def exchangeDelay (s : State) (p : Port) (t1 t2 t3 t4 : W64) : Int := (t4 - t1).toInt - (t3 - t2).toInt - 2 * (s.port p).asymU
def exchangeOffset (s : State) (p : Port) (t1 t2 t3 t4 : W64) : Int := (t2 - t1).toInt - (t4 - t3).toInt + 2 * (s.port p).asymU

/-- A TIME_RSP in ALIGN: an exchange of the port is made, and its delay measured (R487). -/
def alignExchange (s : State) (p : Port) (t2 t3 : W64) (reqNo : W16) (t4 : W64) : State :=
  match (s.port p).alignOpen with
  | none => s
  | some (no, t1) =>
    if reqNo != no then (s.modTime fun t => { t with fails := t.fails.inc }).modPort p fun q => { q with alignOpen := none }
    else
      (s.modTime fun t => { t with exchanges := t.exchanges.inc }).modPort p fun q =>
        { q with alignOpen := none, aligned := q.aligned + 1, delay := exchangeDelay s p t1 t2 t3 t4 }

/-- A TIME_RSP of a child: delay and offset, then the servo or a step (R509 to R511). -/
def childExchange (s : State) (t1 t2 t3 t4 : W64) (parentLocked : Bool) : State :=
  let delay := exchangeDelay s rku t1 t2 t3 t4
  let offset := exchangeOffset s rku t1 t2 t3 t4
  let o := halfUnits offset
  let s := (s.modTime fun t => { t with open_ := none, exchanges := t.exchanges.inc, offset := offset, delay := delay,
                                        parentLocked := parentLocked }).modPort rku fun q => { q with delay := delay }
  let s := if (f32Val s.ronko.time.stepLimit).lt o.abs then stepTime s offset else slewTime s o
  let (next, good) := timeAfter s.ronko.time o
  (leaveLocked s next).modTime fun t => { t with good := good }

/-- TIME_RSP with its stamps t2 and t3: an exchange of ALIGN, or the open exchange of a child; a REQ_NO that does not match skips it. -/
def execTimeRsp (p : Port) (stamps : W64 × W64) (reqNo : W16) (parentLocked : Bool) (ago : Nat) (s : State) :
    Host.Outcome State Fault Refusal :=
  .next (if !s.linkOn then s
    else if (s.port p).link == .align then alignExchange s p stamps.1 stamps.2 reqNo (receiveStamp s p ago)
    else if p = rku && s.active rku then
      match s.ronko.time.open_ with
      | some (no, some t1) =>
        if reqNo != no then skipExchange s else childExchange s t1 stamps.1 stamps.2 (receiveStamp s rku ago) parentLocked
      | _ => s
    else s)

/-- How long the exchange that a port has open in ALIGN has run, in units of 1/128 cycle. -/
def alignAge (s : State) (p : Port) : Option Nat := (s.port p).alignOpen.map fun x => (alignedStamp s - x.2).toNat

/-- How long the open exchange of a child has run: not at all before its TIME_REQ is sent. -/
def childAge (s : State) : Option Nat :=
  s.ronko.time.open_.map fun x => match x.2 with
    | some t1 => (alignedStamp s - t1).toNat
    | none => 0

/-- The port with the exchange of ALIGN that has run longest. -/
def oldestAlign (s : State) : Option Port :=
  let open_ := ([0, 1, 2] : List Port).filter fun p => (alignAge s p).isSome
  open_.find? fun p => open_.all fun q => decide ((alignAge s q).getD 0 ≤ (alignAge s p).getD 0)

/-- EXCHANGE_TIMEOUT: the exchange that has run longest, of those in ALIGN and the child's, ends without its answer (R509). -/
def execExchangeTimeout (s : State) : Host.Outcome State Fault Refusal :=
  .next (match oldestAlign s with
    | none => skipExchange s
    | some p =>
      if ((alignAge s p).getD 0) < ((childAge s).getD 0) then skipExchange s
      else (s.modTime fun t => { t with fails := t.fails.inc }).modPort p fun q => { q with alignOpen := none })

/-! ### Scheduled triggers (R514 to R521) -/

/-- The 16 bytes of R516, or of a template with its lead in place of the target. -/
def trigOfBlob (b : List Byte) (origin : W16) : SchedTrig :=
  { addr := BitVec.ofNat 16 (beNat (slice b 0 2)), gmask := BitVec.ofNat 8 (beNat (slice b 2 1))
    chmask := BitVec.ofNat 8 (beNat (slice b 3 1)), id := BitVec.ofNat 16 (beNat (slice b 4 2))
    target := BitVec.ofNat 64 (beNat (slice b 8 8)), origin := origin }

/-- The form of the BLOB: 16 bytes, an address that is a node ID or every unit, and zeros in bytes 6 and 7. -/
def trigBlobOk (b : List Byte) : Bool :=
  let addr := beNat (slice b 0 2)
  decide (b.length = 16) && (decide (addr ≤ 0xFFF) || addr == 0xFFFF) && beNat (slice b 6 2) == 0

/-- A lead in units of 2^-32 cycle between TRIG_MIN_LEAD and 2^40 cycles. -/
def leadOk (s : State) (lead : Int) : Bool :=
  decide ((usec s.ronko.trig.leadUs : Int) * 2 ^ 32 ≤ lead) && decide (lead ≤ 2 ^ 72)

/-- The lead of a target over the aligned time. -/
def leadOf (s : State) (target : W64) : Int :=
  ((target - s.clk.tbc).toNat : Int) * 2 ^ 32 - (s.clk.frac.toNat : Int)

/-- The aligned time has reached a target. -/
def reached (s : State) (target : W64) : Bool := decide (target.toNat ≤ s.clk.tbc.toNat)

/-- A trigger put in its place, after those with the same target (R519). -/
def insertTrig (t : SchedTrig) : List SchedTrig → List SchedTrig
  | [] => [t]
  | x :: xs => if t.target.toNat < x.target.toNat then t :: x :: xs else x :: insertTrig t xs

/-- The trigger addresses this unit (R515). -/
def addressed (s : State) (t : SchedTrig) : Bool :=
  if t.addr == 0xFFFF then s.ronko.trig.groups &&& t.gmask != 0 else s.ronko.node.id == some t.addr

/-- A received or self-issued trigger (R519, R521). -/
def storeTrig (s : State) (t : SchedTrig) : State :=
  if !s.running || !addressed s t then s
  else if reached s t.target then
    sendMsg (s.modTrig fun x => { x with late := x.late.inc }) srcTree 0xB2 .warn t.id.toNat
  else if 16 ≤ s.ronko.trig.pending.length then
    sendMsg (s.modTrig fun x => { x with dropped := x.dropped.inc }) srcTree 0xB3 .warn t.id.toNat
  else s.modTrig fun x => { x with pending := insertTrig t x.pending }

/-- A TRIG frame without its CRC (R494, R515). -/
def trigBytes (t : SchedTrig) : List Byte :=
  [0x01, 0] ++ natBytes 2 t.addr.toNat ++ natBytes 8 t.target.toNat ++ natBytes 2 t.id.toNat ++ natBytes 2 t.origin.toNat
    ++ [t.gmask, t.chmask] ++ List.replicate 6 0

/-- A trigger is issued: stored here where it addresses this unit, and queued for each port it goes out on (R515, R516). -/
def issueTrig (s : State) (t : SchedTrig) : State :=
  let outs := (routeOf s none t.addr false).outs
  let s := storeTrig s t
  if outs.isEmpty then s else s.modTrig fun x => { x with issue := x.issue ++ [(t, outs)] }

/-- SCHED_TRIG (R516). -/
def objSchedTrig : Obj :=
  { ty := tBlob, acc := .cmd, max := 16
    range := fun w => trigBlobOk w.data && leadOk w.post (leadOf w.post (trigOfBlob w.data 0).target)
    state := fun w =>
      let a := (trigOfBlob w.data 0).addr
      let n := w.seq.ronko.node
      if n.id == some a && a != 0xFFFF then
        (if 4 ≤ w.seq.ronko.trig.issue.length then eBusy else eOk)
      else if n.enum != .ready || (a != 0xFFFF && n.nodeCount ≤ a.toNat) then eNotReady
      else if 4 ≤ w.seq.ronko.trig.issue.length then eBusy
      else eOk
    put := fun w s => issueTrig s (trigOfBlob w.data s.srcId) }

/-- SCHED_TRIG. -/
def execSchedTrig (r : Req) (data : List Byte) (s : State) : Host.Outcome State Fault Refusal :=
  .next (perform objSchedTrig r tBlob data s)

/-- A trigger frame that came in on a port: stored where it addresses this unit, and forwarded whatever became of it
(R515, R519). -/
def takeTrig (s : State) (p : Port) (t : SchedTrig) (bytes : List Byte) : State :=
  let r := routeOf s (some p) t.addr false
  let s := if r.here then storeTrig s t else s
  forward s p r.outs bytes true

/-- TRIG_FRAME: the content of a trigger that a port has received. -/
def execTrigFrame (p : Port) (addr : W16) (target : W64) (id origin : W16) (gmask chmask : Byte) (s : State) :
    Host.Outcome State Fault Refusal :=
  let t : SchedTrig := { target := target, id := id, origin := origin, addr := addr, gmask := gmask, chmask := chmask }
  .next (if s.linkOn && s.active p then takeTrig s p t (trigBytes t) else s)

/-- A trigger source reaches the channels: fast steps and lists that select it (R410, R449). -/
def fireChannel (s : State) (n : Ch) (src : Nat) : State :=
  let s := if (s.chan n).fast.src = src then s.modCh n Channel.fireFast else s
  if (s.chan n).sweep.advSrc = src then advance s n else s

/-- TRIGGER_EXECUTE: the first pending trigger whose target the aligned time has reached (R520); an
unadmitted unit executes none (R483). -/
def execTriggerExecute (s : State) : Host.Outcome State Fault Refusal :=
  match s.ronko.trig.pending with
  | [] => .next s
  | t :: rest =>
    if !s.running || s.ronko.node.enum == .unadmitted || !reached s t.target then .next s
    else
      let aligned := s.reportsLocked
      let s := s.modTrig fun x =>
        { x with pending := rest, exec := x.exec.inc, lastId := t.id, lastTbc := t.target,
                 unaligned := if aligned then x.unaligned else x.unaligned.inc }
      let s := forEach allCh s fun s n => if t.chmask.getLsbD n.val then fireChannel s n 5 else s
      .next (firePulse s 2 0)

/-- The template trigger of an edge: the target is the aligned time plus the lead (R517). -/
def issueTemplate (s : State) : State :=
  if 4 ≤ s.ronko.trig.issue.length then s.modTrig fun x => { x with dropped := x.dropped.inc }
  else
    let t := trigOfBlob s.ronko.trig.template s.srcId
    issueTrig s { t with target := s.clk.tbc + t.target }

/-- TRIGIN_EDGE: a filtered active edge of an input, in RUN: counted and delivered to its users (R411, R412, R517). -/
def execTriginEdge (i : Fin 4) (s : State) : Host.Outcome State Fault Refusal :=
  if s.running then
    let k := i.val + 1
    let x := s.trig.ins[i.val]
    let s := { s with trig := { s.trig with ins := s.trig.ins.set i.val { x with count := x.count.inc, live := !x.pol, edgeAt := some s.now } } }
    let s := forEach allCh s fun s n =>
      let s := fireChannel s n k
      if (s.chan n).cap.src = k then s.modCh n Channel.captureTrigger else s
    let s := firePulse s 3 i.val
    .next (if s.ronko.trig.triginIssue = k then issueTemplate s else s)
  else .next s

/-! ### Received express frames (R494, R497) -/

/-- Where a sequence number lies against the one expected: in order, ahead or behind within a window, or elsewhere. -/
inductive SeqPlace where
  | inOrder | ahead | behind | elsewhere
  deriving DecidableEq, Repr

def seqPlace (got expected : Byte) (window : Nat) : SeqPlace :=
  let d := (got - expected).toNat
  if d = 0 then .inOrder else if d ≤ window then .ahead else if 256 - window ≤ d then .behind else .elsewhere

/-- A frame's CRC is good (R495). -/
def crcGood (bytes : List Byte) : Bool :=
  decide (4 ≤ bytes.length) &&
    bytes.drop (bytes.length - 4) == natBytes 4 (crc32 (bytes.take (bytes.length - 4))).toNat

/-- An express frame of the form of Table 13.5: its length, XKIND and ADDR. -/
def expressForm (bytes : List Byte) : Bool :=
  let kind := beNat (slice bytes 0 1)
  let addr := beNat (slice bytes 2 2)
  decide (bytes.length = 28) && (match kind with
    | 1 => decide (addr ≤ 0xFFF) || addr == 0xFFFF
    | 2 | 3 => addr == 0xFFFE
    | _ => false)

/-- The trigger of a TRIG frame. -/
def trigOfFrame (b : List Byte) : SchedTrig :=
  { addr := BitVec.ofNat 16 (beNat (slice b 2 2)), target := BitVec.ofNat 64 (beNat (slice b 4 8))
    id := BitVec.ofNat 16 (beNat (slice b 12 2)), origin := BitVec.ofNat 16 (beNat (slice b 14 2))
    gmask := BitVec.ofNat 8 (beNat (slice b 16 1)), chmask := BitVec.ofNat 8 (beNat (slice b 17 1)) }

/-- A bad frame is discarded and counted, a NAK or XNAK goes out once, and its buffer is free (R495, R497). -/
def badFrame (s : State) (p : Port) (express : Bool) : State :=
  let q := s.port p
  let s := s.modPort p fun q => { q with crcErrors := q.crcErrors.inc }
  let s := if express then (if q.xnakSent then s else
      sendLc (s.modPort p fun q => { q with xnakSent := true }) p 0x04 q.rxXseq)
    else (if q.nakSent then s else sendLc (s.modPort p fun q => { q with nakSent := true }) p 0x02 q.rxSeq)
  freeBuffer s p [] express

/-- The copy of a frame of a class has begun on an output: the output is free and holds a credit for it (R501). -/
def PortSt.begins (q : PortSt) (express : Bool) : Bool := q.outX.isEmpty && if express then q.canX else q.canN && q.outFwd.isEmpty

/-- Copies of a frame that proves bad end in EOA downstream, each where it has begun; it has taken a credit and consumes no LSEQ or
XSEQ, and an IDLE pair follows a normal one (R486, R501). -/
def abortCopies (s : State) (outs : List Port) (bytes : List Byte) (express : Bool) : State :=
  forEach outs s fun s o =>
    if !(s.port o).begins express then s
    else if express then (s.modPort o fun q => { q with xcredits := q.xcredits - 1 }).send (.aborted o bytes)
    else ((s.modPort o fun q => { q with credits := q.credits - 1 }).send (.aborted o bytes)).send (.idlePair o)

/-- The code errors that a receiver counts with a frame (R485). -/
def countErrors (s : State) (p : Port) (fin : FrameEnd) : State :=
  if fin.codeErrors + fin.outside = 0 then s
  else s.modPort p fun q => { q with codeErrors := q.codeErrors.add (fin.codeErrors + fin.outside) }

/-- EXPRESS_FRAME_RX: a whole express frame with its CRC, and how it ended. The stamps of TIME frames come with the commands
TIME_REQ and TIME_RSP. -/
def execExpressFrameRx (p : Port) (bytes : List Byte) (fin : FrameEnd) (s : State) : Host.Outcome State Fault Refusal :=
  if !s.linkOn || !s.active p then .next s
  else
    let s := countErrors s p fin
    let body := bytes.take (bytes.length - 4)
    let t := trigOfFrame body
    let isTrig := beNat (slice bytes 0 1) == 1
    let outs := if isTrig then (routeOf s (some p) t.addr false).outs else []
    if fin.eoa then .next (freeBuffer (abortCopies s outs body true) p [] true)
    else if fin.codeErrors != 0 || !crcGood bytes || !expressForm bytes then
      .next (badFrame (if expressForm bytes then abortCopies s outs body true else s) p true)
    else
      let q := s.port p
      let got : Byte := BitVec.ofNat 8 (beNat (slice bytes 1 1))
      match seqPlace got q.rxXseq 4 with
      | .ahead =>
        let s := if q.xnakSent then s else sendLc (s.modPort p fun q => { q with xnakSent := true }) p 0x04 q.rxXseq
        .next (freeBuffer s p [] true)
      | .behind => .next (freeBuffer (sendLc s p 0x03 (q.rxXseq - 1)) p [] true)
      | .elsewhere => .next (freeBuffer s p [] true)
      | .inOrder =>
        let s := s.modPort p fun q => { q with rxXseq := q.rxXseq + 1, xnakSent := false, rxFrames := q.rxFrames.inc }
        let s := sendLc s p 0x03 got
        .next (if isTrig then takeTrig s p t body else freeBuffer s p [] true)

/-! ### Objects of Table 13.11 -/

def enumCode : EnumState → Nat
  | .none => 0
  | .running => 1
  | .ready => 2
  | .rootless => 3
  | .unadmitted => 4

def linkCode : LinkState → Nat
  | .disabled => 0
  | .down => 1
  | .train => 2
  | .align => 3
  | .active => 4
  | .miswired => 5
  | .tooLong => 6

def timeCode : TimeState → Nat
  | .root => 0
  | .holdover => 1
  | .acquire => 2
  | .track => 3
  | .locked => 4

/-- A time in halves of 1/128 cycle as F32 seconds. -/
def unitsF32 (x : Int) : Nat := (halfUnits x).toF32.toNat

/-- The objects of one port. -/
def objsPort (p : Port) (el : Nat) : Option Obj :=
  let ro (ty : Byte) (get : PortSt → Nat) : Option Obj := some (roNat ty fun s => get (s.port p))
  let counter (get : PortSt → Counter) : Option Obj := ro tU32 fun q => (get q).value.toNat
  match el with
  | 0x01 => ro tU8 fun q => linkCode q.link
  | 0x02 => some (objPortEn p)
  | 0x03 => some (rwNat tBool .rw (fun _ => true) (fun s => bNat (s.port p).freeze)
      fun v s => s.modPort p fun q => { q with freeze := v == 1 })
  | 0x04 => some (rwF32 .rw (fWithin ⟨-5, 1000000000⟩ ⟨5, 1000000000⟩) (fun s => (s.port p).asym)
      fun v s => s.modPort p fun q => { q with asym := v })
  | 0x05 => ro tF32 fun q => unitsF32 q.delay
  | 0x06 => ro tU8 fun q => q.eqPeak.toNat
  | 0x07 => ro tI8 fun q => q.dfe1.toNat
  | 0x08 => ro tI8 fun q => q.dfe2.toNat
  | 0x09 => ro tI8 fun q => q.dfe3.toNat
  | 0x0A => ro tF32 fun q => (Q.mk q.eyeMv.toNat 1000).toF32.toNat
  | 0x0B => ro tF32 fun q => (Q.mk q.eyeWidth.toNat 1024).toF32.toNat
  | 0x0C => ro tF32 fun q => (Q.mk q.eqDelayPs.toNat 1000000000000).toF32.toNat
  | 0x0D => counter (·.codeErrors)
  | 0x0E => counter (·.crcErrors)
  | 0x0F => counter (·.retries)
  | 0x10 => counter (·.linkFails)
  | 0x11 => counter (·.linkDowns)
  | 0x12 => counter (·.txFrames)
  | 0x13 => counter (·.rxFrames)
  | _ => none

/-- The objects of the node, obj 0x1200. -/
def objsNode (el : Nat) : Option Obj :=
  let ro (ty : Byte) (get : Node → Nat) : Option Obj := some (roNat ty fun s => get s.ronko.node)
  match el with
  | 1 => ro tU16 fun n => (n.id.getD 0xFFFF).toNat
  | 2 => ro tU8 (·.level)
  | 3 => ro tU8 fun n => enumCode n.enum
  | 4 => ro tU16 fun n => n.gen.toNat
  | 5 => ro tU16 (·.nodeCount)
  | 6 => ro tU16 (·.unadmitted)
  | 7 => some objEnumRestart
  | 8 => ro tU32 fun n => n.topoChanges.value.toNat
  | _ => none

/-- The objects of time alignment, obj 0x1204. -/
def objsTime (el : Nat) : Option Obj :=
  let counter (get : TimeSt → Counter) : Option Obj := some (roNat tU32 fun s => (get s.ronko.time).value.toNat)
  match el with
  | 0x1 => some (roNat tU8 fun s => timeCode s.ronko.time.state)
  | 0x2 => some (roNat tF32 fun s => unitsF32 s.ronko.time.offset)
  | 0x3 => some (roNat tF32 fun s => unitsF32 s.ronko.time.delay)
  | 0x4 => some (rwF32 .rw (fWithin ⟨125, 1000000⟩ ⟨1, 100⟩) (fun s => s.ronko.time.syncPeriod)
      fun v s => s.modTime fun t => { t with syncPeriod := v })
  | 0x5 => some (rwF32 .rw (fWithin ⟨1, 100000000⟩ ⟨1, 1000⟩) (fun s => s.ronko.time.stepLimit)
      fun v s => s.modTime fun t => { t with stepLimit := v })
  | 0x6 => some (roNat tF32 fun s => (Q.mk (s.clk.rate * 1000000) 4294967296).toF32.toNat)
  | 0x7 => counter (·.exchanges)
  | 0x8 => counter (·.fails)
  | 0x9 => counter (·.steps)
  | 0xA => counter (·.lockLosses)
  | _ => none

/-- TRIGIN_TEMPLATE (R517). -/
def objTemplate : Obj :=
  { ty := tBlob, acc := .rw, max := 16, read := fun _ s => s.ronko.trig.template
    range := fun w => trigBlobOk w.data && leadOk w.post ((trigOfBlob w.data 0).target.toNat * 2 ^ 32)
    put := fun w s => s.modTrig fun x => { x with template := w.data } }

/-- TRIG_MIN_LEAD, stored rounded up to whole µs (Table 13.13). -/
def objMinLead : Obj :=
  rwF32 .rw (fWithin ⟨2, 10000⟩ ⟨1, 1⟩) (fun s => (Q.mk s.ronko.trig.leadUs 1000000).toF32)
    fun v s => s.modTrig fun x => { x with leadUs := ((f32Val v).mul (Q.ofNat 1000000)).ceil.toNat }

/-- The objects of scheduled triggers, obj 0x1205. -/
def objsTrigger (el : Nat) : Option Obj :=
  let counter (get : Triggers → Counter) : Option Obj := some (roNat tU32 fun s => (get s.ronko.trig).value.toNat)
  match el with
  | 0x1 => some objSchedTrig
  | 0x2 => some objMinLead
  | 0x3 => some (rwNat tU8 .rw (fun _ => true) (fun s => s.ronko.trig.groups.toNat)
      fun v s => s.modTrig fun x => { x with groups := BitVec.ofNat 8 v })
  | 0x4 => some (rwNat tU8 .rw (within 0 4) (fun s => s.ronko.trig.triginIssue)
      fun v s => s.modTrig fun x => { x with triginIssue := v })
  | 0x5 => some objTemplate
  | 0x6 => some (roNat tU8 fun s => s.ronko.trig.pending.length)
  | 0x7 => counter (·.exec)
  | 0x8 => counter (·.late)
  | 0x9 => counter (·.dropped)
  | 0xA => counter (·.unaligned)
  | 0xB => some (roNat tU16 fun s => s.ronko.trig.lastId.toNat)
  | 0xC => some (roNat tU64 fun s => s.ronko.trig.lastTbc.toNat)
  | _ => none

/-- The objects of Table 13.11. -/
def objsRonko (idx el : Nat) : Option Obj :=
  match idx with
  | 0x1200 => objsNode el
  | 0x1201 => objsPort rku el
  | 0x1202 => objsPort rkl el
  | 0x1203 => objsPort rkm el
  | 0x1204 => objsTime el
  | 0x1205 => objsTrigger el
  | 0x1206 =>
    let counter (get : Tunnel → Counter) : Option Obj := some (roNat tU32 fun s => (get s.ronko.tun).value.toNat)
    match el with
    | 1 => counter (·.txCount)
    | 2 => counter (·.rxCount)
    | 3 => counter (·.nackTx)
    | 4 => counter (·.nackRx)
    | 5 => counter (·.reasmDrops)
    | _ => none
  | _ => none

end Sys2Proof.Machine
end

