-- ==== Sys2Proof/Machine/Fsp.lean ====
section
/-! DEFINITION. The front-end serial port: command-queue entries, flash protection and busy polling, execute-in-place and
the prefetch buffer, another controller on the bus, and the objects of Table 14.15 (R531 to R556, R577). -/

namespace Sys2Proof.Machine

/-! ### Entries (R538 to R540) -/

/-- The header of an entry, of the form of Table 14.3, with the records behind it. -/
def parseEntry (recs : List (List Byte)) : Option Entry :=
  match recs with
  | [] => none
  | h :: rest =>
    let at1 (k : Nat) : Nat := beNat (slice h k 1)
    let at2 (k : Nat) : Nat := beNat (slice h k 2)
    let flags := at1 1
    let wlen := at1 2
    let len := at2 6
    let tx := at2 8
    let ok := at1 0 == 0xF5 && decide (flags < 64) && [8, 16, 24, 32].contains wlen && decide (at1 3 ≤ 3)
      && within 1 4096 len && len % (wlen / 8) == 0 && decide (tx ≤ 1008) && decide (tx ≤ len)
      && decide (at2 12 ≤ 1008) && decide (at2 10 + at2 12 ≤ len) && at1 15 == 0
      && (flags / 8 % 4 == 0 || flags / 4 % 2 == 1) && rest.length == (tx + 15) / 16
    if ok then
      some { sel := ⟨flags % 4, by omega⟩, hold := flags / 4 % 2 == 1, crcTx := flags / 8 % 2 == 1
             crcRx := flags / 16 % 2 == 1, resp := flags / 32 % 2 == 1, wlen := wlen, retries := at1 3
             tag := BitVec.ofNat 16 (at2 4), len := len, tx := rest.flatten.take tx, rxSkip := at2 10, rxBytes := at2 12
             fill := BitVec.ofNat 8 (at1 14), attempts := 1, frdyWait := false, elapsed := 0, cfg := {} }
    else none

/-- The bytes that an entry sends, the CRC-8 of CRC_TX behind them (R540, R543). -/
def Entry.sent (e : Entry) : List Byte :=
  let body := e.tx ++ List.replicate (e.len - e.tx.length) e.fill
  if e.crcTx then body ++ [crc8 body] else if e.crcRx then body ++ [e.fill] else body

/-- BCLK cycles of one attempt without FRDY waits (Table 14.2). -/
def Entry.cycles (e : Entry) : Nat :=
  let k := e.cfg
  if e.hold then k.lead + 8 * e.sent.length * k.div + k.lag
  else
    let words := e.len / (e.wlen / 8)
    words * (k.lead + e.wlen * k.div + k.lag) + (words - 1) * k.inter

/-- Groups of `k` bytes, the last as long as it is. -/
def groups (k : Nat) : Nat → List Byte → List (List Byte)
  | 0, _ => []
  | n + 1, l => if l.isEmpty then [] else l.take k :: groups k n (l.drop k)

/-- The bytes that FSDI brings back fit the entry: one for each byte clocked, and with CRC_RX the slave's CRC-8 over those
behind RX_SKIP (R540, R543). -/
def Entry.echoed (e : Entry) (rx : List Byte) : Bool :=
  rx.length == e.sent.length && (!e.crcRx || slice rx e.len 1 == [crc8 (slice rx e.rxSkip (e.len - e.rxSkip))])

/-- The bytes captured (R540). -/
def Entry.captured (e : Entry) (rx : List Byte) : List Byte := slice rx e.rxSkip e.rxBytes

/-- The words of an entry; the byte that a CRC flag adds goes with the last one (R540, R543). -/
def Entry.words (e : Entry) : List (List Byte) :=
  let ws := groups (e.wlen / 8) e.len (e.sent.take e.len)
  ws.take (ws.length - 1) ++ [(ws.drop (ws.length - 1)).flatten ++ e.sent.drop e.len]

/-- The bytes of each select assertion of an entry: one for a held selection, one for each word otherwise (R534). -/
def Entry.assertions (e : Entry) : List (List Byte) := if e.hold then [e.sent] else e.words

/-- BCLK cycles from the start of an attempt to that of a word's FRDY wait, the earlier words' own waits left out (Table 14.2). -/
def Entry.before (e : Entry) : Nat :=
  let k := e.cfg
  if e.hold then e.word * e.wlen * k.div else e.word * (k.lead + e.wlen * k.div + k.lag + k.inter)

/-- The configuration of a select; FSS0 always uses mode 0 (R532). -/
def Fsp.selCfg (f : Fsp) (c : Fin 4) : Select := if c = 0 then { f.sels[c.val] with mode := 0 } else f.sels[c.val]

/-! ### Flash protection (R148, R552) -/

/-- An assertion is blocked by a row of the opcode table. -/
def ProtOp.blocks (p : ProtOp) (bytes : List Byte) : Bool :=
  let op := beNat (slice bytes 0 1)
  if op != p.opcode.toNat then false
  else if p.cls = 3 then true
  else if p.cls = 1 ∨ p.cls = 2 then
    let k := p.cls + 2
    let size := 2 ^ p.span
    let first := beNat (slice bytes 1 k) / size * size
    decide (bytes.length < 1 + k) || (decide (first < 0x205000) && decide (0x200000 < first + size))
  else false

/-- The opcode of the first blocked assertion of an entry on FSS0. -/
def blockedBy (f : Fsp) (e : Entry) : Option Byte :=
  if e.sel = 0 then
    (e.assertions.find? fun a => f.protOps.any (·.blocks a)).map fun a => a.headD 0
  else none

/-- An entry on FSS0 programs or erases the flash: an assertion carries a class 1 or class 2 opcode (R551, R553). -/
def changesFlash (f : Fsp) (e : Entry) : Bool :=
  e.sel == 0 && e.assertions.any fun a => f.protOps.any fun p => (p.cls == 1 || p.cls == 2) && a.head? == some p.opcode

/-! ### The bus and its master (R554 to R556) -/

/-- The bus is released, behind the exit sequence where the FSP drives it (R554, R556). -/
def releaseBus (s : State) : State :=
  (if s.fsp.master == .master then sendExit s else s).modFsp fun f => { f with master := .released, releaseDue := false, contRead := true, inCont := false }

/-- A release that waited for the grant in progress acts once it is over. -/
def releaseIfDue (s : State) : State := if s.fsp.releaseDue && !s.busUsed then releaseBus s else s

/-! ### Completion (R541, R545) -/

/-- Response records: a header and the captured bytes, padded with 0 (Table 14.4). -/
def responseRecs (e : Entry) (result : Byte) (attempts : Nat) (tbc : W64) (rx : List Byte) : List (List Byte) :=
  let data := if result == eOk then rx.take e.rxBytes else []
  let padded := data ++ List.replicate ((16 - data.length % 16) % 16) 0
  ([0xF6, result, BitVec.ofNat 8 attempts, BitVec.ofNat 8 e.sel.val] ++ natBytes 2 e.tag.toNat
    ++ natBytes 2 data.length ++ natBytes 8 tbc.toNat) :: groups 16 64 padded

/-- The ring that CMD_RING or RESP_RING names, where its role on that side is the FSP's (R426). -/
def fspRing (s : State) (num : Nat) (side : Ring → Nat) : Option Ring :=
  (s.hamper.ring num).filter fun r => side r == roleFsp

/-- The response of an entry, where it asks for one and there is a ring; the FSP keeps one that its stalled ring has no room for
(R435). -/
def writeResponse (s : State) (resp : Bool) (recs : List (List Byte)) : State :=
  if !resp || s.fsp.respRing == 0xFFFF then s
  else
    let s := checkDesc s s.fsp.respRing
    match fspRing s s.fsp.respRing (·.producer) with
    | some r =>
      let s := portGrant reqFsp (if r.pendLoss = 0 then 1 else 2) s
      match s.hamper.ring r.num with
      | some r =>
        match putRecords s r recs with
        | (s, .full) => s.modFsp fun f => { f with response := recs }
        | (s, _) => portRest reqFsp recs.length s
      | none => s
    | none => s

/-- The bundle at the head of CMD_RING is removed. -/
def removeEntry (s : State) : State :=
  let s := checkDesc s s.fsp.cmdRing
  match fspRing s s.fsp.cmdRing (·.consumer) with
  | some r => (takeHeads (headBundle r.recs).length s r).1
  | none => s

/-- An entry that went onto the bus and programs or erases the flash sets BUSY_PEND and leaves no prefetch line, whatever its
result (R551, R553; log 109). -/
def afterFlash (s : State) (e : Entry) (attempts : Nat) : State :=
  if attempts != 0 && changesFlash s.fsp e then s.flashWritten else s

/-- An entry completes: it leaves its ring, its response is written, and a result other than E_OK is counted and told. -/
def completeEntry (s : State) (e : Entry) (result : Byte) (attempts : Nat) (rx : List Byte) : State :=
  let s := removeEntry (afterFlash s e attempts)
  let s := s.modFsp fun f => { f with entries := f.entries.inc, fails := if result == eOk then f.fails else f.fails.inc }
  let s := writeResponse s e.resp (responseRecs e result attempts s.clk.tbc rx)
  let s := if result == eOk then s else sendMsg s srcFsp 0xF0 .note (65536 * e.sel.val + result.toNat)
  releaseIfDue (s.modFsp fun f =>
    { f with entry := none, cmdRing := f.cmdRingNext.getD f.cmdRing, respRing := f.respRingNext.getD f.respRing
             cmdRingNext := none, respRingNext := none })

/-- What an illegal entry answers with: its TAG, SEL and RESP as they stand (R539). -/
def illegalEntry (h : List Byte) : Entry :=
  let flags := beNat (slice h 1 1)
  { sel := ⟨flags % 4, by omega⟩, hold := false, crcTx := false, crcRx := false, resp := flags / 32 % 2 == 1, wlen := 8
    retries := 0, tag := BitVec.ofNat 16 (beNat (slice h 4 2)), len := 0, tx := [], rxSkip := 0, rxBytes := 0, fill := 0
    attempts := 0, frdyWait := false, elapsed := 0, cfg := {} }

/-- A blocked entry: PROT_BLOCKS, and a message for the first block since its message was acknowledged (R552). -/
def blockEntry (s : State) (e : Entry) (op : Byte) : State :=
  let s := s.modFsp fun f => { f with protBlocks := f.protBlocks.inc }
  let told := (s.badger.slot 3 srcFsp).isSome || s.badger.queue.any fun m => m.source == srcFsp && m.kind == 0x31
  let s := if told then s else sendMsg s srcFsp 0x31 .note op.toNat
  completeEntry s e eReadOnly 0 []

/-! ### Running an entry (R535, R540, R542) -/

/-- Assertions of a select, one after the other. -/
def sendAssertions (s : State) (c : Fin 4) : List (List Byte) → State
  | [] => s
  | a :: as => sendAssertions (s.send (.fsp c a)) c as

/-- An attempt goes onto the bus; with FRDY_EN it waits before its first word, and its assertions show as their words are clocked
(R542). -/
def attempt (s : State) (e : Entry) : State :=
  let s := s.modFsp fun f => { f with entry := some { e with frdyWait := e.cfg.frdyEn, word := 0 } }
  if e.cfg.frdyEn then s else sendAssertions s e.sel e.assertions

/-- CMDQ may take an entry: RUN, master, the bus granted to CMDQ with no entry in that grant yet and not to be released, and no
response kept (R435, R466, R467, R536, R554). -/
def cmdqMay (s : State) : Bool :=
  s.running && s.clocksRun && s.fsp.master == .master && s.fsp.entry.isNone && s.fsp.response.isEmpty && s.xip.filling.isNone
    && s.bus.owner == some 2 && !s.fsp.cmdServed && !s.fsp.releaseDue

/-- A stalled response ring has room for the whole response of an entry (R541). -/
def responseFits (s : State) (e : Entry) : Bool :=
  !e.resp || match fspRing s s.fsp.respRing (·.producer) with
    | some r => r.policy != .stall || s.hamper.fits r (r.slotsFor (List.replicate (1 + (e.rxBytes + 15) / 16) []))
    | none => true

/-- CMDQ requests the arbiter: an entry or a gap marker heads its ring, no response is kept, and a stalled response ring has room
(R435, R541). -/
def cmdqWants (s : State) : Bool :=
  s.fsp.entry.isNone && s.fsp.response.isEmpty && match fspRing s s.fsp.cmdRing (·.consumer) with
    | some r => (match r.recs with
      | [] => false
      | x :: _ =>
        match parseEntry ((headBundle r.recs).map (·.bytes)) with
        | some e => responseFits s e
        | none => r.headGap != 0 || x.mark || x.bad || responseFits s (illegalEntry x.bytes))
    | none => false

/-- CMDQ_ENTRY: the entry at the head of CMD_RING; FSCK takes the idle level of its select's mode (R533). A gap marker at the head is removed instead. -/
def execCmdqEntry (s : State) : Host.Outcome State Fault Refusal :=
  if !cmdqMay s then .next s
  else
    let s := checkDesc s s.fsp.cmdRing
    match fspRing s s.fsp.cmdRing (·.consumer) with
    | none => .next s
    | some r =>
      if r.headGap != 0 then .next (s.setRing { r with headGap := 0 })
      else match r.recs with
        | [] => .next s
        | x :: _ =>
          if x.mark then .next (s.setRing r.freeHead)
          else if x.bad then .next (eccTurn s r 0)
          else
            let b := (headBundle r.recs).map (·.bytes)
            match parseEntry b with
            | none =>
              let e := illegalEntry x.bytes
              .next (if responseFits s e then completeEntry (s.modFsp fun f => { f with cmdServed := true }) e eRange 0 [] else s)
            | some e =>
              let e := { e with cfg := s.fsp.selCfg e.sel, began := s.now }
              if !responseFits s e then .next s
              else
                let s := s.modFsp fun f => { f with cmdServed := true }
                match blockedBy s.fsp e with
                | some op => .next (blockEntry s e op)
                | none =>
                  let s := if e.sel = 0 then sendExit s else s
                  .next (attempt (s.modFsp fun f => { f with sckHigh := decide (2 ≤ e.cfg.mode) }) e)

/-- The word that waited for FRDY is clocked: its own assertion shows, or with a held selection that of the whole entry after the
last word. The next word waits anew (R534, R542). -/
def clockWord (s : State) (e : Entry) : State :=
  let ws := e.words
  let last := decide (ws.length ≤ e.word + 1)
  let s := s.modFsp fun f => { f with entry := some { e with frdyWait := !last, word := e.word + 1 } }
  if !e.hold then s.send (.fsp e.sel (ws[e.word]?.getD [])) else if last then s.send (.fsp e.sel e.sent) else s

/-- FRDY_READY: FRDY is seen high, and the word's first period begins. -/
def execFrdyReady (s : State) : Host.Outcome State Fault Refusal :=
  .next (match s.fsp.entry with
    | some e => if s.clocksRun && e.frdyWait then clockWord s e else s
    | none => s)

/-- The code of a failed attempt (Table 14.5). -/
def failCode : AttemptFail → Byte
  | .frdy => eTimeout
  | .crc => eCrc

/-- An attempt has failed: a new one where RETRIES and the 250 µs budget of 30,000 BCLK cycles allow it, else the entry
completes (R544). -/
def attemptFailed (s : State) (e : Entry) (why : AttemptFail) : State :=
  if e.attempts < 1 + e.retries && decide (e.elapsed + e.cfg.inter + e.cycles ≤ 30000) then
    attempt (s.modFsp fun f => { f with retries := f.retries.inc })
      { e with attempts := e.attempts + 1, elapsed := e.elapsed + e.cfg.inter }
  else completeEntry s e (failCode why) e.attempts []

/-- BCLK cycles from the start of the first attempt to that of the wait for FRDY: what the words before have taken, and no less
than the model time that has passed. -/
def Entry.waitedFrom (e : Entry) (now : Nat) : Nat := Nat.max (e.elapsed + e.before + e.cfg.lead) ((now - e.began) / 2)

/-- The assertion in which a wait for FRDY fails ends with the periods that it has clocked (R542). -/
def cutWord (s : State) (e : Entry) : State := s.send (.fsp e.sel (if e.hold then (e.words.take e.word).flatten else []))

/-- FRDY_TIMEOUT: the wait of a word exceeds FRDY_TMO, in a retry no more than the time left; the assertion ends after LAG. -/
def execFrdyTimeout (s : State) : Host.Outcome State Fault Refusal :=
  match s.fsp.entry with
  | some e =>
    if s.clocksRun && e.frdyWait then
      let tmo := 120 * e.cfg.frdyTmo
      let wait := if e.attempts = 1 then tmo else Nat.min tmo (30000 - e.elapsed)
      .next (attemptFailed (cutWord s e) { e with elapsed := e.waitedFrom s.now + wait + e.cfg.lag } .frdy)
    else .next s
  | none => .next s

/-- FSP_ATTEMPT_FAIL: the attempt on the bus fails, `elapsed` BCLK cycles after the first one began. -/
def execFspAttemptFail (why : AttemptFail) (elapsed : Nat) (s : State) : Host.Outcome State Fault Refusal :=
  match s.fsp.entry with
  | some e =>
    let mayFail := match why with
      | .frdy => e.frdyWait
      | .crc => e.crcRx && !e.frdyWait
    let s' := match why with
      | .frdy => cutWord s e
      | .crc => s
    .next (if s.clocksRun && mayFail then attemptFailed s' { e with elapsed := elapsed } why else s)
  | none => .next s

/-- CMDQ_ENTRY_COMPLETE: the attempt on the bus succeeds with the bytes that FSDI brought back. -/
def execCmdqEntryComplete (rx : List Byte) (s : State) : Host.Outcome State Fault Refusal :=
  match s.fsp.entry with
  | some e =>
    .next (if e.frdyWait || !s.clocksRun || !e.echoed rx then s else completeEntry s e eOk e.attempts (e.captured rx))
  | none => .next s

/-! ### Execute-in-place (R546 to R551, R553) -/

/-- The line of a window address; none outside the admitted body, where the core's read faults (R546). -/
def xipLine (x : Xip) (addr : Word) : Option Nat :=
  let off := addr.toNat - 0x20000000
  if 0x20000000 ≤ addr.toNat ∧ off < x.size then some ((x.base + off) / 32) else none

/-- XIP_MISS: a read that no valid line serves; a prefetch that has not started gives way. Outside the admitted body the read
raises a load access fault. -/
def execXipMiss (addr : Word) (s : State) : Host.Outcome State Fault Refusal :=
  .next (match xipLine s.xip addr with
    | some l =>
      if s.coreRuns && !s.xip.lines.contains l then
        s.modXip fun x => { x with misses := x.misses.inc, miss := some l, prefetch := none }
      else s
    | none => if s.coreRuns then s.send (.loadFault addr) else s)

/-- The bytes of a fill before its DUMMY periods (Table 14.6). -/
def xipSequence (s : State) (l : Nat) : List Byte :=
  let addr := natBytes (if s.xip.addr4 then 4 else 3) (32 * l)
  if !s.xip.cont then [s.xip.cmd] ++ addr ++ [0xFF]
  else if s.fsp.inCont then addr ++ [s.xip.contMode]
  else [s.xip.cmd] ++ addr ++ [s.xip.contMode]

/-- The sequence of a fill goes onto the bus, behind the exit sequence where the flash only may be in continuous read (R548,
R549). -/
def startFill (s : State) (l : Nat) : State :=
  let s := if s.fsp.inCont then s else sendExit s
  s.fss0 (xipSequence s l) s.xip.dummy.toNat 32

/-- XIP_HIT: counted, and the line becomes the most recently used. -/
def execXipHit (addr : Word) (s : State) : Host.Outcome State Fault Refusal :=
  .next (match xipLine s.xip addr with
    | some l =>
      if s.coreRuns && s.xip.lines.contains l then
        s.modXip fun x => { x with hits := x.hits.inc, lines := l :: x.lines.erase l }
      else s
    | none => s)

/-- XIP_FILL_COMPLETE: the granted fill ends; the least recently used of four lines gives way, and a miss fill queues the
next line. -/
def execXipFillComplete (s : State) : Host.Outcome State Fault Refusal :=
  match s.xip.filling with
  | some l =>
    if s.fsp.busyPend || !s.clocksRun then .next s
    else
      let demand := s.xip.miss == some l
      let s := s.modXip fun x =>
        let lines := (l :: x.lines.erase l).take 4
        { x with lines := lines, filling := none, miss := if demand then none else x.miss
                 prefetch := if demand && x.prefetchEn && !lines.contains (l + 1) then some (l + 1) else x.prefetch }
      .next (releaseIfDue (s.modFsp fun f => { f with contRead := s.xip.cont, inCont := s.xip.cont }))
  | none => .next s

/-- XIP_INVALIDATE. -/
def objXipInvalidate : Obj :=
  { ty := tU8, acc := .cmd, range := fun w => w.v == 1, put := fun _ s => s.modXip fun x => { x with lines := [] } }

/-- XIP_INVALIDATE. -/
def execXipInvalidate (r : Req) (v : Byte) (s : State) : Host.Outcome State Fault Refusal :=
  .next (perform objXipInvalidate r tU8 [v] s)

/-- A fill or an access of the TSF waits for the flash to be polled (R553). -/
def pollDue (s : State) : Bool :=
  s.fsp.busyPend && (s.supOn || (s.clocksRun && s.fsp.master == .master && s.xip.filling.isSome))

/-- BUSY_POLL: one poll of the flash before the fill or the access of the TSF that waits; a fill goes onto the bus once the flash
is not busy. -/
def execBusyPoll (status : Byte) (s : State) : Host.Outcome State Fault Refusal :=
  .next (if pollDue s then
    let s := sendExit s
    let busy := status.getLsbD s.fsp.busyBit.toNat
    let s := (s.modFsp fun f => { f with busyPolls := f.busyPolls.inc, busyPend := busy }).fss0 [s.fsp.statusCmd] 0 1
    match s.xip.filling with
    | some l => if busy then s else startFill s l
    | none => s
  else s)

/-- The request that the TSF executes is the SAVE, or the LOCK, whose record is still being written (R180, R566). -/
def State.savesFor (s : State) : Bool :=
  match s.mgp.executing with
  | some b => s.trust.instr.saving.isSome && beNat (slice b 0 1) % 16 == 2
      && [[0x71, 0x00, 0x03], [0x71, 0x00, 0x05]].contains (slice b 2 3)
  | none => false

/-- A fill that waits for the flash ends without its line, a read that waits for it raising a load access fault at the line's first
address; a demand miss behind another line's fill stays (R547, R553). -/
def dropFill (s : State) (l : Nat) : State :=
  if s.xip.miss == some l then
    (s.modXip fun x => { x with filling := none, miss := none }).send (.loadFault (BitVec.ofNat 32 (0x20000000 + 32 * l - s.xip.base)))
  else s.modXip fun x => { x with filling := none }

/-- An access of the TSF that waits for the flash fails: the write of the Instructor record, with INTERNAL and SAVE's index (R99),
and a flash frame or the SAVE of a request. -/
def failAccess (s : State) : State :=
  let s := if s.trust.instr.saving.isSome then sendMsg s srcTsf 0xC2 .error 0x7100 else s
  let s := if (s.mgp.flashRequest && s.mgp.staged.isNone) || s.savesFor then
    { s with mgp := { s.mgp with programmed := false, staged := some { rhdr := (s.mgp.executing.getD []).headD 0, code := eInternal } } }
  else s
  { s with trust := { s.trust with instr := { s.trust.instr with saving := none } } }

/-- FLASH_STUCK: polling has lasted 3 s, and the access that waits fails. -/
def execFlashStuck (s : State) : Host.Outcome State Fault Refusal :=
  .next (if pollDue s then
    let s := sendMsg s srcFsp 0xF1 .error 0
    match s.xip.filling with
    | some l => dropFill s l
    | none => failAccess s
  else s)

/-! ### Release, acquire, mode faults (R554 to R556) -/

/-- FSP_RELEASE. -/
def objFspRelease : Obj :=
  { ty := tU8, acc := .cmd, mgp := .unlocked, range := fun w => w.v == 1
    put := fun _ s => if s.busUsed then s.modFsp fun f => { f with releaseDue := true } else releaseBus s }

/-- FSP_ACQUIRE. -/
def objFspAcquire : Obj :=
  { ty := tU8, acc := .cmd, mgp := .unlocked, range := fun w => w.v == 1
    put := fun _ s => s.modFsp fun f => { f with master := .master, releaseDue := false } }

/-- FSP_RELEASE. -/
def execFspRelease (r : Req) (v : Byte) (s : State) : Host.Outcome State Fault Refusal :=
  .next (perform objFspRelease r tU8 [v] s)

/-- FSP_ACQUIRE. -/
def execFspAcquire (r : Req) (v : Byte) (s : State) : Host.Outcome State Fault Refusal :=
  .next (perform objFspAcquire r tU8 [v] s)

/-- The FSP itself asserts FSS0: in a fill on the bus, and in an entry on FSS0 but between the assertions of its words; between the
polls of a fill, and between the accesses of the TSF, it does not (R534, R553, R555). -/
def State.onFss0 (s : State) : Bool :=
  (s.xip.filling.isSome && !s.fsp.busyPend) || match s.fsp.entry with
    | some e => e.sel == 0 && (e.frdyWait || decide (e.assertions.length ≤ 1))
    | none => false

/-- The grant in progress is aborted: a fill is asked for again, and an access of the TSF begins anew after reacquisition (R555). -/
def abortGrant (s : State) : State :=
  let s := s.modXip fun x =>
    { x with filling := none, prefetch := if x.filling.isSome && x.miss != x.filling then x.filling else x.prefetch }
  { s with bus := { s.bus with owner := none }, mgp := { s.mgp with programmed := false } }

/-- MODE_FAULT: FSS0 reads low while the FSP is master and does not assert it. -/
def execModeFault (s : State) : Host.Outcome State Fault Refusal :=
  if s.fsp.master == .master && !s.onFss0 && s.clocksRun then
    let s := s.modFsp fun f =>
      { f with master := .waiting, modeFault := true, modeFaults := f.modeFaults.inc, contRead := true, inCont := false,
               releaseDue := false }
    let s := abortGrant s
    let s := match s.fsp.entry with
      | some e => completeEntry s e eBusy e.attempts []
      | none => s
    .next (sendMsg s srcFsp 0xF2 .error 0)
  else .next s

/-- MF_QUIET_REACQUIRE: FSS0 has read high for MF_QUIET. -/
def execMfQuietReacquire (s : State) : Host.Outcome State Fault Refusal :=
  .next (if s.clocksRun && s.fsp.master == .waiting && s.fsp.mfAuto then s.modFsp fun f => { f with master := .master } else s)

/-! ### Objects of Table 14.15 -/

/-- A ring that CMD_RING or RESP_RING may name: 16-byte byte records on the FSP's side (R537). -/
def fspRingOk (s : State) (num : Nat) (side : Ring → Nat) : Bool :=
  num == 0xFFFF || match s.hamper.ring num with
    | some r => r.byteRecs && r.recSize == 16 && side r == roleFsp
    | none => false

/-- CMD_RING or RESP_RING. -/
def objFspRing (side : Ring → Nat) (get : Fsp → Nat) (set : Nat → Fsp → Fsp) (later : Nat → Fsp → Fsp) : Obj :=
  { ty := tU16, acc := .rw, read := fun _ s => natBytes 2 (get s.fsp), range := fun w => fspRingOk w.post w.v side
    put := fun w s => s.modFsp fun f => if f.entry.isSome then later w.v f else set w.v f }

/-- log2 of a power of two from 4 MiB to 256 MiB. -/
def flashLogOf (v : Nat) : Option Nat := [22, 23, 24, 25, 26, 27, 28].find? fun k => 2 ^ k == v

def Fsp.setSel (f : Fsp) (c : Fin 4) (g : Select → Select) : Fsp := { f with sels := f.sels.set c.val (g f.sels[c.val]) }

/-- A setting of one select; FSS0's timing is read-only. -/
def selNat (c : Fin 4) (ty : Byte) (legal : Nat → Bool) (get : Select → Nat) (set : Nat → Select → Select) : Obj :=
  rwNat ty (if c = 0 then .ro else .rw) legal (fun s => get s.fsp.sels[c.val]) fun v s => s.modFsp fun f => f.setSel c (set v)

/-- The objects of one select. -/
def objsSelect (c : Fin 4) (el : Nat) : Option Obj :=
  match el with
  | 1 => some (selNat c tU16 (fun v => v % 2 == 0 && within 2 256 v) (·.div) fun v k => { k with div := v })
  | 2 => some (selNat c tU8 (within 0 (if c = 0 then 0 else 3)) (·.mode) fun v k => { k with mode := v })
  | 3 => some (selNat c tU8 (within 1 255) (·.lead) fun v k => { k with lead := v })
  | 4 => some (selNat c tU8 (within 1 255) (·.lag) fun v k => { k with lag := v })
  | 5 => some (selNat c tU8 (within 1 255) (·.inter) fun v k => { k with inter := v })
  | 6 => some (selNat c tBool (fun _ => true) (fun k => bNat k.frdyEn) fun v k => { k with frdyEn := v == 1 })
  | 7 => some { selNat c tU16 (within 1 1000) (·.frdyTmo) (fun v k => { k with frdyTmo := v }) with acc := .rw }
  | _ => none

def masterCode : BusMaster → Nat
  | .released => 0
  | .master => 1
  | .waiting => 2

/-- The objects of Table 14.15. -/
def objsFsp (idx el : Nat) : Option Obj :=
  let counter (get : State → Counter) : Option Obj := some (roNat tU32 fun s => (get s).value.toNat)
  match idx with
  | 0x1400 =>
    match el with
    | 1 => some (roNat tU8 fun s => masterCode s.fsp.master)
    | 2 => some objFspRelease
    | 3 => some objFspAcquire
    | 4 => some (rwNat tBool .rw (fun _ => true) (fun s => bNat s.fsp.mfAuto) fun v s => s.modFsp fun f => { f with mfAuto := v == 1 })
    | 5 => some (rwNat tU16 .rw (within 10 10000) (·.fsp.mfQuiet) fun v s => s.modFsp fun f => { f with mfQuiet := v })
    | 6 => some (objFspRing (·.consumer) (·.cmdRing) (fun v f => { f with cmdRing := v }) fun v f => { f with cmdRingNext := some v })
    | 7 => some (objFspRing (·.producer) (·.respRing) (fun v f => { f with respRing := v }) fun v f => { f with respRingNext := some v })
    | 8 => some (rwNat tU32 .rw (fun v => (flashLogOf v).isSome) (fun s => 2 ^ s.fsp.flashLog)
        fun v s => s.modFsp fun f => { f with flashLog := (flashLogOf v).getD f.flashLog })
    | _ => none
  | 0x1401 => objsSelect 0 el
  | 0x1402 => objsSelect 1 el
  | 0x1403 => objsSelect 2 el
  | 0x1404 => objsSelect 3 el
  | 0x1405 =>
    match el with
    | 1 => some (roNat tBool fun s => bNat s.xip.cont)
    | 2 => some (rwNat tBool .rw (fun _ => true) (fun s => bNat s.xip.prefetchEn)
        fun v s => s.modXip fun x => { x with prefetchEn := v == 1 })
    | 3 => some objXipInvalidate
    | _ => none
  | 0x1406 =>
    match el with
    | 1 => counter (·.fsp.entries)
    | 2 => counter (·.fsp.retries)
    | 3 => counter (·.fsp.fails)
    | 4 => counter (·.fsp.modeFaults)
    | 5 => counter (·.fsp.protBlocks)
    | 6 => counter (·.xip.hits)
    | 7 => counter (·.xip.misses)
    | 8 => counter (·.fsp.busyPolls)
    | _ => none
  | _ => none

end Sys2Proof.Machine
end

