-- ==== Sys2Proof/Machine/Arbiter.lean ====
section
/-! DEFINITION. The credit arbiter: who requests each resource, the decision, the grant with its cost, windows, commits, and
the objects of Tables 12.5 and 12.6 (R461 to R480). -/

namespace Sys2Proof.Machine

/-! ### Who requests (R463, R465, R466) -/

/-- A local normal frame may go out on a port: it can be accepted, and no forwarded frame goes first (R465, R502). -/
def localMay (q : PortSt) : Bool := q.canN && (q.outFwd.isEmpty || decide (4 ≤ q.fwdRow))

/-- The first transmit slot of the tunnel that is sending a kind of the requester, and the port its head segment needs. -/
def txHead (s : State) (evt : Bool) : Option (Fin 4 × Port) :=
  ([0, 1, 2, 3] : List (Fin 4)).findSome? fun k =>
    let x := s.ronko.tun.tx[k.val]
    if (x.d0.extractLsb' 16 2 == 2) == evt then (x.wants s).map fun p => (k, p) else none

/-- A requester of the Ronko transmit scheduler requests: its head frame's port can accept it. -/
def ronkoRequests (s : State) (q : Nat) : Bool :=
  match q with
  | 0 => (match s.ronko.trig.issue with
    | (_, p :: _) :: _ => (s.port p).canX
    | _ => false)
  | 1 => (match s.ronko.sup with
    | x :: _ => if x.express then (s.port x.port).canX else localMay (s.port x.port)
    | [] => false)
  | 2 | 3 => (match txHead s (q == 2) with
    | some (_, p) => localMay (s.port p)
    | none => false)
  | _ => false

/-- A requester of the FSP requests (R466, R536, R541). -/
def fspRequests (s : State) (q : Nat) : Bool :=
  s.fsp.master == .master && match q with
    | 0 => s.supWants
    | 1 => s.running && s.xip.filling.isNone && (s.xip.miss.isSome || s.xip.prefetch.isSome)
    | 2 => s.running && cmdqWants s
    | _ => false

/-- A requester requests its resource. -/
def requests (s : State) (res : Resource) (q : Nat) : Bool :=
  match res with
  | .pool => poolRequests s q
  | .ronko => ronkoRequests s q
  | .fsp => fspRequests s q

/-! ### The decision (R469 to R472) -/

/-- The numbered requesters of a resource that request. -/
def requesting (s : State) (res : Resource) : List (Nat × Requesting) :=
  ((s.arb res).reqs.zipIdx.map fun (r, q) => (q, r)).filter fun x => requests s res x.1

/-- The winner of a decision. -/
def winner (s : State) (res : Resource) : Option (Nat × Requesting) := pick (s.arb res).parked (requesting s res)

/-! ### The grant (R467, R468, R471, R472) -/

/-- The frame that a requester of the transmit scheduler sends next, without its CRC. -/
def headFrame (s : State) (q : Nat) : List Byte :=
  match q with
  | 0 => (match s.ronko.trig.issue with
    | (t, _) :: _ => trigBytes t
    | [] => [])
  | 1 => (s.ronko.sup.head?.map (·.bytes)).getD []
  | _ => (match txHead s (q == 2) with
    | some (k, _) => (s.ronko.tun.tx[k.val]).frame s
    | none => [])

/-- The cost of a grant: one cycle or two on the pool port, a frame's symbols at 1.6 bytes a cycle on the link, the cycles
given on the FSP (Table 12.4). -/
def grantCost (s : State) (res : Resource) (q given : Nat) : Nat :=
  match res with
  | .pool => headCost s q
  | .ronko => (5 * ((headFrame s q).length + 6) + 7) / 8
  | .fsp => given

/-- A segment of a transmit slot has gone out; the last one ends the slot's work (R522). -/
def TxSlot.sentOne (x : TxSlot) : TxSlot :=
  let rest := x.segs.drop 1
  { x with segs := rest, state := if rest.isEmpty then 2 else x.state }

/-- A TIME frame goes out with its transmit stamp: t1 of the open exchange, or t3 in the frame (R508, R509). -/
def stampSent (s : State) (x : SupFrame) : State :=
  let now := alignedStamp s
  if beNat (slice x.bytes 0 1) = 2 then
    sendExpress (s.modTime fun t => { t with open_ := t.open_.map fun o => if natBytes 2 o.1.toNat == slice x.bytes 4 2 then (o.1, some now) else o })
      x.port x.bytes
  else sendExpress s x.port (x.bytes.take 12 ++ natBytes 8 now.toNat ++ x.bytes.drop 20)

/-- The head frame of a requester of the link goes out. -/
def sendHead (s : State) (q : Nat) : State :=
  match q with
  | 0 => (match s.ronko.trig.issue with
    | (t, p :: ps) :: rest =>
      sendExpress (s.modTrig fun x => { x with issue := if ps.isEmpty then rest else (t, ps) :: rest }) p (trigBytes t)
    | _ => s)
  | 1 => (match s.ronko.sup with
    | x :: rest =>
      let s : State := { s with ronko := { s.ronko with sup := rest } }
      if x.express then stampSent s x
      else pump (sendNormal (s.modPort x.port fun q => { q with fwdRow := 0 }) x.port x.bytes) x.port
    | [] => s)
  | _ => (match txHead s (q == 2) with
    | some (k, p) =>
      let x := s.ronko.tun.tx[k.val]
      let done := x.segs.length == 1
      let out := x.frame s
      let s := s.modTun fun t =>
        { t with tx := t.tx.set k.val x.sentOne, txCount := if done then t.txCount.inc else t.txCount }
      let s := pump (sendNormal (s.modPort p fun x => { x with fwdRow := 0 }) p out) p
      if done then refillTx s else s
    | none => s)

/-- The select that a grant of the FSP asserts next. -/
def nextSelect (s : State) (q : Nat) : Fin 4 :=
  if q = 2 then
    match (fspRing s s.fsp.cmdRing (·.consumer)).bind fun r => parseEntry ((headBundle r.recs).map (·.bytes)) with
    | some e => e.sel
    | none => 0
  else 0

/-- FSCK takes the idle level of the next select's MODE (R533, Table 14.1), and the grant has served no entry yet. -/
def clockIdle (s : State) (q : Nat) : State := s.modFsp fun f => { f with sckHigh := decide (2 ≤ (f.selCfg (nextSelect s q)).mode), cmdServed := false }

/-- A fill is granted: it goes onto the bus at once, or waits for the flash to be polled (R547, R553). -/
def beginFill (s : State) (l : Nat) : State :=
  let s := s.modXip fun x => { x with filling := some l }
  if s.fsp.busyPend then s else startFill s l

/-- What a grant of the FSP begins: a SUP access with the exit sequence it needs, or a fill; a command-queue entry is begun by
CMDQ_ENTRY (R547 to R549). -/
def beginBus (s : State) (q : Nat) : State :=
  match q with
  | 0 => sendExit s
  | 1 =>
    match s.xip.miss, s.xip.prefetch with
    | some l, _ => beginFill s l
    | none, some l => beginFill (s.modXip fun x => { x with prefetch := none }) l
    | none, none => s
  | _ => s

/-- ARB_GRANT: a free resource is granted to the winner. -/
def execArbGrant (res : Resource) (cost : Nat) (s : State) : Host.Outcome State Fault Refusal :=
  if (s.arb res).owner.isSome || !s.clocksRun then .next s
  else match winner s res with
    | none => .next s
    | some (q, _) =>
      let c := grantCost s res q cost
      let others := (requesting s res).map (·.1)
      let s := s.modArb res fun a => a.grant (res == .pool) q c others
      match res with
      | .pool => .next s
      | .ronko => .next (sendHead s q)
      | .fsp => .next (beginBus (clockIdle s q) q)

/-- GRANT_END: the granted transfer is over; on the pool write port its record is written. A grant of the FSP lasts while its fill or
entry runs. -/
def execGrantEnd (res : Resource) (s : State) : Host.Outcome State Fault Refusal :=
  .next (if !s.clocksRun then s
    else match res with
      | .pool => finishPort s []
      | .ronko => s.endGrant .ronko ((requesting s .ronko).map (·.1))
      | .fsp =>
        if s.fsp.entry.isSome || s.xip.filling.isSome then s
        else releaseIfDue (s.endGrant .fsp ((requesting s .fsp).map (·.1))))

/-- A requester at a window boundary: refilled, unmasked, its quota counted anew (R468, R471). -/
def Requesting.refill (r : Requesting) : Requesting :=
  let w : Int := r.active.weight
  { r with credit := if r.credit + w < w then r.credit + w else w, granted := 0, masked := false }

/-- A pending snapshot becomes active (R473). -/
def Arb.apply (a : Arb) : Arb :=
  match a.pending with
  | some p =>
    { a with windowActive := p.window, pending := none, commitState := 2
             reqs := a.reqs.zipIdx.map fun (r, i) => { r with active := p.cfgs[i]?.getD r.active } }
  | none => a

/-- ARB_WINDOW_BOUNDARY: while the FSP is not bus master, its requesters' credit counters hold (R466). -/
def execArbWindowBoundary (res : Resource) (s : State) : Host.Outcome State Fault Refusal :=
  let hold := res == .fsp && s.fsp.master != .master
  .next (if s.clocksRun then
      s.modArb res fun a => if hold then { a.apply with reqs := a.apply.reqs.map fun r => { r with granted := 0 } } else { a.apply with reqs := a.apply.reqs.map (·.refill) }
    else s)

/-- ARB_WAIT_FORCE: a wait counter of the link or the FSP reaches its limit. -/
def execArbWaitForce (res : Resource) (q : Nat) (s : State) : Host.Outcome State Fault Refusal :=
  match (s.arb res).reqs[q]? with
  | some r =>
    .next (if res != .pool && s.clocksRun && r.forced == 0 && requests s res q then
      s.modArb res fun a => (a.modReq q fun r =>
        { r.waited (r.active.limit - r.wait) with counted := r.counted + (r.active.limit - r.wait) }).force q
    else s)
  | none => .next s

/-! ### Commits (R473, R474) -/

/-- The left side of the admission rule of a resource. -/
def admission (res : Resource) (cfgs : List ReqCfg) : Nat :=
  match res with
  | .pool => (cfgs.map fun c => if c.high then 2 * c.limit else c.weight).sum + 26
  | _ => (cfgs.map (·.weight)).sum

/-- The shadows of a resource as a snapshot. -/
def Arb.snapshot (a : Arb) : Snapshot := { window := a.window, cfgs := a.reqs.map (·.cfg) }

/-- HEADROOM (Table 12.5). -/
def headroom (res : Resource) (a : Arb) : Int := (a.window : Int) - admission res a.snapshot.cfgs

/-- The resource a COMMIT value names. -/
def resourceOf (v : Nat) : Option Resource :=
  match v with
  | 1 => some .pool
  | 2 => some .ronko
  | 3 => some .fsp
  | _ => none

/-- COMMIT: the snapshot of the shadows, refused unless it meets the admission rule. -/
def objArbCommit : Obj :=
  { ty := tU8, acc := .cmd, range := fun w => (resourceOf w.v).isSome
    env := fun w => match resourceOf w.v with
      | some res => (match (w.post.arb res).pending with
        | some p => if admission res p.cfgs ≤ p.window then eOk else eRange
        | none => eOk)
      | none => eOk
    put := fun w s => match resourceOf w.v with
      | some res => s.modArb res fun a => { a with pending := some a.snapshot, commitState := 1 }
      | none => s
    onRefuse := fun w code s => match resourceOf w.v with
      | some res => if code == eRange then s.modArb res fun a => { a with commitState := 3 } else s
      | none => s }

/-- ARB_COMMIT. -/
def execArbCommit (r : Req) (v : Byte) (s : State) : Host.Outcome State Fault Refusal :=
  .next (perform objArbCommit r tU8 [v] s)

/-! ### Objects of Tables 12.5 and 12.6 -/

/-- A requester's number read from its resource. -/
def reqRo (res : Resource) (q : Nat) (ty : Byte) (get : Requesting → Nat) : Obj :=
  roNat ty fun s => ((s.arb res).reqs[q]?.map get).getD 0

/-- A shadow of a requester. -/
def reqCfg (res : Resource) (q : Nat) (ty : Byte) (legal : Nat → Bool) (get : ReqCfg → Nat) (set : Nat → ReqCfg → ReqCfg) : Obj :=
  rwNat ty .rw legal (fun s => ((s.arb res).reqs[q]?.map fun r => get r.cfg).getD 0)
    fun v s => s.modArb res fun a => a.modReq q fun r => { r with cfg := set v r.cfg }

/-- Legal values of LIMIT: QUOTA on the pool port, WAIT_LIMIT elsewhere. -/
def limitLegal (res : Resource) (v : Nat) : Bool := if res == .pool then within 1 255 v else within 16 65535 v

/-- MAX_WAIT cleared. -/
def clearMaxWait (s : State) (res : Resource) (q : Nat) : State :=
  s.modArb res fun a => a.modReq q fun r => { r with maxWait := 0 }

/-- The objects of one requester. -/
def objsReq (res : Resource) (q el : Nat) : Option Obj :=
  match el with
  | 0x1 => some (reqCfg res q tU8 (within 0 1) (fun c => bNat c.high) fun v c => { c with high := v == 1 })
  | 0x2 => some (reqCfg res q tU16 (within 1 4095) (·.weight) fun v c => { c with weight := v })
  | 0x3 => some (reqCfg res q tU16 (limitLegal res) (·.limit) fun v c => { c with limit := v })
  | 0x4 => some (reqRo res q tU8 fun r => bNat r.active.high)
  | 0x5 => some (reqRo res q tU16 fun r => r.active.weight)
  | 0x6 => some (reqRo res q tU16 fun r => r.active.limit)
  | 0x7 => some (reqRo res q tI16 fun r => (BitVec.ofInt 16 r.credit).toNat)
  | 0x8 => some (reqRo res q tU32 fun r => r.grants.value.toNat)
  | 0x9 => some (reqRo res q tU32 fun r => r.events.value.toNat)
  | 0xA => some (reqRo res q tU16 (·.maxWait))
  | 0xB => some { ty := tU8, acc := .cmd, range := fun w => w.v == 1, put := fun _ s => clearMaxWait s res q }
  | _ => none

/-- The resource of an element 1 to 3 above a base. -/
def resAt (el base : Nat) : Option Resource := resourceOf (el + 1 - base)

/-- The objects of the resources, obj 0x5200. -/
def objsArbMain (el : Nat) : Option Obj :=
  if el = 0x07 then some objArbCommit
  else if 0x01 ≤ el ∧ el ≤ 0x03 then (resAt el 0x01).map fun res =>
    rwNat tU16 .rw (within 64 4096) (fun s => (s.arb res).window) fun v s => s.modArb res fun a => { a with window := v }
  else if 0x04 ≤ el ∧ el ≤ 0x06 then (resAt el 0x04).map fun res => roNat tU16 fun s => (s.arb res).windowActive
  else if 0x08 ≤ el ∧ el ≤ 0x0A then (resAt el 0x08).map fun res => roNat tU8 fun s => (s.arb res).commitState
  else if 0x0B ≤ el ∧ el ≤ 0x0D then (resAt el 0x0B).map fun res =>
    roNat tI16 fun s => (BitVec.ofInt 16 (headroom res (s.arb res))).toNat
  else none

/-- The objects of the arbiter. -/
def objsArb (idx el : Nat) : Option Obj :=
  if idx = 0x5200 then objsArbMain el
  else if 0x5210 ≤ idx ∧ idx ≤ 0x521C then objsReq .pool (idx - 0x5210) el
  else if 0x5220 ≤ idx ∧ idx ≤ 0x5223 then objsReq .ronko (idx - 0x5220) el
  else if 0x5230 ≤ idx ∧ idx ≤ 0x5232 then objsReq .fsp (idx - 0x5230) el
  else none

end Sys2Proof.Machine
end

