-- ==== Sys2Proof/Machine/Eth.lean ====
section
/-! DEFINITION. Ethernet and IPv4 below ROP (R135 to R137, R139, R143): the MAC and its rings, MDIO, the DHCP client, ARP and
ICMP, and the objects 0x1100 to 0x1102 (Tables 3.13 and 3.14). -/

namespace Sys2Proof.Machine

def State.modEth (s : State) (f : Eth → Eth) : State := { s with eth := f s.eth }

/-- The MAC transmits (R137, Table 3.15). -/
def State.txOn (s : State) : Bool := s.macReady && s.eth.txEn && s.eth.macAddr != 0

/-- RMII_PLL_LOCK: the RMII PLL, enabled and selected as the source, locks (R52). -/
def execRmiiPllLock (s : State) : Host.Outcome State Fault Refusal :=
  if s.clk.rmiiEn && s.eth.refOut && s.clk.refPresent then .next { s with clk := { s.clk with rmiiLock := true } }
  else .next s

/-- The reference direction (R52): with the PHY as the source, the RMII PLL does not run. -/
def setRefOut (s : State) (on : Bool) : State :=
  { s with eth := { s.eth with refOut := on }, clk := { s.clk with rmiiLock := s.clk.rmiiLock && on } }

/-! ### Received frames (R143, R432, Table 3.7) -/

/-- The number that bytes `i` and up of a frame spell. -/
def frameNat (bytes : List Byte) (i k : Nat) : Nat := beNat ((bytes.drop i).take k)

/-- The MAC takes the frame: its length and destination are legal and it is neither tagged nor a pause frame (Table 3.7,
R137). -/
def Eth.admits (e : Eth) (bytes : List Byte) : Bool :=
  let dest := frameNat bytes 0 6
  let kind := frameNat bytes 12 2
  within 64 1518 bytes.length && kind != 0x8100 && kind != 0x8808
    && (dest == 0xFFFFFFFFFFFF || (e.macAddr != 0 && dest == e.macAddr.toNat))

/-- A frame holds an IPv4 fragment: MF set or an offset (Table 3.7). -/
def isFragment (bytes : List Byte) : Bool := frameNat bytes 12 2 == 0x0800 && frameNat bytes 20 2 % 0x4000 != 0

/-- An IPv4 destination that is the unit's: its address, the broadcast address, or that of its subnet. -/
def Eth.owns (e : Eth) (ip : Nat) : Bool :=
  ip == 0xFFFFFFFF || (e.ip != 0 && (ip == e.ip.toNat || ip == (e.ip ||| ~~~e.mask).toNat))

/-- Myvex has a use for what a frame carries (Table 3.7): ARP; and for the unit's IPv4 destinations ICMP echo requests and UDP
to port 47710; UDP to port 68, which the DHCP client takes before there is an address. -/
def Eth.useful (e : Eth) (bytes : List Byte) : Bool :=
  let ihl := 4 * (frameNat bytes 14 1 % 16)
  let mine := e.owns (frameNat bytes 30 4)
  match frameNat bytes 12 2 with
  | 0x0806 => true
  | 0x0800 =>
    frameNat bytes 14 1 / 16 == 4
      && (match frameNat bytes 23 1 with
          | 1 => e.ip != 0 && frameNat bytes 30 4 == e.ip.toNat && frameNat bytes (14 + ihl) 1 == 8
          | 17 => mine && frameNat bytes (16 + ihl) 2 == 47710 || frameNat bytes (16 + ihl) 2 == 68
          | _ => false)
  | _ => false

/-- Groups of four bytes in ascending address order as words, the last filled with 0. -/
def leWords : Nat → List Byte → List Word
  | 0, _ => []
  | k + 1, bytes => BitVec.ofNat 32 (beNat ((bytes.take 4 ++ List.replicate (4 - bytes.length) 0).reverse)) :: leWords k (bytes.drop 4)

/-- The records of a frame (R432): its length in word 0, its bytes from byte 4, padded with 0. -/
def frameRecs (r : Ring) (bytes : List Byte) : List (List Byte) :=
  let k := (4 + bytes.length + r.recSize - 1) / r.recSize
  let ws := BitVec.ofNat 32 bytes.length :: leWords (k * (r.recSize / 4) - 1) bytes
  (List.range k).map fun i => wireBytes r.byteRecs ((ws.drop (i * (r.recSize / 4))).take (r.recSize / 4))

/-- A frame that passed the MAC goes to the receive ring whole, or is dropped (R143); and whether it was taken. -/
def frameToRing (s : State) (bytes : List Byte) : State × Bool :=
  match boundRing s .macRx with
  | none => (s, false)
  | some r =>
    let recs := frameRecs r bytes
    if 64 < recs.length then (s, false) else (stage s .macRx recs, decide (s.hamper.stagedRecs .macRx < 4))

/-- A frame is dropped, and counted once (Table 3.14). -/
def Eth.drop (e : Eth) : Eth := { e with rxDropped := e.rxDropped.inc }

/-- MAC_FRAME_RX: a frame arrives, its frame check sequence included in its bytes and judged in `fcsGood` (R137, R143,
Table 3.14). What the receive ring does not take, and what Myvex then has no use for, is counted as dropped, each frame once
(R73, R135); an IPv4 fragment counts in IP_FRAG_DROP besides. -/
def execMacFrameRx (bytes : List Byte) (fcsGood : Bool) (s : State) : Host.Outcome State Fault Refusal :=
  if !(s.macReady && s.eth.rxEn) then .next s
  else if !fcsGood then .next (s.modEth fun e => { e with rxFcsErr := e.rxFcsErr.inc })
  else if !s.eth.admits bytes then .next (s.modEth Eth.drop)
  else
    let (s, taken) := frameToRing (s.modEth fun e => { e with rxFrames := e.rxFrames.inc }) bytes
    let s := if s.coreRuns && isFragment bytes then s.modEth fun e => { e with ipFragDrop := e.ipFragDrop + 1 } else s
    .next (if !taken || (s.coreRuns && (isFragment bytes || !s.eth.useful bytes)) then s.modEth Eth.drop else s)

/-! ### Transmitted frames (R143) -/

/-- The frame that a bundle of the transmit ring holds, in the form of R432. -/
def frameOf (r : Ring) (b : List Rec) : List Byte :=
  let mem := (b.flatMap fun x => recWords r.byteRecs x.bytes).flatMap fun w => (natBytes 4 w.toNat).reverse
  (mem.drop 4).take (beNat (mem.take 4).reverse % 2048)

/-- MAC_FRAME_TX: the MAC takes the frame at the head of the transmit ring and sends it; a gap marker at the head is only
removed (R143, R439). -/
def execMacFrameTx (s : State) : Host.Outcome State Fault Refusal :=
  if !s.txOn then .next s
  else
    let s := checkDesc s s.eth.txRing
    match s.hamper.ring s.eth.txRing with
    | none => .next s
    | some r =>
      if r.consumer != roleMacTx then .next s
      else match r.headGap != 0, r.recs with
        | false, [] => .next s
        | false, x :: _ =>
          if x.mark || x.bad then .next (popHead s r).1
          else
            let b := headBundle r.recs
            let (s, _) := takeHeads b.length s r
            .next ((s.modEth fun e => { e with txFrames := e.txFrames.inc }).send (.ethernet (frameOf r b)))
        | true, _ => .next (popHead s r).1

/-! ### MDIO (Table 3.15) -/

/-- A write of MDIO_CMD: ignored while an access runs. -/
def Mdio.write (m : Mdio) (w : Word) : Mdio :=
  if m.go then m
  else { data := w.extractLsb' 0 16, reg := w.extractLsb' 16 5, phy := w.extractLsb' 21 5, read := w.getLsbD 26,
         go := w.getLsbD 27 }

/-- MDIO_GO: a write of MDIO_CMD; GO starts the access. -/
def execMdioGo (w : Word) (s : State) : Host.Outcome State Fault Refusal :=
  .next (s.modEth fun e => { e with mdio := e.mdio.write w })

/-- MDIO_COMPLETE: the access ends, GO clears, and read data are placed in DATA. -/
def execMdioComplete (data : W16) (s : State) : Host.Outcome State Fault Refusal :=
  if s.eth.mdio.go then
    .next (s.modEth fun e => { e with mdio := { e.mdio with go := false, data := if e.mdio.read then data else e.mdio.data } })
  else .next s

/-! ### Link, DHCP, ARP and ICMP (R135, R136, R139) -/

/-- One gratuitous ARP announces an address just acquired (Table 3.7). -/
def announce (s : State) : State :=
  if s.eth.ip = 0 then s else s.sendEth (.arp false s.eth.ip s.eth.ip s.eth.macAddr)

/-- LINK_UP: the PHY reports a link. The settings of DHCP_EN and STATIC_ take effect: the static address, or a first
DISCOVER with no address held (R136, R142). -/
def execLinkUp (speed100 fullDuplex : Bool) (s : State) : Host.Outcome State Fault Refusal :=
  if !s.coreRuns then .next s
  else
    let e := { s.eth with linkUp := true, linkSpeed := if speed100 then 2 else 1, linkFull := fullDuplex,
                          dhcpInUse := s.eth.dhcpEn }
    if e.dhcpInUse then
      .next (State.sendEth { s with eth := { e with ip := 0, mask := 0, router := 0, leaseEnd := 0, dhcp := .discovering 1 } }
        (.dhcp .discover))
    else
      .next (announce { s with eth := { e with ip := e.staticIp, mask := e.staticMask, router := e.staticGw, dhcp := .idle } })

/-- ETHERNET_LINK_LOSS: LINK_UP and LINK_SPEED clear; no session closes (R139). -/
def execEthernetLinkLoss (s : State) : Host.Outcome State Fault Refusal :=
  .next (s.modEth fun e => { e with linkUp := false, linkSpeed := 0 })

/-- DHCP_RETRANSMIT: a DISCOVER is sent again (R136). -/
def execDhcpRetransmit (s : State) : Host.Outcome State Fault Refusal :=
  match s.eth.dhcp with
  | .discovering k =>
    if s.coreRuns && s.eth.linkUp then
      .next (State.sendEth (s.modEth fun e => { e with dhcp := .discovering (k + 1) }) (.dhcp .discover))
    else .next s
  | _ => .next s

/-- The DHCP client waits for a reply. -/
def DhcpState.asks : DhcpState → Bool
  | .discovering _ | .renewing | .rebinding => true
  | .idle | .bound => false

/-- DHCP_REPLY: address, mask, router and lease are taken; a new address is announced (R136, Table 3.7). -/
def execDhcpReply (ip mask router : Word) (leaseS : Nat) (s : State) : Host.Outcome State Fault Refusal :=
  if s.coreRuns && s.macReady && s.eth.linkUp && s.eth.dhcp.asks then
    let s' := s.modEth fun e =>
      { e with ip := ip, mask := mask, router := router, dhcp := .bound, leaseEnd := s.now + secs leaseS }
    .next (if s.eth.ip == ip then s' else announce s')
  else .next s

/-- DHCP_RENEW: at 50% of the lease the client asks to renew (Table 3.7). -/
def execDhcpRenew (s : State) : Host.Outcome State Fault Refusal :=
  if s.coreRuns && s.eth.dhcp == .bound then
    .next (State.sendEth (s.modEth fun e => { e with dhcp := .renewing }) (.dhcp .renew))
  else .next s

/-- DHCP_REBIND: at 87.5% of the lease the client rebinds (Table 3.7). -/
def execDhcpRebind (s : State) : Host.Outcome State Fault Refusal :=
  if s.coreRuns && (s.eth.dhcp == .bound || s.eth.dhcp == .renewing) then
    .next (State.sendEth (s.modEth fun e => { e with dhcp := .rebinding }) (.dhcp .rebind))
  else .next s

/-- LEASE_EXPIRE: the lease ends, the address is dropped, and the client looks for an offer again (R136). -/
def execLeaseExpire (s : State) : Host.Outcome State Fault Refusal :=
  if s.coreRuns && (s.eth.dhcp == .bound || s.eth.dhcp == .renewing || s.eth.dhcp == .rebinding) then
    .next (s.modEth fun e => { e with ip := 0, mask := 0, router := 0, leaseEnd := 0, dhcp := .discovering 0 })
  else .next s

/-- ARP_REQUEST: a request for the unit's address is answered, and its sender enters the cache of 16, in place of the oldest
entry (Table 3.7). -/
def execArpRequest (target sender : Word) (senderMac : BitVec 48) (s : State) : Host.Outcome State Fault Refusal :=
  if s.coreRuns && s.macReady && s.eth.ip != 0 && target == s.eth.ip then
    let s := s.modEth fun e => { e with arp := (⟨sender, senderMac⟩ :: e.arp.filter fun x => x.ip != sender).take 16 }
    .next (s.sendEth (.arp true s.eth.ip sender s.eth.macAddr))
  else .next s

/-- ARP_AGE: an entry is aged out (Table 3.7). -/
def execArpAge (ip : Word) (s : State) : Host.Outcome State Fault Refusal :=
  .next (s.modEth fun e => { e with arp := e.arp.filter fun x => x.ip != ip })

/-- ICMP_ECHO: an echo request for the unit's address is answered, up to 100 replies in a second (Table 3.7); one above them is
dropped and counted (R135). -/
def execIcmpEcho (src dst : Word) (payload : List Byte) (s : State) : Host.Outcome State Fault Refusal :=
  if s.coreRuns && s.macLives && s.eth.ip != 0 && dst == s.eth.ip then
    if s.eth.icmpSent < 100 then
      .next (State.sendEth (s.modEth fun e => { e with icmpSent := e.icmpSent + 1 }) (.icmp src payload))
    else .next (s.modEth Eth.drop)
  else .next s

/-- What the IPv4 header of something sent holds: its TTL, DF, and the identification's fragment fields, which stay 0 (Table
3.7). -/
structure Ipv4Out where
  ttl : Nat
  dontFragment : Bool
  src : Word
  dst : Word
  deriving DecidableEq, Repr

/-- The IPv4 header of what the block sends, if it goes out as an IPv4 packet: TTL 64 and DF set (Table 3.7). The DHCP client
sends to the broadcast address, and from no address before it has one. -/
def Emission.ipv4 (e : Eth) : Emission → Option Ipv4Out
  | .datagram ip _ _ => some ⟨64, true, e.ip, ip⟩
  | .icmp dst _ => some ⟨64, true, e.ip, dst⟩
  | .dhcp _ => some ⟨64, true, e.ip, 0xFFFFFFFF⟩
  | _ => none

/-! ### Objects (Tables 3.13 and 3.14) -/

/-- A setting of Ethernet. -/
def ethNat (ty : Byte) (legal : Nat → Bool) (get : Eth → Nat) (set : Nat → Eth → Eth) : Obj :=
  rwNat ty .rw legal (fun s => get s.eth) fun v s => s.modEth (set v)

/-- Contiguous ones from bit [31]. -/
def maskLegal (v : Nat) : Bool := (List.range 33).any fun k => v == 2 ^ 32 - 2 ^ k

/-- Whole seconds until a deadline. -/
def secLeft (now deadline : Nat) : Nat := (deadline - now) / 240000000

/-- The objects of Ethernet and IPv4. -/
def objsEth (idx el : Nat) : Option Obj :=
  match idx, el with
  | 0x1100, 1 => some (ethNat tU64 (fun v => decide (v < 2 ^ 48) && v / 2 ^ 40 % 2 == 0) (·.macAddr.toNat)
      fun v e => { e with macAddr := BitVec.ofNat 48 v })
  | 0x1100, 2 => some (rwNat tU8 .rw (fun v => decide (v ≤ 1)) (fun s => bNat s.eth.refOut) fun v s => setRefOut s (v == 1))
  | 0x1100, 3 => some (roNat tBool fun s => bNat s.eth.linkUp)
  | 0x1100, 4 => some (roNat tU8 fun s => s.eth.linkSpeed.toNat)
  | 0x1100, 5 => some (roNat tBool fun s => bNat s.eth.linkFull)
  | 0x1101, 1 => some (ethNat tBool (fun _ => true) (fun e => bNat e.dhcpEn) fun v e => { e with dhcpEn := v == 1 })
  | 0x1101, 2 => some (ethNat tU32 (fun v => v != 0 && decide (v < 0xE0000000)) (·.staticIp.toNat)
      fun v e => { e with staticIp := BitVec.ofNat 32 v })
  | 0x1101, 3 => some (ethNat tU32 maskLegal (·.staticMask.toNat) fun v e => { e with staticMask := BitVec.ofNat 32 v })
  | 0x1101, 4 => some (ethNat tU32 (fun _ => true) (·.staticGw.toNat) fun v e => { e with staticGw := BitVec.ofNat 32 v })
  | 0x1101, 5 => some (roNat tU32 fun s => s.eth.ip.toNat)
  | 0x1101, 6 => some (roNat tU32 fun s => if s.eth.dhcpInUse then secLeft s.now s.eth.leaseEnd else 0)
  | 0x1102, 1 => some (roNat tU32 fun s => s.eth.rxFrames.value.toNat)
  | 0x1102, 2 => some (roNat tU32 fun s => s.eth.rxFcsErr.value.toNat)
  | 0x1102, 3 => some (roNat tU32 fun s => s.eth.rxDropped.value.toNat)
  | 0x1102, 4 => some (roNat tU32 fun s => s.eth.txFrames.value.toNat)
  | 0x1102, 5 => some (roNat tU32 fun s => s.eth.ipFragDrop.toNat)
  | _, _ => none

end Sys2Proof.Machine
end

