-- ==== Sys2Proof/Machine/RegForm.lean ====
section
/-! DEFINITION. The form of a register (R14 to R16, R69 to R75, R145, R146): its fields, what they mirror, who may write it, and the
two words of a 64-bit register. Each chapter's register table is a function to `Reg`. -/

namespace Sys2Proof.Machine

/-- One field: its place, what it reads, and what a write of a value to it does; a write of a value that the field cannot
take leaves it unchanged; `code` is what the raw window answers for a value that a write of the register gives it, 0 for one that the
field takes. -/
structure Field where
  lo : Nat
  width : Nat
  get : State → Nat
  set : Option (Nat → State → State) := none
  code : Nat → W → Byte := fun _ _ => 0

/-- A 64-bit register as its two words form it (R69, R71). -/
inductive Pairing where
  | none
  /-- The low word: a read latches the high word of this value. -/
  | low (value : State → W64)
  /-- The high word of a read-only pair: a read returns the latch. -/
  | high

/-- A counter's home (R73). -/
structure CounterHome where
  get : State → Counter
  set : (Counter → Counter) → State → State

/-- One register. `whole` takes the place of the fields' writes, and `check` is what the raw window answers for them; `guard` is
what a write by the application core needs (R87); `counter` and `status` mark an event counter and its status register. -/
structure Reg where
  fields : List Field
  tsf : Bool := false
  pair : Pairing := .none
  whole : Option (Word → State → State) := none
  check : W → List Byte := fun _ => []
  guard : State → Bool := fun _ => true
  counter : Option CounterHome := none
  status : Option CounterHome := none

/-! ### Fields -/

def roF (lo width : Nat) (get : State → Nat) : Field := { lo := lo, width := width, get := get }

/-- A field that takes the values a test admits. -/
def rwF (lo width : Nat) (get : State → Nat) (legal : Nat → Bool) (set : Nat → State → State) : Field :=
  { lo := lo, width := width, get := get, set := some fun v s => if legal v then set v s else s
    code := fun v _ => if legal v then eOk else eRange }

/-- A bit that acts when 1 is written to it and reads 0. -/
def goF (lo : Nat) (act : State → State) : Field :=
  { lo := lo, width := 1, get := fun _ => 0, set := some fun v s => if v = 1 then act s else s }

/-- A sticky bit that a written 1 clears. -/
def w1cF (lo : Nat) (get : State → Bool) (clear : State → State) : Field :=
  { lo := lo, width := 1, get := fun s => bNat (get s), set := some fun v s => if v = 1 then clear s else s }

/-- The value an object reads, as a number. -/
def Obj.peek (o : Obj) (s : State) : Nat := beNat (o.read .loc s)

/-- The write of a value that a register makes of its object, and the state that it would leave. -/
def Obj.regWrite (o : Obj) (v : Nat) (s : State) : W :=
  let data := natBytes ((typeSize o.ty).getD 0) v
  ⟨⟨.loc, .mbx, none⟩, data, s, o.put ⟨⟨.loc, .mbx, none⟩, data, s, s, s⟩ s, s⟩

/-- The code of steps 5 and 8 to 12 of Table 3.3; `env` says whether steps 11 and 12 count. -/
def Obj.valueCode (o : Obj) (env : Bool) (w : W) : Byte :=
  firstCode [if typeLegal o.ty w.data && o.range w then eOk else eRange, if o.mode w then eOk else eMode, o.state w,
    if o.instr w then eOk else eInstructor, if env then o.env w else eOk]

/-- That code for a value that a register gives its object. -/
def Obj.regCode (o : Obj) (env : Bool) (v : Nat) (s : State) : Byte := o.valueCode env (o.regWrite v s)

/-- That code for a value that a write of the raw window gives the object, in the states of that write (R97, R109). -/
def Obj.rawCode (o : Obj) (env : Bool) (v : Nat) (w : W) : Byte :=
  o.valueCode env { w with data := natBytes ((typeSize o.ty).getD 0) v }

/-- A register write of a value that the matching object makes illegal is ignored, but for what its refusal leaves behind. -/
def Obj.poke (o : Obj) (v : Nat) (s : State) : State :=
  let code := o.regCode true v s
  if code == eOk then (o.regWrite v s).post else o.onRefuse (o.regWrite v s) code s

/-- A field that mirrors an object. -/
def objF (lo width : Nat) (o : Option Obj) : Field :=
  match o with
  | none => roF lo width fun _ => 0
  | some o =>
    if o.acc == .ro || o.acc == .cmd then roF lo width o.peek
    else { lo := lo, width := width, get := o.peek, set := some o.poke, code := o.rawCode true }

/-- A field that mirrors an object and takes every value that the object's own table makes legal, whatever step 11 or 12 of
Table 3.3 would say of it (R298). -/
def tableF (lo width : Nat) (o : Option Obj) : Field :=
  match o with
  | none => roF lo width fun _ => 0
  | some o => { lo := lo, width := width, get := o.peek
                set := some fun v s => if o.regCode false v s == eOk then (o.regWrite v s).post else s
                code := o.rawCode false }

/-- A bit that performs a command object with a value. -/
def cmdF (lo v : Nat) (o : Option Obj) : Field :=
  { goF lo (fun s => (o.map fun o => o.poke v s).getD s) with
    code := fun bit w => if bit = 1 then (o.map fun o => o.rawCode true v w).getD eOk else eOk }

/-- A ring number with a bit above it that stands for none: the object's 0xFFFF. -/
def ringF (lo : Nat) (o : Option Obj) : Field :=
  let num := fun (s : State) => (o.map fun o => o.peek s).getD 0xFFFF
  { lo := lo, width := 15, get := fun s => if num s = 0xFFFF then 0x4000 else num s
    set := o.map fun o v s => o.poke (if 0x4000 ≤ v then 0xFFFF else v) s
    code := fun v w => (o.map fun o => o.rawCode true (if 0x4000 ≤ v then 0xFFFF else v) w).getD eOk }

/-! ### Words -/

/-- The bits of a word that a field takes. -/
def Field.of (f : Field) (w : Word) : Nat := w.toNat / 2 ^ f.lo % 2 ^ f.width

/-- The word that the fields of a register read. -/
def Reg.word (r : Reg) (s : State) : Word :=
  BitVec.ofNat 32 ((r.fields.map fun f => f.get s % 2 ^ f.width * 2 ^ f.lo).sum)

/-- The bits that some field takes; the others are reserved (R15). -/
def Reg.mask (r : Reg) : Word := BitVec.ofNat 32 ((r.fields.map fun f => (2 ^ f.width - 1) * 2 ^ f.lo).sum)

/-- A write of the word: each field takes its bits (R15). -/
def Reg.put (r : Reg) (w : Word) (s : State) : State :=
  match r.whole with
  | some f => f w s
  | none => r.fields.foldl (fun s f => match f.set with
      | some g => g (f.of w) s
      | none => s) s

/-- The code of each field for its bits of a word that the raw window writes, and those of the whole register. -/
def Reg.codes (r : Reg) (w : W) : List Byte := (r.fields.map fun f => f.code (f.of w.word) w) ++ r.check w

/-- The register can be written at all. -/
def Reg.writable (r : Reg) : Bool := r.whole.isSome || r.fields.any fun f => f.set.isSome

/-! ### Forms of registers -/

/-- A register of one whole-word field. -/
def wordReg (tsf : Bool) (o : Option Obj) : Reg := { fields := [objF 0 32 o], tsf := tsf }

/-- A read-only register. -/
def roReg (get : State → Nat) : Reg := { fields := [roF 0 32 get] }

/-- An event counter (R73, R74). -/
def counterReg (tsf : Bool) (h : CounterHome) : Reg :=
  { fields := [rwF 0 32 (fun s => (h.get s).value.toNat) (fun _ => true) fun v s =>
      h.set (fun c => { c with value := BitVec.ofNat 32 v }) s], tsf := tsf, counter := some h }

/-- A counter's status register (R73). -/
def statusReg (tsf : Bool) (h : CounterHome) : Reg :=
  { fields := [w1cF 0 (fun s => (h.get s).wrap) (h.set fun c => { c with wrap := false }),
               w1cF 1 (fun s => (h.get s).collide) (h.set fun c => { c with collide := false })], tsf := tsf, status := some h }

/-- A counter at an offset with its status word 4 above it. -/
def counterAt (tsf : Bool) (base off : Nat) (h : CounterHome) : Option Reg :=
  if off = base then some (counterReg tsf h) else if off = base + 4 then some (statusReg tsf h) else none

/-- Counters spaced 8 bytes apart from a base, each with its status word. -/
def countersAt (tsf : Bool) (base off : Nat) (hs : List CounterHome) : Option Reg :=
  if off < base then none else
    match hs[(off - base) / 8]? with
    | some h => counterAt tsf 0 ((off - base) % 8) h
    | none => none

/-- The two words of a read-only 64-bit register (R69). -/
def pairAt (tsf : Bool) (base off : Nat) (value : State → W64) : Option Reg :=
  if off = base then
    some { fields := [roF 0 32 fun s => (value s).toNat % 2 ^ 32], tsf := tsf, pair := .low value }
  else if off = base + 4 then some { fields := [roF 0 32 fun _ => 0], tsf := tsf, pair := .high }
  else none

/-- The state a command's meaning answers; a stop leaves the state as it was. -/
def settled (s : State) : Host.Outcome State Fault Refusal → State
  | .next t => t
  | _ => s

/-- A low byte field of a wider number, as a signed number. -/
def signedNat (bits : Nat) (i : Int) : Nat := (BitVec.ofInt bits i).toNat

end Sys2Proof.Machine
end

