-- ==== Sys2Proof/Machine/Sessions.lean ====
section
/-! DEFINITION. Host sessions (R113 to R117, R130, R142, R152): the session table's commands as ROP and the mailbox make them,
BUSY_PER_S, and the objects 0x1000 to 0x1003 (Tables 3.9 to 3.12). -/

namespace Sys2Proof.Machine

def State.modRop (s : State) (f : Rop → Rop) : State := { s with rop := f s.rop }

/-- The entry unit of a session that this unit's own Ethernet port opened. -/
def ownEntry : W16 := 0xFFFF

/-- The open sessions. -/
def Rop.openSessions (r : Rop) : List Session := r.sessions.toList.filter fun x => x.id != 0

/-- The first ID from `id` on, wrapping from 0xFFFE to 1, that no open session has (R114); `n` bounds the search. -/
def Rop.searchId (r : Rop) : Nat → W16 → W16
  | 0, id => id
  | n + 1, id => if r.openSessions.any (fun x => x.id == id) then r.searchId n (if id == 0xFFFE then 1 else id + 1) else id

/-- The ID that the next session gets. -/
def Rop.newId (r : Rop) : W16 := r.searchId 8 (if 0xFFFE ≤ r.lastId.toNat then 1 else r.lastId + 1)

/-- Whole milliseconds until a deadline, rounded up. -/
def msUp (now deadline : Nat) : Nat := (deadline - now + 239999) / 240000

/-- RETRY_AFTER while every slot is open: until the soonest expiry (R114). -/
def soonestExpiry (s : State) : Nat :=
  Nat.min 60000 ((s.rop.openSessions.map fun x => msUp s.now x.deadline).foldl Nat.min 60000)

/-- The free slot with the lowest number. -/
def freeSession (s : State) : Option (Fin 8) := allSlots.find? fun i => (s.session i).id == 0

/-- A session opens: code, ID and RETRY_AFTER (R114, R116, R142). The bucket is full. -/
def openSession (s : State) (ip : Word) (port entry : W16) (timeout : Nat) : State × Byte × W16 × Nat :=
  if timeout != 0 && !within 100 60000 timeout then (s, eRange, 0, 0)
  else match freeSession s with
    | none => (s, eBusy, 0, soonestExpiry s)
    | some i =>
      let ms := if timeout = 0 then s.rop.sessionTimeoutDefault else timeout
      let id := s.rop.newId
      let s := s.modSession i fun _ =>
        { id := id, entry := entry, ip := ip, port := port, timeoutMs := ms, deadline := s.now + msec ms,
          depth := s.rop.cmdDepth, rate := s.rop.rate, burst := s.rop.burst, level := secs s.rop.burst, levelAt := s.now }
      let s := s.modRop fun r => { r with lastId := id }
      (raiseEvent s evMgmt 3 (id.toNat + 65536), eOk, id, 0)

/-- The slot of an open session. -/
def slotOf (s : State) (sid : W16) : Option (Fin 8) :=
  if sid == 0 then none else allSlots.find? fun i => (s.session i).id == sid

/-- The timer of a session restarts (R116). -/
def touchSession (s : State) (sid : W16) : State :=
  match slotOf s sid with
  | some i => s.modSession i fun x => { x with deadline := s.now + msec x.timeoutMs }
  | none => s

/-- A session is closed (R116). -/
def closeSession (s : State) (sid : W16) : State :=
  match slotOf s sid with
  | some i => removeSession s i 2
  | none => s

/-- The code for an operation that names a session that is not open, or none (R117). -/
def sessionCode (s : State) (sid : W16) : Byte :=
  if sid == 0 then eNotOwner else if (slotOf s sid).isSome then eOk else eStaleEpoch

/-- SESSION_OPEN (R114). -/
def execSessionOpen (peer : Peer) (entry timeout : W16) (s : State) : Host.Outcome State Fault Refusal :=
  if s.coreRuns then
    let (s', code, id, retry) := openSession s peer.ip peer.port entry timeout.toNat
    .next { s'.countBusy .rop code with answer := { code := code, ty := tU16, data := if code == eOk then natBytes 2 id.toNat else [], retry := retry } }
  else .next s

/-- SESSION_CLOSE (R116). -/
def execSessionClose (sid : W16) (s : State) : Host.Outcome State Fault Refusal :=
  .next (State.reply (closeSession s sid) (sessionCode s sid) 0 0 [])

/-- KEEPALIVE (R116). -/
def execKeepalive (sid : W16) (s : State) : Host.Outcome State Fault Refusal :=
  .next (State.reply (touchSession s sid) (sessionCode s sid) 0 0 [])

/-- SESSION_EXPIRE: a session's timer has run out (R116). -/
def execSessionExpire (slot : Fin 8) (s : State) : Host.Outcome State Fault Refusal := .next (removeSession s slot 3)

/-- BUSY_PER_S_UPDATE: a second ends (R132); the count of echo replies begins anew (Table 3.7). -/
def execBusyPerSUpdate (s : State) : Host.Outcome State Fault Refusal :=
  .next { s with rop := { s.rop with busyPerS := s.rop.busyCount - s.rop.busyMark, busyMark := s.rop.busyCount },
                 eth := { s.eth with icmpSent := 0 } }

/-! ### Objects (Tables 3.9 to 3.12) -/

/-- S of R131 in whole µs, rounded down, as MEAN_SERVICE reports it (DESIGN CHOICE, log entry 66). -/
def Rop.meanService (r : Rop) : Nat := r.serviceUs.sum / Nat.max 1 r.serviceUs.length

/-- SESSION_PEER: entry node, IPv4 address and UDP port (Table 3.10); the entry unit's own ID for itself. -/
def peerWord (s : State) (x : Session) : Nat :=
  if x.id == 0 then 0
  else
    let node := if x.entry == ownEntry then (s.ronko.node.id.getD 0).toNat else x.entry.toNat
    node % 4096 * 2 ^ 48 + x.ip.toNat * 65536 + x.port.toNat

/-- A setting of the ROP server. -/
def ropNat (ty : Byte) (legal : Nat → Bool) (get : Rop → Nat) (set : Nat → Rop → Rop) : Obj :=
  rwNat ty .rw legal (fun s => get s.rop) fun v s => s.modRop (set v)

/-- The slot `k` of the session table. -/
def sessionAt (s : State) (k : Nat) : Session := s.rop.sessions[k]?.getD {}

/-- The objects of ROP and sessions. SESSION_LEFT is rounded up to whole ms (DESIGN CHOICE, log entry 66). -/
def objsRop (idx el : Nat) : Option Obj :=
  match idx with
  | 0x1000 => match el with
    | 1 => some (ropNat tU16 (within 1 65535) (·.defaultTimeout) fun v r => { r with defaultTimeout := v })
    | 2 => some (ropNat tU16 (within 100 60000) (·.sessionTimeoutDefault) fun v r => { r with sessionTimeoutDefault := v })
    | 3 => some (roNat tU8 fun _ => 8)
    | 4 => some (ropNat tU16 (within 10 20000) (·.rate) fun v r => { r with rate := v })
    | 5 => some (ropNat tU8 (within 1 64) (·.burst) fun v r => { r with burst := v })
    | 6 => some (rwNat tU8 .rw (within 1 64) (·.rop.cmdDepth) fun v s =>
        let s := s.modRop fun r => { r with cmdDepth := v }
        if s.coreRuns then hostRing s else s)
    | 7 => some { ty := tU16, acc := .ro, read := fun who s => match normReq s who with
        | .host sid => natBytes 2 sid.toNat
        | _ => natBytes 2 0 }
    | _ => none
  | 0x1001 =>
    if within 1 8 el then some (roNat tU16 fun s => (sessionAt s (el - 1)).id.toNat)
    else if within 9 16 el then some (roNat tU64 fun s => peerWord s (sessionAt s (el - 9)))
    else if within 17 24 el then some (roNat tU32 fun s =>
      let x := sessionAt s (el - 17)
      if x.id == 0 then 0 else msUp s.now x.deadline)
    else none
  | 0x1002 => match el with
    | 1 => some { ty := tU8, acc := .rw, read := fun who s => natBytes 1 (s.relative who).eventSubscribe.toNat,
                  range := fun w => decide (w.v ≤ 0x0F),
                  put := fun w s => s.modRelative w.req.who fun x => { x with eventSubscribe := BitVec.ofNat 4 w.v } }
    | _ => none
  | 0x1003 =>
    let count := fun (get : Rop → Word) => some (roNat tU32 fun s => (get s.rop).toNat)
    match el with
    | 1 => count (·.rxDatagrams)
    | 2 => count (·.malformed)
    | 3 => count (·.busyCount)
    | 4 => count (·.busyPerS)
    | 5 => count (·.seqErrors)
    | 6 => count (·.duplicates)
    | 7 => count (·.timeouts)
    | 8 => count (·.lateDiscards)
    | 9 => some (roNat tU32 fun s => s.rop.meanService)
    | _ => none
  | _ => none

end Sys2Proof.Machine
end

