-- ==== Sys2Proof/Machine/Tick.lean ====
section
/-! DEFINITION. The tick boundary of a loop engine (R59, R61): windows close, settings come into force, set-points move,
supervisors run and the DACs take their codes; and the loop synchronisation (R63, R64). -/

namespace Sys2Proof.Machine

/-! ### Parts of a boundary -/

/-- The clamp paths' tick samples against the release level: the buffer voltage below the threshold less CLAMP_HYST steps
(R395). -/
def Channel.clampTick (c : Channel) : Channel :=
  let k := c.clamp
  let below (code : Int) (thr : Nat) : Bool :=
    ((Q.mk code (2 ^ 23)).abs.mul q2048).lt (Q.mk ((thr : Int) - c.out.clampHyst) 500)
  let v := below c.conv.calA k.thrV
  let i := c.conv.meterIl || below c.conv.calB k.thrI
  { c with clamp := { k with
    relV := if v then Nat.min (k.relV + 1) 65535 else 0
    relI := if i then Nat.min (k.relI + 1) 65535 else 0 } }

/-- CLR_n acts by its level: a channel that is driven while it is low is held, and one whose CLR_EN was cleared is let go
(R387, R390). -/
def clrTick (s : State) (n : Ch) : State :=
  let c := s.chan n
  if s.running && c.actSp.clrEn && !s.trig.clrN && c.sources then
    s.modCh n fun c => ({ c with out := { c.out with clrHeld := true } } : Channel).show
  else if c.out.clrHeld && !c.actSp.clrEn then s.modCh n Channel.clrRelease
  else s

/-- The profile generator's tick; an arrival raises a SEQ event (R301). -/
def profileTick (s : State) (n : Ch) (g : F64) : State :=
  let (c, hit) := (s.chan n).profTick (s.engine n.engine).nActive g
  let s := s.modCh n fun _ => c
  if hit then raiseEvent s evSeq 5 n.val else s

/-- The follow set-point's tick (R303, R309, R319). -/
def followTick (s : State) (n : Ch) : State :=
  let c := s.chan n
  if c.hold.held != 0 then s.modCh n Channel.profHold
  else if c.fol.shape then profileTick s n c.prof.g
  else s.modCh n fun c => c.setSp c.fol.setPoint

/-- The set-point in force at a boundary, as the mode gives it (Table 6.1, R233, R247, R286, R299). A mode that is left at
this boundary gives it no set-point any more (R238, R247, R251). -/
def spTick (s : State) (n : Ch) : State :=
  let c := s.chan n
  match c.mode.status with
  | .safeRamp => rampTick s n
  | .enabling => s
  | _ =>
    if c.mode.overrunDue || c.leavesNow then s
    else match c.mode.mode with
    | .fv => s.modCh n fun c => c.setSp (f32To64 c.actSp.v)
    | .fi => s.modCh n fun c => c.setSp (f32To64 c.actSp.i)
    | .tune => s.modCh n fun c => c.setSp (f32To64 (if c.forcesI then c.actSp.i else c.actSp.v))
    | .fvProfile | .fiProfile =>
      if c.hold.held != 0 then s.modCh n Channel.profHold else profileTick s n c.prof.g
    | .follow => followTick s n
    | .nested =>
      s.modCh n fun c =>
        { c with loop := { c.loop with outerDue := c.loop.outerDue || decide (c.loop.outerLeft = 1),
                                       outerLeft := c.loop.outerLeft - 1 } }
    | _ => s

/-- What a tick leaves behind for the next one. -/
def Channel.rollTick (c : Channel) : Channel :=
  { c with clamp := { c.clamp with seen := c.clamp.tripped }
           rng := { c.rng with left := c.rng.left - 1 }
           loop := { c.loop with rsw := false, extra := 0, stepsRun := 0, outerRan := false, sampled := true } }

/-- One channel's boundary. The window that closed belongs to the tick before; what is evaluated here holds for the tick that
begins. -/
def channelTick (s : State) (n : Ch) (w : ChanWin) (refNr : Bool) : State :=
  let per := (s.engine n.engine).nActive
  let s := s.modCh n fun c =>
    let c := c.decimate w refNr s.clk.tbc
    { c with stream := { c.stream with tickNo := c.stream.tickNo + 1 } }
  let s := streamTick s n
  let s := s.modCh n fun c =>
    let c : Channel := { c.captureBoundary with conv := c.conv.captureTick }
    ((c.holdTick.sweepTick s.clk.tbc).lacTick n per).takeSettings.takeInject
  let s := if (s.chan n).mode.offNow then enterOff s n .offNow else s
  let old := (s.chan n).mode.status
  let s := (limitTick s n).modCh n fun c => c.setMeterIl (c.mode.mode == .meter)
  let s := (auxTick s n).modCh n fun c =>
    ({ c with fol := c.fol.tick (c.mode.mode == .follow) c.auxFol.used } : Channel).takeTarget
  let s := if old != .safeRamp && (s.chan n).mode.status == .safeRamp then s else spTick s n
  let s := s.modCh n fun c =>
    let c := if c.mode.mode == .off then c.feTick else c.supervise per
    c.powerTick.clampTick.loadThr
  let s := clrTick s n
  let s := s.modCh n fun c => if c.actProg.timing = 0 then c.update else c
  s.modCh n Channel.rollTick

/-- The ACLK cycles of the tick in progress: N, and what restarts have added (R58, R63). -/
def Engine.length (g : Engine) : Nat := g.nActive + g.extra

/-- The conversion edges of the tick in progress: the ACLK edges at which the count since PLL lock is even (R62, R341,
R342). -/
def Engine.edges (g : Engine) : Nat := if g.odd then g.length / 2 else (g.length + 1) / 2

/-- A channel's windows hold a code for each conversion that its converters made in the tick: ADC A on the conversion
edges, and ADC B on the same ones or, in METER, on the others (R341, R347). -/
def winFits (g : Engine) (c : Channel) (w : ChanWin) : Bool :=
  winM w.a == g.edges && winM w.b == (if c.conv.meterIl then g.length - g.edges else g.edges)

/-- The ref-not-ready tag of a window that closes (R345): the block knows it, but for a window in which REF_READY changed,
where it depends on the conversion edge. -/
def Engine.refTag (g : Engine) (w : ChanWin) : Bool := g.refLow && (!g.refHigh || w.refNr)

/-- The engine at a boundary: the next tick starts. -/
def Engine.nextTick (g : Engine) (s : State) : Engine :=
  { g with cycle := 0, base := s.now, odd := g.odd != decide (g.length % 2 = 1), extra := 0, refLow := !s.dev.refReady,
           refHigh := s.dev.refReady }

/-- LOOP_TICK: a tick boundary of an engine, given with the codes that its converters made in the tick. Ticks run only
while ACLK runs (R649). -/
def execLoopTick (e : Eng) (w0 w1 : ChanWin) (s : State) : Host.Outcome State Fault Refusal :=
  let g := s.engine e
  if s.clocksRun && winFits g (s.chan e.slot0) w0 && winFits g (s.chan e.slot1) w1 then
    let s := activatePeriod (s.modEng e fun g => g.nextTick s) e
    .next (channelTick (channelTick s e.slot0 w0 (g.refTag w0)) e.slot1 w1 (g.refTag w1))
  else .next s

/-! ### Loop synchronisation (R63, R64, Table 2.4) -/

/-- LOOP_SYNC_ARM. -/
def objSyncArm : Obj :=
  { ty := tU8, acc := .cmd, range := fun w => decide (w.v ≤ 1) && (w.v == 0 || w.post.clk.syncMask != 0)
    own := fun w =>
      if allEng.all fun e => !w.post.clk.syncMask.getLsbD e.val ||
          (ownsForPeriod w.post w.req.who e.slot0 && ownsForPeriod w.post w.req.who e.slot1) then eOk else eNotOwner
    put := fun w s => { s with clk := { s.clk with syncArmed := w.v == 1 } } }

/-- LOOP_SYNC_ARM. -/
def execLoopSyncArm (r : Req) (v : Byte) (s : State) : Host.Outcome State Fault Refusal :=
  .next (perform objSyncArm r tU8 [v] s)

/-- LOOP_SYNC_RESTART: at the first ACLK edge at which the TBC has reached the target, the tick in progress of each selected
engine counts anew. -/
def execLoopSyncRestart (s : State) : Host.Outcome State Fault Refusal :=
  if s.clk.syncArmed && s.clocksRun && decide (s.clk.syncTarget.toNat ≤ s.clk.tbc.toNat) then
    let s' := { s with clk := { s.clk with syncArmed := false } }
    .next (forEach allEng s' fun s e =>
      if s.clk.syncMask.getLsbD e.val then s.modEng e fun g =>
        { g with base := s.now, extra := g.extra + (s.now - g.base) / 6 } else s)
  else .next s

end Sys2Proof.Machine
end

