-- ==== Sys2Proof/Machine/RegsA.lean ====
section
/-! DEFINITION. The register tables of chapters 2 to 8: clocks, device state, the MAC, protection and mailbox, limits and
locks, modes, loop engines with their program memory, LAC and TUNE, and set-point motion. -/

namespace Sys2Proof.Machine

/-! ### Blocks 0x000 and 0x002 (Table 5.8) -/

def devReg (off : Nat) : Option Reg :=
  match off with
  | 0x000 => some { fields := [roF 0 8 fun s => s.ident.siliconStep.toNat, roF 8 1 fun s => s.ident.grade.toNat,
                               roF 9 1 fun s => s.ident.keyOption.toNat] }
  | 0x004 => some { fields := [roF 0 3 fun s => deviceCode s.dev.state], tsf := true }
  | _ => none

def homeResetCount : CounterHome :=
  { get := fun s => s.dev.resetCount, set := fun f s => { s with dev := { s.dev with resetCount := f s.dev.resetCount } } }

def rstReg (off : Nat) : Option Reg :=
  match off with
  | 0x000 => some { fields := [roF 0 10 fun s => s.dev.resetCause.toNat], tsf := true }
  | 0x004 => some { fields := [roF 0 32 fun s => s.dev.resetCount.value.toNat], tsf := true }
  | 0x008 => some { fields := [w1cF 0 (fun s => s.dev.resetCount.wrap) (homeResetCount.set fun c => { c with wrap := false })],
                    tsf := true, status := some homeResetCount }
  | 0x00C => some { fields := [roF 0 6 fun s => s.power.good.toNat] }
  | 0x010 => some { fields := [roF 0 4 fun s => s.power.straps.toNat, roF 8 4 fun s => s.strapLevels.toNat] }
  | 0x014 => some { fields := [roF 0 14 (·.dev.wdt.period), roF 31 1 fun s => bNat s.dev.wdt.on]
                    whole := some fun w s => settled s (execAppWdtCtrlWrite w s) }
  | 0x018 => some { fields := [roF 0 32 fun _ => 0], whole := some fun w s => settled s (execAppWdtKick w s) }
  | 0x01C => some { fields := [roF 0 14 fun s => if s.dev.wdt.on then msLeft s.now s.dev.wdt.deadline else 0] }
  | 0x030 => some { fields := [goF 0 fun s => settled s (execDeviceResetTimeout s)], tsf := true }
  | _ => pairAt true 0x020 off (·.dev.lastHalt)

/-! ### Block 0x001 (Table 2.5) -/

def State.modClk (s : State) (f : Clocks → Clocks) : State := { s with clk := f s.clk }

/-- The high half held and the low half of a write as one value (R71). -/
def pairOf (hi lo : Word) : W64 := hi ++ lo

/-- A period shadow written by the supervisor core; with the clock stopped it becomes active at once (R76). -/
def loopNReg (e : Eng) : Reg :=
  { fields := [rwF 0 16 (fun s => (s.engine e).nShadow) (fun v => decide (40 ≤ v)) fun v s =>
                 let t := s.modEng e fun g => { g with nShadow := v }
                 if s.clocksRun then t else activatePeriod t e,
               roF 16 16 fun s => (s.engine e).nActive], tsf := true }

def clkReg (off : Nat) : Option Reg :=
  match off with
  | 0x000 => some { fields :=
      [roF 0 1 fun s => bNat s.clk.refPresent, roF 1 1 fun s => bNat (s.power.straps.getLsbD 0), roF 2 1 fun s => bNat s.clk.pllLock,
       roF 3 1 fun s => bNat s.clk.rmiiLock, roF 4 1 fun s => bNat s.clk.aonOnRc, roF 5 1 fun s => bNat s.clk.rootFreqOk,
       roF 6 1 fun s => bNat s.clk.clockLost, w1cF 7 (·.clk.rateClamp) fun s => s.modClk fun c => { c with rateClamp := false }] }
  | 0x004 => some { fields :=
      [rwF 0 1 (fun s => bNat s.clk.pllEn) (fun _ => true) (fun v s => s.modClk fun c =>
         { c with pllEn := v == 1, pllLock := c.pllLock && v == 1 }),
       rwF 1 1 (fun s => bNat s.clk.rmiiEn) (fun _ => true) fun v s => s.modClk fun c =>
         { c with rmiiEn := v == 1, rmiiLock := c.rmiiLock && v == 1 }], tsf := true }
  | 0x018 => some (roReg (·.clk.frac.toNat))
  | 0x01C => some { fields := [roF 0 32 fun s => i32Nat s.clk.rate], tsf := true
                    whole := some fun w s => settled s (execTbcRateWrite w s) }
  | 0x020 => some { fields := [roF 0 32 fun s => s.clk.tbcSet.toNat % 2 ^ 32], tsf := true, pair := .low (·.clk.tbcSet)
                    whole := some fun w s => s.modClk fun c => { c with tbcSet := pairOf c.tbcSetHold w } }
  | 0x024 => some { fields := [roF 0 32 fun _ => 0], tsf := true, pair := .high
                    whole := some fun w s => s.modClk fun c => { c with tbcSetHold := w } }
  | 0x028 => some { fields := [goF 0 fun s => settled s (execTbcLoad 1 s)], tsf := true }
  | 0x030 => some (loopNReg 0)
  | 0x034 => some (loopNReg 1)
  | 0x038 => some (loopNReg 2)
  | 0x03C => some (loopNReg 3)
  | 0x040 => some { fields := [roF 0 32 fun s => s.clk.syncTarget.toNat % 2 ^ 32], tsf := true, pair := .low (·.clk.syncTarget)
                    whole := some fun w s => s.modClk fun c => { c with syncTarget := pairOf c.syncHold w } }
  | 0x044 => some { fields := [roF 0 32 fun _ => 0], tsf := true, pair := .high
                    whole := some fun w s => s.modClk fun c => { c with syncHold := w } }
  | 0x048 => some { fields :=
      [rwF 0 4 (·.clk.syncMask.toNat) (fun _ => true) (fun v s => s.modClk fun c => { c with syncMask := BitVec.ofNat 4 v }),
       rwF 4 1 (fun s => bNat s.clk.syncArmed) (fun _ => true) fun v s => s.modClk fun c => { c with syncArmed := v == 1 }], tsf := true }
  | _ => pairAt false 0x010 off (·.clk.tbc)

/-! ### Block 0x003 (Table 4.10) and block 0x004 (Table 4.11) -/

def State.modMbx (s : State) (f : Mailbox → Mailbox) : State := { s with trust := { s.trust with mbx := f s.trust.mbx } }

/-- A field of the mailbox. -/
def mbxF (lo width : Nat) (get : Mailbox → Nat) (set : Nat → Mailbox → Mailbox) : Field :=
  rwF lo width (fun s => get s.trust.mbx) (fun _ => true) fun v s => s.modMbx (set v)

/-- A word of the mailbox. -/
def mbxWord (get : Mailbox → Word) (set : Word → Mailbox → Mailbox) (fields : List (Nat × Nat)) : Option Reg :=
  some { fields := fields.map fun (lo, width) => roF lo width fun s => (get s.trust.mbx).toNat / 2 ^ lo
         whole := some fun w s => s.modMbx (set w) }

def homeProtViol : CounterHome :=
  { get := fun s => s.trust.protViol, set := fun f s => { s with trust := { s.trust with protViol := f s.trust.protViol } } }

/-- The protection and mailbox registers. What CMD and OP set off is `execRegisterWrite`'s. -/
def mbxReg (off : Nat) : Option Reg :=
  match off with
  | 0x000 => some (counterReg true homeProtViol)
  | 0x004 => some { fields := [rwF 0 32 (·.trust.protLastAddr.toNat) (fun _ => true) fun v s =>
      { s with trust := { s.trust with protLastAddr := BitVec.ofNat 32 v } }], tsf := true }
  | 0x010 => some { fields := [mbxF 0 3 (·.cmd.toNat) (fun v m => { m with cmd := BitVec.ofNat 3 v }), roF 31 1 fun _ => 0] }
  | 0x014 => mbxWord (·.obj) (fun w m => { m with obj := w }) [(0, 16), (16, 8), (24, 8)]
  | 0x018 => mbxWord (·.auth) (fun w m => { m with auth := w &&& 0x0003FFFF }) [(0, 16), (16, 1), (17, 1)]
  | 0x01C => mbxWord (·.len) (fun w m => { m with len := w &&& 0x00FFFFFF }) [(0, 16), (16, 7), (23, 1)]
  | 0x060 => some { fields :=
      [mbxF 0 8 (·.resultCode.toNat) (fun v m => { m with resultCode := BitVec.ofNat 8 v }),
       mbxF 8 6 (·.resultPos.toNat) (fun v m => { m with resultPos := BitVec.ofNat 6 v }),
       mbxF 16 16 (·.resultEpoch.toNat) fun v m => { m with resultEpoch := BitVec.ofNat 16 v }], tsf := true }
  | 0x064 => some { fields := [roF 0 11 fun s => s.trust.mbx.long.length], tsf := true }
  | 0x080 => some { fields :=
      [mbxF 0 2 (·.sessOp.toNat) (fun v m => { m with sessOp := BitVec.ofNat 2 v }),
       mbxF 16 16 (·.sessId.toNat) fun v m => { m with sessId := BitVec.ofNat 16 v }] }
  | 0x084 => some { fields := [mbxF 0 16 (·.sessArg.toNat) fun v m => { m with sessArg := BitVec.ofNat 16 v }] }
  | 0x088 => mbxWord (·.peerLo) (fun w m => { m with peerLo := w }) [(0, 32)]
  | 0x08C => mbxWord (·.peerHi) (fun w m => { m with peerHi := w }) [(0, 32)]
  | 0x090 => some { fields :=
      [mbxF 0 8 (·.sessCode.toNat) (fun v m => { m with sessCode := BitVec.ofNat 8 v }),
       mbxF 16 16 (·.sessNew.toNat) fun v m => { m with sessNew := BitVec.ofNat 16 v }], tsf := true }
  | _ =>
    if 0x020 ≤ off ∧ off < 0x060 then
      mbxWord (fun m => m.data[(off - 0x20) / 4]?.getD 0)
        (fun w m => { m with data := m.data.setIfInBounds ((off - 0x20) / 4) w }) [(0, 32)]
    else none

/-- A field of a channel's limits, as the supervisor core writes it. -/
def limF (n : Ch) (width : Nat) (get : Limits → Nat) (set : Nat → Limits → Limits) : Option Reg :=
  some { fields := [rwF 0 width (fun s => get (s.chan n).lim) (fun _ => true) fun v s => changeLimits s n (set v)],
         tsf := true }

def State.modLock (s : State) (n : Ch) (f : Lock → Lock) : State := s.modCh n fun c => { c with lock := f c.lock }

def ownerOf (k : Nat) : OwnerKind := match k with | 0 => .none | 1 => .host | 2 => .mgmt | _ => .loc
def lockOf (k : Nat) : Option LockState := match k with | 0 => some .free | 1 => some .held | 2 => some .ramping | _ => none

def limReg (n : Ch) (k : Nat) : Option Reg :=
  match k with
  | 0 => limF n 32 (·.vMax.toNat) fun v l => { l with vMax := BitVec.ofNat 32 v }
  | 1 => limF n 32 (·.iMax.toNat) fun v l => { l with iMax := BitVec.ofNat 32 v }
  | 2 => limF n 32 (·.pMax.toNat) fun v l => { l with pMax := BitVec.ofNat 32 v }
  | 3 => limF n 12 (·.modeMask.toNat) fun v l => { l with modeMask := BitVec.ofNat 16 v }
  | 4 => some { fields := [roF 0 16 fun s => minN (s.chan n).lim.minPeriod], tsf := true }
  | 5 => limF n 5 (·.progClasses.toNat) fun v l => { l with progClasses := BitVec.ofNat 8 v }
  | 6 => limF n 32 (·.lacSpan.toNat) fun v l => { l with lacSpan := BitVec.ofNat 32 v }
  | _ => none

def lockReg (n : Ch) (k : Nat) : Option Reg :=
  match k with
  | 0 => some { fields :=
      [rwF 0 16 (fun s => (s.chan n).lock.epoch.toNat) (fun _ => true) (fun v s => s.modLock n fun l => { l with epoch := BitVec.ofNat 16 v }),
       rwF 16 2 (fun s => ownerCode (s.chan n).lock.kind) (fun _ => true) (fun v s => s.modLock n fun l => { l with kind := ownerOf v }),
       rwF 20 2 (fun s => lockCode (s.chan n).lock.state) (fun v => (lockOf v).isSome)
         fun v s => s.modLock n fun l => { l with state := (lockOf v).getD l.state }], tsf := true }
  | 1 => some { fields := [rwF 0 16 (fun s => (s.chan n).lock.session.toNat) (fun _ => true)
      fun v s => s.modLock n fun l => { l with session := BitVec.ofNat 16 v }], tsf := true }
  | _ => none

def limitReg (off : Nat) : Option Reg :=
  if off < 0x100 then (chOf (off / 0x20)).bind fun n => limReg n (off % 0x20 / 4)
  else if 0x200 ≤ off ∧ off < 0x240 then (chOf ((off - 0x200) / 8)).bind fun n => lockReg n (off % 8 / 4)
  else none

/-! ### Block 0x008 + n (Table 6.7) -/

/-- A field of a channel. -/
def chF (n : Ch) (lo width : Nat) (get : Channel → Nat) (legal : Nat → Bool) (set : Nat → Channel → Channel) : Field :=
  rwF lo width (fun s => get (s.chan n)) legal fun v s => s.setCh n (set v)

def statusOf (k : Nat) : ModeStatus := match k with | 0 => .stable | 1 => .enabling | 2 => .safeRamp | _ => .waitRange

def offReasonOf (k : Nat) : Option OffReason :=
  ([.reset, .modeRequest, .offNow, .trip, .deviceState, .instructor, .revocation] : List OffReason).find? fun x => x.code == k

/-- A counter of a channel. -/
def chHome (n : Ch) (get : Channel → Counter) (set : Counter → Channel → Channel) : CounterHome :=
  { get := fun s => get (s.chan n), set := fun f s => s.modCh n fun c => set (f (get c)) c }

/-- CHn_MODE: a write with a reserved encoding in any field is ignored (R256). -/
def modeReg (n : Ch) : Reg :=
  { tsf := true
    fields := [roF 0 4 fun s => (s.chan n).mode.mode.toNat, roF 4 4 fun s => (s.chan n).mode.shownTarget,
               roF 8 2 fun s => (s.chan n).mode.status.code, roF 12 1 fun s => (s.chan n).mode.forceKind,
               roF 16 3 fun s => (s.chan n).mode.offReason.code]
    whole := some fun w s =>
      match modeOf (w.toNat % 16), modeOf (w.toNat / 16 % 16), offReasonOf (w.toNat / 65536 % 8) with
      | some m, some t, some why => s.modCh n fun c => { c with mode := { c.mode with
          mode := m, target := t, status := statusOf (w.toNat / 256 % 4), forceKind := w.toNat / 4096 % 2, offReason := why } }
      | _, _, _ => s }

def chModeReg (n : Ch) (off : Nat) : Option Reg :=
  match off with
  | 0x000 => some (modeReg n)
  | 0x004 => some (wordReg true (objsMode n 0x01 1))
  | 0x008 => some (wordReg true (objsMode n 0x01 2))
  | 0x00C => some (wordReg true (objsMode n 0x01 3))
  | 0x010 => some { fields := [objF 0 2 (objsMode n 0x01 4)], tsf := true }
  | 0x014 => some { fields := [chF n 0 32 (·.sp.active.toNat) (fun _ => true) fun v c =>
      { c with sp := { c.sp with active := BitVec.ofNat 32 v } }], tsf := true }
  | 0x018 => some (wordReg true (objsMode n 0x02 1))
  | 0x01C => some (wordReg true (objsMode n 0x02 2))
  | 0x020 => some { fields := [objF 0 14 (objsMode n 0x02 3)], tsf := true }
  | _ => counterAt true 0x024 off (chHome n (·.mode.changes) fun k c => { c with mode := { c.mode with changes := k } })

/-! ### Block 0x010 + e (Table 7.15) -/

def engChReg (n : Ch) (off : Nat) : Option Reg :=
  let limit := fun (k el : Nat) => some (wordReg true (objsEngineCh n k el))
  let ovr := chHome n (·.loop.ovrCount) fun k c => { c with loop := { c.loop with ovrCount := k } }
  match off with
  | 0x00 => some { fields := [objF 0 8 (objsEngineCh n 0 1), objF 8 8 (objsEngineCh n 0 2), tableF 16 1 (objsEngineCh n 0 3),
                              objF 17 2 (objsEngineCh n 0 5)], tsf := true }
  | 0x04 => some { fields := [tableF 0 16 (objsEngineCh n 0 4)], tsf := true }
  | 0x08 => some { fields := [tableF 0 9 (objsEngineCh n 0 6)], tsf := true }
  | 0x10 => limit 0 0x7
  | 0x14 => limit 0 0x8
  | 0x18 => limit 0 0x9
  | 0x1C => limit 0 0xA
  | 0x20 => some { fields := [chF n 0 32 (·.prog.driveScale.toNat) (fun _ => true) fun v c =>
      { c with prog := { c.prog with driveScale := BitVec.ofNat 32 v } }], tsf := true }
  | 0x24 => some (counterReg false ovr)
  | 0x28 => some { statusReg false ovr with fields := (statusReg false ovr).fields ++ [roF 4 2 fun s => (s.chan n).loop.ovrRun] }
  | 0x2C => some { fields := [roF 0 16 fun s => (s.chan n).loop.lastCycles, roF 16 16 fun s => (s.chan n).loop.lastStart] }
  | 0x30 => some { fields := [roF 0 8 fun s => (s.chan n).loop.flags.toNat] }
  | 0x34 => some { fields := [objF 0 16 (objsEngineCh n 1 3), objF 16 16 (objsEngineCh n 1 4)], tsf := true }
  | _ => none

def engReg (e : Eng) (off : Nat) : Option Reg :=
  match off with
  | 0x000 => some { fields := [objF 0 16 (objsEngine e 0 1)], tsf := true }
  | 0x004 => some { fields := [objF 0 16 (objsEngine e 0 2), objF 16 16 (objsEngine e 0 3)], tsf := true }
  | 0x008 => some { fields := [objF 0 16 (objsEngine e 0 4)], whole := some fun _ s => s.modEng e fun g => { g with peakLoad := 0 } }
  | _ =>
    if 0x040 ≤ off ∧ off < 0x080 then engChReg e.slot0 (off - 0x040)
    else if 0x080 ≤ off ∧ off < 0x0C0 then engChReg e.slot1 (off - 0x080)
    else none

/-! ### Program memory (Table 7.14) -/

/-- A word of a vector of a channel, writable by the supervisor core. -/
def vecReg {k : Nat} (n : Ch) (i : Nat) (get : Channel → Vector Word k) (set : Vector Word k → Channel → Channel) : Option Reg :=
  if i < k then
    some { fields := [chF n 0 32 (fun c => ((get c)[i]?.getD 0).toNat) (fun _ => true) fun v c =>
      set ((get c).setIfInBounds i (BitVec.ofNat 32 v)) c], tsf := true }
  else none

/-- A program area of a channel's memory: its words, and how the supervisor core's write of one leaves the channel. -/
structure ProgArea where
  get : ProgSel → Vector Word 98
  set : Vector Word 98 → ProgSel → ProgSel

def mainArea : ProgArea := { get := (·.memMain), set := fun m p => { p with memMain := m, userMain := programIn m } }
def outerArea : ProgArea := { get := (·.memOuter), set := fun m p => { p with memOuter := m, userOuter := programIn m } }

/-- A field of a word of a program area. -/
def areaF (n : Ch) (x : ProgArea) (i lo width : Nat) : Field :=
  let shift := fun (w : Word) => w.toNat / 2 ^ lo % 2 ^ width
  chF n lo width (fun c => shift ((x.get c.prog)[i]?.getD 0)) (fun _ => true) fun v c =>
    let old := ((x.get c.prog)[i]?.getD 0).toNat
    let w := BitVec.ofNat 32 (old - old / 2 ^ lo % 2 ^ width * 2 ^ lo + v * 2 ^ lo)
    { c with prog := x.set ((x.get c.prog).setIfInBounds i w) c.prog }

/-- A word of a program. -/
def progReg (n : Ch) (i : Nat) (x : ProgArea) : Option Reg := some { fields := [areaF n x i 0 32], tsf := true }

/-- The header of a program; its words 2 and 3 are reserved. -/
def headReg (n : Ch) (k : Nat) (x : ProgArea) : Option Reg :=
  match k with
  | 0 => some { fields := [areaF n x 96 0 7, areaF n x 96 8 4, areaF n x 96 16 16], tsf := true }
  | 1 => some { fields := [areaF n x 97 0 16], tsf := true }
  | _ => some { fields := [], tsf := true }

/-- A word of the TUNE capture buffer: two halves of 64 records of four words (R322). -/
def Tune.bufferWord (t : Tune) (i : Nat) : Word :=
  let half := if t.filling == decide (256 ≤ i) then t.buffer else if i < 256 then t.half0 else t.half1
  (half[i % 256 / 4]?.getD [])[i % 4]?.getD 0

def progMem (n : Ch) (off : Nat) : Option Reg :=
  let at_ := fun (base : Nat) => (off - base) / 4
  if off < 0x180 then progReg n (at_ 0) mainArea
  else if off < 0x300 then progReg n (at_ 0x180) outerArea
  else if off < 0x400 then
    let r := (off - 0x300) / 0x40
    vecReg n (off % 0x40 / 4) (fun c => c.coefs.banks[r]?.getD defaultBank) fun v c =>
      { c with coefs := { c.coefs with banks := c.coefs.banks.setIfInBounds r v } }
  else if off < 0x440 then vecReg n (at_ 0x400) (·.coefs.shared) fun v c => { c with coefs := { c.coefs with shared := v } }
  else if off < 0x480 then vecReg n (at_ 0x440) (·.slots.s) fun v c => { c with slots := { c.slots with s := v } }
  else if off < 0x4A0 then vecReg n (at_ 0x480) (·.slots.t) fun v c => { c with slots := { c.slots with t := v } }
  else if off < 0x4B0 then headReg n (at_ 0x4A0) mainArea
  else if off < 0x4C0 then headReg n (at_ 0x4B0) outerArea
  else if 0x500 ≤ off ∧ off < 0x580 then vecReg n (at_ 0x500) (·.coefs.outer) fun v c => { c with coefs := { c.coefs with outer := v } }
  else if 0x580 ≤ off ∧ off < 0x5C0 then vecReg n (at_ 0x580) (·.slots.outerS) fun v c => { c with slots := { c.slots with outerS := v } }
  else if 0x5C0 ≤ off ∧ off < 0x5E0 then vecReg n (at_ 0x5C0) (·.slots.outerT) fun v c => { c with slots := { c.slots with outerT := v } }
  else if 0x5E0 ≤ off ∧ off < 0x800 then some { fields := [], tsf := true }
  else if 0x800 ≤ off ∧ off < 0x1000 then
    some { fields := [roF 0 32 fun s => ((s.chan n).tune.bufferWord (at_ 0x800)).toNat], tsf := true }
  else none

/-! ### Block 0x014 + e (Table 8.6) -/

def Channel.lacFreeze (c : Channel) : Nat := c.lac.freezeWhy

/-- Block 0x014 + e. R87 has application firmware reach the registers behind RWS objects through the TSF alone, and R340 makes
these of LAC and TUNE RW from the application core: here R340 holds, as the rule that names the registers (DEDUCED, log entry
107). -/
def lacReg (n : Ch) (off : Nat) : Option Reg :=
  let home := fun (get : Lac → Counter) (set : Counter → Lac → Lac) => chHome n (fun c => get c.lac) fun k c => { c with lac := set k c.lac }
  let tuneHome := fun (get : Tune → Counter) (set : Counter → Tune → Tune) =>
    chHome n (fun c => get c.tune) fun k c => { c with tune := set k c.tune }
  let owned := fun (r : Reg) => some { r with guard := fun s => holds (s.chan n).lock .loc }
  match off with
  | 0x000 => owned { fields := [objF 0 1 (objsLac n 0 1), objF 8 7 (objsLac n 0 2), cmdF 16 1 (objsLac n 0 5), cmdF 17 1 (objsLac n 0 6),
                                objF 24 2 (objsLac n 0 4), objF 28 4 (objsLac n 0 9)] }
  | 0x004 => owned (wordReg false (objsLac n 0 3))
  | 0x080 => owned { fields := [objF 0 2 (objsLac n 8 1), objF 8 8 (objsLac n 8 4), objF 16 16 (objsLac n 8 3)] }
  | 0x084 => owned (wordReg false (objsLac n 8 2))
  | 0x088 => owned { fields := [objF 0 16 (objsLac n 8 5), ringF 16 (objsLac n 8 6), objF 31 1 (objsLac n 8 7)] }
  | _ =>
    if 0x008 ≤ off ∧ off < 0x018 then
      countersAt false 0x008 off [home (·.frames) fun k l => { l with frames := k }, home (·.discards) fun k l => { l with discards := k }]
    else if 0x020 ≤ off ∧ off < 0x044 then some (wordReg false (objsLac n 1 ((off - 0x020) / 4 + 1)))
    else if 0x090 ≤ off ∧ off < 0x0A0 then
      countersAt false 0x090 off [tuneHome (·.segsDone) fun k t => { t with segsDone := k }, tuneHome (·.lost) fun k t => { t with lost := k }]
    else none

def lacBlock (e : Eng) (off : Nat) : Option Reg :=
  if off < 0x100 then lacReg e.slot0 off
  else if off < 0x200 then lacReg e.slot1 (off - 0x100)
  else if 0x3C0 ≤ off ∧ off < 0x3E0 then some (wordReg true (objsEnv ((off - 0x3C0) / 4 + 1)))
  else none

/-! ### Block 0x018 + n (Table 8.6) -/

def motionReg (n : Ch) (off : Nat) : Option Reg :=
  let o := fun (j el : Nat) => objsMotion n j el
  let word := fun (j el : Nat) => some (wordReg false (o j el))
  let fol := chHome n (·.fol.edges) fun k c => { c with fol := { c.fol with edges := k } }
  let fe := chHome n (·.fe.reports) fun k c => { c with fe := { c.fe with reports := k } }
  let osc := chHome n (·.osc.reports) fun k c => { c with osc := { c.osc with reports := k } }
  match off with
  | 0x01C => some { fields := [objF 0 2 (o 0x10 8)] }
  | 0x020 => word 0x10 0x9
  | 0x024 => word 0x10 0xA
  | 0x040 => some { fields := [objF 0 2 (o 0x11 1), objF 4 4 (o 0x11 2), objF 8 1 (o 0x11 5), objF 9 1 (o 0x11 8), objF 16 8 (o 0x11 6)] }
  | 0x044 => word 0x11 3
  | 0x048 => word 0x11 4
  | 0x04C => word 0x11 7
  | 0x050 => word 0x11 9
  | 0x054 => some { fields := [objF 0 2 (o 0x11 0xA)] }
  | 0x080 => some { fields := [objF 0 9 (o 0x12 1)] }
  | 0x084 => word 0x12 2
  | 0x088 => some { fields := [objF 0 3 (o 0x12 3), objF 16 9 (o 0x12 4)] }
  | 0x08C => word 0x12 5
  | 0x0C0 => word 0x13 1
  | 0x0C4 => word 0x13 2
  | 0x0C8 => some { fields := [objF 0 16 (o 0x13 3), objF 16 2 (o 0x13 4)] }
  | 0x0CC => word 0x13 5
  | 0x0D0 => word 0x13 6
  | 0x100 => word 0x14 1
  | 0x104 => word 0x14 2
  | 0x108 => some { fields := [objF 0 10 (o 0x14 3), objF 16 13 (o 0x14 4), objF 30 2 (o 0x14 5)] }
  | 0x10C => word 0x14 6
  | 0x110 => word 0x14 7
  | 0x140 => some { fields := [objF 0 2 (o 0x15 1), cmdF 8 1 (o 0x15 2)] }
  | _ =>
    if off < 0x01C then word 0x10 (off / 4 + 1)
    else if off < 0x060 then counterAt false 0x058 off fol
    else if off < 0x0E0 then counterAt false 0x0D8 off fe
    else counterAt false 0x118 off osc

/-! ### Block 0x078 (Table 3.15) -/

/-- A field of the MAC. -/
def macF (lo width : Nat) (get : Eth → Nat) (legal : State → Nat → Bool) (set : Nat → Eth → Eth) : Field :=
  { lo := lo, width := width, get := fun s => get s.eth
    set := some fun v s => if legal s v then s.modEth (set v) else s }

/-- A ring register of the MAC: a ring that the binding does not accept is ignored (R428). -/
def macRing (role : Nat) (get : Eth → Nat) (set : Nat → Eth → Eth) : Reg :=
  { fields := [{ rwF 0 14 (fun s => get s.eth) (fun _ => true) fun v s =>
      if bindOk s role v fun _ => true then (bindRing s role (get s.eth) v).modEth (set v) else s with
        code := fun v w => if bindOk w.post role v fun _ => true then eOk else eRange }] }

def macHomes : List CounterHome :=
  [⟨(·.eth.rxFrames), fun f s => s.modEth fun e => { e with rxFrames := f e.rxFrames }⟩,
   ⟨(·.eth.rxFcsErr), fun f s => s.modEth fun e => { e with rxFcsErr := f e.rxFcsErr }⟩,
   ⟨(·.eth.rxDropped), fun f s => s.modEth fun e => { e with rxDropped := f e.rxDropped }⟩,
   ⟨(·.eth.txFrames), fun f s => s.modEth fun e => { e with txFrames := f e.txFrames }⟩]

def macReg (off : Nat) : Option Reg :=
  let any := fun (_ : State) (_ : Nat) => true
  match off with
  | 0x000 => some { fields :=
      [macF 0 1 (fun e => bNat e.rxEn) any fun v e => { e with rxEn := v == 1 },
       macF 1 1 (fun e => bNat e.txEn) (fun s v => v == 0 || s.eth.macAddr != 0) fun v e => { e with txEn := v == 1 },
       macF 2 1 (fun e => bNat e.speed100) any fun v e => { e with speed100 := v == 1 },
       macF 3 1 (fun e => bNat e.fullDuplex) any fun v e => { e with fullDuplex := v == 1 },
       rwF 4 1 (fun s => bNat s.eth.refOut) (fun _ => true) fun v s => setRefOut s (v == 1)] }
  | 0x004 => some { fields := [roF 0 1 fun _ => 0, roF 1 1 fun _ => 0] }
  | 0x008 => some { fields := [roF 0 32 fun s => s.eth.macAddr.toNat % 2 ^ 32], pair := .low fun s => s.eth.macAddr.setWidth 64
                    whole := some fun w s => s.modEth fun e => { e with macAddr := e.macHold ++ w } }
  | 0x00C => some { fields := [roF 0 16 fun _ => 0], pair := .high
                    whole := some fun w s => s.modEth fun e => { e with macHold := w.extractLsb' 0 16 } }
  | 0x010 => some (macRing roleMacRx (·.rxRing) fun v e => { e with rxRing := v })
  | 0x014 => some (macRing roleMacTx (·.txRing) fun v e => { e with txRing := v })
  | 0x020 => some { fields := [roF 0 16 fun s => s.eth.mdio.data.toNat, roF 16 5 fun s => s.eth.mdio.reg.toNat,
                               roF 21 5 fun s => s.eth.mdio.phy.toNat, roF 26 1 fun s => bNat s.eth.mdio.read,
                               roF 27 1 fun s => bNat s.eth.mdio.go]
                    whole := some fun w s => s.modEth fun e => { e with mdio := e.mdio.write w } }
  | _ =>
    if 0x040 ≤ off ∧ off < 0x050 then (macHomes[(off - 0x040) / 4]?).map (counterReg false)
    else if 0x060 ≤ off ∧ off < 0x070 then (macHomes[(off - 0x060) / 4]?).map (statusReg false)
    else none

end Sys2Proof.Machine
end

