-- ==== Sys2Proof/Machine/RegsB.lean ====
section
/-! DEFINITION. The register tables of chapters 9 to 12: converters and calibration, outputs and triggers, Hamper with its
descriptors and pool, the sweep sequencer, semaphores, and the credit arbiter. -/

namespace Sys2Proof.Machine

/-! ### Block 0x040 + n (Table 9.11) -/

/-- A signed number's binary32 value with a power of two as unit. -/
def rawF32 (x : Int) (bits : Int) : F32 := ((Q.ofInt x).scale2 (-bits)).toF32

/-- A word of a calibration set; a value that the object makes illegal is ignored (R375). -/
def calReg (n : Ch) (k : Nat) (gain : Bool) : Reg :=
  { fields := [if gain then
      chF n 0 32 (fun c => i32Nat (c.conv.sets[k]?.getD {}).gain)
        (fun v => qWithin ⟨4, 5⟩ ⟨5, 4⟩ (q30Val (BitVec.ofNat 32 v))) fun v c =>
          let x := (BitVec.ofNat 32 v).toInt
          { c with conv := c.conv.writeSet k fun y => { y with gain := x, gainF := rawF32 x 30 } }
    else
      chF n 0 32 (fun c => i32Nat (c.conv.sets[k]?.getD {}).ofs)
        (fun v => ((BitVec.ofNat 32 v).toInt.natAbs : Nat) ≤ 2 ^ 27) fun v c =>
          let x := (BitVec.ofNat 32 v).toInt
          { c with conv := c.conv.writeSet k fun y => { y with ofs := x, ofsF := rawF32 x 31 } }] }

def convReg (n : Ch) (off : Nat) : Option Reg :=
  let o := fun (j el : Nat) => objsConv n j el
  let cap := chHome n (·.cap.missed) fun k c => { c with cap := { c.cap with missed := k } }
  let sat := chHome n (·.conv.satCount) fun k c => { c with conv := { c.conv with satCount := k } }
  let ro := fun (get : Channel → Int) => some (roReg fun s => i32Nat (get (s.chan n)))
  match off with
  | 0x000 => some { fields := [roF 0 1 fun s => bNat (s.chan n).conv.meterIl, roF 1 1 fun s => bNat (s.chan n).conv.sat,
                               roF 2 1 fun s => bNat (s.chan n).conv.refNr, roF 8 6 fun s => (s.chan n).conv.calValid.toNat] }
  | 0x004 => ro (·.conv.rawA)
  | 0x008 => ro (·.conv.rawB)
  | 0x00C => ro (·.conv.calA)
  | 0x010 => ro (·.conv.calB)
  | 0x060 => some { fields := [ringF 0 (o 4 1), objF 15 1 (o 4 3), objF 16 16 (o 4 2)] }
  | 0x064 => some { fields := [ringF 0 (o 5 1), objF 15 1 (o 5 4), objF 16 3 (o 5 3),
      { lo := 20, width := 12, get := fun s => (s.chan n).cap.len - 1
        set := (o 5 2).map fun o v s => o.poke (v + 1) s
        code := fun v w => ((o 5 2).map fun o => o.rawCode true (v + 1) w).getD eOk }] }
  | 0x068 => some { fields := [cmdF 0 1 (o 5 5), objF 1 2 (o 5 6)] }
  | _ =>
    if 0x020 ≤ off ∧ off < 0x050 then some (calReg n ((off - 0x020) / 8) (off % 8 == 4))
    else if off = 0x06C ∨ off = 0x070 then counterAt false 0x06C off cap
    else counterAt false 0x074 off sat

/-! ### Block 0x048 (Table 9.12) -/

def State.modAux (s : State) (f : Aux → Aux) : State := { s with aux := f s.aux }

def auxHomes : List CounterHome :=
  [⟨(·.aux.scans), fun f s => s.modAux fun a => { a with scans := f a.scans }⟩,
   ⟨(·.aux.missedTrig), fun f s => s.modAux fun a => { a with missedTrig := f a.missedTrig }⟩,
   ⟨(·.aux.urgentCount), fun f s => s.modAux fun a => { a with urgentCount := f a.urgentCount }⟩,
   ⟨(·.aux.urgLate), fun f s => s.modAux fun a => { a with urgLate := f a.urgLate }⟩]

/-- HOST_URG: GO requests a conversion of INPUT (R358); a write that names an illegal input is ignored (R376). -/
def urgReg : Reg :=
  { fields := [roF 0 5 (·.aux.urgInput.toNat), roF 8 1 fun _ => 0, roF 9 1 fun s => bNat s.aux.urgDone]
    check := fun w => [if 24 ≤ w.v % 32 then eRange else eOk,
      if w.word.getLsbD 8 then objUrgReq.rawCode true (w.v % 32) w else eOk]
    whole := some fun w s =>
      if 24 ≤ w.toNat % 32 then s
      else
        let s := s.modAux fun a => { a with urgInput := w.extractLsb' 0 5 }
        if w.getLsbD 8 then objUrgReq.poke (w.toNat % 32) s else s }

def auxReg (off : Nat) : Option Reg :=
  let o := fun (el : Nat) => objsAux 0x4800 el
  match off with
  | 0x000 => some { fields := [objF 0 24 (o 1)] }
  | 0x004 => some { fields := [roF 0 24 (·.aux.active.mask.toNat)] }
  | 0x008 => some { fields := [objF 0 2 (o 2), objF 2 1 (o 6), objF 4 2 (o 7), objF 8 8 (o 8), objF 16 2 (o 0xD), objF 24 8 (o 0xC)] }
  | 0x00C => some (wordReg false (o 3))
  | 0x010 => some (wordReg false (o 4))
  | 0x014 => some { fields := [objF 0 16 (o 5)] }
  | 0x018 => some { fields := [ringF 0 (o 9), objF 15 1 (o 0xB),
      { lo := 16, width := 1, get := fun s => bNat s.aux.shadow.rec16, set := some fun v s => objAuxRec.poke (if v = 1 then 16 else 8) s
        code := fun v w => objAuxRec.rawCode true (if v = 1 then 16 else 8) w }] }
  | 0x01C => some { fields := [cmdF 0 1 (o 0xE), cmdF 1 1 (o 0xF), objF 8 2 (objsAux 0x4801 1), objF 16 1 (objsAux 0x4801 6)] }
  | 0x020 => some urgReg
  | 0x024 => some { fields := [roF 0 16 (·.aux.urgResult.toNat)] }
  | _ =>
    if 0x040 ≤ off ∧ off < 0x060 then countersAt false 0x040 off auxHomes
    else if 0x080 ≤ off ∧ off < 0x0E0 then
      let last := fun (s : State) => s.aux.last[(off - 0x080) / 4]?.getD {}
      some { fields := [roF 0 16 fun s => (last s).code.toNat, roF 16 1 fun s => bNat (last s).refNr] }
    else none

/-! ### Block 0x049 (Table 9.13) -/

def State.modRef (s : State) (f : RefMon → RefMon) : State := { s with refMon := f s.refMon }

/-- REFOUT as REF_MON reads it lies within a number of thousandths of a percent of 2.048 V (R222). -/
def refWithin (mon : W16) (milliPct : Nat) : Bool :=
  decide (((625 * mon.toNat : Int) - 20480000).natAbs * 100000 ≤ 20480000 * milliPct)

/-- The channel that CALE_CTRL names. -/
def State.caleCh (s : State) : Ch := ⟨s.refMon.ctrl.toNat % 8, Nat.mod_lt _ (by decide)⟩

/-- A held mean as CALE_MEAN shows it. -/
def meanWord (m : Option F64) : Nat :=
  match m with
  | some d => (dWord d).toNat
  | none => 0

/-- A channel's CAL_SET and CAL_TICKS as the calibration engine is given them; another set clears the held points (R370). -/
def Conv.takeSet (v : Conv) (k ticks : Nat) : Conv :=
  if v.calSet = k then { v with calTicks := ticks }
  else { v with calSet := k, calTicks := ticks, zeroMean := none, fullMean := none }

/-- CALE_CTRL: GO starts the capture of POINT over TICKS windows of SET on the channel, where CAL_POINT would be accepted
(R368). A SET above 5 and TICKS of 0 are no values of these fields, which keep theirs. -/
def caleCtrl (w : Word) (s : State) : State :=
  let old := s.refMon.ctrl.toNat
  let k := if w.toNat / 8 % 8 ≤ 5 then w.toNat / 8 % 8 else old / 8 % 8
  let ticks := if w.toNat / 65536 = 0 then old / 65536 else w.toNat / 65536
  let point := w.toNat / 64 % 4
  let s := s.modRef fun r => { r with ctrl := BitVec.ofNat 32 (w.toNat % 8 + 8 * k + 64 * point + 65536 * ticks) }
  let n := s.caleCh
  if w.getLsbD 8 && within 1 2 point && ticks != 0 && (s.chan n).measurable k && pointCode s == eOk then
    startPoint (s.modCh n fun c => { c with conv := c.conv.takeSet k ticks }) n point
  else s

/-- CALE_CMD: the engine computes from the held points with CALE_TRUE_Z and CALE_TRUE_F, where CAL_COMPUTE would be accepted
(R371). -/
def caleCompute (method : Nat) (s : State) : State :=
  let n := s.caleCh
  let v := (s.chan n).conv
  let ds := (wordD s.refMon.trueZ, wordD s.refMon.trueF)
  if within 1 2 method && !v.tooClose method && (v.calResult method ds).isSome then
    s.modCh n fun c => c.calApply method ds
  else s

def refReg (off : Nat) : Option Reg :=
  let word := fun (get : RefMon → Word) (set : Word → RefMon → RefMon) =>
    some ({ fields := [roF 0 32 fun s => (get s.refMon).toNat], tsf := true, whole := some fun w s => s.modRef (set w) } : Reg)
  let mean := fun (get : Conv → Option F64) (set : Option F64 → Conv → Conv) =>
    some ({ fields := [rwF 0 32 (fun s => meanWord (get (s.chan s.caleCh).conv)) (fun _ => true) fun v s =>
      s.modCh s.caleCh fun c =>
        { c with conv := set (some (wordD (BitVec.ofNat 32 v))) c.conv }], tsf := true } : Reg)
  match off with
  | 0x000 => some { fields := [rwF 0 1 (fun s => bNat s.dev.refbufOn) (fun _ => true) fun v s =>
      let s := if v == 1 then s else setRefReady s false
      { s with dev := { s.dev with refbufOn := v == 1,
                                   refbufAt := if s.dev.refbufOn then s.dev.refbufAt else s.now } }], tsf := true }
  | 0x004 => some { fields := [roF 0 1 fun s => bNat s.dev.refbufOn, roF 1 1 fun s => bNat s.dev.refReady,
                               roF 2 1 fun s => bNat s.dev.refFault, roF 3 1 fun s => bNat (refWithin s.refMon.mon 250 && !s.badger.refInjected),
                               roF 4 1 fun s => bNat (refWithin s.refMon.mon 1000 && !s.badger.refInjected)] }
  | 0x008 => some { fields := [roF 0 16 (·.refMon.mon.toNat)] }
  | 0x00C => some { fields := [roF 0 16 fun s => if s.dev.refbufOn then Nat.min 65535 ((s.now - s.dev.refbufAt) / 240) else 0] }
  | 0x020 => some { fields := [roF 0 3 (·.refMon.ctrl.toNat), roF 3 3 (·.refMon.ctrl.toNat / 8), roF 6 2 (·.refMon.ctrl.toNat / 64),
                               roF 8 1 fun _ => 0, roF 16 16 (·.refMon.ctrl.toNat / 65536)], tsf := true, whole := some caleCtrl }
  | 0x024 => some { fields := [roF 0 5 fun s => (s.chan s.caleCh).conv.status], tsf := true }
  | 0x028 => mean (·.zeroMean) fun m v => { v with zeroMean := m }
  | 0x02C => mean (·.fullMean) fun m v => { v with fullMean := m }
  | 0x030 => word (·.trueZ) fun w r => { r with trueZ := w }
  | 0x034 => word (·.trueF) fun w r => { r with trueF := w }
  | 0x038 => some { fields := [{ lo := 0, width := 2, get := fun _ => 0, set := some caleCompute }], tsf := true }
  | _ => none

/-! ### Block 0x050 + n (Table 10.7) -/

/-- CLAMP_HOLD in µs. -/
def holdUs (c : Channel) : Nat := ((f32Val c.out.clampHold).mul (Q.ofNat 1000000)).roundUp.toNat

def outReg (n : Ch) (off : Nat) : Option Reg :=
  let o := fun (j el : Nat) => objsOutput n j el
  let home := fun (get : Channel → Counter) (set : Counter → Channel → Channel) => chHome n get set
  match off with
  | 0x000 => some { fields := [objF 0 1 (o 0x20 1), objF 1 1 (o 0x20 2), objF 2 2 (o 0x22 8)], tsf := true }
  | 0x004 => some { fields := [objF 0 1 (o 0x20 3), objF 1 1 (o 0x21 4), objF 2 1 (o 0x22 3)] }
  | 0x008 => some { fields := [objF 0 3 (o 0x20 4), objF 8 5 (o 0x20 5)] }
  | 0x00C => some { fields := [roF 0 18 fun s => (s.chan n).presented] }
  | 0x010 => some { fields := [objF 0 18 (objsSignal n 0x08 8)], tsf := true }
  | 0x014 => some { fields := [roF 0 18 fun s => (s.chan n).clamp.code] }
  | 0x018 => some { fields := [objF 0 18 (o 0x22 4)] }
  | 0x01C => some { fields := [objF 0 6 (o 0x22 5), objF 16 16 (o 0x22 6)] }
  | 0x020 => some { fields := [chF n 0 24 holdUs (within 1000 10000000) fun v c =>
      { c with out := { c.out with clampHold := (Q.mk v 1000000).toF32 } }] }
  | 0x024 => some { fields := [chF n 0 10 (·.clamp.thrV) (fun _ => true) fun v c => { c with clamp := { c.clamp with thrV := v } }], tsf := true }
  | 0x028 => some { fields := [chF n 0 10 (·.clamp.thrI) (fun _ => true) fun v c => { c with clamp := { c.clamp with thrI := v } }], tsf := true }
  | 0x02C => some (wordReg true (o 0x22 1))
  | 0x030 => some (wordReg true (o 0x22 2))
  | 0x034 => some { fields := [objF 0 2 (o 0x22 9)] }
  | 0x040 => some { fields := [roF 0 2 fun s => (objRangeReq n).peek s, roF 4 1 fun _ => 0], tsf := true
                    whole := some fun w s => if w.getLsbD 4 then (objRangeReq n).poke (w.toNat % 4) s else s }
  | 0x044 => some { fields := [roF 0 2 fun s => (s.chan n).range, objF 2 2 (o 0x21 2), objF 4 2 (o 0x21 3),
                               roF 8 16 fun s => (s.chan n).rng.left] }
  | 0x058 => some (wordReg false (o 0x21 7))
  | 0x060 => some { fields := [objF 0 3 (o 0x23 1), cmdF 4 1 (o 0x23 4), objF 8 2 (o 0x23 5)], tsf := true }
  | 0x064 => some { fields := [objF 0 18 (o 0x23 2)], tsf := true }
  | 0x068 => some (wordReg true (o 0x23 3))
  | _ =>
    if off < 0x040 then counterAt false 0x038 off (home (·.clamp.trips) fun k c => { c with clamp := { c.clamp with trips := k } })
    else if off < 0x050 then counterAt false 0x048 off (home (·.rng.changes) fun k c => { c with rng := { c.rng with changes := k } })
    else if off < 0x058 then pairAt false 0x050 off fun s => (s.chan n).rng.lastEdge
    else counterAt false 0x06C off (home (·.fast.fires) fun k c => { c with fast := { c.fast with fires := k } })

/-! ### Blocks 0x04A and 0x04B (Table 10.8) -/

def State.modTrigs (s : State) (f : Trig → Trig) : State := { s with trig := f s.trig }

def clrReg (off : Nat) : Option Reg :=
  match off with
  | 0x000 => some { fields := [roF 0 1 fun s => bNat s.trig.clrN, roF 8 8 fun s => chMask fun n => (s.chan n).out.clrHeld] }
  | _ => counterAt false 0x004 off ⟨(·.trig.clrCount), fun f s => s.modTrigs fun t => { t with clrCount := f t.clrCount }⟩

def trigInReg (i : Fin 4) : Reg :=
  let set := fun (f : TrigIn → TrigIn) (s : State) => s.modTrigs fun t => { t with ins := t.ins.set i.val (f t.ins[i.val]) }
  { fields := [rwF 0 1 (fun s => bNat s.trig.ins[i.val].pol) (fun _ => true) (fun v => set fun x => { x with pol := v == 1 }),
               rwF 4 4 (fun s => s.trig.ins[i.val].filt) (fun _ => true) (fun v => set fun x => { x with filt := v }),
               roF 8 1 fun s => bNat (s.triginLive i)] }

def trigInHome (i : Fin 4) : CounterHome :=
  { get := fun s => s.trig.ins[i.val].count
    set := fun f s => s.modTrigs fun t => { t with ins := t.ins.set i.val { t.ins[i.val] with count := f t.ins[i.val].count } } }

/-- The greatest ARG of a source (Table 10.5). -/
def argTop (src : Nat) : Nat := if src = 1 ∨ src = 3 then 3 else 7

def trigOutReg (j : Fin 4) : Reg :=
  { fields := [roF 0 3 fun s => s.trig.outs[j.val].src, roF 4 3 fun s => s.trig.outs[j.val].arg,
               roF 8 1 fun s => bNat s.trig.outs[j.val].level]
    whole := some fun w s =>
      let src := w.toNat % 8
      let arg := w.toNat / 16 % 8
      s.modTrigs fun t =>
        let x := t.outs[j.val]
        let x : TrigOut := { x with level := w.getLsbD 8 }
        { t with outs := t.outs.set j.val (if src ≤ 5 ∧ arg ≤ argTop src then { x with src := src, arg := arg } else x) } }

def pwgReg (p : Fin 4) (off : Nat) : Option Reg :=
  match off with
  | 0x0 => some { fields := [roF 0 1 fun s => bNat s.trig.pwgs[p.val].run], whole := some fun w s => settled s (execPwgRun p w s) }
  | 0x4 => some { fields := [roF 0 32 fun s => s.trig.pwgs[p.val].period]
                  whole := some fun w s => settled s (execPeriodRegWrite (.pwgPeriod p) w s) }
  | 0x8 => some { fields := [roF 0 32 fun s => s.trig.pwgs[p.val].periodActive] }
  | 0xC => some { fields := [roF 0 32 fun s => s.trig.pwgs[p.val].width]
                  whole := some fun w s => settled s (execPeriodRegWrite (.pwgWidth p) w s) }
  | _ => none

/-- An index below 4. -/
def idx4 (k : Nat) : Fin 4 := ⟨k % 4, Nat.mod_lt _ (by decide)⟩

def trigReg (off : Nat) : Option Reg :=
  if off < 0x10 then some (trigInReg (idx4 (off / 4)))
  else if off < 0x30 then counterAt false 0 (off % 8) (trigInHome (idx4 ((off - 0x10) / 8)))
  else if 0x40 ≤ off ∧ off < 0x50 then some (trigOutReg (idx4 ((off - 0x40) / 4)))
  else if 0x80 ≤ off ∧ off < 0xC0 then pwgReg (idx4 ((off - 0x80) / 0x10)) (off % 0x10)
  else none

/-! ### Block 0x060 (Table 11.11) -/

def State.modHam (s : State) (f : Hamper → Hamper) : State := { s with hamper := f s.hamper }

/-- The ring that a core's HAM_SEL names. -/
def selRing (m : Master) (s : State) : Ring := (s.hamper.anyRing (s.hamper.portOf m).sel).getD { num := (s.hamper.portOf m).sel }

/-- CFG_CMD: the Table 11.3 image in CFG_W0 to CFG_W3 configures, frees or flushes a ring, checked as the objects are but for
the session (R419, R420). -/
def cfgCommand (w : Word) (s : State) : State :=
  let cmd := w.toNat % 4
  let blob := s.hamper.cfgW.toList.flatMap fun x => natBytes 4 x.toNat
  let num := beNat (blob.take 2)
  let run := fun (o : Obj) (data : List Byte) (missing : Byte) =>
    let s' := o.put ⟨⟨.mgmt, .mbx, none⟩, data, s, s, s⟩ s
    let w : W := ⟨⟨.mgmt, .mbx, none⟩, data, s, s', s⟩
    let code := firstCode [if o.range w then eOk else eRange, missing, o.state w]
    (if code == eOk then s' else s).modHam fun h => { h with cfgResult := code }
  let s' := match cmd with
    | 1 => run objRingConfig blob eOk
    | 2 => run objRingFree (natBytes 2 num) (ringMissing s num)
    | 3 => run objRingFlush (natBytes 2 num) (ringMissing s num)
    | _ => s
  s'.modHam fun h => { h with cfgCmd := w.extractLsb' 0 2 }

def hamReg (m : Master) (off : Nat) : Option Reg :=
  let port := fun (s : State) => s.hamper.portOf m
  let selF := fun (get : RingPort → Nat) (set : Nat → RingPort → RingPort) =>
    some ({ fields := [rwF 0 14 (fun s => get (port s)) (fun _ => true) fun v s => s.modRingPort m (set v)] } : Reg)
  let gaps : CounterHome := ⟨fun s => (selRing m s).gaps, fun f s =>
    match s.hamper.anyRing (port s).sel with
    | some r => s.setRing { r with gaps := f r.gaps }
    | none => s.setRing { num := (port s).sel, enabled := false, pagesHeld := 0, gaps := f {} }⟩
  match off with
  | 0x000 => some { fields := [roF 0 13 (·.hamper.poolFree), roF 16 13 (·.hamper.reserved)] }
  | 0x020 => selF (·.sel) fun v p => { p with sel := v }
  | 0x034 => some (roReg fun s => (selRing m s).lossPerS.toNat)
  | 0x050 => some { fields := [roF 0 2 (·.hamper.cfgCmd.toNat), roF 8 8 (·.hamper.cfgResult.toNat)], tsf := true, whole := some cfgCommand }
  | 0x080 => selF (·.pushRing) fun v p => { p with pushRing := v }
  | 0x084 => some { fields := [roF 0 1 fun _ => 0, roF 1 1 fun s => bNat (port s).pushCont, roF 2 1 fun s => bNat (port s).pushAsHost,
                               roF 8 2 fun s => (port s).pushResult]
                    whole := some fun w s => settled s (execRingPush m w s) }
  | 0x0C0 => selF (·.popRing) fun v p => { p with popRing := v }
  | 0x0C4 => some { fields := [roF 0 1 fun _ => 0, roF 1 1 fun s => bNat (port s).popAsHost, roF 8 1 fun s => bNat (port s).popValid,
                               roF 9 1 fun s => bNat (port s).popMark, roF 10 1 fun s => bNat (port s).popCont,
                               roF 11 1 fun s => bNat (port s).popRefused]
                    whole := some fun w s => settled s (execRingPop m w s) }
  | _ =>
    if off < 0x010 then counterAt false 0x008 off ⟨(·.hamper.poolExhaust), fun f s => s.modHam fun h => { h with poolExhaust := f h.poolExhaust }⟩
    else if off < 0x020 then countersAt false 0x010 off
      [⟨(·.hamper.eccCorrected), fun f s => s.modHam fun h => { h with eccCorrected := f h.eccCorrected }⟩,
       ⟨(·.hamper.eccLost), fun f s => s.modHam fun h => { h with eccLost := f h.eccLost }⟩]
    else if off < 0x02C then pairAt false 0x024 off fun s => (selRing m s).lossTotal
    else if off < 0x034 then counterAt false 0x02C off gaps
    else if 0x040 ≤ off ∧ off < 0x050 then
      some { fields := [rwF 0 32 (fun s => (s.hamper.cfgW[(off - 0x040) / 4]?.getD 0).toNat) (fun _ => true) fun v s =>
        s.modHam fun h => { h with cfgW := h.cfgW.setIfInBounds ((off - 0x040) / 4) (BitVec.ofNat 32 v) }], tsf := true }
    else if 0x0A0 ≤ off ∧ off < 0x0C0 then
      some { fields := [rwF 0 32 (fun s => ((port s).pushData[(off - 0x0A0) / 4]?.getD 0).toNat) (fun _ => true) fun v s =>
        s.modRingPort m fun p => { p with pushData := p.pushData.setIfInBounds ((off - 0x0A0) / 4) (BitVec.ofNat 32 v) }] }
    else if 0x0E0 ≤ off ∧ off < 0x100 then
      some { fields := [roF 0 32 fun s => ((port s).popData[(off - 0x0E0) / 4]?.getD 0).toNat] }
    else none

/-! ### Blocks 0x061 and 0x062 (Table 11.11) -/

def sweepReg (n : Ch) (off : Nat) : Option Reg :=
  let o := fun (j el : Nat) => objsSweep n j el
  let home := fun (get : Sweep → Counter) (set : Counter → Sweep → Sweep) =>
    chHome n (fun c => get c.sweep) fun k c => { c with sweep := set k c.sweep }
  match off with
  | 0x00 => some { fields := [objF 0 1 (o 0x30 3), objF 1 3 (o 0x30 5), objF 4 2 (o 0x30 6), objF 6 1 (o 0x30 7), objF 7 1 (o 0x30 8),
                              objF 16 16 (o 0x30 4)], tsf := true }
  | 0x04 => some { fields := [ringF 0 (o 0x30 1), ringF 16 (o 0x30 2)], tsf := true }
  | 0x08 => some { fields := [cmdF 0 1 (o 0x31 1), cmdF 1 1 (o 0x31 2), cmdF 2 1 (o 0x31 3)], tsf := true }
  | 0x0C => some { fields := [objF 0 3 (o 0x32 1), objF 4 3 (o 0x32 2), objF 8 4 (o 0x32 3), objF 16 8 (o 0x32 4)] }
  | 0x10 => some { fields := [objF 0 16 (o 0x32 6), objF 16 16 (o 0x32 7)] }
  | 0x14 => some (roReg fun s => stepLeft s n)
  | _ => countersAt false 0x18 off
      [home (·.stepSeq) fun k w => { w with stepSeq := k }, home (·.missed) fun k w => { w with missed := k },
       home (·.short) fun k w => { w with short := k }]

def sweepBlock (off : Nat) : Option Reg := (chOf (off / 0x40)).bind fun n => sweepReg n (off % 0x40)

/-- An index below 32. -/
def idx32 (k : Nat) : Fin 32 := ⟨k % 32, Nat.mod_lt _ (by decide)⟩

def semCode : Option Master → Nat
  | none => 0
  | some .app => 1
  | some .sup => 2

def semReg (m : Master) (off : Nat) : Option Reg :=
  if off < 0x80 then
    some { fields := [roF 0 2 fun s => semCode s.hamper.sems[(idx32 (off / 4)).val]]
           whole := some fun w s => settled s (execSemWrite m (idx32 (off / 4)) w s) }
  else if off = 0x80 then some (roReg fun s => semMask s.hamper .app)
  else if off = 0x84 then some (roReg fun s => semMask s.hamper .sup)
  else none

/-! ### Descriptor SRAM and page pool (Table 11.2, R418, R458) -/

def sizeCode (size : Nat) : Nat := if size = 8 then 0 else if size = 16 then 1 else 2

/-- A word of a ring's descriptor; a ring that is not configured reads 0. The tail is the slot behind the newest
record, which lies in the head's page again where the ring's pages are full. -/
def descWord (s : State) (num k : Nat) : Nat :=
  match s.hamper.ring num with
  | none => 0
  | some r =>
    let tail := r.headSlot + r.count
    let page := fun (i : Nat) => (Config.ringPage num (r.pages.getD i 0)).toNat
    match k with
    | 0 => page 0 + 2 ^ 12 * r.headSlot + 2 ^ 17 * page (tail / r.perPage % r.pagesHeld) + 2 ^ 29 * bNat r.chan.isSome
    | 1 => tail % r.perPage + 2 ^ 5 * (r.pagesHeld - 1) + 2 ^ 13 * (r.minPages - 1) + 2 ^ 21 * (r.maxPages - 1)
        + 2 ^ 29 * sizeCode r.recSize + 2 ^ 31
    | 2 => r.count + 2 ^ 14 * policyCode r.policy + 2 ^ 16 * r.producer + 2 ^ 22 * r.consumer + 2 ^ 28 * bNat (r.headGap != 0)
        + 2 ^ 29 * bNat (r.pendLoss != 0) + 2 ^ 30 * bNat r.wmArmed
    | _ => r.highWm + 2 ^ 14 * r.lowWm + 2 ^ 28 * bNat r.byteRecs + 2 ^ 29 * ((r.chan.map (·.val)).getD 0)

def descReg (off : Nat) : Reg := roReg fun s => descWord s (off / 16) (off / 4 % 4)

/-- The word of a record that stands at a place of a page of some ring. -/
def recordAt (s : State) (page word : Nat) : Option Word :=
  s.hamper.rings.findSome? fun r =>
    if !r.enabled then none
    else (List.range r.pagesHeld).findSome? fun k =>
      if (Config.ringPage r.num (r.pages.getD k 0)).toNat = page then
        let per := r.recSize / 4
        let slot := k * r.perPage + word / per
        let slot := if slot < r.headSlot then slot + r.capacity else slot
        (r.recs[slot - r.headSlot]?).bind fun x => (recWords r.byteRecs x.bytes)[word % per]?
      else none

/-- A word of the page pool: a record's data, or a free value where no record stands. -/
def poolReg (off : Nat) : Reg :=
  roReg fun s => ((recordAt s (off / 256) (off % 256 / 4)).getD (Config.poolWord s.now off)).toNat

/-! ### Block 0x064 (Table 12.7) -/

def arbHome (res : Resource) (q : Nat) (get : Requesting → Counter) (set : Counter → Requesting → Requesting) : CounterHome :=
  { get := fun s => ((s.arb res).reqs[q]?.map get).getD {}
    set := fun f s => s.modArb res fun a => a.modReq q fun r => set (f (get r)) r }

def reqReg (res : Resource) (q off : Nat) : Option Reg :=
  let o := fun (el : Nat) => objsReq res q el
  let ro := fun (lo width : Nat) (get : Requesting → Nat) => roF lo width fun s => ((s.arb res).reqs[q]?.map get).getD 0
  match off with
  | 0x00 => some { fields := [objF 0 12 (o 2), objF 15 1 (o 1), objF 16 16 (o 3)] }
  | 0x04 => some { fields := [objF 0 12 (o 5), objF 15 1 (o 4), objF 16 16 (o 6)] }
  | 0x08 => some { fields := [objF 0 16 (o 7), roF 16 1 fun s => bNat (requests s res q), ro 17 1 fun r => bNat r.masked,
                              ro 18 1 fun r => bNat (r.forced != 0), ro 24 8 (·.granted)] }
  | 0x0C => some { fields := [ro 0 16 fun r => Nat.min 65535 r.wait, objF 16 16 (o 0xA)], whole := some fun _ s => clearMaxWait s res q }
  | _ =>
    if 0x10 ≤ off ∧ off < 0x20 then countersAt false 0x10 off
      [arbHome res q (·.grants) fun k r => { r with grants := k }, arbHome res q (·.events) fun k r => { r with events := k }]
    else none

def resourceReg (res : Resource) (k count off : Nat) : Option Reg :=
  match off with
  | 0x000 => some { fields := [objF 0 13 (objsArbMain (1 + k)), goF 16 (objArbCommit.poke (k + 1)), objF 17 2 (objsArbMain (8 + k))] }
  | 0x004 => some { fields := [objF 0 13 (objsArbMain (4 + k)), roF 16 5 fun s => (s.arb res).parked.getD 0,
                               roF 21 1 fun s => bNat (s.arb res).parked.isSome] }
  | 0x008 => some { fields := [objF 0 16 (objsArbMain (0xB + k))] }
  | _ => if 0x020 ≤ off ∧ off < 0x020 + 0x20 * count then reqReg res ((off - 0x020) / 0x20) (off % 0x20) else none

def arbReg (off : Nat) : Option Reg :=
  if off < 0x200 then resourceReg .pool 0 13 off
  else if off < 0x300 then resourceReg .ronko 1 4 (off - 0x200)
  else resourceReg .fsp 2 3 (off - 0x300)

end Sys2Proof.Machine
end

