-- ==== Sys2Proof/Machine/MgpObjs.lean ====
section
/-! DEFINITION. The status byte of the management port and the objects of Table 14.16 (R562, R568, R574, R578). -/

namespace Sys2Proof.Machine

def State.modMgp (s : State) (f : Mgp → Mgp) : State := { s with mgp := f s.mgp }

/-- READY: no request is being executed (R562). -/
def Mgp.ready (m : Mgp) : Bool := m.executing.isNone

/-- The status byte as it would be sent now (Table 14.11). -/
def statusByte (s : State) : Byte :=
  BitVec.ofNat 8 (128 * bNat s.mgp.ready + 64 * bNat s.mgp.bad + 32 * bNat (s.trust.instr.state == .unlocked)
    + 16 * bNat s.clk.aonOnRc + 8 * bNat s.faultLow + deviceCode s.dev.state)

/-- CONSOLE_LIVE: the alive counter has advanced within the last 500 ms (R568). -/
def consoleLive (s : State) : Bool :=
  match s.mgp.aliveAt with
  | some t => decide (s.now ≤ t + msec 500)
  | none => false

/-- STREAM_RING names a ring: the buffer empties, SEQ and the previous word are 0 (R574). -/
def setStreamRing (s : State) (num : Nat) : State :=
  s.modMgp fun m => { m with streamRing := num, buffer := [], tapLoss := false, seq := 0, prev := ({} : Mgp).prev }

/-- STREAM_RING. -/
def objStream : Obj :=
  { ty := tU16, acc := .rw, mgp := .sole, read := fun _ s => natBytes 2 s.mgp.streamRing
    range := fun w => w.v == 0xFFFF || (w.seq.hamper.ring w.v).isSome, put := fun w s => setStreamRing s w.v }

/-- The objects of Table 14.16, obj 0x1300. -/
def objsMgp (el : Nat) : Option Obj :=
  let counter (get : Mgp → Counter) : Option Obj := some (roNat tU32 fun s => (get s.mgp).value.toNat)
  match el with
  | 0x1 => some (roNat tU8 fun s => s.mgp.alive.toNat)
  | 0x2 => some (roNat tBool fun s => bNat (consoleLive s))
  | 0x3 => some objStream
  | 0x4 => some (roNat tU16 fun s => s.mgp.buffer.length)
  | 0x5 => counter (·.frames)
  | 0x6 => counter (·.badFrames)
  | 0x7 => counter (·.repeats)
  | 0x8 => counter (·.busyIgnored)
  | 0x9 => counter (·.underruns)
  | 0xA => counter (·.streamLost)
  | _ => none

end Sys2Proof.Machine
end

