-- ==== Sys2Proof/Machine/TunTx.lean ====
section
/-! DEFINITION. The transmit slots of the tunnel and the freeing of its receive slots, as their registers act (R522 to R525,
Table 13.13). -/

namespace Sys2Proof.Machine

/-- The segments of this unit's datagram that await their acknowledgement on any port are removed (R525). -/
def dropKept (s : State) (entry tag : W16) : State :=
  let own := fun (h : Kept) => segmentOf h.bytes == some (entry, tag) && slice h.bytes 4 2 == natBytes 2 s.srcId.toNat
  forEach allPort s fun s p => s.modPort p fun q => { q with kept := q.kept.filter fun h => !own h }

/-- CANCEL: the segments not yet sent, and those of this unit's that await their acknowledgement, are removed (R525). -/
def cancelTx (s : State) (k : Fin 4) : State :=
  let x := s.ronko.tun.tx[k.val]
  let s := dropKept s x.entry x.tag
  refillTx (s.modTun fun t => t.setTx k { x with state := 0, segs := [] })

/-- A write of TXk_D0: DEST and KIND while the slot does not send; CANCEL; GO with the datagram that stands in the slot. A
LEN or KIND that no datagram has fails at once. -/
def writeTx (s : State) (k : Fin 4) (w : Word) (data : List Byte) : State :=
  let s := if w.getLsbD 30 then cancelTx s k else s
  let old := s.ronko.tun.tx[k.val]
  let x : TxSlot := { old with d0 := if old.state = 1 then old.d0 else w.extractLsb' 0 18 }
  if x.state = 1 then s
  else
    let s := s.modTun fun t => t.setTx k x
    if !w.getLsbD 31 then s
    else if within 1 1472 x.len && x.kind != 3 then
      startTx s k x ((data ++ List.replicate (x.len - data.length) 0).take x.len)
    else s.modTun fun t => t.setTx k { x with state := 3 }

/-- TUN_TX_GO: a write of TXk_D0 (R522). -/
def execTunTxGo (k : Fin 4) (w : Word) (data : List Byte) (s : State) : Host.Outcome State Fault Refusal :=
  .next (writeTx s k w data)

/-- TUN_TX_CANCEL (R525). -/
def execTunTxCancel (k : Fin 4) (s : State) : Host.Outcome State Fault Refusal := .next (cancelTx s k)

/-- FREE: the complete slots that a mask names are free again (R523). -/
def freeRx (s : State) (mask : Byte) : State :=
  s.modTun fun t => { t with rx := Vector.ofFn fun i => if mask.getLsbD i.val && t.rx[i.val].full then {} else t.rx[i.val] }

/-- TUN_RX_FREE (R523). -/
def execTunRxFree (mask : Byte) (s : State) : Host.Outcome State Fault Refusal := .next (freeRx s mask)

end Sys2Proof.Machine
end

