-- ==== Sys2Proof/Machine/RegsC.lean ====
section
/-! DEFINITION. The register tables of chapters 13 to 15: the Ronko ports, the tree, time, triggers and the tunnel, the
front-end serial port, the management port, the event lines and Badger. -/

namespace Sys2Proof.Machine

/-! ### Blocks 0x070 to 0x072 (Table 13.12) -/

/-- Halves of 1/128 cycle as a register of 1/128 cycle shows them, a half rounded up. -/
def wholeUnits (d : Int) : Int := (d + 1) / 2

/-- PORT_ASYM in units of 1/128 cycle: 30,720,000,000 to the second. -/
def asymUnits (q : PortSt) : Int := ((f32Val q.asym).mul (Q.ofNat 30720000000)).roundUp

def portHome (p : Port) (get : PortSt → Counter) (set : Counter → PortSt → PortSt) : CounterHome :=
  { get := fun s => get (s.port p), set := fun f s => s.modPort p fun q => set (f (get q)) q }

def portHomes (p : Port) : List CounterHome :=
  [portHome p (·.codeErrors) fun k q => { q with codeErrors := k },
   portHome p (·.crcErrors) fun k q => { q with crcErrors := k },
   portHome p (·.retries) fun k q => { q with retries := k },
   portHome p (·.linkFails) fun k q => { q with linkFails := k },
   portHome p (·.linkDowns) fun k q => { q with linkDowns := k },
   portHome p (·.txFrames) fun k q => { q with txFrames := k },
   portHome p (·.rxFrames) fun k q => { q with rxFrames := k }]

def portReg (p : Port) (off : Nat) : Option Reg :=
  let ro := fun (lo width : Nat) (get : PortSt → Nat) => roF lo width fun s => get (s.port p)
  match off with
  | 0x000 => some { fields := [objF 0 1 (objsPort p 2), objF 1 1 (objsPort p 3)] }
  | 0x004 => some { fields := [ro 0 3 fun q => linkCode q.link, ro 3 1 fun q => bNat q.signal, ro 4 2 (·.peerRole)] }
  | 0x008 => some { fields := [ro 0 16 fun q => signedNat 16 (wholeUnits q.delay)] }
  | 0x00C => some { fields := [rwF 0 16 (fun s => signedNat 16 (asymUnits (s.port p)))
      (fun v => decide ((BitVec.ofNat 16 v).toInt.natAbs ≤ 154)) fun v s => s.modPort p fun q =>
        { q with asym := (Q.mk (BitVec.ofNat 16 v).toInt 30720000000).toF32 }] }
  | 0x010 => some { fields := [ro 0 4 fun q => q.eqPeak.toNat, ro 8 8 fun q => q.dfe1.toNat, ro 16 8 fun q => q.dfe2.toNat,
                               ro 24 8 fun q => q.dfe3.toNat] }
  | 0x014 => some { fields := [ro 0 16 fun q => q.eyeMv.toNat, ro 16 16 fun q => q.eyeWidth.toNat] }
  | 0x018 => some { fields := [ro 0 8 fun q => q.eqDelayPs.toNat] }
  | 0x060 => some { fields := [ro 0 8 fun q => q.txSeq.toNat, ro 8 8 fun q => q.rxSeq.toNat, ro 16 4 (·.credits),
                               ro 20 4 fun q => q.kept.length, ro 24 3 (·.xcredits)] }
  | _ => countersAt false 0x020 off (portHomes p)

/-! ### Block 0x073 (Table 13.13) -/

def enumOf : Nat → EnumState
  | 1 => .running
  | 2 => .ready
  | 3 => .rootless
  | 4 => .unadmitted
  | _ => .none

/-- NODE, as the TSF and the Ronko logic write it; ROOT follows the port RKU. -/
def nodeReg : Reg :=
  { fields := [roF 0 12 fun s => (s.ronko.node.id.getD 0).toNat, roF 12 1 fun s => bNat s.ronko.node.id.isSome,
               roF 16 4 (·.ronko.node.level), roF 20 3 fun s => enumCode s.ronko.node.enum, roF 23 1 fun s => bNat (s.isRoot && s.dev.state != .reset && s.dev.state != .boot)]
    tsf := true
    whole := some fun w s => s.modNode fun n =>
      { n with id := if w.getLsbD 12 then some ((w.extractLsb' 0 12).setWidth 16) else none
               level := w.toNat / 65536 % 16
               enum := if w.toNat / 2 ^ 20 % 8 ≤ 4 then enumOf (w.toNat / 2 ^ 20 % 8) else n.enum } }

def subReg (p : Port) : Reg :=
  { fields := [rwF 0 12 (fun s => (s.port p).subFirst) (fun _ => true) (fun v s => s.modPort p fun q => { q with subFirst := v }),
               rwF 16 13 (fun s => (s.port p).subCount) (fun _ => true) fun v s => s.modPort p fun q => { q with subCount := v }]
    tsf := true }

/-- A time as a whole number of a unit, given in units to the second. -/
def inUnits (f : F32) (perSecond : Nat) : Nat := ((f32Val f).mul (Q.ofNat perSecond)).roundUp.toNat

def timeCfgReg : Reg :=
  { fields := [rwF 0 14 (fun s => inUnits s.ronko.time.syncPeriod 1000000) (within 125 10000) (fun v s =>
                 s.modTime fun t => { t with syncPeriod := (Q.mk v 1000000).toF32 }),
               rwF 14 18 (fun s => inUnits s.ronko.time.stepLimit 100000000) (within 1 100000) fun v s =>
                 s.modTime fun t => { t with stepLimit := (Q.mk v 100000000).toF32 }]
    tsf := true }

/-- TRIG_CMD: GO issues the trigger in TRIG_W0 to TRIG_W3, checked as SCHED_TRIG is (R516). -/
def trigCmd (w : Word) (s : State) : State :=
  if w.getLsbD 0 then
    let blob := s.ronko.trig.trigW.toList.flatMap fun x => natBytes 4 x.toNat
    let code := objSchedTrig.verdict tBlob ⟨⟨.loc, .mbx, none⟩, blob, s, s, s⟩
    let s := if code == eOk then issueTrig s (trigOfBlob blob s.srcId) else s
    s.modTrig fun x => { x with trigResult := code }
  else s

def trigHome (get : Triggers → Counter) (set : Counter → Triggers → Triggers) : CounterHome :=
  { get := fun s => get s.ronko.trig, set := fun f s => s.modTrig fun x => set (f (get x)) x }

/-- The template with one of its words replaced. -/
def templateWith (k v : Nat) (s : State) : List Byte :=
  s.ronko.trig.template.take (4 * k) ++ natBytes 4 v ++ s.ronko.trig.template.drop (4 * k + 4)

/-- A word of the template; one that leaves a template which obj 0x1205.05 makes illegal is ignored (R530). -/
def templateReg (k : Nat) : Reg :=
  { fields := [{ lo := 0, width := 32, get := fun s => beNat (slice s.ronko.trig.template (4 * k) 4)
                 set := some fun v s =>
                   let w : W := ⟨⟨.loc, .mbx, none⟩, templateWith k v s, s, s, s⟩
                   if objTemplate.valueCode true w == eOk then objTemplate.put w s else s
                 code := fun v w => objTemplate.valueCode true { w with data := templateWith k v w.post } }] }

/-- The bytes of a transmit slot's datagram as the TCM holds them; the model does not hold the TCM. -/
def slotBytes (s : State) (k : Fin 4) : List Byte :=
  (List.range (s.ronko.tun.tx[k.val]).len).map fun i => (Config.freeWord (s.free + i)).extractLsb' 0 8

/-- A write of a transmit slot's word while the slot does not send. -/
def txWord (k : Fin 4) (f : Word → TxSlot → TxSlot) : Option (Word → State → State) :=
  some fun w s => s.modTun fun t => if t.tx[k.val].state = 1 then t else t.setTx k (f w t.tx[k.val])

def txReg (k : Fin 4) (off : Nat) : Option Reg :=
  let ro := fun (lo width : Nat) (get : TxSlot → Nat) => roF lo width fun s => get s.ronko.tun.tx[k.val]
  match off with
  | 0x0 => some { fields := [ro 0 18 fun x => x.d0.toNat, roF 30 2 fun _ => 0]
                  whole := some fun w s => writeTx { s with free := s.free + (slotBytes s k).length } k w (slotBytes s k) }
  | 0x4 => some { fields := [ro 0 27 fun x => x.d1.toNat], whole := txWord k fun w x => { x with d1 := w &&& 0x07FFFFFF } }
  | 0x8 => some { fields := [ro 0 32 fun x => x.d2.toNat], whole := txWord k fun w x => { x with d2 := w } }
  | 0xC => some { fields := [ro 0 28 fun x => x.d3.toNat, ro 28 2 (·.state)]
                  whole := txWord k fun w x => { x with d3 := w.extractLsb' 0 28 } }
  | _ => none

def treeReg (off : Nat) : Option Reg :=
  let signed := fun (get : TimeSt → Int) =>
    some ({ fields := [roF 0 32 fun s => signedNat 32 (wholeUnits (get s.ronko.time))], tsf := true } : Reg)
  match off with
  | 0x000 => some nodeReg
  | 0x004 => some { fields := [rwF 0 16 (fun s => s.ronko.node.gen.toNat) (fun _ => true)
                                 (fun v s => s.modNode fun n => { n with gen := BitVec.ofNat 16 v }),
                               rwF 16 13 (·.ronko.node.nodeCount) (fun _ => true) fun v s => s.modNode fun n => { n with nodeCount := v }]
                    tsf := true }
  | 0x008 => some (subReg rkl)
  | 0x00C => some (subReg rkm)
  | 0x010 => some timeCfgReg
  | 0x014 => some { fields := [roF 0 3 fun s => timeCode s.ronko.time.state, roF 3 1 fun s => bNat s.ronko.time.parentLocked], tsf := true }
  | 0x018 => signed (·.offset)
  | 0x01C => signed (·.delay)
  | 0x050 => some { fields := [roF 0 1 fun _ => 0, roF 8 8 fun s => s.ronko.trig.trigResult.toNat,
                               roF 16 4 fun s => s.ronko.trig.issue.length], whole := some trigCmd }
  | 0x070 => some { fields := [objF 0 8 (objsTrigger 3), objF 8 3 (objsTrigger 4),
                               rwF 12 20 (·.ronko.trig.leadUs) (within 200 1000000) fun v s => s.modTrig fun x => { x with leadUs := v }] }
  | 0x0A8 => some { fields := [roF 0 16 fun s => s.ronko.trig.lastId.toNat, roF 16 5 fun s => s.ronko.trig.pending.length] }
  | 0x100 => some { fields := [rwF 4 12 (fun s => s.ronko.tun.rxBase.toNat) (fun v => decide (16 * v + 8 * 1536 ≤ 65536)) fun v s =>
                      s.modTun fun t => { t with rxBase := BitVec.ofNat 12 v }] }
  | 0x104 => some { fields := [rwF 0 1 (fun s => bNat s.ronko.tun.rxEn) (fun _ => true) (fun v s => s.modTun fun t => { t with rxEn := v == 1 }),
                               { lo := 8, width := 8, get := fun _ => 0, set := some fun v s => freeRx s (BitVec.ofNat 8 v) }] }
  | 0x108 => some { fields := [roF 0 8 fun s => (s.ronko.tun.rx.toList.zipIdx.map fun (x, i) => if x.full then 2 ^ i else 0).sum] }
  | 0x110 => some { fields := [rwF 4 12 (fun s => s.ronko.tun.txBase.toNat) (fun _ => true) fun v s =>
                      s.modTun fun t => { t with txBase := BitVec.ofNat 12 v }] }
  | _ =>
    if 0x040 ≤ off ∧ off < 0x050 then
      some { fields := [rwF 0 32 (fun s => (s.ronko.trig.trigW[(off - 0x040) / 4]?.getD 0).toNat) (fun _ => true) fun v s =>
        s.modTrig fun x => { x with trigW := x.trigW.setIfInBounds ((off - 0x040) / 4) (BitVec.ofNat 32 v) }] }
    else if 0x060 ≤ off ∧ off < 0x070 then some (templateReg ((off - 0x060) / 4))
    else if 0x080 ≤ off ∧ off < 0x0A0 then countersAt false 0x080 off
      [trigHome (·.exec) fun k x => { x with exec := k }, trigHome (·.late) fun k x => { x with late := k },
       trigHome (·.dropped) fun k x => { x with dropped := k }, trigHome (·.unaligned) fun k x => { x with unaligned := k }]
    else if 0x120 ≤ off ∧ off < 0x160 then txReg ⟨(off - 0x120) / 0x10 % 4, Nat.mod_lt _ (by decide)⟩ (off % 0x10)
    else pairAt false 0x0A0 off (·.ronko.trig.lastTbc)

/-! ### Block 0x079 (Table 14.17) -/

def fspHome (get : Fsp → Counter) (set : Counter → Fsp → Fsp) : CounterHome :=
  { get := fun s => get s.fsp, set := fun f s => s.modFsp fun x => set (f (get x)) x }

def xipHome (get : Xip → Counter) (set : Counter → Xip → Xip) : CounterHome :=
  { get := fun s => get s.xip, set := fun f s => s.modXip fun x => set (f (get x)) x }

def fspHomes : List CounterHome :=
  [fspHome (·.entries) fun k f => { f with entries := k }, fspHome (·.retries) fun k f => { f with retries := k },
   fspHome (·.fails) fun k f => { f with fails := k }, fspHome (·.modeFaults) fun k f => { f with modeFaults := k },
   fspHome (·.protBlocks) fun k f => { f with protBlocks := k }, xipHome (·.hits) fun k x => { x with hits := k },
   xipHome (·.misses) fun k x => { x with misses := k }, fspHome (·.busyPolls) fun k f => { f with busyPolls := k }]

def selReg (c : Fin 4) (delays : Bool) : Reg :=
  let rw := fun (lo width : Nat) (get : Select → Nat) (legal : Nat → Bool) (set : Nat → Select → Select) =>
    rwF lo width (fun s => get s.fsp.sels[c.val]) legal fun v s => s.modFsp fun f => f.setSel c (set v)
  { fields :=
      if delays then
        [rw 0 8 (·.lead) (within 1 255) fun v k => { k with lead := v }, rw 8 8 (·.lag) (within 1 255) fun v k => { k with lag := v },
         rw 16 8 (·.inter) (within 1 255) fun v k => { k with inter := v }]
      else
        [rw 0 7 (fun k => k.div / 2 - 1) (fun _ => true) fun v k => { k with div := 2 * (v + 1) },
         rw 8 2 (·.mode) (within 0 (if c = 0 then 0 else 3)) fun v k => { k with mode := v },
         rw 12 1 (fun k => bNat k.frdyEn) (fun _ => true) fun v k => { k with frdyEn := v == 1 },
         rw 16 10 (·.frdyTmo) (within 1 1000) fun v k => { k with frdyTmo := v }]
    tsf := c = 0 }

/-- A row of the protection table. -/
def protReg (k : Nat) : Reg :=
  let op := fun (s : State) => s.fsp.protOps[k]?.getD ⟨0, 0, 0⟩
  { fields := [roF 0 8 fun s => (op s).opcode.toNat, roF 8 2 fun s => (op s).cls, roF 12 5 fun s => (op s).span], tsf := true
    whole := some fun w s =>
      if s.dev.state != .reset && s.dev.state != .boot then s
      else s.modFsp fun f => { f with protOps := f.protOps.set k ⟨w.extractLsb' 0 8, w.toNat / 256 % 4, w.toNat / 4096 % 32⟩ } }

def fspReg (off : Nat) : Option Reg :=
  let o := fun (idx el : Nat) => objsFsp idx el
  match off with
  | 0x000 => some { fields := [cmdF 0 1 (some objFspRelease), cmdF 1 1 (some objFspAcquire)], tsf := true }
  | 0x004 => some { fields := [roF 0 2 fun s => masterCode s.fsp.master,
                               w1cF 2 (·.fsp.modeFault) (fun s => s.modFsp fun f => { f with modeFault := false }),
                               roF 3 1 fun s => bNat s.fsp.contRead, roF 4 1 fun s => bNat s.fsp.busyPend, roF 5 1 fun s => bNat s.busUsed,
                               roF 6 2 fun s => s.bus.owner.getD (if s.fsp.entry.isSome then 2 else 0)] }
  | 0x008 => some { fields := [objF 0 1 (o 0x1400 4), objF 16 14 (o 0x1400 5)] }
  | 0x00C => some { fields := [ringF 0 (o 0x1400 6), ringF 16 (o 0x1400 7)] }
  | 0x050 => some { fields := [roF 0 8 fun s => s.xip.cmd.toNat, roF 8 8 fun s => s.xip.contMode.toNat, roF 16 4 fun s => s.xip.dummy.toNat,
                               roF 20 1 fun s => bNat s.xip.addr4, roF 21 1 fun s => bNat s.xip.cont], tsf := true
                    whole := some fun w s => s.modXip fun x =>
                      { x with cmd := w.extractLsb' 0 8, contMode := w.extractLsb' 8 8, dummy := w.extractLsb' 16 4,
                               addr4 := w.getLsbD 20, cont := w.getLsbD 21 } }
  | 0x054 => some { fields := [rwF 0 28 (·.xip.base) (fun _ => true) fun v s => s.modXip fun x => { x with base := v }], tsf := true }
  | 0x058 => some { fields := [rwF 0 21 (·.xip.size) (fun _ => true) fun v s => s.modXip fun x => { x with size := v }], tsf := true }
  | 0x05C => some { fields := [objF 0 1 (o 0x1405 2), cmdF 1 1 (some objXipInvalidate)] }
  | 0x0A0 => some { fields := [rwF 0 8 (fun s => s.fsp.statusCmd.toNat) (fun _ => true)
                                 (fun v s => s.modFsp fun f => { f with statusCmd := BitVec.ofNat 8 v }),
                               rwF 8 3 (fun s => s.fsp.busyBit.toNat) (fun _ => true)
                                 fun v s => s.modFsp fun f => { f with busyBit := BitVec.ofNat 3 v }], tsf := true }
  | 0x0B0 => some { fields := [rwF 0 5 (·.fsp.flashLog) (within 22 28) fun v s => s.modFsp fun f => { f with flashLog := v }], tsf := true }
  | _ =>
    if 0x010 ≤ off ∧ off < 0x050 then
      let c : Fin 4 := ⟨(off - 0x010) / 0x10 % 4, Nat.mod_lt _ (by decide)⟩
      if off % 0x10 = 0 then some (selReg c false) else if off % 0x10 = 4 then some (selReg c true) else none
    else if 0x060 ≤ off ∧ off < 0x0A0 then some (protReg ((off - 0x060) / 4))
    else countersAt false 0x0C0 off fspHomes

/-! ### Block 0x07A (Table 14.18) -/

def mgpHome (get : Mgp → Counter) (set : Counter → Mgp → Mgp) : CounterHome :=
  { get := fun s => get s.mgp, set := fun f s => s.modMgp fun x => set (f (get x)) x }

def mgpReg (off : Nat) : Option Reg :=
  match off with
  -- while the always-on reset is held, the status byte reads its reset value 0 (Table 14.18)
  | 0x000 => some { fields := [roF 0 8 fun s => if s.power.aonHeld then 0 else (statusByte s).toNat, roF 8 4 fun s => s.mgp.alive.toNat,
                               roF 12 4 fun s => s.mgp.held.rhdr.toNat / 16, roF 16 1 fun s => bNat s.mgp.executing.isSome,
                               roF 17 1 fun s => bNat s.mgp.streaming], tsf := true }
  | 0x004 => some { fields := [ringF 0 (some objStream), roF 16 9 (·.mgp.buffer.length)], tsf := true }
  | _ => countersAt true 0x010 off
      [mgpHome (·.frames) fun k m => { m with frames := k }, mgpHome (·.badFrames) fun k m => { m with badFrames := k },
       mgpHome (·.repeats) fun k m => { m with repeats := k }, mgpHome (·.busyIgnored) fun k m => { m with busyIgnored := k },
       mgpHome (·.underruns) fun k m => { m with underruns := k }, mgpHome (·.streamLost) fun k m => { m with streamLost := k }]

/-! ### Blocks 0x080 and 0x081 (Table 15.11) -/

def lineReg (x : Fin 4) (off : Nat) : Option Reg :=
  match off with
  | 0x00 => some (wordReg false (objsLine x 1))
  | 0x04 => some { fields := [{ lo := 0, width := 32, get := fun s => s.events.lines[x.val].pending.toNat
                                set := some fun v s => s.modLine x fun l => l.clear (BitVec.ofNat 32 v) }] }
  | 0x08 => some { fields := [objF 0 1 (objsLine x 4), -- the ball's level reads 0 in RESET, as Table 15.11 has it
                          roF 1 1 fun s => bNat (!s.evtLow x && s.dev.state != .reset)] }
  | _ => counterAt false 0x0C off
      { get := fun s => s.events.lines[x.val].count, set := fun f s => s.modLine x fun l => { l with count := f l.count } }

/-- A big-endian word of a record, 0 where there is none. -/
def recWord (bytes : List Byte) (k : Nat) : Nat := beNat (slice bytes (4 * k) 4)

def evtReg (off : Nat) : Option Reg :=
  match off with
  | 0x080 => some { fields := [objF 0 3 (objsBadger 0x6004 1)] }
  | 0x090 => some { fields := [roF 0 7 (·.events.fifo.length)] }
  | 0x094 => some { fields := [goF 0 fun s => settled s (execFifoPop s)] }
  | _ =>
    if off < 0x080 then lineReg ⟨off / 0x20 % 4, Nat.mod_lt _ (by decide)⟩ (off % 0x20)
    else if 0x0A0 ≤ off ∧ off < 0x0C0 then
      some (roReg fun s => recWord ((s.events.fifo.head?.map EventRec.bytes).getD []) ((off - 0x0A0) / 4))
    else counterAt false 0x098 off
      { get := (·.events.fifoLost), set := fun f s => { s with events := { s.events with fifoLost := f s.events.fifoLost } } }

def State.modBadger (s : State) (f : Badger → Badger) : State := { s with badger := f s.badger }

def badgerHome (get : Badger → Counter) (set : Counter → Badger → Badger) : CounterHome :=
  { get := fun s => get s.badger, set := fun f s => s.modBadger fun b => set (f (get b)) b }

/-- FORCE_A: GO sends the message that FORCE_A and FORCE_B spell (R604). -/
def forceGo (w : Word) (s : State) : State :=
  let s := s.modBadger fun b => { b with forceA := w &&& 0x00073FFF }
  let data := natBytes 1 (w.toNat / 256 % 64) ++ natBytes 1 w.toNat ++ natBytes 1 (w.toNat / 65536 % 8)
    ++ natBytes 3 s.badger.forceB.toNat
  if w.getLsbD 31 && forceLegal data then objForce.put ⟨⟨.mgmt, .mgp, none⟩, data, s, s, s⟩ s else s

/-- TEST_CTRL: TEST_ACTIVE as the TSF writes it, with TARGET and ARG (R605, R607). -/
def testCtrl (w : Word) (s : State) : State :=
  let s := s.modBadger fun b => { b with testCtrl := w &&& 0xFFFFFF00 }
  if w.getLsbD 0 then s.modBadger fun b => { b with testActive := true } else endTest s

/-- TEST_VALUE: GO begins the injection that TEST_CTRL and VALUE spell (R606). -/
def testGo (w : Word) (s : State) : State :=
  let s := s.modBadger fun b => { b with testValue := w &&& 0xFFFF }
  let ctrl := s.badger.testCtrl.toNat
  let data := natBytes 1 (ctrl / 256) ++ natBytes 2 (ctrl / 65536) ++ natBytes 2 w.toNat
  if w.getLsbD 31 && s.badger.testActive && injectLegal data then objInject.put ⟨⟨.mgmt, .mgp, none⟩, data, s, s, s⟩ s else s

/-- ACK: the slot named closes, or every one (R595, R596). -/
def ackGo (w : Word) (s : State) : State :=
  s.modBadger fun b => if w.getLsbD 15 then b.closeAll else b.closeSlot (ackClass w.toNat) (BitVec.ofNat 6 (w.toNat / 256))

def classReg (c : Nat) : Reg :=
  { fields := [roF 0 3 fun _ => (ceilingOf (BitVec.ofNat 4 c)).toNat,
               rwF 16 16 (fun s => inUnits (s.badger.ackQuiet[c]?.getD 0) 10) (within 0 600) fun v s => s.modBadger fun b =>
                 { b with ackQuiet := b.ackQuiet.setIfInBounds c (Q.mk v 10).toF32 }]
    tsf := true }

/-- A word of the history position that holds message s with s mod 32 = j. -/
def histWord (s : State) (j k : Nat) : Nat :=
  recWord (((s.badger.history.find? fun h => h.seq.toNat % 32 == j).map HistEntry.bytes).getD []) k

def badgerReg (off : Nat) : Option Reg :=
  let o := fun (el : Nat) => objsBadgerMain el
  match off with
  | 0x000 => some { fields := [roF 0 5 fun s => s.badger.openLevels, roF 8 1 fun s => bNat s.faultLow, roF 9 1 fun s => bNat s.alertHigh,
                               roF 10 1 fun s => bNat s.badger.alertPulsing, roF 11 1 fun s => bNat s.badger.testActive] }
  | 0x004 => some { fields := [objF 0 3 (o 0xA), objF 16 1 (o 0xC)] }
  | 0x008 => some { fields := [objF 0 20 (o 0xB)] }
  | 0x010 => some { fields := [roF 0 4 fun _ => 0, roF 8 6 fun _ => 0, roF 15 1 fun _ => 0], tsf := true, whole := some ackGo }
  | 0x014 => some { fields := [roF 0 4 fun s => s.badger.openSel.toNat, roF 8 6 fun s => s.badger.openSel.toNat / 256]
                    whole := some fun w s => s.modBadger fun b => { b with openSel := w.extractLsb' 0 16 &&& 0x3F0F } }
  | 0x018 => some { fields := [roF 0 3 fun s => (s.badger.selected s.badger.openSel).1, roF 8 8 fun s => (s.badger.selected s.badger.openSel).2] }
  | 0x020 => some { fields := [roF 0 25 fun _ => 0], whole := some fun w s => settled s (execAppPost w s) }
  | 0x030 => some { fields := [roF 0 8 fun s => s.badger.forceA.toNat, roF 8 6 fun s => s.badger.forceA.toNat / 256,
                               roF 16 3 fun s => s.badger.forceA.toNat / 65536, roF 31 1 fun _ => 0], tsf := true, whole := some forceGo }
  | 0x034 => some { fields := [rwF 0 24 (fun s => s.badger.forceB.toNat) (fun _ => true) fun v s =>
                      s.modBadger fun b => { b with forceB := BitVec.ofNat 32 v }], tsf := true }
  | 0x040 => some (roReg fun s => s.badger.histSeq.value.toNat)
  -- the counter's status, as every counter of the block has it at +4 (R609)
  | 0x044 => some (statusReg false (badgerHome (·.histSeq) fun k b => { b with histSeq := k }))
  | 0x100 => some { fields := [roF 0 1 fun s => bNat s.badger.testActive, roF 8 8 fun s => s.badger.testCtrl.toNat / 256,
                               roF 16 16 fun s => s.badger.testCtrl.toNat / 65536], tsf := true, whole := some testCtrl }
  | 0x104 => some { fields := [roF 0 16 fun s => s.badger.testValue.toNat, roF 31 1 fun _ => 0], tsf := true, whole := some testGo }
  | _ =>
    if 0x060 ≤ off ∧ off < 0x0A0 then some (classReg ((off - 0x060) / 4))
    else if 0x200 ≤ off ∧ off < 0x400 then some (roReg fun s => histWord s ((off - 0x200) / 16) (off / 4 % 4))
    else countersAt false 0x048 off
      [badgerHome (·.histDropped) fun k b => { b with histDropped := k }, badgerHome (·.msgLost) fun k b => { b with msgLost := k }]

end Sys2Proof.Machine
end

