-- ==== Sys2Proof/Machine/Regs.lean ====
section
/-! DEFINITION. The register space: which register an address holds (R16, Table 3.16), reads with the latch of 64-bit
registers (R69, R70), and writes under the protection unit (R15, R145, R146). -/

namespace Sys2Proof.Machine

/-- The engine a number names. -/
def engOf (k : Nat) : Option Eng := if h : k < 4 then some ⟨k, h⟩ else none

/-- The register at an offset of a block. -/
def blockReg (m : Master) (b off : Nat) : Option Reg :=
  if b = 0x000 then devReg off
  else if b = 0x001 then clkReg off
  else if b = 0x002 then rstReg off
  else if b = 0x003 then mbxReg off
  else if b = 0x004 then limitReg off
  else if b < 0x008 then none
  else if b < 0x010 then (chOf (b - 0x008)).bind fun n => chModeReg n off
  else if b < 0x014 then (engOf (b - 0x010)).bind fun e => engReg e off
  else if b < 0x018 then (engOf (b - 0x014)).bind fun e => lacBlock e off
  else if b < 0x020 then (chOf (b - 0x018)).bind fun n => motionReg n off
  else if b < 0x040 then (chOf ((b - 0x020) / 4)).bind fun n => progMem n (b % 4 * 0x400 + off)
  else if b < 0x048 then (chOf (b - 0x040)).bind fun n => convReg n off
  else if b = 0x048 then auxReg off
  else if b = 0x049 then refReg off
  else if b = 0x04A then clrReg off
  else if b = 0x04B then trigReg off
  else if b < 0x050 then none
  else if b < 0x058 then (chOf (b - 0x050)).bind fun n => outReg n off
  else if b = 0x060 then hamReg m off
  else if b = 0x061 then sweepBlock off
  else if b = 0x062 then semReg m off
  else if b = 0x064 then arbReg off
  else if b = 0x070 then portReg rku off
  else if b = 0x071 then portReg rkl off
  else if b = 0x072 then portReg rkm off
  else if b = 0x073 then treeReg off
  else if b = 0x078 then macReg off
  else if b = 0x079 then fspReg off
  else if b = 0x07A then mgpReg off
  else if b = 0x080 then evtReg off
  else if b = 0x081 then badgerReg off
  else if 0x100 ≤ b ∧ b < 0x200 then some (descReg ((b - 0x100) * 0x400 + off))
  else if 0x400 ≤ b ∧ b < 0x800 then some (poolReg ((b - 0x400) * 0x400 + off))
  else none

/-- The block is allocated (Table 3.16). -/
def blockAllocated (b : Nat) : Bool :=
  decide (b ≤ 0x004) || within 0x008 0x04B b || within 0x050 0x057 b || within 0x060 0x062 b || b == 0x064
    || within 0x070 0x073 b || within 0x078 0x07A b || within 0x080 0x081 b || within 0x100 0x1FF b || within 0x400 0x7FF b

/-- Where a write through the window goes against Table 3.16: none where no window write is allowed. -/
def windowScope (b : Nat) : Option Scope :=
  if b = 0x003 ∨ b = 0x004 ∨ (0x020 ≤ b ∧ b < 0x040) ∨ b = 0x062 ∨ b = 0x07A ∨ 0x100 ≤ b then none
  else
    let scope := if b < 0x008 then none
      else if b < 0x010 then (chOf (b - 0x008)).map .chan
      else if b < 0x014 then (engOf (b - 0x010)).map .pair
      else if b < 0x018 then (engOf (b - 0x014)).map .pair
      else if b < 0x020 then (chOf (b - 0x018)).map .chan
      else if b < 0x040 then none
      else if b < 0x048 then (chOf (b - 0x040)).map .chan
      else if b < 0x050 then none
      else (chOf (b - 0x050)).map .chan
    some (scope.getD .session)

/-- The address of the first register. -/
def regBase : Nat := 0x40000000

/-- The register at a byte address, as one bus master sees it (R16). -/
def regAt (m : Master) (addr : Nat) : Option Reg :=
  if addr < regBase ∨ addr % 4 ≠ 0 then none
  else blockReg m ((addr - regBase) / 0x400) ((addr - regBase) % 0x400)

/-- A word of an allocated block in which no register is listed: all its bits are reserved, so it reads 0 and a write
changes nothing (R15, R196, R227). In a block that is TSF-owned as a whole, and in block 0x003 beside its request registers, it
is TSF-owned (R145, R297). -/
def reservedWord (b : Nat) : Reg := { fields := [], tsf := b = 0x003 || b = 0x004 || within 0x020 0x03F b || b = 0x07A }

/-- What a bus access finds at a byte address: the register, or the reserved word of an allocated block (R15, Table
3.16). -/
def busRegAt (m : Master) (addr : Nat) : Option Reg :=
  match regAt m addr with
  | some r => some r
  | none =>
    let b := (addr - regBase) / 0x400
    if regBase ≤ addr ∧ addr % 4 = 0 ∧ blockAllocated b then some (reservedWord b) else none

/-- The value a master's holding register has for a 64-bit register (R70). -/
def latched (s : State) (m : Master) (addr : Nat) : Word :=
  match s.clk.latches.find? fun l => l.master == m && l.addr == addr with
  | some l => l.high
  | none => 0

/-- The word a read of a register returns. -/
def readWord (r : Reg) (m : Master) (addr : Nat) (s : State) : Word :=
  match r.pair with
  | .high => latched s m (addr - 4)
  | _ => r.word s

/-- What a read leaves behind: the low word of a pair latches the high word for its master (R69), and the read of a descriptor
finds an uncorrectable error in it (R418). -/
def afterRead (r : Reg) (m : Master) (addr : Nat) (s : State) : State :=
  let s := if 0x40040000 ≤ addr ∧ addr < 0x40080000 then checkDesc s ((addr - 0x40040000) / 16) else s
  match r.pair with
  | .low value =>
    { s with clk := { s.clk with
        latches := ⟨m, addr, (value s).extractLsb' 32 32⟩ :: s.clk.latches.filter fun l => !(l.master == m && l.addr == addr) } }
  | _ => s

/-- The application core may not write the register (R145). -/
def Reg.barred (r : Reg) (m : Master) : Bool := r.tsf && m == .app

/-- A write of a register by a bus master (R15, R146): one of the application core that the TSF's check behind it refuses is
ignored (R87, R340; log entry 107). -/
def writeReg (r : Reg) (m : Master) (addr : Nat) (w : Word) (s : State) : State :=
  if r.barred m then protViolation s addr else if m == .app && !r.guard s then s else r.put w s

/-! ### The raw window (R15, R90) -/

/-- The element of the raw window for a register: the checks of the objects that its fields mirror hold for it (R97), so a value
that a field cannot take, or that the mode or the state forbids, rejects the whole write. -/
def rawObj (b : Nat) (r : Reg) (addr : Nat) : Obj :=
  { ty := tU32, acc := if r.tsf || !r.writable || (windowScope b).isNone then .ro else .rw
    scope := fun _ => (windowScope b).getD .session
    read := fun _ s => natBytes 4 (readWord r .app addr s).toNat
    range := fun w => w.word &&& ~~~r.mask == 0 && !(r.codes w).contains eRange
    mode := fun w => !(r.codes w).contains eMode
    state := fun w => firstCode (r.codes w)
    put := fun w s => r.put w.word s }

/-- The address of a window element. -/
def rawAddr (b el : Nat) : Nat := regBase + 0x400 * b + 4 * el

end Sys2Proof.Machine
end

