-- ==== Sys2Proof/Machine/Objects.lean ====
section
/-! DEFINITION. The object dictionary (R88 to R99, Table 3.8): every index and element as an `Obj`, reads, single writes, and
the checked groups of R107 to R111. -/

namespace Sys2Proof.Machine

/-! ### Indices outside the raw window -/

/-- The identity objects, obj 0x0002 (Table 0.4). -/
def objsIdentity (el : Nat) : Option Obj :=
  match el with
  | 1 => some { ty := tStr, acc := .ro, read := fun _ s => s.ident.partCode }
  | 2 => some (roNat tU8 fun s => s.ident.grade.toNat)
  | 3 => some (roNat tU8 fun s => s.ident.keyOption.toNat)
  | 4 => some (roNat tU8 fun s => s.ident.siliconStep.toNat)
  | _ => none

/-- The active period of an engine in s: N counts of the 40 MHz conversion clock (R58). -/
def periodF32 (s : State) (e : Eng) : F32 := (Q.mk (s.engine e).nActive 40000000).toF32

/-- The loop period and synchronisation objects, obj 0x0022 to 0x0024 (Table 2.4). -/
def objsPeriod (idx el : Nat) : Option Obj :=
  match idx with
  | 0x0022 => if el = 0 then none else (engOf (el - 1)).map objLoopN
  | 0x0023 => if el = 0 then none else (engOf (el - 1)).map fun e => roNat tF32 fun s => (periodF32 s e).toNat
  | 0x0024 => match el with
    | 1 => some (rwNat tU64 .rw (fun _ => true) (·.clk.syncTarget.toNat) fun v s => s.modClk fun c => { c with syncTarget := BitVec.ofNat 64 v })
    | 2 => some (rwNat tU8 .rw (fun v => decide (v ≤ 0x0F)) (·.clk.syncMask.toNat) fun v s =>
        s.modClk fun c => { c with syncMask := BitVec.ofNat 4 v })
    | 3 => some objSyncArm
    | 4 => some (roNat tBool fun s => bNat s.clk.syncArmed)
    | _ => none
  | _ => none

/-- The objects of a channel by the low byte of their index. -/
def objsChannel (n : Ch) (j el : Nat) : Option Obj :=
  if j < 0x08 then objsMode n j el
  else if j < 0x10 then objsSignal n j el
  else if j < 0x20 then objsMotion n j el
  else if j < 0x30 then objsOutput n j el
  else if j < 0x40 then objsSweep n j el
  else none

/-- The objects of Table 3.8 below the raw window, element 0x00 apart. -/
def objsAt (idx el : Nat) : Option Obj :=
  if idx = 0x0002 then objsIdentity el
  else if idx < 0x0022 then objsDevice idx el
  else if idx < 0x1000 then objsPeriod idx el
  else if idx < 0x1100 then objsRop idx el
  else if idx < 0x1200 then objsEth idx el
  else if idx < 0x1300 then objsRonko idx el
  else if idx = 0x1300 then objsMgp el
  else if idx < 0x2000 then objsFsp idx el
  else if idx < 0x2800 then (chOf ((idx - 0x2000) / 0x100)).bind fun n => objsChannel n (idx % 0x100) el
  else if idx < 0x3000 then none
  else if idx < 0x3400 then (engOf ((idx - 0x3000) / 0x100)).bind fun e => objsEngine e (idx % 0x100) el
  else if idx < 0x3480 then (chOf ((idx - 0x3400) / 0x10)).bind fun n => objsLac n (idx % 0x10) el
  else if idx = 0x3480 then objsEnv el
  else if idx < 0x4000 then none
  else if idx < 0x4800 then (chOf ((idx - 0x4000) / 0x100)).bind fun n => objsConv n (idx % 0x100) el
  else if idx < 0x5000 then objsAux idx el
  else if idx < 0x5200 then objsHamper idx el
  else if idx < 0x6000 then objsArb idx el
  else if idx < 0x7000 then objsBadger idx el
  else if idx < 0x8000 then objsTrust idx el
  else none

/-- The elements 0x01 to 0xFF of an index, highest first. -/
def elementsDown : List Nat := (List.range 255).map fun k => 255 - k

/-- The highest element of an index, none for an index that is not allocated. -/
def topElement (idx : Nat) : Option Nat := elementsDown.find? fun el => (objsAt idx el).isSome

/-- The object that a request names, or the code of steps 1 and 2 of Table 3.3 (R88 to R91). An index that Table 3.8 allocates
in a range but that no table gives an element counts as not allocated (DESIGN CHOICE, log entry 99). -/
def objAt (idx el : Nat) : Except Byte Obj :=
  if 0xC000 ≤ idx then .error eNoObject
  else if 0x8000 ≤ idx then
    let b := idx - 0x8000
    if blockAllocated b then
      match regAt .app (rawAddr b el) with
      | some r => .ok (rawObj b r (rawAddr b el))
      | none => .error eNoElement
    else .error eNoObject
  else match objsAt idx el with
    | some o => .ok o
    | none => match topElement idx with
      | none => .error eNoObject
      | some top => if el = 0 then .ok (roNat tU8 fun _ => top) else .error eNoElement

/-- A read through the window latches the high word of a 64-bit register as a read by the application core does (R90). -/
def afterObjRead (idx el : Nat) (s : State) : State :=
  if 0x8000 ≤ idx ∧ idx < 0xC000 then
    match regAt .app (rawAddr (idx - 0x8000) el) with
    | some r => afterRead r .app (rawAddr (idx - 0x8000) el) s
    | none => s
  else s

/-! ### Results -/

/-- The channel that an index belongs to where its objects are channel-scoped (R98, R183, R295, R338, R339, R373). -/
def channelOf (idx : Nat) : Option Ch :=
  if idx < 0x2000 then none
  else if idx < 0x2800 then chOf ((idx - 0x2000) / 0x100)
  else if idx < 0x3000 then none
  else if idx < 0x3400 then
    (engOf ((idx - 0x3000) / 0x100)).bind fun e =>
      if idx / 0x10 % 0x10 = 1 then some e.slot0 else if idx / 0x10 % 0x10 = 2 then some e.slot1 else none
  else if idx < 0x3480 then chOf ((idx - 0x3400) / 0x10)
  else if idx < 0x4000 then none
  else if idx < 0x4800 then chOf ((idx - 0x4000) / 0x100)
  else if idx < 0x7200 then none
  else if idx < 0x7208 then chOf (idx - 0x7200)
  else if idx < 0x8000 then none
  else match windowScope (idx - 0x8000) with
    | some (.chan n) => some n
    | _ => none

/-- The epoch a result carries: the channel's after the operation for a channel-scoped object, otherwise 0 (Table 3.5). -/
def resultEpoch (idx : Nat) (o : Obj) (w : W) (s : State) : W16 :=
  match channelOf idx with
  | some n => (s.chan n).lock.epoch
  | none => o.epochAfter w s

/-- The result of one operation: its code, type and data, and the epoch. -/
structure OpResult where
  code : Byte
  ty : Byte := 0
  data : List Byte := []
  epoch : W16 := 0
  deriving DecidableEq, Repr

/-! ### One read and one write -/

/-- One read (R94). -/
def readAt (who : Requester) (idx : W16) (el ty : Byte) (s : State) : State × OpResult :=
  match objAt idx.toNat el.toNat with
  | .error code => (s, { code := code, ty := ty })
  | .ok o =>
    let (code, data) := readObj o who ty s
    let epoch := resultEpoch idx.toNat o ⟨⟨who, .rop, none⟩, [], s, s, s⟩ s
    if code == eOk then (afterObjRead idx.toNat el.toNat s, { code := code, ty := o.ty, data := data, epoch := epoch })
    else (s, { code := code, ty := ty, epoch := epoch })

/-- One write of a transaction, outside a group (R97, R99). -/
def writeAt (g : StagedWrite) (s : State) : State × OpResult :=
  match objAt g.index.toNat g.element.toNat with
  | .error code => (s, { code := code, ty := g.ty })
  | .ok o =>
    let t := performOp o g.req g.ty g.data s
    (t, { code := t.answer.code, ty := t.answer.ty, epoch := resultEpoch g.index.toNat o ⟨g.req, g.data, s, t, s⟩ t })

/-- The block answers with a result. -/
def State.answered (s : State) (x : OpResult) : State := s.reply x.code x.ty x.epoch x.data

/-- ROP_READ: one read. -/
def execRopRead (r : Req) (idx : W16) (el ty : Byte) (s : State) : Host.Outcome State Fault Refusal :=
  let (s, x) := readAt r.who idx el ty s
  .next (s.answered x)

/-- ROP_WRITE: one write outside a group. -/
def execRopWrite (r : Req) (idx : W16) (el ty : Byte) (data : List Byte) (s : State) : Host.Outcome State Fault Refusal :=
  let (s, x) := writeAt ⟨r, idx, el, ty, data⟩ s
  .next ((s.countBusy r.path x.code).answered x)

/-! ### Groups (R107 to R111) -/

/-- One write of a group on a state in which the writes before it are applied; `s` is the state before the group. A write to
no object produces nothing. -/
def groupPut (s t : State) (g : StagedWrite) : State :=
  match objAt g.index.toNat g.element.toNat with
  | .ok o => o.put ⟨g.req, g.data, s, s, t⟩ t
  | .error _ => t

/-- A write of a channel's MODE, which acts after every other write of its group (R239). -/
def StagedWrite.isMode (g : StagedWrite) : Bool :=
  decide (0x2000 ≤ g.index.toNat) && decide (g.index.toNat < 0x2800) && g.index.toNat % 0x100 == 0 && g.element == 1

/-- The hardware sources of Table 11.1 with their role codes and the ring that each one's object names. -/
def ringSources : List (Nat × (State → Nat)) :=
  (allCh.flatMap fun n =>
    [(roleList n, fun s => (s.chan n).sweep.listRing), (roleStream n, fun s => (s.chan n).stream.ring),
     (roleResult n, fun s => (s.chan n).sweep.resultRing), (roleCapture n, fun s => (s.chan n).cap.ring),
     (roleTune n, fun s => (s.chan n).tune.ring)]) ++
    [(roleAux, (·.aux.shadow.ring)), (roleMacTx, (·.eth.txRing)), (roleMacRx, (·.eth.rxRing))]

/-- Every source that a group binds takes its side of the ring, also of one that another write of the group let go after it
(R109, R428). -/
def settleSides (s t : State) : State :=
  ringSources.foldl (fun t x => if x.2 t = x.2 s then t else takeSide t x.1 (x.2 t)) t

/-- The writes of a group but those of MODE, in their order, on a state. -/
def groupOthers (gs : List StagedWrite) (s : State) : State := (gs.filter fun g => !g.isMode).foldl (groupPut s) s

/-- The state that the writes of a group would produce together, those of MODE last (R109, R239). -/
def groupPost (gs : List StagedWrite) (s : State) : State :=
  settleSides s ((gs.filter (·.isMode)).foldl (groupPut s) (groupOthers gs s))

/-- Each write of a group with the state in which it acts: the one that the writes before it leave, for a write of MODE all
others among them; `t` and `m` are the states that the next other write and the next write of MODE find. -/
def groupSteps (s : State) : State → State → List StagedWrite → List (StagedWrite × State)
  | _, _, [] => []
  | t, m, g :: gs =>
    if g.isMode then (g, m) :: groupSteps s t (groupPut s m g) gs else (g, t) :: groupSteps s (groupPut s t g) m gs

/-- The writes of a group, each with the state in which it acts. -/
def groupParts (gs : List StagedWrite) (s : State) : List (StagedWrite × State) := groupSteps s s (groupOthers gs s) gs

/-- The verdict on one write of a group: settings are checked with the values that the whole group would produce, commands in
the state in which they would act (R109). -/
def groupCode (post s : State) (x : StagedWrite × State) : Byte :=
  match objAt x.1.index.toNat x.1.element.toNat with
  | .error code => code
  | .ok o => o.verdict x.1.ty ⟨x.1.req, x.1.data, s, post, x.2⟩

/-- What the first refused write of a group leaves behind. -/
def groupRefused (post : State) (x : StagedWrite × State) (code : Byte) (s : State) : State :=
  match objAt x.1.index.toNat x.1.element.toNat with
  | .error _ => s
  | .ok o => o.onRefuse ⟨x.1.req, x.1.data, s, post, x.2⟩ code s

/-- The result of one write of a group: of an applied one the code its action reports, of a refused one the code given. -/
def groupResult (s t : State) (refused : Option Byte) (x : StagedWrite × State) : OpResult :=
  let g := x.1
  match objAt g.index.toNat g.element.toNat with
  | .error code => { code := refused.getD code, ty := g.ty }
  | .ok o =>
    let w : W := ⟨g.req, g.data, s, t, x.2⟩
    { code := refused.getD (o.after w), ty := if refused.isNone then o.ty else g.ty, epoch := resultEpoch g.index.toNat o w t }

/-- A group checked as a whole and then applied in order or not at all (R107 to R109): the state after, the position of the
first write that failed, if one did, and the result of each write. -/
def runGroup (gs : List StagedWrite) (s : State) : State × Option Nat × List OpResult :=
  let post := groupPost gs s
  let xs := groupParts gs s
  match xs.findIdx? (fun x => groupCode post s x != eOk) with
  | none => (post, none, xs.map (groupResult s post none))
  | some k =>
    let code := ((xs[k]?).map (groupCode post s)).getD eInternal
    let t := ((xs[k]?).map fun x => groupRefused post x code s).getD s
    (t, some k, xs.zipIdx.map fun (x, i) => groupResult t t (some (if i = k then code else eGroup)) x)

end Sys2Proof.Machine
end

