-- ==== Sys2Proof/Machine/Mailbox.lean ====
section
/-! DEFINITION. The TSF mailbox and the session requests of application firmware (R150 to R154, Table 4.10), and the accesses of
the bus masters to the register space (R69 to R75, R145, R146). -/

namespace Sys2Proof.Machine

/-! ### The mailbox -/

/-- The requester, path and epoch that the mailbox names (R154). -/
def Mailbox.req (m : Mailbox) : Req :=
  let session : W16 := m.len.extractLsb' 0 16
  { who := if m.auth.getLsbD 17 then .loc else if session == 0 then .sessionless false else .host session
    path := .mbx
    epoch := if m.auth.getLsbD 16 then some (m.auth.extractLsb' 0 16) else none }

/-- LENGTH and LONG. -/
def Mailbox.length (m : Mailbox) : Nat := (m.len.extractLsb' 16 7).toNat
def Mailbox.isLong (m : Mailbox) : Bool := m.len.getLsbD 23

/-- The bytes of MBX_DATA, the first at the lowest address (R150). -/
def Mailbox.bytes (m : Mailbox) : List Byte := m.data.toList.flatMap fun w => (natBytes 4 w.toNat).reverse

/-- The write that the mailbox names. -/
def Mailbox.named (m : Mailbox) : StagedWrite :=
  { req := m.req, index := m.obj.extractLsb' 0 16, element := m.obj.extractLsb' 16 8, ty := m.obj.extractLsb' 24 8
    data := if m.isLong then m.long else m.bytes.take m.length }

/-- The write that the mailbox asks for; none where LENGTH is above 64. -/
def Mailbox.request (m : Mailbox) : Option StagedWrite :=
  if !m.isLong && decide (64 < m.length) then none else some m.named

/-- The epoch after the request of the channel that a write names (R153). -/
def stagedEpoch (s : State) (g : StagedWrite) : W16 :=
  match objAt g.index.toNat g.element.toNat with
  | .error _ => 0
  | .ok o => resultEpoch g.index.toNat o ⟨g.req, g.data, s, s, s⟩ s

/-- MBX_RESULT. -/
def mbxResult (s : State) (code : Byte) (pos : Nat) (epoch : W16) : State :=
  s.modMbx fun m => { m with resultCode := code, resultPos := BitVec.ofNat 6 pos, resultEpoch := epoch }

/-- CMD = WRITE: one write is checked and applied (R151). -/
def mbxWrite (s : State) : State :=
  let m := s.trust.mbx
  let s := s.modMbx fun m => { m with long := [] }
  match m.request with
  | none => mbxResult s eRange 0 (stagedEpoch s m.named)
  | some g =>
    let (s, x) := writeAt g s
    mbxResult s x.code 0 x.epoch

/-- The form of a write: its index, its element, that its class permits writing, and its type and length (steps 1 to 4 of
Table 3.3). -/
def formCode (s : State) (g : StagedWrite) : Byte :=
  match objAt g.index.toNat g.element.toNat with
  | .error code => code
  | .ok o =>
    let w : W := ⟨g.req, g.data, s, s, s⟩
    firstCode [o.accessCode w, o.typeCode g.ty w]

/-- CMD = STAGE: the form of one write is checked, and it joins the staged group (R151, R152). -/
def mbxStage (s : State) : State :=
  let m := s.trust.mbx
  let s := s.modMbx fun m => { m with long := [] }
  if 32 ≤ m.staged.length then mbxResult s eGroup 0 (stagedEpoch s m.named)
  else match m.request with
    | none => mbxResult s eRange 0 (stagedEpoch s m.named)
    | some g =>
      let code := formCode s g
      let held := (m.staged.map fun x => x.data.length).sum + g.data.length
      if code != eOk then mbxResult s code 0 (stagedEpoch s g)
      else if 2048 < held then mbxResult s eGroup 0 (stagedEpoch s g)
      else mbxResult (s.modMbx fun m => { m with staged := m.staged ++ [g] }) eOk 0 (stagedEpoch s g)

/-- CMD = COMMIT: the whole staged group is checked under R109 and applied or not (R151). An action that fails while it runs
reports its code and its position. -/
def mbxCommit (s : State) : State :=
  let gs := s.trust.mbx.staged
  if gs.isEmpty then mbxResult s eGroup 0 0
  else
    let (s, _, results) := runGroup gs (s.modMbx fun m => { m with staged := [] })
    match results.findIdx? fun x => x.code != eOk && x.code != eGroup with
    | some k => mbxResult s ((results[k]?).map (·.code) |>.getD eInternal) k ((results[k]?).map (·.epoch) |>.getD 0)
    | none => mbxResult s eOk 0 ((results.getLast?).map (·.epoch) |>.getD 0)

/-- CMD = ABORT: the staged group and the long-value buffer are discarded (R151, R152). -/
def mbxAbort (s : State) : State := mbxResult (s.modMbx fun m => { m with staged := [], long := [] }) eOk 0 0

/-- CMD = APPEND: LENGTH bytes of MBX_DATA join the long-value buffer (R152). -/
def mbxAppend (s : State) : State :=
  let m := s.trust.mbx
  if 64 < m.length then mbxResult s eRange 0 0
  else if 1024 < m.long.length + m.length then mbxResult (s.modMbx fun m => { m with long := [] }) eRange 0 0
  else mbxResult (s.modMbx fun m => { m with long := m.long ++ m.bytes.take m.length }) eOk 0 0

/-- A write of CMD: 0, 6 and 7 are ignored (Table 4.10). -/
def mbxCommand (cmd : Nat) (s : State) : State :=
  let run := fun (f : State → State) => f (s.modMbx fun m => { m with cmd := BitVec.ofNat 3 cmd })
  match cmd with
  | 1 => run mbxWrite
  | 2 => run mbxStage
  | 3 => run mbxCommit
  | 4 => run mbxAbort
  | 5 => run mbxAppend
  | _ => s

/-- MBX_WRITE. -/
def execMbxWrite (s : State) : Host.Outcome State Fault Refusal := .next (mbxCommand 1 s)

/-- MBX_STAGE. -/
def execMbxStage (s : State) : Host.Outcome State Fault Refusal := .next (mbxCommand 2 s)

/-- MBX_COMMIT. -/
def execMbxCommit (s : State) : Host.Outcome State Fault Refusal := .next (mbxCommand 3 s)

/-- MBX_ABORT. -/
def execMbxAbort (s : State) : Host.Outcome State Fault Refusal := .next (mbxCommand 4 s)

/-- MBX_APPEND. -/
def execMbxAppend (s : State) : Host.Outcome State Fault Refusal := .next (mbxCommand 5 s)

/-! ### Session requests (R114 to R117) -/

/-- SESS_RESULT. -/
def sessResult (s : State) (code : Byte) (id : W16) : State := s.modMbx fun m => { m with sessCode := code, sessNew := id }

/-- A write of SESS_CMD: OPEN with SESS_ARG and SESS_PEER in the layout of SESSION_PEER, or TOUCH or CLOSE of a session
(Table 4.10). -/
def sessCommand (op : Nat) (sid : W16) (s : State) : State :=
  let s := s.modMbx fun m => { m with sessOp := BitVec.ofNat 2 op, sessId := sid }
  let m := s.trust.mbx
  match op with
  | 1 =>
    let entry : W16 := (m.peerHi.extractLsb' 16 12).setWidth 16
    let entry := if s.ronko.node.id.getD 0 == entry then ownEntry else entry
    let ip : Word := m.peerHi.extractLsb' 0 16 ++ m.peerLo.extractLsb' 16 16
    let (s, code, id, _) := openSession s ip (m.peerLo.extractLsb' 0 16) entry m.sessArg.toNat
    sessResult s code id
  | 2 => sessResult (touchSession s sid) (sessionCode s sid) 0
  | 3 => sessResult (closeSession s sid) (sessionCode s sid) 0
  | _ => s

/-- SESS_CMD_OPEN. -/
def execSessCmdOpen (s : State) : Host.Outcome State Fault Refusal := .next (sessCommand 1 s.trust.mbx.sessId s)

/-- SESS_CMD_TOUCH. -/
def execSessCmdTouch (sid : W16) (s : State) : Host.Outcome State Fault Refusal := .next (sessCommand 2 sid s)

/-- SESS_CMD_CLOSE. -/
def execSessCmdClose (sid : W16) (s : State) : Host.Outcome State Fault Refusal := .next (sessCommand 3 sid s)

/-! ### Bus accesses -/

/-- The addresses of MBX_CTRL and SESS_CMD. -/
def addrMbxCtrl : Nat := 0x40000C10
def addrSessCmd : Nat := 0x40000C80

/-- A write of a register by a bus master, with what a request register sets off (R150). -/
def busWrite (r : Reg) (m : Master) (addr : Nat) (w : Word) (s : State) : State :=
  if addr = addrMbxCtrl then (if m == .app then mbxCommand (w.toNat % 8) s else writeReg r m addr w s)
  else if addr = addrSessCmd then
    (if m == .app then sessCommand (w.toNat % 4) (w.extractLsb' 16 16) s else writeReg r m addr w s)
  else writeReg r m addr w s

/-- REG64_LOW_READ: the low word of a 64-bit register is read and its high word latched; another register is only read. -/
def execReg64LowRead (m : Master) (addr : Nat) (s : State) : Host.Outcome State Fault Refusal :=
  match busRegAt m addr with
  | none => .fault .noRegister
  | some r => .next ((afterRead r m addr s).reply eOk tU32 0 (natBytes 4 (readWord r m addr s).toNat))

/-- REG64_LOW_WRITE: the low word's write commits both halves. -/
def execReg64LowWrite (m : Master) (addr : Nat) (w : Word) (s : State) : Host.Outcome State Fault Refusal :=
  match busRegAt m addr with
  | none => .fault .noRegister
  | some r => .next (busWrite r m addr w s)

/-- A write of the application core into the window of R161, as wide as XIP_SIZE counts (log 3). -/
def xipWrite (m : Master) (addr : Nat) : Bool := m == .app && decide (0x20000000 ≤ addr) && decide (addr < 0x20200000)

/-- REGISTER_WRITE; a write into the execute-in-place window raises a store access fault and changes nothing (R546). -/
def execRegisterWrite (m : Master) (addr : Nat) (w : Word) (s : State) : Host.Outcome State Fault Refusal :=
  match busRegAt m addr with
  | none => if xipWrite m addr then .next (s.send (.storeFault (BitVec.ofNat 32 addr))) else .fault .noRegister
  | some r => .next (busWrite r m addr w s)

/-- A write that finds an event in its cycle: the written value, then the increment, and COLLIDE (R74). -/
def Counter.collided (c : Counter) : Counter := { c.inc with collide := true }

/-- COUNTER_WRITE: `event` says that an event of the counter arrives in the same cycle. -/
def execCounterWrite (m : Master) (addr : Nat) (w : Word) (event : Bool) (s : State) : Host.Outcome State Fault Refusal :=
  match busRegAt m addr with
  | none => .fault .noRegister
  | some r =>
    let t := busWrite r m addr w s
    .next (match r.counter with
      | some h => if !event then t else if r.barred m then h.set Counter.inc t else h.set Counter.collided t
      | none => t)

/-- STATUS_W1C: `wrapNow` and `collideNow` say that a wrap or a collision arrives in the same cycle, so that its bit stays
set (R75). -/
def execStatusW1c (m : Master) (addr : Nat) (w : Word) (wrapNow collideNow : Bool) (s : State) :
    Host.Outcome State Fault Refusal :=
  match busRegAt m addr with
  | none => .fault .noRegister
  | some r =>
    let t := busWrite r m addr w s
    .next (match r.status with
      | some h => h.set (fun c => { c with wrap := c.wrap || wrapNow, collide := c.collide || collideNow }) t
      | none => t)

end Sys2Proof.Machine
end

