-- ==== Sys2Proof/Machine/Mgp.lean ====
section
/-! DEFINITION. The management port (R557 to R580): frames and their status byte and held reply, the requests that the TSF
executes, flash-access frames, and streaming. -/

namespace Sys2Proof.Machine

/-! ### Requests (R559, R560) -/

/-- TYPE of a request (Table 14.9). -/
def mType (hdr : Byte) : Nat := hdr.toNat % 16
def tPoll : Nat := 0
def tRead : Nat := 1
def tWrite : Nat := 2
def tStream : Nat := 3
def tFlashRead : Nat := 4
def tFlashWrite : Nat := 5
def tFlashErase : Nat := 6

/-- The greatest LEN of a long request (Table 14.10). -/
def lenTop (ty : Nat) : Nat := if ty = tWrite then 512 else if ty = tFlashWrite then 256 else 0

/-- The bytes of the request in a frame without its CRC; none where the frame is bad (R560). -/
def goodRequest (b : List Byte) : Option (List Byte) :=
  let ty := mType (b.headD 0)
  let size := if ty = tPoll ∨ ty = tStream then 1 else 12 + beNat (slice b 8 2)
  if b.isEmpty || decide (6 < ty) || (size != 1 && (decide (b.length < 14) || decide (lenTop ty < beNat (slice b 8 2))))
      || decide (b.length < size + 2) || slice b size 2 != natBytes 2 (crc16 (b.take size)).toNat then none
  else some (b.take size)

/-- A reserved byte or bit of a long request is not 0 (Table 14.10). -/
def reservedSet (b : List Byte) : Bool :=
  let ty := mType (b.headD 0)
  let flags := beNat (slice b 1 1)
  beNat (slice b 10 2) != 0
    || (if ty = tRead ∨ ty = tWrite then decide (1 < flags) else flags != 0 || (ty != tFlashRead && beNat (slice b 6 2) != 0))

/-! ### Streaming (R574 to R576) -/

/-- The 8 bytes of an item (Table 14.14). -/
def itemBytes (x : StreamWord) (under : Bool) (seq : Byte) : List Byte :=
  let body := [BitVec.ofNat 8 (128 * bNat under + 64 * bNat x.first + 32 * bNat x.mark + 16 * bNat x.loss + x.index % 8), seq]
    ++ natBytes 4 x.word.toNat
  body ++ natBytes 2 (crc16 body).toNat

/-- One whole item: the oldest word, which is then removed, or an underrun. -/
def streamItem (s : State) : State :=
  match s.mgp.buffer with
  | x :: rest =>
    let seq := s.mgp.seq + 1
    (s.modMgp fun m => { m with buffer := rest, seq := seq, prev := x }).send (.mgp (itemBytes x false seq))
  | [] => (s.modMgp fun m => { m with underruns := m.underruns.inc }).send (.mgp (itemBytes s.mgp.prev true s.mgp.seq))

/-- A number of items in a row. -/
def streamItems : Nat → State → State
  | 0, s => s
  | k + 1, s => streamItems k (streamItem s)

/-- The last bytes of a streaming frame, less than an item: its word stays, and an item without one is an underrun all the
same (R576). -/
def cutItem (s : State) (k : Nat) : State :=
  if k = 0 then s
  else match s.mgp.buffer with
    | x :: _ => s.send (.mgp ((itemBytes x false (s.mgp.seq + 1)).take k))
    | [] => (s.modMgp fun m => { m with underruns := m.underruns.inc }).send
        (.mgp ((itemBytes s.mgp.prev true s.mgp.seq).take k))

/-- What a streaming frame of `k` bytes carries behind its status byte: 0xFF twice, then items to its end (R575). -/
def streamFrame (s : State) (k : Nat) : State :=
  cutItem (streamItems ((k - 3) / 8) (s.send (.mgp (List.replicate (Nat.min 2 (k - 1)) 0xFF)))) ((k - 3) % 8)

/-- The items of a streaming frame of `k` bytes behind those that MGP_STREAM has carried, to its end (R575, R576). -/
def streamRest (s : State) (k : Nat) : State :=
  if k < 3 + 8 * s.mgp.items then s else cutItem (streamItems ((k - 3) / 8 - s.mgp.items) s) ((k - 3) % 8)

/-! ### Frames (R558, R562 to R568) -/

/-- The bytes on MDO after the status byte, CRC included, in a frame that is no streaming frame (Table 14.12). -/
def replyBytes (s : State) : List Byte :=
  let m := s.mgp
  let r : Reply :=
    if m.status.getLsbD 7 then m.held
    else { rhdr := ((m.executing.map fun b => b.headD 0)).getD m.held.rhdr, code := eBusy }
  let body := [r.rhdr, r.code, r.dtype] ++ natBytes 2 r.epoch.toNat ++ natBytes 2 r.data.length ++ r.data
  body ++ natBytes 2 (crc16 (m.status :: body)).toNat

/-- `k` bytes of a reply, with 0xFF after its CRC. -/
def clocked (bytes : List Byte) (k : Nat) : List Byte := (bytes ++ List.replicate k 0xFF).take k

/-- MCS_n falls: the status byte is formed and BAD is told (R562). -/
def frameStart (s : State) : State :=
  let status := statusByte s
  (s.modMgp fun m => { m with inFrame := true, streaming := false, items := 0, status := status, bad := false }).send (.mgp [status])

/-- MGP_FRAME_START. -/
def execMgpFrameStart (s : State) : Host.Outcome State Fault Refusal :=
  .next (if s.power.aonHeld || s.mgp.inFrame then s else frameStart s)

/-- A bad frame is counted, and more than 16 within 250 ms revoke MGMT (R192, R568). -/
def badRequest (s : State) : State :=
  let s := s.modMgp fun m => { m with badFrames := m.badFrames.inc, bad := true, badTimes := (s.now :: m.badTimes).take 17 }
  match s.mgp.badTimes[16]? with
  | some t => if s.now ≤ t + msec 250 then mgmtRevoke s else s
  | none => s

/-- The alive counter of a good frame (R568). -/
def takeAlive (s : State) (alive : BitVec 4) : State :=
  s.modMgp fun m =>
    { m with alive := alive, aliveSeen := true, aliveAt := if m.aliveSeen && m.alive != alive then some s.now else m.aliveAt }

/-- A good long request is a repeat, ignored as busy, or new (R564). A reserved bit that is set answers E_RANGE (R560). -/
def takeLong (s : State) (b : List Byte) : State :=
  let hdr := b.headD 0
  let alive : BitVec 4 := hdr.extractLsb' 4 4
  s.modMgp fun m =>
    if alive == m.held.rhdr.extractLsb' 4 4 then { m with repeats := m.repeats.inc }
    else if m.executing.isSome then { m with busyIgnored := m.busyIgnored.inc }
    else { m with executing := some b, programmed := false, staged := if reservedSet b then some { rhdr := hdr, code := eRange } else none }

/-- The frame carried the whole reply to a DEVICE_RESET with READY set (R567). -/
def carriesReset (s : State) (hdr : Byte) (k : Nat) : Bool :=
  s.dev.resetPending && s.mgp.status.getLsbD 7 && mType hdr != tStream && decide (1 + (replyBytes s).length ≤ k)

/-- What MDO carries behind the status byte of a frame: the held reply, or in a streaming frame items where its request is
good and 0xFF where it is bad; behind items that MGP_STREAM has carried follow the rest (R563, R575). -/
def frameData (b : List Byte) (s : State) : State :=
  if s.mgp.streaming then if (goodRequest b).isSome then streamRest s b.length else s
  else if mType (b.headD 0) != tStream then s.send (.mgp (clocked (replyBytes s) (b.length - 1)))
  else if (goodRequest b).isSome then streamFrame s b.length
  else s.send (.mgp (clocked [] (b.length - 1)))

/-- MCS_n rises after the bytes of a frame (R558, R564). -/
def frameEnd (b : List Byte) (s : State) : State :=
  let hdr := b.headD 0
  let reset := carriesReset s hdr b.length
  let s := frameData b s
  let s := s.modMgp fun m => { m with inFrame := false, streaming := false, frames := m.frames.inc }
  let s := match goodRequest b with
    | none => badRequest s
    | some q =>
      let s := takeAlive s (hdr.extractLsb' 4 4)
      if mType hdr = tPoll ∨ mType hdr = tStream then s else takeLong s q
  if reset then deviceReset s else s

/-- MGP_FRAME_END. -/
def execMgpFrameEnd (bytes : List Byte) (s : State) : Host.Outcome State Fault Refusal :=
  .next (if s.mgp.inFrame then frameEnd bytes s else s)

/-- MGP_POLL: a POLL request, clocked on until the held reply is whole; it begins a frame where none is in progress. -/
def execMgpPoll (alive : BitVec 4) (s : State) : Host.Outcome State Fault Refusal :=
  if s.power.aonHeld then .next s
  else
    let s := if s.mgp.inFrame then s else frameStart s
    let hdr : Byte := alive ++ (0 : BitVec 4)
    let b := [hdr] ++ natBytes 2 (crc16 [hdr]).toNat
    .next (frameEnd (b ++ List.replicate ((replyBytes s).length - 2) 0xFF) s)

/-- MGP_REPLY_COMPLETE: the reply of the request that the TSF executes becomes the held reply (R564, R566). -/
def execMgpReplyComplete (s : State) : Host.Outcome State Fault Refusal :=
  .next (match s.mgp.executing, s.mgp.staged with
    | some _, some r => if s.savesFor then s else s.modMgp fun m => { m with held := r, executing := none, staged := none }
    | _, _ => s)

/-! ### Object requests (R569 to R571) -/

/-- The request of a TYPE that the TSF is to execute, where its fields are those given: its header byte. -/
def State.toDo (s : State) (ty : Nat) (fields : List Byte → Bool) : Option Byte :=
  match s.mgp.executing, s.mgp.staged with
  | some b, none => if mType (b.headD 0) = ty && fields b then some (b.headD 0) else none
  | _, _ => none

/-- The fields of an object frame (Table 14.10): INDEX, ELEMENT and DTYPE, then the epoch and the data of a WRITE. -/
def readFields (idx : W16) (el dtype : Byte) (b : List Byte) : Bool := slice b 2 4 == natBytes 2 idx.toNat ++ [el, dtype]

def writeFields (idx : W16) (el dtype : Byte) (epoch : Option W16) (data b : List Byte) : Bool :=
  readFields idx el dtype b && (slice b 1 1 == [if epoch.isSome then 1 else 0])
    && (epoch.isNone || slice b 6 2 == natBytes 2 (epoch.getD 0).toNat) && b.drop 12 == data

/-- The fields of a flash frame: OFFSET, the byte count of a read, and the data of a write. -/
def flashFields (offset : Word) (count : W16) (data b : List Byte) : Bool :=
  slice b 2 6 == natBytes 4 offset.toNat ++ natBytes 2 count.toNat && b.drop 12 == data

/-- A request has been executed and its reply stands ready; one answered with E_OK is an instructor command (R179). -/
def stageReply (s : State) (r : Reply) : State :=
  State.modMgp (s.instructorCommand .mgp r.code) fun m => { m with staged := some r }

/-- An index that the MGP serves while the always-on domain runs, in every device state (R570). -/
def mgpAlways (idx : Nat) : Bool :=
  idx == 0x0002 || within 0x0010 0x0013 idx || idx == 0x0020 || idx == 0x1300 || within 0x7000 0x72FF idx

/-- What R570 says of an index before the checks of R97. -/
def mgpReach (s : State) (idx el : Nat) : Byte :=
  if mgpAlways idx then eOk
  else match objAt idx el with
    | .error code =>
      if code == eNoObject then code
      else if s.dev.state == .reset then eState
      else if within 0x1000 0x11FF idx && idx != 0x1001 then eNoObject
      else code
    | .ok _ =>
      if s.dev.state == .reset then eState
      else if within 0x1000 0x11FF idx && idx != 0x1001 then eNoObject
      else eOk

/-- MGP_READ (R569 to R571). -/
def execMgpRead (idx : W16) (el dtype : Byte) (s : State) : Host.Outcome State Fault Refusal :=
  match s.toDo tRead (readFields idx el dtype) with
  | none => .next s
  | some hdr =>
    let code := mgpReach s idx.toNat el.toNat
    if code != eOk then .next (stageReply s { rhdr := hdr, code := code })
    else
      let (s, x) := readAt .mgmt idx el dtype s
      if x.code == eOk && decide (512 < x.data.length) then .next (stageReply s { rhdr := hdr, code := eRange, epoch := x.epoch })
      else .next (stageReply s
        { rhdr := hdr, code := x.code, dtype := if x.code == eOk then x.ty else 0, epoch := x.epoch, data := x.data })

/-- MGP_WRITE (R569 to R571). -/
def execMgpWrite (idx : W16) (el dtype : Byte) (epoch : Option W16) (data : List Byte) (s : State) :
    Host.Outcome State Fault Refusal :=
  match s.toDo tWrite (writeFields idx el dtype epoch data) with
  | none => .next s
  | some hdr =>
    let code := mgpReach s idx.toNat el.toNat
    if code != eOk then .next (stageReply s { rhdr := hdr, code := code })
    else if 512 < data.length then .next (stageReply s { rhdr := hdr, code := eRange })
    else
      let (s, x) := writeAt ⟨⟨.mgmt, .mgp, epoch⟩, idx, el, dtype, data⟩ s
      .next (stageReply s { rhdr := hdr, code := x.code, epoch := x.epoch })

/-! ### Flash-access frames (R572, R573) -/

/-- Two spans of offsets share a byte. -/
def spansMeet (a k b m : Nat) : Bool := decide (a < b + m) && decide (b < a + k)

/-- The checks of R572 on an access of `k` bytes at an offset; `alters` marks a program or an erase, and `form` its own
condition. -/
def flashCode (s : State) (off k : Nat) (alters form : Bool) : Byte :=
  if s.trust.instr.state != .unlocked then eInstructor
  else if s.dev.state == .reset then eState
  else if decide (2 ^ s.fsp.flashLog < off + k) || !form || (alters && spansMeet off k 0x200000 0x1000) then eRange
  else if alters && s.running && decide (s.trust.image.active.toNat ≤ 1)
      && spansMeet off k (0x100000 * s.trust.image.active.toNat) 0x100000 then eState
  else if s.fsp.master != .master then eBusy
  else eOk

/-- The address bytes of the TSF's accesses. -/
def flashAddr (s : State) (off : Nat) : List Byte := natBytes (if s.xip.addr4 then 4 else 3) off

/-- A read of the flash by the TSF, behind the exit sequence: the full sequence with the mode byte 0xFF (Table 14.6; log entry 85). -/
def flashRead (s : State) (off k : Nat) : State :=
  let s := sendExit s
  s.fss0 ([s.xip.cmd] ++ flashAddr s off ++ [0xFF]) s.xip.dummy.toNat k

/-- MGP_FLASH_READ: `data` is what the flash holds. -/
def execMgpFlashRead (offset : Word) (count : W16) (data : List Byte) (s : State) : Host.Outcome State Fault Refusal :=
  match s.toDo tFlashRead (flashFields offset count []) with
  | none => .next s
  | some hdr =>
    let code := flashCode s offset.toNat count.toNat false (within 1 512 count.toNat)
    if code != eOk then .next (stageReply s { rhdr := hdr, code := code })
    else if !s.supMay then .next s
    else .next (stageReply (flashRead s offset.toNat count.toNat) { rhdr := hdr, data := (data ++ List.replicate count.toNat 0xFF).take count.toNat })

/-- A program or erase by the TSF: write enable, then the command with its offset and data; BUSY_PEND is set, and the prefetch
lines are invalid (R551, R553, R572). The opcodes are those of Table 14.7 for the address bytes in use (log entry 85). -/
def flashAltered (s : State) (op3 op4 : Byte) (off : Nat) (data : List Byte) : State :=
  let s := sendExit s
  ((s.flashWritten.fss0 [0x06] 0 0).fss0 ([if s.xip.addr4 then op4 else op3] ++ flashAddr s off ++ data) 0 0)

/-- MGP_FLASH_WRITE: the page is programmed; once the flash has been polled, the same command reads it back, and `readBackEqual`
says whether it reads as written. -/
def execMgpFlashWrite (offset : Word) (data : List Byte) (readBackEqual : Bool) (s : State) : Host.Outcome State Fault Refusal :=
  match s.toDo tFlashWrite (flashFields offset 0 data) with
  | none => .next s
  | some hdr =>
    let k := data.length
    let code := flashCode s offset.toNat k true (within 1 256 k && decide (offset.toNat % 256 + k ≤ 256))
    if code != eOk && !s.mgp.programmed then .next (stageReply s { rhdr := hdr, code := code })
    else if !s.supMay then .next s
    else if s.mgp.programmed then
      .next (stageReply ((flashRead s offset.toNat k).modMgp fun m => { m with programmed := false })
        { rhdr := hdr, code := if readBackEqual then eOk else eCrc })
    else .next ((flashAltered s 0x02 0x12 offset.toNat data).modMgp fun m => { m with programmed := true })

/-- MGP_FLASH_ERASE. -/
def execMgpFlashErase (offset : Word) (s : State) : Host.Outcome State Fault Refusal :=
  match s.toDo tFlashErase (flashFields offset 0 []) with
  | none => .next s
  | some hdr =>
    let code := flashCode s offset.toNat 4096 true (offset.toNat % 4096 == 0)
    if code != eOk then .next (stageReply s { rhdr := hdr, code := code })
    else if !s.supMay then .next s
    else .next (stageReply (flashAltered s 0x20 0x21 offset.toNat []) { rhdr := hdr })

/-! ### Streaming frames (R575) -/

/-- MGP_STREAM: whole items of a streaming frame with a good request; it begins a frame where none is in progress. -/
def execMgpStream (items : Nat) (s : State) : Host.Outcome State Fault Refusal :=
  if s.power.aonHeld then .next s
  else
    let s := if s.mgp.inFrame then s else frameStart s
    let s := if s.mgp.streaming then s else (s.modMgp fun m => { m with streaming := true }).send (.mgp [0xFF, 0xFF])
    .next (streamItems items (s.modMgp fun m => { m with items := m.items + items }))

end Sys2Proof.Machine
end

