-- ==== Sys2Proof/Machine/Rop.lean ====
section
/-! DEFINITION. The ROP server and the entry unit (R100 to R134, R138): the datagram on the wire, its checks as a whole, sessions
and sequence numbers, admission, the execution of a transaction, forwarding to another unit, and event datagrams. -/

namespace Sys2Proof.Machine

/-! ### The datagram (Tables 3.4 to 3.6) -/

/-- An operation record of a request (Table 3.5). -/
structure Op where
  op : Byte
  ty : Byte
  index : W16
  element : Byte
  flags : Byte
  epoch : W16
  data : List Byte
  deriving DecidableEq, Repr

/-- A request datagram (Table 3.4). -/
structure Request where
  flags : Byte
  session : W16
  seq : W16
  dest : W16
  timeout : W16
  ops : List Op
  deriving DecidableEq, Repr

def w16At (b : List Byte) (i : Nat) : W16 := BitVec.ofNat 16 (beNat (slice b i 2))
def byteAt (b : List Byte) (i : Nat) : Byte := BitVec.ofNat 8 (beNat (slice b i 1))

/-- `k` operation records that fill a list of bytes exactly. -/
def parseOps : Nat → List Byte → Option (List Op)
  | 0, b => if b.isEmpty then some [] else none
  | k + 1, b =>
    let len := beNat (slice b 8 2)
    if b.length < 10 + len then none
    else (parseOps k (b.drop (10 + len))).map fun rest =>
      { op := byteAt b 0, ty := byteAt b 1, index := w16At b 2, element := byteAt b 4, flags := byteAt b 5, epoch := w16At b 6
        data := slice b 10 len } :: rest

/-- FLAGS. -/
def fResp : Byte := 0x80
def fEvt : Byte := 0x40
def fGroup : Byte := 0x20
def fTun : Byte := 0x10

/-- A request, or none where R104 drops it; `mask` holds the FLAGS bits that it may not carry. STATUS and RETRY_AFTER of a request
are not looked at: no rule rejects one for them (DESIGN CHOICE, log entry 100). -/
def parseRequest (b : List Byte) (mask : Byte) : Option Request :=
  let flags := byteAt b 3
  let count := beNat (slice b 12 1)
  if b.length < 16 || decide (1472 < b.length) || slice b 0 3 != [0x52, 0x50, 0x01] || flags &&& mask != 0 || count == 0 then none
  else (parseOps count (b.drop 16)).map fun ops =>
    { flags := flags, session := w16At b 4, seq := w16At b 6, dest := w16At b 8, timeout := w16At b 10, ops := ops }

/-- What Ethernet may not carry: RESP, EVT, TUN and the reserved bits; a tunnelled request may carry TUN. -/
def maskEthernet : Byte := 0xDF
def maskTunnel : Byte := 0xCF

def opRead : Byte := 0x01
def opWrite : Byte := 0x02
def opReadRing : Byte := 0x03
def opWriteRing : Byte := 0x04
def opOpen : Byte := 0x10
def opClose : Byte := 0x11
def opKeep : Byte := 0x12

def opLegal (op : Byte) : Bool := [opRead, opWrite, opReadRing, opWriteRing, opOpen, opClose, opKeep].contains op

def destLegal (d : W16) : Bool := decide (d.toNat ≤ 0xFFF) || d == 0xFFFF

/-- The checks of R105 that need no unit's state, and COUNT against Table 3.4. -/
def Request.legal (q : Request) : Bool :=
  decide (q.ops.length ≤ 64) && destLegal q.dest && q.ops.all fun o => opLegal o.op && o.flags &&& 0xFE == 0

/-- The data an operation could answer with at most (R105). -/
def Op.largest (s : State) (o : Op) : Nat :=
  if o.op == opRead then
    match objAt o.index.toNat o.element.toNat with
    | .ok x => match typeSize x.ty with
      | some k => k
      | none => if x.ty == tStr then 255 else x.max
    | .error _ => 0
  else if o.op == opReadRing then
    beNat (o.data.take 2) * ((s.hamper.ring o.index.toNat).map (·.recSize)).getD 0
  else if o.op == opOpen then 2
  else 0

/-- The largest response the datagram could produce (R105). -/
def Request.largest (s : State) (q : Request) : Nat := 16 + (q.ops.map fun o => 10 + o.largest s).sum

/-- SESSION_OPEN stands alone and without a session (R113). -/
def Request.openOk (q : Request) : Bool :=
  !q.ops.any (·.op == opOpen) || (decide (q.ops.length = 1) && q.session == 0)

/-- The time a transaction has (R122). -/
def timeoutOf (s : State) (t : W16) : Nat := msec (if t == 0 then s.rop.defaultTimeout else t.toNat)

/-- The datagram is for this unit (R127). -/
def destHere (s : State) (d : W16) : Bool := d == 0xFFFF || s.ronko.node.id == some d

/-! ### Answers -/

/-- A datagram goes out through the tunnel, from the first transmit slot that is idle or becomes so after those before it have been
served (R522; log entry 77). -/
def tunnelSend (s : State) (kind : Nat) (dest tag : W16) (peer : Peer) (entry : W16) (bytes : List Byte) : State :=
  let x : TxSlot :=
    { d0 := BitVec.ofNat 2 kind ++ dest, d1 := BitVec.ofNat 16 bytes.length ++ tag, d2 := peer.ip
      d3 := entry.extractLsb' 0 12 ++ peer.port }
  refillTx (s.modTun fun t => { t with waiting := t.waiting ++ [(x, bytes)] })

/-- Where a transaction's answer goes: the host's address, the entry unit, and the tag of a tunnelled one. -/
structure Origin where
  peer : Peer
  entry : W16
  tag : Option W16
  deriving DecidableEq, Repr

def Queued.origin (q : Queued) : Origin := ⟨q.peer, q.entry, q.tag⟩

/-- A datagram with bits of FLAGS set. -/
def withFlags (b : List Byte) (f : Byte) : List Byte := b.take 3 ++ [byteAt b 3 ||| f] ++ b.drop 4

/-- A datagram with bits of FLAGS cleared. -/
def clearFlags (b : List Byte) (f : Byte) : List Byte := b.take 3 ++ [byteAt b 3 &&& ~~~f] ++ b.drop 4

/-- A response goes to its host, or through the tunnel to the entry unit with TUN set (R100, R127). -/
def respond (s : State) (o : Origin) (bytes : List Byte) : State :=
  match o.tag with
  | none => s.sendUdp o.peer.ip o.peer.port bytes
  | some tag => tunnelSend s 1 o.entry tag o.peer o.entry (withFlags bytes fTun)

/-- An answer with COUNT 0 (R105, R118, R128 to R131), counted under its code. -/
def refuseWhole (s : State) (o : Origin) (q : Request) (code : Byte) (retry : Nat) : State :=
  respond { s with rop := s.rop.countAnswer code } o (ropHeader fResp q.session q.seq q.dest q.timeout 0 code retry)

/-- One record of a response (Table 3.5). -/
def responseRecord (o : Op) (x : OpResult) : List Byte :=
  [o.op, x.ty] ++ natBytes 2 o.index.toNat ++ [o.element, x.code] ++ natBytes 2 x.epoch.toNat ++ natBytes 2 x.data.length ++ x.data

/-! ### Execution (R107 to R113) -/

/-- A state with the result that the block has just answered. -/
def answerResult (s : State) : OpResult := { code := s.answer.code, ty := s.answer.ty, data := s.answer.data, epoch := s.answer.epoch }

/-- The epoch that an operation carries. -/
def Op.epochOf (o : Op) : Option W16 := if o.flags.getLsbD 0 then some o.epoch else none

def Op.write (o : Op) (who : Requester) : StagedWrite := ⟨⟨who, .rop, o.epochOf⟩, o.index, o.element, o.ty, o.data⟩

/-- A session operation that carries no data and TYPE 0x00 (Table 3.6). -/
def Op.plain (o : Op) : Bool := o.ty == 0 && o.data.isEmpty

/-- The data bytes that a response has for one of its operations when every other one answers with as much as it may (R105,
R440). -/
def Request.room (s : State) (q : Request) (o : Op) : Nat := 1472 - (q.largest s - o.largest s)

/-- One operation outside a group; the number is RETRY_AFTER: 1 for RING_CONFIG (R419), a free value for another object's
E_BUSY. Data that a READ carries are not looked at (DESIGN CHOICE, log entry 101). -/
def runOp (who : Requester) (q : Request) (from_ : Origin) (s : State) (o : Op) : State × OpResult × Nat :=
  let plain := fun (code : Byte) (s : State) =>
    if o.plain then (s, ({ code := code } : OpResult), 0) else (s, { code := eType, ty := o.ty }, 0)
  let code := match normReq s who with
    | .sessionless named => if named then eStaleEpoch else eNotOwner
    | _ => eOk
  if o.op == opRead then let (s, x) := readAt who o.index o.element o.ty s; (s, x, 0)
  else if o.op == opWrite then
    let (s, x) := writeAt (o.write who) s
    if x.code != eBusy then (s, x, 0)
    else if o.index == 0x5001 then (s, x, 1)
    else (s.used, x, s.freeWord.toNat % 65536)
  else if o.op == opReadRing then
    let s := doReadRing who o.index.toNat (q.room s o) o.ty o.data s; (s, answerResult s, 0)
  else if o.op == opWriteRing then
    let s := doWriteRing who o.index.toNat o.ty o.data s; (s, answerResult s, 0)
  else if o.op == opOpen then
    if o.ty != tU16 || o.data.length != 2 then (s, { code := eType, ty := o.ty }, 0)
    else
      let (s, code, id, retry) := openSession s from_.peer.ip from_.peer.port from_.entry (beNat o.data)
      (s, { code := code, ty := tU16, data := if code == eOk then natBytes 2 id.toNat else [] }, retry)
  else if o.op == opClose then plain code (if o.plain && code == eOk then closeSession s q.session else s)
  else plain code s

/-- The operations of a datagram without GROUP, in record order (R107). -/
def runOps (who : Requester) (q : Request) (from_ : Origin) : List Op → State → State × List OpResult × Nat
  | [], s => (s, [], 0)
  | o :: rest, s =>
    let (s, x, retry) := runOp who q from_ s o
    let (s, xs, later) := runOps who q from_ rest s
    (s, x :: xs, Nat.max retry later)

/-- A group that is rejected as a whole: more than 32 writes, or an operation that is neither READ nor WRITE (R112). -/
def Request.badGroup (q : Request) : Bool :=
  decide (32 < q.ops.countP (·.op == opWrite)) || q.ops.any fun o => o.op != opRead && o.op != opWrite

/-- The READ operations of a committed group, in record order (R111). -/
def groupReads (who : Requester) : List Op → List OpResult → State → State × List OpResult
  | [], _, s => (s, [])
  | o :: rest, done, s =>
    if o.op == opRead then
      let (s, x) := readAt who o.index o.element o.ty s
      let (s, xs) := groupReads who rest done s
      (s, x :: xs)
    else
      match done with
      | x :: done => let (s, xs) := groupReads who rest done s; (s, x :: xs)
      | [] => let (s, xs) := groupReads who rest [] s; (s, { code := eInternal, ty := o.ty } :: xs)

/-- E_GROUP for one operation of a failed group, with the epoch of a channel-scoped object (Table 3.5). -/
def groupDenied (s : State) (who : Requester) (o : Op) : OpResult :=
  { code := eGroup, ty := o.ty
    epoch := if o.op != opRead && o.op != opWrite then 0
      else match objAt o.index.toNat o.element.toNat with
        | .ok x => resultEpoch o.index.toNat x ⟨⟨who, .rop, none⟩, o.data, s, s, s⟩ s
        | .error _ => 0 }

/-- The results of a failed group: those of its writes in their places, E_GROUP for its reads. -/
def groupFailed (s : State) (who : Requester) : List Op → List OpResult → List OpResult
  | [], _ => []
  | o :: rest, done =>
    if o.op == opRead then groupDenied s who o :: groupFailed s who rest done
    else match done with
      | x :: done => x :: groupFailed s who rest done
      | [] => groupDenied s who o :: groupFailed s who rest []

/-- A group (R109 to R112): the results, and whether it failed. -/
def runGroupOps (who : Requester) (q : Request) (s : State) : State × List OpResult × Bool :=
  if q.badGroup then (s, q.ops.map (groupDenied s who), true)
  else
    let gs := (q.ops.filter (·.op == opWrite)).map (·.write who)
    match runGroup gs s with
    | (s, none, done) => let (s, xs) := groupReads who q.ops done s; (s, xs, false)
    | (s, some _, done) => (s, groupFailed s who q.ops done, true)

/-- The header STATUS: the first code that is not E_OK, or E_GROUP for a failed group (R108, R109). -/
def ropStatus (xs : List OpResult) (groupFailed : Bool) : Byte := if groupFailed then eGroup else firstCode (xs.map (·.code))

/-- The session is bound to where a datagram came from (R115). -/
def Session.boundTo (x : Session) (o : Origin) : Bool := x.ip == o.peer.ip && x.port == o.peer.port && x.entry == o.entry

/-- The requester of a datagram: the session it names where source and entry unit are the session's, else sessionless (R115,
R117). -/
def requesterOf (s : State) (q : Request) (from_ : Origin) : Requester :=
  match s.sessionOf q.session with
  | some x => if x.boundTo from_ then .host q.session else .sessionless true
  | none => .sessionless (q.session != 0)

/-- The response is stored for its session, unless its STATUS is one of R119. -/
def storeResponse (s : State) (sid seq : W16) (status : Byte) (bytes : List Byte) : State :=
  if status == eBusy || status == eSequence || status == eTimeout then s
  else match slotOf s sid with
    | some i => s.modSession i fun x => { x with lastSeq := some seq, stored := bytes }
    | none => s

/-- A transaction is executed and answered: the state after, and the response. -/
def execute (s : State) (q : Request) (from_ : Origin) : State × List Byte :=
  let who := requesterOf s q from_
  let (s, xs, failed, retry) :=
    if q.flags &&& fGroup != 0 then
      let (s, xs, failed) := runGroupOps who q s
      (s, xs, failed, 0)
    else
      let (s, xs, retry) := runOps who q from_ q.ops s
      (s, xs, false, retry)
  let status := ropStatus xs failed
  let s : State := { s with rop := s.rop.countAnswer status }
  let bytes := ropHeader fResp q.session q.seq q.dest q.timeout xs.length status (if status == eBusy then retry else 0)
    ++ ((q.ops.zip xs).flatMap fun (o, x) => responseRecord o x)
  (if who == .host q.session then storeResponse s q.session q.seq status bytes else s, bytes)

/-- A datagram as the records of a bundle, 32 bytes each and padded with 0 (R431). -/
def datagramRecs (bytes : List Byte) : List (List Byte) :=
  let k := (bytes.length + 31) / 32
  cutRecs 32 k (bytes ++ List.replicate (32 * k - bytes.length) 0)

/-- The host command ring, once Myvex has configured it (R129, R431). -/
def commandRing (s : State) : Option Ring := if s.hamper.hostPages = 0 then none else s.hamper.ring s.hamper.hostNum

/-- Myvex takes the bundle at the head of the host command ring, behind a marker that an uncorrectable error left there. -/
def takeCommand (s : State) (slots : Nat) : State × List (List Byte) :=
  match commandRing s with
  | none => (s, [])
  | some r =>
    let s := match r.recs with
      | x :: _ => if x.mark then (popHead s r).1 else s
      | [] => s
    readBundles 1 s r.num slots []

/-- The transaction at the head of the host command ring is executed, in a time that the server took for it (R131). A transaction
whose records are no longer in the ring is none. -/
def serveOne (us : Nat) (s : State) : State :=
  match s.rop.queue with
  | [] => s
  | q :: rest =>
    if !s.coreRuns then s
    else
      let (s, recs) := takeCommand s (datagramRecs q.bytes).length
      let s := s.modRop fun r => { r with queue := rest, serviceUs := (us :: r.serviceUs).take 64 }
      match parseRequest q.bytes maskTunnel with
      | none => s
      | some x => if recs == datagramRecs q.bytes then let (s, bytes) := execute s x q.origin; respond s q.origin bytes else s

/-- A number of transactions is executed. -/
def serveMany : Nat → Nat → State → State
  | 0, _, s => s
  | k + 1, us, s => serveMany k us (serveOne us s)

/-! ### Admission (R117 to R121, R129 to R131) -/

/-- RETRY_AFTER while the ring is full: Q times the exact mean S, rounded up to whole ms, 1 to 1,000 (R131). -/
def ringRetry (s : State) : Nat :=
  let per := 1000 * Nat.max 1 s.rop.serviceUs.length
  Nat.max 1 (Nat.min 1000 ((s.rop.queue.length * s.rop.serviceUs.sum + per - 1) / per))

/-- The host command ring has room for a transaction, in number and in records (R129, R435). -/
def ringTakes (s : State) (depth : Nat) (bytes : List Byte) : Bool :=
  decide (s.rop.queue.length < depth) && (match commandRing s with
    | some r => s.hamper.fits r (r.slotsFor (datagramRecs bytes))
    | none => false)

/-- A bucket brought up to now: its level in units of 1/240,000,000 token (R130). -/
def Session.levelNow (x : Session) (now : Nat) : Nat := Nat.min (secs x.burst) (x.level + (now - x.levelAt) * x.rate)

/-- RETRY_AFTER while the bucket is empty: the time until the next token (R131). -/
def tokenRetry (x : Session) (now : Nat) : Nat :=
  let cycles := (240000000 - x.levelNow now + x.rate - 1) / Nat.max 1 x.rate
  Nat.max 1 (Nat.min 1000 ((cycles + 239999) / 240000))

/-- A token is used. -/
def useToken (s : State) (sid : W16) : State :=
  match slotOf s sid with
  | some i => s.modSession i fun x => { x with level := x.levelNow s.now - 240000000, levelAt := s.now }
  | none => s

/-- The transaction that a session has outstanding (R120). -/
def outstanding (s : State) (x : Session) : Option Queued :=
  s.rop.queue.find? fun q => w16At q.bytes 4 == x.id && x.boundTo q.origin

/-- A transaction joins the host command ring as one bundle, written by the application core (R129, R431, R462). -/
def enqueue (s : State) (q : Request) (bytes : List Byte) (o : Origin) : State :=
  let s := match commandRing s with
    | some r => (match appTurn s r (datagramRecs bytes) with
      | (s, some r) => portRest reqApp (datagramRecs bytes).length (storeNow s r (datagramRecs bytes))
      | (s, none) => s)
    | none => s
  s.modRop fun r => { r with queue := r.queue ++
    [{ peer := o.peer, entry := o.entry, tag := o.tag, bytes := bytes, deadline := s.now + timeoutOf s q.timeout }] }

/-- A list without the slice of a length at a place. -/
def cutAt {α : Type} (k n : Nat) (xs : List α) : List α := xs.take k ++ xs.drop (k + n)

/-- Myvex takes a transaction that it will not execute out of the host command ring (R124): its bundle stands behind those of the
transactions before it. -/
def dropCommand (s : State) (y : Queued) : State :=
  let k := (((s.rop.queue.takeWhile fun q => q != y).map fun q => (datagramRecs q.bytes).length)).sum
  let mine := datagramRecs y.bytes
  let s := match commandRing s with
    | some r =>
      if ((r.recs.drop k).take mine.length).map (fun x : Rec => x.bytes) == mine then s.setRing { r with recs := cutAt k mine.length r.recs } else s
    | none => s
  s.modRop fun r => { r with queue := r.queue.erase y }

/-- Admission to the ring, for a session or without one (R129, R130). A transaction without a session is bound by the CMD_DEPTH
written last (DESIGN CHOICE, log entry 102). -/
def admitRop (s : State) (q : Request) (bytes : List Byte) (o : Origin) (x : Option Session) : State :=
  let depth := (x.map (·.depth)).getD s.rop.cmdDepth
  if !ringTakes s depth bytes then refuseWhole s o q eBusy (ringRetry s)
  else match x with
    | none => enqueue s q bytes o
    | some x =>
      if x.levelNow s.now < 240000000 then refuseWhole s o q eBusy (tokenRetry x s.now)
      else enqueue (useToken s x.id) q bytes o

/-- A datagram for this unit: its session, its SEQ, and its admission (R115 to R121). -/
def accept (s : State) (q : Request) (bytes : List Byte) (o : Origin) : State :=
  if 1472 < q.largest s then refuseWhole s o q eRange 0
  else match requesterOf s q o with
    | .host sid =>
      let s := touchSession s sid
      match s.sessionOf sid with
      | none => s
      | some x =>
        match outstanding s x with
        | some y => if w16At y.bytes 6 == q.seq then s else refuseWhole s o q eBusy (msUp s.now y.deadline)
        | none =>
          if x.lastSeq == some q.seq then
            respond (s.modRop fun r => { r with duplicates := r.duplicates + 1 }) o x.stored
          else if x.lastSeq.isSome && x.lastSeq != some (q.seq - 1) then refuseWhole s o q eSequence 0
          else admitRop s q bytes o (some x)
    | _ => admitRop s q bytes o none

/-! ### The entry unit (R104, R105, R127, R128, R138) -/

/-- A datagram goes on to another unit, under the lowest tag that no forwarded transaction has (R127). -/
def forwardRequest (s : State) (q : Request) (bytes : List Byte) (peer : Peer) : State :=
  let o : Origin := ⟨peer, ownEntry, none⟩
  if s.rop.forwarded.any fun f => f.session == q.session && f.session != 0 && f.seq == q.seq && f.dest == q.dest && f.peer == peer then s
  else if (idleTx s).isNone then refuseWhole s o q eBusy 1
  else
    let tag : W16 := BitVec.ofNat 16
      (((List.range (s.rop.forwarded.length + 1)).find? fun k => !s.rop.forwarded.any fun f => f.tag.toNat == k).getD 0)
    let s := s.modRop fun r => { r with forwarded := r.forwarded ++
      [{ session := q.session, seq := q.seq, dest := q.dest, timeout := q.timeout, peer := peer, tag := tag,
         deadline := s.now + timeoutOf s q.timeout }] }
    tunnelSend s 0 q.dest tag peer s.srcId (withFlags bytes fTun)

/-- A requester is sessionless (R117). -/
def isSessionless : Requester → Bool
  | .sessionless _ => true
  | _ => false

/-- A broadcast datagram that is answered: sessionless, READ operations alone, all within 0x0000 to 0x0FFF (R138). -/
def Request.discovers (s : State) (q : Request) (o : Origin) : Bool :=
  isSessionless (requesterOf s q o) && q.ops.all fun o => o.op == opRead && decide (o.index.toNat ≤ 0x0FFF)

/-- A datagram that came over Ethernet. -/
def takeDatagram (s : State) (peer : Peer) (broadcast : Bool) (bytes : List Byte) : State :=
  match parseRequest bytes maskEthernet with
  | none => s.modRop fun r => { r with malformed := r.malformed + 1 }
  | some q =>
    let o : Origin := ⟨peer, ownEntry, none⟩
    if broadcast then
      if q.discovers s o && q.legal && destHere s q.dest then
        s.modRop fun r => { r with rxDatagrams := r.rxDatagrams + 1, discovery := r.discovery ++ [(peer, bytes)] }
      else s
    else
      let s := s.modRop fun r => { r with rxDatagrams := r.rxDatagrams + 1 }
      if !q.legal then refuseWhole s o q eRange 0
      else if !q.openOk then refuseWhole s o q eSequence 0
      else if destHere s q.dest then accept s q bytes o
      else if s.ronko.node.enum != .ready || decide (s.ronko.node.nodeCount ≤ q.dest.toNat) then refuseWhole s o q eNotReady 0
      else forwardRequest s q bytes peer

/-- A datagram from Ethernet reaches Myvex: the MAC runs, and one sent to the unit itself needs its addresses (R52, R136,
R137). -/
def State.hears (s : State) (broadcast : Bool) : Bool := s.macReady && (broadcast || (s.eth.macAddr != 0 && s.eth.ip != 0))

/-- ROP_DATAGRAM: a datagram is taken, and after it a number of admitted transactions is executed, each in `serviceUs`. -/
def execRopDatagram (peer : Peer) (broadcast : Bool) (bytes : List Byte) (serve serviceUs : Nat) (s : State) :
    Host.Outcome State Fault Refusal :=
  .next (if s.coreRuns then
      serveMany serve serviceUs (if s.hears broadcast then takeDatagram s peer broadcast bytes else s)
    else s)

/-- BROADCAST_REPLY: the oldest discovery datagram is executed and answered by unicast (R138). -/
def execBroadcastReply (s : State) : Host.Outcome State Fault Refusal :=
  match s.rop.discovery with
  | [] => .next s
  | (peer, bytes) :: rest =>
    if !s.coreRuns then .next s
    else
      let s := s.modRop fun r => { r with discovery := rest }
      match parseRequest bytes maskEthernet with
      | none => .next s
      | some q =>
        let o : Origin := ⟨peer, ownEntry, none⟩
        if 1472 < q.largest s then .next (refuseWhole s o q eRange 0)
        else
          let (s, out) := execute s q o
          .next (respond s o out)

/-! ### The transaction timer (R122 to R125) -/

/-- The transmit slot that holds a forwarded request. -/
def slotOfTag (s : State) (tag : W16) : Option (Fin 4) :=
  ([0, 1, 2, 3] : List (Fin 4)).find? fun k =>
    let x := s.ronko.tun.tx[k.val]
    x.state != 0 && x.kind = 0 && x.tag == tag

/-- TRANSACTION_TIMEOUT: of a forwarded transaction, whose link retries are cancelled, or of one of this unit's that has not
begun. -/
def execTransactionTimeout (sid seq : W16) (s : State) : Host.Outcome State Fault Refusal :=
  match s.rop.forwarded.find? fun f => f.session == sid && f.seq == seq with
  | some f =>
    let s := match slotOfTag s f.tag with
      | some k => cancelTx s k
      | none => dropKept s s.srcId f.tag
    .next (answerForwarded s f eTimeout 0)
  | none =>
    match s.rop.queue.find? fun q => q.tag.isNone && w16At q.bytes 4 == sid && w16At q.bytes 6 == seq with
    | none => .next s
    | some y =>
      let s := dropCommand s y
      .next (match parseRequest y.bytes maskTunnel with
        | some q => refuseWhole s y.origin q eTimeout 0
        | none => s)

/-! ### Event datagrams (R133, R134, R602) -/

/-- The event datagram of a record for one session. -/
def eventDatagram (s : State) (x : Session) (r : EventRec) : List Byte :=
  ropHeader fEvt x.id x.eventSeq s.srcId 0 0 0 0 ++ r.bytes

/-- One session's event datagram goes out and its counter moves on; one for a session of another entry unit goes through the
tunnel. -/
def sendEventTo (r : EventRec) (s : State) (i : Fin 8) : State :=
  let x := s.session i
  if x.id == 0 || !x.rel.eventSubscribe.getLsbD r.line.val then s
  else
    let bytes := eventDatagram s x r
    let s := s.modSession i fun x => { x with eventSeq := x.eventSeq + 1 }
    if x.entry == ownEntry then s.sendUdp x.ip x.port bytes
    else tunnelSend s 2 x.entry 0 ⟨x.ip, x.port⟩ x.entry (withFlags bytes fTun)

/-- EVENT_DATAGRAM_SEND: the head record of the event FIFO goes to every session subscribed to its line. -/
def execEventDatagramSend (s : State) : Host.Outcome State Fault Refusal :=
  match s.events.fifo with
  | [] => .next s
  | r :: rest =>
    .next (if s.coreRuns then
      forEach allSlots { s with events := { s.events with fifo := rest } } (sendEventTo r)
    else s)

end Sys2Proof.Machine
end

