-- ==== Sys2Proof/Machine/Tunnel.lean ====
section
/-! DEFINITION. Received normal frames and the tunnel's endpoint (R493 to R501, R522 to R524): delivery and forwarding, the
reassembly of segments into receive slots, and what Myvex does with a whole datagram. -/

namespace Sys2Proof.Machine

/-! ### Reassembly (R522, R523) -/

/-- KIND of a receive or transmit slot (Table 13.13). -/
def kReq : Nat := 0
def kRsp : Nat := 1
def kEvt : Nat := 2

/-- The reassembly that a segment belongs to. -/
def slotFilling (t : Tunnel) (kind : Nat) (g : Segment) : Option (Fin 8) :=
  ([0, 1, 2, 3, 4, 5, 6, 7] : List (Fin 8)).find? fun i =>
    let x := t.rx[i.val]
    x.filling && x.kind = kind && x.src == g.src && x.tag == g.tag

/-- A reassembly is discarded and counted. -/
def dropSlot (s : State) (i : Fin 8) : State :=
  s.modTun fun t => { t.setRx i {} with reasmDrops := t.reasmDrops.inc }

/-- The bytes that segment `g` must carry for its place in the datagram. -/
def segFits (g : Segment) : Bool :=
  let seg := g.seg.toNat
  let count := g.segCount.toNat
  let total := g.totalLen.toNat
  within 1 1472 total && decide (count = (total + 239) / 240) && decide (seg < count)
    && decide (g.data.length = Nat.min 240 (total - 240 * seg))

/-- A new reassembly begins with segment 0, in a free slot; a request that finds none is refused (R523). -/
def beginSlot (s : State) (kind : Nat) (g : Segment) : State × Option (Fin 8) :=
  match freeSlot s.ronko.tun with
  | some i => (s.modTun fun t => t.setRx i
      { filling := true, kind := kind, src := g.src, tag := g.tag, entry := g.entry, hostIp := g.hostIp, hostPort := g.hostPort
        segCount := g.segCount.toNat, totalLen := g.totalLen.toNat }, some i)
  | none =>
    if kind = kReq then (sendNack s g.entry g.tag 3, none)
    else (s.modTun fun t => { t with reasmDrops := t.reasmDrops.inc }, none)

/-- A segment that finds no endpoint: the core is held, the device is not in RUN, or TUN_RX_EN is 0. Its reassembly is discarded,
and a request is refused, once (R523, R527). -/
def noEndpoint (s : State) (kind : Nat) (g : Segment) : State :=
  let old := slotFilling s.ronko.tun kind g
  let s := match old with
    | some i => dropSlot s i
    | none => if kind != kReq && g.seg == 0 then s.modTun fun t => { t with reasmDrops := t.reasmDrops.inc } else s
  if kind = kReq && (g.seg == 0 || old.isSome) then sendNack s g.entry g.tag 2 else s

/-- A segment's data joins its slot; the last one completes it. -/
def fillSlot (s : State) (i : Fin 8) (g : Segment) : State :=
  let x := s.ronko.tun.rx[i.val]
  if x.segs != g.seg.toNat || x.segCount != g.segCount.toNat || x.totalLen != g.totalLen.toNat || !segFits g then dropSlot s i
  else
    let whole := decide (x.segs + 1 = x.segCount)
    s.modTun fun t =>
      { t.setRx i { x with segs := x.segs + 1, data := x.data ++ g.data, filling := !whole, full := whole } with
        rxCount := if whole then t.rxCount.inc else t.rxCount }

/-! ### What Myvex does with a whole datagram -/

/-- A tunnelled request is checked and admitted; transactions are then executed, how many and how fast the specification
leaves to the server. -/
def takeRequest (s : State) (x : RxSlot) : State :=
  let o : Origin := ⟨⟨x.hostIp, x.hostPort⟩, x.entry, some x.tag⟩
  let s := match parseRequest x.data maskTunnel with
    | none => s.modRop fun r => { r with malformed := r.malformed + 1 }
    | some q =>
      let s := s.modRop fun r => { r with rxDatagrams := r.rxDatagrams + 1 }
      if !q.legal then refuseWhole s o q eRange 0
      else if !q.openOk then refuseWhole s o q eSequence 0
      else accept s q x.data o
  serveMany (Config.freeNat s.free) (Config.freeNat (s.free + 1)) { s with free := s.free + 2 }

/-- A response is relayed to its host, or discarded where its transaction no longer waits (R125, R127). -/
def takeResponse (s : State) (x : RxSlot) : State :=
  match s.rop.forwarded.find? fun f => f.tag == x.tag && f.session == w16At x.data 4 && f.seq == w16At x.data 6 with
  | some f =>
    State.sendUdp (s.modRop fun r => { r with forwarded := r.forwarded.erase f }) f.peer.ip f.peer.port
      (clearFlags x.data fTun)
  | none => s.modRop fun r => { r with lateDiscards := r.lateDiscards + 1 }

/-- A whole datagram is handled by its kind. -/
def takeWhole (s : State) (x : RxSlot) : State :=
  if x.kind = kReq then takeRequest s x
  else if x.kind = kRsp then takeResponse s x
  else s.sendUdp x.hostIp x.hostPort (clearFlags x.data fTun)

/-- A tunnel segment for this unit. -/
def takeSegment (s : State) (kind : Nat) (g : Segment) : State :=
  let fill := fun (s : State) (i : Fin 8) =>
    let s := fillSlot s i g
    let x := s.ronko.tun.rx[i.val]
    if x.full then takeWhole s x else s
  let old := slotFilling s.ronko.tun kind g
  if !s.coreRuns || !s.ronko.tun.rxEn then noEndpoint s kind g
  else if g.seg == 0 then
    let s := match old with
      | some i => dropSlot s i
      | none => s
    match beginSlot s kind g with
    | (s, some i) => fill s i
    | (s, none) => s
  else match old with
    | some i => fill s i
    | none => s

/-- TUN_REQ: a segment of a request for this unit. -/
def execTunReq (seg : Segment) (s : State) : Host.Outcome State Fault Refusal :=
  .next (if s.linkOn then takeSegment s kReq seg else s)

/-- TUN_RSP: a segment of a response for this unit. -/
def execTunRsp (seg : Segment) (s : State) : Host.Outcome State Fault Refusal :=
  .next (if s.linkOn then takeSegment s kRsp seg else s)

/-- TUN_EVT: a segment of an event datagram for this unit. -/
def execTunEvt (seg : Segment) (s : State) : Host.Outcome State Fault Refusal :=
  .next (if s.linkOn then takeSegment s kEvt seg else s)

/-- TUN_NACK: for this unit; the unit that sent it is not among the operands. -/
def execTunNack (tag entry : W16) (reason : Byte) (s : State) : Host.Outcome State Fault Refusal :=
  .next (if s.linkOn then takeNack s.used (s.freeWord.extractLsb' 0 16) tag entry reason else s)

/-- REASSEMBLY_TIMEOUT: 1 ms have passed since the first segment. -/
def execReassemblyTimeout (slot : Fin 8) (s : State) : Host.Outcome State Fault Refusal :=
  .next (if (s.ronko.tun.rx[slot.val]).filling then dropSlot s slot else s)

/-! ### Received normal frames (R493 to R500) -/

/-- A normal frame of the form of Tables 13.4 and 13.6, its CRC included: length, KIND and DEST. -/
def normalForm (b : List Byte) : Bool :=
  let len := beNat (slice b 6 2)
  let dest := beNat (slice b 2 2)
  decide (b.length = len + 12) && decide (len ≤ 256) && (match beNat (slice b 0 1) with
    | 0x01 | 0x02 => dest == 0xFFFE
    | 0x03 => dest == 0xFFFF
    | 0x04 => dest == 0
    | 0x10 | 0x11 | 0x12 | 0x13 => decide (dest ≤ 0xFFF)
    | _ => false)

/-- The segment in a frame without its CRC. -/
def segmentIn (b : List Byte) : Segment :=
  let p := b.drop 8
  { src := w16At b 4, tag := w16At p 0, entry := w16At p 2, hostIp := BitVec.ofNat 32 (beNat (slice p 4 4)), hostPort := w16At p 8
    seg := byteAt p 10, segCount := byteAt p 11, totalLen := w16At p 12, data := p.drop 16 }

/-- A frame is consumed by this unit. A payload that is not its kind's leaves no effect. -/
def deliver (s : State) (p : Port) (b : List Byte) : State :=
  let q := b.drop 8
  let size := fun (k : Nat) (t : State) => if q.length = k then t else s
  match beNat (slice b 0 1) with
  | 0x01 => if p = rku then size 6 (takeAssign s (w16At q 0) (byteAt q 2) (byteAt q 3 == 1) (w16At q 4)) else s
  | 0x02 => size 4 (takeDone s p (w16At q 0) (w16At q 2))
  | 0x03 => size 4 (takeReady s (w16At q 0) (w16At q 2))
  | 0x04 => size 0 (takeTopo s)
  | 0x13 => size 5 (takeNack s (w16At b 4) (w16At q 0) (w16At q 2) (byteAt q 4))
  | k => if 17 ≤ q.length then takeSegment s (k - 0x10) (segmentIn b) else s

/-- The route of a received normal frame. -/
def frameRoute (s : State) (p : Port) (b : List Byte) : Route := routeOf s (some p) (w16At b 2) (byteAt b 0 == 0x04)

/-- An accepted frame is delivered, forwarded, or discarded with a TUN_NACK where it is a segment (R500). -/
def takeFrame (s : State) (p : Port) (b : List Byte) : State :=
  let r := frameRoute s p b
  let s := if r.here then deliver s p b else if r.outs.isEmpty then nackFrame s b 4 else s
  forward s p r.outs b false

/-- NORMAL_FRAME_RX: a whole normal frame with its CRC, and how it ended (R497). -/
def execNormalFrameRx (p : Port) (bytes : List Byte) (fin : FrameEnd) (s : State) : Host.Outcome State Fault Refusal :=
  if !s.linkOn || !s.active p then .next s
  else
    let s := countErrors s p fin
    let body := bytes.take (bytes.length - 4)
    let outs := if normalForm bytes then (frameRoute s p body).outs else []
    if fin.eoa then .next (freeBuffer (abortCopies s outs body false) p [] false)
    else if fin.codeErrors != 0 || !crcGood bytes || !normalForm bytes then .next (badFrame (abortCopies s outs body false) p false)
    else
      let q := s.port p
      let got := byteAt bytes 1
      match seqPlace got q.rxSeq 8 with
      | .ahead =>
        let s := if q.nakSent then s else sendLc (s.modPort p fun q => { q with nakSent := true }) p 0x02 q.rxSeq
        .next (freeBuffer s p [] false)
      | .behind => .next (freeBuffer (sendLc s p 0x01 (q.rxSeq - 1)) p [] false)
      | .elsewhere => .next (freeBuffer s p [] false)
      | .inOrder =>
        let s := s.modPort p fun q => { q with rxSeq := q.rxSeq + 1, nakSent := false, rxFrames := q.rxFrames.inc }
        .next (takeFrame (sendLc s p 0x01 got) p body)

end Sys2Proof.Machine
end

