-- ==== Sys2Proof/Machine/Dispatch.lean ====
section
/-! DEFINITION. Dispatch: one arm per command, each one direct call of its meaning. -/

namespace Sys2Proof.Machine

def exec (i : Instr) (s : State) : Host.Outcome State Fault Refusal :=
  match i with
  | .supplyFail sup => Sys2Proof.Machine.execSupplyFail sup s
  | .aonPor => Sys2Proof.Machine.execAonPor s
  | .rstNRecognised => Sys2Proof.Machine.execRstNRecognised s
  | .aonResetRelease straps lockout => Sys2Proof.Machine.execAonResetRelease straps lockout s
  | .supWatchdogExpire => Sys2Proof.Machine.execSupWatchdogExpire s
  | .deviceReset r v => Sys2Proof.Machine.execDeviceReset r v s
  | .deviceResetTimeout => Sys2Proof.Machine.execDeviceResetTimeout s
  | .bootEntry reads => Sys2Proof.Machine.execBootEntry reads s
  | .refPresentSet => Sys2Proof.Machine.execRefPresentSet s
  | .pllLock patchArea => Sys2Proof.Machine.execPllLock patchArea s
  | .pllLockTimeout => Sys2Proof.Machine.execPllLockTimeout s
  | .refPresentTimeout => Sys2Proof.Machine.execRefPresentTimeout s
  | .verifyComplete img0 img1 record => Sys2Proof.Machine.execVerifyComplete img0 img1 record s
  | .clockMonitorFail m count => Sys2Proof.Machine.execClockMonitorFail m count s
  | .refReadySet => Sys2Proof.Machine.execRefReadySet s
  | .refReadyTimeout => Sys2Proof.Machine.execRefReadyTimeout s
  | .refWindowFail mon => Sys2Proof.Machine.execRefWindowFail mon s
  | .refVoltsUpdate mon => Sys2Proof.Machine.execRefVoltsUpdate mon s
  | .appWdtCtrlWrite w => Sys2Proof.Machine.execAppWdtCtrlWrite w s
  | .appWdtKick w => Sys2Proof.Machine.execAppWdtKick w s
  | .appWdtExpire => Sys2Proof.Machine.execAppWdtExpire s
  | .loopNRequest r e n => Sys2Proof.Machine.execLoopNRequest r e n s
  | .loopTick e w0 w1 => Sys2Proof.Machine.execLoopTick e w0 w1 s
  | .loopSyncArm r v => Sys2Proof.Machine.execLoopSyncArm r v s
  | .loopSyncRestart => Sys2Proof.Machine.execLoopSyncRestart s
  | .tbcRateWrite w => Sys2Proof.Machine.execTbcRateWrite w s
  | .tbcLoad w => Sys2Proof.Machine.execTbcLoad w s
  | .reg64LowRead m addr => Sys2Proof.Machine.execReg64LowRead m addr s
  | .reg64LowWrite m addr w => Sys2Proof.Machine.execReg64LowWrite m addr w s
  | .counterWrite m addr w event => Sys2Proof.Machine.execCounterWrite m addr w event s
  | .statusW1c m addr w wrapNow collideNow => Sys2Proof.Machine.execStatusW1c m addr w wrapNow collideNow s
  | .periodRegWrite p w => Sys2Proof.Machine.execPeriodRegWrite p w s
  | .registerWrite m addr w => Sys2Proof.Machine.execRegisterWrite m addr w s
  | .ropDatagram peer broadcast bytes serve serviceUs => Sys2Proof.Machine.execRopDatagram peer broadcast bytes serve serviceUs s
  | .ropRead r idx el ty => Sys2Proof.Machine.execRopRead r idx el ty s
  | .ropWrite r idx el ty data => Sys2Proof.Machine.execRopWrite r idx el ty data s
  | .readRing r ring ty data => Sys2Proof.Machine.execReadRing r ring ty data s
  | .writeRing r ring ty data => Sys2Proof.Machine.execWriteRing r ring ty data s
  | .sessionOpen peer entry timeout => Sys2Proof.Machine.execSessionOpen peer entry timeout s
  | .sessionClose sid => Sys2Proof.Machine.execSessionClose sid s
  | .keepalive sid => Sys2Proof.Machine.execKeepalive sid s
  | .transactionTimeout sid seq => Sys2Proof.Machine.execTransactionTimeout sid seq s
  | .sessionExpire slot => Sys2Proof.Machine.execSessionExpire slot s
  | .busyPerSUpdate => Sys2Proof.Machine.execBusyPerSUpdate s
  | .linkUp speed100 fullDuplex => Sys2Proof.Machine.execLinkUp speed100 fullDuplex s
  | .dhcpRetransmit => Sys2Proof.Machine.execDhcpRetransmit s
  | .dhcpReply ip mask router leaseS => Sys2Proof.Machine.execDhcpReply ip mask router leaseS s
  | .dhcpRenew => Sys2Proof.Machine.execDhcpRenew s
  | .dhcpRebind => Sys2Proof.Machine.execDhcpRebind s
  | .leaseExpire => Sys2Proof.Machine.execLeaseExpire s
  | .arpRequest target sender senderMac => Sys2Proof.Machine.execArpRequest target sender senderMac s
  | .arpAge ip => Sys2Proof.Machine.execArpAge ip s
  | .icmpEcho src dst payload => Sys2Proof.Machine.execIcmpEcho src dst payload s
  | .broadcastReply => Sys2Proof.Machine.execBroadcastReply s
  | .macFrameRx bytes fcsGood => Sys2Proof.Machine.execMacFrameRx bytes fcsGood s
  | .macFrameTx => Sys2Proof.Machine.execMacFrameTx s
  | .mdioGo w => Sys2Proof.Machine.execMdioGo w s
  | .mdioComplete data => Sys2Proof.Machine.execMdioComplete data s
  | .eventDatagramSend => Sys2Proof.Machine.execEventDatagramSend s
  | .mbxWrite => Sys2Proof.Machine.execMbxWrite s
  | .mbxStage => Sys2Proof.Machine.execMbxStage s
  | .mbxCommit => Sys2Proof.Machine.execMbxCommit s
  | .mbxAbort => Sys2Proof.Machine.execMbxAbort s
  | .mbxAppend => Sys2Proof.Machine.execMbxAppend s
  | .sessCmdOpen => Sys2Proof.Machine.execSessCmdOpen s
  | .sessCmdTouch sid => Sys2Proof.Machine.execSessCmdTouch sid s
  | .sessCmdClose sid => Sys2Proof.Machine.execSessCmdClose sid s
  | .protViolation addr => Sys2Proof.Machine.execProtViolation addr s
  | .keyProgram r data => Sys2Proof.Machine.execKeyProgram r data s
  | .keyDisable r data => Sys2Proof.Machine.execKeyDisable r data s
  | .unlock r code => Sys2Proof.Machine.execUnlock r code s
  | .lock r v => Sys2Proof.Machine.execLock r v s
  | .setCode r code => Sys2Proof.Machine.execSetCode r code s
  | .save r v => Sys2Proof.Machine.execSave r v s
  | .saveComplete => Sys2Proof.Machine.execSaveComplete s
  | .unlockTimeout => Sys2Proof.Machine.execUnlockTimeout s
  | .lockoutEnd => Sys2Proof.Machine.execLockoutEnd s
  | .limitWrite r n el ty data => Sys2Proof.Machine.execLimitWrite r n el ty data s
  | .claim r n v => Sys2Proof.Machine.execClaim r n v s
  | .release r n v => Sys2Proof.Machine.execRelease r n v s
  | .appReset r v => Sys2Proof.Machine.execAppReset r v s
  | .appReverifyComplete img0 img1 => Sys2Proof.Machine.execAppReverifyComplete img0 img1 s
  | .mgmtAliveTimeout => Sys2Proof.Machine.execMgmtAliveTimeout s
  | .modeRequest r n v => Sys2Proof.Machine.execModeRequest r n v s
  | .modeChangeApply n => Sys2Proof.Machine.execModeChangeApply n s
  | .offNow r n v => Sys2Proof.Machine.execOffNow r n v s
  | .enableStart n => Sys2Proof.Machine.execEnableStart n s
  | .enableStageOn n => Sys2Proof.Machine.execEnableStageOn n s
  | .enableLoopClose n => Sys2Proof.Machine.execEnableLoopClose n s
  | .enableModeEntry n => Sys2Proof.Machine.execEnableModeEntry n s
  | .safeRampEnd n => Sys2Proof.Machine.execSafeRampEnd n s
  | .overrunFallback n => Sys2Proof.Machine.execOverrunFallback n s
  | .powerLimitExceeded n => Sys2Proof.Machine.execPowerLimitExceeded n s
  | .engineService e => Sys2Proof.Machine.execEngineService e s
  | .leNop e => Sys2Proof.Machine.execLeNop e s
  | .leMov e d a => Sys2Proof.Machine.execLeMov e d a s
  | .leAdd e d a b => Sys2Proof.Machine.execLeAdd e d a b s
  | .leSub e d a b => Sys2Proof.Machine.execLeSub e d a b s
  | .leMul e d a b => Sys2Proof.Machine.execLeMul e d a b s
  | .leMac e a b => Sys2Proof.Machine.execLeMac e a b s
  | .leMsu e a b => Sys2Proof.Machine.execLeMsu e a b s
  | .leClra e => Sys2Proof.Machine.execLeClra e s
  | .leLda e a => Sys2Proof.Machine.execLeLda e a s
  | .leSta e d => Sys2Proof.Machine.execLeSta e d s
  | .leMin e d a b => Sys2Proof.Machine.execLeMin e d a b s
  | .leMax e d a b => Sys2Proof.Machine.execLeMax e d a b s
  | .leLim e d a b => Sys2Proof.Machine.execLeLim e d a b s
  | .leAbs e d a => Sys2Proof.Machine.execLeAbs e d a s
  | .leNeg e d a => Sys2Proof.Machine.execLeNeg e d a s
  | .leShl e d a imm => Sys2Proof.Machine.execLeShl e d a imm s
  | .leShr e d a imm => Sys2Proof.Machine.execLeShr e d a imm s
  | .leDiv e d a b => Sys2Proof.Machine.execLeDiv e d a b s
  | .leIntg e d a b => Sys2Proof.Machine.execLeIntg e d a b s
  | .leBqd e d a b imm => Sys2Proof.Machine.execLeBqd e d a b imm s
  | .leLdi e d imm => Sys2Proof.Machine.execLeLdi e d imm s
  | .leBneg e a imm => Sys2Proof.Machine.execLeBneg e a imm s
  | .leBpos e a imm => Sys2Proof.Machine.execLeBpos e a imm s
  | .leBz e a imm => Sys2Proof.Machine.execLeBz e a imm s
  | .leBnz e a imm => Sys2Proof.Machine.execLeBnz e a imm s
  | .leBfs e b imm => Sys2Proof.Machine.execLeBfs e b imm s
  | .leJmp e imm => Sys2Proof.Machine.execLeJmp e imm s
  | .leEnd e => Sys2Proof.Machine.execLeEnd e s
  | .leTunt e => Sys2Proof.Machine.execLeTunt e s
  | .deadlineOverrun n => Sys2Proof.Machine.execDeadlineOverrun n s
  | .loadMain r n data => Sys2Proof.Machine.execLoadMain r n data s
  | .loadOuter r n data => Sys2Proof.Machine.execLoadOuter r n data s
  | .unload r n v => Sys2Proof.Machine.execUnload r n v s
  | .peakClear r e v => Sys2Proof.Machine.execPeakClear r e v s
  | .notchDesign r n bank el v => Sys2Proof.Machine.execNotchDesign r n bank el v s
  | .outerStep n => Sys2Proof.Machine.execOuterStep n s
  | .folEdge n rising => Sys2Proof.Machine.execFolEdge n rising s
  | .folStandstill n => Sys2Proof.Machine.execFolStandstill n s
  | .followingErrorReport n => Sys2Proof.Machine.execFollowingErrorReport n s
  | .oscillationReport n => Sys2Proof.Machine.execOscillationReport n s
  | .srcResume r n v => Sys2Proof.Machine.execSrcResume r n v s
  | .tuneSegmentClose n => Sys2Proof.Machine.execTuneSegmentClose n s
  | .tuneDone n => Sys2Proof.Machine.execTuneDone n s
  | .lacFrameEnd n => Sys2Proof.Machine.execLacFrameEnd n s
  | .lacUpdate n => Sys2Proof.Machine.execLacUpdate n s
  | .lacRevert r n v => Sys2Proof.Machine.execLacRevert r n v s
  | .lacResume r n v => Sys2Proof.Machine.execLacResume r n v s
  | .capArm r n v => Sys2Proof.Machine.execCapArm r n v s
  | .captureStart n => Sys2Proof.Machine.execCaptureStart n s
  | .captureComplete n codes => Sys2Proof.Machine.execCaptureComplete n codes s
  | .captureCopyDone n => Sys2Proof.Machine.execCaptureCopyDone n s
  | .scanStart r v => Sys2Proof.Machine.execScanStart r v s
  | .scanStop r v => Sys2Proof.Machine.execScanStop r v s
  | .scanTimerWrap => Sys2Proof.Machine.execScanTimerWrap s
  | .scanDelayEnd => Sys2Proof.Machine.execScanDelayEnd s
  | .auxSlotStart => Sys2Proof.Machine.execAuxSlotStart s
  | .auxResult code refReady => Sys2Proof.Machine.execAuxResult code refReady s
  | .scanEnd => Sys2Proof.Machine.execScanEnd s
  | .urgReq r v => Sys2Proof.Machine.execUrgReq r v s
  | .calPoint r n v => Sys2Proof.Machine.execCalPoint r n v s
  | .calCaptureDone n => Sys2Proof.Machine.execCalCaptureDone n s
  | .calCompute r n v => Sys2Proof.Machine.execCalCompute r n v s
  | .phaseUpdate n => Sys2Proof.Machine.execPhaseUpdate n s
  | .clrNFall => Sys2Proof.Machine.execClrNFall s
  | .clrNRise => Sys2Proof.Machine.execClrNRise s
  | .clampTrip n p => Sys2Proof.Machine.execClampTrip n p s
  | .clampRelease n => Sys2Proof.Machine.execClampRelease n s
  | .clampHoldRepeat n p => Sys2Proof.Machine.execClampHoldRepeat n p s
  | .rangeReq r n v => Sys2Proof.Machine.execRangeReq r n v s
  | .rangeMake n => Sys2Proof.Machine.execRangeMake n s
  | .rangeSwitch n => Sys2Proof.Machine.execRangeSwitch n s
  | .rangeBreakEnd n => Sys2Proof.Machine.execRangeBreakEnd n s
  | .rangeHoldSwitch n => Sys2Proof.Machine.execRangeHoldSwitch n s
  | .rangeNoOverlap n => Sys2Proof.Machine.execRangeNoOverlap n s
  | .fastArm r n v => Sys2Proof.Machine.execFastArm r n v s
  | .fastFire n => Sys2Proof.Machine.execFastFire n s
  | .fastSpApply n => Sys2Proof.Machine.execFastSpApply n s
  | .triginEdge j => Sys2Proof.Machine.execTriginEdge j s
  | .trigoutPulseEnd j => Sys2Proof.Machine.execTrigoutPulseEnd j s
  | .pwgRun p w => Sys2Proof.Machine.execPwgRun p w s
  | .pwgWrap p => Sys2Proof.Machine.execPwgWrap p s
  | .pwgWidthEnd p => Sys2Proof.Machine.execPwgWidthEnd p s
  | .ringConfig r data => Sys2Proof.Machine.execRingConfig r data s
  | .ringFree r ring => Sys2Proof.Machine.execRingFree r ring s
  | .ringFlush r ring => Sys2Proof.Machine.execRingFlush r ring s
  | .ringPush m w => Sys2Proof.Machine.execRingPush m w s
  | .ringPop m w => Sys2Proof.Machine.execRingPop m w s
  | .hwRecordWrite src => Sys2Proof.Machine.execHwRecordWrite src s
  | .lossRateUpdate => Sys2Proof.Machine.execLossRateUpdate s
  | .listStart r n v => Sys2Proof.Machine.execListStart r n v s
  | .listStop r n v => Sys2Proof.Machine.execListStop r n v s
  | .swpTrig r n v => Sys2Proof.Machine.execSwpTrig r n v s
  | .stepStart n => Sys2Proof.Machine.execStepStart n s
  | .stepDwellEnd n => Sys2Proof.Machine.execStepDwellEnd n s
  | .stepMeasureEnd n => Sys2Proof.Machine.execStepMeasureEnd n s
  | .stepAdvanceTrigger n => Sys2Proof.Machine.execStepAdvanceTrigger n s
  | .semWrite m k w => Sys2Proof.Machine.execSemWrite m k w s
  | .arbGrant res cost => Sys2Proof.Machine.execArbGrant res cost s
  | .grantEnd res => Sys2Proof.Machine.execGrantEnd res s
  | .arbWindowBoundary res => Sys2Proof.Machine.execArbWindowBoundary res s
  | .arbCommit r v => Sys2Proof.Machine.execArbCommit r v s
  | .arbWaitForce res q => Sys2Proof.Machine.execArbWaitForce res q s
  | .signalDetect p => Sys2Proof.Machine.execSignalDetect p s
  | .trainComplete p => Sys2Proof.Machine.execTrainComplete p s
  | .alignComplete p delayU => Sys2Proof.Machine.execAlignComplete p delayU s
  | .portRestart p => Sys2Proof.Machine.execPortRestart p s
  | .linkLoss p why => Sys2Proof.Machine.execLinkLoss p why s
  | .portEnWrite r p v => Sys2Proof.Machine.execPortEnWrite r p v s
  | .normalFrameRx p bytes fin => Sys2Proof.Machine.execNormalFrameRx p bytes fin s
  | .expressFrameRx p bytes fin => Sys2Proof.Machine.execExpressFrameRx p bytes fin s
  | .lcAck p v check => Sys2Proof.Machine.execLcAck p v check s
  | .lcNak p v check => Sys2Proof.Machine.execLcNak p v check s
  | .lcXack p v check => Sys2Proof.Machine.execLcXack p v check s
  | .lcXnak p v check => Sys2Proof.Machine.execLcXnak p v check s
  | .lcCredit p v check => Sys2Proof.Machine.execLcCredit p v check s
  | .lcXcredit p v check => Sys2Proof.Machine.execLcXcredit p v check s
  | .lcHello p v check => Sys2Proof.Machine.execLcHello p v check s
  | .lcLinkdown p v check => Sys2Proof.Machine.execLcLinkdown p v check s
  | .retryTimeout p express => Sys2Proof.Machine.execRetryTimeout p express s
  | .frameFail p express => Sys2Proof.Machine.execFrameFail p express s
  | .enumStart => Sys2Proof.Machine.execEnumStart s
  | .enumRestart r v => Sys2Proof.Machine.execEnumRestart r v s
  | .enumAssign id level admitIt gen => Sys2Proof.Machine.execEnumAssign id level admitIt gen s
  | .enumDone p nextId unadmitted => Sys2Proof.Machine.execEnumDone p nextId unadmitted s
  | .enumReady gen nodeCount => Sys2Proof.Machine.execEnumReady gen nodeCount s
  | .topoChange => Sys2Proof.Machine.execTopoChange s
  | .rootlessTimeout => Sys2Proof.Machine.execRootlessTimeout s
  | .syncExchangeStart p => Sys2Proof.Machine.execSyncExchangeStart p s
  | .timeReq p reqNo ago lead => Sys2Proof.Machine.execTimeReq p reqNo ago lead s
  | .timeRsp p stamps reqNo parentLocked ago => Sys2Proof.Machine.execTimeRsp p stamps reqNo parentLocked ago s
  | .exchangeTimeout => Sys2Proof.Machine.execExchangeTimeout s
  | .eqAdapt p peak dfe1 dfe2 dfe3 delayPs => Sys2Proof.Machine.execEqAdapt p peak dfe1 dfe2 dfe3 delayPs s
  | .eyeUpdate p heightMv widthU => Sys2Proof.Machine.execEyeUpdate p heightMv widthU s
  | .schedTrig r data => Sys2Proof.Machine.execSchedTrig r data s
  | .trigFrame p addr target id origin gmask chmask => Sys2Proof.Machine.execTrigFrame p addr target id origin gmask chmask s
  | .triggerExecute => Sys2Proof.Machine.execTriggerExecute s
  | .tunReq seg => Sys2Proof.Machine.execTunReq seg s
  | .tunRsp seg => Sys2Proof.Machine.execTunRsp seg s
  | .tunEvt seg => Sys2Proof.Machine.execTunEvt seg s
  | .tunNack tag entry reason => Sys2Proof.Machine.execTunNack tag entry reason s
  | .reassemblyTimeout slot => Sys2Proof.Machine.execReassemblyTimeout slot s
  | .tunTxGo k w data => Sys2Proof.Machine.execTunTxGo k w data s
  | .tunTxCancel k => Sys2Proof.Machine.execTunTxCancel k s
  | .tunRxFree mask => Sys2Proof.Machine.execTunRxFree mask s
  | .cmdqEntry => Sys2Proof.Machine.execCmdqEntry s
  | .frdyReady => Sys2Proof.Machine.execFrdyReady s
  | .frdyTimeout => Sys2Proof.Machine.execFrdyTimeout s
  | .fspAttemptFail why elapsed => Sys2Proof.Machine.execFspAttemptFail why elapsed s
  | .cmdqEntryComplete rx => Sys2Proof.Machine.execCmdqEntryComplete rx s
  | .xipMiss addr => Sys2Proof.Machine.execXipMiss addr s
  | .xipFillComplete => Sys2Proof.Machine.execXipFillComplete s
  | .xipInvalidate r v => Sys2Proof.Machine.execXipInvalidate r v s
  | .busyPoll status => Sys2Proof.Machine.execBusyPoll status s
  | .flashStuck => Sys2Proof.Machine.execFlashStuck s
  | .fspRelease r v => Sys2Proof.Machine.execFspRelease r v s
  | .fspAcquire r v => Sys2Proof.Machine.execFspAcquire r v s
  | .modeFault => Sys2Proof.Machine.execModeFault s
  | .mfQuietReacquire => Sys2Proof.Machine.execMfQuietReacquire s
  | .mgpFrameStart => Sys2Proof.Machine.execMgpFrameStart s
  | .mgpFrameEnd bytes => Sys2Proof.Machine.execMgpFrameEnd bytes s
  | .mgpPoll alive => Sys2Proof.Machine.execMgpPoll alive s
  | .mgpRead idx el dtype => Sys2Proof.Machine.execMgpRead idx el dtype s
  | .mgpWrite idx el dtype epoch data => Sys2Proof.Machine.execMgpWrite idx el dtype epoch data s
  | .mgpStream items => Sys2Proof.Machine.execMgpStream items s
  | .mgpFlashRead offset count data => Sys2Proof.Machine.execMgpFlashRead offset count data s
  | .mgpFlashWrite offset data readBackEqual => Sys2Proof.Machine.execMgpFlashWrite offset data readBackEqual s
  | .mgpFlashErase offset => Sys2Proof.Machine.execMgpFlashErase offset s
  | .mgpReplyComplete => Sys2Proof.Machine.execMgpReplyComplete s
  | .badgerClassify => Sys2Proof.Machine.execBadgerClassify s
  | .ackQuietClose cls src => Sys2Proof.Machine.execAckQuietClose cls src s
  | .faultAck r v => Sys2Proof.Machine.execFaultAck r v s
  | .appPost w => Sys2Proof.Machine.execAppPost w s
  | .force r data => Sys2Proof.Machine.execForce r data s
  | .testEnter r v => Sys2Proof.Machine.execTestEnter r v s
  | .testExit r v => Sys2Proof.Machine.execTestExit r v s
  | .inject r data => Sys2Proof.Machine.execInject r data s
  | .injectionEnd => Sys2Proof.Machine.execInjectionEnd s
  | .alertPulseEnd => Sys2Proof.Machine.execAlertPulseEnd s
  | .evtPulseEnd x => Sys2Proof.Machine.execEvtPulseEnd x s
  | .evtClear r x mask => Sys2Proof.Machine.execEvtClear r x mask s
  | .fifoPop => Sys2Proof.Machine.execFifoPop s
  | .supplyRisingThreshold sup => Sys2Proof.Machine.execSupplyRisingThreshold sup s
  | .rstNHigh => Sys2Proof.Machine.execRstNHigh s
  | .ethernetLinkLoss => Sys2Proof.Machine.execEthernetLinkLoss s
  | .rmiiPllLock => Sys2Proof.Machine.execRmiiPllLock s
  | .xipHit addr => Sys2Proof.Machine.execXipHit addr s

end Sys2Proof.Machine
end

