-- ==== Sys2Proof/Machine/Time.lean ====
section
/-! DEFINITION. The passing of one CCLK period: the timebase (R65, R66) and a TBC load that waits (R67). -/

namespace Sys2Proof.Machine

/-- The timebase after one CCLK cycle (R66): the fraction takes the rate trim, and its carry advances the count one more
or one less. -/
def Clocks.count (c : Clocks) : Clocks :=
  let past := (c.tbc :: c.past).take 144
  if c.loadPending then { c with tbc := c.tbcSet, frac := 0, loadPending := false, past := past }
  else
    let f : Int := (c.frac.toNat : Int) + c.rate
    { c with
      past := past
      frac := BitVec.ofInt 32 f
      tbc := BitVec.ofInt 64 ((c.tbc.toNat : Int) + 1 + f / 2 ^ 32) }

/-- ROOT_FREQ_OK after one CCLK cycle: at the end of each window of 24 REFCLK cycles, 240 CCLK cycles, it shows whether
the count of that window, a free value, was 235 to 245 (Table 2.2, R85). -/
def Clocks.rootWindow (c : Clocks) (now : Nat) : Clocks :=
  if c.monitorsOn && decide (c.rootAt + 240 ≤ now) then
    { c with rootAt := now
             rootFreqOk := decide (235 ≤ Config.rootCount now) && decide (Config.rootCount now ≤ 245) }
  else c

/-- One CCLK period passes. The TBC counts, and the ROOT frequency monitor measures, while the root-derived clocks
run. -/
def tick (s : State) : State :=
  { s with now := s.now + 1, clk := if s.clk.pllLock then s.clk.count.rootWindow (s.now + 1) else s.clk }

end Sys2Proof.Machine
end

