-- ==== Sys2Proof/WellFormed.lean ====
section
/-! DEFINITION. Which commands are well formed: the operands lie in the ranges in which the interfaces of the block can
deliver them. The machine gives a meaning to every command; well-formedness is what statements about encodings and
interfaces assume. -/

namespace Sys2Proof

/-- The control-law instruction that a loop command executes, with its engine (R267). -/
def Instr.loop : Instr → Option (Eng × LoopInstr)
  | .leNop e => some (e, .nop)
  | .leMov e d a => some (e, .mov d a)
  | .leAdd e d a b => some (e, .add d a b)
  | .leSub e d a b => some (e, .sub d a b)
  | .leMul e d a b => some (e, .mul d a b)
  | .leMac e a b => some (e, .mac a b)
  | .leMsu e a b => some (e, .msu a b)
  | .leClra e => some (e, .clra)
  | .leLda e a => some (e, .lda a)
  | .leSta e d => some (e, .sta d)
  | .leMin e d a b => some (e, .min d a b)
  | .leMax e d a b => some (e, .max d a b)
  | .leLim e d a b => some (e, .lim d a b)
  | .leAbs e d a => some (e, .abs d a)
  | .leNeg e d a => some (e, .neg d a)
  | .leShl e d a imm => some (e, .shl d a imm)
  | .leShr e d a imm => some (e, .shr d a imm)
  | .leDiv e d a b => some (e, .div d a b)
  | .leIntg e d a b => some (e, .intg d a b)
  | .leBqd e d a b imm => some (e, .bqd d a b imm)
  | .leLdi e d imm => some (e, .ldi d imm)
  | .leBneg e a imm => some (e, .bneg a imm)
  | .leBpos e a imm => some (e, .bpos a imm)
  | .leBz e a imm => some (e, .bz a imm)
  | .leBnz e a imm => some (e, .bnz a imm)
  | .leBfs e b imm => some (e, .bfs b imm)
  | .leJmp e imm => some (e, .jmp imm)
  | .leEnd e => some (e, .fin)
  | .leTunt e => some (e, .tunt)
  | _ => none

/-- The commands that reach a word of the register space by its address (R15, Table 3.16). -/
def Instr.accesses (i : Instr) : Bool :=
  match i with
  | .registerWrite _ _ _ | .reg64LowRead _ _ | .reg64LowWrite _ _ _ | .counterWrite _ _ _ _ | .statusW1c _ _ _ _ _ => true
  | _ => false

/-- A decimation window that a converter can deliver: a tick of N = 40 or more holds at least 20 conversions (R58,
R341). -/
def AdcWin.wf (w : AdcWin) : Bool := decide (20 ≤ w.codes.length)

/-- Both windows of a channel; the converters differ by at most one conversion, in METER alone (R341, R347). -/
def ChanWin.wf (w : ChanWin) : Bool :=
  w.a.wf && w.b.wf && decide (w.a.codes.length ≤ w.b.codes.length + 1) && decide (w.b.codes.length ≤ w.a.codes.length + 1)

/-- A tunnel segment: its number lies below the count of segments, and its data within the transfer (R522). -/
def Segment.wf (g : Segment) : Bool :=
  decide (g.seg.toNat < g.segCount.toNat) && decide (g.data.length ≤ g.totalLen.toNat)

/-- The checks on one command; a loop command passes the checks of R272 on its fields. -/
def Instr.wf (i : Instr) : Bool :=
  match i with
  | .loopTick _ w0 w1 => w0.wf && w1.wf
  | .ropDatagram _ _ bytes _ _ => decide (bytes.length ≤ 1472)
  | .macFrameRx bytes _ => decide (bytes.length ≤ 1518)
  | .tunReq g | .tunRsp g | .tunEvt g => g.wf
  | .captureComplete _ codes => decide (codes.length ≤ 4096)
  | .arbGrant _ cost => decide (0 < cost)
  | i => match i.loop with
    | some (_, l) => l.wf
    | none => true

end Sys2Proof
end

