-- ==== Sys2Proof/Safety.lean ====
section
/-! DEFINITION. What statements about the block are made of: when a request passes every check, what an entry into RESET
leaves, the parts of the state and what it is to leave a part alone, and the invariant of a safe run. -/

namespace Sys2Proof.Machine

/-- A request that every check of R97 and R98 lets pass, judged on the state before it and on the state that its write
would leave (R109). -/
abbrev Obj.Admits (o : Obj) (r : Req) (ty : Byte) (data : List Byte) (s : State) : Prop :=
  o.verdict ty ⟨r, data, s, o.put ⟨r, data, s, s, s⟩ s, s⟩ = eOk

/-- A request that was admitted and did what it asks for: answered with E_OK, it left u but for the answer, and where the
Instructor sent it over MGP, u with ten more minutes of UNLOCKED (R179). -/
def Done (r : Req) (u : State) (o : Host.Outcome State Fault Refusal) : Prop :=
  ∃ t, o = .next t ∧ t.answer.code = eOk ∧ t = { u.instructorCommand r.path eOk with answer := t.answer }

/-- A message was sent: where the source's queue of eight has room, it joins the queue behind the others (R583). -/
def Sends (s t : State) (src : BitVec 6) (kind : Byte) (base : Level) (detail : Nat) : Prop :=
  s.badger.queue.countP (·.source == src) < 8 → ∃ m, t.badger.queue = s.badger.queue ++ [m] ∧ m.source = src
    ∧ m.kind = kind ∧ m.base = base ∧ m.detail = BitVec.ofNat 24 detail

/-- Nothing of the channels other than n differs between two states. -/
abbrev OthersKept (n : Ch) (s t : State) : Prop := ∀ m, m ≠ n → t.chan m = s.chan m

/-- The accepted change of mode waits at this boundary for the range change that was in progress at its acceptance, its switch
tick among it (R238). -/
def WaitsAtBoundary (c : Channel) : Prop := c.mode.status = .waitRange ∧ (c.rangeRuns = true ∨ c.loop.rsw = true)

/-- One control-law instruction of engine e: its run takes a new value and nothing else changes. -/
def Stepped (e : Eng) (s t : State) : Prop := t = s.modEng e fun g => { g with run := (t.engine e).run }

/-- The run r' that an instruction leaves which stores the result v, a number of Q2.30 units, to D in k cycles (R262): D takes
the nearest value that Q2.30 holds, a saturation sets QSAT, ACC and every other slot stay, and the next instruction
follows. -/
def Stores (r r' : Run) (d : Opnd) (v : Int) (k : Nat) : Prop :=
  r' = { writeOp r d (BitVec.ofInt 32 (if v < -2147483648 then -2147483648 else if 2147483647 < v then 2147483647 else v)) with
    flags := if v < -2147483648 ∨ 2147483647 < v then r.flags ||| 0x80 else r.flags
    pc := r.pc + 1, cycles := r.cycles + k }

/-- The run r' that an instruction leaves which puts the value v, a number of Q4.60 units, into ACC in k cycles (R261). -/
def Accumulates (r r' : Run) (v : Int) (k : Nat) : Prop :=
  r' = { r with
    acc := BitVec.ofInt 64 (if v < -9223372036854775808 then -9223372036854775808
      else if 9223372036854775807 < v then 9223372036854775807 else v)
    flags := if v < -9223372036854775808 ∨ 9223372036854775807 < v then r.flags ||| 0x80 else r.flags
    pc := r.pc + 1, cycles := r.cycles + k }

/-- The run r' that a branch by imm leaves (R267): taken, 1 + imm instructions on in two cycles; otherwise the next in one. -/
def Branches (r r' : Run) (imm : Byte) (taken : Prop) : Prop :=
  (taken → r' = { r with pc := r.pc + 1 + imm.toNat, cycles := r.cycles + 2 }) ∧
  (¬ taken → r' = { r with pc := r.pc + 1, cycles := r.cycles + 1 })

/-- A sum of terms formed in an accumulator of Q4.60, saturated at each (R261). -/
def formed (terms : List Int) : Int := terms.foldl (fun acc x => clampInt (-2 ^ 63) (2 ^ 63 - 1) (acc + x)) 0

/-- An accumulator of Q4.60 stored: rounded to Q2.30 with ties toward plus infinity, and saturated (R262). -/
def stored (acc : Int) : Int := clampInt (-2 ^ 31) (2 ^ 31 - 1) ((acc + 2 ^ 29) / 2 ^ 30)

/-- What BQD leaves (R276, Table 7.5): with K0 to K4 from slot B on, the sample v = A and the states z1 and z2 of s slots imm and
imm + 1, y = K0·v + z1 goes to D, and the states become K1·v − K3·y + z2 and K2·v − K4·y; D is stored last. -/
def Filters (x : Inputs) (r r' : Run) (d a b : Opnd) (imm : Byte) : Prop :=
  let k := fun j => ((x.k[b.toNat - 0x18 + j]?).getD 0).toInt
  let v := readInt x r a
  let y := stored (formed [k 0 * v, readInt x r (sOp imm.toNat) * 2 ^ 30])
  let z1 := stored (formed [k 1 * v, -(k 3 * y), readInt x r (sOp (imm.toNat + 1)) * 2 ^ 30])
  let acc := formed [k 2 * v, -(k 4 * y)]
  r' = { writeOp (writeOp (writeOp r (sOp imm.toNat) (BitVec.ofInt 32 z1)) (sOp (imm.toNat + 1))
          (BitVec.ofInt 32 (stored acc))) d (BitVec.ofInt 32 y) with
    acc := BitVec.ofInt 64 acc, flags := r'.flags, pc := r.pc + 1, cycles := r.cycles + 8 }
  ∧ (r'.flags = r.flags ∨ r'.flags = r.flags ||| 0x80)

/-- A bank's notch was designed from d: its five coefficients stand in slots k3 to k7, for NOTCH_F or for 0.45 / T where that is
less, which NOTCH_STATE tells (R277, R279). -/
def NotchDesigned (s t : State) (n : Ch) (bank : Fin 4) (d : Notch) : Prop :=
  let per := (s.engine n.engine).nActive
  let f := mul64 (f32To64 d.f) one64
  let low := (f64Val (notchTop per)).lt (f64Val f)
  (t.chan n).notch[bank.val] = { d with state := bNat low } ∧
    (t.chan n).coefs.banks[bank.val] = putSlots (s.chan n).coefs.banks[bank.val] 3
      (notchCoefs (if low then notchTop per else f) (f32To64 d.q) (f32To64 d.depth) (period64 per))

/-- The code that an inner run of channel n queues when nothing but it is due: the drive of the run as a code, or the last code
where the run is the first of its program, with the injection of LAC, within the codes of the DAC (R281, R328, R384). -/
def codeOfRun (s : State) (n : Ch) : Nat :=
  let c := s.chan n
  (clampInt 0 262143 ((if c.loop.first then (c.last.code : Int) else c.codeOfDrive (innerRun s c).out) + c.lacInject)).toNat

/-- The service of channel n from cycle k on ends in time, with no occasional step due and no program change to clear slots
for (R259, R291). -/
def PlainService (s : State) (n : Ch) (k : Nat) : Prop :=
  let c := s.chan n
  c.awaits = true ∧ c.out.holdTick = false ∧ c.outerNow = false ∧ c.loop.lacDue = false ∧ c.loop.tuneDue = false
    ∧ (c.loop.lastProg = 0 ∨ c.loop.lastProg = c.innerProg)
    ∧ k + c.loop.extra + 10 + (innerRun s c).cycles ≤ deadlineOf s n

/-- An entry into RESET with its causes (R203): the entry is counted, the brown-out bits and HALTED are added to the cause,
LAST_HALT stays, the queues and slots of Badger are empty, and every channel and engine is at its defaults. -/
def EntersReset (s t : State) (cause : W16) : Prop :=
  t.dev.state = .reset ∧ t.dev.resetCount = ({ value := s.dev.resetCount.value } : Counter).inc
    ∧ t.dev.resetCause = cause ||| brownOut t.power ||| (if s.dev.state = .halt then 0x0200 else 0)
    ∧ t.dev.lastHalt = s.dev.lastHalt ∧ t.badger.queue = [] ∧ t.badger.slots = []
    ∧ (∀ n, t.chan n = {}) ∧ (∀ e, t.engine e = {})

/-- What a power-on of the always-on domain leaves (R203, R204, R592). -/
def PoweredOn (t : State) : Prop :=
  t.dev.state = .reset ∧ t.dev.resetCount.value = 1 ∧ t.dev.resetCause = 1 ||| brownOut t.power ∧ t.dev.lastHalt = 0
    ∧ t.power.aonHeld = true ∧ t.badger.history = [] ∧ t.trust.instr.state = .locked ∧ (∀ n, t.chan n = {})

/-- A write of the object dictionary: who asks, the object, and the type and data that come with it. -/
structure DictWrite where
  req : Req
  obj : Obj
  ty : Byte
  data : List Byte

/-- The write that a request command makes: a command of the table that is a write of one object under a name of its own. -/
def requestOf : Instr → Option DictWrite
  | .ringConfig r data => some ⟨r, objRingConfig, tBlob, data⟩
  | .ringFree r ring => some ⟨r, objRingFree, tU16, natBytes 2 ring.toNat⟩
  | .ringFlush r ring => some ⟨r, objRingFlush, tU16, natBytes 2 ring.toNat⟩
  | .rangeReq r n v => some ⟨r, objRangeReq n, tU8, [v]⟩
  | .fastArm r n v => some ⟨r, objFastArm n, tU8, [v]⟩
  | .srcResume r n v => some ⟨r, objSrcResume n, tU8, [v]⟩
  | .lacRevert r n v => some ⟨r, objLacRevert n, tU8, [v]⟩
  | .lacResume r n v => some ⟨r, objLacResume n, tU8, [v]⟩
  | .capArm r n v => some ⟨r, objCapArm n, tU8, [v]⟩
  | .calPoint r n v => some ⟨r, objCalPoint n, tU8, [v]⟩
  | .calCompute r n v => some ⟨r, objCalCompute n, tU8, [v]⟩
  | .scanStart r v => some ⟨r, objScanStart, tU8, [v]⟩
  | .scanStop r v => some ⟨r, objScanStop, tU8, [v]⟩
  | .urgReq r v => some ⟨r, objUrgReq, tU8, [v]⟩
  | .listStart r n v => some ⟨r, objListStart n, tU8, [v]⟩
  | .listStop r n v => some ⟨r, objListStop n, tU8, [v]⟩
  | .swpTrig r n v => some ⟨r, objSwpTrig n, tU8, [v]⟩
  | .modeRequest r n v => some ⟨r, objMode n, tU8, [v]⟩
  | .offNow r n v => some ⟨r, objOffNow n, tU8, [v]⟩
  | .loopNRequest r e n => some ⟨r, objLoopN e, tU16, natBytes 2 n.toNat⟩
  | .peakClear r e v => some ⟨r, objPeakClear e, tU8, [v]⟩
  | .loadMain r n data => some ⟨r, objLoadMain n, tBlob, data⟩
  | .loadOuter r n data => some ⟨r, objLoadOuter n, tBlob, data⟩
  | .unload r n v => some ⟨r, objUnload n, tU8, [v]⟩
  | .loopSyncArm r v => some ⟨r, objSyncArm, tU8, [v]⟩
  | .deviceReset r v => some ⟨r, objDeviceReset, tU8, [v]⟩
  | .appReset r v => some ⟨r, objAppReset, tU8, [v]⟩
  | .unlock r code => some ⟨r, objUnlock, tBlob, code⟩
  | .lock r v => some ⟨r, objLock, tU8, [v]⟩
  | .setCode r code => some ⟨r, objSetCode, tBlob, code⟩
  | .save r v => some ⟨r, objSave, tU8, [v]⟩
  | .keyProgram r data => some ⟨r, objKeyProgram, tBlob, data⟩
  | .keyDisable r data => some ⟨r, objKeyDisable, tBlob, data⟩
  | .claim r n v => some ⟨r, objClaim n, tU8, [v]⟩
  | .release r n v => some ⟨r, objRelease n, tU8, [v]⟩
  | .faultAck r v => some ⟨r, objFaultAck, tU16, natBytes 2 v.toNat⟩
  | .force r data => some ⟨r, objForce, tBlob, data⟩
  | .testEnter r v => some ⟨r, objTestEnter, tU8, [v]⟩
  | .testExit r v => some ⟨r, objTestExit, tU8, [v]⟩
  | .inject r data => some ⟨r, objInject, tBlob, data⟩
  | .evtClear r x mask => some ⟨r, objEvtClear x, tU32, natBytes 4 mask.toNat⟩
  | .portEnWrite r p v => some ⟨r, objPortEn p, tBool, [v]⟩
  | .enumRestart r v => some ⟨r, objEnumRestart, tU8, [v]⟩
  | .schedTrig r data => some ⟨r, objSchedTrig, tBlob, data⟩
  | .xipInvalidate r v => some ⟨r, objXipInvalidate, tU8, [v]⟩
  | .fspRelease r v => some ⟨r, objFspRelease, tU8, [v]⟩
  | .fspAcquire r v => some ⟨r, objFspAcquire, tU8, [v]⟩
  | .arbCommit r v => some ⟨r, objArbCommit, tU8, [v]⟩
  | .limitWrite r n el ty data => (objLimit n el.toNat).map fun o => ⟨r, o, ty, data⟩
  | .notchDesign r n bank el v => (objNotch n bank.val el.toNat).map fun o => ⟨r, o, tF32, natBytes 4 v.toNat⟩
  | _ => none

/-- What a refused write leaves alone: everything but the answer, a channel's LAST_REJECT, an arbiter's COMMIT_STATE and the
count of E_BUSY answers (R95, R231, R474, R132). -/
def RefusalKeeps (s t : State) : Prop :=
  t.otp = s.otp ∧ t.ident = s.ident ∧ t.power = s.power ∧ t.dev = s.dev ∧ t.clk = s.clk ∧ t.eng = s.eng
    ∧ t.trust = s.trust ∧ { t.rop with busyCount := s.rop.busyCount } = s.rop ∧ t.eth = s.eth
    ∧ t.badger = s.badger ∧ t.events = s.events ∧ t.hamper = s.hamper
    ∧ t.aux = s.aux ∧ t.trig = s.trig ∧ t.ronko = s.ronko ∧ t.fsp = s.fsp ∧ t.xip = s.xip ∧ t.mgp = s.mgp ∧ t.now = s.now
    ∧ t.lockoutRec = s.lockoutRec ∧ t.refMon = s.refMon
    ∧ { t.pool with commitState := s.pool.commitState } = s.pool
    ∧ { t.link with commitState := s.link.commitState } = s.link
    ∧ { t.bus with commitState := s.bus.commitState } = s.bus
    ∧ t.emit = s.emit ∧ t.free = s.free ∧ t.pending = s.pending
    ∧ ∀ n, t.chan n = { s.chan n with mode := { (s.chan n).mode with lastReject := (t.chan n).mode.lastReject } }

/-- The pool write port is free and nothing but the application core requests it. -/
def PortQuiet (s : State) : Prop := s.pool.owner = none ∧ poolRequesting s [] = []

/-- The transaction stands as a bundle at the head of the host command ring, whole (R129, R431). -/
def inRing (s : State) (y : Queued) : Prop := (takeCommand s (datagramRecs y.bytes).length).2 = datagramRecs y.bytes

/-- The state in which the server executes the transaction at the head of the host command ring, having taken it out (R129,
R131). -/
def serving (s : State) (y : Queued) (us : Nat) : State :=
  (takeCommand s (datagramRecs y.bytes).length).1.modRop fun r =>
    { r with queue := s.rop.queue.tail, serviceUs := (us :: s.rop.serviceUs).take 64 }

/-- Nothing waits at a port's output, and no kept frame waits to be sent again. -/
def OutputQuiet (q : PortSt) : Prop :=
  q.outX = [] ∧ q.outFwd = [] ∧ q.kept.any (·.again) = false ∧ q.xkept.any (·.again) = false

/-- Kept frames of which the first c have been sent again and the others wait for credits (R498, R499). -/
def SentAgain (c : Nat) (kept : List Kept) : List Kept :=
  (kept.take c).map (fun x => { x with attempts := x.attempts + 1 }) ++ (kept.drop c).map fun x => { x with again := true }

/-- The parts of the state: its fields but for the queue. -/
inductive Part where
  | otp | ident | power | dev | clk | eng | ch | trust | lockoutRec | rop | eth | badger | events | hamper | pool |
  link | bus | aux | refMon | trig | ronko | fsp | xip | mgp | now | answer | emit | free
  deriving DecidableEq, Repr

/-- A part is the same in two states. -/
def Part.kept : Part → State → State → Prop
  | .otp, s, t => t.otp = s.otp
  | .ident, s, t => t.ident = s.ident
  | .power, s, t => t.power = s.power
  | .dev, s, t => t.dev = s.dev
  | .clk, s, t => t.clk = s.clk
  | .eng, s, t => t.eng = s.eng
  | .ch, s, t => t.ch = s.ch
  | .trust, s, t => t.trust = s.trust
  | .lockoutRec, s, t => t.lockoutRec = s.lockoutRec
  | .rop, s, t => t.rop = s.rop
  | .eth, s, t => t.eth = s.eth
  | .badger, s, t => t.badger = s.badger
  | .events, s, t => t.events = s.events
  | .hamper, s, t => t.hamper = s.hamper
  | .pool, s, t => t.pool = s.pool
  | .link, s, t => t.link = s.link
  | .bus, s, t => t.bus = s.bus
  | .aux, s, t => t.aux = s.aux
  | .refMon, s, t => t.refMon = s.refMon
  | .trig, s, t => t.trig = s.trig
  | .ronko, s, t => t.ronko = s.ronko
  | .fsp, s, t => t.fsp = s.fsp
  | .xip, s, t => t.xip = s.xip
  | .mgp, s, t => t.mgp = s.mgp
  | .now, s, t => t.now = s.now
  | .answer, s, t => t.answer = s.answer
  | .emit, s, t => t.emit = s.emit
  | .free, s, t => t.free = s.free

/-- The parts that writes of objects and of registers can reach: all but the identity and the time. -/
def Part.writable : List Part :=
  [.otp, .power, .dev, .clk, .eng, .ch, .trust, .lockoutRec, .rop, .eth, .badger, .events, .hamper, .pool, .link,
   .bus, .aux, .refMon, .trig, .ronko, .fsp, .xip, .mgp, .answer, .emit, .free]

/-- The parts that an entry into RESET sets (R203). -/
def Part.reset : List Part :=
  [.power, .dev, .clk, .eng, .ch, .trust, .rop, .eth, .badger, .events, .hamper, .pool, .link, .bus, .aux, .refMon,
   .trig, .ronko, .fsp, .xip, .mgp]

/-- The parts of the state that a command may change: what the rules of its row name, and what follows from it by the rules
of messages, events, rings and frames. A write that can name any object or register, or that carries such a write, may
change every part that one of them can reach; of a write of one object, the parts that this object sets, the answer and
the Instructor's ten minutes (R179). -/
def touchesOf : Instr → List Part
  | .supplyFail .. | .aonPor .. | .rstNRecognised .. | .supWatchdogExpire .. => Part.reset
  | .aonResetRelease .. => [.power, .trust, .lockoutRec, .events]
  | .deviceReset .. => [.dev, .trust, .rop, .answer]
  | .deviceResetTimeout .. | .mgpFrameEnd .. | .mgpPoll .. => .emit :: Part.reset
  | .bootEntry .. => [.dev, .clk, .badger, .fsp, .xip, .mgp, .emit]
  | .refPresentSet .. | .tbcRateWrite .. | .tbcLoad .. | .rmiiPllLock .. => [.clk]
  | .pllLock .. => [.dev, .clk, .eng, .ch, .trust, .badger, .events, .hamper, .ronko, .fsp, .emit]
  | .pllLockTimeout .. | .clockMonitorFail .. => [.dev, .clk, .eng, .ch, .trust, .rop, .badger, .events, .hamper, .aux,
    .ronko, .fsp]
  | .refPresentTimeout .. | .badgerClassify .. => [.dev, .eng, .ch, .trust, .rop, .badger, .events, .hamper, .aux,
    .ronko, .fsp]
  | .verifyComplete .. => [.dev, .ch, .trust, .badger, .events, .hamper, .ronko, .fsp, .xip, .emit]
  | .refReadySet .. => [.dev, .eng, .ch, .aux]
  | .refReadyTimeout .. | .clampHoldRepeat .. | .ackQuietClose .. | .appPost .. | .alertPulseEnd .. => [.badger]
  | .refWindowFail .. => [.dev, .eng, .ch, .badger, .aux, .refMon]
  | .refVoltsUpdate .. => [.dev, .refMon]
  | .appWdtCtrlWrite .. => [.dev]
  | .appWdtKick .. | .appWdtExpire .. => [.dev, .ch, .trust, .rop, .badger, .events, .hamper]
  | .loopNRequest .. | .modeRequest .. | .loadMain .. | .loadOuter .. => [.eng, .ch, .trust, .rop, .answer]
  | .loopTick .. => [.eng, .ch, .events, .hamper, .aux, .free]
  | .loopSyncArm .. => [.clk, .trust, .rop, .answer]
  | .loopSyncRestart .. => [.clk, .eng]
  | .reg64LowRead .. => [.clk, .answer]
  | .reg64LowWrite .. | .counterWrite .. | .statusW1c .. | .registerWrite .. | .ropDatagram .. | .ropWrite .. |
    .broadcastReply .. | .mbxWrite .. | .mbxCommit .. | .normalFrameRx .. | .tunReq .. | .tunRsp .. | .tunEvt .. |
    .mgpWrite .. => Part.writable
  | .periodRegWrite .. => [.aux, .trig]
  | .ropRead .. => [.clk, .badger, .hamper, .answer]
  | .readRing .. => [.rop, .badger, .hamper, .answer]
  | .writeRing .. => [.ch, .eth, .badger, .events, .hamper, .pool, .link, .bus, .fsp, .mgp, .answer, .free]
  | .sessionOpen .. => [.rop, .events, .answer]
  | .sessionClose .. | .release .. | .listStop .. => [.ch, .trust, .rop, .events, .hamper, .answer]
  | .keepalive .. => [.rop, .answer]
  | .transactionTimeout .. => [.rop, .hamper, .ronko, .emit]
  | .sessionExpire .. | .sessCmdOpen .. | .sessCmdTouch .. | .sessCmdClose .. => [.ch, .trust, .rop, .events, .hamper]
  | .busyPerSUpdate .. => [.rop, .eth]
  | .linkUp .. | .dhcpRetransmit .. | .dhcpReply .. | .dhcpRenew .. | .dhcpRebind .. | .arpRequest .. | .icmpEcho .. =>
    [.eth, .emit]
  | .leaseExpire .. | .arpAge .. | .mdioGo .. | .mdioComplete .. | .ethernetLinkLoss .. => [.eth]
  | .macFrameRx .. => [.eth, .events, .hamper]
  | .macFrameTx .. => [.eth, .badger, .hamper, .emit]
  | .eventDatagramSend .. => [.rop, .events, .ronko, .emit]
  | .mbxStage .. | .mbxAbort .. | .mbxAppend .. => [.trust]
  | .protViolation .. => [.trust, .badger, .emit]
  | .keyProgram .. | .keyDisable .. => [.otp, .trust, .rop, .answer]
  | .unlock .. => [.trust, .lockoutRec, .rop, .events, .fsp, .xip, .answer, .emit]
  | .lock .. => [.ch, .trust, .rop, .badger, .events, .answer]
  | .setCode .. | .save .. => [.trust, .rop, .answer]
  | .saveComplete .. => [.trust, .events, .fsp, .xip, .emit]
  | .unlockTimeout .. => [.ch, .trust, .badger, .events]
  | .lockoutEnd .. => [.trust, .lockoutRec, .fsp, .xip, .emit]
  | .limitWrite .. => [.eng, .ch, .trust, .rop, .events, .hamper, .answer]
  | .claim .. | .swpTrig .. => [.ch, .trust, .rop, .events, .answer]
  | .appReset .. => [.dev, .ch, .trust, .rop, .badger, .events, .hamper, .ronko, .fsp, .answer]
  | .appReverifyComplete .. => [.dev, .ch, .trust, .events, .hamper, .ronko, .fsp, .xip, .emit]
  | .mgmtAliveTimeout .. => [.ch, .trust, .badger, .events, .hamper]
  | .modeChangeApply .. | .enableModeEntry .. | .auxResult .. => [.ch, .events, .hamper, .aux]
  | .offNow .. | .unload .. | .notchDesign .. | .srcResume .. | .lacRevert .. | .lacResume .. | .capArm .. |
    .rangeReq .. | .fastArm .. | .listStart .. => [.ch, .trust, .rop, .answer]
  | .enableStart .. | .tuneDone .. | .captureCopyDone .. | .rangeBreakEnd .. | .stepAdvanceTrigger .. => [.ch, .events]
  | .enableStageOn .. | .folEdge .. | .folStandstill .. | .lacUpdate .. | .captureStart .. | .calCaptureDone .. |
    .phaseUpdate .. | .clampRelease .. | .rangeMake .. | .fastFire .. | .fastSpApply .. => [.ch]
  | .enableLoopClose .. | .safeRampEnd .. | .overrunFallback .. | .tuneSegmentClose .. | .stepDwellEnd .. |
    .stepMeasureEnd .. => [.ch, .events, .hamper]
  | .powerLimitExceeded .. | .followingErrorReport .. | .oscillationReport .. | .clampTrip .. | .injectionEnd .. =>
    [.ch, .badger]
  | .engineService .. => [.eng, .ch, .badger, .events, .hamper]
  | .leNop .. | .leMov .. | .leAdd .. | .leSub .. | .leMul .. | .leMac .. | .leMsu .. | .leClra .. | .leLda .. |
    .leSta .. | .leMin .. | .leMax .. | .leLim .. | .leAbs .. | .leNeg .. | .leShl .. | .leShr .. | .leDiv .. |
    .leIntg .. | .leBqd .. | .leLdi .. | .leBneg .. | .leBpos .. | .leBz .. | .leBnz .. | .leBfs .. | .leJmp .. =>
    [.eng]
  | .leEnd .. | .leTunt .. | .outerStep .. => [.eng, .ch]
  | .deadlineOverrun .. => [.eng, .ch, .badger, .events]
  | .peakClear .. => [.eng, .trust, .rop, .answer]
  | .lacFrameEnd .. => [.ch, .badger, .free]
  | .captureComplete .. => [.ch, .hamper]
  | .scanStart .. => [.trust, .rop, .hamper, .aux, .answer]
  | .scanStop .. | .urgReq .. => [.trust, .rop, .aux, .answer]
  | .scanTimerWrap .. | .scanEnd .. => [.hamper, .aux]
  | .scanDelayEnd .. | .auxSlotStart .. => [.aux]
  | .calPoint .. | .calCompute .. => [.ch, .trust, .rop, .refMon, .answer]
  | .clrNFall .. | .clrNRise .. | .rangeSwitch .. => [.ch, .trig]
  | .rangeHoldSwitch .. | .rangeNoOverlap .. => [.ch, .events, .trig]
  | .triginEdge .. => [.ch, .badger, .events, .trig, .ronko]
  | .trigoutPulseEnd .. | .pwgWidthEnd .. => [.trig]
  | .pwgRun .. | .pwgWrap .. => [.hamper, .aux, .trig]
  | .ringConfig .. | .ringFree .. | .ringFlush .. => [.trust, .rop, .hamper, .answer]
  | .ringPush .. | .hwRecordWrite .. => [.ch, .eth, .badger, .events, .hamper, .pool, .link, .bus, .fsp, .mgp, .free]
  | .ringPop .. => [.badger, .hamper]
  | .lossRateUpdate .. | .semWrite .. => [.hamper]
  | .stepStart .. => [.ch, .badger, .events, .hamper]
  | .arbGrant .. => [.rop, .pool, .link, .bus, .ronko, .fsp, .xip, .emit]
  | .grantEnd .. => [.ch, .eth, .badger, .events, .hamper, .pool, .link, .bus, .fsp, .mgp, .emit, .free]
  | .arbWindowBoundary .. | .arbWaitForce .. => [.pool, .link, .bus]
  | .arbCommit .. => [.trust, .rop, .pool, .link, .bus, .answer]
  | .signalDetect .. | .portRestart .. | .lcHello .. | .enumReady .. | .topoChange .. | .exchangeTimeout .. |
    .eqAdapt .. | .reassemblyTimeout .. | .tunRxFree .. => [.ronko]
  | .trainComplete .. | .lcAck .. | .lcXack .. | .lcCredit .. | .lcXcredit .. | .syncExchangeStart .. | .timeReq .. =>
    [.ronko, .emit]
  | .alignComplete .. | .enumDone .. | .rootlessTimeout .. | .eyeUpdate .. => [.badger, .ronko]
  | .linkLoss .. | .lcNak .. | .lcXnak .. | .lcLinkdown .. | .retryTimeout .. | .frameFail .. | .enumStart .. |
    .enumAssign .. => [.rop, .badger, .ronko, .emit]
  | .portEnWrite .. | .enumRestart .. => [.trust, .rop, .badger, .ronko, .answer, .emit]
  | .expressFrameRx .. | .trigFrame .. => [.badger, .ronko, .emit]
  | .timeRsp .. => [.clk, .badger, .ronko]
  | .schedTrig .. => [.trust, .rop, .badger, .ronko, .answer]
  | .triggerExecute .. => [.ch, .events, .trig, .ronko]
  | .tunNack .. => [.rop, .ronko, .emit, .free]
  | .tunTxGo .. | .tunTxCancel .. => [.rop, .ronko, .emit]
  | .cmdqEntry .. | .frdyTimeout .. | .fspAttemptFail .. | .cmdqEntryComplete .. | .modeFault .. => [.ch, .eth, .badger,
    .events, .hamper, .pool, .link, .bus, .fsp, .xip, .mgp, .emit, .free]
  | .frdyReady .. | .busyPoll .. => [.fsp, .emit]
  | .xipMiss .. => [.xip, .emit]
  | .xipFillComplete .. => [.fsp, .xip, .emit]
  | .xipInvalidate .. => [.trust, .rop, .xip, .answer]
  | .flashStuck .. => [.trust, .badger, .xip, .mgp, .emit]
  | .fspRelease .. => [.trust, .rop, .fsp, .answer, .emit]
  | .fspAcquire .. => [.trust, .rop, .fsp, .answer]
  | .mfQuietReacquire .. => [.fsp]
  | .mgpFrameStart .. | .mgpStream .. => [.mgp, .emit]
  | .mgpRead .. => [.clk, .trust, .badger, .hamper, .mgp]
  | .mgpFlashRead .. => [.trust, .fsp, .mgp, .emit]
  | .mgpFlashWrite .. | .mgpFlashErase .. => [.trust, .fsp, .xip, .mgp, .emit]
  | .mgpReplyComplete .. => [.mgp]
  | .faultAck .. | .force .. | .testEnter .. => [.trust, .rop, .badger, .answer]
  | .testExit .. => [.ch, .trust, .rop, .badger, .answer]
  | .inject .. => [.dev, .clk, .eng, .ch, .trust, .rop, .badger, .events, .hamper, .aux, .refMon, .ronko, .fsp, .answer,
    .emit]
  | .evtPulseEnd .. | .fifoPop .. => [.events]
  | .evtClear .. => [.trust, .rop, .events, .answer]
  | .supplyRisingThreshold .. | .rstNHigh .. => [.power]
  | .xipHit .. => [.xip]

/-- What holds of every state that a run can reach: the rate trim is within its limits (R66), the event FIFO, the history, the ARP
cache and the lines held for execution in place are within their sizes (R601, R592, Table 3.7, R547), and each arbiter has
its requesters (R462, R465, R466). -/
def WithinSizes (s : State) : Prop :=
  -858993 ≤ s.clk.rate ∧ s.clk.rate ≤ 858993 ∧ s.events.fifo.length ≤ 64 ∧ s.badger.history.length ≤ 32
    ∧ s.eth.arp.length ≤ 16 ∧ s.xip.lines.length ≤ 4 ∧ s.pool.reqs.length = 13 ∧ s.link.reqs.length = 4
    ∧ s.bus.reqs.length = 3

end Sys2Proof.Machine
end

