-- ==== Sys2Proof/Certificates/Slice0/Obligations.lean ====
section
/-! DEFINITION. The statements about the block, for the provers. -/

open Sys2Proof Sys2Proof.Machine

/-! ### Supplies, reset and boot (chapter 5) -/

/-- R199 to R203 and R205, Table 5.2: the sources of a reset, each in any state in which the device is not in RESET
already. -/
def Obligations.ResetSourcesEnterReset : Prop :=
  (∀ s sup, sup ≠ .aon → s.dev.state ≠ .reset → ∃ t, exec (.supplyFail sup) s = .next t ∧ EntersReset s t 0
      ∧ t.power.good = s.power.good &&& ~~~(BitVec.twoPow 6 (supplyBit sup))) ∧
  (∀ s, ∃ t, exec (.supplyFail .aon) s = .next t ∧ PoweredOn t ∧ t.power.good = s.power.good &&& 0x3E) ∧
  (∀ s, ∃ t, exec .aonPor s = .next t ∧ PoweredOn t ∧ t.power.good = s.power.good &&& 0x3E) ∧
  (∀ s sup, exec (.supplyRisingThreshold sup) s =
      .next { s with power := { s.power with good := s.power.good ||| BitVec.twoPow 6 (supplyBit sup) } }) ∧
  (∀ s, s.dev.state ≠ .reset → ∃ t, exec .rstNRecognised s = .next t ∧ EntersReset s t 0x0040
      ∧ t.power.aonHeld = true ∧ t.power.rstLow = true) ∧
  (∀ s, exec .rstNHigh s = .next { s with power := { s.power with rstLow := false } }) ∧
  (∀ s, s.dev.state ≠ .reset → ∃ t, exec .supWatchdogExpire s = .next t ∧ EntersReset s t 0x0080
      ∧ t.power.aonHeld = true) ∧
  (∀ s, s.dev.resetPending = true → s.dev.state ≠ .reset → ∃ t, exec .deviceResetTimeout s = .next t
      ∧ EntersReset s t 0x0100 ∧ t.power.aonHeld = true
      ∧ (∀ x, s.trust.instr.saving = some x → t.trust.instr.saved = some x)) ∧
  (∀ s r v, objDeviceReset.Admits r tU8 [v] s → ∃ t, exec (.deviceReset r v) s = .next t
      ∧ t.dev.resetPending = true ∧ t.answer.code = eOk)

/-- R202, R207, R211, R212, R593, R79, R50, R65: from the AON reset's release to the PLL's lock. The straps are
sampled and the lockout record found is taken (R177, chapter 4; how a lockout goes on over a loss of power is DEDUCED log
entry 47), BOOT is entered with REFBUF on, the reset cause reported and the flash probed (R550), and the lock starts the TBC at
0, takes the patch's level (R166, chapter 4) and enters VERIFY. That PLL_EN reads 0 after the third failed lock is the model's
choice (DESIGN CHOICE, log entry 93). -/
def Obligations.BootSequenceCommands : Prop :=
  (∀ s straps lock, s.power.aonHeld = true → s.power.good.getLsbD 0 = true → s.power.rstLow = false →
      ∃ t, exec (.aonResetRelease straps lock) s = .next t ∧ t.power.aonHeld = false ∧ t.power.straps = straps
        ∧ t.dev = s.dev
        ∧ t.lockoutRec = lockoutFound s lock
        ∧ (∀ k l, lockoutFound s lock = some ⟨k, l, true⟩ → t.trust.instr.failedStreak = k
            ∧ t.trust.instr.state = .lockout ∧ t.trust.instr.lockoutEnd = s.now + secs 60)
        ∧ (∀ k l, lockoutFound s lock = some ⟨k, l, false⟩ → t.trust.instr.failedStreak = k
            ∧ t.trust.instr.state = .locked)
        ∧ (lockoutFound s lock = none → s.trust.instr.saved = none → t.trust.instr.failedStreak = 0
            ∧ t.trust.instr.state = .locked)
        ∧ (lockoutFound s lock = none → s.trust.instr.saved ≠ none → t.trust.instr.failedStreak = 5
            ∧ t.trust.instr.state = .lockout ∧ t.trust.instr.lockoutEnd = s.now + secs 60)) ∧
  (∀ s a b, s.dev.state = .reset → s.power.aonHeld = false → s.power.good = 0x3F →
      ∃ t, exec (.bootEntry (a, b)) s = .next t ∧ t.dev.state = .boot ∧ t.dev.refbufOn = true ∧ t.dev.refbufAt = s.now
        ∧ t.clk.pllEn = s.clk.refPresent ∧ t.xip.cont = (a == b && a.length == 16 && a.any (· != 0xFF))
        ∧ t.fsp.contRead = t.xip.cont ∧ t.fsp.inCont = t.xip.cont
        ∧ (s.power.straps.getLsbD 3 = false → Sends s t srcTsf 0x00 .note s.dev.resetCause.toNat)
        ∧ (s.power.straps.getLsbD 3 = true → s.badger.queue = [] → ∃ m m', t.badger.queue = [m, m'] ∧ m.kind = 0x00
            ∧ m.detail = s.dev.resetCause.setWidth 24 ∧ m'.source = srcTsf ∧ m'.kind = 0x02 ∧ m'.base = .warn)) ∧
  (∀ s, s.power.aonHeld = false → ∃ t, exec .refPresentSet s = .next t ∧ t.clk.refPresent = true
      ∧ t.clk.aonOnRc = false ∧ t.clk.pllEn = (s.clk.pllEn || s.dev.state == .boot) ∧ t.dev = s.dev ∧ t.ch = s.ch) ∧
  (∀ s x, s.dev.state = .boot → s.clk.pllEn = true → s.clk.pllLock = false →
      ∃ t, exec (.pllLock x) s = .next t ∧ t.clk.pllLock = true ∧ t.clk.monitorsOn = true ∧ t.clk.tbc = 0
        ∧ t.dev.state = .verify ∧ t.trust.image.patchLevel = (patchVerdict x).1) ∧
  (∀ s, s.dev.state = .boot → s.clk.pllEn = true → s.clk.pllLock = false → s.clk.pllFails < 2 →
      exec .pllLockTimeout s = .next { s with clk := { s.clk with pllFails := s.clk.pllFails + 1 } }) ∧
  (∀ s, s.dev.state = .boot → s.clk.pllEn = true → s.clk.pllLock = false → 2 ≤ s.clk.pllFails →
      ∃ t, exec .pllLockTimeout s = .next t ∧ t.dev.state = .halt ∧ t.clk.pllEn = false) ∧
  (∀ s, s.dev.state = .boot → s.clk.refPresent = false →
      ∃ t, exec .refPresentTimeout s = .next t ∧ t.dev.state = .halt ∧ t.clk = s.clk)

/-- R162 to R164, R209, R211, R190, R191, R216: the end of a verification. With an admitted image the device enters
RUN unless BOOT_HOLD is fitted, and SAFE otherwise. `verifyMay` says that the TSF can reach the flash that it reads: the root
clocks run, the SG8 masters the bus, and no polling is due (R553), unless both images already failed to read.
R206, R190: the application watchdog starts with a legal period, is restarted by 0xA5 alone, and when it expires
the application core is reset. -/
def Obligations.ApplicationCoreCommands : Prop :=
  ((∀ s x0 x1 rec, s.dev.state = .verify → s.dev.reverify = false → verifyMay s x0 x1 = true →
      ∃ t, exec (.verifyComplete x0 x1 rec) s = .next t
        ∧ t.dev.state = (if (admitted s.otp x0 x1).isSome && !s.power.straps.getLsbD 2 then .run else .safe)
        ∧ t.trust.image.result0 = verifyImage s.otp x0 ∧ t.trust.image.result1 = verifyImage s.otp x1) ∧
  (∀ s x0 x1, s.dev.reverify = true → verifyMay s x0 x1 = true →
      ∃ t, exec (.appReverifyComplete x0 x1) s = .next t ∧ t.dev.reverify = false
        ∧ t.dev.state = (if (admitted s.otp x0 x1).isSome then .run else .safe)) ∧
  (∀ s r v, objAppReset.Admits r tU8 [v] s → ∃ t, exec (.appReset r v) s = .next t ∧ t.answer.code = eOk
      ∧ t.dev.reverify = true ∧ t.dev.state = (if s.dev.state = .safe then .verify else s.dev.state))) ∧
  ((∀ s w, s.dev.wdt.on = false → w.getLsbD 31 = true → 1 ≤ (w.extractLsb' 0 14).toNat →
      (w.extractLsb' 0 14).toNat ≤ 10000 →
      exec (.appWdtCtrlWrite w) s = .next { s with dev := { s.dev with
        wdt := { on := true, period := (w.extractLsb' 0 14).toNat, deadline := s.now + msec (w.extractLsb' 0 14).toNat } } }) ∧
  (∀ s w, s.dev.wdt.on = true → exec (.appWdtCtrlWrite w) s = .next s) ∧
  (∀ s, s.dev.wdt.on = true → exec (.appWdtKick 0x000000A5) s = .next { s with dev := { s.dev with
        wdt := { s.dev.wdt with deadline := s.now + msec s.dev.wdt.period } } }) ∧
  (∀ s w, s.dev.wdt.on = true → w ≠ 0x000000A5 → s.dev.state = .run → s.dev.reverify = false → ∃ t, exec (.appWdtKick w) s = .next t
      ∧ t.dev.wdt.on = false ∧ t.dev.reverify = true ∧ t.dev.appResets = s.dev.appResets.inc) ∧
  (∀ s, s.dev.wdt.on = true → s.dev.state = .run → s.dev.reverify = false → ∃ t, exec .appWdtExpire s = .next t
      ∧ t.dev.wdt.on = false ∧ t.dev.reverify = true ∧ t.dev.appResets = s.dev.appResets.inc))

/-- R51, R55, R78, R213, R221, R222: the clock monitors and the reference. -/
def Obligations.ClockAndReferenceCommands : Prop :=
  (∀ s m k, s.clk.monitorsOn = true → s.dev.state = .run →
      ∃ t, exec (.clockMonitorFail m k) s = .next t ∧ t.clk = { s.clk.fail m with clockLost := true }
        ∧ t.dev.state = .halt) ∧
  (∀ s, s.dev.refbufOn = true → s.badger.refInjected = false → ∃ t, exec .refReadySet s = .next t
      ∧ t = setRefReady s true ∧ t.dev = { s.dev with refReady := true }) ∧
  (∀ s, s.dev.refbufOn = true → s.dev.refReady = false → ∃ t, exec .refReadyTimeout s = .next t
      ∧ t = sendMsg s srcRef 0x20 .halt s.refMon.mon.toNat) ∧
  (∀ s mon, s.dev.refReady = true → ∃ t, exec (.refWindowFail mon) s = .next t ∧ t.dev.refReady = false
      ∧ t.dev.refVolts = refVoltsOf mon ∧ ∀ n, t.chan n = { s.chan n with cap := (t.chan n).cap }) ∧
  (∀ s mon, s.dev.refbufOn = true → exec (.refVoltsUpdate mon) s =
      .next { s with dev := { s.dev with refVolts := refVoltsOf mon }, refMon := { s.refMon with mon := mon } })


/-! ### The timebase, loop timing and the register space (chapter 2) -/

/-- R65, R66, R71: with an empty queue one period of CCLK passes. Without the root clocks only the model's time moves;
a waiting load takes TBC_SET; otherwise the fraction takes the trim and its carry moves the count.
R67, R69 to R71: TBC_RATE is limited and a limited write is remembered, TBC_CMD waits for the next period, the low
word of a 64-bit register latches its high word for the master that read it, and TBC_SET takes both halves with the
low word. -/
def Obligations.TimebaseCommands : Prop :=
  ((∀ s, s.pending = [] → s.clk.pllLock = false → step s = .next { s with now := s.now + 1 }) ∧
  (∀ s, s.pending = [] → s.clk.pllLock = true → s.clk.loadPending = true → ∃ t, step s = .next t
      ∧ t = { s with now := s.now + 1, clk := t.clk } ∧ t.clk.tbc = s.clk.tbcSet ∧ t.clk.frac = 0
      ∧ t.clk.loadPending = false ∧ t.clk.rate = s.clk.rate) ∧
  (∀ s, s.pending = [] → s.clk.pllLock = true → s.clk.loadPending = false → ∃ t, step s = .next t ∧ t.now = s.now + 1
      ∧ t.clk.tbc = BitVec.ofInt 64 (s.clk.tbc.toNat + 1 + (s.clk.frac.toNat + s.clk.rate) / 2 ^ 32)
      ∧ t.clk.frac = BitVec.ofInt 32 (s.clk.frac.toNat + s.clk.rate) ∧ t.clk.rate = s.clk.rate ∧ t.ch = s.ch)) ∧
  ((∀ s w, exec (.tbcRateWrite w) s = .next { s with clk := { s.clk with
      rate := clampInt (-858993) 858993 w.toInt, rateClamp := s.clk.rateClamp || clampInt (-858993) 858993 w.toInt != w.toInt } }) ∧
  (∀ s w, w.getLsbD 0 = true → exec (.tbcLoad w) s = .next { s with clk := { s.clk with loadPending := true } }) ∧
  (∀ s m, ∃ t, exec (.reg64LowRead m 0x40000410) s = .next t ∧ t.answer.data = natBytes 4 (s.clk.tbc.toNat % 2 ^ 32)
      ∧ latched t m 0x40000410 = s.clk.tbc.extractLsb' 32 32 ∧ t.clk.tbc = s.clk.tbc) ∧
  (∀ s m, ∃ t, exec (.reg64LowRead m 0x40000414) s = .next t
      ∧ t.answer.data = natBytes 4 (latched s m 0x40000410).toNat ∧ t.clk = s.clk) ∧
  (∀ s w, exec (.registerWrite .sup 0x40000424 w) s = .next { s with clk := { s.clk with tbcSetHold := w } }) ∧
  (∀ s w, exec (.reg64LowWrite .sup 0x40000420 w) s = .next { s with clk := { s.clk with tbcSet := s.clk.tbcSetHold ++ w } }))

/-- R65, R66: over k periods with the clocks running and nothing waiting, the TBC and its fraction, taken as one
number of 96 bits in units of 2^-32, advance by k times 2^32 plus the trim. -/
def Obligations.TimebaseAdvancesByTheTrim : Prop :=
  ∀ (s : State) (k : Nat), s.pending = [] → s.clk.pllLock = true → s.clk.loadPending = false →
    ∃ t, Host.Core.run core k s = .next t
      ∧ ((t.clk.tbc.toNat * 2 ^ 32 + t.clk.frac.toNat : Nat) : Int)
          = ((s.clk.tbc.toNat * 2 ^ 32 + s.clk.frac.toNat : Nat) + k * (2 ^ 32 + s.clk.rate)) % 2 ^ 96

/-- R73 to R75: a write of an event counter sets it, an event in the same cycle counts after the write and sets
COLLIDE, and a written 1 clears a status bit unless the cause arrives in the same cycle (CLR_COUNT of Table 10.8). A legal write
of a period register of the aux scan (chapter 9) or of a pulse generator (chapter 10) sets it. A semaphore (R456, chapter 11) is
taken by the first core that asks for it and given back by its holder alone; that the supervisor core has it where both take it
within one period is DEDUCED (log entry 110). -/
def Obligations.CounterRegisterCommands : Prop :=
  (∀ s m w, exec (.counterWrite m 0x40012804 w false) s =
      .next { s with trig := { s.trig with clrCount := { s.trig.clrCount with value := w } } }) ∧
  (∀ s m w, ∃ t, exec (.counterWrite m 0x40012804 w true) s = .next t ∧ t.trig.clrCount.value = w + 1
      ∧ t.trig.clrCount.collide = true) ∧
  (∀ s m w wrapNow collideNow, ∃ t, exec (.statusW1c m 0x40012808 w wrapNow collideNow) s = .next t
      ∧ t.trig.clrCount.value = s.trig.clrCount.value
      ∧ t.trig.clrCount.wrap = (s.trig.clrCount.wrap && !w.getLsbD 0 || wrapNow)
      ∧ t.trig.clrCount.collide = (s.trig.clrCount.collide && !w.getLsbD 1 || collideNow)) ∧
  (∀ s w, 16 ≤ w.toNat → ∃ t, exec (.periodRegWrite .scan w) s = .next t ∧ t.aux.period = w.toNat ∧ t.trig = s.trig) ∧
  (∀ s p w, 2 ≤ w.toNat → ∃ t, exec (.periodRegWrite (.pwgPeriod p) w) s = .next t
      ∧ (t.trig.pwgs[p.val]).period = w.toNat ∧ t.aux = s.aux) ∧
  (∀ s p w, ∃ t, exec (.periodRegWrite (.pwgWidth p) w) s = .next t
      ∧ (t.trig.pwgs[p.val]).width = w.toNat ∧ t.aux = s.aux) ∧
  (∀ s m i w, s.clk.pllLock = true → w.getLsbD 0 = true → s.hamper.sems[i.val] = none → ∃ t, exec (.semWrite m i w) s = .next t
      ∧ t.hamper.sems[i.val] = some m ∧ ∀ j, j ≠ i → t.hamper.sems[j.val] = s.hamper.sems[j.val]) ∧
  (∀ s m o i w, w.getLsbD 0 = true → s.hamper.sems[i.val] = some o → semOpen s m i = false →
      exec (.semWrite m i w) s = .next s) ∧
  (∀ s i w, s.clk.pllLock = true → w.getLsbD 0 = true → s.hamper.sems[i.val] = some .app →
      s.hamper.semAt[i.val] = s.now → ∃ t, exec (.semWrite .sup i w) s = .next t
        ∧ t.hamper.sems = s.hamper.sems.set i.val (some .sup)) ∧
  (∀ s m i w, s.clk.pllLock = true → w.getLsbD 0 = false → s.hamper.sems[i.val] = some m → ∃ t, exec (.semWrite m i w) s = .next t
      ∧ t.hamper.sems[i.val] = none) ∧
  (∀ s m o i w, w.getLsbD 0 = false → s.hamper.sems[i.val] = some o → o ≠ m → ∃ t, exec (.semWrite m i w) s = .next t
      ∧ t.hamper.sems = s.hamper.sems)

/-- R15, R16, Table 3.16: a register command completes wherever the register space holds a word, which is so at every
aligned address of an allocated block; below the space and off alignment it stops (the stop is the model's choice, DESIGN CHOICE
log entry 3). A store of the application core into the execute-in-place window takes the store access fault (R546, chapter 14);
the window's extent of 2 MiB is the model's choice (log entry 3). A write that the protection bars (R145, R146, chapter 4)
changes no register, counts and is reported. That reserved words complete is DEDUCED (log entry 69), as it is that a command of a
counter, a status or a 64-bit register that names another word is a plain write or read (log entries 70 and 71). -/
def Obligations.BusAccessStopsOutsideTheBlocks : Prop :=
  (∀ s m addr w a b, busRegAt m addr = none → xipWrite m addr = false →
      exec (.registerWrite m addr w) s = .fault .noRegister ∧ exec (.reg64LowRead m addr) s = .fault .noRegister ∧
      exec (.reg64LowWrite m addr w) s = .fault .noRegister ∧ exec (.counterWrite m addr w a) s = .fault .noRegister ∧
      exec (.statusW1c m addr w a b) s = .fault .noRegister) ∧
  (∀ s addr w, 0x20000000 ≤ addr → addr < 0x20200000 →
      exec (.registerWrite .app addr w) s = .next (s.send (.storeFault (BitVec.ofNat 32 addr)))) ∧
  (∀ s m addr w r, busRegAt m addr = some r → r.barred m = false → addr ≠ addrMbxCtrl → addr ≠ addrSessCmd →
      exec (.registerWrite m addr w) s = .next (r.put w s) ∧ exec (.reg64LowWrite m addr w) s = .next (r.put w s)) ∧
  (∀ s m addr w r, busRegAt m addr = some r → r.barred m = true → addr ≠ addrMbxCtrl → addr ≠ addrSessCmd →
      exec (.registerWrite m addr w) s = .next (protViolation s addr) ∧
      exec (.reg64LowWrite m addr w) s = .next (protViolation s addr)) ∧
  (∀ s m addr r, busRegAt m addr = some r → ∃ t, exec (.reg64LowRead m addr) s = .next t ∧ t.answer.code = eOk
      ∧ t.answer.data = natBytes 4 (readWord r m addr s).toNat ∧ t.ch = s.ch ∧ t.dev = s.dev) ∧
  (∀ c s, c.accesses = false → ∃ t, exec c s = .next t) ∧
  (∀ s m addr w a b, busRegAt m addr ≠ none →
      (∃ t, exec (.registerWrite m addr w) s = .next t) ∧ (∃ t, exec (.reg64LowRead m addr) s = .next t) ∧
      (∃ t, exec (.reg64LowWrite m addr w) s = .next t) ∧ (∃ t, exec (.counterWrite m addr w a) s = .next t) ∧
      (∃ t, exec (.statusW1c m addr w a b) s = .next t)) ∧
  (∀ m addr, addr < 0x40000000 ∨ addr % 4 ≠ 0 → busRegAt m addr = none) ∧
  (∀ m addr, 0x40000000 ≤ addr → addr % 4 = 0 → blockAllocated ((addr - 0x40000000) / 0x400) = true →
      busRegAt m addr ≠ none)

/-- R58 to R64, R259, R649: a tick boundary begins the tick's work anew with the period that was written last, an
accepted N stands in the shadow, and the armed synchronisation restarts the selected engines once the TBC has reached
its target. -/
def Obligations.LoopTimingCommands : Prop :=
  (∀ s e w0 w1, s.clk.pllLock = true → winFits (s.engine e) (s.chan e.slot0) w0 = true →
      winFits (s.engine e) (s.chan e.slot1) w1 = true → ∃ t, exec (.loopTick e w0 w1) s = .next t ∧ (t.engine e).cycle = 0
      ∧ (t.engine e).base = s.now ∧ (t.engine e).nActive = (s.engine e).nShadow ∧ t.clk = s.clk
      ∧ (∀ d, d ≠ e → t.engine d = s.engine d)) ∧
  (∀ s r e n, (objLoopN e).Admits r tU16 (natBytes 2 n.toNat) s → ∃ t, exec (.loopNRequest r e n) s = .next t
      ∧ t.answer.code = eOk ∧ (t.engine e).nShadow = n.toNat
      ∧ (s.clk.pllLock = true → (t.engine e).nActive = (s.engine e).nActive)) ∧
  (∀ s r v, objSyncArm.Admits r tU8 [v] s → ∃ t, exec (.loopSyncArm r v) s = .next t ∧ t.answer.code = eOk
      ∧ t.clk = { s.clk with syncArmed := v == 1 } ∧ t.eng = s.eng) ∧
  (∀ s, s.clk.syncArmed = true → s.clk.pllLock = true → s.clk.syncTarget.toNat ≤ s.clk.tbc.toNat →
      ∃ t, exec .loopSyncRestart s = .next t ∧ t.clk = { s.clk with syncArmed := false }
        ∧ ∀ e, t.engine e = if s.clk.syncMask.getLsbD e.val then
          { s.engine e with base := s.now, extra := (s.engine e).extra + (s.now - (s.engine e).base) / 6 } else s.engine e) ∧
  (∀ s r e v, (objPeakClear e).Admits r tU8 [v] s → ∃ t, exec (.peakClear r e v) s = .next t ∧ t.answer.code = eOk
      ∧ (t.engine e).peakLoad = 0 ∧ t.ch = s.ch)


/-! ### Ownership and channel modes (chapters 4 and 6) -/

/-- R181 to R187: a claim gives the channel to its requester with a new epoch unless it owns it already, and a release
revokes: no owner, a new epoch, the channel free in OFF, and ramping to IDLE in every working mode and in every phase of
enabling before the loop closes; in IDLE it is free, and in OFF where MODE_MASK forbids IDLE. METER goes to OFF; that it does so
within the revocation is the model's choice (DESIGN CHOICE, log entry 123), as is the start of the ramp at once and not at the
next boundary (DEDUCED, log entry 26).
R168 to R173, R178: a limit is stored as it is written and unsaves the record, no other channel changes, and an
element that is no limit is answered E_NO_ELEMENT and changes nothing else. -/
def Obligations.OwnershipAndLimits : Prop :=
  ((∀ s r n v, (objClaim n).Admits r tU8 [v] s → ∃ t, exec (.claim r n v) s = .next t ∧ t.answer.code = eOk
      ∧ holds (t.chan n).lock r.who = true
      ∧ (t.chan n).lock.epoch = (if holds (s.chan n).lock r.who then (s.chan n).lock.epoch else (s.chan n).lock.epoch + 1)
      ∧ (t.chan n).mode = (s.chan n).mode ∧ OthersKept n s t ∧ t.eng = s.eng ∧ t.dev = s.dev) ∧
  (∀ s r n v, (objRelease n).Admits r tU8 [v] s → ∃ t, exec (.release r n v) s = .next t ∧ t.answer.code = eOk
      ∧ (t.chan n).lock.kind = .none ∧ (t.chan n).lock.epoch = (s.chan n).lock.epoch + 1
      ∧ ((s.chan n).mode.mode = .off → (t.chan n).lock.state = .free ∧ (t.chan n).mode.mode = .off)
      ∧ ((s.chan n).mode.mode = .meter → (t.chan n).lock.state = .free ∧ (t.chan n).mode.mode = .off
          ∧ (t.chan n).mode.offReason = .revocation)
      ∧ ((s.chan n).mode.mode.works = true → (s.chan n).mode.status ≠ .enabling → (s.chan n).mode.status ≠ .safeRamp →
          (t.chan n).lock.state = .ramping ∧ (t.chan n).mode.mode = (s.chan n).mode.mode
          ∧ (t.chan n).mode.status = .safeRamp ∧ (t.chan n).mode.target = .idle ∧ (t.chan n).mode.rampReason = .revocation)
      ∧ ((s.chan n).mode.mode ≠ .off → (s.chan n).mode.mode ≠ .meter → (s.chan n).mode.status = .safeRamp →
          (t.chan n).lock.state = .ramping ∧ (t.chan n).mode.mode = (s.chan n).mode.mode
          ∧ (t.chan n).mode.status = .safeRamp ∧ (t.chan n).mode.target = .idle ∧ (t.chan n).mode.rampReason = .revocation)
      ∧ ((s.chan n).mode.mode ≠ .off → (s.chan n).mode.mode ≠ .meter → (s.chan n).mode.status = .enabling →
          (s.chan n).mode.enable ≠ some .loopClosed → (t.chan n).lock.state = .ramping
          ∧ (t.chan n).mode.mode = (s.chan n).mode.mode ∧ (t.chan n).mode.status = .enabling
          ∧ (t.chan n).mode.target = .idle ∧ (t.chan n).mode.rampReason = .revocation)
      ∧ ((s.chan n).mode.mode = .idle → (s.chan n).mode.status = .stable ∨ (s.chan n).mode.enable = some .loopClosed →
          (s.chan n).mode.status = .stable ∨ (s.chan n).mode.status = .enabling → (t.chan n).lock.state = .free
          ∧ (t.chan n).mode.mode = (if (s.chan n).permits .idle then .idle else .off) ∧ (t.chan n).mode.status = .stable
          ∧ (t.chan n).mode.pending = none)
      ∧ OthersKept n s t) ∧
  (∀ s, ∃ t, exec .mgmtAliveTimeout s = .next t ∧ t.trust.instr.state ≠ .unlocked ∧ ∀ n,
      if (s.chan n).lock.state = .held ∧ (s.chan n).lock.kind = .mgmt
      then (t.chan n).lock.kind = .none ∧ (t.chan n).lock.epoch = (s.chan n).lock.epoch + 1
      else (t.chan n).lock = (s.chan n).lock)) ∧
  ((∀ s r n el ty data o, objLimit n el.toNat = some o → o.Admits r ty data s →
      ∃ t, exec (.limitWrite r n el ty data) s = .next t ∧ t.answer.code = eOk ∧ t.trust.instr.record = .unsaved
        ∧ OthersKept n s t ∧ (t.chan n).lock = (s.chan n).lock
        ∧ (el = 0x01 → (t.chan n).lim = { (s.chan n).lim with vMax := BitVec.ofNat 32 (beNat data) })
        ∧ (el = 0x02 → (t.chan n).lim = { (s.chan n).lim with iMax := BitVec.ofNat 32 (beNat data) })
        ∧ (el = 0x03 → (t.chan n).lim = { (s.chan n).lim with pMax := BitVec.ofNat 32 (beNat data) })
        ∧ (el = 0x04 → (t.chan n).lim = { (s.chan n).lim with modeMask := BitVec.ofNat 16 (beNat data) })
        ∧ (el = 0x05 → (t.chan n).lim = { (s.chan n).lim with minPeriod := BitVec.ofNat 32 (beNat data) })
        ∧ (el = 0x06 → (t.chan n).lim = { (s.chan n).lim with progClasses := BitVec.ofNat 8 (beNat data) })
        ∧ (el = 0x07 → (t.chan n).lim = { (s.chan n).lim with lacSpan := BitVec.ofNat 32 (beNat data) })) ∧
  (∀ s r n el ty data, objLimit n el.toNat = none → ∃ t, exec (.limitWrite r n el ty data) s = .next t
      ∧ t.answer.code = eNoElement ∧ t = { s with answer := t.answer }))

/-- R236, R238, R241, R250: an accepted change of mode waits for its boundary, OFF_NOW waits without a test of its
kind, a request during a safe ramp turns it to OFF.
R214, R240, R97, Tables 5.4 and 6.3: no request is admitted that would take a channel out of OFF to a mode while
the device is not in RUN, and none that asks for a step of modes that Table 6.1 does not permit. -/
def Obligations.ModeRequestsAreChecked : Prop :=
  ((∀ s r n v m, (objMode n).Admits r tU8 [v] s → modeOf v.toNat = some m → (s.chan n).already v.toNat = false →
      (s.chan n).mode.status ≠ .safeRamp → ∃ t, exec (.modeRequest r n v) s = .next t ∧ t.answer.code = eOk
        ∧ (t.chan n).mode.mode = (s.chan n).mode.mode ∧ (t.chan n).mode.pending = some m
        ∧ OthersKept n s t) ∧
  (∀ s r n v, (objMode n).Admits r tU8 [v] s → (s.chan n).already v.toNat = true →
      Done r s (exec (.modeRequest r n v) s)) ∧
  (∀ s r n v, (objMode n).Admits r tU8 [v] s → (s.chan n).mode.status = .safeRamp →
      Done r (s.modCh n fun c => { c with mode := { c.mode with target := .off, rampReason := .modeRequest } })
        (exec (.modeRequest r n v) s)) ∧
  (∀ s r n v, (objOffNow n).Admits r tU8 [v] s → (s.chan n).mode.mode ≠ .off →
      Done r (s.modCh n fun c => { c with mode := { c.mode with offNow := true } }) (exec (.offNow r n v) s))) ∧
  ((∀ s r n v, s.dev.state ≠ .run → ¬ (objMode n).Admits r tU8 [v] s) ∧
  (∀ s r n v m, modeOf v.toNat = some m → (s.chan n).already v.toNat = false → permitted (s.chan n).mode.mode m = false →
      (s.chan n).mode.status ≠ .enabling → ((s.chan n).mode.status ≠ .safeRamp ∨ m ≠ .off) → ¬ (objMode n).Admits r tU8 [v] s) ∧
  (∀ s r n v, ¬ (objMode n).Admits r tU8 [v] s → ∃ t, exec (.modeRequest r n v) s = .next t ∧ t.answer.code ≠ eOk
      ∧ (t.chan n).mode = { (s.chan n).mode with lastReject := t.answer.code } ∧ OthersKept n s t))

/-- R238, R240 to R242, R247: at its boundary OFF_NOW takes the channel to OFF at once, a change from IDLE to OFF is
made, one from a working mode to IDLE or OFF begins the safe ramp, and one between working modes enters the mode. -/
def Obligations.ModeChangesAtABoundary : Prop :=
  (∀ s n, (s.chan n).mode.offNow = true → (s.chan n).mode.mode ≠ .off → ∃ t, exec (.modeChangeApply n) s = .next t
      ∧ (t.chan n).mode.mode = .off ∧ (t.chan n).mode.status = .stable ∧ (t.chan n).mode.offReason = .offNow
      ∧ OthersKept n s t) ∧
  (∀ s n, (s.chan n).mode.offNow = false → (s.chan n).mode.mode = .idle → (s.chan n).mode.pending = some .off →
      ¬ WaitsAtBoundary (s.chan n) → ∃ t, exec (.modeChangeApply n) s = .next t ∧ (t.chan n).mode.mode = .off
        ∧ (t.chan n).mode.offReason = .modeRequest ∧ OthersKept n s t) ∧
  (∀ s n, (s.chan n).mode.offNow = false → (s.chan n).mode.mode = .fv → (s.chan n).mode.pending = some .idle →
      ¬ WaitsAtBoundary (s.chan n) → ∃ t, exec (.modeChangeApply n) s = .next t ∧ (t.chan n).mode.mode = .fv
        ∧ (t.chan n).mode.status = .safeRamp ∧ (t.chan n).mode.target = .idle ∧ (t.chan n).mode.rampBase = (s.chan n).sp.ramp
        ∧ OthersKept n s t) ∧
  (∀ s n, (s.chan n).mode.offNow = false → (s.chan n).mode.mode = .fv → (s.chan n).mode.pending = some .fvProfile →
      ¬ WaitsAtBoundary (s.chan n) → ∃ t, exec (.modeChangeApply n) s = .next t ∧ (t.chan n).mode.mode = .fvProfile
        ∧ (t.chan n).mode.status = .stable ∧ (t.chan n).mode.changes = (s.chan n).mode.changes.inc
        ∧ OthersKept n s t) ∧
  (∀ s n m, (s.chan n).mode.offNow = false → (s.chan n).mode.mode = .idle ∨ (s.chan n).mode.mode.works = true →
      (s.chan n).mode.pending = some m → m.works = true → (s.chan n).mode.mode ≠ m → ¬ WaitsAtBoundary (s.chan n) → ∃ t, exec (.modeChangeApply n) s = .next t
        ∧ (t.chan n).mode.mode = m ∧ (t.chan n).mode.status = .stable
        ∧ (t.chan n).mode.changes = (s.chan n).mode.changes.inc ∧ OthersKept n s t) ∧
  (∀ s n m, (s.chan n).mode.offNow = false → (s.chan n).mode.mode.works = true → (s.chan n).mode.pending = some m →
      m = .off ∨ m = .idle → ¬ WaitsAtBoundary (s.chan n) → ∃ t, exec (.modeChangeApply n) s = .next t
        ∧ (t.chan n).mode.mode = (s.chan n).mode.mode ∧ (t.chan n).mode.status = .safeRamp ∧ (t.chan n).mode.target = m
        ∧ OthersKept n s t) ∧
  (∀ s n, (s.chan n).mode.offNow = false → (s.chan n).mode.mode = .off → (s.chan n).mode.pending = some .meter →
      ¬ WaitsAtBoundary (s.chan n) → ∃ t, exec (.modeChangeApply n) s = .next t ∧ (t.chan n).mode.mode = .meter
        ∧ (t.chan n).mode.status = .stable ∧ (t.chan n).clamp.armed = true ∧ OthersKept n s t) ∧
  (∀ s n m, (s.chan n).mode.offNow = false → (s.chan n).mode.mode = .meter → (s.chan n).mode.pending = some m →
      ¬ WaitsAtBoundary (s.chan n) → ∃ t, exec (.modeChangeApply n) s = .next t ∧ (t.chan n).mode.mode = .off
        ∧ (t.chan n).mode.offReason = .modeRequest ∧ OthersKept n s t) ∧
  (∀ s n, (s.chan n).mode.offNow = false → WaitsAtBoundary (s.chan n) →
      exec (.modeChangeApply n) s = .next s)

/-- R244 to R246, Table 6.5: the four phases of enabling, each from the one before it.
R247 to R251, R170: the end of a safe ramp, the fallback after an overrun, and the power limit's message: TRIP, KIND 0x60,
with the power presented last in hundredths of a watt. -/
def Obligations.EnablingAndSafeRamp : Prop :=
  ((∀ s n m, (s.chan n).mode.mode = .off → (s.chan n).mode.pending = some m → m ≠ .off → m ≠ .meter → s.dev.state = .run →
      ∃ t, exec (.enableStart n) s = .next t ∧ (t.chan n).mode.mode = .idle ∧ (t.chan n).mode.status = .enabling
        ∧ (t.chan n).mode.enable = some .started ∧ (t.chan n).mode.target = m ∧ (t.chan n).out.enabling = true
        ∧ (t.chan n).out.code = (s.chan n).zeroCode ∧ (t.chan n).clamp.armed = true ∧ (t.chan n).sp.active = f64To32 0
        ∧ OthersKept n s t) ∧
  (∀ s n, (s.chan n).mode.enable = some .started → exec (.enableStageOn n) s =
      .next (s.modCh n fun c => { c with mode := { c.mode with enable := some .stageOn } })) ∧
  (∀ s n, (s.chan n).mode.enable = some .stageOn → (s.chan n).mode.target.works = true → ∃ t, exec (.enableLoopClose n) s = .next t
      ∧ (t.chan n).mode.enable = some .loopClosed ∧ (t.chan n).out.enabling = false ∧ (t.chan n).loop.first = true
      ∧ (t.chan n).slots.s = Vector.replicate 16 0 ∧ OthersKept n s t) ∧
  (∀ s n, (s.chan n).mode.enable = some .stageOn → (s.chan n).mode.target = .off → ∃ t,
      exec (.enableLoopClose n) s = .next t ∧ (t.chan n).mode.mode = .off ∧ (t.chan n).mode.enable = none
        ∧ OthersKept n s t) ∧
  (∀ s n, (s.chan n).mode.enable = some .stageOn → (s.chan n).mode.target = .idle → (s.chan n).permits .idle = true →
      ∃ t, exec (.enableLoopClose n) s = .next t ∧ (t.chan n).mode.mode = (s.chan n).mode.mode
        ∧ (t.chan n).mode.status = .stable ∧ (t.chan n).mode.enable = none ∧ OthersKept n s t) ∧
  (∀ s n, (s.chan n).mode.enable = some .loopClosed → (s.chan n).mode.target.works = true → ∃ t, exec (.enableModeEntry n) s = .next t
      ∧ (t.chan n).mode.mode = (s.chan n).mode.target ∧ (t.chan n).mode.status = .stable ∧ (t.chan n).mode.enable = none
      ∧ OthersKept n s t)) ∧
  ((∀ s n, (s.chan n).mode.status = .safeRamp → (s.chan n).mode.mode = .idle → isZero64 (s.chan n).sp.ramp = true →
      (s.chan n).mode.target = .off → ∃ t, exec (.safeRampEnd n) s = .next t ∧ (t.chan n).mode.mode = .off
        ∧ (t.chan n).mode.offReason = (s.chan n).mode.rampReason ∧ OthersKept n s t) ∧
  (∀ s n, (s.chan n).mode.status = .safeRamp → (s.chan n).mode.mode = .idle → isZero64 (s.chan n).sp.ramp = true →
      (s.chan n).mode.target = .idle → (s.chan n).permits .idle = true → ∃ t, exec (.safeRampEnd n) s = .next t
        ∧ (t.chan n).mode.mode = .idle ∧ (t.chan n).mode.status = .stable ∧ (t.chan n).mode.enable = none
        ∧ OthersKept n s t) ∧
  (∀ s n, (s.chan n).mode.overrunDue = true → (s.chan n).mode.mode.works = true → (s.chan n).mode.status = .stable →
      ∃ t, exec (.overrunFallback n) s = .next t ∧ (t.chan n).mode.romPi = true ∧ (t.chan n).mode.overrunDue = false
        ∧ (t.chan n).mode.status = .safeRamp ∧ (t.chan n).mode.target = .idle ∧ OthersKept n s t) ∧
  (∀ s n, 16 ≤ (s.chan n).powerCount → ∃ t, exec (.powerLimitExceeded n) s = .next t ∧ (t.chan n).powerCount = 0
      ∧ Sends s t (srcCh n) 0x60 .trip
          (Nat.min (((f32Val (s.chan n).last.v).mul (f32Val (s.chan n).last.i)).abs.mul (Q.ofNat 100)).floor.toNat 0xFFFFFF)
      ∧ t.badger.slots = s.badger.slots ∧ (t.chan n).mode = (s.chan n).mode ∧ OthersKept n s t) ∧
  (∀ s n, (s.chan n).powerCount < 16 → exec (.powerLimitExceeded n) s = .next s))


/-! ### Trust and the Instructor (chapter 4) -/

/-- R156 to R158: programming a key slot writes its hash once, and disabling a slot sets its bit; no other slot
changes.
R146: a barred access counts, leaves its address, and sends PROT_VIOLATION unless one is open or queued. -/
def Obligations.KeySlotsAndProtection : Prop :=
  ((∀ s r k c hash, objKeyProgram.Admits r tBlob (k :: c :: hash) s → ∃ t, exec (.keyProgram r (k :: c :: hash)) s = .next t
      ∧ t.answer.code = eOk ∧ (∀ x, s.otp.slots[k.toNat]? = some x → x.keyed = false ∧
          t.otp.slots[k.toNat]? = some { x with keyed := true, hash := hash })
      ∧ (∀ j, j ≠ k.toNat → t.otp.slots[j]? = s.otp.slots[j]?) ∧ t.ident = s.ident ∧ t.ch = s.ch) ∧
  (∀ s r k c, objKeyDisable.Admits r tBlob [k, c] s → ∃ t, exec (.keyDisable r [k, c]) s = .next t ∧ t.answer.code = eOk
      ∧ (∀ x, s.otp.slots[k.toNat]? = some x → t.otp.slots[k.toNat]? = some { x with disabled := true })
      ∧ (∀ j, j ≠ k.toNat → t.otp.slots[j]? = s.otp.slots[j]?) ∧ t.ident = s.ident ∧ t.ch = s.ch)) ∧
  ((∀ s a, ∃ t, exec (.protViolation a) s = .next t ∧ t.trust.protViol = s.trust.protViol.inc
      ∧ t.trust.protLastAddr = BitVec.ofNat 32 a ∧ t.ch = s.ch) ∧
  (∀ s a, (s.badger.slot 3 srcProt).isSome = true → ∃ t, exec (.protViolation a) s = .next t ∧ t.badger = s.badger) ∧
  (∀ s a, s.badger.slot 3 srcProt = none → s.badger.queue.any (·.source == srcProt) = false → ∃ t,
      exec (.protViolation a) s = .next t ∧ Sends s t srcProt 0x30 .note ((a - 0x40000000) / 4)))

/-- R175, R177 (the digest behind a code is DEDUCED, log entry 7): the right code unlocks for ten minutes and clears the streak of failures; a wrong one is answered
E_SIGNATURE and counted, and from the fifth on a lockout begins.
R175 to R180: the Instructor's other commands, the end of UNLOCKED and of a lockout, and a record's save. That a record
which changed during its save stays unsaved, and what else these commands do to the record, is DEDUCED (log entry 50). -/
def Obligations.InstructorAccess : Prop :=
  ((∀ s r code, objUnlock.Admits r tBlob code s → codeRight s code = true → ∃ t, exec (.unlock r code) s = .next t
      ∧ t.answer.code = eOk ∧ t.trust.instr.state = .unlocked ∧ t.trust.instr.unlockEnd = s.now + secs 600
      ∧ t.trust.instr.failedStreak = 0 ∧ t.trust.instr.verifier = some (verifierOf s code)
      ∧ t.lockoutRec = some ⟨0, 0, false⟩) ∧
  (∀ s r code, objUnlock.Admits r tBlob code s → codeRight s code = false → s.trust.instr.failedStreak < 4 →
      ∃ t, exec (.unlock r code) s = .next t ∧ t.answer.code = eSignature ∧ t.trust.instr.state = .locked
        ∧ t.trust.instr.failedStreak = s.trust.instr.failedStreak + 1) ∧
  (∀ s r code, objUnlock.Admits r tBlob code s → codeRight s code = false → 4 ≤ s.trust.instr.failedStreak →
      ∃ t, exec (.unlock r code) s = .next t ∧ t.answer.code = eSignature ∧ t.trust.instr.state = .lockout
        ∧ t.trust.instr.lockoutEnd = s.now + secs t.trust.instr.lastLockout
        ∧ t.trust.instr.lastLockout =
          (if s.trust.instr.lastLockout = 0 then 60 else Nat.min 3600 (2 * s.trust.instr.lastLockout)))) ∧
  ((∀ s r v, objLock.Admits r tU8 [v] s → ∃ t, exec (.lock r v) s = .next t ∧ t.answer.code = eOk
      ∧ t.trust.instr.state = .locked ∧ t.ch.map (·.lim) = s.ch.map (·.lim)) ∧
  (∀ s r code, objSetCode.Admits r tBlob code s → ∃ t, exec (.setCode r code) s = .next t ∧ t.answer.code = eOk
      ∧ t.trust.instr.verifier = some (verifierOf s code) ∧ t.trust.instr.record = .unsaved ∧ t.ch = s.ch) ∧
  (∀ s r v, objSave.Admits r tU8 [v] s → ∃ t, exec (.save r v) s = .next t ∧ t.answer.code = eOk
      ∧ t.trust.instr.saving = some (recordNow s) ∧ t.ch = s.ch) ∧
  (∀ s x, s.trust.instr.saving = some x → s.supMay = true → ∃ t, exec .saveComplete s = .next t ∧ t.trust.instr.saved = some x
      ∧ t.trust.instr.saving = none
      ∧ t.trust.instr.record = (if x = recordNow s then .valid else .unsaved) ∧ t.ch = s.ch) ∧
  (∀ s, s.trust.instr.state = .unlocked → s.badger.testActive = false → ∃ t, exec .unlockTimeout s = .next t
      ∧ t.trust.instr.state = .locked ∧ t.ch = s.ch
      ∧ (s.trust.instr.record = .unsaved → t.trust.instr.saving = some (recordNow s))) ∧
  (∀ s, s.trust.instr.state = .lockout → ∃ t, exec .lockoutEnd s = .next t ∧ t.trust.instr.state = .locked
      ∧ t.trust.instr.failedStreak = s.trust.instr.failedStreak
      ∧ t.lockoutRec = some ⟨s.trust.instr.failedStreak, s.trust.instr.lastLockout, false⟩))


/-! ### Events and Badger (chapter 15) -/

/-- R584 to R586, R592: the message taken next is classified: its slot opens or rises, and the history shows it first.
R587, R595, R596: a quiet slot closes and its history entries are marked, an acknowledgement closes the slot it
names or every slot that its sender may close, and marks its history entries, and no other slot and no other entry changes. -/
def Obligations.BadgerSlots : Prop :=
  ((∀ s m, s.badger.queue = [m] → m.base = .note → s.badger.slot (classOf m.kind) m.source = none →
      ∃ t, exec .badgerClassify s = .next t ∧ t.badger.queue = []
        ∧ t.badger.slot (classOf m.kind) m.source = some ⟨classOf m.kind, m.source, .note, 1⟩
        ∧ (t.badger.history.head?).map (·.msg) = some m ∧ t.badger.histSeq = s.badger.histSeq.inc ∧ t.ch = s.ch) ∧
  (∀ s m, nextMsg s.badger.queue = some m →
      let old := s.badger.slot (classOf m.kind) m.source
      let a := appliedLevel m old
      a = .note ∨ a = .warn → ∃ t, exec .badgerClassify s = .next t ∧ t.badger.queue = s.badger.queue.erase m
        ∧ t.badger.slot (classOf m.kind) m.source = some ⟨classOf m.kind, m.source,
            (match old with | none => a | some x => x.level.max a), Nat.min 255 ((old.map (·.count)).getD 0 + 1)⟩
        ∧ (t.badger.history.head?).map (·.msg) = some m ∧ t.badger.histSeq = s.badger.histSeq.inc ∧ t.ch = s.ch) ∧
  (∀ s m n, nextMsg s.badger.queue = some m → chOfSource m.source = some n →
      appliedLevel m (s.badger.slot (classOf m.kind) m.source) = .error → ∃ t, exec .badgerClassify s = .next t
        ∧ t.chan n = (s.chan n).errorAction (classOf m.kind) ∧ OthersKept n s t) ∧
  (∀ s m n, nextMsg s.badger.queue = some m → chOfSource m.source = some n → (s.chan n).mode.mode ≠ .off →
      appliedLevel m (s.badger.slot (classOf m.kind) m.source) = .trip → ∃ t, exec .badgerClassify s = .next t
        ∧ (t.chan n).mode.mode = .off ∧ (t.chan n).mode.offReason = .trip ∧ OthersKept n s t) ∧
  (∀ s m, nextMsg s.badger.queue = some m → s.dev.state ≠ .reset → s.dev.state ≠ .halt →
      appliedLevel m (s.badger.slot (classOf m.kind) m.source) = .halt → ∃ t, exec .badgerClassify s = .next t
        ∧ t.dev.state = .halt ∧ t.dev.lastHalt = m.word ∧ ∀ n, (t.chan n).mode.mode = .off) ∧
  (∀ s, s.badger.queue = [] → exec .badgerClassify s = .next s)) ∧
  ((∀ s cls src, quietCloses s (BitVec.ofNat 4 cls.val) src = true → ∃ t, exec (.ackQuietClose cls src) s = .next t
      ∧ t = { s with badger := { s.badger with slots := t.badger.slots, history := t.badger.history } }
      ∧ t.badger.slot (BitVec.ofNat 4 cls.val) src = none
      ∧ t.badger.history = s.badger.history.map (fun h =>
          if classOf h.msg.kind = BitVec.ofNat 4 cls.val ∧ h.msg.source = src then { h with acked := true } else h)
      ∧ ∀ c' s', (c', s') ≠ (BitVec.ofNat 4 cls.val, src) → t.badger.slot c' s' = s.badger.slot c' s') ∧
  (∀ s r v, v ≠ 0xFFFF → objFaultAck.Admits r tU16 (natBytes 2 v.toNat) s →
      Done r { s with badger := s.badger.closeSlot (ackClass v.toNat) (ackSource v.toNat) } (exec (.faultAck r v) s)) ∧
  (∀ s r, objFaultAck.Admits r tU16 (natBytes 2 0xFFFF) s → ∃ t, exec (.faultAck r 0xFFFF) s = .next t ∧ t.answer.code = eOk
      ∧ t.ch = s.ch ∧ (∀ x ∈ t.badger.slots, x ∈ s.badger.slots
          ∧ ¬ ((r.path = .mgp ∨ x.level ≠ .halt) ∧ mayActOn s r.who x.source = true))
      ∧ (∀ x ∈ s.badger.slots, ¬ ((r.path = .mgp ∨ x.level ≠ .halt) ∧ mayActOn s r.who x.source = true) →
          (∀ y ∈ s.badger.slots, y.cls = x.cls → y.source = x.source → y = x) → x ∈ t.badger.slots)
      ∧ t.badger.history = s.badger.history.map (fun h =>
          if ∃ x ∈ s.badger.slots, ((r.path = .mgp ∨ x.level ≠ .halt) ∧ mayActOn s r.who x.source = true)
              ∧ x.cls = classOf h.msg.kind ∧ x.source = h.msg.source then { h with acked := true } else h)) ∧
  (∀ (s : State) c src, s.badger.slot c src ≠ none → (s.badger.closeSlot c src).slot c src = none
      ∧ (∀ c' src', (c', src') ≠ (c, src) → (s.badger.closeSlot c src).slot c' src' = s.badger.slot c' src')
      ∧ (s.badger.closeSlot c src).history = s.badger.history.map (fun h =>
          if classOf h.msg.kind = c ∧ h.msg.source = src then { h with acked := true } else h)
      ∧ (s.badger.closeSlot c src).queue = s.badger.queue) ∧
  (∀ (s : State) c src, s.badger.slot c src = none → s.badger.closeSlot c src = s.badger))

/-- R603 to R607: a posted or forced message joins its source's queue, and test mode begins, ends and takes its
injections: one of the clock monitor halts the device at once, one of the reference monitor takes REF_READY away, and one of a
port's receiver goes out to it.
R598 to R601: the pins' pulses end, a written 1 clears a pending bit of its line alone, and the FIFO gives up its
oldest record. -/
def Obligations.MessagesTestModeAndEvents : Prop :=
  ((∀ s w, ∃ t, exec (.appPost w) s = .next t ∧ t = { s with badger := t.badger }
      ∧ Sends s t srcApp 0x41 (if w.getLsbD 24 then .warn else .note) (w.toNat % 2 ^ 24)) ∧
  (∀ s r data, objForce.Admits r tBlob data s → ∃ t, exec (.force r data) s = .next t ∧ t.answer.code = eOk ∧ t.ch = s.ch
      ∧ Sends s t (forceSource data) (BitVec.ofNat 8 (beNat (slice data 1 1))) (levelOf (beNat (slice data 2 1)))
          (beNat (slice data 3 3))
      ∧ ∀ m ∈ t.badger.queue, m ∈ s.badger.queue ∨ m.forced = true) ∧
  (∀ s r v, objTestEnter.Admits r tU8 [v] s → ∃ t, exec (.testEnter r v) s = .next t ∧ t.answer.code = eOk
      ∧ t.badger.testActive = true ∧ t.ch = s.ch) ∧
  (∀ s r v, objTestExit.Admits r tU8 [v] s → ∃ t, exec (.testExit r v) s = .next t ∧ t.answer.code = eOk
      ∧ t.badger.testActive = false ∧ (s.badger.testActive = true → t.badger.injections = [])) ∧
  (∀ s r data, objInject.Admits r tBlob data s → beNat (slice data 0 1) ≠ 5 → ∃ t, ∃ x : Injection, exec (.inject r data) s = .next t ∧ t.answer.code = eOk
      ∧ t.badger.injections = s.badger.injections ++ [x] ∧ x.target = beNat (slice data 0 1)
      ∧ x.arg = beNat (slice data 1 2) ∧ x.value = beNat (slice data 3 2)) ∧
  (∀ s r data, objInject.Admits r tBlob data s → beNat (slice data 0 1) = 5 → ∃ t, exec (.inject r data) s = .next t
      ∧ t.answer.code = eOk ∧ t.clk.refPresent = false ∧ t.clk.aonOnRc = true ∧ (∀ x ∈ t.badger.injections, x.target ≠ 5)
      ∧ (s.dev.state = .run → t.dev.state = .halt ∧ t.clk.clockLost = true)) ∧
  (∀ s r data, objInject.Admits r tBlob data s → beNat (slice data 0 1) = 4 → 10 < beNat (slice data 3 2) →
      s.dev.refReady = true → ∃ t, exec (.inject r data) s = .next t ∧ t.answer.code = eOk ∧ t.dev.refReady = false
        ∧ t.badger.refInjected = true ∧ Sends s t srcRef 0x21 .halt s.refMon.mon.toNat) ∧
  (∀ s r data p, objInject.Admits r tBlob data s → beNat (slice data 0 1) = 6 → beNat (slice data 1 2) % 3 = p.val →
      s.linkOn = true → ∃ t, exec (.inject r data) s = .next t ∧ t.answer.code = eOk
        ∧ t.emit = .codeErrors p (beNat (slice data 3 2)) :: s.emit ∧ t.ch = s.ch ∧ t.dev = s.dev) ∧
  (∀ s j, nextEnding s.badger.injections = some j → ∃ t, exec .injectionEnd s = .next t
      ∧ t.badger.injections = s.badger.injections.erase j ∧ t.badger.slots = s.badger.slots)) ∧
  ((∀ s, exec .alertPulseEnd s = .next { s with badger := { s.badger with alertPulsing := false } }) ∧
  (∀ s x, ∃ t, exec (.evtPulseEnd x) s = .next t ∧ t.events.lines[x.val] = { s.events.lines[x.val] with pulsing := false }
      ∧ (∀ y : Fin 4, y ≠ x → t.events.lines[y.val] = s.events.lines[y.val]) ∧ t.events.fifo = s.events.fifo
      ∧ t = { s with events := t.events }) ∧
  (∀ s r x mask, (objEvtClear x).Admits r tU32 (natBytes 4 mask.toNat) s → ∃ t, exec (.evtClear r x mask) s = .next t
      ∧ t.answer.code = eOk
      ∧ t.events.lines[x.val] = { s.events.lines[x.val] with pending := s.events.lines[x.val].pending &&& ~~~mask }
      ∧ (∀ y : Fin 4, y ≠ x → t.events.lines[y.val] = s.events.lines[y.val]) ∧ t.events.fifo = s.events.fifo
      ∧ t.ch = s.ch) ∧
  (∀ s x rest, s.events.fifo = x :: rest → exec .fifoPop s = .next { s with events := { s.events with fifo := rest } }))


/-! ### The loop engine (chapter 7) -/

/-- R261, R262, R267, Table 7.5: the arithmetic instructions that store one result of one cycle, saturated to Q2.30.
R261, R262, R267, Table 7.5: products, the accumulator, shifts, the quotient and the immediate. A product is
rounded with ties toward plus infinity, and a zero divisor gives the limit with the dividend's sign and sets DIVZ and
QSAT. -/
def Obligations.LoopArithmeticAndProducts : Prop :=
  (∀ (s : State) (e : Eng) (d a b : Opnd), s.clk.pllLock = true → d.writable = true → a.readable = true → b.readable = true →
    let x := runInputs s e
    let r := runOf s e
    let A := readInt x r a
    let B := readInt x r b
    (∃ t, exec (.leMov e d a) s = .next t ∧ Stepped e s t ∧ Stores r (t.engine e).run d A 1) ∧
    (∃ t, exec (.leAdd e d a b) s = .next t ∧ Stepped e s t ∧ Stores r (t.engine e).run d (A + B) 1) ∧
    (∃ t, exec (.leSub e d a b) s = .next t ∧ Stepped e s t ∧ Stores r (t.engine e).run d (A - B) 1) ∧
    (∃ t, exec (.leMin e d a b) s = .next t ∧ Stepped e s t ∧ Stores r (t.engine e).run d (if A ≤ B then A else B) 1) ∧
    (∃ t, exec (.leMax e d a b) s = .next t ∧ Stepped e s t ∧ Stores r (t.engine e).run d (if A ≤ B then B else A) 1) ∧
    (∃ t, exec (.leLim e d a b) s = .next t ∧ Stepped e s t
      ∧ Stores r (t.engine e).run d (if A < -|B| then -|B| else if |B| < A then |B| else A) 1) ∧
    (∃ t, exec (.leAbs e d a) s = .next t ∧ Stepped e s t ∧ Stores r (t.engine e).run d |A| 1) ∧
    (∃ t, exec (.leNeg e d a) s = .next t ∧ Stepped e s t ∧ Stores r (t.engine e).run d (-A) 1)) ∧
  (∀ (s : State) (e : Eng) (d a b : Opnd) (imm : Byte), s.clk.pllLock = true → d.writable = true → a.readable = true →
    b.readable = true →
    let x := runInputs s e
    let r := runOf s e
    let A := readInt x r a
    let B := readInt x r b
    (∃ t, exec (.leMul e d a b) s = .next t ∧ Stepped e s t ∧ Stores r (t.engine e).run d ((A * B + 2 ^ 29) / 2 ^ 30) 2) ∧
    (∃ t, exec (.leMac e a b) s = .next t ∧ Stepped e s t ∧ Accumulates r (t.engine e).run (r.acc.toInt + A * B) 2) ∧
    (∃ t, exec (.leMsu e a b) s = .next t ∧ Stepped e s t ∧ Accumulates r (t.engine e).run (r.acc.toInt - A * B) 2) ∧
    (∃ t, exec (.leClra e) s = .next t ∧ Stepped e s t ∧ Accumulates r (t.engine e).run 0 1) ∧
    (∃ t, exec (.leLda e a) s = .next t ∧ Stepped e s t ∧ Accumulates r (t.engine e).run (A * 2 ^ 30) 1) ∧
    (∃ t, exec (.leSta e d) s = .next t ∧ Stepped e s t
      ∧ Stores r (t.engine e).run d ((r.acc.toInt + 2 ^ 29) / 2 ^ 30) 1) ∧
    (imm.toNat ≤ 30 → ∃ t, exec (.leShl e d a imm) s = .next t ∧ Stepped e s t
      ∧ Stores r (t.engine e).run d (A * 2 ^ imm.toNat) 1) ∧
    (imm.toNat ≤ 30 → ∃ t, exec (.leShr e d a imm) s = .next t ∧ Stepped e s t
      ∧ Stores r (t.engine e).run d ((2 * A + 2 ^ imm.toNat) / (2 * 2 ^ imm.toNat)) 1) ∧
    (B ≠ 0 → ∃ t, exec (.leDiv e d a b) s = .next t ∧ Stepped e s t
      ∧ Stores r (t.engine e).run d ((2 * (A * B.sign * 2 ^ 30) + |B|) / (2 * |B|)) 18) ∧
    (B = 0 → ∃ t, exec (.leDiv e d a b) s = .next t ∧ Stepped e s t ∧ (t.engine e).run =
      { writeOp r d (if 0 ≤ A then 0x7FFFFFFF else 0x80000000) with
        flags := r.flags ||| 0xC0, pc := r.pc + 1, cycles := r.cycles + 18 }) ∧
    (∃ t, exec (.leLdi e d imm) s = .next t ∧ Stepped e s t ∧ Stores r (t.engine e).run d (imm.toInt * 2 ^ 23) 1))

/-- R267, R268, R272, R83, Table 7.5: NOP, the branches and the jump. What a command of a single instruction acts on is the
model's choice: the engine's run in progress (DESIGN CHOICE, log entry 31); by the same entry a command whose fields R272 does not
allow executes nothing, and none executes while the engines' clock is stopped (R83).
R276, R278, R283, R269, Table 7.5: the integrator with its wind-up schemes, the biquad's output, its two states and its
cycles, the injection, and the end of a run, which leaves the slots in the channel where its loop is open. -/
def Obligations.LoopControlAndFilters : Prop :=
  ((∀ (s : State) (e : Eng) (a b : Opnd) (imm : Byte), s.clk.pllLock = true →
    let x := runInputs s e
    let r := runOf s e
    (∃ t, exec (.leNop e) s = .next t ∧ Stepped e s t
      ∧ (t.engine e).run = { r with pc := r.pc + 1, cycles := r.cycles + 1 }) ∧
    (∃ t, exec (.leJmp e imm) s = .next t ∧ Stepped e s t ∧ Branches r (t.engine e).run imm True) ∧
    (a.readable = true →
      (∃ t, exec (.leBneg e a imm) s = .next t ∧ Stepped e s t ∧ Branches r (t.engine e).run imm (readInt x r a < 0)) ∧
      (∃ t, exec (.leBpos e a imm) s = .next t ∧ Stepped e s t ∧ Branches r (t.engine e).run imm (0 ≤ readInt x r a)) ∧
      (∃ t, exec (.leBz e a imm) s = .next t ∧ Stepped e s t ∧ Branches r (t.engine e).run imm (readInt x r a = 0)) ∧
      (∃ t, exec (.leBnz e a imm) s = .next t ∧ Stepped e s t ∧ Branches r (t.engine e).run imm (readInt x r a ≠ 0))) ∧
    (b.toNat ≤ 7 → ∃ t, exec (.leBfs e b imm) s = .next t ∧ Stepped e s t
      ∧ Branches r (t.engine e).run imm (r.flags.getLsbD b.toNat = true))) ∧
  (∀ (i : Instr) (e : Eng) (l : LoopInstr) (s : State), i.loop = some (e, l) → l.wf = false ∨ s.clk.pllLock = false →
    exec i s = .next s)) ∧
  ((∀ (s : State) (e : Eng) (d a b : Opnd), s.clk.pllLock = true → d.isS = true → a.readable = true → b.readable = true →
    let x := runInputs s e
    let r := runOf s e
    let sum := readInt x r d + (readInt x r a * readInt x r b + 2 ^ 29) / 2 ^ 30
    (x.scheme = 2 → r.flags.getLsbD 0 = false → r.flags.getLsbD 1 = false → ∃ t, exec (.leIntg e d a b) s = .next t ∧ Stepped e s t ∧ Stores r (t.engine e).run d sum 3) ∧
    (x.scheme = 2 → r.flags.getLsbD 0 = true ∨ r.flags.getLsbD 1 = true → ∃ t, exec (.leIntg e d a b) s = .next t
      ∧ Stepped e s t ∧ readOp x (t.engine e).run d = readOp x r d) ∧
    (x.scheme = 1 → x.lo ≤ x.hi → -2147483648 ≤ x.lo → x.hi ≤ 2147483647 → ∃ t, exec (.leIntg e d a b) s = .next t
      ∧ Stepped e s t ∧ readInt x (t.engine e).run d = max x.lo (min x.hi sum))) ∧
  (∀ (s : State) (e : Eng) (d a b : Opnd) (imm : Byte), s.clk.pllLock = true → d.writable = true → a.readable = true →
    b.isK = true → b.toNat + 4 < 0x38 → imm.toNat ≤ 14 → ∃ t, exec (.leBqd e d a b imm) s = .next t ∧ Stepped e s t
      ∧ (t.engine e).run.cycles = (runOf s e).cycles + 8 ∧ (t.engine e).run.pc = (runOf s e).pc + 1
      ∧ Filters (runInputs s e) (runOf s e) (t.engine e).run d a b imm) ∧
  (∀ (s : State) (e : Eng), s.clk.pllLock = true → ∃ t, exec (.leEnd e) s = .next t ∧ (t.engine e).run.ended = true
      ∧ (t.engine e).run.cycles = (runOf s e).cycles + 1
      ∧ ((s.chan (runCh s e)).loopClosed = false → (runOf s e).outer = false →
          (t.chan (runCh s e)).slots.s = (runOf s e).s ∧ (t.chan (runCh s e)).slots.t = (runOf s e).t)
      ∧ OthersKept (runCh s e) s t) ∧
  (∀ (s : State) (e : Eng), s.clk.pllLock = true → ∃ t, exec (.leTunt e) s = .next t
      ∧ Stores (runOf s e) (t.engine e).run 0x3D ((runOf s e).out.toInt + (runInputs s e).inject.toInt) 4
      ∧ OthersKept (runCh s e) s t))

/-- R263, R266, Table 7.4: a written slot reads back and no other operand changes, and a write to ZERO is discarded. -/
def Obligations.OperandsReadBack : Prop :=
  (∀ (x : Inputs) (r : Run) (d : Opnd) (w : Word), d.toNat < 0x18 → readOp x (writeOp r d w) d = w) ∧
  (∀ (x : Inputs) (r : Run) (d o : Opnd) (w : Word), d.toNat < 0x18 → o ≠ d → readOp x (writeOp r d w) o = readOp x r o) ∧
  (∀ (r : Run) (w : Word), writeOp r 0x3F w = r) ∧
  (∀ (x : Inputs) (r : Run), readOp x r 0x3F = 0)

/-- R259, R285, R286, R291, R404: the engine serves its pair. A channel whose samples wait has them consumed and its code
queued: the code of its run, or where the output holds, LAST_CODE. With both channels waiting, the one with the earlier deadline
goes first, then the one with fewer occasional steps due, then slot 0, and the other follows where the first has ended. A pair
with nothing waiting stays as it is, an outer step that is due is made, and a deadline presents the last code again.
R270 to R272, R277: a loaded program replaces the channel's user program and waits for the boundary while the clocks
run, an unload removes it, and a notch setting is stored and the bank's five coefficients are designed from it. -/
def Obligations.EngineServiceAndPrograms : Prop :=
  ((∀ s e, (s.chan e.slot0).loop.sampled = false → (s.chan e.slot1).loop.sampled = false →
      exec (.engineService e) s = .next s) ∧
  (∀ s e, s.clk.pllLock = true → (s.chan e.slot0).awaits = true → (s.chan e.slot1).loop.sampled = false → ∃ t, exec (.engineService e) s = .next t
      ∧ (t.chan e.slot0).loop.sampled = false ∧ OthersKept e.slot0 s t ∧ (∀ d, d ≠ e → t.engine d = s.engine d)
      ∧ (s.engine e).peakLoad ≤ (t.engine e).peakLoad) ∧
  (∀ s e, s.clk.pllLock = true → (s.chan e.slot1).awaits = true → (s.chan e.slot0).loop.sampled = false → ∃ t, exec (.engineService e) s = .next t
      ∧ (t.chan e.slot1).loop.sampled = false ∧ OthersKept e.slot1 s t ∧ (∀ d, d ≠ e → t.engine d = s.engine d)
      ∧ (s.engine e).peakLoad ≤ (t.engine e).peakLoad) ∧
  (∀ s e n m, s.clk.pllLock = true → (n = e.slot0 ∧ m = e.slot1) ∨ (n = e.slot1 ∧ m = e.slot0) →
      (s.chan m).loop.sampled = false → ∃ t, exec (.engineService e) s = .next t
      ∧ (PlainService s n (Nat.max 84 (s.engine e).cycle) → (t.chan n).out.queue.getLast? = some (codeOfRun s n)
          ∧ (t.chan n).loop.lastCycles = (s.chan n).loop.extra + 10 + (innerRun s (s.chan n)).cycles
          ∧ (t.chan n).loop.first = false)
      ∧ ((s.chan n).awaits = true → (s.chan n).out.holdTick = true →
          (t.chan n).out.queue.getLast? = some (s.chan n).last.code)) ∧
  (∀ s e, s.clk.pllLock = true → (s.chan e.slot0).awaits = true → (s.chan e.slot1).awaits = true →
      let odd := deadlineOf s e.slot1 < deadlineOf s e.slot0 ∨
        (deadlineOf s e.slot1 = deadlineOf s e.slot0 ∧ (s.chan e.slot1).stepsDue < (s.chan e.slot0).stepsDue)
      let a := if odd then e.slot1 else e.slot0
      let b := if odd then e.slot0 else e.slot1
      let u := serveChannel s a (Nat.max 84 (s.engine e).cycle)
      ∃ t, exec (.engineService e) s = .next t ∧ t = (serveChannel u.1 b u.2).1 ∧ u.1.chan b = s.chan b
        ∧ (t.chan a).out = (u.1.chan a).out ∧ (t.chan e.slot0).loop.sampled = false
        ∧ (t.chan e.slot1).loop.sampled = false ∧ (∀ m, m ≠ e.slot0 → m ≠ e.slot1 → t.chan m = s.chan m)
        ∧ (∀ d, d ≠ e → t.engine d = s.engine d)) ∧
  (∀ s n, s.clk.pllLock = true → (s.chan n).awaits = true → (s.chan n).outerNow = true → (s.chan n).out.holdTick = false →
      ∃ t, exec (.outerStep n) s = .next t ∧ (t.chan n).loop.outerDue = false ∧ (t.chan n).loop.outerRan = true
        ∧ (t.chan n).loop.outerLeft = (s.chan n).actProg.outerDiv
        ∧ (t.chan n).loop.extra = (s.chan n).loop.extra + (s.chan n).actProg.outerWcet + 24 ∧ OthersKept n s t) ∧
  (∀ s n, s.clk.pllLock = true → (s.chan n).awaits = true → (s.chan n).out.holdTick = false → ∃ t, exec (.deadlineOverrun n) s = .next t
      ∧ (t.chan n).loop.ovrCount = (s.chan n).loop.ovrCount.inc ∧ (t.chan n).loop.sampled = false
      ∧ (t.chan n).out.queue.getLast? = some (s.chan n).last.code ∧ OthersKept n s t)) ∧
  ((∀ s r n data p, s.clk.pllLock = true → (objLoadMain n).Admits r tBlob data s → decodeProgram true data = some p →
      ∃ t, exec (.loadMain r n data) s = .next t ∧ t.answer.code = eOk ∧ (t.chan n).prog = { (s.chan n).prog with userMain := some p, memMain := p.image }
        ∧ (t.chan n).actProg = (s.chan n).actProg ∧ OthersKept n s t) ∧
  (∀ s r n data p, s.clk.pllLock = true → (objLoadOuter n).Admits r tBlob data s → decodeProgram false data = some p →
      ∃ t, exec (.loadOuter r n data) s = .next t ∧ t.answer.code = eOk ∧ (t.chan n).prog = { (s.chan n).prog with userOuter := some p, memOuter := p.image }
        ∧ (t.chan n).actProg = (s.chan n).actProg ∧ OthersKept n s t) ∧
  (∀ s r n v, (objUnload n).Admits r tU8 [v] s → Done r (s.setCh n fun c => { c with
      prog := if v = 1 then { c.prog with userMain := none, memMain := noImage } else { c.prog with userOuter := none, memOuter := noImage } }) (exec (.unload r n v) s)) ∧
  (∀ s r n (bank : Fin 4) v o, objNotch n bank.val 1 = some o → o.Admits r tF32 (natBytes 4 v.toNat) s →
      ∃ t, exec (.notchDesign r n bank 1 v) s = .next t ∧ t.answer.code = eOk ∧ (t.chan n).notch[bank.val].f = v
        ∧ NotchDesigned s t n bank { (s.chan n).notch[bank.val] with f := v } ∧ OthersKept n s t) ∧
  (∀ s r n (bank : Fin 4) v o, objNotch n bank.val 2 = some o → o.Admits r tF32 (natBytes 4 v.toNat) s →
      ∃ t, exec (.notchDesign r n bank 2 v) s = .next t ∧ t.answer.code = eOk ∧ (t.chan n).notch[bank.val].q = v
        ∧ NotchDesigned s t n bank { (s.chan n).notch[bank.val] with q := v } ∧ OthersKept n s t) ∧
  (∀ s r n (bank : Fin 4) v o, objNotch n bank.val 3 = some o → o.Admits r tF32 (natBytes 4 v.toNat) s →
      ∃ t, exec (.notchDesign r n bank 3 v) s = .next t ∧ t.answer.code = eOk ∧ (t.chan n).notch[bank.val].depth = v
        ∧ NotchDesigned s t n bank { (s.chan n).notch[bank.val] with depth := v } ∧ OthersKept n s t))


/-! ### Set-point motion, supervision, tuning and LAC (chapter 8) -/

/-- R305, R308, R314 to R320: the follow input's edges and standstill, the monitors' reports, and the release of a
hold. -/
def Obligations.MotionAndSupervision : Prop :=
  (∀ s n, ∃ t, exec (.folEdge n ((s.chan n).actSp.folEdge == 0)) s = .next t
      ∧ (t.chan n).fol.edges = (s.chan n).fol.edges.inc ∧ (t.chan n).fol.lastEdge = some s.clk.tbc
      ∧ (∀ x, (s.chan n).fol.lastEdge = some x → (t.chan n).fol.lastPeriod = some (s.clk.tbc - x).toNat)
      ∧ (t.chan n).sp = (s.chan n).sp ∧ OthersKept n s t) ∧
  (∀ s n, (s.chan n).fol.src ≠ 0 → ∃ t, exec (.folStandstill n) s = .next t ∧ (t.chan n).fol.q = 0
      ∧ (t.chan n).fol.valid = false ∧ (t.chan n).fol.standstill = true ∧ (t.chan n).fol.lastPeriod = none
      ∧ (t.chan n).sp = (s.chan n).sp ∧ OthersKept n s t) ∧
  (∀ s n, (s.chan n).actSp.feTicks ≤ (s.chan n).fe.count → ∃ t, exec (.followingErrorReport n) s = .next t
      ∧ (t.chan n).fe.count = 0 ∧ (t.chan n).fe.reports = (s.chan n).fe.reports.inc
      ∧ Sends s t (srcCh n) 0x70 (levelOf (s.chan n).actSp.feLevel) (bNat (s.chan n).forcesI + 256 * (s.chan n).actSp.feTicks)
      ∧ OthersKept n s t) ∧
  (∀ s n, (s.chan n).actSp.oscRev ≤ (s.chan n).osc.count → ∃ t, exec (.oscillationReport n) s = .next t
      ∧ (t.chan n).osc.count = 0 ∧ (t.chan n).osc.reports = (s.chan n).osc.reports.inc
      ∧ Sends s t (srcCh n) 0x80 (levelOf (s.chan n).actSp.oscLevel) (s.chan n).actSp.oscRev ∧ OthersKept n s t) ∧
  (∀ s r n v, (objSrcResume n).Admits r tU8 [v] s → (s.chan n).hold.held ≠ 0 →
      Done r (s.modCh n fun c => { c with hold := { c.hold with resumeDue := true } }) (exec (.srcResume r n v) s)) ∧
  (∀ s r n v, (objSrcResume n).Admits r tU8 [v] s → (s.chan n).hold.held = 0 →
      Done r (s.modCh n fun c => { c with hold := { c.hold with due := 0 } }) (exec (.srcResume r n v) s))

/-- R321 to R323: a full segment of a tuning sequence is closed, and the end of the sequence stops the injection.
R327 to R336: the end of a LAC frame begins a new one and either sets targets for an update sixteen ticks later or
freezes with a message (WARN, KIND 0xA0, the case of Table 8.2 and the range), the update consumes its targets, and the two
requests act at the boundary. That LAC_RESUME leads to HELD, from which the next tick enters ADAPTING, is DEDUCED (log entry
14). -/
def Obligations.TuneAndLacCommands : Prop :=
  ((∀ s n, s.clk.pllLock = true → (s.chan n).loop.tuneDue = true → ∃ t, exec (.tuneSegmentClose n) s = .next t
      ∧ (t.chan n).tune.segsDone = (s.chan n).tune.segsDone.inc ∧ (t.chan n).loop.tuneDue = false
      ∧ (t.chan n).loop.extra = (s.chan n).loop.extra + 40 ∧ OthersKept n s t ∧ t.eng = s.eng) ∧
  (∀ s n, (s.chan n).mode.mode = .tune → (s.chan n).tune.over = true → (s.chan n).tune.done = false →
      ∃ t, exec (.tuneDone n) s = .next t ∧ (t.chan n).tune = { (s.chan n).tune with done := true, inject := 0 }
        ∧ (t.chan n).mode = (s.chan n).mode ∧ OthersKept n s t) ∧
  (∀ s n, (s.chan n).loop.tuneDue = false → exec (.tuneSegmentClose n) s = .next s)) ∧
  ((∀ s n, (s.chan n).lac.state = .adapting → (s.chan n).lac.frameTick = 4096 → ∃ t, exec (.lacFrameEnd n) s = .next t
      ∧ (t.chan n).lac.frameTick = 0 ∧ (t.chan n).lac.banks = (s.chan n).lac.banks ∧ OthersKept n s t
      ∧ (((t.chan n).lac.state = .adapting ∧ (t.chan n).lac.frames = (s.chan n).lac.frames.inc ∧ (t.chan n).loop.lacLeft = 16
            ∧ (t.chan n).lac.targets ≠ none) ∨
         ((t.chan n).lac.state = .frozen ∧ (t.chan n).lac.freezeWhy ≠ 0 ∧ (t.chan n).lac.frames = (s.chan n).lac.frames
            ∧ Sends s t (srcCh n) 0xA0 .warn ((t.chan n).lac.freezeWhy + 16 * (s.chan n).range)))) ∧
  (∀ s n, s.clk.pllLock = true → (s.chan n).loop.lacDue = true → ∃ t, exec (.lacUpdate n) s = .next t ∧ (t.chan n).loop.lacDue = false
      ∧ (t.chan n).lac.targets = none ∧ (t.chan n).loop.extra = (s.chan n).loop.extra + 64 ∧ OthersKept n s t
      ∧ ((s.chan n).lac.state ≠ .adapting → (t.chan n).lac.banks = (s.chan n).lac.banks)) ∧
  (∀ s r n v, s.clk.pllLock = true → (objLacRevert n).Admits r tU8 [v] s →
      Done r (s.modCh n fun c => { c with lac := { c.lac with revertDue := true } }) (exec (.lacRevert r n v) s)) ∧
  (∀ s r n v, (objLacResume n).Admits r tU8 [v] s → (s.chan n).lac.state = .frozen →
      Done r (s.modCh n fun c => { c with lac := { c.lac with state := .held } }) (exec (.lacResume r n v) s)) ∧
  (∀ s r n v, (objLacResume n).Admits r tU8 [v] s → (s.chan n).lac.state ≠ .frozen → Done r s (exec (.lacResume r n v) s)))


/-! ### Converters (chapter 9) -/

/-- R348, R349: a waveform capture from its arming, which with CAP_SRC 0 is its trigger, to its last record.
R368 to R371: a calibration point is measured over its ticks, its mean is kept by the point's kind, and the
computation takes both means.
R353 to R361: the auxiliary scan and its urgent requests. -/
def Obligations.CaptureCalibrationAndScans : Prop :=
  ((∀ s r n v, (objCapArm n).Admits r tU8 [v] s →
      Done r (s.modCh n fun c => { c with cap := { c.cap with state := .armed, triggered := c.cap.src == 0 } }) (exec (.capArm r n v) s)) ∧
  (∀ s n, s.clk.pllLock = true → (s.chan n).cap.state = .armed → (s.chan n).cap.triggered = true → ∃ t,
      exec (.captureStart n) s = .next t ∧ (t.chan n).cap.state = .capturing ∧ (t.chan n).cap.codes = []
        ∧ (t.chan n).cap.index = 0 ∧ (t.chan n).cap.missed = (s.chan n).cap.missed ∧ OthersKept n s t) ∧
  (∀ s n, (s.chan n).cap.state ≠ .armed ∨ (s.chan n).cap.triggered = false → exec (.captureStart n) s = .next s) ∧
  (∀ c : Channel, c.cap.state = .capturing ∨ c.cap.state = .copying →
      c.captureTrigger = { c with cap := { c.cap with missed := c.cap.missed.inc } }) ∧
  (∀ s n codes, s.clk.pllLock = true → (s.chan n).cap.state = .capturing → (s.chan n).cap.len = codes.length →
      (s.chan n).cap.ring ≠ 0xFFFF → ∃ t, exec (.captureComplete n codes) s = .next t ∧ (t.chan n).cap.state = .copying
        ∧ (t.chan n).cap.index = 0 ∧ (t.chan n).cap.codes.map (·.code) = codes.map (·.code)
        ∧ (∀ k, ((t.chan n).cap.codes[k]?).map (·.adcB) = codes[k]?.map fun _ => k % 2 == 1)
        ∧ t.hamper.bulk.getLast? = some (.capture n) ∧ OthersKept n s t) ∧
  (∀ s n codes, s.clk.pllLock = true → (s.chan n).cap.state = .capturing → (s.chan n).cap.len ≤ codes.length →
      (s.chan n).cap.ring = 0xFFFF → ∃ t, exec (.captureComplete n codes) s = .next t ∧ (t.chan n).cap.state = .copying
        ∧ (t.chan n).cap.codes = [] ∧ OthersKept n s t) ∧
  (∀ s n, (s.chan n).cap.state = .copying → (s.chan n).cap.codes = [] → ∃ t, exec (.captureCopyDone n) s = .next t
      ∧ (t.chan n).cap = { (s.chan n).cap with state := .idle } ∧ OthersKept n s t) ∧
  (∀ s n x rest, s.clk.pllLock = true → headSource s 12 = some (.capture n) → (s.chan n).cap.codes = x :: rest → ∃ t, exec (.hwRecordWrite (.capture n)) s = .next t
      ∧ (t.chan n).cap = { (s.chan n).cap with codes := rest, index := (s.chan n).cap.index + 1 } ∧ OthersKept n s t)) ∧
  ((∀ s r n v, (objCalPoint n).Admits r tU8 [v] s → ∃ t, exec (.calPoint r n v) s = .next t ∧ t.answer.code = eOk
      ∧ (t.chan n).conv.calStatus = .capturing ∧ (t.chan n).conv.capFull = (v == 2)
      ∧ (t.chan n).conv.capLeft = (s.chan n).conv.calTicks ∧ (t.chan n).conv.capSum = 0 ∧ OthersKept n s t) ∧
  (∀ s n, (s.chan n).conv.calStatus = .capturing → (s.chan n).conv.capOpen = true → (s.chan n).conv.capLeft = 0 →
      ∃ t, exec (.calCaptureDone n) s = .next t ∧ (t.chan n).conv.calStatus = .idle ∧ (t.chan n).conv.capOpen = false
        ∧ ((s.chan n).conv.capFull = true → (t.chan n).conv.zeroMean = (s.chan n).conv.zeroMean
            ∧ (t.chan n).conv.fullMean = some (Q.mk (s.chan n).conv.capSum (s.chan n).conv.capTicks).toF64)
        ∧ ((s.chan n).conv.capFull = false → (t.chan n).conv.fullMean = (s.chan n).conv.fullMean
            ∧ (t.chan n).conv.zeroMean = some (Q.mk (s.chan n).conv.capSum (s.chan n).conv.capTicks).toF64)
        ∧ OthersKept n s t) ∧
  (∀ s r n v gain ofs, (objCalCompute n).Admits r tU8 [v] s → (s.chan n).conv.calResult v.toNat (s.chan n).trueDs = some (gain, ofs) →
      ∃ t, exec (.calCompute r n v) s = .next t ∧ t.answer.code = (if calLegal gain ofs then eOk else eRange)
        ∧ (t.chan n).conv.calStatus = (if calLegal gain ofs then .applied else .outOfRange)
        ∧ (calLegal gain ofs = false → (t.chan n).conv = { (s.chan n).conv with calStatus := .outOfRange }) ∧ OthersKept n s t) ∧
  (∀ s n, (s.chan n).actProg.timing ≠ 1 → exec (.phaseUpdate n) s = .next s) ∧
  (∀ s n, s.clk.pllLock = true → (s.chan n).actProg.timing = 1 → exec (.phaseUpdate n) s = .next (s.modCh n Channel.update))) ∧
  ((∀ s r v, objScanStart.Admits r tU8 [v] s → Done r (s.withAux Aux.trigger) (exec (.scanStart r v) s)) ∧
  (∀ s r v, objScanStop.Admits r tU8 [v] s → s.aux.state ≠ .idle →
      Done r { s with aux := { s.aux with stopDue := true } } (exec (.scanStop r v) s)) ∧
  (∀ s r v, objScanStop.Admits r tU8 [v] s → s.aux.state = .idle → Done r s (exec (.scanStop r v) s)) ∧
  (∀ s r v, objUrgReq.Admits r tU8 [v] s → Done r { s with aux := { s.aux with
      urgent := insertUrg ⟨.host, v.toNat, s.now⟩ s.aux.urgent, urgDone := false, urgInput := BitVec.ofNat 5 v.toNat } }
        (exec (.urgReq r v) s)) ∧
  (∀ s, s.clk.pllLock = true → s.aux.src = 1 → ∃ t, exec .scanTimerWrap s = .next t ∧ t.aux.periodActive = s.aux.period
      ∧ t = { s with aux := t.aux, hamper := t.hamper }) ∧
  (∀ s, s.clk.pllLock = true → s.aux.state = .delay → exec .scanDelayEnd s = .next { s with aux := { s.aux with state := .scanning } }) ∧
  (∀ s u rest, s.clk.pllLock = true → s.aux.urgent = u :: rest → ∃ t j, exec .auxSlotStart s = .next t ∧ t.aux.slot = some j
      ∧ j.req = some u.src ∧ t = { s with aux := t.aux } ∧ t.aux.todo = s.aux.todo
      ∧ t.aux.inFlight = s.aux.inFlight ++ s.aux.slot.toList) ∧
  (∀ s j rest code ready, s.clk.pllLock = true → s.aux.inFlight = j :: rest → j.req = some .host → ∃ t,
      exec (.auxResult code ready) s = .next t ∧ t.aux.inFlight = rest ∧ t.aux.urgResult = j.result s code
        ∧ t.aux.urgDone = true ∧ t.ch = s.ch) ∧
  (∀ s j rest code ready, s.clk.pllLock = true → s.aux.inFlight = j :: rest → ∃ t, exec (.auxResult code ready) s = .next t
      ∧ t.aux.inFlight = rest ∧ t.aux.slot = s.aux.slot
      ∧ (j.input < 24 → (t.aux.last[j.input]?).map (·.code) = some (j.result s code))
      ∧ ∀ n, j.req ≠ some (.chan n) → t.chan n = s.chan n) ∧
  (∀ s j code ready, s.clk.pllLock = true → s.aux.inFlight = [] → s.aux.slot = some j → ∃ t,
      exec (.auxResult code ready) s = .next t ∧ t.aux.inFlight = [] ∧ t.aux.slot = none) ∧
  (∀ s, s.clk.pllLock = true → s.aux.urgent = [] → ∃ t, exec .auxSlotStart s = .next t ∧ t = { s with aux := t.aux }
      ∧ t.aux.inFlight = s.aux.inFlight ++ s.aux.slot.toList) ∧
  (∀ s, s.clk.pllLock = true → s.aux.stopDue = true → s.aux.state ≠ .idle → s.aux.latchPending = false → ∃ t,
      exec .scanEnd s = .next t ∧ t.aux.state = .idle ∧ t.aux.stopDue = false ∧ t.aux.active = s.aux.shadow) ∧
  (∀ s, s.clk.pllLock = true → s.aux.state = .scanning → s.aux.todo = [] → s.aux.latchPending = false → ∃ t,
      exec .scanEnd s = .next t ∧ t.aux.state = .idle ∧ t.aux.active = s.aux.shadow
        ∧ t = { s with aux := t.aux, hamper := t.hamper }))


/-! ### Outputs, clamps, ranges and triggers (chapter 10) -/

/-- R387, R388: CLR_n's fall counts and holds the enabled channels that source in RUN, and its rise releases those
held.
R393 to R396: a trip is counted once, latches the clamp code that CLAMP_MODE selects, presents it on a channel that
sources and sends its message; a second path's trip keeps the code; a release needs every tripped path below its level for
its ticks, and a held clamp's message is repeated. -/
def Obligations.ClearAndClampCommands : Prop :=
  ((∀ s, s.dev.state = .run → ∃ t, exec .clrNFall s = .next t ∧ t.trig.clrN = false ∧ t.trig.clrCount = s.trig.clrCount.inc
      ∧ (∀ n, (s.chan n).actSp.clrEn = true → (s.chan n).sources = true → (t.chan n).out.clrHeld = true)
      ∧ (∀ n, (s.chan n).actSp.clrEn = false → t.chan n = s.chan n)) ∧
  (∀ s, s.dev.state ≠ .run → exec .clrNFall s = .next { s with trig := { s.trig with clrN := false } }) ∧
  (∀ s, ∃ t, exec .clrNRise s = .next t ∧ t.trig = { s.trig with clrN := true }
      ∧ (∀ n, (t.chan n).out.clrHeld = false) ∧ (∀ n, (s.chan n).out.clrHeld = false → t.chan n = s.chan n))) ∧
  ((∀ s n p, (s.chan n).mode.mode ≠ .off → (s.chan n).clamp.trippedOn p = false →
      ∃ t, exec (.clampTrip n p) s = .next t ∧ (t.chan n).clamp.trippedOn p = true
        ∧ (t.chan n).clamp.trips = (s.chan n).clamp.trips.inc ∧ (t.chan n).fe.clampSeen = true
        ∧ ((s.chan n).clamp.tripped = true → (t.chan n).clamp.code = (s.chan n).clamp.code)
        ∧ ((s.chan n).clamp.tripped = false → (s.chan n).out.clampMode = 0 → (t.chan n).clamp.code = (s.chan n).zeroCode)
        ∧ ((s.chan n).clamp.tripped = false → (s.chan n).out.clampMode ≠ 0 →
            (t.chan n).clamp.code = (if (s.chan n).zeroCode ≤ (s.chan n).presented
              then Nat.max (s.chan n).zeroCode ((s.chan n).presented - (s.chan n).out.clampBackoff)
              else Nat.min (s.chan n).zeroCode ((s.chan n).presented + (s.chan n).out.clampBackoff)))
        ∧ ((s.chan n).sources = true → (s.chan n).out.clrHeld = false →
            (t.chan n).presented = (t.chan n).clamp.code ∧ (t.chan n).last.code = (t.chan n).clamp.code)
        ∧ Sends s t (srcCh n) (clampKind p) .warn ((s.chan n).clamp.thr p) ∧ OthersKept n s t) ∧
  (∀ s n p, (s.chan n).clamp.trippedOn p = true → exec (.clampTrip n p) s = .next s) ∧
  (∀ s n, (s.chan n).mayRelease = true → ∃ t, exec (.clampRelease n) s = .next t ∧ (t.chan n).clamp.tripped = false
      ∧ (t.chan n).clamp.trips = (s.chan n).clamp.trips ∧ (t.chan n).out = (s.chan n).out ∧ OthersKept n s t) ∧
  (∀ s n, (s.chan n).mayRelease = false → exec (.clampRelease n) s = .next s) ∧
  (∀ s n p, (s.chan n).clamp.trippedOn p = true → ∃ t, exec (.clampHoldRepeat n p) s = .next t
      ∧ t = { s with badger := t.badger } ∧ Sends s t (srcCh n) (clampKind p) .warn ((s.chan n).clamp.thr p + 0x10000)))

/-- R397, R398: an accepted request starts a change to another range, and one for the range in force is only noted.
R399 to R406, Table 10.4: make before break, hold tick, and the change of a range without a common point, from the
make to the event. -/
def Obligations.RangeChanges : Prop :=
  ((∀ s r n v, (objRangeReq n).Admits r tU8 [v] s → (s.chan n).range = v.toNat → (s.chan n).rng.running = false →
      Done r (s.modCh n fun c => { c with rng := { c.rng with req := some v.toNat } }) (exec (.rangeReq r n v) s)) ∧
  (∀ s r n v, (objRangeReq n).Admits r tU8 [v] s → (s.chan n).range ≠ v.toNat → ∃ t, exec (.rangeReq r n v) s = .next t
      ∧ t.answer.code = eOk ∧ (t.chan n).rng.target = some v.toNat ∧ (t.chan n).rng.changing = true
      ∧ (t.chan n).rng.active = (s.chan n).rng.active ∧ (t.chan n).rng.method = (s.chan n).rangeMethod ∧ OthersKept n s t)) ∧
  ((∀ s n k, (s.chan n).rng.target = some k → (s.chan n).rng.phase = .idle → (s.chan n).rng.method = 0 → s.dev.state = .run →
      ∃ t, exec (.rangeMake n) s = .next t ∧ (t.chan n).rng.phase = .make ∧ (t.chan n).rng.target = some k
        ∧ (t.chan n).out.holdTick = false ∧ (t.chan n).rng.bridge = (s.chan n).forcesI ∧ OthersKept n s t) ∧
  (∀ s n k, (s.chan n).rng.target = some k → (s.chan n).rng.phase = .idle → (s.chan n).rng.method = 1 → s.dev.state = .run →
      ∃ t, exec (.rangeMake n) s = .next t ∧ (t.chan n).rng.phase = .hold ∧ (t.chan n).rng.left = 1
        ∧ (t.chan n).out.holdTick = true ∧ OthersKept n s t) ∧
  (∀ s n k, (s.chan n).rng.target = some k → (s.chan n).rng.phase = .make → (s.chan n).rng.left = 0 →
      ∃ t, exec (.rangeSwitch n) s = .next t ∧ (t.chan n).rng.active = some k ∧ (t.chan n).rng.phase = .break_
        ∧ (t.chan n).rng.changing = false ∧ (t.chan n).loop.rsw = true ∧ OthersKept n s t) ∧
  (∀ s n, (s.chan n).rng.phase = .break_ → (s.chan n).rng.left = 0 → (s.chan n).rng.stepReq = none →
      ∃ t, exec (.rangeBreakEnd n) s = .next t ∧ (t.chan n).rng.phase = .idle ∧ (t.chan n).rng.target = none
        ∧ (t.chan n).rng.active = (s.chan n).rng.active ∧ (t.chan n).rng.changes = (s.chan n).rng.changes.inc
        ∧ OthersKept n s t) ∧
  (∀ s n k, (s.chan n).rng.target = some k → (s.chan n).rng.phase = .hold → (s.chan n).rng.left = 0 →
      (s.chan n).rng.stepReq = none → ∃ t, exec (.rangeHoldSwitch n) s = .next t ∧ (t.chan n).rng.active = some k
        ∧ (t.chan n).rng.phase = .idle ∧ (t.chan n).out.holdTick = false
        ∧ (t.chan n).rng.changes = (s.chan n).rng.changes.inc ∧ OthersKept n s t) ∧
  (∀ s n k, (s.chan n).rng.target = some k → (s.chan n).rng.method = 2 → (s.chan n).mode.mode = .meter →
      ∃ t, exec (.rangeNoOverlap n) s = .next t ∧ (t.chan n).rng.active = some k ∧ (t.chan n).rng.target = none
        ∧ (t.chan n).rng.changes = (s.chan n).rng.changes.inc ∧ OthersKept n s t))

/-- R408 to R410: a fast step is armed, fires its code at once and takes its set-point over at the boundary, and it
fires once.
R411 to R413: a trigger input's edge counts in RUN alone and fires what is armed on it, a pulse ends, and the
pulse and wave generators run, wrap and end their width.
R446 to R454: the list's requests, its triggers, and a step's start, dwell and measurement. -/
def Obligations.FastStepsTriggersAndSweeps : Prop :=
  ((∀ s r n v, (objFastArm n).Admits r tU8 [v] s →
      Done r (s.modCh n fun c => { c with fast := { c.fast with state := .armed } }) (exec (.fastArm r n v) s)) ∧
  (∀ s n, (s.chan n).fast.state = .armed → ∃ t, exec (.fastFire n) s = .next t ∧ (t.chan n).fast.state = .fired
      ∧ (t.chan n).fast.due = ((s.chan n).fast.sp, (s.chan n).mode.mode == .fi) :: (s.chan n).fast.due
      ∧ (t.chan n).out.fastHeld = true ∧ (t.chan n).out.code = (s.chan n).fastCode ∧ (t.chan n).out.queue = []
      ∧ (t.chan n).sp = (s.chan n).sp ∧ OthersKept n s t) ∧
  (∀ s n, (s.chan n).fast.state ≠ .armed → exec (.fastFire n) s = .next s) ∧
  (∀ s n x current, (s.chan n).fast.state = .fired → (s.chan n).fast.due = [(x, current)] →
      (s.chan n).mode.mode = (if current then .fi else .fv) → ∃ t, exec (.fastSpApply n) s = .next t
        ∧ (t.chan n).fast.state = .idle ∧ (t.chan n).fast.due = [] ∧ (t.chan n).fast.fires = (s.chan n).fast.fires.add 1
        ∧ (t.chan n).sp.active = x ∧ (t.chan n).loop.first = true ∧ OthersKept n s t) ∧
  (∀ s n, (s.chan n).fast.due = [] → exec (.fastSpApply n) s = .next s)) ∧
  ((∀ s i, s.dev.state = .run → ∃ t, exec (.triginEdge i) s = .next t
      ∧ (t.trig.ins[i.val]).count = (s.trig.ins[i.val]).count.inc
      ∧ (∀ n, (s.chan n).cap.src = i.val + 1 → (s.chan n).cap.state = .armed → (t.chan n).cap.triggered = true)
      ∧ (∀ n, (s.chan n).fast.src = i.val + 1 → (s.chan n).fast.state = .armed → (t.chan n).fast.state = .fired)) ∧
  (∀ s i, s.dev.state ≠ .run → exec (.triginEdge i) s = .next s) ∧
  (∀ s j, ∃ t, exec (.trigoutPulseEnd j) s = .next t ∧ (t.trig.outs[j.val]).pulsing = false
      ∧ (∀ k : Fin 4, k ≠ j → t.trig.outs[k.val] = s.trig.outs[k.val]) ∧ t = { s with trig := t.trig }) ∧
  (∀ s p w, w.getLsbD 0 = true → (s.trig.pwgs[p.val]).run = false → ∃ t, exec (.pwgRun p w) s = .next t
      ∧ t.trig.pwgs[p.val] = (s.trig.pwgs[p.val]).wrap ∧ t.ch = s.ch) ∧
  (∀ s p w, w.getLsbD 0 = false → ∃ t, exec (.pwgRun p w) s = .next t
      ∧ t.trig.pwgs[p.val] = { s.trig.pwgs[p.val] with run := false, out := false } ∧ t = { s with trig := t.trig }) ∧
  (∀ s p, s.clk.pllLock = true → (s.trig.pwgs[p.val]).run = true → ∃ t, exec (.pwgWrap p) s = .next t
      ∧ (t.trig.pwgs[p.val]).periodActive = (s.trig.pwgs[p.val]).period
      ∧ (t.trig.pwgs[p.val]).widthActive = (s.trig.pwgs[p.val]).width ∧ t.ch = s.ch) ∧
  (∀ s p, s.clk.pllLock = true → (s.trig.pwgs[p.val]).widthActive < (s.trig.pwgs[p.val]).periodActive → ∃ t,
      exec (.pwgWidthEnd p) s = .next t ∧ (t.trig.pwgs[p.val]).out = false ∧ t = { s with trig := t.trig })) ∧
  ((∀ s r n v, (objListStart n).Admits r tU8 [v] s → ∃ t, exec (.listStart r n v) s = .next t ∧ t.answer.code = eOk
      ∧ (t.chan n).sweep.listState = (if (s.chan n).sweep.startSrc = 0 then .running else .waitStart)
      ∧ (t.chan n).sweep.cur = none ∧ (t.chan n).mode = (s.chan n).mode ∧ OthersKept n s t) ∧
  (∀ s r n v, (objListStop n).Admits r tU8 [v] s → (s.chan n).sweep.active = true → ∃ t, exec (.listStop r n v) s = .next t
      ∧ t.answer.code = eOk ∧ (t.chan n).sweep.listState = .ended ∧ (t.chan n).sweep.endReason = 6
      ∧ (t.chan n).mode = (s.chan n).mode ∧ OthersKept n s t) ∧
  (∀ s r n v, (objSwpTrig n).Admits r tU8 [v] s → (s.chan n).sweep.listState = .running → (s.chan n).sweep.phase = .waitTrig →
      ∃ t, exec (.swpTrig r n v) s = .next t ∧ t.answer.code = eOk ∧ (t.chan n).sweep.startDue = true ∧ OthersKept n s t) ∧
  (∀ s r n v, (objSwpTrig n).Admits r tU8 [v] s → Done r (advance s n) (exec (.swpTrig r n v) s)) ∧
  (∀ s n, (s.chan n).sweep.advSrc ≠ 0 → (s.chan n).sweep.listState = .waitStart → exec (.stepAdvanceTrigger n) s =
      .next (s.modCh n fun c => { c with sweep := { c.sweep with startDue := true } })) ∧
  (∀ s n, (s.chan n).sweep.advSrc ≠ 0 → (s.chan n).sweep.listState = .running → (s.chan n).sweep.phase = .dwell
        ∨ (s.chan n).sweep.phase = .measure ∨ (s.chan n).sweep.phase = .ranging →
      ((s.chan n).sweep.stepPolicy = 1 → (s.chan n).sweep.trigPending = false → exec (.stepAdvanceTrigger n) s =
        .next (s.modCh n fun c => { c with sweep := { c.sweep with trigPending := true } })) ∧
      ((s.chan n).sweep.stepPolicy = 2 → (s.chan n).sweep.abortDue = false → exec (.stepAdvanceTrigger n) s =
        .next (s.modCh n fun c => { c with sweep := { c.sweep with abortDue := true } })) ∧
      ((s.chan n).sweep.stepPolicy = 0 → ∃ t, exec (.stepAdvanceTrigger n) s = .next t
        ∧ (t.chan n).sweep.missed = (s.chan n).sweep.missed.inc ∧ OthersKept n s t)) ∧
  (∀ s n u q, s.clk.pllLock = true → (s.chan n).sweeps = true → (s.chan n).sweep.mayStart = true →
      nextStep s n = (u, .step q) → ∃ t, exec (.stepStart n) s = .next t ∧ (t.chan n).sweep.stepId = q.stepId
        ∧ (t.chan n).sweep.stepSeq = (s.chan n).sweep.stepSeq.inc ∧ t.hamper.stepsTotal = s.hamper.stepsTotal + 1
        ∧ ((t.chan n).sweep.cur = some q ∧ (t.chan n).sweep.listState = .running ∨
           q.rngEn = true ∧ (t.chan n).sweep.listState = .ended ∧ (t.chan n).sweep.endReason = 5) ∧ OthersKept n s t) ∧
  (∀ s n u k, s.clk.pllLock = true → (s.chan n).sweeps = true → (s.chan n).sweep.mayStart = true →
      nextStep s n = (u, .bad k) → ∃ t, exec (.stepStart n) s = .next t ∧ (t.chan n).sweep.listState = .ended
        ∧ (t.chan n).sweep.endReason = 4 ∧ OthersKept n s t) ∧
  (∀ s n u, s.clk.pllLock = true → (s.chan n).sweeps = true → (s.chan n).sweep.mayStart = true →
      nextStep s n = (u, .empty) → ∃ t, exec (.stepStart n) s = .next t ∧ (t.chan n).sweep.listState = .ended
        ∧ (t.chan n).sweep.endReason = 3 ∧ OthersKept n s t) ∧
  (∀ s n r, s.clk.pllLock = true → (s.chan n).sweep.cur = some r → (s.chan n).sweep.phase = .measure → (s.chan n).sweep.left = 0 →
      (s.chan n).sweep.listState = .running → (s.chan n).sweep.window.opened = true → r.endStep = false →
      (s.chan n).sweep.replay = false →
      let go := (s.chan n).sweep.advSrc == 0 || (s.chan n).sweep.trigPending || (s.chan n).sweep.abortDue
      ∃ t, exec (.stepMeasureEnd n) s = .next t ∧ (t.chan n).sweep.listState = .running ∧ (t.chan n).sweep.cur = none
        ∧ (t.chan n).sweep.phase = (if go then .none else .waitTrig) ∧ (t.chan n).sweep.startDue = go ∧ OthersKept n s t) ∧
  (∀ s n r, s.clk.pllLock = true → (s.chan n).sweep.cur = some r → (s.chan n).sweep.phase = .dwell
        ∨ (s.chan n).sweep.phase = .measure → (s.chan n).sweep.left ≠ 0 → (s.chan n).sweep.listState = .running →
      (s.chan n).sweep.abortDue = true → r.endStep = false → (s.chan n).sweep.replay = false → ∃ t,
        exec (.stepMeasureEnd n) s = .next t ∧ (t.chan n).sweep.cur = none ∧ (t.chan n).sweep.startDue = true
        ∧ ((s.chan n).sweep.resultRing ≠ 0xFFFF → (t.chan n).sweep.short = (s.chan n).sweep.short.inc) ∧ OthersKept n s t) ∧
  (∀ s n r, s.clk.pllLock = true → (s.chan n).sweep.cur = some r → (s.chan n).sweep.phase = .dwell → (s.chan n).sweep.left = 0 →
      (s.chan n).sweep.listState = .running → r.meas = 0 → r.endStep = true → ∃ t, exec (.stepDwellEnd n) s = .next t
        ∧ (t.chan n).sweep.listState = .ended ∧ (t.chan n).sweep.endReason = 1 ∧ OthersKept n s t) ∧
  (∀ s n, (s.chan n).sweep.advSrc ≠ 0 → (s.chan n).sweep.listState = .running → (s.chan n).sweep.phase = .waitTrig →
      exec (.stepAdvanceTrigger n) s =
        .next (s.modCh n fun c => { c with sweep := { c.sweep with startDue := true } })) ∧
  (∀ s n u q, s.clk.pllLock = true → (s.chan n).sweeps = true → (s.chan n).sweep.mayStart = true →
      nextStep s n = (u, .step q) → q.rngEn = false →
      ∃ t, exec (.stepStart n) s = .next t ∧ (t.chan n).sweep.cur = some q ∧ (t.chan n).sweep.stepId = q.stepId
        ∧ (t.chan n).sweep.stepSeq = (s.chan n).sweep.stepSeq.inc ∧ t.hamper.stepsTotal = s.hamper.stepsTotal + 1
        ∧ OthersKept n s t) ∧
  (∀ s n, s.clk.pllLock = true → (s.chan n).sweeps = true → (s.chan n).sweep.mayStart = true →
      s.badger.testActive = false → s.hamper.ring (s.chan n).sweep.listRing = none →
      ∃ t, exec (.stepStart n) s = .next t ∧ (t.chan n).sweep.listState = .ended ∧ (t.chan n).sweep.endReason = 3
        ∧ OthersKept n s t) ∧
  (∀ s n r, s.clk.pllLock = true → (s.chan n).sweep.cur = some r → (s.chan n).sweep.phase = .dwell → (s.chan n).sweep.left = 0 →
      (s.chan n).sweep.listState = .running → r.meas ≠ 0 → ∃ t, exec (.stepDwellEnd n) s = .next t
        ∧ (t.chan n).sweep.phase = .measure ∧ (t.chan n).sweep.left = r.meas ∧ (t.chan n).sweep.window.opened = true
        ∧ OthersKept n s t) ∧
  (∀ s n r, s.clk.pllLock = true → (s.chan n).sweep.cur = some r → (s.chan n).sweep.phase = .measure → (s.chan n).sweep.left = 0 →
      (s.chan n).sweep.listState = .running → (s.chan n).sweep.window.opened = true → r.endStep = true →
      ∃ t, exec (.stepMeasureEnd n) s = .next t ∧ (t.chan n).sweep.listState = .ended ∧ (t.chan n).sweep.endReason = 1
        ∧ (t.chan n).sweep.cur = none ∧ OthersKept n s t))


/-! ### Rings and sweeps (chapter 11) -/

/-- R417 to R421, R433, R437, R458: a ring is configured, freed and flushed as a whole, and one-second losses are
taken from the totals.
R430, R463, R467, R469: the granted requester writes the oldest record that its source has staged, one record a grant;
a bundle's first grant reserves the room of all its records and its last one stores them; the write ends the grant; and
nothing is written without the grant or where the source has nothing. -/
def Obligations.RingsAndHardwareRecords : Prop :=
  ((∀ s r data x, objRingConfig.Admits r tBlob data s → ringOfBlob data = some x → ∃ t, exec (.ringConfig r data) s = .next t
      ∧ t.answer.code = eOk ∧ x.recs = [] ∧ x.pagesHeld = x.minPages ∧ t.ch = s.ch
      ∧ (∃ y, t.hamper.ring x.num = some y ∧ y = { x with pages := y.pages, pageNext := y.pageNext }
          ∧ y.pages.length = x.minPages)
      ∧ ∀ k, k ≠ x.num → t.hamper.ring k = s.hamper.ring k) ∧
  (∀ s r num x, (objRingFree).Admits r tU16 (natBytes 2 num.toNat) s → s.hamper.ring num.toNat = some x →
      ∃ t, exec (.ringFree r num) s = .next t ∧ t.answer.code = eOk ∧ t.ch = s.ch
      ∧ { x with enabled := false, recs := [], headSlot := 0, pagesHeld := 0, pages := [], headGap := 0, pendLoss := 0 }
          ∈ t.hamper.rings
      ∧ (s.hamper.rings = [x] → t.hamper.ring num.toNat = none)
      ∧ ∀ k, k ≠ num.toNat → t.hamper.ring k = s.hamper.ring k) ∧
  (∀ s r num x, (objRingFlush).Admits r tU16 (natBytes 2 num.toNat) s → s.hamper.ring num.toNat = some x →
      ∃ t, exec (.ringFlush r num) s = .next t ∧ t.answer.code = eOk ∧ t.ch = s.ch
        ∧ t.hamper.ring num.toNat = some { x with recs := [], headSlot := 0, pagesHeld := x.minPages,
                                                  pages := x.pages.take x.minPages, headGap := 0, pendLoss := 0,
                                                  wmArmed := true }
        ∧ ∀ k, k ≠ num.toNat → t.hamper.ring k = s.hamper.ring k) ∧
  (∀ s, s.clk.pllLock = true → ∃ t, exec .lossRateUpdate s = .next t ∧ t = { s with hamper := t.hamper }
      ∧ t.hamper.rings = s.hamper.rings.map fun x =>
          { x with lossPerS := (x.lossTotal - x.lossMark).setWidth 32, lossMark := x.lossTotal })) ∧
  ((∀ s n x rest, s.clk.pllLock = true → s.hamper.staging = x :: rest → x.src = .stream n → x.sent = 0 → x.recs.length ≤ 1 →
      s.pool.owner = some (poolReq (.stream n)) → s.badger.testActive = false → ∃ t,
      exec (.hwRecordWrite (.stream n)) s = .next t ∧ t.hamper.staging = rest ∧ t.pool.owner = none ∧ t.dev = s.dev) ∧
  (∀ s src x rest r, s.clk.pllLock = true → (∀ n, src ≠ .capture n) → headSource s (poolReq src) = some src →
      s.pool.owner = some (poolReq src) → x.sent = 0 → x.recs.length = 1 →
      takeFirst (fun x => x.src == src) s.hamper.staging = some (x, rest) → s.badger.testActive = false →
      boundRing s src = some r → r.pendLoss = 0 → s.hamper.fits r (r.slotsFor x.recs) = true → ∃ t r',
        exec (.hwRecordWrite src) s = .next t ∧ t.hamper.staging = rest ∧ t.hamper.ring r.num = some r' ∧ t.pool.owner = none
        ∧ r'.recs.map (·.bytes) = r.recs.map (·.bytes) ++ x.recs ∧ t.dev = s.dev ∧ t.ch = s.ch) ∧
  (∀ s src x rest r, s.clk.pllLock = true → (∀ n, src ≠ .capture n) → headSource s (poolReq src) = some src →
      s.pool.owner = some (poolReq src) → x.sent = 0 → 2 ≤ x.recs.length →
      takeFirst (fun x => x.src == src) s.hamper.staging = some (x, rest) → s.badger.testActive = false →
      boundRing s src = some r → r.pendLoss = 0 → s.hamper.fits r (r.slotsFor x.recs) = true → ∃ t r',
        exec (.hwRecordWrite src) s = .next t ∧ t.pool.owner = none ∧ t.hamper.ring r.num = some r' ∧ r'.recs = r.recs
        ∧ r'.reserved = x.recs.length
        ∧ t.hamper.staging = setFirst (·.src == src) { x with sent := 1, ring := r.num } s.hamper.staging
        ∧ t.dev = s.dev ∧ t.ch = s.ch) ∧
  (∀ s src x rest, s.clk.pllLock = true → (∀ n, src ≠ .capture n) → headSource s (poolReq src) = some src →
      s.pool.owner = some (poolReq src) → x.sent ≠ 0 → x.sent + 1 < x.recs.length →
      takeFirst (fun x => x.src == src) s.hamper.staging = some (x, rest) → ∃ t, exec (.hwRecordWrite src) s = .next t
        ∧ t.hamper.rings = s.hamper.rings ∧ t.pool.owner = none
        ∧ t.hamper.staging = setFirst (·.src == src) { x with sent := x.sent + 1 } s.hamper.staging) ∧
  (∀ s src x rest r, s.clk.pllLock = true → (∀ n, src ≠ .capture n) → headSource s (poolReq src) = some src →
      s.pool.owner = some (poolReq src) → x.sent ≠ 0 → x.recs.length ≤ x.sent + 1 → x.ring = r.num →
      takeFirst (fun x => x.src == src) s.hamper.staging = some (x, rest) → boundRing s src = some r → r.pendLoss = 0 →
      ∃ t r', exec (.hwRecordWrite src) s = .next t ∧ t.hamper.staging = rest ∧ t.hamper.ring r.num = some r'
        ∧ r'.reserved = 0 ∧ r'.recs.map (·.bytes) = r.recs.map (·.bytes) ++ x.recs ∧ t.pool.owner = none ∧ t.ch = s.ch) ∧
  (∀ s n x rest r, s.clk.pllLock = true → headSource s (poolReq (.capture n)) = some (.capture n) →
      s.pool.owner = some (poolReq (.capture n)) → (s.chan n).cap.codes = x :: rest → s.badger.testActive = false →
      boundRing s (.capture n) = some r → r.pendLoss = 0 → s.hamper.fits r 1 = true → ∃ t r',
        exec (.hwRecordWrite (.capture n)) s = .next t ∧ (t.chan n).cap.codes = rest
        ∧ (t.chan n).cap.index = (s.chan n).cap.index + 1 ∧ t.hamper.ring r.num = some r' ∧ t.pool.owner = none
        ∧ r'.recs.map (·.bytes) = r.recs.map (·.bytes)
            ++ [wireBytes r.byteRecs (capRecord n (s.chan n).cap.align (s.chan n).cap.index x)] ∧ OthersKept n s t) ∧
  (∀ s src x rest, s.clk.pllLock = true → (∀ n, src ≠ .capture n) → headSource s (poolReq src) = some src →
      s.pool.owner = some (poolReq src) → x.sent = 0 →
      takeFirst (fun x => x.src == src) s.hamper.staging = some (x, rest) → s.badger.testActive = false →
      boundRing s src = none → ∃ t, exec (.hwRecordWrite src) s = .next t ∧ t.hamper.staging = rest
        ∧ t.hamper.rings = s.hamper.rings) ∧
  (∀ s src, (∀ n, src ≠ .capture n) → (∀ x ∈ s.hamper.staging, x.src ≠ src) → exec (.hwRecordWrite src) s = .next s) ∧
  (∀ s src, s.pool.owner ≠ some (poolReq src) → exec (.hwRecordWrite src) s = .next s))

/-- R418, R430, R438, R439, Table 11.11 (the application core's push takes its turn on the pool write port: log entry 57):
a push without GO sets its options alone; with GO a whole record is stored
behind those the ring holds; a pop without GO sets its option; with GO it takes the oldest record, and the record it
shows is the one that was pushed.
R427, R440, R441 (with the pool write port quiet, log entry 57): a peer's read of a ring answers its oldest record and removes it, and a peer's write stores its
record behind the others. -/
def Obligations.RingPortsAndDatagrams : Prop :=
  ((∀ s m w, s.clk.pllLock = true → w.getLsbD 0 = false →
      exec (.ringPush m w) s = .next (s.modRingPort m fun p =>
        { p with pushCont := w.getLsbD 1, pushAsHost := w.getLsbD 2 }) ∧
      exec (.ringPop m w) s = .next (s.modRingPort m fun p => { p with popAsHost := w.getLsbD 1 })) ∧
  (∀ s m w r, s.clk.pllLock = true → w.getLsbD 0 = true → w.getLsbD 1 = true → s.badger.testActive = false →
      s.hamper.ring (s.hamper.portOf m).pushRing = some r → r.producer = coreRole (w.getLsbD 2) →
      (s.hamper.portOf m).bundle.length < 64 → exec (.ringPush m w) s = .next (s.modRingPort m fun p =>
        { p with pushCont := true, pushAsHost := w.getLsbD 2, pushResult := 0
                 bundle := p.bundle ++ [wireBytes r.byteRecs (p.pushData.toList.take (r.recSize / 4))] })) ∧
  (∀ s m w r, s.clk.pllLock = true → w.getLsbD 0 = true → w.getLsbD 1 = false → s.badger.testActive = false →
      s.hamper.ring (s.hamper.portOf m).pushRing = some r → r.producer = coreRole (w.getLsbD 2) →
      (s.hamper.portOf m).bundle.length < 64 → r.pendLoss = 0 →
      s.hamper.fits r ((s.hamper.portOf m).bundle.length + 1) = true → PortQuiet s ∨ m = .sup →
      ∃ t r', exec (.ringPush m w) s = .next t
        ∧ (t.hamper.portOf m).pushResult = 0 ∧ (t.hamper.portOf m).bundle = [] ∧ t.hamper.ring r.num = some r'
        ∧ r'.recs.map (·.bytes) = r.recs.map (·.bytes) ++ (s.hamper.portOf m).bundle
            ++ [wireBytes r.byteRecs ((s.hamper.portOf m).pushData.toList.take (r.recSize / 4))]
        ∧ t.ch = s.ch ∧ ∀ k, k ≠ r.num → t.hamper.ring k = s.hamper.ring k) ∧
  (∀ s m w, s.clk.pllLock = true → w.getLsbD 0 = true → s.badger.testActive = false →
      (∀ r, s.hamper.ring (s.hamper.portOf m).pushRing = some r →
        r.producer ≠ coreRole (w.getLsbD 2) ∨ 64 ≤ (s.hamper.portOf m).bundle.length) →
      exec (.ringPush m w) s = .next (s.modRingPort m fun p => { p with
        pushCont := w.getLsbD 1, pushAsHost := w.getLsbD 2, pushResult := 3, bundle := [] })) ∧
  (∀ s m w r, s.clk.pllLock = true → w.getLsbD 0 = true → w.getLsbD 1 = false → s.badger.testActive = false →
      s.hamper.ring (s.hamper.portOf m).pushRing = some r → r.producer = coreRole (w.getLsbD 2) →
      (s.hamper.portOf m).bundle = [] → r.pendLoss = 0 → s.hamper.fits r 1 = false → r.policy ≠ .dropOldest →
      PortQuiet s ∨ m = .sup → ∃ t r',
        exec (.ringPush m w) s = .next t ∧ t.hamper.ring r.num = some r' ∧ r'.recs = r.recs ∧ t.ch = s.ch
        ∧ (r.policy = .stall → (t.hamper.portOf m).pushResult = 1 ∧ r'.pendLoss = 0)
        ∧ (r.policy = .dropNewest → (t.hamper.portOf m).pushResult = 2 ∧ r'.pendLoss = 1)) ∧
  (∀ s w, s.clk.pllLock = true → w.getLsbD 0 = false → exec (.ringPush .app w) s = .next { s with hamper := { s.hamper with
      appPort := { s.hamper.appPort with pushCont := w.getLsbD 1, pushAsHost := w.getLsbD 2 } } }) ∧
  (∀ s m w r, s.clk.pllLock = true → w.getLsbD 0 = true → w.getLsbD 1 = false → s.badger.testActive = false →
      s.hamper.ring (s.hamper.portOf m).pushRing = some r → r.producer = coreRole (w.getLsbD 2) →
      (s.hamper.portOf m).bundle = [] → r.pendLoss = 0 → s.hamper.fits r 1 = true → PortQuiet s ∨ m = .sup →
      ∃ t r', exec (.ringPush m w) s = .next t
        ∧ (t.hamper.portOf m).pushResult = 0 ∧ t.hamper.ring r.num = some r'
        ∧ r'.recs = r.recs ++ [{ bytes := wireBytes r.byteRecs ((s.hamper.portOf m).pushData.toList.take (r.recSize / 4)) }]
        ∧ t.ch = s.ch ∧ ∀ k, k ≠ r.num → t.hamper.ring k = s.hamper.ring k) ∧
  (∀ s w, s.clk.pllLock = true → w.getLsbD 0 = false → exec (.ringPop .app w) s = .next { s with hamper := { s.hamper with
      appPort := { s.hamper.appPort with popAsHost := w.getLsbD 1 } } }) ∧
  (∀ s m w r x rest, s.clk.pllLock = true → w.getLsbD 0 = true → s.badger.testActive = false →
      s.hamper.ring (s.hamper.portOf m).popRing = some r → r.consumer = coreRole (w.getLsbD 1) → r.headGap = 0 →
      r.recs = x :: rest → x.mark = false → x.bad = false → ∃ t r', exec (.ringPop m w) s = .next t
        ∧ (t.hamper.portOf m).popValid = true ∧ (t.hamper.portOf m).popMark = false
        ∧ (t.hamper.portOf m).popData = eightWords (recWords r.byteRecs x.bytes)
        ∧ t.hamper.ring r.num = some r' ∧ r'.recs = rest ∧ t.ch = s.ch) ∧
  (∀ s m w, s.clk.pllLock = true → w.getLsbD 0 = true → s.badger.testActive = false →
      s.hamper.ring (s.hamper.portOf m).popRing = none →
      ∃ t, exec (.ringPop m w) s = .next t ∧ (t.hamper.portOf m).popValid = false ∧ (t.hamper.portOf m).popRefused = true)) ∧
  ((∀ s q num r (n : W16), s.clk.pllLock = true → s.badger.testActive = false → 1 ≤ n.toNat → n.toNat ≤ 1024 →
      ringOpCode s q.who num.toNat (fun _ => eOk) (·.consumer) eWriteOnly = eOk → s.hamper.ring num.toNat = some r →
      r.headGap = 0 → (∀ x ∈ r.recs, x.mark = false ∧ x.bad = false ∧ x.cont = false) → 1 ≤ r.recSize → r.recSize ≤ 1446 →
      let k := Nat.min n.toNat (1446 / r.recSize)
      ∃ t r', exec (.readRing q num tBlob (natBytes 2 n.toNat)) s = .next t ∧ t.answer.code = eOk
        ∧ t.answer.data = (r.recs.take k).flatMap (·.bytes) ∧ t.hamper.ring r.num = some r' ∧ r'.recs = r.recs.drop k
        ∧ t.ch = s.ch) ∧
  (∀ s q num r k data, s.clk.pllLock = true → s.badger.testActive = false → 1 ≤ k → PortQuiet s →
      ringOpCode s q.who num.toNat (fun _ => eOk) (·.producer) eReadOnly = eOk → s.hamper.ring num.toNat = some r →
      r.pendLoss = 0 → 1 ≤ r.recSize → data.length = k * r.recSize → s.hamper.fits r k = true →
      ∃ t r', exec (.writeRing q num tBlob data) s = .next t ∧ t.answer.code = eOk ∧ t.hamper.ring r.num = some r'
        ∧ r'.recs.map (·.bytes) = r.recs.map (·.bytes) ++ cutRecs r.recSize k data ∧ t.ch = s.ch) ∧
  (∀ s q num r k data, s.clk.pllLock = true → s.badger.testActive = false → 1 ≤ k →
      ringOpCode s q.who num.toNat (fun _ => eOk) (·.producer) eReadOnly = eOk → s.hamper.ring num.toNat = some r →
      r.pendLoss = 0 → 1 ≤ r.recSize → data.length = k * r.recSize → s.hamper.fits r k = false →
      ∃ t, exec (.writeRing q num tBlob data) s = .next t ∧ t.answer.code = eRingFull
        ∧ t.hamper.rings = s.hamper.rings ∧ t.ch = s.ch) ∧
  (∀ s q num r x rest, s.clk.pllLock = true → s.badger.testActive = false →
      ringOpCode s q.who num.toNat (fun _ => eOk) (·.consumer) eWriteOnly = eOk → s.hamper.ring num.toNat = some r →
      r.headGap = 0 → r.recs = x :: rest → x.mark = false → x.bad = false → headBundle r.recs = [x] → 1 ≤ r.recSize →
      r.recSize ≤ 1446 → ∃ t r', exec (.readRing q num tBlob (natBytes 2 1)) s = .next t ∧ t.answer.code = eOk
        ∧ t.answer.data = x.bytes ∧ t.hamper.ring r.num = some r' ∧ r'.recs = rest ∧ t.ch = s.ch) ∧
  (∀ s q num r data, s.clk.pllLock = true → s.badger.testActive = false → PortQuiet s →
      ringOpCode s q.who num.toNat (fun _ => eOk) (·.producer) eReadOnly = eOk → s.hamper.ring num.toNat = some r →
      r.pendLoss = 0 → 1 ≤ r.recSize → data.length = r.recSize → s.hamper.fits r 1 = true →
      ∃ t r', exec (.writeRing q num tBlob data) s = .next t ∧ t.answer.code = eOk ∧ t.hamper.ring r.num = some r'
        ∧ r'.recs = r.recs ++ [{ bytes := data }] ∧ t.ch = s.ch) ∧
  (∀ s q (num : W16) ty data, s.clk.pllLock = true → s.badger.testActive = false → num.toNat ≤ 16383 → s.hamper.ring num.toNat = none →
      (∃ t, exec (.readRing q num ty data) s = .next t ∧ t.answer.code = eNoObject ∧ t.hamper = s.hamper) ∧
      (∃ t, exec (.writeRing q num ty data) s = .next t ∧ t.answer.code = eNoObject ∧ t.hamper = s.hamper)))

/-- R418, R422, R438, R439: the eight words that a core pushes into an empty ring of 32-byte records, of either form,
are the eight words that the next pop of that ring shows, whichever core makes it. -/
def Obligations.RingRoundTrip : Prop :=
  ∀ s t m m' w w' r, s.clk.pllLock = true → w.getLsbD 0 = true → w.getLsbD 1 = false → w'.getLsbD 0 = true → s.badger.testActive = false →
    s.hamper.ring (s.hamper.portOf m).pushRing = some r → (s.hamper.portOf m').popRing = r.num →
    r.producer = coreRole (w.getLsbD 2) → r.consumer = coreRole (w'.getLsbD 1) → (s.hamper.portOf m).bundle = [] →
    r.recs = [] → r.headGap = 0 → r.pendLoss = 0 → r.recSize = 32 → s.hamper.fits r 1 = true → PortQuiet s ∨ m = .sup →
    exec (.ringPush m w) s = .next t →
    ∃ u, exec (.ringPop m' w') t = .next u ∧ (u.hamper.portOf m').popValid = true
      ∧ (u.hamper.portOf m').popData = (s.hamper.portOf m).pushData


/-! ### The credit arbiter (chapter 12) -/

/-- R468 to R475: a grant gives a free resource to the winner, debits its cost, counts it and parks the owner there; its
end frees the resource and counts the wait of those that requested throughout; on the pool write port it writes the record
it was for (log entry 57); the window's boundary refills the credits and takes over a committed schedule, and an FSP that is
not bus master holds its credits; a commit waits for the boundary; and a requester that has waited for its limit is forced. -/
def Obligations.ArbiterCommands : Prop :=
  (∀ s res cost q x, (s.arb res).owner = none → s.clk.pllLock = true → winner s res = some (q, x) →
      ∃ t, exec (.arbGrant res cost) s = .next t ∧ (t.arb res).owner = some q ∧ (t.arb res).parked = some q
        ∧ (t.arb res).cost = grantCost s res q cost
        ∧ ∃ y : Requesting, (t.arb res).reqs[q]? = some y ∧ y.credit = debit x.credit (grantCost s res q cost) ∧ y.wait = 0 ∧ y.forced = 0
          ∧ y.grants = x.grants.inc ∧ y.granted = x.granted + 1 ∧ y.cfg = x.cfg ∧ y.active = x.active) ∧
  (∀ s res cost, (s.arb res).owner ≠ none ∨ s.clk.pllLock = false ∨ winner s res = none →
      exec (.arbGrant res cost) s = .next s) ∧
  (∀ s q, s.clk.pllLock = true → s.link.owner = some q → ∃ t, exec (.grantEnd .ronko) s = .next t ∧ t.link.owner = none
      ∧ t.link.parked = s.link.parked ∧ t.ronko = s.ronko ∧ t.ch = s.ch
      ∧ ∀ k x, s.link.reqs[k]? = some x → k ≠ q → k ∈ s.link.waiters → requests s .ronko k = true →
          (t.link.reqs[k]?).map (·.wait) = some (Nat.min 65535 (x.wait + (s.link.cost - x.counted)))) ∧
  (∀ s src q, s.clk.pllLock = true → s.pool.owner = some q → headSource s q = some src → poolReq src = q →
      exec (.grantEnd .pool) s = exec (.hwRecordWrite src) s) ∧
  (∀ s q, s.clk.pllLock = true → s.pool.owner = some q → ∃ t, exec (.grantEnd .pool) s = .next t ∧ t.pool.owner = none
      ∧ t.pool.parked = s.pool.parked) ∧
  (∀ s res, res ≠ .fsp → (s.arb res).owner = none → exec (.grantEnd res) s = .next s) ∧
  (∀ s res, s.clk.pllLock = false → exec (.grantEnd res) s = .next s ∧ exec (.arbWindowBoundary res) s = .next s) ∧
  (∀ s, s.fsp.entry ≠ none ∨ s.xip.filling ≠ none → exec (.grantEnd .fsp) s = .next s) ∧
  (∀ s, s.clk.pllLock = true → s.fsp.entry = none → s.xip.filling = none →
      ∃ t, exec (.grantEnd .fsp) s = .next t ∧ t.bus.owner = none) ∧
  (∀ s res p, s.clk.pllLock = true → (s.arb res).pending = some p → ∃ t, exec (.arbWindowBoundary res) s = .next t
      ∧ (t.arb res).pending = none ∧ (t.arb res).commitState = 2 ∧ (t.arb res).windowActive = p.window
      ∧ ∀ (q : Nat) (x : Requesting) (c : ReqCfg), (s.arb res).reqs[q]? = some x → p.cfgs[q]? = some c → ((t.arb res).reqs[q]?).map Requesting.active = some c) ∧
  (∀ s res (q : Nat) (x : Requesting), s.clk.pllLock = true → (s.arb res).pending = none → (res = .fsp → s.fsp.master = .master) →
      (s.arb res).reqs[q]? = some x → ∃ t, exec (.arbWindowBoundary res) s = .next t
        ∧ (t.arb res).reqs[q]? = some { x with credit := min x.active.weight (x.credit + x.active.weight), granted := 0,
                                                masked := false }) ∧
  (∀ s (q : Nat) (x : Requesting), s.clk.pllLock = true → s.bus.pending = none → s.fsp.master ≠ .master → s.bus.reqs[q]? = some x →
      ∃ t, exec (.arbWindowBoundary .fsp) s = .next t ∧ t.bus.reqs[q]? = some { x with granted := 0 }) ∧
  (∀ s r v res, objArbCommit.Admits r tU8 [v] s → resourceOf v.toNat = some res → ∃ t, exec (.arbCommit r v) s = .next t
      ∧ t.answer.code = eOk ∧ (t.arb res).pending = some (s.arb res).snapshot ∧ (t.arb res).commitState = 1
      ∧ (∀ k, k ≠ res → t.arb k = s.arb k) ∧ t.ch = s.ch) ∧
  (∀ s res q x, (s.arb res).reqs[q]? = some x → res ≠ .pool → s.clk.pllLock = true → x.forced = 0 → requests s res q = true →
      ∃ t, exec (.arbWaitForce res q) s = .next t ∧ (∀ k, k ≠ res → t.arb k = s.arb k)
        ∧ (t.arb res).forcedNo = (s.arb res).forcedNo + 1
        ∧ ((t.arb res).reqs[q]?).map (·.forced) = some ((s.arb res).forcedNo + 1)
        ∧ ((t.arb res).reqs[q]?).map (·.wait) = some (Nat.min 65535 (Nat.max x.wait x.active.limit)))


/-! ### The Ronko link (chapter 13) -/

/-- R487 to R492, R616, Table 13.2: a port's way to ACTIVE, with the eight exchanges of ALIGN behind it, and away from it; its
equaliser, whose settings stay within their ranges and move one step at a time (which settings EQ_ADAPT takes when is `eqMay`,
DESIGN CHOICE log entry 128); and its eye, which an unused port has none of.
R500, R503 to R507: the enumeration of the tree, at the root and below it. -/
def Obligations.PortsAndEnumeration : Prop :=
  ((∀ s p, s.linkOn = true → (s.port p).link = .down → exec (.signalDetect p) s =
      .next (s.modPort p fun q => { q with link := .train, signal := true, peerRole := 0, eqTrained := false })) ∧
  (∀ s p, s.linkOn = true → (s.port p).link = .train → ∃ t, exec (.trainComplete p) s = .next t
      ∧ (t.port p).link = .align ∧ (t.port p).aligned = 0
      ∧ (let v : Byte := if p = rku then 0x41 else 0x81
         t.emit = .linkControl p 0x07 v (crc8 [0x07, v]) :: s.emit) ∧ ∀ q, q ≠ p → t.port q = s.port q) ∧
  (∀ s p, s.linkOn = true → (s.port p).link = .align → (s.port p).peerRole ≠ 0 → (s.port p).peerRole ≠ roleOfPort p →
      8 ≤ (s.port p).aligned → (s.port p).delay ≤ 2 * (longestDelay : Int) →
      ∃ t, exec (.alignComplete p (s.port p).delay) s = .next t
        ∧ (t.port p).link = .active ∧ (t.port p).delay = (s.port p).delay
        ∧ (t.port p).credits = 8 ∧ (t.port p).xcredits = 4 ∧ (t.port p).txSeq = 0 ∧ (t.port p).rxSeq = 0) ∧
  (∀ s p d, s.linkOn = true → (s.port p).link = .align → (s.port p).peerRole ≠ 0 → (s.port p).peerRole = roleOfPort p →
      ∃ t, exec (.alignComplete p d) s = .next t ∧ (t.port p).link = .miswired ∧ Sends s t (srcPort p) 0xD0 .warn 0) ∧
  (∀ s p, s.linkOn = true → (s.port p).link = .align → (s.port p).peerRole ≠ 0 → (s.port p).peerRole ≠ roleOfPort p →
      8 ≤ (s.port p).aligned → 2 * (longestDelay : Int) < (s.port p).delay →
      ∃ t, exec (.alignComplete p (s.port p).delay) s = .next t
        ∧ (t.port p).link = .tooLong ∧ Sends s t (srcPort p) 0xD1 .warn 0) ∧
  (∀ s p d, (s.port p).peerRole ≠ roleOfPort p → (s.port p).aligned < 8 ∨ (s.port p).delay ≠ d →
      exec (.alignComplete p d) s = .next s) ∧
  (∀ s p, s.linkOn = true → (s.port p).link = .miswired ∨ (s.port p).link = .tooLong → exec (.portRestart p) s =
      .next (s.modPort p fun q => { q with link := .down, signal := false })) ∧
  (∀ s p why, s.linkOn = true → s.active p = true → (s.port p).en = true → ∃ t, exec (.linkLoss p why) s = .next t
      ∧ (t.port p).link = .down ∧ (t.port p).linkDowns = (s.port p).linkDowns.inc
      ∧ (t.port p).linkFails = (s.port p).linkFails
      ∧ (∀ k, why = .codeErrors k → (t.port p).codeErrors = (s.port p).codeErrors.add k)) ∧
  (∀ s p why, s.active p = false → exec (.linkLoss p why) s = .next s) ∧
  (∀ s r p, (objPortEn p).Admits r tBool [1] s → s.linkOn = true → (s.port p).link = .disabled →
      Done r (s.modPort p fun q => { q with en := true, link := .down }) (exec (.portEnWrite r p 1) s)) ∧
  (∀ s r p, (objPortEn p).Admits r tBool [0] s → s.active p = false → Done r (s.modPort p fun q =>
      { q with en := false, link := .disabled, signal := false }) (exec (.portEnWrite r p 0) s)) ∧
  (∀ s p pk a b c d, s.linkOn = true → (s.port p).freeze = false → (s.port p).link ≠ .disabled → (s.port p).link ≠ .down →
      eqMay (s.port p) s.now pk [a, b, c] d = true → ∃ t, exec (.eqAdapt p pk a b c d) s = .next t
        ∧ t = s.modPort p (fun q => { q with eqPeak := pk, dfe1 := a, dfe2 := b, dfe3 := c, eqDelayPs := d, eqTrained := true
                                             peakAt := (t.port p).peakAt, tapAt := (t.port p).tapAt })
        ∧ (pk ≠ (s.port p).eqPeak → (t.port p).peakAt = s.now) ∧ (pk = (s.port p).eqPeak → (t.port p).peakAt = (s.port p).peakAt)
        ∧ (a ≠ (s.port p).dfe1 → (t.port p).tapAt[0] = s.now)) ∧
  (∀ s p pk a b c d, (s.port p).freeze = true ∨ eqMay (s.port p) s.now pk [a, b, c] d = false →
      exec (.eqAdapt p pk a b c d) s = .next s) ∧
  (∀ s p pk (a b c d : Byte), 63 < a.toInt ∨ 63 < b.toInt ∨ 63 < c.toInt ∨ a.toInt < -64 ∨ b.toInt < -64 ∨ c.toInt < -64
      ∨ 200 < d.toNat → exec (.eqAdapt p pk a b c d) s = .next s) ∧
  (∀ s p pk (a b c d : Byte), (s.port p).link ≠ .train → 1 < (a.toInt - (s.port p).dfe1.toInt).natAbs
      ∨ 1 < (b.toInt - (s.port p).dfe2.toInt).natAbs ∨ 1 < (c.toInt - (s.port p).dfe3.toInt).natAbs
      ∨ 1 < ((pk.toNat : Int) - (s.port p).eqPeak.toNat).natAbs → exec (.eqAdapt p pk a b c d) s = .next s) ∧
  (∀ s p pk (a b c d : Byte), (s.port p).eqTrained = true → pk = (s.port p).eqPeak → d ≠ (s.port p).eqDelayPs →
      exec (.eqAdapt p pk a b c d) s = .next s) ∧
  (∀ s p h w, s.linkOn = true → (s.port p).link ≠ .disabled → (s.port p).link ≠ .down → ∃ t,
      exec (.eyeUpdate p h w) s = .next t ∧ (t.port p).eyeMv = h ∧ (t.port p).eyeWidth = w
      ∧ (t.port p).link = (s.port p).link ∧ (∀ q, q ≠ p → t.port q = s.port q)
      ∧ (h.toNat < 40 → (s.port p).marginLow = false → Sends s t (srcPort p) 0xD3 .note h.toNat)) ∧
  (∀ s p h w, (s.port p).link = .disabled ∨ (s.port p).link = .down → exec (.eyeUpdate p h w) s = .next s)) ∧
  ((∀ s, s.isRoot = true → s.linkOn = true → s.active rkl = true → ∃ t, exec .enumStart s = .next t
      ∧ t.ronko.node.gen = s.ronko.node.gen + 1 ∧ t.ronko.node.waiting = some rkl ∧ t.ronko.node.enum = .running
      ∧ t.ronko.node.nextId = 1 ∧ t.ronko.node.level = 0 ∧ t.ch = s.ch) ∧
  (∀ s r v, objEnumRestart.Admits r tU8 [v] s → s.linkOn = true → s.active rkl = true → ∃ t, exec (.enumRestart r v) s = .next t
      ∧ t.answer.code = eOk ∧ t.ronko.node.gen = s.ronko.node.gen + 1 ∧ t.ronko.node.waiting = some rkl ∧ t.ch = s.ch) ∧
  (∀ s id level gen a, s.isRoot = false → s.linkOn = true → ∃ t, exec (.enumAssign id level a gen) s = .next t
      ∧ t.ronko.node.id = (if a then some id else none) ∧ t.ronko.node.level = level.toNat ∧ t.ronko.node.gen = gen
      ∧ t.ronko.node.assigned = true ∧ t.ronko.node.enum = (if a then .running else .unadmitted) ∧ t.ch = s.ch) ∧
  (∀ s p next un, s.ronko.node.waiting = some p → s.active p = true → ∃ t, exec (.enumDone p next un) s = .next t
      ∧ (t.port p).subFirst = s.ronko.node.nextId ∧ (t.port p).subCount = next.toNat - s.ronko.node.nextId
      ∧ t.ronko.node.nextId = next.toNat ∧ t.ronko.node.total = s.ronko.node.total + un.toNat ∧ t.ch = s.ch) ∧
  (∀ s, s.isRoot = true → s.linkOn = true → ∃ t, exec .enumStart s = .next t
      ∧ t.ronko.node.gen = s.ronko.node.gen + 1 ∧ t.ronko.node.level = 0 ∧ t.ronko.node.nextId = 1 ∧ t.ch = s.ch) ∧
  (∀ s id level gen, s.isRoot = false → s.linkOn = true → s.active rkl = true →
      ∃ t, exec (.enumAssign id level true gen) s = .next t ∧ t.ronko.node.id = some id ∧ t.ronko.node.level = level.toNat
        ∧ t.ronko.node.gen = gen ∧ t.ronko.node.assigned = true ∧ t.ronko.node.nextId = id.toNat + 1 ∧ t.ch = s.ch) ∧
  (∀ s id level gen, s.isRoot = false → s.linkOn = true → s.active rkl = true →
      ∃ t, exec (.enumAssign id level false gen) s = .next t ∧ t.ronko.node.id = none ∧ t.ronko.node.nextId = id.toNat) ∧
  (∀ s next un, s.ronko.node.waiting = some rkl → s.active rkl = true → s.ronko.node.todo = [rkm] →
      ∃ t, exec (.enumDone rkl next un) s = .next t ∧ (t.port rkl).subFirst = s.ronko.node.nextId
        ∧ (t.port rkl).subCount = next.toNat - s.ronko.node.nextId ∧ t.ronko.node.waiting = some rkm
        ∧ t.ronko.node.nextId = next.toNat ∧ t.ronko.node.total = s.ronko.node.total + un.toNat) ∧
  (∀ s gen count, s.isRoot = false → s.ronko.node.enum = .running ∨ s.ronko.node.enum = .ready → exec (.enumReady gen count) s =
      .next (s.modNode fun n => { n with enum := .ready, gen := gen, nodeCount := count.toNat })) ∧
  (∀ s, s.isRoot = true → s.linkOn = true → exec .topoChange s =
      .next (s.modNode fun n => { n with topoChanges := n.topoChanges.inc })) ∧
  (∀ s, s.linkOn = true → s.isRoot = false → s.ronko.node.rootlessDue = true → ∃ t, exec .rootlessTimeout s = .next t
      ∧ t.ronko.node.enum = .rootless ∧ t.ronko.node.rootlessDue = false ∧ Sends s t srcTree 0xD5 .warn 0) ∧
  (∀ s, s.ronko.node.rootlessDue = false → exec .rootlessTimeout s = .next s))

/-- R496 to R499: the link-control characters. An acknowledgement frees the frames up to its number, a refusal has the
kept frames sent again, oldest first and as far as credits go, each normal frame with the idle pair that follows it, and credits
are added up to the receiver's buffers.
R498, R499: a frame that nobody has acknowledged is sent again while credits last, and after its third sending the link
fails. -/
def Obligations.LinkControlAndRetry : Prop :=
  ((∀ s p v, s.linkOn = true → s.active p = true → OutputQuiet (s.port p) → exec (.lcAck p v (crc8 [0x01, v])) s =
      .next (s.modPort p fun q => { q with kept := freeKept q.kept v })) ∧
  (∀ s p v, s.linkOn = true → s.active p = true → OutputQuiet (s.port p) → exec (.lcXack p v (crc8 [0x03, v])) s =
      .next (s.modPort p fun q => { q with xkept := freeKept q.xkept v })) ∧
  (∀ s p v, s.linkOn = true → s.active p = true →
      exec (.lcAck p v (crc8 [0x01, v])) s = .next (pump (s.modPort p fun q => { q with kept := freeKept q.kept v }) p) ∧
      exec (.lcXack p v (crc8 [0x03, v])) s = .next (pump (s.modPort p fun q => { q with xkept := freeKept q.xkept v }) p)) ∧
  (∀ s p v, s.linkOn = true → s.active p = true → 1 ≤ v.toNat → v.toNat ≤ 8 → exec (.lcCredit p v (crc8 [0x05, v])) s =
      .next (pump (s.modPort p fun q => { q with credits := Nat.min 8 (q.credits + v.toNat) }) p)) ∧
  (∀ s p v, s.linkOn = true → s.active p = true → 1 ≤ v.toNat → v.toNat ≤ 4 → exec (.lcXcredit p v (crc8 [0x06, v])) s =
      .next (pump (s.modPort p fun q => { q with xcredits := Nat.min 4 (q.xcredits + v.toNat) }) p)) ∧
  (∀ s p v k rest, s.linkOn = true → s.active p = true → (s.port p).en = true → (s.port p).kept = k :: rest → 3 ≤ k.attempts →
      ∃ t, exec (.lcNak p v (crc8 [0x02, v])) s = .next t ∧ (t.port p).link = .down ∧ (t.port p).kept = []
        ∧ (t.port p).linkFails = (s.port p).linkFails.inc) ∧
  (∀ s p v k rest, s.linkOn = true → s.active p = true → (s.port p).en = true → (s.port p).xkept = k :: rest → 3 ≤ k.attempts →
      ∃ t, exec (.lcXnak p v (crc8 [0x04, v])) s = .next t ∧ (t.port p).link = .down ∧ (t.port p).xkept = []
        ∧ (t.port p).linkFails = (s.port p).linkFails.inc) ∧
  (∀ s p v, s.linkOn = true → (s.port p).link = .align → v.toNat = 0x41 ∨ v.toNat = 0x81 →
      exec (.lcHello p v (crc8 [0x07, v])) s = .next (s.modPort p fun q => { q with peerRole := v.toNat / 64 })) ∧
  (∀ s p v k rest, s.linkOn = true → s.active p = true → (s.port p).kept = k :: rest → k.attempts < 3 → OutputQuiet (s.port p) →
      let c := Nat.min (s.port p).credits (k :: rest).length
      ∃ t, exec (.lcNak p v (crc8 [0x02, v])) s = .next t ∧ (t.port p).link = .active
        ∧ (t.port p).kept = SentAgain c (k :: rest) ∧ (t.port p).credits = (s.port p).credits - c
        ∧ t.emit.length = s.emit.length + 2 * c) ∧
  (∀ s p v k rest, s.linkOn = true → s.active p = true → (s.port p).xkept = k :: rest → k.attempts < 3 → OutputQuiet (s.port p) →
      let c := Nat.min (s.port p).xcredits (k :: rest).length
      ∃ t, exec (.lcXnak p v (crc8 [0x04, v])) s = .next t ∧ (t.port p).link = .active
        ∧ (t.port p).xkept = SentAgain c (k :: rest) ∧ (t.port p).xcredits = (s.port p).xcredits - c
        ∧ t.emit.length = s.emit.length + c) ∧
  (∀ s p v k rest, s.linkOn = true → s.active p = true → (s.port p).kept = k :: rest → k.attempts < 3 →
      exec (.lcNak p v (crc8 [0x02, v])) s = .next (pump (s.modPort p fun q =>
        { q with kept := q.kept.map fun k => { k with again := true } }) p)) ∧
  (∀ s p v k rest, s.linkOn = true → s.active p = true → (s.port p).xkept = k :: rest → k.attempts < 3 →
      exec (.lcXnak p v (crc8 [0x04, v])) s = .next (pump (s.modPort p fun q =>
        { q with xkept := q.xkept.map fun k => { k with again := true } }) p)) ∧
  (∀ s p v, s.linkOn = true → s.active p = true → 1 ≤ v.toNat → v.toNat ≤ 8 → OutputQuiet (s.port p) →
      exec (.lcCredit p v (crc8 [0x05, v])) s =
        .next (s.modPort p fun q => { q with credits := Nat.min 8 (q.credits + v.toNat) })) ∧
  (∀ s p v, s.linkOn = true → s.active p = true → 1 ≤ v.toNat → v.toNat ≤ 4 → OutputQuiet (s.port p) →
      exec (.lcXcredit p v (crc8 [0x06, v])) s =
        .next (s.modPort p fun q => { q with xcredits := Nat.min 4 (q.xcredits + v.toNat) })) ∧
  (∀ s p, s.linkOn = true → (s.port p).link = .align → exec (.lcHello p 0x41 (crc8 [0x07, 0x41])) s =
      .next (s.modPort p fun q => { q with peerRole := 1 })) ∧
  (∀ s p v, s.linkOn = true → s.active p = true → (s.port p).en = true → ∃ t, exec (.lcLinkdown p v (crc8 [0x08, v])) s = .next t
      ∧ (t.port p).link = .down ∧ (t.port p).linkDowns = (s.port p).linkDowns.inc) ∧
  (∀ s p v, s.linkOn = true → s.active p = true → (s.port p).en = false → ∃ t, exec (.lcLinkdown p v (crc8 [0x08, v])) s = .next t
      ∧ (t.port p).link = .disabled ∧ (t.port p).linkDowns = (s.port p).linkDowns.inc) ∧
  (∀ s p v c, c ≠ crc8 [0x01, v] → exec (.lcAck p v c) s = .next s)) ∧
  ((∀ s p k rest, s.linkOn = true → s.active p = true → (s.port p).xkept = k :: rest → k.attempts < 3 → OutputQuiet (s.port p) →
      let c := Nat.min (s.port p).xcredits (k :: rest).length
      ∃ t, exec (.retryTimeout p true) s = .next t ∧ (t.port p).link = .active ∧ (t.port p).xkept = SentAgain c (k :: rest)
        ∧ (t.port p).xcredits = (s.port p).xcredits - c ∧ (t.port p).retries.value = (s.port p).retries.value + BitVec.ofNat 32 c) ∧
  (∀ s p k rest, s.linkOn = true → s.active p = true → (s.port p).en = true → (s.port p).xkept = k :: rest → 3 ≤ k.attempts →
      ∃ t, exec (.retryTimeout p true) s = .next t ∧ (t.port p).link = .down ∧ (t.port p).xkept = []
        ∧ (t.port p).linkFails = (s.port p).linkFails.inc) ∧
  (∀ s p k rest, s.linkOn = true → s.active p = true → (s.port p).en = true → (s.port p).xkept = k :: rest →
      ∃ t, exec (.frameFail p true) s = .next t ∧ (t.port p).link = .down
        ∧ (t.port p).linkFails = (s.port p).linkFails.inc ∧ (t.port p).linkDowns = (s.port p).linkDowns.inc) ∧
  (∀ s p, (s.port p).kept = [] → exec (.retryTimeout p false) s = .next s ∧ exec (.frameFail p false) s = .next s) ∧
  (∀ s p k rest, s.linkOn = true → s.active p = true → (s.port p).kept = k :: rest → k.attempts < 3 → OutputQuiet (s.port p) →
      let c := Nat.min (s.port p).credits (k :: rest).length
      ∃ t, exec (.retryTimeout p false) s = .next t ∧ (t.port p).link = .active ∧ (t.port p).kept = SentAgain c (k :: rest)
        ∧ (t.port p).credits = (s.port p).credits - c ∧ (t.port p).retries.value = (s.port p).retries.value + BitVec.ofNat 32 c) ∧
  (∀ s p k rest, s.linkOn = true → s.active p = true → (s.port p).en = true → (s.port p).kept = k :: rest → 3 ≤ k.attempts →
      ∃ t, exec (.retryTimeout p false) s = .next t ∧ (t.port p).link = .down ∧ (t.port p).kept = []
        ∧ (t.port p).linkFails = (s.port p).linkFails.inc) ∧
  (∀ s p k rest, s.linkOn = true → s.active p = true → (s.port p).en = true → (s.port p).kept = k :: rest →
      ∃ t, exec (.frameFail p false) s = .next t ∧ (t.port p).link = .down
        ∧ (t.port p).linkFails = (s.port p).linkFails.inc ∧ (t.port p).linkDowns = (s.port p).linkDowns.inc) ∧
  (∀ s p, s.active p = false → exec (.retryTimeout p false) s = .next s ∧ exec (.frameFail p true) s = .next s))

/-- R485, R493 to R497, R501: a bad frame counts, with every code error in it, and is refused, a frame cut short upstream ends
in EOA on the outputs where its copy has begun (log entry 59), a frame in order that goes on to another node counts and is
expected no longer, and a frame on a port that is not ACTIVE changes nothing. -/
def Obligations.FrameReception : Prop :=
  (∀ s p bytes, s.linkOn = true → s.active p = true → crcGood bytes = true → normalForm bytes = true →
      byteAt bytes 1 = (s.port p).rxSeq → exec (.normalFrameRx p bytes ⟨false, 0, 0⟩) s = .next (takeFrame
        (sendLc (s.modPort p fun q => { q with rxSeq := q.rxSeq + 1, nakSent := false, rxFrames := q.rxFrames.inc })
          p 0x01 (s.port p).rxSeq) p (bytes.take (bytes.length - 4)))) ∧
  (∀ s p bytes, s.linkOn = true → s.active p = true → crcGood bytes = true → normalForm bytes = true →
      seqPlace (byteAt bytes 1) (s.port p).rxSeq 8 = .ahead → (s.port p).nakSent = false → ∃ t,
        exec (.normalFrameRx p bytes ⟨false, 0, 0⟩) s = .next t ∧ (t.port p).nakSent = true
        ∧ (t.port p).rxSeq = (s.port p).rxSeq ∧ (t.port p).rxFrames = (s.port p).rxFrames) ∧
  (∀ s p bytes, s.linkOn = true → s.active p = true → crcGood bytes = true → normalForm bytes = true →
      seqPlace (byteAt bytes 1) (s.port p).rxSeq 8 = .behind → ∃ t, exec (.normalFrameRx p bytes ⟨false, 0, 0⟩) s = .next t
        ∧ t = { s with emit := t.emit }
        ∧ .linkControl p 0x01 ((s.port p).rxSeq - 1) (crc8 [0x01, (s.port p).rxSeq - 1]) ∈ t.emit) ∧
  (∀ s p bytes k x, s.linkOn = true → s.active p = true → 0 < k → ∃ t, exec (.normalFrameRx p bytes ⟨false, k, x⟩) s = .next t
      ∧ (t.port p).codeErrors = (s.port p).codeErrors.add (k + x) ∧ (t.port p).crcErrors = (s.port p).crcErrors.inc
      ∧ (t.port p).rxSeq = (s.port p).rxSeq ∧ (t.port p).rxFrames = (s.port p).rxFrames) ∧
  (∀ s p bytes k x, s.linkOn = true → s.active p = true → 0 < k → ∃ t, exec (.expressFrameRx p bytes ⟨false, k, x⟩) s = .next t
      ∧ (t.port p).codeErrors = (s.port p).codeErrors.add (k + x) ∧ (t.port p).crcErrors = (s.port p).crcErrors.inc
      ∧ (t.port p).rxXseq = (s.port p).rxXseq ∧ (t.port p).rxFrames = (s.port p).rxFrames) ∧
  (∀ s p bytes, s.linkOn = true → s.active p = true →
      (∃ t, exec (.normalFrameRx p bytes ⟨true, 0, 0⟩) s = .next t
        ∧ t = { s with ronko := { s.ronko with ports := t.ronko.ports }, emit := t.emit }
        ∧ ∀ q, t.port q = { s.port q with credits := (t.port q).credits } ∧ (s.port q).credits - 1 ≤ (t.port q).credits
            ∧ ((t.port q).credits = (s.port q).credits ∨ .aborted q (bytes.take (bytes.length - 4)) ∈ t.emit)) ∧
      (∃ t, exec (.expressFrameRx p bytes ⟨true, 0, 0⟩) s = .next t
        ∧ t = { s with ronko := { s.ronko with ports := t.ronko.ports }, emit := t.emit }
        ∧ ∀ q, t.port q = { s.port q with xcredits := (t.port q).xcredits } ∧ (s.port q).xcredits - 1 ≤ (t.port q).xcredits
            ∧ ((t.port q).xcredits = (s.port q).xcredits ∨ .aborted q (bytes.take (bytes.length - 4)) ∈ t.emit))) ∧
  (∀ s p bytes, s.linkOn = true → s.active p = true → crcGood bytes = true → expressForm bytes = true →
      BitVec.ofNat 8 (beNat (slice bytes 1 1)) = (s.port p).rxXseq → beNat (slice bytes 0 1) = 1 →
      exec (.expressFrameRx p bytes ⟨false, 0, 0⟩) s = .next (takeTrig
        (sendLc (s.modPort p fun q => { q with rxXseq := q.rxXseq + 1, xnakSent := false, rxFrames := q.rxFrames.inc })
          p 0x03 (s.port p).rxXseq) p (trigOfFrame (bytes.take (bytes.length - 4)))
          (bytes.take (bytes.length - 4)))) ∧
  (∀ s p bytes, s.linkOn = true → s.active p = true → crcGood bytes = false → ∃ t,
      exec (.normalFrameRx p bytes ⟨false, 0, 0⟩) s = .next t ∧ (t.port p).crcErrors = (s.port p).crcErrors.inc
        ∧ (t.port p).rxSeq = (s.port p).rxSeq ∧ (t.port p).rxFrames = (s.port p).rxFrames ∧ (t.port p).nakSent = true) ∧
  (∀ s p bytes, s.linkOn = true → s.active p = true → crcGood bytes = true → normalForm bytes = true →
      byteAt bytes 1 = (s.port p).rxSeq → (frameRoute s p (bytes.take (bytes.length - 4))).here = false →
      ∃ t, exec (.normalFrameRx p bytes ⟨false, 0, 0⟩) s = .next t ∧ (t.port p).rxSeq = (s.port p).rxSeq + 1
        ∧ (t.port p).rxFrames = (s.port p).rxFrames.inc ∧ (t.port p).nakSent = false) ∧
  (∀ s p bytes, s.linkOn = true → s.active p = true → crcGood bytes = false → ∃ t,
      exec (.expressFrameRx p bytes ⟨false, 0, 0⟩) s = .next t ∧ (t.port p).crcErrors = (s.port p).crcErrors.inc
        ∧ (t.port p).rxXseq = (s.port p).rxXseq ∧ (t.port p).xnakSent = true) ∧
  (∀ s p bytes, s.linkOn = true → s.active p = true → crcGood bytes = true → expressForm bytes = true →
      BitVec.ofNat 8 (beNat (slice bytes 1 1)) = (s.port p).rxXseq → beNat (slice bytes 0 1) ≠ 1 →
      ∃ t, exec (.expressFrameRx p bytes ⟨false, 0, 0⟩) s = .next t ∧ (t.port p).rxXseq = (s.port p).rxXseq + 1
        ∧ (t.port p).rxFrames = (s.port p).rxFrames.inc) ∧
  (∀ s p bytes fin, s.active p = false → exec (.normalFrameRx p bytes fin) s = .next s
      ∧ exec (.expressFrameRx p bytes fin) s = .next s)

/-- R465, R487, R492, R508 to R513: an exchange with the parent and its answer at a parent, both frames of the supervisor's that
wait for a grant; in ALIGN, exchanges of any port, sent and answered by the port itself (log entry 61); what a result says of
offset and delay; and the end of an exchange without an answer. Every stamp is the aligned time in units of 1/128 cycle (R508), a
receive stamp that of the frame's first bit less EQ_DELAY (log entry 108).
R514 to R520: a scheduled trigger that addresses the node waits in order of its target, comes from the dictionary
or from a frame, and executes once the TBC has reached it. -/
def Obligations.TimeAndScheduledTriggers : Prop :=
  ((∀ s : State, alignedStamp s = BitVec.ofNat 64 ((s.clk.tbc.toNat * 2 ^ 32 + s.clk.frac.toNat) / 2 ^ 25)) ∧
  (∀ s, s.linkOn = true → s.active rku = true → ∃ t, exec (.syncExchangeStart rku) s = .next t
      ∧ t.ronko.time.open_ = some (s.ronko.time.reqNo + 1, none) ∧ t.ronko.time.reqNo = s.ronko.time.reqNo + 1
      ∧ t.ronko.time.fails = (if s.ronko.time.open_ = none then s.ronko.time.fails else s.ronko.time.fails.inc)
      ∧ t.ronko.time.periodNow = s.ronko.time.syncPeriod
      ∧ (∃ x, t.ronko.sup = s.ronko.sup ++ [x] ∧ x.port = rku ∧ x.express = true
          ∧ slice x.bytes 0 6 = [0x02, 0, 0xFF, 0xFE] ++ natBytes 2 (s.ronko.time.reqNo + 1).toNat)
      ∧ t = { s with ronko := t.ronko } ∧ ∀ q, t.port q = s.port q) ∧
  (∀ s p, s.linkOn = true → (s.port p).link = .align → ∃ t, exec (.syncExchangeStart p) s = .next t
      ∧ (t.port p).alignOpen = some (s.ronko.time.reqNo + 1, alignedStamp s) ∧ t.ronko.time.reqNo = s.ronko.time.reqNo + 1
      ∧ t.emit = .express p (withCrc (timeReqBytes (s.ronko.time.reqNo + 1))) :: s.emit
      ∧ t.ronko.sup = s.ronko.sup ∧ ∀ q, q ≠ p → t.port q = s.port q) ∧
  (∀ s p no ago lead, s.linkOn = true → p ≠ rku → s.active p = true → ∃ t, exec (.timeReq p no ago lead) s = .next t
      ∧ (∃ x, t.ronko.sup = s.ronko.sup ++ [x] ∧ x.port = p ∧ x.express = true
          ∧ slice x.bytes 0 12 = [0x03, 0, 0xFF, 0xFE] ++ natBytes 8 (receiveStamp s p ago).toNat
          ∧ slice x.bytes 20 2 = natBytes 2 no.toNat)
      ∧ t = { s with ronko := t.ronko } ∧ ∀ q, t.port q = s.port q) ∧
  (∀ s p no ago lead, s.linkOn = true → (s.port p).link = .align → lead ≤ 61440 → exec (.timeReq p no ago lead) s =
      .next (s.send (.express p (withCrc (timeRspBytes s (receiveStamp s p ago)
        (alignedStamp s + BitVec.ofNat 64 lead) no))))) ∧
  (∀ s t1 t2 t3 no lock ago, s.ronko.time.open_ = some (no, some t1) → s.active rku = true → s.linkOn = true →
      let t4 := receiveStamp s rku ago
      ∃ t, exec (.timeRsp rku (t2, t3) no lock ago) s = .next t ∧ t.ronko.time.open_ = none
        ∧ t.ronko.time.exchanges = s.ronko.time.exchanges.inc ∧ t.ronko.time.parentLocked = lock
        ∧ t.ronko.time.offset = (t2 - t1).toInt - (t4 - t3).toInt + 2 * (s.port rku).asymU
        ∧ t.ronko.time.delay = (t4 - t1).toInt - (t3 - t2).toInt - 2 * (s.port rku).asymU
        ∧ (t.port rku).delay = t.ronko.time.delay ∧ t.ch = s.ch) ∧
  (∀ s p t1 t2 t3 no lock ago, (s.port p).alignOpen = some (no, t1) → (s.port p).link = .align → s.linkOn = true →
      let t4 := receiveStamp s p ago
      ∃ t, exec (.timeRsp p (t2, t3) no lock ago) s = .next t ∧ (t.port p).alignOpen = none
        ∧ (t.port p).aligned = (s.port p).aligned + 1 ∧ t.ronko.time.exchanges = s.ronko.time.exchanges.inc
        ∧ (t.port p).delay = (t4 - t1).toInt - (t3 - t2).toInt - 2 * (s.port p).asymU
        ∧ t.clk = s.clk ∧ ∀ q, q ≠ p → t.port q = s.port q) ∧
  (∀ s t1 t2 t3 no no' lock ago, s.ronko.time.open_ = some (no, some t1) → s.active rku = true → s.linkOn = true → no' ≠ no →
      exec (.timeRsp rku (t2, t3) no' lock ago) s = .next (s.modTime fun t => { t with open_ := none, fails := t.fails.inc })) ∧
  (∀ s p t1 t2 t3 no no' lock ago, (s.port p).alignOpen = some (no, t1) → (s.port p).link = .align → s.linkOn = true →
      no' ≠ no → ∃ t, exec (.timeRsp p (t2, t3) no' lock ago) s = .next t ∧ (t.port p).alignOpen = none
        ∧ (t.port p).aligned = (s.port p).aligned ∧ t.ronko.time.fails = s.ronko.time.fails.inc) ∧
  (∀ s p, oldestAlign s = some p → (s.port p).alignOpen ≠ none ∧ ∀ q, (alignAge s q).getD 0 ≤ (alignAge s p).getD 0) ∧
  (∀ s, oldestAlign s = none ↔ ∀ p, (s.port p).alignOpen = none) ∧
  (∀ s, s.ronko.time.open_ ≠ none → oldestAlign s = none → exec .exchangeTimeout s =
      .next (s.modTime fun t => { t with open_ := none, fails := t.fails.inc })) ∧
  (∀ s p, oldestAlign s = some p → (alignAge s p).getD 0 < (childAge s).getD 0 → exec .exchangeTimeout s =
      .next (s.modTime fun t => { t with open_ := none, fails := t.fails.inc })) ∧
  (∀ s, s.ronko.time.open_ = none → oldestAlign s = none → exec .exchangeTimeout s = .next s) ∧
  (∀ s p, oldestAlign s = some p → (childAge s).getD 0 ≤ (alignAge s p).getD 0 → ∃ t, exec .exchangeTimeout s = .next t
      ∧ (t.port p).alignOpen = none ∧ (t.port p).aligned = (s.port p).aligned ∧ t.ronko.time.fails = s.ronko.time.fails.inc
      ∧ t.ronko.time.open_ = s.ronko.time.open_)) ∧
  ((∀ s r data, objSchedTrig.Admits r tBlob data s → s.dev.state = .run → addressed s (trigOfBlob data s.srcId) = true →
      s.clk.tbc.toNat < (trigOfBlob data s.srcId).target.toNat → s.ronko.trig.pending.length < 16 →
      ∃ t, exec (.schedTrig r data) s = .next t ∧ t.answer.code = eOk
        ∧ t.ronko.trig.pending = insertTrig (trigOfBlob data s.srcId) s.ronko.trig.pending ∧ t.ch = s.ch) ∧
  (∀ s p addr target id origin g c, s.linkOn = true → s.active p = true → s.dev.state = .run →
      (routeOf s (some p) addr false).here = true →
      addressed s { target := target, id := id, origin := origin, addr := addr, gmask := g, chmask := c } = true →
      s.clk.tbc.toNat < target.toNat → s.ronko.trig.pending.length < 16 →
      ∃ t, exec (.trigFrame p addr target id origin g c) s = .next t ∧ t.ch = s.ch ∧ t.ronko.trig.pending = insertTrig
        { target := target, id := id, origin := origin, addr := addr, gmask := g, chmask := c } s.ronko.trig.pending) ∧
  (∀ s x rest, s.ronko.trig.pending = x :: rest → s.dev.state = .run → s.ronko.node.enum ≠ .unadmitted → x.target.toNat ≤ s.clk.tbc.toNat →
      ∃ t, exec .triggerExecute s = .next t ∧ t.ronko.trig.pending = rest ∧ t.ronko.trig.exec = s.ronko.trig.exec.inc
        ∧ t.ronko.trig.lastId = x.id ∧ t.ronko.trig.lastTbc = x.target
        ∧ (∀ n, (s.chan n).fast.src = 5 → (s.chan n).fast.state = .armed → x.chmask.getLsbD n.val = true →
            (t.chan n).fast.state = .fired)
        ∧ (∀ n, x.chmask.getLsbD n.val = false → t.chan n = s.chan n)) ∧
  (∀ s x rest, s.ronko.trig.pending = x :: rest → s.clk.tbc.toNat < x.target.toNat → exec .triggerExecute s = .next s))

/-- R522 to R525: the tunnel's endpoint. A first segment of several begins a reassembly in a free slot, a refusal from
the far end is kept as a datagram of its own kind, a timeout drops what it finds filling, and slots are filled,
cancelled and freed by their registers. Where the core is held or TUN_RX_EN is 0, a segment finds no endpoint (R523, R527). -/
def Obligations.TunnelCommands : Prop :=
  (∀ s g i, s.linkOn = true → s.coreRuns = true → s.ronko.tun.rxEn = true → freeSlot s.ronko.tun = some i →
      slotFilling s.ronko.tun 0 g = none → g.seg = 0 → segFits g = true → 2 ≤ g.segCount.toNat →
      ∃ t, exec (.tunReq g) s = .next t ∧ (t.ronko.tun.rx[i.val]).filling = true ∧ (t.ronko.tun.rx[i.val]).kind = 0
        ∧ (t.ronko.tun.rx[i.val]).data = g.data ∧ (t.ronko.tun.rx[i.val]).segs = 1 ∧ t.ch = s.ch) ∧
  (∀ s g i, s.linkOn = true → s.coreRuns = true → s.ronko.tun.rxEn = true → freeSlot s.ronko.tun = some i →
      slotFilling s.ronko.tun 1 g = none → g.seg = 0 → segFits g = true → 2 ≤ g.segCount.toNat →
      ∃ t, exec (.tunRsp g) s = .next t ∧ (t.ronko.tun.rx[i.val]).filling = true ∧ (t.ronko.tun.rx[i.val]).kind = 1
        ∧ (t.ronko.tun.rx[i.val]).data = g.data ∧ (t.ronko.tun.rx[i.val]).segs = 1 ∧ t.ch = s.ch) ∧
  (∀ s g i, s.linkOn = true → s.coreRuns = true → s.ronko.tun.rxEn = true → freeSlot s.ronko.tun = some i →
      slotFilling s.ronko.tun 2 g = none → g.seg = 0 → segFits g = true → 2 ≤ g.segCount.toNat →
      ∃ t, exec (.tunEvt g) s = .next t ∧ (t.ronko.tun.rx[i.val]).filling = true ∧ (t.ronko.tun.rx[i.val]).kind = 2
        ∧ (t.ronko.tun.rx[i.val]).data = g.data ∧ (t.ronko.tun.rx[i.val]).segs = 1 ∧ t.ch = s.ch) ∧
  (∀ s g i c k, (c = .tunReq g ∧ k = 0) ∨ (c = .tunRsp g ∧ k = 1) ∨ (c = .tunEvt g ∧ k = 2) → s.linkOn = true →
      s.coreRuns = true → s.ronko.tun.rxEn = true → freeSlot s.ronko.tun = some i → slotFilling s.ronko.tun k g = none →
      g.seg = 0 → segFits g = true → g.segCount = 1 → ∃ u, exec c s = .next (takeWhole u (u.ronko.tun.rx[i.val]))
        ∧ u = { s with ronko := u.ronko } ∧ (u.ronko.tun.rx[i.val]).full = true ∧ (u.ronko.tun.rx[i.val]).kind = k
        ∧ (u.ronko.tun.rx[i.val]).data = g.data ∧ u.ronko.tun.rxCount = s.ronko.tun.rxCount.inc) ∧
  (∀ s g i c k x, (c = .tunReq g ∧ k = 0) ∨ (c = .tunRsp g ∧ k = 1) ∨ (c = .tunEvt g ∧ k = 2) → s.linkOn = true →
      s.coreRuns = true → s.ronko.tun.rxEn = true → slotFilling s.ronko.tun k g = some i → x = s.ronko.tun.rx[i.val] → g.seg ≠ 0 → segFits g = true →
      x.segs = g.seg.toNat → x.segCount = g.segCount.toNat → x.totalLen = g.totalLen.toNat →
      x.full = false → x.segs + 1 < x.segCount → ∃ t, exec c s = .next t ∧ t = { s with ronko := t.ronko }
        ∧ t.ronko.tun.rx[i.val] = { x with segs := x.segs + 1, data := x.data ++ g.data, filling := true }
        ∧ t.ronko.tun.rxCount = s.ronko.tun.rxCount) ∧
  (∀ s g i c k x, (c = .tunReq g ∧ k = 0) ∨ (c = .tunRsp g ∧ k = 1) ∨ (c = .tunEvt g ∧ k = 2) → s.linkOn = true →
      s.coreRuns = true → s.ronko.tun.rxEn = true → slotFilling s.ronko.tun k g = some i → x = s.ronko.tun.rx[i.val] → g.seg ≠ 0 → segFits g = true →
      x.segs = g.seg.toNat → x.segCount = g.segCount.toNat → x.totalLen = g.totalLen.toNat →
      x.segs + 1 = x.segCount → ∃ u, exec c s = .next (takeWhole u (u.ronko.tun.rx[i.val]))
        ∧ u = { s with ronko := u.ronko } ∧ u.ronko.tun.rxCount = s.ronko.tun.rxCount.inc
        ∧ u.ronko.tun.rx[i.val] = { x with segs := x.segs + 1, data := x.data ++ g.data, filling := false, full := true }) ∧
  (∀ s g i c k, (c = .tunReq g ∧ k = 0) ∨ (c = .tunRsp g ∧ k = 1) ∨ (c = .tunEvt g ∧ k = 2) → s.linkOn = true →
      s.coreRuns = true → s.ronko.tun.rxEn = true → slotFilling s.ronko.tun k g = some i → g.seg ≠ 0 → (s.ronko.tun.rx[i.val]).segs ≠ g.seg.toNat → ∃ t,
        exec c s = .next t ∧ t = { s with ronko := t.ronko } ∧ t.ronko.tun.rx[i.val] = {}
        ∧ t.ronko.tun.reasmDrops = s.ronko.tun.reasmDrops.inc) ∧
  (∀ s k w data, (s.ronko.tun.tx[k.val]).state ≠ 1 → w.getLsbD 30 = false → w.getLsbD 31 = true →
      let x := { s.ronko.tun.tx[k.val] with d0 := w.extractLsb' 0 18 }
      1 ≤ x.len → x.len ≤ 1472 → x.kind ≠ 3 → (routeOf s none x.dest false).outs ≠ [] → data.length = x.len → ∃ t,
        exec (.tunTxGo k w data) s = .next t
        ∧ t.ronko.tun.tx[k.val] = { x with state := 1, segs := x.payloads data } ∧ t = { s with ronko := t.ronko }
        ∧ ∀ j : Fin 4, j ≠ k → t.ronko.tun.tx[j.val] = s.ronko.tun.tx[j.val]) ∧
  (∀ s k w data, (s.ronko.tun.tx[k.val]).state ≠ 1 → w.getLsbD 30 = false → w.getLsbD 31 = true →
      let x := { s.ronko.tun.tx[k.val] with d0 := w.extractLsb' 0 18 }
      x.len = 0 ∨ 1472 < x.len ∨ x.kind = 3 ∨ (routeOf s none x.dest false).outs = [] → ∃ t,
        exec (.tunTxGo k w data) s = .next t ∧ (t.ronko.tun.tx[k.val]).state = 3
        ∧ ∀ j : Fin 4, j ≠ k → t.ronko.tun.tx[j.val] = s.ronko.tun.tx[j.val]) ∧
  (∀ s tag entry reason, s.linkOn = true → ∃ t, exec (.tunNack tag entry reason) s = .next t
      ∧ t.ronko.tun.nackRx = s.ronko.tun.nackRx.inc) ∧
  (∀ s tag entry reason code retry f, s.linkOn = true → s.coreRuns = true → nackCode reason = some (code, retry) →
      (s.rop.forwarded.find? fun f => f.tag == tag) = some f → ∃ t, exec (.tunNack tag entry reason) s = .next t
        ∧ t.rop.forwarded = s.rop.forwarded.erase f ∧ t.ch = s.ch) ∧
  (∀ s tag entry reason i, s.linkOn = true → s.coreRuns = true → s.ronko.tun.rxEn = true → freeSlot s.ronko.tun = some i →
      s.rop.forwarded = [] → ∃ t, exec (.tunNack tag entry reason) s = .next t ∧ (t.ronko.tun.rx[i.val]).full = true
        ∧ (t.ronko.tun.rx[i.val]).kind = 3 ∧ (t.ronko.tun.rx[i.val]).tag = tag ∧ (t.ronko.tun.rx[i.val]).entry = entry
        ∧ (t.ronko.tun.rx[i.val]).reason = reason ∧ t.ronko.tun.nackRx = s.ronko.tun.nackRx.inc ∧ t.ch = s.ch) ∧
  (∀ s i, (s.ronko.tun.rx[i.val]).filling = true → ∃ t, exec (.reassemblyTimeout i) s = .next t ∧ t.ronko.tun.rx[i.val] = {}
      ∧ t.ronko.tun.reasmDrops = s.ronko.tun.reasmDrops.inc
      ∧ ∀ j : Fin 8, j ≠ i → t.ronko.tun.rx[j.val] = s.ronko.tun.rx[j.val]) ∧
  (∀ s k w data, (s.ronko.tun.tx[k.val]).state ≠ 1 → w.getLsbD 30 = false → w.getLsbD 31 = false →
      ∃ t, exec (.tunTxGo k w data) s = .next t
        ∧ t.ronko.tun.tx[k.val] = { s.ronko.tun.tx[k.val] with d0 := w.extractLsb' 0 18 }
        ∧ ∀ j : Fin 4, j ≠ k → t.ronko.tun.tx[j.val] = s.ronko.tun.tx[j.val]) ∧
  (∀ s g i, s.linkOn = true → s.coreRuns = false ∨ s.ronko.tun.rxEn = false → slotFilling s.ronko.tun 0 g = some i →
      exec (.tunReq g) s = .next (sendNack (dropSlot s i) g.entry g.tag 2)) ∧
  (∀ s g, s.linkOn = true → s.coreRuns = false ∨ s.ronko.tun.rxEn = false → slotFilling s.ronko.tun 0 g = none → g.seg = 0 →
      exec (.tunReq g) s = .next (sendNack s g.entry g.tag 2)) ∧
  (∀ s g i c k, (c = .tunRsp g ∧ k = 1) ∨ (c = .tunEvt g ∧ k = 2) → s.linkOn = true →
      s.coreRuns = false ∨ s.ronko.tun.rxEn = false → slotFilling s.ronko.tun k g = some i → exec c s = .next (dropSlot s i)) ∧
  (∀ s k, ∃ t, exec (.tunTxCancel k) s = .next t ∧ t = { s with ronko := t.ronko, rop := t.rop, emit := t.emit }) ∧
  (∀ s k, s.ronko.tun.waiting = [] → ∃ t, exec (.tunTxCancel k) s = .next t ∧ (t.ronko.tun.tx[k.val]).state = 0 ∧ (t.ronko.tun.tx[k.val]).segs = []
      ∧ ∀ j : Fin 4, j ≠ k → t.ronko.tun.tx[j.val] = s.ronko.tun.tx[j.val]) ∧
  (∀ s mask, ∃ t, exec (.tunRxFree mask) s = .next t ∧ ∀ i : Fin 8, t.ronko.tun.rx[i.val] =
      if mask.getLsbD i.val && (s.ronko.tun.rx[i.val]).full then {} else s.ronko.tun.rx[i.val])


/-! ### The front-end serial port and execution in place (chapter 14) -/

/-- R532 to R545, R552: a command-ring entry is taken under CMDQ's own grant when its response fits, an illegal one
completes with E_RANGE, one that would change a protected flash is blocked, each word waits for FRDY where FRDY_EN asks for it
and then shows its assertion, attempts are repeated and give up, and a completed entry leaves the port free. (The write of a
response takes its turn on the pool write port: log entry 57.) -/
def Obligations.CommandRingEntries : Prop :=
  (∀ s r x rest e, cmdqMay s = true → s.badger.testActive = false → fspRing s s.fsp.cmdRing (·.consumer) = some r →
      r.headGap = 0 → r.recs = x :: rest → x.mark = false → x.bad = false → parseEntry ((headBundle r.recs).map (·.bytes)) = some e →
      let k := s.fsp.selCfg e.sel
      responseFits s { e with cfg := k, began := s.now } = true → blockedBy s.fsp { e with cfg := k, began := s.now } = none →
      ∃ t, exec .cmdqEntry s = .next t ∧ t.fsp.entry = some { e with cfg := k, frdyWait := k.frdyEn, began := s.now, word := 0 }
        ∧ t.fsp.entries = s.fsp.entries ∧ t.fsp.cmdServed = true ∧ t.fsp.sckHigh = decide (2 ≤ k.mode)
        ∧ t.hamper = s.hamper ∧ t.ch = s.ch
        ∧ (k.frdyEn = false → (s.fsp.contRead = false ∨ e.sel ≠ 0) →
            t.emit = (e.assertions.reverse.map fun a => Emission.fsp e.sel a) ++ s.emit)
        ∧ (k.frdyEn = true → (s.fsp.contRead = false ∨ e.sel ≠ 0) → t.emit = s.emit)) ∧
  (∀ s r x rest e op, cmdqMay s = true → s.badger.testActive = false → fspRing s s.fsp.cmdRing (·.consumer) = some r →
      r.headGap = 0 → r.recs = x :: rest → x.mark = false → x.bad = false → parseEntry ((headBundle r.recs).map (·.bytes)) = some e →
      responseFits s { e with cfg := s.fsp.selCfg e.sel, began := s.now } = true →
      blockedBy s.fsp { e with cfg := s.fsp.selCfg e.sel, began := s.now } = some op →
      ∃ t, exec .cmdqEntry s = .next t ∧ t.fsp.entry = none ∧ t.fsp.protBlocks = s.fsp.protBlocks.inc
        ∧ t.fsp.entries = s.fsp.entries.inc ∧ t.fsp.fails = s.fsp.fails.inc ∧ t.fsp.busyPend = s.fsp.busyPend
        ∧ (PortQuiet s → t.ch = s.ch)) ∧
  (∀ s r x rest, cmdqMay s = true → s.badger.testActive = false → fspRing s s.fsp.cmdRing (·.consumer) = some r →
      r.headGap = 0 → r.recs = x :: rest → x.mark = false → x.bad = false →
      parseEntry ((headBundle r.recs).map (·.bytes)) = none → responseFits s (illegalEntry x.bytes) = true →
      ∃ t, exec .cmdqEntry s = .next t ∧ t.fsp.entry = none ∧ t.fsp.entries = s.fsp.entries.inc
        ∧ t.fsp.fails = s.fsp.fails.inc ∧ (PortQuiet s → t.ch = s.ch)) ∧
  (∀ s, cmdqMay s = false → exec .cmdqEntry s = .next s) ∧
  (∀ s e, s.clk.pllLock = true → s.fsp.entry = some e → e.frdyWait = true → ∃ t, exec .frdyReady s = .next t
      ∧ t.fsp = { s.fsp with entry := some { e with frdyWait := decide (e.word + 1 < e.words.length), word := e.word + 1 } }
      ∧ (e.hold = false → t.emit = .fsp e.sel (e.words[e.word]?.getD []) :: s.emit)
      ∧ (e.hold = true → e.words.length ≤ e.word + 1 → t.emit = .fsp e.sel e.sent :: s.emit)
      ∧ (e.hold = true → e.word + 1 < e.words.length → t.emit = s.emit)
      ∧ t = { s with fsp := t.fsp, emit := t.emit }) ∧
  (∀ s e, s.fsp.entry = some e → e.frdyWait = false →
      exec .frdyReady s = .next s ∧ exec .frdyTimeout s = .next s ∧ ∀ k, exec (.fspAttemptFail .frdy k) s = .next s) ∧
  (∀ s e, s.clk.pllLock = true → s.fsp.entry = some e → e.frdyWait = true → 1 + e.retries ≤ e.attempts → ∃ t,
      exec .frdyTimeout s = .next t ∧ t.fsp.entry = none ∧ t.fsp.entries = s.fsp.entries.inc ∧ t.fsp.fails = s.fsp.fails.inc
      ∧ (PortQuiet s → t.ch = s.ch)) ∧
  (∀ s e, s.clk.pllLock = true → s.fsp.entry = some e → e.frdyWait = true → e.attempts < 1 + e.retries →
      let wait := if e.attempts = 1 then 120 * e.cfg.frdyTmo else Nat.min (120 * e.cfg.frdyTmo) (30000 - e.elapsed)
      e.waitedFrom s.now + wait + e.cfg.lag + e.cfg.inter + e.cycles ≤ 30000 → ∃ t x, exec .frdyTimeout s = .next t
        ∧ t.fsp.entry = some x ∧ x.attempts = e.attempts + 1 ∧ x.word = 0 ∧ x.frdyWait = e.cfg.frdyEn ∧ x.tag = e.tag
        ∧ t.fsp.retries = s.fsp.retries.inc ∧ t.fsp.entries = s.fsp.entries ∧ t.ch = s.ch) ∧
  (∀ s e k, s.clk.pllLock = true → s.fsp.entry = some e → e.crcRx = true → e.frdyWait = false → e.attempts < 1 + e.retries →
      k + e.cfg.inter + e.cycles ≤ 30000 → ∃ t x, exec (.fspAttemptFail .crc k) s = .next t ∧ t.fsp.entry = some x
        ∧ x.attempts = e.attempts + 1 ∧ x.tag = e.tag ∧ t.fsp.retries = s.fsp.retries.inc
        ∧ t.fsp.entries = s.fsp.entries) ∧
  (∀ s e k, s.clk.pllLock = true → s.fsp.entry = some e → e.crcRx = true → e.frdyWait = false →
      1 + e.retries ≤ e.attempts → ∃ t, exec (.fspAttemptFail .crc k) s = .next t ∧ t.fsp.entry = none ∧ t.fsp.fails = s.fsp.fails.inc) ∧
  (∀ s e rx, s.clk.pllLock = true → s.fsp.entry = some e → e.frdyWait = false → e.echoed rx = true → ∃ t,
      exec (.cmdqEntryComplete rx) s = .next t ∧ t.fsp.entry = none ∧ t.fsp.entries = s.fsp.entries.inc ∧ t.fsp.fails = s.fsp.fails
      ∧ (PortQuiet s → t.ch = s.ch)
      ∧ (changesFlash s.fsp e = true → e.attempts ≠ 0 → t.fsp.busyPend = true ∧ t.xip.lines = []))

/-- R546 to R551: a fetch from a held line counts a hit and makes the line the latest, one from another line asks for
a fill, a fill enters its line and keeps at most four, and an invalidation drops all.
R553 to R556: the flash's busy polls before the fill or the access that waits, the end of a flash that stays busy, the release and the acquisition of the
bus, and the mode fault. -/
def Obligations.FlashAccessAndBusMaster : Prop :=
  ((∀ s a l, xipLine s.xip a = some l → s.coreRuns = true → l ∉ s.xip.lines → exec (.xipMiss a) s =
      .next (s.modXip fun x => { x with misses := x.misses.inc, miss := some l, prefetch := none })) ∧
  (∀ s a l, xipLine s.xip a = some l → s.coreRuns = true → l ∈ s.xip.lines → exec (.xipHit a) s =
      .next (s.modXip fun x => { x with hits := x.hits.inc, lines := l :: x.lines.erase l })) ∧
  (∀ s l, s.clk.pllLock = true → s.xip.filling = some l → s.fsp.busyPend = false → ∃ t, exec .xipFillComplete s = .next t
      ∧ t.xip.lines = (l :: s.xip.lines.erase l).take 4 ∧ t.xip.filling = none ∧ t.ch = s.ch
      ∧ (s.xip.miss = some l → t.xip.miss = none) ∧ (s.xip.miss ≠ some l → t.xip.miss = s.xip.miss)
      ∧ t.fsp.contRead = s.xip.cont) ∧
  (∀ s, s.xip.filling = none ∨ s.fsp.busyPend = true ∨ s.clk.pllLock = false → exec .xipFillComplete s = .next s) ∧
  (∀ s r v, objXipInvalidate.Admits r tU8 [v] s → Done r (s.modXip fun x => { x with lines := [] })
      (exec (.xipInvalidate r v) s))) ∧
  ((∀ s v, pollDue s = true → ∃ t, exec (.busyPoll v) s = .next t ∧ t.fsp.busyPolls = s.fsp.busyPolls.inc
      ∧ t.fsp.busyPend = v.getLsbD s.fsp.busyBit.toNat ∧ t.xip = s.xip ∧ s.emit.length < t.emit.length ∧ t.ch = s.ch) ∧
  (∀ s v, pollDue s = true → s.fsp.contRead = false → s.xip.filling = none ∨ v.getLsbD s.fsp.busyBit.toNat = true →
      exec (.busyPoll v) s = .next { s with
        fsp := { s.fsp with busyPolls := s.fsp.busyPolls.inc, busyPend := v.getLsbD s.fsp.busyBit.toNat, sckHigh := false }
        emit := .fsp 0 [s.fsp.statusCmd] 0 1 :: s.emit }) ∧
  (∀ s, pollDue s = false → (∀ v, exec (.busyPoll v) s = .next s) ∧ exec .flashStuck s = .next s) ∧
  (∀ s, pollDue s = true → s.xip.filling = none → s.trust.instr.saving = none → ∃ t, exec .flashStuck s = .next t
      ∧ Sends s t srcFsp 0xF1 .error 0 ∧ t.xip = s.xip ∧ t.fsp = s.fsp
      ∧ (s.mgp.flashRequest = true → s.mgp.staged = none → t.mgp.programmed = false ∧ ∃ x, t.mgp.staged = some x
          ∧ x.code = eInternal)) ∧
  (∀ s l, pollDue s = true → s.xip.filling = some l → ∃ t, exec .flashStuck s = .next t ∧ Sends s t srcFsp 0xF1 .error 0
      ∧ t.xip.filling = none ∧ t.xip.lines = s.xip.lines ∧ t.xip.prefetch = s.xip.prefetch ∧ t.fsp = s.fsp ∧ t.trust = s.trust
      ∧ (s.xip.miss = some l → t.xip.miss = none
          ∧ t.emit = .loadFault (BitVec.ofNat 32 (0x20000000 + 32 * l - s.xip.base)) :: s.emit)
      ∧ (s.xip.miss ≠ some l → t.xip.miss = s.xip.miss ∧ t.emit = s.emit)) ∧
  (∀ s x, pollDue s = true → s.xip.filling = none → s.trust.instr.saving = some x → s.badger.queue = [] → ∃ t m m',
      exec .flashStuck s = .next t ∧ t.trust.instr.saving = none ∧ t.trust.instr.saved = s.trust.instr.saved
        ∧ t.badger.queue = [m, m'] ∧ m.kind = 0xF1 ∧ m'.kind = 0xC2 ∧ m'.detail = 0x7100) ∧
  (∀ s r v, objFspRelease.Admits r tU8 [v] s → s.busUsed = true → Done r (s.modFsp fun f => { f with releaseDue := true })
      (exec (.fspRelease r v) s)) ∧
  (∀ s r v, objFspRelease.Admits r tU8 [v] s → s.busUsed = false → ∃ t, exec (.fspRelease r v) s = .next t
      ∧ t.answer.code = eOk ∧ t.fsp.master = .released ∧ t.fsp.releaseDue = false ∧ t.xip = s.xip) ∧
  (∀ s r v, objFspAcquire.Admits r tU8 [v] s → Done r (s.modFsp fun f => { f with master := .master, releaseDue := false })
      (exec (.fspAcquire r v) s)) ∧
  (∀ s, s.fsp.master = .master → s.onFss0 = false → s.clk.pllLock = true → ∃ t, exec .modeFault s = .next t
      ∧ t.fsp.master = .waiting ∧ t.fsp.modeFault = true ∧ t.fsp.modeFaults = s.fsp.modeFaults.inc ∧ t.fsp.entry = none
      ∧ t.bus.owner = none ∧ t.xip.filling = none ∧ t.xip.miss = s.xip.miss ∧ (s.fsp.entry = none ∨ PortQuiet s → t.ch = s.ch)
      ∧ (∀ l, s.xip.filling = some l → s.xip.miss = some l ∨ t.xip.prefetch = some l)) ∧
  (∀ s, s.fsp.master ≠ .master ∨ s.onFss0 = true ∨ s.clk.pllLock = false → exec .modeFault s = .next s) ∧
  (∀ s, s.clk.pllLock = true → s.fsp.master = .waiting → s.fsp.mfAuto = true → exec .mfQuietReacquire s =
      .next (s.modFsp fun f => { f with master := .master })))


/-! ### The management port (chapter 14) -/

/-- R558 to R563, R568, R574, R575: a frame's start gives its status and clears BAD, its end counts it, a bad request
sets BAD, a poll brings the Instructor's nibble, and a stream frame stays open.
R564 to R567, R569 to R573: the request in execution stages its reply under its own header: the result of a read
or a write through the dictionary, or of an access to the flash with the bus granted. -/
def Obligations.ManagementPort : Prop :=
  ((∀ s, s.power.aonHeld = false → s.mgp.inFrame = false → ∃ t, exec .mgpFrameStart s = .next t ∧ t.mgp.inFrame = true
      ∧ t.mgp.streaming = false ∧ t.mgp.bad = false ∧ t.mgp.status = statusByte s ∧ t.emit.length = s.emit.length + 1
      ∧ t.ch = s.ch) ∧
  (∀ s b, s.mgp.inFrame = true → s.dev.resetPending = false → goodRequest b = none → ∃ t, exec (.mgpFrameEnd b) s = .next t
      ∧ t.mgp.inFrame = false ∧ t.mgp.frames = s.mgp.frames.inc ∧ t.mgp.badFrames = s.mgp.badFrames.inc ∧ t.mgp.bad = true
      ∧ t.mgp.executing = s.mgp.executing) ∧
  (∀ s b q, s.mgp.inFrame = true → s.dev.resetPending = false → goodRequest b = some q →
      mType (b.headD 0) ≠ tPoll → mType (b.headD 0) ≠ tStream →
      let alive := (b.headD 0).extractLsb' 4 4
      (alive ≠ s.mgp.held.rhdr.extractLsb' 4 4 → s.mgp.executing = none → ∃ t, exec (.mgpFrameEnd b) s = .next t
        ∧ t.mgp.inFrame = false ∧ t.mgp.frames = s.mgp.frames.inc ∧ t.mgp.alive = alive ∧ t.mgp.executing = some q
        ∧ t.mgp.badFrames = s.mgp.badFrames ∧ t.ch = s.ch
        ∧ t.mgp.staged = (if reservedSet q then some { rhdr := b.headD 0, code := eRange } else none)) ∧
      (alive = s.mgp.held.rhdr.extractLsb' 4 4 → ∃ t, exec (.mgpFrameEnd b) s = .next t ∧ t.mgp.inFrame = false
        ∧ t.mgp.frames = s.mgp.frames.inc ∧ t.mgp.repeats = s.mgp.repeats.inc ∧ t.mgp.executing = s.mgp.executing) ∧
      (∀ x, alive ≠ s.mgp.held.rhdr.extractLsb' 4 4 → s.mgp.executing = some x → ∃ t, exec (.mgpFrameEnd b) s = .next t
        ∧ t.mgp.inFrame = false ∧ t.mgp.frames = s.mgp.frames.inc ∧ t.mgp.busyIgnored = s.mgp.busyIgnored.inc
        ∧ t.mgp.executing = some x)) ∧
  (∀ s b, s.mgp.inFrame = true → s.dev.state ≠ .reset → carriesReset s (b.headD 0) b.length = true → ∃ t,
      exec (.mgpFrameEnd b) s = .next t ∧ t.dev.state = .reset ∧ t.dev.resetCause.getLsbD 8 = true) ∧
  (∀ s b, s.mgp.inFrame = false → exec (.mgpFrameEnd b) s = .next s) ∧
  (∀ s alive, s.power.aonHeld = false → s.dev.resetPending = false → ∃ t, exec (.mgpPoll alive) s = .next t
      ∧ t.mgp.inFrame = false ∧ t.mgp.frames = s.mgp.frames.inc ∧ t.mgp.alive = alive ∧ t.mgp.badFrames = s.mgp.badFrames) ∧
  (∀ s k, s.power.aonHeld = false → ∃ t, exec (.mgpStream k) s = .next t ∧ t.mgp.inFrame = true ∧ t.mgp.streaming = true) ∧
  (∀ s b r, s.mgp.executing = some b → s.mgp.staged = some r → s.savesFor = false → exec .mgpReplyComplete s =
      .next (s.modMgp fun m => { m with held := r, executing := none, staged := none }))) ∧
  ((∀ s idx el ty hdr, s.toDo tRead (readFields idx el ty) = some hdr → mgpReach s idx.toNat el.toNat = eOk →
      (readAt .mgmt idx el ty s).2.data.length ≤ 512 → ∃ t r, exec (.mgpRead idx el ty) s = .next t ∧ t.mgp.staged = some r
        ∧ r.rhdr = hdr ∧ r.code = (readAt .mgmt idx el ty s).2.code ∧ r.data = (readAt .mgmt idx el ty s).2.data
        ∧ t.ch = s.ch) ∧
  (∀ s idx el ty hdr, s.toDo tRead (readFields idx el ty) = some hdr → mgpReach s idx.toNat el.toNat ≠ eOk → ∃ t r,
      exec (.mgpRead idx el ty) s = .next t ∧ t.mgp.staged = some r ∧ r.rhdr = hdr
        ∧ r.code = mgpReach s idx.toNat el.toNat ∧ t = { s with mgp := t.mgp }) ∧
  (∀ s off (k : W16) data hdr, s.toDo tFlashRead (flashFields off k []) = some hdr →
      flashCode s off.toNat k.toNat false (within 1 512 k.toNat) ≠ eOk → ∃ t r, exec (.mgpFlashRead off k data) s = .next t
        ∧ t.mgp.staged = some r ∧ r.rhdr = hdr ∧ r.code = flashCode s off.toNat k.toNat false (within 1 512 k.toNat)
        ∧ t.fsp = s.fsp) ∧
  (∀ s off data eq hdr, s.toDo tFlashWrite (flashFields off 0 data) = some hdr →
      let code := flashCode s off.toNat data.length true
        (within 1 256 data.length && decide (off.toNat % 256 + data.length ≤ 256))
      code ≠ eOk → s.mgp.programmed = false → ∃ t r, exec (.mgpFlashWrite off data eq) s = .next t ∧ t.mgp.staged = some r ∧ r.rhdr = hdr
        ∧ r.code = code ∧ t.fsp = s.fsp) ∧
  (∀ s off hdr, s.toDo tFlashErase (flashFields off 0 []) = some hdr →
      flashCode s off.toNat 4096 true (off.toNat % 4096 == 0) ≠ eOk → ∃ t r, exec (.mgpFlashErase off) s = .next t
        ∧ t.mgp.staged = some r ∧ r.rhdr = hdr ∧ r.code = flashCode s off.toNat 4096 true (off.toNat % 4096 == 0)
        ∧ t.fsp = s.fsp) ∧
  (∀ s idx el ty epoch data hdr, s.toDo tWrite (writeFields idx el ty epoch data) = some hdr →
      mgpReach s idx.toNat el.toNat = eOk → data.length ≤ 512 →
      ∃ t r, exec (.mgpWrite idx el ty epoch data) s = .next t ∧ t.mgp.staged = some r ∧ r.rhdr = hdr
        ∧ r.code = (writeAt ⟨⟨.mgmt, .mgp, epoch⟩, idx, el, ty, data⟩ s).2.code
        ∧ t.ch = (writeAt ⟨⟨.mgmt, .mgp, epoch⟩, idx, el, ty, data⟩ s).1.ch) ∧
  (∀ s idx el ty epoch data hdr, s.toDo tWrite (writeFields idx el ty epoch data) = some hdr →
      mgpReach s idx.toNat el.toNat ≠ eOk →
      ∃ t r, exec (.mgpWrite idx el ty epoch data) s = .next t ∧ t.mgp.staged = some r ∧ r.rhdr = hdr
        ∧ r.code = mgpReach s idx.toNat el.toNat ∧ t.ch = s.ch) ∧
  (∀ s off (k : W16) data hdr, s.toDo tFlashRead (flashFields off k []) = some hdr →
      flashCode s off.toNat k.toNat false (within 1 512 k.toNat) = eOk → s.supMay = true → data.length = k.toNat →
      ∃ t r, exec (.mgpFlashRead off k data) s = .next t ∧ t.mgp.staged = some r ∧ r.rhdr = hdr ∧ r.code = eOk
        ∧ r.data = data ∧ t.fsp = { s.fsp with contRead := t.fsp.contRead, inCont := t.fsp.inCont, sckHigh := false }
        ∧ t.emit.head? = some (.fsp 0 ([s.xip.cmd] ++ flashAddr s off.toNat ++ [0xFF]) s.xip.dummy.toNat k.toNat)
        ∧ t.ch = s.ch) ∧
  (∀ s off data eq hdr, s.toDo tFlashWrite (flashFields off 0 data) = some hdr →
      flashCode s off.toNat data.length true (within 1 256 data.length && decide (off.toNat % 256 + data.length ≤ 256)) = eOk →
      s.supMay = true → s.mgp.programmed = false → ∃ t, exec (.mgpFlashWrite off data eq) s = .next t ∧ t.mgp.staged = none
        ∧ t.mgp.programmed = true ∧ t.fsp.busyPend = true ∧ t.xip.lines = [] ∧ t.ch = s.ch
        ∧ t.emit.head? = some (.fsp 0 ([if s.xip.addr4 then 0x12 else 0x02] ++ flashAddr s off.toNat ++ data) 0 0)) ∧
  (∀ s off data eq hdr, s.toDo tFlashWrite (flashFields off 0 data) = some hdr → s.mgp.programmed = true → s.supMay = true →
      ∃ t r, exec (.mgpFlashWrite off data eq) s = .next t ∧ t.mgp.staged = some r ∧ r.rhdr = hdr
        ∧ r.code = (if eq then eOk else eCrc) ∧ t.mgp.programmed = false ∧ t.fsp.busyPend = false ∧ t.ch = s.ch) ∧
  (∀ s off hdr, s.toDo tFlashErase (flashFields off 0 []) = some hdr → flashCode s off.toNat 4096 true (off.toNat % 4096 == 0) = eOk →
      s.supMay = true → ∃ t r, exec (.mgpFlashErase off) s = .next t ∧ t.mgp.staged = some r ∧ r.rhdr = hdr ∧ r.code = eOk
        ∧ t.fsp.busyPend = true ∧ t.xip.lines = [] ∧ t.ch = s.ch
        ∧ t.emit.head? = some (.fsp 0 ([if s.xip.addr4 then 0x21 else 0x20] ++ flashAddr s off.toNat) 0 0)))


/-! ### The object dictionary, ROP, sessions and Ethernet (chapter 3) -/

/-- R89, R69, R72, R97, R99, Table 3.3: a read answers with the object's value and leaves no trace but a latched high
word, a write does what its object does if every check lets it, and an index or element that is not allocated is
answered with its code.
R19, R88, R89, R95: where some objects stand and that a read-only object refuses writes. -/
def Obligations.DictionaryAccessAndPlaces : Prop :=
  ((∀ s r idx el ty c, objAt idx.toNat el.toNat = .error c →
      (∃ t, exec (.ropRead r idx el ty) s = .next t ∧ t = { s with answer := t.answer } ∧ t.answer.code = c) ∧
      (∀ data, ∃ t, exec (.ropWrite r idx el ty data) s = .next t ∧ t = { s.countBusy r.path c with answer := t.answer }
        ∧ t.answer.code = c)) ∧
  (∀ s r idx el ty o d, objAt idx.toNat el.toNat = .ok o → readObj o r.who ty s = (eOk, d) →
      ∃ t, exec (.ropRead r idx el ty) s = .next t ∧ t.answer.code = eOk ∧ t.answer.ty = o.ty ∧ t.answer.data = d
        ∧ t = { s with answer := t.answer, clk := t.clk } ∧ t.clk.tbc = s.clk.tbc) ∧
  (∀ s r idx el ty data o, objAt idx.toNat el.toNat = .ok o → o.Admits r ty data s →
      ∃ t, exec (.ropWrite r idx el ty data) s = .next t ∧ t.answer.code = o.after ⟨r, data, s, s, s⟩
        ∧ t = { ((o.put ⟨r, data, s, s, s⟩ s).instructorCommand r.path t.answer.code).countBusy r.path t.answer.code with
                answer := t.answer }) ∧
  (∀ s r idx el ty data o, objAt idx.toNat el.toNat = .ok o → ¬ o.Admits r ty data s →
      ∃ t, exec (.ropWrite r idx el ty data) s = .next t ∧ t.answer.code ≠ eOk
        ∧ t.answer.code = o.verdict ty ⟨r, data, s, o.put ⟨r, data, s, s, s⟩ s, s⟩
        ∧ (r.path = .rop → t.answer.code = eBusy → t.rop.busyCount = s.rop.busyCount + 1)
        ∧ (∀ n : Ch, t.chan n = s.chan n ∨ idx.toNat = 0x2000 + 0x100 * n.val)
        ∧ (RefusalKeeps s t))) ∧
  ((∀ s who ty, ty = 0 ∨ ty = tU64 → ∃ o, objAt 0x7000 3 = .ok o ∧ readObj o who ty s = (eOk, natBytes 8 s.otp.uid.toNat)) ∧
  (∀ n : Ch, ∃ o, objAt (0x2000 + 0x100 * n.val) 1 = .ok o ∧ ∀ s who, readObj o who 0 s =
      (eOk, natBytes 1 (s.chan n).mode.mode.toNat)) ∧
  (∀ idx, 0xC000 ≤ idx → ∀ el, objAt idx el = .error eNoObject) ∧
  (∀ s r (o : Obj) ty data, o.acc = .ro → o.Admits r ty data s → False))

/-- R109, R110: a group one of whose writes a check refuses writes nothing: all that is left of it is what a refused
write may leave in its own object. -/
def Obligations.GroupsAreAtomic : Prop :=
  ∀ gs s, (∃ x ∈ groupParts gs s, groupCode (groupPost gs s) s x ≠ eOk) →
    let t := (runGroup gs s).1
    RefusalKeeps s t ∧ t.rop = s.rop ∧ t.answer = s.answer

/-- R113 to R117, R132: a session opens with a fresh ID, its time limit and the rate in force, an opening without a free
slot is answered E_BUSY and counted, its end frees its slot and revokes what it held, and a keepalive restarts its time. -/
def Obligations.SessionCommands : Prop :=
  (∀ s peer entry (timeout : W16) i, s.coreRuns = true → freeSession s = some i →
      timeout = 0 ∨ 100 ≤ timeout.toNat ∧ timeout.toNat ≤ 60000 →
      let ms := if timeout = 0 then s.rop.sessionTimeoutDefault else timeout.toNat
      ∃ t, exec (.sessionOpen peer entry timeout) s = .next t ∧ t.answer.code = eOk
        ∧ t.answer.data = natBytes 2 (t.session i).id.toNat ∧ (t.session i).ip = peer.ip ∧ (t.session i).port = peer.port
        ∧ (t.session i).entry = entry ∧ (t.session i).timeoutMs = ms ∧ (t.session i).deadline = s.now + msec ms ∧ (∀ j, j ≠ i → t.session j = s.session j) ∧ t.ch = s.ch) ∧
  (∀ s peer entry (timeout : W16), s.coreRuns = true → freeSession s = none →
      timeout = 0 ∨ 100 ≤ timeout.toNat ∧ timeout.toNat ≤ 60000 → ∃ t, exec (.sessionOpen peer entry timeout) s = .next t
        ∧ t.answer.code = eBusy
        ∧ t = { s with rop := { s.rop with busyCount := s.rop.busyCount + 1 }, answer := t.answer }) ∧
  (∀ s peer entry (timeout : W16), s.coreRuns = true → timeout ≠ 0 → timeout.toNat < 100 ∨ 60000 < timeout.toNat →
      ∃ t, exec (.sessionOpen peer entry timeout) s = .next t ∧ t.answer.code = eRange ∧ t = { s with answer := t.answer }) ∧
  (∀ s sid i, slotOf s sid = some i → ∃ t, exec (.sessionClose sid) s = .next t ∧ t.answer.code = eOk ∧ t.session i = {}
      ∧ (∀ j, j ≠ i → t.session j = s.session j)
      ∧ ∀ n, holds (s.chan n).lock (.host sid) = true → (t.chan n).lock.kind = .none
          ∧ (t.chan n).lock.epoch = (s.chan n).lock.epoch + 1) ∧
  (∀ s sid i, slotOf s sid = some i → ∃ t, exec (.keepalive sid) s = .next t ∧ t.answer.code = eOk
      ∧ t.session i = { s.session i with deadline := s.now + msec (s.session i).timeoutMs }
      ∧ (∀ j, j ≠ i → t.session j = s.session j) ∧ t.ch = s.ch) ∧
  (∀ s i, (s.session i).id ≠ 0 → ∃ t, exec (.sessionExpire i) s = .next t ∧ t.session i = {}
      ∧ (∀ j, j ≠ i → t.session j = s.session j)) ∧
  (∀ s (sid : W16), sid ≠ 0 → slotOf s sid = none → (∃ t, exec (.sessionClose sid) s = .next t ∧ t.answer.code = eStaleEpoch
      ∧ t = { s with answer := t.answer }) ∧ (∃ t, exec (.keepalive sid) s = .next t ∧ t.answer.code = eStaleEpoch
      ∧ t = { s with answer := t.answer })) ∧
  (∀ s, exec .busyPerSUpdate s = .next { s with
      rop := { s.rop with busyPerS := s.rop.busyCount - s.rop.busyMark, busyMark := s.rop.busyCount }
      eth := { s.eth with icmpSent := 0 } })

/-- R114: the ID of an opened session is neither 0 nor the ID of a session that is open. -/
def Obligations.SessionIdsAreFresh : Prop :=
  ∀ s peer entry (timeout : W16) i t, s.coreRuns = true → freeSession s = some i →
    timeout = 0 ∨ 100 ≤ timeout.toNat ∧ timeout.toNat ≤ 60000 → exec (.sessionOpen peer entry timeout) s = .next t →
    (t.session i).id ≠ 0 ∧ ∀ j, j ≠ i → (t.session j).id ≠ (t.session i).id

/-- R100 to R108, R113, R118 to R131, R136 to R138: what becomes of a datagram. One that cannot be parsed counts, one for a
node that the tree does not hold is answered, a discovery waits for its delayed reply, and an admitted one waits in the
host command ring and is executed and answered when it is served; a transaction that outlived its time is answered
E_TIMEOUT wherever it waits, and an event goes to the sessions that subscribed to its line. -/
def Obligations.DatagramCommands : Prop :=
  (∀ s peer b bytes k us, s.coreRuns = true → s.hears b = true → parseRequest bytes maskEthernet = none →
      exec (.ropDatagram peer b bytes k us) s =
        .next (serveMany k us { s with rop := { s.rop with malformed := s.rop.malformed + 1 } })) ∧
  (∀ s peer b bytes k us, s.coreRuns = true → s.hears b = false → exec (.ropDatagram peer b bytes k us) s =
      .next (serveMany k us s)) ∧
  (∀ s peer b bytes k us, s.coreRuns = false → exec (.ropDatagram peer b bytes k us) s = .next s) ∧
  (∀ s us, serveMany 0 us s = s) ∧
  (∀ s peer bytes q k us, s.coreRuns = true → s.hears true = true → parseRequest bytes maskEthernet = some q → q.legal = true →
      q.discovers s ⟨peer, ownEntry, none⟩ = true → destHere s q.dest = true →
      exec (.ropDatagram peer true bytes k us) s = .next (serveMany k us { s with rop := { s.rop with
        rxDatagrams := s.rop.rxDatagrams + 1, discovery := s.rop.discovery ++ [(peer, bytes)] } })) ∧
  (∀ s peer bytes q k us, s.coreRuns = true → s.hears false = true → parseRequest bytes maskEthernet = some q →
      q.legal = true → q.openOk = true → destHere s q.dest = false → s.ronko.node.enum ≠ .ready → ∃ u,
        exec (.ropDatagram peer false bytes k us) s = .next (serveMany k us u)
        ∧ u = { s with rop := { s.rop with rxDatagrams := s.rop.rxDatagrams + 1 },
                       emit := .datagram peer.ip peer.port
                         (ropHeader 0x80 q.session q.seq q.dest q.timeout 0 eNotReady 0) :: s.emit }) ∧
  (∀ s peer bytes q k us, s.coreRuns = true → s.hears false = true → parseRequest bytes maskEthernet = some q →
      q.legal = true → q.openOk = true → q.session = 0 → destHere s q.dest = true → q.largest s ≤ 1472 → PortQuiet s →
      ringTakes s s.rop.cmdDepth bytes = true → ∃ u x,
        exec (.ropDatagram peer false bytes k us) s = .next (serveMany k us u) ∧ u.rop.queue = s.rop.queue ++ [x]
        ∧ x.bytes = bytes ∧ x.peer = peer ∧ x.entry = ownEntry ∧ x.tag = none
        ∧ x.deadline = s.now + timeoutOf s q.timeout
        ∧ u = { s with pool := u.pool, hamper := u.hamper, badger := u.badger, events := u.events, mgp := u.mgp, free := u.free
                       rop := { s.rop with rxDatagrams := s.rop.rxDatagrams + 1, queue := u.rop.queue } }) ∧
  (∀ s peer bytes q i k us, s.coreRuns = true → s.hears false = true → parseRequest bytes maskEthernet = some q →
      q.legal = true → q.openOk = true → slotOf s q.session = some i →
      (s.session i).boundTo ⟨peer, ownEntry, none⟩ = true → destHere s q.dest = true → q.largest s ≤ 1472 →
      outstanding s (s.session i) = none → PortQuiet s →
      ((s.session i).lastSeq = none ∨ (s.session i).lastSeq = some (q.seq - 1) →
        240000000 ≤ (s.session i).levelNow s.now → ringTakes s (s.session i).depth bytes = true → ∃ u x,
          exec (.ropDatagram peer false bytes k us) s = .next (serveMany k us u) ∧ u.rop.queue = s.rop.queue ++ [x]
          ∧ x.bytes = bytes ∧ x.peer = peer ∧ u.rop.rxDatagrams = s.rop.rxDatagrams + 1
          ∧ (u.session i).deadline = s.now + msec (s.session i).timeoutMs
          ∧ (u.session i).level = (s.session i).levelNow s.now - 240000000 ∧ u.ch = s.ch) ∧
      ((s.session i).lastSeq = some q.seq → ∃ u, exec (.ropDatagram peer false bytes k us) s = .next (serveMany k us u)
          ∧ u.rop.queue = s.rop.queue ∧ u.rop.duplicates = s.rop.duplicates + 1 ∧ u.ch = s.ch
          ∧ u.emit = .datagram peer.ip peer.port (s.session i).stored :: s.emit) ∧
      (∀ x, (s.session i).lastSeq = some x → x ≠ q.seq → x ≠ q.seq - 1 → ∃ u,
          exec (.ropDatagram peer false bytes k us) s = .next (serveMany k us u) ∧ u.rop.queue = s.rop.queue ∧ u.ch = s.ch
          ∧ u.emit = .datagram peer.ip peer.port
              (ropHeader 0x80 q.session q.seq q.dest q.timeout 0 eSequence 0) :: s.emit)) ∧
  (∀ s peer bytes q k us, s.coreRuns = true → s.hears false = true → parseRequest bytes maskEthernet = some q →
      q.legal = true → q.openOk = true → destHere s q.dest = false → s.ronko.node.enum = .ready →
      q.dest.toNat < s.ronko.node.nodeCount → (idleTx s).isSome = true → (routeOf s none q.dest false).outs ≠ [] →
      s.rop.forwarded = [] → s.ronko.tun.waiting = [] → ∃ u f,
        exec (.ropDatagram peer false bytes k us) s = .next (serveMany k us u) ∧ u.rop.forwarded = [f]
        ∧ f.session = q.session ∧ f.seq = q.seq ∧ f.dest = q.dest ∧ f.peer = peer
        ∧ f.deadline = s.now + timeoutOf s q.timeout ∧ u.ch = s.ch) ∧
  (∀ s y rest q us, s.coreRuns = true → s.rop.queue = y :: rest → y.tag = none → parseRequest y.bytes maskTunnel = some q →
      let u := serving s y us
      (inRing s y → serveMany 1 us s = respond (execute u q y.origin).1 y.origin (execute u q y.origin).2) ∧
      (¬ inRing s y → serveMany 1 us s = u)) ∧
  (∀ s y rest q o us i, s.coreRuns = true → s.rop.queue = y :: rest → y.tag = none →
      parseRequest y.bytes maskTunnel = some q → slotOf s q.session = some i → (s.session i).boundTo y.origin = true →
      q.flags &&& fGroup = 0 → q.ops = [o] → o.op = opWrite → inRing s y →
      let x := writeAt (o.write (.host q.session)) (serving s y us)
      (serveMany 1 us s).ch = x.1.ch ∧ (serveMany 1 us s).eng = x.1.eng ∧ (serveMany 1 us s).dev = x.1.dev) ∧
  (∀ s y rest q o us, s.coreRuns = true → s.macLives = true → s.eth.ip ≠ 0 → s.rop.queue = y :: rest → y.tag = none →
      parseRequest y.bytes maskTunnel = some q → q.session = 0 → q.flags &&& fGroup = 0 → q.ops = [o] → o.op = opRead →
      inRing s y →
      let x := (readAt (.sessionless false) o.index o.element o.ty (serving s y us)).2
      let t := serveMany 1 us s
      t.rop.queue = rest ∧ t.emit = .datagram y.peer.ip y.peer.port
        (ropHeader 0x80 0 q.seq q.dest q.timeout 1 x.code 0 ++ responseRecord o x) :: s.emit ∧ t.ch = s.ch ∧ t.eth = s.eth) ∧
  (∀ s peer bytes q o us v y, s.coreRuns = true → s.hears false = true → parseRequest bytes maskEthernet = some q →
      q.legal = true → q.session = 0 → destHere s q.dest = true → q.largest s ≤ 1472 →
      q.flags &&& fGroup = 0 → q.ops = [o] → o.op = opRead → s.rop.queue = [] → PortQuiet s →
      ringTakes s s.rop.cmdDepth bytes = true → exec (.ropDatagram peer false bytes 0 us) s = .next v →
      v.rop.queue = [y] → inRing v y → ∃ t x u, exec (.ropDatagram peer false bytes 1 us) s = .next t
        ∧ u = serving v y us ∧ u.rop = { s.rop with
              rxDatagrams := s.rop.rxDatagrams + 1, serviceUs := (us :: s.rop.serviceUs).take 64 }
        ∧ x = (readAt (.sessionless false) o.index o.element o.ty u).2
        ∧ t.rop.queue = [] ∧ t.rop.rxDatagrams = s.rop.rxDatagrams + 1 ∧ t.ch = s.ch
        ∧ t.emit = .datagram peer.ip peer.port
            (ropHeader 0x80 0 q.seq q.dest q.timeout 1 x.code 0 ++ responseRecord o x) :: s.emit) ∧
  (∀ s peer bytes rest, s.coreRuns = true → s.rop.discovery = (peer, bytes) :: rest → parseRequest bytes maskEthernet = none →
      exec .broadcastReply s = .next { s with rop := { s.rop with discovery := rest } }) ∧
  (∀ s peer bytes rest q, s.coreRuns = true → s.macLives = true → s.eth.ip ≠ 0 →
      s.rop.discovery = (peer, bytes) :: rest → parseRequest bytes maskEthernet = some q →
      1472 < q.largest { s with rop := { s.rop with discovery := rest } } →
      ∃ t, exec .broadcastReply s = .next t ∧ t.rop.discovery = rest ∧ t.emit = .datagram peer.ip peer.port
        (ropHeader 0x80 q.session q.seq q.dest q.timeout 0 eRange 0) :: s.emit ∧ t.ch = s.ch) ∧
  (∀ s peer bytes rest q o, s.coreRuns = true → s.macLives = true → s.eth.ip ≠ 0 →
      s.rop.discovery = (peer, bytes) :: rest → parseRequest bytes maskEthernet = some q → q.session = 0 →
      q.flags &&& fGroup = 0 → q.ops = [o] → o.op = opRead →
      q.largest { s with rop := { s.rop with discovery := rest } } ≤ 1472 →
      let x := (readAt (.sessionless false) o.index o.element o.ty { s with rop := { s.rop with discovery := rest } }).2
      ∃ t, exec .broadcastReply s = .next t ∧ t.rop.discovery = rest ∧ t.emit = .datagram peer.ip peer.port
        (ropHeader 0x80 0 q.seq q.dest q.timeout 1 x.code 0 ++ responseRecord o x) :: s.emit ∧ t.ch = s.ch ∧ t.eth = s.eth) ∧
  (∀ s sid seq f, s.macLives = true → s.eth.ip ≠ 0 →
      (s.rop.forwarded.find? fun f => f.session == sid && f.seq == seq) = some f → ∃ t,
      exec (.transactionTimeout sid seq) s = .next t ∧ t.rop.forwarded = s.rop.forwarded.erase f
        ∧ t.rop.timeouts = s.rop.timeouts + 1 ∧ t.emit = .datagram f.peer.ip f.peer.port
            (ropHeader 0x80 f.session f.seq f.dest f.timeout 0 eTimeout 0) :: s.emit ∧ t.ch = s.ch) ∧
  (∀ s sid seq y q, s.macLives = true → s.eth.ip ≠ 0 →
      (s.rop.forwarded.find? fun f => f.session == sid && f.seq == seq) = none →
      (s.rop.queue.find? fun y => y.tag.isNone && w16At y.bytes 4 == sid && w16At y.bytes 6 == seq) = some y →
      parseRequest y.bytes maskTunnel = some q → ∃ t,
      exec (.transactionTimeout sid seq) s = .next t ∧ t.rop.queue = s.rop.queue.erase y
        ∧ t.rop.timeouts = s.rop.timeouts + 1 ∧ t.emit = .datagram y.peer.ip y.peer.port
            (ropHeader 0x80 q.session q.seq q.dest q.timeout 0 eTimeout 0) :: s.emit ∧ t.ch = s.ch) ∧
  (∀ s sid seq, (s.rop.forwarded.find? fun f => f.session == sid && f.seq == seq) = none →
      (s.rop.queue.find? fun y => y.tag.isNone && w16At y.bytes 4 == sid && w16At y.bytes 6 == seq) = none →
      exec (.transactionTimeout sid seq) s = .next s) ∧
  (∀ s r rest, s.coreRuns = true → s.events.fifo = r :: rest → ∃ t, exec .eventDatagramSend s = .next t
      ∧ t.events = { s.events with fifo := rest } ∧ t.ch = s.ch
      ∧ ∀ i, (t.session i).eventSeq = (s.session i).eventSeq
          + (if (s.session i).id ≠ 0 ∧ (s.session i).rel.eventSubscribe.getLsbD r.line.val = true then 1 else 0)) ∧
  (∀ s r rest i, s.coreRuns = true → s.macLives = true → s.eth.ip ≠ 0 → s.events.fifo = r :: rest → (s.session i).id ≠ 0 →
      (s.session i).rel.eventSubscribe.getLsbD r.line.val = true → (s.session i).entry = ownEntry →
      (∀ j, j ≠ i → (s.session j).id = 0) → ∃ t, exec .eventDatagramSend s = .next t
        ∧ t.emit = .datagram (s.session i).ip (s.session i).port
            (ropHeader 0x40 (s.session i).id (s.session i).eventSeq s.srcId 0 0 0 0 ++ r.bytes) :: s.emit)

/-- R135 to R137, R139, R142, Table 3.7: the link, the address from DHCP or from the settings, its lease, the ARP
cache and the echo.
R143: the MAC's frames and its management bus. -/
def Obligations.EthernetAndMacCommands : Prop :=
  ((∀ s a b, s.coreRuns = true → s.eth.dhcpEn = true → ∃ t, exec (.linkUp a b) s = .next t ∧ t.eth.linkUp = true
      ∧ t.eth.linkSpeed = (if a then 2 else 1) ∧ t.eth.linkFull = b ∧ t.eth.ip = 0 ∧ t.eth.leaseEnd = 0
      ∧ t.eth.dhcp = .discovering 1 ∧ t.emit = (if s.macLives then .dhcp .discover :: s.emit else s.emit) ∧ t.ch = s.ch) ∧
  (∀ s a b, s.coreRuns = true → s.eth.dhcpEn = false → ∃ t, exec (.linkUp a b) s = .next t ∧ t.eth.linkUp = true
      ∧ t.eth.ip = s.eth.staticIp ∧ t.eth.mask = s.eth.staticMask ∧ t.eth.router = s.eth.staticGw ∧ t.eth.dhcp = .idle
      ∧ t.ch = s.ch) ∧
  (∀ s, exec .ethernetLinkLoss s = .next { s with eth := { s.eth with linkUp := false, linkSpeed := 0 } }) ∧
  (∀ s k, s.coreRuns = true → s.eth.linkUp = true → s.eth.dhcp = .discovering k → exec .dhcpRetransmit s =
      .next { s with eth := { s.eth with dhcp := .discovering (k + 1) },
                       emit := if s.macLives then .dhcp .discover :: s.emit else s.emit }) ∧
  (∀ s ip mask router k, s.coreRuns = true → s.macReady = true → s.eth.linkUp = true → s.eth.dhcp.asks = true →
      ∃ t, exec (.dhcpReply ip mask router k) s = .next t ∧ t.eth = { s.eth with
        ip := ip, mask := mask, router := router, dhcp := .bound, leaseEnd := s.now + secs k } ∧ t.ch = s.ch) ∧
  (∀ s, s.coreRuns = true → s.eth.dhcp = .bound → exec .dhcpRenew s =
      .next { s with eth := { s.eth with dhcp := .renewing },
                       emit := if s.macLives then .dhcp .renew :: s.emit else s.emit }) ∧
  (∀ s, s.coreRuns = true → s.eth.dhcp = .bound ∨ s.eth.dhcp = .renewing → exec .dhcpRebind s =
      .next { s with eth := { s.eth with dhcp := .rebinding },
                       emit := if s.macLives then .dhcp .rebind :: s.emit else s.emit }) ∧
  (∀ s, s.coreRuns = true → s.eth.dhcp = .bound ∨ s.eth.dhcp = .renewing ∨ s.eth.dhcp = .rebinding → exec .leaseExpire s = .next { s with eth := { s.eth with
      ip := 0, mask := 0, router := 0, leaseEnd := 0, dhcp := .discovering 0 } }) ∧
  (∀ s sender mac, s.coreRuns = true → s.macLives = true → s.eth.ip ≠ 0 → ∃ t, exec (.arpRequest s.eth.ip sender mac) s = .next t
      ∧ t.eth.arp.head? = some ⟨sender, mac⟩ ∧ t.eth.arp.length ≤ 16
      ∧ t.emit = .arp true s.eth.ip sender s.eth.macAddr :: s.emit ∧ t.ch = s.ch) ∧
  (∀ s ip, exec (.arpAge ip) s = .next { s with eth := { s.eth with arp := s.eth.arp.filter fun x => x.ip != ip } }) ∧
  (∀ s src payload, s.coreRuns = true → s.macLives = true → s.eth.ip ≠ 0 → s.eth.icmpSent < 100 → exec (.icmpEcho src s.eth.ip payload) s =
      .next { s with eth := { s.eth with icmpSent := s.eth.icmpSent + 1 }, emit := .icmp src payload :: s.emit }) ∧
  (∀ s src payload, s.coreRuns = true → s.macLives = true → s.eth.ip ≠ 0 → 100 ≤ s.eth.icmpSent →
      exec (.icmpEcho src s.eth.ip payload) s = .next { s with eth := { s.eth with rxDropped := s.eth.rxDropped.inc } })) ∧
  ((∀ s bytes, s.macReady = true → s.eth.rxEn = true → exec (.macFrameRx bytes false) s =
      .next { s with eth := { s.eth with rxFcsErr := s.eth.rxFcsErr.inc } }) ∧
  (∀ s bytes, s.macReady = true → s.eth.rxEn = true → s.eth.admits bytes = false → exec (.macFrameRx bytes true) s =
      .next { s with eth := { s.eth with rxDropped := s.eth.rxDropped.inc } }) ∧
  (∀ s bytes, s.macReady = true → s.eth.rxEn = true → s.eth.admits bytes = true → ∃ t,
      exec (.macFrameRx bytes true) s = .next t ∧ t.eth.rxFrames = s.eth.rxFrames.inc
        ∧ t.eth.rxFcsErr = s.eth.rxFcsErr ∧ t.ch = s.ch) ∧
  (∀ s bytes good, s.eth.rxEn = false → exec (.macFrameRx bytes good) s = .next s) ∧
  (∀ s r x rest, s.txOn = true → s.badger.testActive = false → s.hamper.ring s.eth.txRing = some r → r.consumer = roleMacTx → r.headGap = 0 →
      r.recs = x :: rest → x.mark = false → x.bad = false → headBundle r.recs = [x] → ∃ t r', exec .macFrameTx s = .next t
        ∧ t.eth = { s.eth with txFrames := s.eth.txFrames.inc } ∧ t.hamper.ring r.num = some r' ∧ r'.recs = rest
        ∧ t.emit.length = s.emit.length + 1 ∧ t.ch = s.ch) ∧
  (∀ s w, s.eth.mdio.go = false → exec (.mdioGo w) s = .next { s with eth := { s.eth with mdio :=
      { data := w.extractLsb' 0 16, reg := w.extractLsb' 16 5, phy := w.extractLsb' 21 5, read := w.getLsbD 26,
        go := w.getLsbD 27 } } }) ∧
  (∀ s d, s.eth.mdio.go = true → exec (.mdioComplete d) s = .next { s with eth := { s.eth with mdio := { s.eth.mdio with
      go := false, data := if s.eth.mdio.read then d else s.eth.mdio.data } } }) ∧
  (∀ s, s.clk.rmiiEn = true → s.eth.refOut = true → s.clk.refPresent = true → exec .rmiiPllLock s =
      .next { s with clk := { s.clk with rmiiLock := true } }))


/-! ### The TSF mailbox (chapter 4) -/

/-- R150 to R154: what the mailbox's commands leave in its result and in its staged group. -/
def Obligations.MailboxCommands : Prop :=
  (∀ s, s.trust.mbx.staged.length < 32 → s.trust.mbx.request = none → ∃ t, exec .mbxStage s = .next t
      ∧ t.trust.mbx.resultCode = eRange ∧ t.trust.mbx.staged = s.trust.mbx.staged ∧ t = { s with trust := t.trust }) ∧
  (∀ s g, s.trust.mbx.staged.length < 32 → s.trust.mbx.request = some g →
      (s.trust.mbx.staged.map (·.data.length)).sum + g.data.length ≤ 2048 →
      formCode (s.modMbx fun m => { m with cmd := 2, long := [] }) g = eOk → ∃ t, exec .mbxStage s = .next t
        ∧ t.trust.mbx.resultCode = eOk ∧ t.trust.mbx.staged = s.trust.mbx.staged ++ [g] ∧ t = { s with trust := t.trust }) ∧
  (∀ s g o, s.trust.mbx.request = some g → objAt g.index.toNat g.element.toNat = .ok o →
      ¬ o.Admits g.req g.ty g.data (s.modMbx fun m => { m with cmd := 1, long := [] }) → ∃ t, exec .mbxWrite s = .next t
        ∧ t.trust.mbx.resultCode ≠ eOk ∧ t.dev = s.dev ∧ t.eng = s.eng ∧ t.clk = s.clk ∧ t.hamper = s.hamper) ∧
  (∀ s i, freeSession s = some i → s.trust.mbx.sessArg = 0 → ∃ t, exec .sessCmdOpen s = .next t
      ∧ t.trust.mbx.sessCode = eOk ∧ t.trust.mbx.sessNew = (t.session i).id
      ∧ (t.session i).timeoutMs = s.rop.sessionTimeoutDefault ∧ ∀ j, j ≠ i → t.session j = s.session j) ∧
  (∀ s, freeSession s = none → s.trust.mbx.sessArg = 0 → ∃ t, exec .sessCmdOpen s = .next t
      ∧ t.trust.mbx.sessCode = eBusy ∧ t = { s with trust := t.trust }) ∧
  (∀ s (sid : W16), sid ≠ 0 → slotOf s sid = none →
      (∃ t, exec (.sessCmdTouch sid) s = .next t ∧ t.trust.mbx.sessCode = eStaleEpoch ∧ t = { s with trust := t.trust }) ∧
      (∃ t, exec (.sessCmdClose sid) s = .next t ∧ t.trust.mbx.sessCode = eStaleEpoch ∧ t = { s with trust := t.trust })) ∧
  (∀ s, s.trust.mbx.request = none → ∃ t, exec .mbxWrite s = .next t ∧ t.trust.mbx.resultCode = eRange
      ∧ t.trust.mbx.long = [] ∧ t = { s with trust := t.trust }) ∧
  (∀ s g c, s.trust.mbx.request = some g → objAt g.index.toNat g.element.toNat = .error c → ∃ t, exec .mbxWrite s = .next t
      ∧ t.trust.mbx.resultCode = c ∧ t.trust.mbx.long = [] ∧ t = { s with trust := t.trust }) ∧
  (∀ s r, s.trust.mbx.request = some ⟨r, 0x2000, 0x01, tU8, [0x00]⟩ → r.path = .mbx →
      (objMode 0).Admits r tU8 [0x00] (s.modMbx fun m => { m with cmd := 1, long := [] }) → (s.chan 0).already 0 = true →
      ∃ t, exec .mbxWrite s = .next t ∧ t.trust.mbx.resultCode = eOk ∧ t.ch = s.ch) ∧
  (∀ s g o, s.trust.mbx.request = some g → objAt g.index.toNat g.element.toNat = .ok o →
      let u := s.modMbx fun m => { m with cmd := 1, long := [] }
      let w : W := ⟨g.req, g.data, u, u, u⟩
      let v := (o.put w u).instructorCommand g.req.path (o.after w)
      o.Admits g.req g.ty g.data u → ∃ t, exec .mbxWrite s = .next t ∧ t = { v with
        answer := t.answer,
        trust := { v.trust with mbx := { v.trust.mbx with
          resultCode := o.after w, resultPos := 0, resultEpoch := t.trust.mbx.resultEpoch } } }) ∧
  (∀ s, 32 ≤ s.trust.mbx.staged.length → ∃ t, exec .mbxStage s = .next t ∧ t.trust.mbx.resultCode = eGroup
      ∧ t.trust.mbx.staged = s.trust.mbx.staged ∧ t = { s with trust := t.trust }) ∧
  (∀ s g, s.trust.mbx.staged = [] → s.trust.mbx.request = some g → g.data.length ≤ 2048 →
      formCode (s.modMbx fun m => { m with cmd := 2, long := [] }) g = eOk → ∃ t, exec .mbxStage s = .next t
        ∧ t.trust.mbx.resultCode = eOk ∧ t.trust.mbx.staged = [g] ∧ t = { s with trust := t.trust }) ∧
  (∀ s, s.trust.mbx.staged = [] → ∃ t, exec .mbxCommit s = .next t ∧ t.trust.mbx.resultCode = eGroup
      ∧ t = { s with trust := t.trust }) ∧
  (∀ s g gs, s.trust.mbx.staged = g :: gs → ∃ t, exec .mbxCommit s = .next t ∧ (t.trust.mbx.staged = [])
      ∧ t.ch = (runGroup (g :: gs) (s.modMbx fun m => { m with cmd := 3, staged := [] })).1.ch
      ∧ t = { (runGroup (g :: gs) (s.modMbx fun m => { m with cmd := 3, staged := [] })).1 with trust := t.trust }) ∧
  (∀ s, ∃ t, exec .mbxAbort s = .next t ∧ t.trust.mbx.staged = [] ∧ t.trust.mbx.long = []
      ∧ t.trust.mbx.resultCode = eOk ∧ t = { s with trust := t.trust }) ∧
  (∀ s, s.trust.mbx.length ≤ 64 → s.trust.mbx.long.length + s.trust.mbx.length ≤ 1024 → ∃ t, exec .mbxAppend s = .next t
      ∧ t.trust.mbx.resultCode = eOk ∧ t.trust.mbx.long = s.trust.mbx.long ++ s.trust.mbx.bytes.take s.trust.mbx.length
      ∧ t.trust.mbx.staged = s.trust.mbx.staged ∧ t = { s with trust := t.trust }) ∧
  (∀ s, 64 < s.trust.mbx.length → ∃ t, exec .mbxAppend s = .next t ∧ t.trust.mbx.resultCode = eRange
      ∧ t.trust.mbx.long = s.trust.mbx.long ∧ t = { s with trust := t.trust }) ∧
  (∀ s i, freeSession s = some i → 100 ≤ s.trust.mbx.sessArg.toNat → s.trust.mbx.sessArg.toNat ≤ 60000 →
      ∃ t, exec .sessCmdOpen s = .next t ∧ t.trust.mbx.sessCode = eOk ∧ t.trust.mbx.sessNew = (t.session i).id
        ∧ (t.session i).timeoutMs = s.trust.mbx.sessArg.toNat ∧ ∀ j, j ≠ i → t.session j = s.session j) ∧
  (∀ s sid i, slotOf s sid = some i → ∃ t, exec (.sessCmdTouch sid) s = .next t ∧ t.trust.mbx.sessCode = eOk
      ∧ t.session i = { s.session i with deadline := s.now + msec (s.session i).timeoutMs }) ∧
  (∀ s sid i, slotOf s sid = some i → ∃ t, exec (.sessCmdClose sid) s = .next t ∧ t.trust.mbx.sessCode = eOk
      ∧ t.session i = {} ∧ ∀ j, j ≠ i → t.session j = s.session j)


/-! ### The whole block -/

/-- The model's queue: a step with a command at the front is the command's execution on the state with the queue's rest (a
block takes commands from outside one after the other; log entry 2). -/
def Obligations.FrontCommandRuns : Prop :=
  (∀ (s : State) c rest, s.pending = c :: rest → step s = exec c { s with pending := rest }) ∧
  (∀ (s : State) c, step { s with pending := c :: s.pending } = exec c s)

/-- R14, R65, R157, R175, R201, R218, R475: what reset leaves of what the specification gives a value for. -/
def Obligations.ResetState : Prop :=
  State.reset.dev.state = .reset ∧ State.reset.dev.resetCount.value = 1 ∧ State.reset.dev.lastHalt = 0
    ∧ State.reset.clk.tbc = 0 ∧ State.reset.clk.rate = 0 ∧ State.reset.clk.pllLock = false
    ∧ (∀ n, (State.reset.chan n).mode.mode = .off ∧ (State.reset.chan n).lock.kind = .none
        ∧ (State.reset.chan n).lock.state = .free ∧ (State.reset.chan n).lock.epoch = 0)
    ∧ (∀ e, (State.reset.engine e).nActive = 400) ∧ State.reset.trust.instr.state = .locked
    ∧ State.reset.badger.queue = [] ∧ State.reset.badger.slots = [] ∧ State.reset.events.fifo = []
    ∧ State.reset.hamper.rings = [] ∧ State.reset.pending = []

/-- R97 to R99, Table 3.3: a request command is the write of its object: it is admitted by every check or answered
with the code of the first that fails, and then it changes nothing but what its object keeps of refused writes. -/
def Obligations.RequestsAreDictionaryWrites : Prop :=
  ∀ c w s, requestOf c = some w →
    (w.obj.Admits w.req w.ty w.data s → ∃ t, exec c s = .next t ∧ t.answer.code = w.obj.after ⟨w.req, w.data, s, s, s⟩
      ∧ t = { (w.obj.put ⟨w.req, w.data, s, s, s⟩ s).instructorCommand w.req.path t.answer.code with answer := t.answer }) ∧
    (¬ w.obj.Admits w.req w.ty w.data s → ∃ t, exec c s = .next t ∧ t.answer.code ≠ eOk ∧ RefusalKeeps s t
      ∧ t.answer.code = w.obj.verdict w.ty ⟨w.req, w.data, s, w.obj.put ⟨w.req, w.data, s, s, s⟩ s, s⟩)

/-- R97, R98, R109, R117, R183: who may write: nobody without a session or another name, nobody with an epoch that is not
the channel's, and nobody but the owner where the object belongs to a channel. The lock is judged as the write would leave it
(R109), which for every request command is as it stands. -/
def Obligations.OwnersAlone : Prop :=
  (∀ (o : Obj) r ty data s named, r.who = .sessionless named → ¬ o.Admits r ty data s) ∧
  (∀ (o : Obj) r ty data s n, o.scope ⟨r, data, s, o.put ⟨r, data, s, s, s⟩ s, s⟩ = .chan n →
      holds ((o.put ⟨r, data, s, s, s⟩ s).chan n).lock r.who = false → ¬ o.Admits r ty data s) ∧
  (∀ (o : Obj) r ty data s n, o.scope ⟨r, data, s, o.put ⟨r, data, s, s, s⟩ s, s⟩ = .chan n →
      r.epoch ≠ some ((o.put ⟨r, data, s, s, s⟩ s).chan n).lock.epoch → ¬ o.Admits r ty data s) ∧
  (∀ c w s n, requestOf c = some w → w.obj.scope ⟨w.req, w.data, s, w.obj.put ⟨w.req, w.data, s, s, s⟩ s, s⟩ = .chan n →
      holds (s.chan n).lock w.req.who = false ∨ w.req.epoch ≠ some (s.chan n).lock.epoch →
      ∃ t, exec c s = .next t ∧ t.answer.code ≠ eOk ∧ RefusalKeeps s t) ∧
  (∀ s r n v, holds (s.chan n).lock r.who = false ∨ r.epoch ≠ some (s.chan n).lock.epoch →
      ∃ t, exec (.release r n v) s = .next t ∧ t.answer.code ≠ eOk ∧ RefusalKeeps s t)

/-- R266, R267, R272, Table 7.5: control-law words written out from the specification's fields decode to their
instructions, and a word with an unlisted operation code, with a bit set in a field its instruction does not use, or
with a register operand that its field does not allow decodes to none. -/
def Obligations.LoopWords : Prop :=
  decodeLoop 0x00000000 = some .nop ∧ decodeLoop 0x080E3900 = some (.add 0x00 0x38 0x39) ∧
  decodeLoop 0x10205800 = some (.mul 0x02 0x01 0x18) ∧ decodeLoop 0x48805900 = some (.intg 0x08 0x01 0x19) ∧
  decodeLoop 0x4C101B01 = some (.bqd 0x01 0x00 0x1B 0x01) ∧ decodeLoop 0x53D00040 = some (.ldi 0x3D 0x40) ∧
  decodeLoop 0x74000003 = some (.jmp 0x03) ∧ decodeLoop 0x7C000000 = some .fin ∧ decodeLoop 0xF8000000 = some .tunt ∧
  decodeLoop 0x54000000 = none ∧ decodeLoop 0x00000001 = none ∧ decodeLoop 0x0B8E3900 = none

/-- R266, R267, R272, Table 7.5: every instruction whose fields are legal has one word, which decodes to it, and a
word that decodes to an instruction is that instruction's word. -/
def Obligations.LoopDecodeEncode : Prop :=
  (∀ i : LoopInstr, i.wf = true → decodeLoop (encodeLoop i) = some i) ∧
  (∀ w i, decodeLoop w = some i → encodeLoop i = w ∧ i.wf = true)

/-- The state after reset keeps what every step keeps. -/
def Obligations.InvariantHoldsAtReset : Prop :=
  WithinSizes State.reset

/-- R67, R135, R547, R592, R601: the trim stays within its limits, the FIFO, the history, the cache and the lines stay
within their sizes and the arbiters keep their requesters, whichever command comes and in whichever state that has
these properties. -/
def Obligations.EveryStepKeepsTheInvariant : Prop :=
  ∀ s t : State, WithinSizes s → step s = .next t → WithinSizes t

/-- R6, R156, R157: no command changes the identity of the device, a key slot once programmed keeps its hash, and one
once disabled stays disabled; and no command puts one into the queue or takes another than itself out of it. -/
def Obligations.EveryStepKeepsIdentityAndKeys : Prop :=
  ∀ s t : State, step s = .next t → t.ident = s.ident ∧ t.otp.uid = s.otp.uid ∧ t.pending = s.pending.tail ∧
    ∀ i (h : i < 4), ((s.otp.slots[i]).keyed = true → (t.otp.slots[i]).keyed = true ∧ (t.otp.slots[i]).hash = (s.otp.slots[i]).hash)
      ∧ ((s.otp.slots[i]).disabled = true → (t.otp.slots[i]).disabled = true)

/-- The frames of the commands: whatever a command does, it changes no part of the state but those that its row can reach
(R98: a write changes what its object names, and nothing else). -/
def Obligations.CommandsKeepTheirFrames : Prop :=
  ∀ c s t p, exec c s = .next t → p ∉ touchesOf c → p.kept s t


/-! ### Rules stated whole -/

/-- R183, R98, Table 3.3: CLAIM and RELEASE carry the epoch: without it, or with another, they are answered E_STALE_EPOCH and
change nothing but the answer. -/
def Obligations.ClaimAndReleaseCarryTheEpoch : Prop :=
  ∀ (s : State) r n, r.epoch ≠ some (s.chan n).lock.epoch →
    (∃ t, exec (.claim r n 1) s = .next t ∧ t.answer.code = eStaleEpoch ∧ t = { s with answer := t.answer }) ∧
    (∃ t, exec (.release r n 1) s = .next t ∧ t.answer.code = eStaleEpoch ∧ t = { s with answer := t.answer })

/-- R91: every request to the range 0xC000 to 0xFFFF is answered E_NO_OBJECT, by whichever path it comes, and changes nothing
but what holds the answer. -/
def Obligations.ApplicationRangeHoldsNoObject : Prop :=
  ∀ (s : State) (idx : W16) (el ty : Byte), 0xC000 ≤ idx.toNat →
    (∀ r, ∃ t, exec (.ropRead r idx el ty) s = .next t ∧ t.answer.code = eNoObject ∧ t = { s with answer := t.answer }) ∧
    (∀ r data, ∃ t, exec (.ropWrite r idx el ty data) s = .next t ∧ t.answer.code = eNoObject
        ∧ t = { s with answer := t.answer }) ∧
    (∀ r data, s.trust.mbx.request = some ⟨r, idx, el, ty, data⟩ →
        (∃ t, exec .mbxWrite s = .next t ∧ t.trust.mbx.resultCode = eNoObject ∧ t = { s with trust := t.trust }) ∧
        (s.trust.mbx.staged.length < 32 → ∃ t, exec .mbxStage s = .next t ∧ t.trust.mbx.resultCode = eNoObject
          ∧ t.trust.mbx.staged = s.trust.mbx.staged ∧ t = { s with trust := t.trust })) ∧
    (∀ hdr, s.toDo tRead (readFields idx el ty) = some hdr → ∃ t x, exec (.mgpRead idx el ty) s = .next t ∧ t.mgp.staged = some x
        ∧ x.rhdr = hdr ∧ x.code = eNoObject ∧ t = { s with mgp := t.mgp }) ∧
    (∀ hdr epoch data, s.toDo tWrite (writeFields idx el ty epoch data) = some hdr → ∃ t x, exec (.mgpWrite idx el ty epoch data) s = .next t
        ∧ t.mgp.staged = some x ∧ x.rhdr = hdr ∧ x.code = eNoObject ∧ t = { s with mgp := t.mgp })

/-- R593: BOOT is entered by its own command alone, and at each entry the TSF sends BOOT with the RESET_CAUSE of the last
RESET, so that the message is the first that Badger then classifies and marks the history. -/
def Obligations.EveryBootIsReported : Prop :=
  (∀ c s t, exec c s = .next t → s.dev.state ≠ .boot → t.dev.state = .boot → ∃ x, c = .bootEntry x) ∧
  (∀ s x, s.dev.state = .reset → s.power.aonHeld = false → s.power.good = 0x3F → s.badger.queue = [] →
    ∃ t m rest, exec (.bootEntry x) s = .next t ∧ t.dev.state = .boot ∧ t.badger.queue = m :: rest ∧ m.source = srcTsf
      ∧ m.kind = 0x00 ∧ m.base = .note ∧ m.detail = s.dev.resetCause.setWidth 24 ∧ nextMsg t.badger.queue = some m
      ∧ ∃ u, exec .badgerClassify t = .next u ∧ (u.badger.history.head?).map (·.msg) = some m)

/-- R74, R75: a write of any event counter loads the written value; with an event in the same cycle the counter holds the
written value plus one and COLLIDE is set, and 0 with WRAP set where the written value was the greatest; and a written
1 does not clear a bit of the counter's status whose cause arrives in the same cycle. -/
def Obligations.EventCountersTakeWrites : Prop :=
  (∀ s m addr r h (w : Word), WithinSizes s → busRegAt m addr = some r → r.barred m = false → r.counter = some h →
    (∃ t, exec (.counterWrite m addr w false) s = .next t ∧ h.get t = { h.get s with value := w }) ∧
    (∃ t, exec (.counterWrite m addr w true) s = .next t ∧ (h.get t).value = w + 1 ∧ (h.get t).collide = true
      ∧ (w = 0xFFFFFFFF → (h.get t).value = 0 ∧ (h.get t).wrap = true))) ∧
  (∀ s m addr r h (w : Word) wrapNow collideNow, WithinSizes s → busRegAt m addr = some r → r.status = some h →
    ∃ t, exec (.statusW1c m addr w wrapNow collideNow) s = .next t
      ∧ (wrapNow = true → (h.get t).wrap = true) ∧ (collideNow = true → (h.get t).collide = true))
end

