-- ==== Sys2Proof/Machine/Balls.lean ====
section
/-! DEFINITION. What the balls show (R25, R32, R33, R218, R219, Table 5.6): the level of each output group, read from the
state. No command changes a ball but through the state. -/

namespace Sys2Proof.Machine

/-- What an output ball shows. -/
inductive Level3 where
  | highZ | low | high
  deriving DecidableEq, Repr

/-- What DACn_OUT shows: high impedance, or a code (R219, Table 10.2). -/
inductive DacBall where
  | highZ
  | driven (code : Nat)
  deriving DecidableEq, Repr

/-- A level that the SG8 drives outside RESET (R218). -/
def mainBall (s : State) (high : Bool) : Level3 :=
  if s.dev.state == .reset then .highZ else if high then .high else .low

/-- PSTn_EN (R25). -/
def pstBall (s : State) (n : Ch) : Level3 := mainBall s (pstHigh s n)

/-- RNGn_k (R32, R33). -/
def legBall (s : State) (n : Ch) (k : Fin 4) : Level3 := mainBall s ((legsHigh s n).contains k.val)

/-- DACn_OUT (R386, R389). -/
def dacBall (s : State) (n : Ch) : DacBall :=
  if dacState s (s.chan n) == 0 then .highZ else .driven (s.chan n).presented

/-- TRIGOUTj: low outside RUN (R412). -/
def trigBall (s : State) (j : Fin 4) : Level3 := mainBall s (trigoutHigh s j)

/-- FAULT_n (R597). -/
def faultBall (s : State) : Level3 := mainBall s (!s.faultLow)

/-- ALERT (R598). -/
def alertBall (s : State) : Level3 := mainBall s s.alertHigh

/-- EVTx_n, an open drain: low or released (R600). -/
def evtBall (s : State) (x : Fin 4) : Level3 := if s.evtLow x then .low else .highZ

/-- A ball of a serial bus: high impedance, driven at a level, or carrying a transfer. -/
inductive BusBall where
  | highZ
  | idle (high : Bool)
  | active
  deriving DecidableEq, Repr

/-- FSCK, FSDO and FSS0 to FSS3 are driven: outside RESET, while the FSP is master (R218, R554). -/
def fspDriven (s : State) : Bool := s.dev.state != .reset && s.fsp.master == .master

/-- The select that the transfer in progress on the FSP asserts: that of the entry that runs, or FSS0 of a fill or of the TSF's
access. -/
def fspSelect (s : State) : Option (Fin 4) :=
  match s.fsp.entry with
  | some e => some e.sel
  | none => if s.xip.filling.isSome || s.bus.owner == some 0 then some 0 else none

/-- FSCK: between transfers the idle level of R533, which is low outside RUN. -/
def fsckBall (s : State) : BusBall :=
  if !fspDriven s then .highZ else if (fspSelect s).isSome then .active else .idle (s.running && s.fsp.sckHigh)

/-- FSDO: low while nothing is sent. -/
def fsdoBall (s : State) : BusBall :=
  if !fspDriven s then .highZ else if (fspSelect s).isSome then .active else .idle false

/-- FSSc: high while its select is not asserted. -/
def fssBall (s : State) (c : Fin 4) : BusBall :=
  if !fspDriven s then .highZ else if fspSelect s == some c then .active else .idle true

/-- TXEN and TXD of the RMII: low outside RUN and while the MAC is idle (R52). -/
def rmiiBall (s : State) : BusBall :=
  if s.dev.state == .reset then .highZ else if s.running && s.macReady then .active else .idle false

/-- The RMII reference output, where the SG8 supplies the reference: low while the RMII PLL is unlocked (R52). -/
def rmiiRefBall (s : State) : BusBall :=
  if s.dev.state == .reset || !s.eth.refOut then .highZ else if s.running && s.clk.rmiiLock then .active else .idle false

/-- MDC and MDIO: outside RUN, MDC is low and MDIO is not driven. -/
def mdcBall (s : State) : BusBall := if s.dev.state == .reset then .highZ else if s.running then .active else .idle false
def mdioBall (s : State) : BusBall := if s.running then .active else .highZ

/-- The transmitter of a Ronko port: active from VERIFY onward while LINKCLK runs, unless the port is disabled. -/
def ronkoBall (s : State) (p : Port) : BusBall := if s.linkOn && (s.port p).link != .disabled then .active else .highZ

/-- REFOUT is driven (R221). -/
def refoutDriven (s : State) : Bool := s.dev.refbufOn

/-- The crystal oscillator on XIN and XOUT runs: with REF_SEL at 0, outside an AON reset (R48, Table 16.4). -/
def crystalOn (s : State) : Bool := !s.power.aonHeld && !s.power.straps.getLsbD 0

/-- The input REFIN is in use: with REF_SEL at 1 (R48). -/
def refinOn (s : State) : Bool := !s.power.aonHeld && s.power.straps.getLsbD 0

/-- MDO is driven while MCS_n is low and the always-on domain runs (R218, Table 5.6). -/
def mdoDriven (s : State) : Bool := !s.power.aonHeld && s.mgp.inFrame

end Sys2Proof.Machine
end

