-- ==== Sys2Proof/Laws/Balls.lean ====
section
/-! SUPPORT. What the balls show in RESET. -/

namespace Sys2Proof.Machine

/-- A main-domain output is high impedance in RESET, all of them (R218). -/
theorem balls_reset {s : State} (h : s.dev.state = .reset) (n : Ch) (k j : Fin 4) :
    pstBall s n = .highZ ∧ legBall s n k = .highZ ∧ trigBall s j = .highZ ∧ faultBall s = .highZ ∧ alertBall s = .highZ
      ∧ dacBall s n = .highZ := by
  simp [pstBall, legBall, trigBall, faultBall, alertBall, dacBall, mainBall, dacState, h]

end Sys2Proof.Machine
end

