-- ==== Sys2Proof/Laws/State.lean ====
section
/-! SUPPORT. Frames: which parts of the state an operation leaves alone, once for each operation (the updates of one part of the state). -/

namespace Sys2Proof.Machine

/-! ### Choices and repetitions -/

@[simp] theorem ite_otp (c : Prop) [Decidable c] (a b : State) : (if c then a else b).otp = if c then a.otp else b.otp := by
  split <;> rfl

@[simp] theorem ite_ident (c : Prop) [Decidable c] (a b : State) : (if c then a else b).ident = if c then a.ident else b.ident := by
  split <;> rfl

@[simp] theorem ite_power (c : Prop) [Decidable c] (a b : State) : (if c then a else b).power = if c then a.power else b.power := by
  split <;> rfl

@[simp] theorem ite_dev (c : Prop) [Decidable c] (a b : State) : (if c then a else b).dev = if c then a.dev else b.dev := by
  split <;> rfl

@[simp] theorem ite_clk (c : Prop) [Decidable c] (a b : State) : (if c then a else b).clk = if c then a.clk else b.clk := by
  split <;> rfl

@[simp] theorem ite_eng (c : Prop) [Decidable c] (a b : State) : (if c then a else b).eng = if c then a.eng else b.eng := by
  split <;> rfl

@[simp] theorem ite_ch (c : Prop) [Decidable c] (a b : State) : (if c then a else b).ch = if c then a.ch else b.ch := by
  split <;> rfl

@[simp] theorem ite_trust (c : Prop) [Decidable c] (a b : State) : (if c then a else b).trust = if c then a.trust else b.trust := by
  split <;> rfl

@[simp] theorem ite_lockoutRec (c : Prop) [Decidable c] (a b : State) : (if c then a else b).lockoutRec = if c then a.lockoutRec else b.lockoutRec := by
  split <;> rfl

@[simp] theorem ite_rop (c : Prop) [Decidable c] (a b : State) : (if c then a else b).rop = if c then a.rop else b.rop := by
  split <;> rfl

@[simp] theorem ite_eth (c : Prop) [Decidable c] (a b : State) : (if c then a else b).eth = if c then a.eth else b.eth := by
  split <;> rfl

@[simp] theorem ite_badger (c : Prop) [Decidable c] (a b : State) : (if c then a else b).badger = if c then a.badger else b.badger := by
  split <;> rfl

@[simp] theorem ite_events (c : Prop) [Decidable c] (a b : State) : (if c then a else b).events = if c then a.events else b.events := by
  split <;> rfl

@[simp] theorem ite_hamper (c : Prop) [Decidable c] (a b : State) : (if c then a else b).hamper = if c then a.hamper else b.hamper := by
  split <;> rfl

@[simp] theorem ite_pool (c : Prop) [Decidable c] (a b : State) : (if c then a else b).pool = if c then a.pool else b.pool := by
  split <;> rfl

@[simp] theorem ite_link (c : Prop) [Decidable c] (a b : State) : (if c then a else b).link = if c then a.link else b.link := by
  split <;> rfl

@[simp] theorem ite_bus (c : Prop) [Decidable c] (a b : State) : (if c then a else b).bus = if c then a.bus else b.bus := by
  split <;> rfl

@[simp] theorem ite_aux (c : Prop) [Decidable c] (a b : State) : (if c then a else b).aux = if c then a.aux else b.aux := by
  split <;> rfl

@[simp] theorem ite_refMon (c : Prop) [Decidable c] (a b : State) : (if c then a else b).refMon = if c then a.refMon else b.refMon := by
  split <;> rfl

@[simp] theorem ite_trig (c : Prop) [Decidable c] (a b : State) : (if c then a else b).trig = if c then a.trig else b.trig := by
  split <;> rfl

@[simp] theorem ite_ronko (c : Prop) [Decidable c] (a b : State) : (if c then a else b).ronko = if c then a.ronko else b.ronko := by
  split <;> rfl

@[simp] theorem ite_fsp (c : Prop) [Decidable c] (a b : State) : (if c then a else b).fsp = if c then a.fsp else b.fsp := by
  split <;> rfl

@[simp] theorem ite_xip (c : Prop) [Decidable c] (a b : State) : (if c then a else b).xip = if c then a.xip else b.xip := by
  split <;> rfl

@[simp] theorem ite_mgp (c : Prop) [Decidable c] (a b : State) : (if c then a else b).mgp = if c then a.mgp else b.mgp := by
  split <;> rfl

@[simp] theorem ite_now (c : Prop) [Decidable c] (a b : State) : (if c then a else b).now = if c then a.now else b.now := by
  split <;> rfl

@[simp] theorem ite_answer (c : Prop) [Decidable c] (a b : State) : (if c then a else b).answer = if c then a.answer else b.answer := by
  split <;> rfl

@[simp] theorem ite_emit (c : Prop) [Decidable c] (a b : State) : (if c then a else b).emit = if c then a.emit else b.emit := by
  split <;> rfl

@[simp] theorem ite_free (c : Prop) [Decidable c] (a b : State) : (if c then a else b).free = if c then a.free else b.free := by
  split <;> rfl

@[simp] theorem ite_pending (c : Prop) [Decidable c] (a b : State) : (if c then a else b).pending = if c then a.pending else b.pending := by
  split <;> rfl

@[simp] theorem ite_fst {β : Type} (c : Prop) [Decidable c] (a b : State × β) :
    (if c then a else b).1 = if c then a.1 else b.1 := by
  split <;> rfl

/-- A part that each round of a repetition leaves alone is left alone by the whole. -/
theorem forEach_keeps {α β : Type} (P : State → β) (l : List α) (f : State → α → State)
    (h : ∀ s a, P (f s a) = P s) (s : State) : P (forEach l s f) = P s := by
  unfold forEach
  induction l generalizing s with
  | nil => rfl
  | cons a l ih => simp [ih, h]

@[simp] theorem forEach_otp {α : Type} (l : List α) (f : State → α → State) (h : ∀ s a, (f s a).otp = s.otp)
    (s : State) : (forEach l s f).otp = s.otp := forEach_keeps (·.otp) l f h s

@[simp] theorem forEach_ident {α : Type} (l : List α) (f : State → α → State) (h : ∀ s a, (f s a).ident = s.ident)
    (s : State) : (forEach l s f).ident = s.ident := forEach_keeps (·.ident) l f h s

@[simp] theorem forEach_power {α : Type} (l : List α) (f : State → α → State) (h : ∀ s a, (f s a).power = s.power)
    (s : State) : (forEach l s f).power = s.power := forEach_keeps (·.power) l f h s

@[simp] theorem forEach_dev {α : Type} (l : List α) (f : State → α → State) (h : ∀ s a, (f s a).dev = s.dev)
    (s : State) : (forEach l s f).dev = s.dev := forEach_keeps (·.dev) l f h s

@[simp] theorem forEach_clk {α : Type} (l : List α) (f : State → α → State) (h : ∀ s a, (f s a).clk = s.clk)
    (s : State) : (forEach l s f).clk = s.clk := forEach_keeps (·.clk) l f h s

@[simp] theorem forEach_eng {α : Type} (l : List α) (f : State → α → State) (h : ∀ s a, (f s a).eng = s.eng)
    (s : State) : (forEach l s f).eng = s.eng := forEach_keeps (·.eng) l f h s

@[simp] theorem forEach_ch {α : Type} (l : List α) (f : State → α → State) (h : ∀ s a, (f s a).ch = s.ch)
    (s : State) : (forEach l s f).ch = s.ch := forEach_keeps (·.ch) l f h s

@[simp] theorem forEach_trust {α : Type} (l : List α) (f : State → α → State) (h : ∀ s a, (f s a).trust = s.trust)
    (s : State) : (forEach l s f).trust = s.trust := forEach_keeps (·.trust) l f h s

@[simp] theorem forEach_lockoutRec {α : Type} (l : List α) (f : State → α → State) (h : ∀ s a, (f s a).lockoutRec = s.lockoutRec)
    (s : State) : (forEach l s f).lockoutRec = s.lockoutRec := forEach_keeps (·.lockoutRec) l f h s

@[simp] theorem forEach_rop {α : Type} (l : List α) (f : State → α → State) (h : ∀ s a, (f s a).rop = s.rop)
    (s : State) : (forEach l s f).rop = s.rop := forEach_keeps (·.rop) l f h s

@[simp] theorem forEach_eth {α : Type} (l : List α) (f : State → α → State) (h : ∀ s a, (f s a).eth = s.eth)
    (s : State) : (forEach l s f).eth = s.eth := forEach_keeps (·.eth) l f h s

@[simp] theorem forEach_badger {α : Type} (l : List α) (f : State → α → State) (h : ∀ s a, (f s a).badger = s.badger)
    (s : State) : (forEach l s f).badger = s.badger := forEach_keeps (·.badger) l f h s

@[simp] theorem forEach_events {α : Type} (l : List α) (f : State → α → State) (h : ∀ s a, (f s a).events = s.events)
    (s : State) : (forEach l s f).events = s.events := forEach_keeps (·.events) l f h s

@[simp] theorem forEach_hamper {α : Type} (l : List α) (f : State → α → State) (h : ∀ s a, (f s a).hamper = s.hamper)
    (s : State) : (forEach l s f).hamper = s.hamper := forEach_keeps (·.hamper) l f h s

@[simp] theorem forEach_pool {α : Type} (l : List α) (f : State → α → State) (h : ∀ s a, (f s a).pool = s.pool)
    (s : State) : (forEach l s f).pool = s.pool := forEach_keeps (·.pool) l f h s

@[simp] theorem forEach_link {α : Type} (l : List α) (f : State → α → State) (h : ∀ s a, (f s a).link = s.link)
    (s : State) : (forEach l s f).link = s.link := forEach_keeps (·.link) l f h s

@[simp] theorem forEach_bus {α : Type} (l : List α) (f : State → α → State) (h : ∀ s a, (f s a).bus = s.bus)
    (s : State) : (forEach l s f).bus = s.bus := forEach_keeps (·.bus) l f h s

@[simp] theorem forEach_aux {α : Type} (l : List α) (f : State → α → State) (h : ∀ s a, (f s a).aux = s.aux)
    (s : State) : (forEach l s f).aux = s.aux := forEach_keeps (·.aux) l f h s

@[simp] theorem forEach_refMon {α : Type} (l : List α) (f : State → α → State) (h : ∀ s a, (f s a).refMon = s.refMon)
    (s : State) : (forEach l s f).refMon = s.refMon := forEach_keeps (·.refMon) l f h s

@[simp] theorem forEach_trig {α : Type} (l : List α) (f : State → α → State) (h : ∀ s a, (f s a).trig = s.trig)
    (s : State) : (forEach l s f).trig = s.trig := forEach_keeps (·.trig) l f h s

@[simp] theorem forEach_ronko {α : Type} (l : List α) (f : State → α → State) (h : ∀ s a, (f s a).ronko = s.ronko)
    (s : State) : (forEach l s f).ronko = s.ronko := forEach_keeps (·.ronko) l f h s

@[simp] theorem forEach_fsp {α : Type} (l : List α) (f : State → α → State) (h : ∀ s a, (f s a).fsp = s.fsp)
    (s : State) : (forEach l s f).fsp = s.fsp := forEach_keeps (·.fsp) l f h s

@[simp] theorem forEach_xip {α : Type} (l : List α) (f : State → α → State) (h : ∀ s a, (f s a).xip = s.xip)
    (s : State) : (forEach l s f).xip = s.xip := forEach_keeps (·.xip) l f h s

@[simp] theorem forEach_mgp {α : Type} (l : List α) (f : State → α → State) (h : ∀ s a, (f s a).mgp = s.mgp)
    (s : State) : (forEach l s f).mgp = s.mgp := forEach_keeps (·.mgp) l f h s

@[simp] theorem forEach_now {α : Type} (l : List α) (f : State → α → State) (h : ∀ s a, (f s a).now = s.now)
    (s : State) : (forEach l s f).now = s.now := forEach_keeps (·.now) l f h s

@[simp] theorem forEach_answer {α : Type} (l : List α) (f : State → α → State) (h : ∀ s a, (f s a).answer = s.answer)
    (s : State) : (forEach l s f).answer = s.answer := forEach_keeps (·.answer) l f h s

@[simp] theorem forEach_emit {α : Type} (l : List α) (f : State → α → State) (h : ∀ s a, (f s a).emit = s.emit)
    (s : State) : (forEach l s f).emit = s.emit := forEach_keeps (·.emit) l f h s

@[simp] theorem forEach_free {α : Type} (l : List α) (f : State → α → State) (h : ∀ s a, (f s a).free = s.free)
    (s : State) : (forEach l s f).free = s.free := forEach_keeps (·.free) l f h s

@[simp] theorem forEach_pending {α : Type} (l : List α) (f : State → α → State) (h : ∀ s a, (f s a).pending = s.pending)
    (s : State) : (forEach l s f).pending = s.pending := forEach_keeps (·.pending) l f h s

/-! ### What an update of one part leaves alone -/

@[simp] theorem State.modCh_frame (s : State) (n : Ch) (f : Channel → Channel) : (State.modCh s n f).otp = s.otp ∧
    (State.modCh s n f).ident = s.ident ∧ (State.modCh s n f).power = s.power ∧ (State.modCh s n f).dev = s.dev ∧
    (State.modCh s n f).clk = s.clk ∧ (State.modCh s n f).eng = s.eng ∧ (State.modCh s n f).trust = s.trust ∧
    (State.modCh s n f).lockoutRec = s.lockoutRec ∧ (State.modCh s n f).rop = s.rop ∧ (State.modCh s n f).eth = s.eth
    ∧ (State.modCh s n f).badger = s.badger ∧ (State.modCh s n f).events = s.events ∧ (State.modCh s n f).hamper =
    s.hamper ∧ (State.modCh s n f).pool = s.pool ∧ (State.modCh s n f).link = s.link ∧ (State.modCh s n f).bus = s.bus
    ∧ (State.modCh s n f).aux = s.aux ∧ (State.modCh s n f).refMon = s.refMon ∧ (State.modCh s n f).trig = s.trig ∧
    (State.modCh s n f).ronko = s.ronko ∧ (State.modCh s n f).fsp = s.fsp ∧ (State.modCh s n f).xip = s.xip ∧
    (State.modCh s n f).mgp = s.mgp ∧ (State.modCh s n f).now = s.now ∧ (State.modCh s n f).answer = s.answer ∧
    (State.modCh s n f).emit = s.emit ∧ (State.modCh s n f).free = s.free ∧ (State.modCh s n f).pending = s.pending :=
    ⟨rfl, rfl, rfl, rfl, rfl, rfl, rfl, rfl, rfl, rfl, rfl, rfl, rfl, rfl, rfl, rfl, rfl, rfl, rfl, rfl, rfl, rfl, rfl,
    rfl, rfl, rfl, rfl, rfl⟩

@[simp] theorem State.modAllCh_frame (s : State) (f : Ch → Channel → Channel) : (State.modAllCh s f).otp = s.otp ∧
    (State.modAllCh s f).ident = s.ident ∧ (State.modAllCh s f).power = s.power ∧ (State.modAllCh s f).dev = s.dev ∧
    (State.modAllCh s f).clk = s.clk ∧ (State.modAllCh s f).eng = s.eng ∧ (State.modAllCh s f).trust = s.trust ∧
    (State.modAllCh s f).lockoutRec = s.lockoutRec ∧ (State.modAllCh s f).rop = s.rop ∧ (State.modAllCh s f).eth =
    s.eth ∧ (State.modAllCh s f).badger = s.badger ∧ (State.modAllCh s f).events = s.events ∧ (State.modAllCh s
    f).hamper = s.hamper ∧ (State.modAllCh s f).pool = s.pool ∧ (State.modAllCh s f).link = s.link ∧ (State.modAllCh s
    f).bus = s.bus ∧ (State.modAllCh s f).aux = s.aux ∧ (State.modAllCh s f).refMon = s.refMon ∧ (State.modAllCh s
    f).trig = s.trig ∧ (State.modAllCh s f).ronko = s.ronko ∧ (State.modAllCh s f).fsp = s.fsp ∧ (State.modAllCh s
    f).xip = s.xip ∧ (State.modAllCh s f).mgp = s.mgp ∧ (State.modAllCh s f).now = s.now ∧ (State.modAllCh s f).answer
    = s.answer ∧ (State.modAllCh s f).emit = s.emit ∧ (State.modAllCh s f).free = s.free ∧ (State.modAllCh s
    f).pending = s.pending :=
    ⟨rfl, rfl, rfl, rfl, rfl, rfl, rfl, rfl, rfl, rfl, rfl, rfl, rfl, rfl, rfl, rfl, rfl, rfl, rfl, rfl, rfl, rfl, rfl,
    rfl, rfl, rfl, rfl, rfl⟩

@[simp] theorem State.modEng_frame (s : State) (e : Eng) (f : Engine → Engine) : (State.modEng s e f).otp = s.otp ∧
    (State.modEng s e f).ident = s.ident ∧ (State.modEng s e f).power = s.power ∧ (State.modEng s e f).dev = s.dev ∧
    (State.modEng s e f).clk = s.clk ∧ (State.modEng s e f).ch = s.ch ∧ (State.modEng s e f).trust = s.trust ∧
    (State.modEng s e f).lockoutRec = s.lockoutRec ∧ (State.modEng s e f).rop = s.rop ∧ (State.modEng s e f).eth =
    s.eth ∧ (State.modEng s e f).badger = s.badger ∧ (State.modEng s e f).events = s.events ∧ (State.modEng s e
    f).hamper = s.hamper ∧ (State.modEng s e f).pool = s.pool ∧ (State.modEng s e f).link = s.link ∧ (State.modEng s e
    f).bus = s.bus ∧ (State.modEng s e f).aux = s.aux ∧ (State.modEng s e f).refMon = s.refMon ∧ (State.modEng s e
    f).trig = s.trig ∧ (State.modEng s e f).ronko = s.ronko ∧ (State.modEng s e f).fsp = s.fsp ∧ (State.modEng s e
    f).xip = s.xip ∧ (State.modEng s e f).mgp = s.mgp ∧ (State.modEng s e f).now = s.now ∧ (State.modEng s e f).answer
    = s.answer ∧ (State.modEng s e f).emit = s.emit ∧ (State.modEng s e f).free = s.free ∧ (State.modEng s e
    f).pending = s.pending :=
    ⟨rfl, rfl, rfl, rfl, rfl, rfl, rfl, rfl, rfl, rfl, rfl, rfl, rfl, rfl, rfl, rfl, rfl, rfl, rfl, rfl, rfl, rfl, rfl,
    rfl, rfl, rfl, rfl, rfl⟩

@[simp] theorem State.modPort_frame (s : State) (p : Port) (f : PortSt → PortSt) : (State.modPort s p f).otp = s.otp ∧
    (State.modPort s p f).ident = s.ident ∧ (State.modPort s p f).power = s.power ∧ (State.modPort s p f).dev = s.dev
    ∧ (State.modPort s p f).clk = s.clk ∧ (State.modPort s p f).eng = s.eng ∧ (State.modPort s p f).ch = s.ch ∧
    (State.modPort s p f).trust = s.trust ∧ (State.modPort s p f).lockoutRec = s.lockoutRec ∧ (State.modPort s p
    f).rop = s.rop ∧ (State.modPort s p f).eth = s.eth ∧ (State.modPort s p f).badger = s.badger ∧ (State.modPort s p
    f).events = s.events ∧ (State.modPort s p f).hamper = s.hamper ∧ (State.modPort s p f).pool = s.pool ∧
    (State.modPort s p f).link = s.link ∧ (State.modPort s p f).bus = s.bus ∧ (State.modPort s p f).aux = s.aux ∧
    (State.modPort s p f).refMon = s.refMon ∧ (State.modPort s p f).trig = s.trig ∧ (State.modPort s p f).fsp = s.fsp
    ∧ (State.modPort s p f).xip = s.xip ∧ (State.modPort s p f).mgp = s.mgp ∧ (State.modPort s p f).now = s.now ∧
    (State.modPort s p f).answer = s.answer ∧ (State.modPort s p f).emit = s.emit ∧ (State.modPort s p f).free =
    s.free ∧ (State.modPort s p f).pending = s.pending :=
    ⟨rfl, rfl, rfl, rfl, rfl, rfl, rfl, rfl, rfl, rfl, rfl, rfl, rfl, rfl, rfl, rfl, rfl, rfl, rfl, rfl, rfl, rfl, rfl,
    rfl, rfl, rfl, rfl, rfl⟩

@[simp] theorem State.modSession_frame (s : State) (i : Fin 8) (f : Session → Session) : (State.modSession s i f).otp
    = s.otp ∧ (State.modSession s i f).ident = s.ident ∧ (State.modSession s i f).power = s.power ∧ (State.modSession
    s i f).dev = s.dev ∧ (State.modSession s i f).clk = s.clk ∧ (State.modSession s i f).eng = s.eng ∧
    (State.modSession s i f).ch = s.ch ∧ (State.modSession s i f).trust = s.trust ∧ (State.modSession s i
    f).lockoutRec = s.lockoutRec ∧ (State.modSession s i f).eth = s.eth ∧ (State.modSession s i f).badger = s.badger ∧
    (State.modSession s i f).events = s.events ∧ (State.modSession s i f).hamper = s.hamper ∧ (State.modSession s i
    f).pool = s.pool ∧ (State.modSession s i f).link = s.link ∧ (State.modSession s i f).bus = s.bus ∧
    (State.modSession s i f).aux = s.aux ∧ (State.modSession s i f).refMon = s.refMon ∧ (State.modSession s i f).trig
    = s.trig ∧ (State.modSession s i f).ronko = s.ronko ∧ (State.modSession s i f).fsp = s.fsp ∧ (State.modSession s i
    f).xip = s.xip ∧ (State.modSession s i f).mgp = s.mgp ∧ (State.modSession s i f).now = s.now ∧ (State.modSession s
    i f).answer = s.answer ∧ (State.modSession s i f).emit = s.emit ∧ (State.modSession s i f).free = s.free ∧
    (State.modSession s i f).pending = s.pending :=
    ⟨rfl, rfl, rfl, rfl, rfl, rfl, rfl, rfl, rfl, rfl, rfl, rfl, rfl, rfl, rfl, rfl, rfl, rfl, rfl, rfl, rfl, rfl, rfl,
    rfl, rfl, rfl, rfl, rfl⟩

@[simp] theorem State.used_frame (s : State) : (State.used s).otp = s.otp ∧ (State.used s).ident = s.ident ∧
    (State.used s).power = s.power ∧ (State.used s).dev = s.dev ∧ (State.used s).clk = s.clk ∧ (State.used s).eng =
    s.eng ∧ (State.used s).ch = s.ch ∧ (State.used s).trust = s.trust ∧ (State.used s).lockoutRec = s.lockoutRec ∧
    (State.used s).rop = s.rop ∧ (State.used s).eth = s.eth ∧ (State.used s).badger = s.badger ∧ (State.used s).events
    = s.events ∧ (State.used s).hamper = s.hamper ∧ (State.used s).pool = s.pool ∧ (State.used s).link = s.link ∧
    (State.used s).bus = s.bus ∧ (State.used s).aux = s.aux ∧ (State.used s).refMon = s.refMon ∧ (State.used s).trig =
    s.trig ∧ (State.used s).ronko = s.ronko ∧ (State.used s).fsp = s.fsp ∧ (State.used s).xip = s.xip ∧ (State.used
    s).mgp = s.mgp ∧ (State.used s).now = s.now ∧ (State.used s).answer = s.answer ∧ (State.used s).emit = s.emit ∧
    (State.used s).pending = s.pending :=
    ⟨rfl, rfl, rfl, rfl, rfl, rfl, rfl, rfl, rfl, rfl, rfl, rfl, rfl, rfl, rfl, rfl, rfl, rfl, rfl, rfl, rfl, rfl, rfl,
    rfl, rfl, rfl, rfl, rfl⟩

@[simp] theorem State.send_frame (s : State) (e : Emission) : (State.send s e).otp = s.otp ∧ (State.send s e).ident =
    s.ident ∧ (State.send s e).power = s.power ∧ (State.send s e).dev = s.dev ∧ (State.send s e).clk = s.clk ∧
    (State.send s e).eng = s.eng ∧ (State.send s e).ch = s.ch ∧ (State.send s e).trust = s.trust ∧ (State.send s
    e).lockoutRec = s.lockoutRec ∧ (State.send s e).rop = s.rop ∧ (State.send s e).eth = s.eth ∧ (State.send s
    e).badger = s.badger ∧ (State.send s e).events = s.events ∧ (State.send s e).hamper = s.hamper ∧ (State.send s
    e).pool = s.pool ∧ (State.send s e).link = s.link ∧ (State.send s e).bus = s.bus ∧ (State.send s e).aux = s.aux ∧
    (State.send s e).refMon = s.refMon ∧ (State.send s e).trig = s.trig ∧ (State.send s e).ronko = s.ronko ∧
    (State.send s e).fsp = s.fsp ∧ (State.send s e).xip = s.xip ∧ (State.send s e).mgp = s.mgp ∧ (State.send s e).now
    = s.now ∧ (State.send s e).answer = s.answer ∧ (State.send s e).free = s.free ∧ (State.send s e).pending =
    s.pending :=
    ⟨rfl, rfl, rfl, rfl, rfl, rfl, rfl, rfl, rfl, rfl, rfl, rfl, rfl, rfl, rfl, rfl, rfl, rfl, rfl, rfl, rfl, rfl, rfl,
    rfl, rfl, rfl, rfl, rfl⟩

@[simp] theorem State.sendEth_frame (s : State) (e : Emission) : (State.sendEth s e).otp = s.otp ∧ (State.sendEth s
    e).ident = s.ident ∧ (State.sendEth s e).power = s.power ∧ (State.sendEth s e).dev = s.dev ∧ (State.sendEth s
    e).clk = s.clk ∧ (State.sendEth s e).eng = s.eng ∧ (State.sendEth s e).ch = s.ch ∧ (State.sendEth s e).trust =
    s.trust ∧ (State.sendEth s e).lockoutRec = s.lockoutRec ∧ (State.sendEth s e).rop = s.rop ∧ (State.sendEth s
    e).eth = s.eth ∧ (State.sendEth s e).badger = s.badger ∧ (State.sendEth s e).events = s.events ∧ (State.sendEth s
    e).hamper = s.hamper ∧ (State.sendEth s e).pool = s.pool ∧ (State.sendEth s e).link = s.link ∧ (State.sendEth s
    e).bus = s.bus ∧ (State.sendEth s e).aux = s.aux ∧ (State.sendEth s e).refMon = s.refMon ∧ (State.sendEth s
    e).trig = s.trig ∧ (State.sendEth s e).ronko = s.ronko ∧ (State.sendEth s e).fsp = s.fsp ∧ (State.sendEth s e).xip
    = s.xip ∧ (State.sendEth s e).mgp = s.mgp ∧ (State.sendEth s e).now = s.now ∧ (State.sendEth s e).answer =
    s.answer ∧ (State.sendEth s e).free = s.free ∧ (State.sendEth s e).pending = s.pending := by simp [State.sendEth]

@[simp] theorem State.sendUdp_frame (s : State) (ip : Word) (port : W16) (bytes : List Byte) : (State.sendUdp s ip
    port bytes).otp = s.otp ∧ (State.sendUdp s ip port bytes).ident = s.ident ∧ (State.sendUdp s ip port bytes).power
    = s.power ∧ (State.sendUdp s ip port bytes).dev = s.dev ∧ (State.sendUdp s ip port bytes).clk = s.clk ∧
    (State.sendUdp s ip port bytes).eng = s.eng ∧ (State.sendUdp s ip port bytes).ch = s.ch ∧ (State.sendUdp s ip port
    bytes).trust = s.trust ∧ (State.sendUdp s ip port bytes).lockoutRec = s.lockoutRec ∧ (State.sendUdp s ip port
    bytes).rop = s.rop ∧ (State.sendUdp s ip port bytes).eth = s.eth ∧ (State.sendUdp s ip port bytes).badger =
    s.badger ∧ (State.sendUdp s ip port bytes).events = s.events ∧ (State.sendUdp s ip port bytes).hamper = s.hamper ∧
    (State.sendUdp s ip port bytes).pool = s.pool ∧ (State.sendUdp s ip port bytes).link = s.link ∧ (State.sendUdp s
    ip port bytes).bus = s.bus ∧ (State.sendUdp s ip port bytes).aux = s.aux ∧ (State.sendUdp s ip port bytes).refMon
    = s.refMon ∧ (State.sendUdp s ip port bytes).trig = s.trig ∧ (State.sendUdp s ip port bytes).ronko = s.ronko ∧
    (State.sendUdp s ip port bytes).fsp = s.fsp ∧ (State.sendUdp s ip port bytes).xip = s.xip ∧ (State.sendUdp s ip
    port bytes).mgp = s.mgp ∧ (State.sendUdp s ip port bytes).now = s.now ∧ (State.sendUdp s ip port bytes).answer =
    s.answer ∧ (State.sendUdp s ip port bytes).free = s.free ∧ (State.sendUdp s ip port bytes).pending = s.pending := by simp [State.sendUdp]

@[simp] theorem State.setCh_frame (s : State) (n : Ch) (f : Channel → Channel) : (State.setCh s n f).otp = s.otp ∧
    (State.setCh s n f).ident = s.ident ∧ (State.setCh s n f).power = s.power ∧ (State.setCh s n f).dev = s.dev ∧
    (State.setCh s n f).clk = s.clk ∧ (State.setCh s n f).eng = s.eng ∧ (State.setCh s n f).trust = s.trust ∧
    (State.setCh s n f).lockoutRec = s.lockoutRec ∧ (State.setCh s n f).rop = s.rop ∧ (State.setCh s n f).eth = s.eth
    ∧ (State.setCh s n f).badger = s.badger ∧ (State.setCh s n f).events = s.events ∧ (State.setCh s n f).hamper =
    s.hamper ∧ (State.setCh s n f).pool = s.pool ∧ (State.setCh s n f).link = s.link ∧ (State.setCh s n f).bus = s.bus
    ∧ (State.setCh s n f).aux = s.aux ∧ (State.setCh s n f).refMon = s.refMon ∧ (State.setCh s n f).trig = s.trig ∧
    (State.setCh s n f).ronko = s.ronko ∧ (State.setCh s n f).fsp = s.fsp ∧ (State.setCh s n f).xip = s.xip ∧
    (State.setCh s n f).mgp = s.mgp ∧ (State.setCh s n f).now = s.now ∧ (State.setCh s n f).answer = s.answer ∧
    (State.setCh s n f).emit = s.emit ∧ (State.setCh s n f).free = s.free ∧ (State.setCh s n f).pending = s.pending :=
    ⟨rfl, rfl, rfl, rfl, rfl, rfl, rfl, rfl, rfl, rfl, rfl, rfl, rfl, rfl, rfl, rfl, rfl, rfl, rfl, rfl, rfl, rfl, rfl,
    rfl, rfl, rfl, rfl, rfl⟩

end Sys2Proof.Machine
end

