-- ==== Sys2Proof/Laws/FrameRings.lean ====
section
/-! SUPPORT. Frames: which parts of the state an operation leaves alone, once for each operation (requests, messages, events and rings). -/

namespace Sys2Proof.Machine

/-! ### Credit -/

@[simp] theorem State.modArb_frame (s : State) (res : Resource) (f : Arb → Arb) : (State.modArb s res f).otp = s.otp ∧
    (State.modArb s res f).ident = s.ident ∧ (State.modArb s res f).power = s.power ∧ (State.modArb s res f).dev =
    s.dev ∧ (State.modArb s res f).clk = s.clk ∧ (State.modArb s res f).eng = s.eng ∧ (State.modArb s res f).ch = s.ch
    ∧ (State.modArb s res f).trust = s.trust ∧ (State.modArb s res f).lockoutRec = s.lockoutRec ∧ (State.modArb s res
    f).rop = s.rop ∧ (State.modArb s res f).eth = s.eth ∧ (State.modArb s res f).badger = s.badger ∧ (State.modArb s
    res f).events = s.events ∧ (State.modArb s res f).hamper = s.hamper ∧ (State.modArb s res f).aux = s.aux ∧
    (State.modArb s res f).refMon = s.refMon ∧ (State.modArb s res f).trig = s.trig ∧ (State.modArb s res f).ronko =
    s.ronko ∧ (State.modArb s res f).fsp = s.fsp ∧ (State.modArb s res f).xip = s.xip ∧ (State.modArb s res f).mgp =
    s.mgp ∧ (State.modArb s res f).now = s.now ∧ (State.modArb s res f).answer = s.answer ∧ (State.modArb s res
    f).emit = s.emit ∧ (State.modArb s res f).free = s.free ∧ (State.modArb s res f).pending = s.pending := by unfold State.modArb; split <;> simp

@[simp] theorem State.endGrant_frame (s : State) (res : Resource) (atEnd : List Nat) : (State.endGrant s res
    atEnd).otp = s.otp ∧ (State.endGrant s res atEnd).ident = s.ident ∧ (State.endGrant s res atEnd).power = s.power ∧
    (State.endGrant s res atEnd).dev = s.dev ∧ (State.endGrant s res atEnd).clk = s.clk ∧ (State.endGrant s res
    atEnd).eng = s.eng ∧ (State.endGrant s res atEnd).ch = s.ch ∧ (State.endGrant s res atEnd).trust = s.trust ∧
    (State.endGrant s res atEnd).lockoutRec = s.lockoutRec ∧ (State.endGrant s res atEnd).rop = s.rop ∧
    (State.endGrant s res atEnd).eth = s.eth ∧ (State.endGrant s res atEnd).badger = s.badger ∧ (State.endGrant s res
    atEnd).events = s.events ∧ (State.endGrant s res atEnd).hamper = s.hamper ∧ (State.endGrant s res atEnd).aux =
    s.aux ∧ (State.endGrant s res atEnd).refMon = s.refMon ∧ (State.endGrant s res atEnd).trig = s.trig ∧
    (State.endGrant s res atEnd).ronko = s.ronko ∧ (State.endGrant s res atEnd).fsp = s.fsp ∧ (State.endGrant s res
    atEnd).xip = s.xip ∧ (State.endGrant s res atEnd).mgp = s.mgp ∧ (State.endGrant s res atEnd).now = s.now ∧
    (State.endGrant s res atEnd).answer = s.answer ∧ (State.endGrant s res atEnd).emit = s.emit ∧ (State.endGrant s
    res atEnd).pending = s.pending := by simp [State.endGrant]

/-! ### Check -/

@[simp] theorem State.modRelative_frame (s : State) (who : Requester) (f : Relative → Relative) : (State.modRelative s
    who f).otp = s.otp ∧ (State.modRelative s who f).ident = s.ident ∧ (State.modRelative s who f).power = s.power ∧
    (State.modRelative s who f).dev = s.dev ∧ (State.modRelative s who f).clk = s.clk ∧ (State.modRelative s who
    f).eng = s.eng ∧ (State.modRelative s who f).ch = s.ch ∧ (State.modRelative s who f).trust = s.trust ∧
    (State.modRelative s who f).lockoutRec = s.lockoutRec ∧ (State.modRelative s who f).eth = s.eth ∧
    (State.modRelative s who f).badger = s.badger ∧ (State.modRelative s who f).events = s.events ∧ (State.modRelative
    s who f).hamper = s.hamper ∧ (State.modRelative s who f).pool = s.pool ∧ (State.modRelative s who f).link = s.link
    ∧ (State.modRelative s who f).bus = s.bus ∧ (State.modRelative s who f).aux = s.aux ∧ (State.modRelative s who
    f).refMon = s.refMon ∧ (State.modRelative s who f).trig = s.trig ∧ (State.modRelative s who f).ronko = s.ronko ∧
    (State.modRelative s who f).fsp = s.fsp ∧ (State.modRelative s who f).xip = s.xip ∧ (State.modRelative s who
    f).mgp = s.mgp ∧ (State.modRelative s who f).now = s.now ∧ (State.modRelative s who f).answer = s.answer ∧
    (State.modRelative s who f).emit = s.emit ∧ (State.modRelative s who f).free = s.free ∧ (State.modRelative s who
    f).pending = s.pending := by unfold State.modRelative; split <;> simp

@[simp] theorem State.reply_frame (s : State) (code ty : Byte) (epoch : W16) (data : List Byte) : (State.reply s code
    ty epoch data).otp = s.otp ∧ (State.reply s code ty epoch data).ident = s.ident ∧ (State.reply s code ty epoch
    data).power = s.power ∧ (State.reply s code ty epoch data).dev = s.dev ∧ (State.reply s code ty epoch data).clk =
    s.clk ∧ (State.reply s code ty epoch data).eng = s.eng ∧ (State.reply s code ty epoch data).ch = s.ch ∧
    (State.reply s code ty epoch data).trust = s.trust ∧ (State.reply s code ty epoch data).lockoutRec = s.lockoutRec
    ∧ (State.reply s code ty epoch data).rop = s.rop ∧ (State.reply s code ty epoch data).eth = s.eth ∧ (State.reply s
    code ty epoch data).badger = s.badger ∧ (State.reply s code ty epoch data).events = s.events ∧ (State.reply s code
    ty epoch data).hamper = s.hamper ∧ (State.reply s code ty epoch data).pool = s.pool ∧ (State.reply s code ty epoch
    data).link = s.link ∧ (State.reply s code ty epoch data).bus = s.bus ∧ (State.reply s code ty epoch data).aux =
    s.aux ∧ (State.reply s code ty epoch data).refMon = s.refMon ∧ (State.reply s code ty epoch data).trig = s.trig ∧
    (State.reply s code ty epoch data).ronko = s.ronko ∧ (State.reply s code ty epoch data).fsp = s.fsp ∧ (State.reply
    s code ty epoch data).xip = s.xip ∧ (State.reply s code ty epoch data).mgp = s.mgp ∧ (State.reply s code ty epoch
    data).now = s.now ∧ (State.reply s code ty epoch data).emit = s.emit ∧ (State.reply s code ty epoch data).free =
    s.free ∧ (State.reply s code ty epoch data).pending = s.pending :=
    ⟨rfl, rfl, rfl, rfl, rfl, rfl, rfl, rfl, rfl, rfl, rfl, rfl, rfl, rfl, rfl, rfl, rfl, rfl, rfl, rfl, rfl, rfl, rfl,
    rfl, rfl, rfl, rfl, rfl⟩

@[simp] theorem State.instructorCommand_frame (s : State) (p : Path) (code : Byte) : (State.instructorCommand s p
    code).otp = s.otp ∧ (State.instructorCommand s p code).ident = s.ident ∧ (State.instructorCommand s p code).power
    = s.power ∧ (State.instructorCommand s p code).dev = s.dev ∧ (State.instructorCommand s p code).clk = s.clk ∧
    (State.instructorCommand s p code).eng = s.eng ∧ (State.instructorCommand s p code).ch = s.ch ∧
    (State.instructorCommand s p code).lockoutRec = s.lockoutRec ∧ (State.instructorCommand s p code).rop = s.rop ∧
    (State.instructorCommand s p code).eth = s.eth ∧ (State.instructorCommand s p code).badger = s.badger ∧
    (State.instructorCommand s p code).events = s.events ∧ (State.instructorCommand s p code).hamper = s.hamper ∧
    (State.instructorCommand s p code).pool = s.pool ∧ (State.instructorCommand s p code).link = s.link ∧
    (State.instructorCommand s p code).bus = s.bus ∧ (State.instructorCommand s p code).aux = s.aux ∧
    (State.instructorCommand s p code).refMon = s.refMon ∧ (State.instructorCommand s p code).trig = s.trig ∧
    (State.instructorCommand s p code).ronko = s.ronko ∧ (State.instructorCommand s p code).fsp = s.fsp ∧
    (State.instructorCommand s p code).xip = s.xip ∧ (State.instructorCommand s p code).mgp = s.mgp ∧
    (State.instructorCommand s p code).now = s.now ∧ (State.instructorCommand s p code).answer = s.answer ∧
    (State.instructorCommand s p code).emit = s.emit ∧ (State.instructorCommand s p code).free = s.free ∧
    (State.instructorCommand s p code).pending = s.pending := by simp [State.instructorCommand]

@[simp] theorem State.countBusy_frame (s : State) (p : Path) (code : Byte) : (State.countBusy s p code).otp = s.otp ∧
    (State.countBusy s p code).ident = s.ident ∧ (State.countBusy s p code).power = s.power ∧ (State.countBusy s p
    code).dev = s.dev ∧ (State.countBusy s p code).clk = s.clk ∧ (State.countBusy s p code).eng = s.eng ∧
    (State.countBusy s p code).ch = s.ch ∧ (State.countBusy s p code).trust = s.trust ∧ (State.countBusy s p
    code).lockoutRec = s.lockoutRec ∧ (State.countBusy s p code).eth = s.eth ∧ (State.countBusy s p code).badger =
    s.badger ∧ (State.countBusy s p code).events = s.events ∧ (State.countBusy s p code).hamper = s.hamper ∧
    (State.countBusy s p code).pool = s.pool ∧ (State.countBusy s p code).link = s.link ∧ (State.countBusy s p
    code).bus = s.bus ∧ (State.countBusy s p code).aux = s.aux ∧ (State.countBusy s p code).refMon = s.refMon ∧
    (State.countBusy s p code).trig = s.trig ∧ (State.countBusy s p code).ronko = s.ronko ∧ (State.countBusy s p
    code).fsp = s.fsp ∧ (State.countBusy s p code).xip = s.xip ∧ (State.countBusy s p code).mgp = s.mgp ∧
    (State.countBusy s p code).now = s.now ∧ (State.countBusy s p code).answer = s.answer ∧ (State.countBusy s p
    code).emit = s.emit ∧ (State.countBusy s p code).free = s.free ∧ (State.countBusy s p code).pending = s.pending := by simp [State.countBusy]

/-! ### Events -/

@[simp] theorem sendFull_frame (s : State) (src : BitVec 6) (kind : Byte) (base : Level) (detail : BitVec 24) (forced
    : Bool) : (sendFull s src kind base detail forced).otp = s.otp ∧ (sendFull s src kind base detail forced).ident =
    s.ident ∧ (sendFull s src kind base detail forced).power = s.power ∧ (sendFull s src kind base detail forced).dev
    = s.dev ∧ (sendFull s src kind base detail forced).clk = s.clk ∧ (sendFull s src kind base detail forced).eng =
    s.eng ∧ (sendFull s src kind base detail forced).ch = s.ch ∧ (sendFull s src kind base detail forced).trust =
    s.trust ∧ (sendFull s src kind base detail forced).lockoutRec = s.lockoutRec ∧ (sendFull s src kind base detail
    forced).rop = s.rop ∧ (sendFull s src kind base detail forced).eth = s.eth ∧ (sendFull s src kind base detail
    forced).events = s.events ∧ (sendFull s src kind base detail forced).hamper = s.hamper ∧ (sendFull s src kind base
    detail forced).pool = s.pool ∧ (sendFull s src kind base detail forced).link = s.link ∧ (sendFull s src kind base
    detail forced).bus = s.bus ∧ (sendFull s src kind base detail forced).aux = s.aux ∧ (sendFull s src kind base
    detail forced).refMon = s.refMon ∧ (sendFull s src kind base detail forced).trig = s.trig ∧ (sendFull s src kind
    base detail forced).ronko = s.ronko ∧ (sendFull s src kind base detail forced).fsp = s.fsp ∧ (sendFull s src kind
    base detail forced).xip = s.xip ∧ (sendFull s src kind base detail forced).mgp = s.mgp ∧ (sendFull s src kind base
    detail forced).now = s.now ∧ (sendFull s src kind base detail forced).answer = s.answer ∧ (sendFull s src kind
    base detail forced).emit = s.emit ∧ (sendFull s src kind base detail forced).free = s.free ∧ (sendFull s src kind
    base detail forced).pending = s.pending := by simp [sendFull]

@[simp] theorem sendMsg_frame (s : State) (src : BitVec 6) (kind : Byte) (base : Level) (detail : Nat) : (sendMsg s
    src kind base detail).otp = s.otp ∧ (sendMsg s src kind base detail).ident = s.ident ∧ (sendMsg s src kind base
    detail).power = s.power ∧ (sendMsg s src kind base detail).dev = s.dev ∧ (sendMsg s src kind base detail).clk =
    s.clk ∧ (sendMsg s src kind base detail).eng = s.eng ∧ (sendMsg s src kind base detail).ch = s.ch ∧ (sendMsg s src
    kind base detail).trust = s.trust ∧ (sendMsg s src kind base detail).lockoutRec = s.lockoutRec ∧ (sendMsg s src
    kind base detail).rop = s.rop ∧ (sendMsg s src kind base detail).eth = s.eth ∧ (sendMsg s src kind base
    detail).events = s.events ∧ (sendMsg s src kind base detail).hamper = s.hamper ∧ (sendMsg s src kind base
    detail).pool = s.pool ∧ (sendMsg s src kind base detail).link = s.link ∧ (sendMsg s src kind base detail).bus =
    s.bus ∧ (sendMsg s src kind base detail).aux = s.aux ∧ (sendMsg s src kind base detail).refMon = s.refMon ∧
    (sendMsg s src kind base detail).trig = s.trig ∧ (sendMsg s src kind base detail).ronko = s.ronko ∧ (sendMsg s src
    kind base detail).fsp = s.fsp ∧ (sendMsg s src kind base detail).xip = s.xip ∧ (sendMsg s src kind base
    detail).mgp = s.mgp ∧ (sendMsg s src kind base detail).now = s.now ∧ (sendMsg s src kind base detail).answer =
    s.answer ∧ (sendMsg s src kind base detail).emit = s.emit ∧ (sendMsg s src kind base detail).free = s.free ∧
    (sendMsg s src kind base detail).pending = s.pending := by simp [sendMsg]

@[simp] theorem raiseWith_frame (s : State) (line : Fin 4) (cause : Nat) (detail : Nat) (message : W64) : (raiseWith s
    line cause detail message).otp = s.otp ∧ (raiseWith s line cause detail message).ident = s.ident ∧ (raiseWith s
    line cause detail message).power = s.power ∧ (raiseWith s line cause detail message).dev = s.dev ∧ (raiseWith s
    line cause detail message).clk = s.clk ∧ (raiseWith s line cause detail message).eng = s.eng ∧ (raiseWith s line
    cause detail message).ch = s.ch ∧ (raiseWith s line cause detail message).trust = s.trust ∧ (raiseWith s line
    cause detail message).lockoutRec = s.lockoutRec ∧ (raiseWith s line cause detail message).rop = s.rop ∧ (raiseWith
    s line cause detail message).eth = s.eth ∧ (raiseWith s line cause detail message).badger = s.badger ∧ (raiseWith
    s line cause detail message).hamper = s.hamper ∧ (raiseWith s line cause detail message).pool = s.pool ∧
    (raiseWith s line cause detail message).link = s.link ∧ (raiseWith s line cause detail message).bus = s.bus ∧
    (raiseWith s line cause detail message).aux = s.aux ∧ (raiseWith s line cause detail message).refMon = s.refMon ∧
    (raiseWith s line cause detail message).trig = s.trig ∧ (raiseWith s line cause detail message).ronko = s.ronko ∧
    (raiseWith s line cause detail message).fsp = s.fsp ∧ (raiseWith s line cause detail message).xip = s.xip ∧
    (raiseWith s line cause detail message).mgp = s.mgp ∧ (raiseWith s line cause detail message).now = s.now ∧
    (raiseWith s line cause detail message).answer = s.answer ∧ (raiseWith s line cause detail message).emit = s.emit
    ∧ (raiseWith s line cause detail message).free = s.free ∧ (raiseWith s line cause detail message).pending =
    s.pending := by simp [raiseWith]

@[simp] theorem raiseEvent_frame (s : State) (line : Fin 4) (cause : Nat) (detail : Nat) : (raiseEvent s line cause
    detail).otp = s.otp ∧ (raiseEvent s line cause detail).ident = s.ident ∧ (raiseEvent s line cause detail).power =
    s.power ∧ (raiseEvent s line cause detail).dev = s.dev ∧ (raiseEvent s line cause detail).clk = s.clk ∧
    (raiseEvent s line cause detail).eng = s.eng ∧ (raiseEvent s line cause detail).ch = s.ch ∧ (raiseEvent s line
    cause detail).trust = s.trust ∧ (raiseEvent s line cause detail).lockoutRec = s.lockoutRec ∧ (raiseEvent s line
    cause detail).rop = s.rop ∧ (raiseEvent s line cause detail).eth = s.eth ∧ (raiseEvent s line cause detail).badger
    = s.badger ∧ (raiseEvent s line cause detail).hamper = s.hamper ∧ (raiseEvent s line cause detail).pool = s.pool ∧
    (raiseEvent s line cause detail).link = s.link ∧ (raiseEvent s line cause detail).bus = s.bus ∧ (raiseEvent s line
    cause detail).aux = s.aux ∧ (raiseEvent s line cause detail).refMon = s.refMon ∧ (raiseEvent s line cause
    detail).trig = s.trig ∧ (raiseEvent s line cause detail).ronko = s.ronko ∧ (raiseEvent s line cause detail).fsp =
    s.fsp ∧ (raiseEvent s line cause detail).xip = s.xip ∧ (raiseEvent s line cause detail).mgp = s.mgp ∧ (raiseEvent
    s line cause detail).now = s.now ∧ (raiseEvent s line cause detail).answer = s.answer ∧ (raiseEvent s line cause
    detail).emit = s.emit ∧ (raiseEvent s line cause detail).free = s.free ∧ (raiseEvent s line cause detail).pending
    = s.pending := by simp [raiseEvent]

/-! ### Rings -/

@[simp] theorem State.setRing_frame (s : State) (r : Ring) : (State.setRing s r).otp = s.otp ∧ (State.setRing s
    r).ident = s.ident ∧ (State.setRing s r).power = s.power ∧ (State.setRing s r).dev = s.dev ∧ (State.setRing s
    r).clk = s.clk ∧ (State.setRing s r).eng = s.eng ∧ (State.setRing s r).ch = s.ch ∧ (State.setRing s r).trust =
    s.trust ∧ (State.setRing s r).lockoutRec = s.lockoutRec ∧ (State.setRing s r).rop = s.rop ∧ (State.setRing s
    r).eth = s.eth ∧ (State.setRing s r).badger = s.badger ∧ (State.setRing s r).events = s.events ∧ (State.setRing s
    r).pool = s.pool ∧ (State.setRing s r).link = s.link ∧ (State.setRing s r).bus = s.bus ∧ (State.setRing s r).aux =
    s.aux ∧ (State.setRing s r).refMon = s.refMon ∧ (State.setRing s r).trig = s.trig ∧ (State.setRing s r).ronko =
    s.ronko ∧ (State.setRing s r).fsp = s.fsp ∧ (State.setRing s r).xip = s.xip ∧ (State.setRing s r).mgp = s.mgp ∧
    (State.setRing s r).now = s.now ∧ (State.setRing s r).answer = s.answer ∧ (State.setRing s r).emit = s.emit ∧
    (State.setRing s r).free = s.free ∧ (State.setRing s r).pending = s.pending :=
    ⟨rfl, rfl, rfl, rfl, rfl, rfl, rfl, rfl, rfl, rfl, rfl, rfl, rfl, rfl, rfl, rfl, rfl, rfl, rfl, rfl, rfl, rfl, rfl,
    rfl, rfl, rfl, rfl, rfl⟩

@[simp] theorem countLoss_frame (s : State) (r : Ring) (k : Nat) (newGap : Bool) : (countLoss s r k newGap).1.otp =
    s.otp ∧ (countLoss s r k newGap).1.ident = s.ident ∧ (countLoss s r k newGap).1.power = s.power ∧ (countLoss s r k
    newGap).1.dev = s.dev ∧ (countLoss s r k newGap).1.clk = s.clk ∧ (countLoss s r k newGap).1.eng = s.eng ∧
    (countLoss s r k newGap).1.ch = s.ch ∧ (countLoss s r k newGap).1.trust = s.trust ∧ (countLoss s r k
    newGap).1.lockoutRec = s.lockoutRec ∧ (countLoss s r k newGap).1.rop = s.rop ∧ (countLoss s r k newGap).1.eth =
    s.eth ∧ (countLoss s r k newGap).1.badger = s.badger ∧ (countLoss s r k newGap).1.hamper = s.hamper ∧ (countLoss s
    r k newGap).1.pool = s.pool ∧ (countLoss s r k newGap).1.link = s.link ∧ (countLoss s r k newGap).1.bus = s.bus ∧
    (countLoss s r k newGap).1.aux = s.aux ∧ (countLoss s r k newGap).1.refMon = s.refMon ∧ (countLoss s r k
    newGap).1.trig = s.trig ∧ (countLoss s r k newGap).1.ronko = s.ronko ∧ (countLoss s r k newGap).1.fsp = s.fsp ∧
    (countLoss s r k newGap).1.xip = s.xip ∧ (countLoss s r k newGap).1.mgp = s.mgp ∧ (countLoss s r k newGap).1.now =
    s.now ∧ (countLoss s r k newGap).1.answer = s.answer ∧ (countLoss s r k newGap).1.emit = s.emit ∧ (countLoss s r k
    newGap).1.free = s.free ∧ (countLoss s r k newGap).1.pending = s.pending := by simp [countLoss]

@[simp] theorem pendLoss_frame (s : State) (r : Ring) (k : Nat) : (pendLoss s r k).otp = s.otp ∧ (pendLoss s r
    k).ident = s.ident ∧ (pendLoss s r k).power = s.power ∧ (pendLoss s r k).dev = s.dev ∧ (pendLoss s r k).clk =
    s.clk ∧ (pendLoss s r k).eng = s.eng ∧ (pendLoss s r k).ch = s.ch ∧ (pendLoss s r k).trust = s.trust ∧ (pendLoss s
    r k).lockoutRec = s.lockoutRec ∧ (pendLoss s r k).rop = s.rop ∧ (pendLoss s r k).eth = s.eth ∧ (pendLoss s r
    k).badger = s.badger ∧ (pendLoss s r k).pool = s.pool ∧ (pendLoss s r k).link = s.link ∧ (pendLoss s r k).bus =
    s.bus ∧ (pendLoss s r k).aux = s.aux ∧ (pendLoss s r k).refMon = s.refMon ∧ (pendLoss s r k).trig = s.trig ∧
    (pendLoss s r k).ronko = s.ronko ∧ (pendLoss s r k).fsp = s.fsp ∧ (pendLoss s r k).xip = s.xip ∧ (pendLoss s r
    k).mgp = s.mgp ∧ (pendLoss s r k).now = s.now ∧ (pendLoss s r k).answer = s.answer ∧ (pendLoss s r k).emit =
    s.emit ∧ (pendLoss s r k).free = s.free ∧ (pendLoss s r k).pending = s.pending := by simp [pendLoss]

@[simp] theorem poolRefusal_frame (s : State) (r : Ring) (k : Nat) : (poolRefusal s r k).otp = s.otp ∧ (poolRefusal s
    r k).ident = s.ident ∧ (poolRefusal s r k).power = s.power ∧ (poolRefusal s r k).dev = s.dev ∧ (poolRefusal s r
    k).clk = s.clk ∧ (poolRefusal s r k).eng = s.eng ∧ (poolRefusal s r k).ch = s.ch ∧ (poolRefusal s r k).trust =
    s.trust ∧ (poolRefusal s r k).lockoutRec = s.lockoutRec ∧ (poolRefusal s r k).rop = s.rop ∧ (poolRefusal s r
    k).eth = s.eth ∧ (poolRefusal s r k).events = s.events ∧ (poolRefusal s r k).pool = s.pool ∧ (poolRefusal s r
    k).link = s.link ∧ (poolRefusal s r k).bus = s.bus ∧ (poolRefusal s r k).aux = s.aux ∧ (poolRefusal s r k).refMon
    = s.refMon ∧ (poolRefusal s r k).trig = s.trig ∧ (poolRefusal s r k).ronko = s.ronko ∧ (poolRefusal s r k).fsp =
    s.fsp ∧ (poolRefusal s r k).xip = s.xip ∧ (poolRefusal s r k).mgp = s.mgp ∧ (poolRefusal s r k).now = s.now ∧
    (poolRefusal s r k).answer = s.answer ∧ (poolRefusal s r k).emit = s.emit ∧ (poolRefusal s r k).free = s.free ∧
    (poolRefusal s r k).pending = s.pending := by simp [poolRefusal]

@[simp] theorem appendSlots_frame (s : State) (r : Ring) (xs : List Rec) : (appendSlots s r xs).otp = s.otp ∧
    (appendSlots s r xs).ident = s.ident ∧ (appendSlots s r xs).power = s.power ∧ (appendSlots s r xs).dev = s.dev ∧
    (appendSlots s r xs).clk = s.clk ∧ (appendSlots s r xs).eng = s.eng ∧ (appendSlots s r xs).ch = s.ch ∧
    (appendSlots s r xs).trust = s.trust ∧ (appendSlots s r xs).lockoutRec = s.lockoutRec ∧ (appendSlots s r xs).rop =
    s.rop ∧ (appendSlots s r xs).eth = s.eth ∧ (appendSlots s r xs).pool = s.pool ∧ (appendSlots s r xs).link = s.link
    ∧ (appendSlots s r xs).bus = s.bus ∧ (appendSlots s r xs).aux = s.aux ∧ (appendSlots s r xs).refMon = s.refMon ∧
    (appendSlots s r xs).trig = s.trig ∧ (appendSlots s r xs).ronko = s.ronko ∧ (appendSlots s r xs).fsp = s.fsp ∧
    (appendSlots s r xs).xip = s.xip ∧ (appendSlots s r xs).now = s.now ∧ (appendSlots s r xs).answer = s.answer ∧
    (appendSlots s r xs).emit = s.emit ∧ (appendSlots s r xs).free = s.free ∧ (appendSlots s r xs).pending = s.pending
    := by simp [appendSlots]

@[simp] theorem storeNow_frame (s : State) (r : Ring) (recs : List (List Byte)) : (storeNow s r recs).otp = s.otp ∧
    (storeNow s r recs).ident = s.ident ∧ (storeNow s r recs).power = s.power ∧ (storeNow s r recs).dev = s.dev ∧
    (storeNow s r recs).clk = s.clk ∧ (storeNow s r recs).eng = s.eng ∧ (storeNow s r recs).ch = s.ch ∧ (storeNow s r
    recs).trust = s.trust ∧ (storeNow s r recs).lockoutRec = s.lockoutRec ∧ (storeNow s r recs).rop = s.rop ∧
    (storeNow s r recs).eth = s.eth ∧ (storeNow s r recs).pool = s.pool ∧ (storeNow s r recs).link = s.link ∧
    (storeNow s r recs).bus = s.bus ∧ (storeNow s r recs).aux = s.aux ∧ (storeNow s r recs).refMon = s.refMon ∧
    (storeNow s r recs).trig = s.trig ∧ (storeNow s r recs).ronko = s.ronko ∧ (storeNow s r recs).fsp = s.fsp ∧
    (storeNow s r recs).xip = s.xip ∧ (storeNow s r recs).now = s.now ∧ (storeNow s r recs).answer = s.answer ∧
    (storeNow s r recs).emit = s.emit ∧ (storeNow s r recs).free = s.free ∧ (storeNow s r recs).pending = s.pending := by simp [storeNow]

@[simp] theorem dropHead_frame (s : State) (r : Ring) : (dropHead s r).1.otp = s.otp ∧ (dropHead s r).1.ident =
    s.ident ∧ (dropHead s r).1.power = s.power ∧ (dropHead s r).1.dev = s.dev ∧ (dropHead s r).1.clk = s.clk ∧
    (dropHead s r).1.eng = s.eng ∧ (dropHead s r).1.ch = s.ch ∧ (dropHead s r).1.trust = s.trust ∧ (dropHead s
    r).1.lockoutRec = s.lockoutRec ∧ (dropHead s r).1.rop = s.rop ∧ (dropHead s r).1.eth = s.eth ∧ (dropHead s
    r).1.badger = s.badger ∧ (dropHead s r).1.hamper = s.hamper ∧ (dropHead s r).1.pool = s.pool ∧ (dropHead s
    r).1.link = s.link ∧ (dropHead s r).1.bus = s.bus ∧ (dropHead s r).1.aux = s.aux ∧ (dropHead s r).1.refMon =
    s.refMon ∧ (dropHead s r).1.trig = s.trig ∧ (dropHead s r).1.ronko = s.ronko ∧ (dropHead s r).1.fsp = s.fsp ∧
    (dropHead s r).1.xip = s.xip ∧ (dropHead s r).1.mgp = s.mgp ∧ (dropHead s r).1.now = s.now ∧ (dropHead s
    r).1.answer = s.answer ∧ (dropHead s r).1.emit = s.emit ∧ (dropHead s r).1.free = s.free ∧ (dropHead s
    r).1.pending = s.pending := by unfold dropHead; simp only []; (repeat' split) <;> simp_all

@[simp] theorem makeRoom_frame (n : Nat) (s : State) (r : Ring) (k : Nat) : (makeRoom n s r k).1.otp = s.otp ∧
    (makeRoom n s r k).1.ident = s.ident ∧ (makeRoom n s r k).1.power = s.power ∧ (makeRoom n s r k).1.dev = s.dev ∧
    (makeRoom n s r k).1.clk = s.clk ∧ (makeRoom n s r k).1.eng = s.eng ∧ (makeRoom n s r k).1.ch = s.ch ∧ (makeRoom n
    s r k).1.trust = s.trust ∧ (makeRoom n s r k).1.lockoutRec = s.lockoutRec ∧ (makeRoom n s r k).1.rop = s.rop ∧
    (makeRoom n s r k).1.eth = s.eth ∧ (makeRoom n s r k).1.badger = s.badger ∧ (makeRoom n s r k).1.pool = s.pool ∧
    (makeRoom n s r k).1.link = s.link ∧ (makeRoom n s r k).1.bus = s.bus ∧ (makeRoom n s r k).1.aux = s.aux ∧
    (makeRoom n s r k).1.refMon = s.refMon ∧ (makeRoom n s r k).1.trig = s.trig ∧ (makeRoom n s r k).1.ronko = s.ronko
    ∧ (makeRoom n s r k).1.fsp = s.fsp ∧ (makeRoom n s r k).1.xip = s.xip ∧ (makeRoom n s r k).1.mgp = s.mgp ∧
    (makeRoom n s r k).1.now = s.now ∧ (makeRoom n s r k).1.answer = s.answer ∧ (makeRoom n s r k).1.emit = s.emit ∧
    (makeRoom n s r k).1.free = s.free ∧ (makeRoom n s r k).1.pending = s.pending := by
  induction n generalizing s r with
  | zero => simp [makeRoom]
  | succ n ih => rw [makeRoom]; simp only []; split <;> split <;> simp [ih]

@[simp] theorem makeFit_frame (s : State) (r : Ring) (recs : List (List Byte)) : (makeFit s r recs).1.otp = s.otp ∧
    (makeFit s r recs).1.ident = s.ident ∧ (makeFit s r recs).1.power = s.power ∧ (makeFit s r recs).1.dev = s.dev ∧
    (makeFit s r recs).1.clk = s.clk ∧ (makeFit s r recs).1.eng = s.eng ∧ (makeFit s r recs).1.ch = s.ch ∧ (makeFit s
    r recs).1.trust = s.trust ∧ (makeFit s r recs).1.lockoutRec = s.lockoutRec ∧ (makeFit s r recs).1.rop = s.rop ∧
    (makeFit s r recs).1.eth = s.eth ∧ (makeFit s r recs).1.pool = s.pool ∧ (makeFit s r recs).1.link = s.link ∧
    (makeFit s r recs).1.bus = s.bus ∧ (makeFit s r recs).1.aux = s.aux ∧ (makeFit s r recs).1.refMon = s.refMon ∧
    (makeFit s r recs).1.trig = s.trig ∧ (makeFit s r recs).1.ronko = s.ronko ∧ (makeFit s r recs).1.fsp = s.fsp ∧
    (makeFit s r recs).1.xip = s.xip ∧ (makeFit s r recs).1.mgp = s.mgp ∧ (makeFit s r recs).1.now = s.now ∧ (makeFit
    s r recs).1.answer = s.answer ∧ (makeFit s r recs).1.emit = s.emit ∧ (makeFit s r recs).1.free = s.free ∧ (makeFit
    s r recs).1.pending = s.pending := by unfold makeFit; split <;> simp

@[simp] theorem putRecords_frame (s : State) (r : Ring) (recs : List (List Byte)) : (putRecords s r recs).1.otp =
    s.otp ∧ (putRecords s r recs).1.ident = s.ident ∧ (putRecords s r recs).1.power = s.power ∧ (putRecords s r
    recs).1.dev = s.dev ∧ (putRecords s r recs).1.clk = s.clk ∧ (putRecords s r recs).1.eng = s.eng ∧ (putRecords s r
    recs).1.ch = s.ch ∧ (putRecords s r recs).1.trust = s.trust ∧ (putRecords s r recs).1.lockoutRec = s.lockoutRec ∧
    (putRecords s r recs).1.rop = s.rop ∧ (putRecords s r recs).1.eth = s.eth ∧ (putRecords s r recs).1.pool = s.pool
    ∧ (putRecords s r recs).1.link = s.link ∧ (putRecords s r recs).1.bus = s.bus ∧ (putRecords s r recs).1.aux =
    s.aux ∧ (putRecords s r recs).1.refMon = s.refMon ∧ (putRecords s r recs).1.trig = s.trig ∧ (putRecords s r
    recs).1.ronko = s.ronko ∧ (putRecords s r recs).1.fsp = s.fsp ∧ (putRecords s r recs).1.xip = s.xip ∧ (putRecords
    s r recs).1.now = s.now ∧ (putRecords s r recs).1.answer = s.answer ∧ (putRecords s r recs).1.emit = s.emit ∧
    (putRecords s r recs).1.free = s.free ∧ (putRecords s r recs).1.pending = s.pending := by
  unfold putRecords
  have h := makeFit_frame s r recs
  generalize makeFit s r recs = x at h ⊢
  obtain ⟨t, o, p⟩ := x
  cases o <;> (simp only at h; simp [h])

@[simp] theorem checkDesc_frame (s : State) (num : Nat) : (checkDesc s num).otp = s.otp ∧ (checkDesc s num).ident =
    s.ident ∧ (checkDesc s num).power = s.power ∧ (checkDesc s num).dev = s.dev ∧ (checkDesc s num).clk = s.clk ∧
    (checkDesc s num).eng = s.eng ∧ (checkDesc s num).ch = s.ch ∧ (checkDesc s num).trust = s.trust ∧ (checkDesc s
    num).lockoutRec = s.lockoutRec ∧ (checkDesc s num).rop = s.rop ∧ (checkDesc s num).eth = s.eth ∧ (checkDesc s
    num).events = s.events ∧ (checkDesc s num).pool = s.pool ∧ (checkDesc s num).link = s.link ∧ (checkDesc s num).bus
    = s.bus ∧ (checkDesc s num).aux = s.aux ∧ (checkDesc s num).refMon = s.refMon ∧ (checkDesc s num).trig = s.trig ∧
    (checkDesc s num).ronko = s.ronko ∧ (checkDesc s num).fsp = s.fsp ∧ (checkDesc s num).xip = s.xip ∧ (checkDesc s
    num).mgp = s.mgp ∧ (checkDesc s num).now = s.now ∧ (checkDesc s num).answer = s.answer ∧ (checkDesc s num).emit =
    s.emit ∧ (checkDesc s num).free = s.free ∧ (checkDesc s num).pending = s.pending := by unfold checkDesc; (repeat' split) <;> simp

@[simp] theorem eccTurn_frame (s : State) (r : Ring) (k : Nat) : (eccTurn s r k).otp = s.otp ∧ (eccTurn s r k).ident =
    s.ident ∧ (eccTurn s r k).power = s.power ∧ (eccTurn s r k).dev = s.dev ∧ (eccTurn s r k).clk = s.clk ∧ (eccTurn s
    r k).eng = s.eng ∧ (eccTurn s r k).ch = s.ch ∧ (eccTurn s r k).trust = s.trust ∧ (eccTurn s r k).lockoutRec =
    s.lockoutRec ∧ (eccTurn s r k).rop = s.rop ∧ (eccTurn s r k).eth = s.eth ∧ (eccTurn s r k).events = s.events ∧
    (eccTurn s r k).pool = s.pool ∧ (eccTurn s r k).link = s.link ∧ (eccTurn s r k).bus = s.bus ∧ (eccTurn s r k).aux
    = s.aux ∧ (eccTurn s r k).refMon = s.refMon ∧ (eccTurn s r k).trig = s.trig ∧ (eccTurn s r k).ronko = s.ronko ∧
    (eccTurn s r k).fsp = s.fsp ∧ (eccTurn s r k).xip = s.xip ∧ (eccTurn s r k).mgp = s.mgp ∧ (eccTurn s r k).now =
    s.now ∧ (eccTurn s r k).answer = s.answer ∧ (eccTurn s r k).emit = s.emit ∧ (eccTurn s r k).free = s.free ∧
    (eccTurn s r k).pending = s.pending := by simp [eccTurn]

@[simp] theorem eccRead_frame (s : State) (x : Rec) : (eccRead s x).otp = s.otp ∧ (eccRead s x).ident = s.ident ∧
    (eccRead s x).power = s.power ∧ (eccRead s x).dev = s.dev ∧ (eccRead s x).clk = s.clk ∧ (eccRead s x).eng = s.eng
    ∧ (eccRead s x).ch = s.ch ∧ (eccRead s x).trust = s.trust ∧ (eccRead s x).lockoutRec = s.lockoutRec ∧ (eccRead s
    x).rop = s.rop ∧ (eccRead s x).eth = s.eth ∧ (eccRead s x).badger = s.badger ∧ (eccRead s x).events = s.events ∧
    (eccRead s x).pool = s.pool ∧ (eccRead s x).link = s.link ∧ (eccRead s x).bus = s.bus ∧ (eccRead s x).aux = s.aux
    ∧ (eccRead s x).refMon = s.refMon ∧ (eccRead s x).trig = s.trig ∧ (eccRead s x).ronko = s.ronko ∧ (eccRead s
    x).fsp = s.fsp ∧ (eccRead s x).xip = s.xip ∧ (eccRead s x).mgp = s.mgp ∧ (eccRead s x).now = s.now ∧ (eccRead s
    x).answer = s.answer ∧ (eccRead s x).emit = s.emit ∧ (eccRead s x).free = s.free ∧ (eccRead s x).pending =
    s.pending := by simp [eccRead]

@[simp] theorem popHead_frame (s : State) (r : Ring) : (popHead s r).1.otp = s.otp ∧ (popHead s r).1.ident = s.ident ∧
    (popHead s r).1.power = s.power ∧ (popHead s r).1.dev = s.dev ∧ (popHead s r).1.clk = s.clk ∧ (popHead s r).1.eng
    = s.eng ∧ (popHead s r).1.ch = s.ch ∧ (popHead s r).1.trust = s.trust ∧ (popHead s r).1.lockoutRec = s.lockoutRec
    ∧ (popHead s r).1.rop = s.rop ∧ (popHead s r).1.eth = s.eth ∧ (popHead s r).1.events = s.events ∧ (popHead s
    r).1.pool = s.pool ∧ (popHead s r).1.link = s.link ∧ (popHead s r).1.bus = s.bus ∧ (popHead s r).1.aux = s.aux ∧
    (popHead s r).1.refMon = s.refMon ∧ (popHead s r).1.trig = s.trig ∧ (popHead s r).1.ronko = s.ronko ∧ (popHead s
    r).1.fsp = s.fsp ∧ (popHead s r).1.xip = s.xip ∧ (popHead s r).1.mgp = s.mgp ∧ (popHead s r).1.now = s.now ∧
    (popHead s r).1.answer = s.answer ∧ (popHead s r).1.emit = s.emit ∧ (popHead s r).1.free = s.free ∧ (popHead s
    r).1.pending = s.pending := by unfold popHead; simp only []; (repeat' split) <;> simp_all

@[simp] theorem takeHeads_frame (n : Nat) (s : State) (r : Ring) : (takeHeads n s r).1.otp = s.otp ∧ (takeHeads n s
    r).1.ident = s.ident ∧ (takeHeads n s r).1.power = s.power ∧ (takeHeads n s r).1.dev = s.dev ∧ (takeHeads n s
    r).1.clk = s.clk ∧ (takeHeads n s r).1.eng = s.eng ∧ (takeHeads n s r).1.ch = s.ch ∧ (takeHeads n s r).1.trust =
    s.trust ∧ (takeHeads n s r).1.lockoutRec = s.lockoutRec ∧ (takeHeads n s r).1.rop = s.rop ∧ (takeHeads n s
    r).1.eth = s.eth ∧ (takeHeads n s r).1.badger = s.badger ∧ (takeHeads n s r).1.events = s.events ∧ (takeHeads n s
    r).1.pool = s.pool ∧ (takeHeads n s r).1.link = s.link ∧ (takeHeads n s r).1.bus = s.bus ∧ (takeHeads n s r).1.aux
    = s.aux ∧ (takeHeads n s r).1.refMon = s.refMon ∧ (takeHeads n s r).1.trig = s.trig ∧ (takeHeads n s r).1.ronko =
    s.ronko ∧ (takeHeads n s r).1.fsp = s.fsp ∧ (takeHeads n s r).1.xip = s.xip ∧ (takeHeads n s r).1.mgp = s.mgp ∧
    (takeHeads n s r).1.now = s.now ∧ (takeHeads n s r).1.answer = s.answer ∧ (takeHeads n s r).1.emit = s.emit ∧
    (takeHeads n s r).1.free = s.free ∧ (takeHeads n s r).1.pending = s.pending := by
  induction n generalizing s r with
  | zero => simp [takeHeads]
  | succ n ih => rw [takeHeads]; split <;> simp [ih]

@[simp] theorem readBundles_frame (fuel : Nat) (s : State) (num n : Nat) (acc : List (List Byte)) : (readBundles fuel
    s num n acc).1.otp = s.otp ∧ (readBundles fuel s num n acc).1.ident = s.ident ∧ (readBundles fuel s num n
    acc).1.power = s.power ∧ (readBundles fuel s num n acc).1.dev = s.dev ∧ (readBundles fuel s num n acc).1.clk =
    s.clk ∧ (readBundles fuel s num n acc).1.eng = s.eng ∧ (readBundles fuel s num n acc).1.ch = s.ch ∧ (readBundles
    fuel s num n acc).1.trust = s.trust ∧ (readBundles fuel s num n acc).1.lockoutRec = s.lockoutRec ∧ (readBundles
    fuel s num n acc).1.rop = s.rop ∧ (readBundles fuel s num n acc).1.eth = s.eth ∧ (readBundles fuel s num n
    acc).1.events = s.events ∧ (readBundles fuel s num n acc).1.pool = s.pool ∧ (readBundles fuel s num n acc).1.link
    = s.link ∧ (readBundles fuel s num n acc).1.bus = s.bus ∧ (readBundles fuel s num n acc).1.aux = s.aux ∧
    (readBundles fuel s num n acc).1.refMon = s.refMon ∧ (readBundles fuel s num n acc).1.trig = s.trig ∧ (readBundles
    fuel s num n acc).1.ronko = s.ronko ∧ (readBundles fuel s num n acc).1.fsp = s.fsp ∧ (readBundles fuel s num n
    acc).1.xip = s.xip ∧ (readBundles fuel s num n acc).1.mgp = s.mgp ∧ (readBundles fuel s num n acc).1.now = s.now ∧
    (readBundles fuel s num n acc).1.answer = s.answer ∧ (readBundles fuel s num n acc).1.emit = s.emit ∧ (readBundles
    fuel s num n acc).1.free = s.free ∧ (readBundles fuel s num n acc).1.pending = s.pending := by
  induction fuel generalizing s n acc with
  | zero => simp [readBundles]
  | succ fuel ih => rw [readBundles]; (repeat' split) <;> simp [ih]

@[simp] theorem releaseSide_frame (s : State) (role num : Nat) : (releaseSide s role num).otp = s.otp ∧ (releaseSide s
    role num).ident = s.ident ∧ (releaseSide s role num).power = s.power ∧ (releaseSide s role num).dev = s.dev ∧
    (releaseSide s role num).clk = s.clk ∧ (releaseSide s role num).eng = s.eng ∧ (releaseSide s role num).ch = s.ch ∧
    (releaseSide s role num).trust = s.trust ∧ (releaseSide s role num).lockoutRec = s.lockoutRec ∧ (releaseSide s
    role num).rop = s.rop ∧ (releaseSide s role num).eth = s.eth ∧ (releaseSide s role num).badger = s.badger ∧
    (releaseSide s role num).events = s.events ∧ (releaseSide s role num).pool = s.pool ∧ (releaseSide s role
    num).link = s.link ∧ (releaseSide s role num).bus = s.bus ∧ (releaseSide s role num).aux = s.aux ∧ (releaseSide s
    role num).refMon = s.refMon ∧ (releaseSide s role num).trig = s.trig ∧ (releaseSide s role num).ronko = s.ronko ∧
    (releaseSide s role num).fsp = s.fsp ∧ (releaseSide s role num).xip = s.xip ∧ (releaseSide s role num).mgp = s.mgp
    ∧ (releaseSide s role num).now = s.now ∧ (releaseSide s role num).answer = s.answer ∧ (releaseSide s role
    num).emit = s.emit ∧ (releaseSide s role num).free = s.free ∧ (releaseSide s role num).pending = s.pending := by unfold releaseSide; split <;> simp

@[simp] theorem takeSide_frame (s : State) (role num : Nat) : (takeSide s role num).otp = s.otp ∧ (takeSide s role
    num).ident = s.ident ∧ (takeSide s role num).power = s.power ∧ (takeSide s role num).dev = s.dev ∧ (takeSide s
    role num).clk = s.clk ∧ (takeSide s role num).eng = s.eng ∧ (takeSide s role num).ch = s.ch ∧ (takeSide s role
    num).trust = s.trust ∧ (takeSide s role num).lockoutRec = s.lockoutRec ∧ (takeSide s role num).rop = s.rop ∧
    (takeSide s role num).eth = s.eth ∧ (takeSide s role num).badger = s.badger ∧ (takeSide s role num).events =
    s.events ∧ (takeSide s role num).pool = s.pool ∧ (takeSide s role num).link = s.link ∧ (takeSide s role num).bus =
    s.bus ∧ (takeSide s role num).aux = s.aux ∧ (takeSide s role num).refMon = s.refMon ∧ (takeSide s role num).trig =
    s.trig ∧ (takeSide s role num).ronko = s.ronko ∧ (takeSide s role num).fsp = s.fsp ∧ (takeSide s role num).xip =
    s.xip ∧ (takeSide s role num).mgp = s.mgp ∧ (takeSide s role num).now = s.now ∧ (takeSide s role num).answer =
    s.answer ∧ (takeSide s role num).emit = s.emit ∧ (takeSide s role num).free = s.free ∧ (takeSide s role
    num).pending = s.pending := by unfold takeSide; split <;> simp

@[simp] theorem bindRing_frame (s : State) (role old num : Nat) : (bindRing s role old num).otp = s.otp ∧ (bindRing s
    role old num).ident = s.ident ∧ (bindRing s role old num).power = s.power ∧ (bindRing s role old num).dev = s.dev
    ∧ (bindRing s role old num).clk = s.clk ∧ (bindRing s role old num).eng = s.eng ∧ (bindRing s role old num).ch =
    s.ch ∧ (bindRing s role old num).trust = s.trust ∧ (bindRing s role old num).lockoutRec = s.lockoutRec ∧ (bindRing
    s role old num).rop = s.rop ∧ (bindRing s role old num).eth = s.eth ∧ (bindRing s role old num).badger = s.badger
    ∧ (bindRing s role old num).events = s.events ∧ (bindRing s role old num).pool = s.pool ∧ (bindRing s role old
    num).link = s.link ∧ (bindRing s role old num).bus = s.bus ∧ (bindRing s role old num).aux = s.aux ∧ (bindRing s
    role old num).refMon = s.refMon ∧ (bindRing s role old num).trig = s.trig ∧ (bindRing s role old num).ronko =
    s.ronko ∧ (bindRing s role old num).fsp = s.fsp ∧ (bindRing s role old num).xip = s.xip ∧ (bindRing s role old
    num).mgp = s.mgp ∧ (bindRing s role old num).now = s.now ∧ (bindRing s role old num).answer = s.answer ∧ (bindRing
    s role old num).emit = s.emit ∧ (bindRing s role old num).free = s.free ∧ (bindRing s role old num).pending =
    s.pending := by simp [bindRing]

@[simp] theorem State.withAux_frame (s : State) (f : Aux → Aux) : (State.withAux s f).otp = s.otp ∧ (State.withAux s
    f).ident = s.ident ∧ (State.withAux s f).power = s.power ∧ (State.withAux s f).dev = s.dev ∧ (State.withAux s
    f).clk = s.clk ∧ (State.withAux s f).eng = s.eng ∧ (State.withAux s f).ch = s.ch ∧ (State.withAux s f).trust =
    s.trust ∧ (State.withAux s f).lockoutRec = s.lockoutRec ∧ (State.withAux s f).rop = s.rop ∧ (State.withAux s
    f).eth = s.eth ∧ (State.withAux s f).badger = s.badger ∧ (State.withAux s f).events = s.events ∧ (State.withAux s
    f).pool = s.pool ∧ (State.withAux s f).link = s.link ∧ (State.withAux s f).bus = s.bus ∧ (State.withAux s
    f).refMon = s.refMon ∧ (State.withAux s f).trig = s.trig ∧ (State.withAux s f).ronko = s.ronko ∧ (State.withAux s
    f).fsp = s.fsp ∧ (State.withAux s f).xip = s.xip ∧ (State.withAux s f).mgp = s.mgp ∧ (State.withAux s f).now =
    s.now ∧ (State.withAux s f).answer = s.answer ∧ (State.withAux s f).emit = s.emit ∧ (State.withAux s f).free =
    s.free ∧ (State.withAux s f).pending = s.pending := by simp [State.withAux]

@[simp] theorem stage_frame (s : State) (src : HwSource) (recs : List (List Byte)) : (stage s src recs).otp = s.otp ∧
    (stage s src recs).ident = s.ident ∧ (stage s src recs).power = s.power ∧ (stage s src recs).dev = s.dev ∧ (stage
    s src recs).clk = s.clk ∧ (stage s src recs).eng = s.eng ∧ (stage s src recs).ch = s.ch ∧ (stage s src recs).trust
    = s.trust ∧ (stage s src recs).lockoutRec = s.lockoutRec ∧ (stage s src recs).rop = s.rop ∧ (stage s src recs).eth
    = s.eth ∧ (stage s src recs).badger = s.badger ∧ (stage s src recs).pool = s.pool ∧ (stage s src recs).link =
    s.link ∧ (stage s src recs).bus = s.bus ∧ (stage s src recs).aux = s.aux ∧ (stage s src recs).refMon = s.refMon ∧
    (stage s src recs).trig = s.trig ∧ (stage s src recs).ronko = s.ronko ∧ (stage s src recs).fsp = s.fsp ∧ (stage s
    src recs).xip = s.xip ∧ (stage s src recs).mgp = s.mgp ∧ (stage s src recs).now = s.now ∧ (stage s src
    recs).answer = s.answer ∧ (stage s src recs).emit = s.emit ∧ (stage s src recs).free = s.free ∧ (stage s src
    recs).pending = s.pending := by unfold stage; split <;> simp

@[simp] theorem State.joinBulk_frame (s : State) (src : HwSource) : (State.joinBulk s src).otp = s.otp ∧
    (State.joinBulk s src).ident = s.ident ∧ (State.joinBulk s src).power = s.power ∧ (State.joinBulk s src).dev =
    s.dev ∧ (State.joinBulk s src).clk = s.clk ∧ (State.joinBulk s src).eng = s.eng ∧ (State.joinBulk s src).ch = s.ch
    ∧ (State.joinBulk s src).trust = s.trust ∧ (State.joinBulk s src).lockoutRec = s.lockoutRec ∧ (State.joinBulk s
    src).rop = s.rop ∧ (State.joinBulk s src).eth = s.eth ∧ (State.joinBulk s src).badger = s.badger ∧ (State.joinBulk
    s src).events = s.events ∧ (State.joinBulk s src).pool = s.pool ∧ (State.joinBulk s src).link = s.link ∧
    (State.joinBulk s src).bus = s.bus ∧ (State.joinBulk s src).aux = s.aux ∧ (State.joinBulk s src).refMon = s.refMon
    ∧ (State.joinBulk s src).trig = s.trig ∧ (State.joinBulk s src).ronko = s.ronko ∧ (State.joinBulk s src).fsp =
    s.fsp ∧ (State.joinBulk s src).xip = s.xip ∧ (State.joinBulk s src).mgp = s.mgp ∧ (State.joinBulk s src).now =
    s.now ∧ (State.joinBulk s src).answer = s.answer ∧ (State.joinBulk s src).emit = s.emit ∧ (State.joinBulk s
    src).free = s.free ∧ (State.joinBulk s src).pending = s.pending :=
    ⟨rfl, rfl, rfl, rfl, rfl, rfl, rfl, rfl, rfl, rfl, rfl, rfl, rfl, rfl, rfl, rfl, rfl, rfl, rfl, rfl, rfl, rfl, rfl,
    rfl, rfl, rfl, rfl, rfl⟩

@[simp] theorem loseTune_frame (s : State) (n : Ch) (k : Nat) : (loseTune s n k).otp = s.otp ∧ (loseTune s n k).ident
    = s.ident ∧ (loseTune s n k).power = s.power ∧ (loseTune s n k).dev = s.dev ∧ (loseTune s n k).clk = s.clk ∧
    (loseTune s n k).eng = s.eng ∧ (loseTune s n k).trust = s.trust ∧ (loseTune s n k).lockoutRec = s.lockoutRec ∧
    (loseTune s n k).rop = s.rop ∧ (loseTune s n k).eth = s.eth ∧ (loseTune s n k).badger = s.badger ∧ (loseTune s n
    k).events = s.events ∧ (loseTune s n k).hamper = s.hamper ∧ (loseTune s n k).pool = s.pool ∧ (loseTune s n k).link
    = s.link ∧ (loseTune s n k).bus = s.bus ∧ (loseTune s n k).aux = s.aux ∧ (loseTune s n k).refMon = s.refMon ∧
    (loseTune s n k).trig = s.trig ∧ (loseTune s n k).ronko = s.ronko ∧ (loseTune s n k).fsp = s.fsp ∧ (loseTune s n
    k).xip = s.xip ∧ (loseTune s n k).mgp = s.mgp ∧ (loseTune s n k).now = s.now ∧ (loseTune s n k).answer = s.answer
    ∧ (loseTune s n k).emit = s.emit ∧ (loseTune s n k).free = s.free ∧ (loseTune s n k).pending = s.pending := by simp [loseTune]

@[simp] theorem countLost_frame (s : State) (src : HwSource) (k : Nat) : (countLost s src k).otp = s.otp ∧ (countLost
    s src k).ident = s.ident ∧ (countLost s src k).power = s.power ∧ (countLost s src k).dev = s.dev ∧ (countLost s
    src k).clk = s.clk ∧ (countLost s src k).eng = s.eng ∧ (countLost s src k).trust = s.trust ∧ (countLost s src
    k).lockoutRec = s.lockoutRec ∧ (countLost s src k).rop = s.rop ∧ (countLost s src k).badger = s.badger ∧
    (countLost s src k).events = s.events ∧ (countLost s src k).hamper = s.hamper ∧ (countLost s src k).pool = s.pool
    ∧ (countLost s src k).link = s.link ∧ (countLost s src k).bus = s.bus ∧ (countLost s src k).aux = s.aux ∧
    (countLost s src k).refMon = s.refMon ∧ (countLost s src k).trig = s.trig ∧ (countLost s src k).ronko = s.ronko ∧
    (countLost s src k).fsp = s.fsp ∧ (countLost s src k).xip = s.xip ∧ (countLost s src k).mgp = s.mgp ∧ (countLost s
    src k).now = s.now ∧ (countLost s src k).answer = s.answer ∧ (countLost s src k).emit = s.emit ∧ (countLost s src
    k).free = s.free ∧ (countLost s src k).pending = s.pending := by unfold countLost; split <;> simp

@[simp] theorem dropReserve_frame (s : State) (num : Nat) : (dropReserve s num).otp = s.otp ∧ (dropReserve s
    num).ident = s.ident ∧ (dropReserve s num).power = s.power ∧ (dropReserve s num).dev = s.dev ∧ (dropReserve s
    num).clk = s.clk ∧ (dropReserve s num).eng = s.eng ∧ (dropReserve s num).ch = s.ch ∧ (dropReserve s num).trust =
    s.trust ∧ (dropReserve s num).lockoutRec = s.lockoutRec ∧ (dropReserve s num).rop = s.rop ∧ (dropReserve s
    num).eth = s.eth ∧ (dropReserve s num).badger = s.badger ∧ (dropReserve s num).events = s.events ∧ (dropReserve s
    num).pool = s.pool ∧ (dropReserve s num).link = s.link ∧ (dropReserve s num).bus = s.bus ∧ (dropReserve s num).aux
    = s.aux ∧ (dropReserve s num).refMon = s.refMon ∧ (dropReserve s num).trig = s.trig ∧ (dropReserve s num).ronko =
    s.ronko ∧ (dropReserve s num).fsp = s.fsp ∧ (dropReserve s num).xip = s.xip ∧ (dropReserve s num).mgp = s.mgp ∧
    (dropReserve s num).now = s.now ∧ (dropReserve s num).answer = s.answer ∧ (dropReserve s num).emit = s.emit ∧
    (dropReserve s num).free = s.free ∧ (dropReserve s num).pending = s.pending := by unfold dropReserve; split <;> simp

@[simp] theorem firstRecord_frame (s : State) (src : HwSource) (x : Staged) (rest : List Staged) : (firstRecord s src
    x rest).otp = s.otp ∧ (firstRecord s src x rest).ident = s.ident ∧ (firstRecord s src x rest).power = s.power ∧
    (firstRecord s src x rest).dev = s.dev ∧ (firstRecord s src x rest).clk = s.clk ∧ (firstRecord s src x rest).eng =
    s.eng ∧ (firstRecord s src x rest).trust = s.trust ∧ (firstRecord s src x rest).lockoutRec = s.lockoutRec ∧
    (firstRecord s src x rest).rop = s.rop ∧ (firstRecord s src x rest).pool = s.pool ∧ (firstRecord s src x
    rest).link = s.link ∧ (firstRecord s src x rest).bus = s.bus ∧ (firstRecord s src x rest).aux = s.aux ∧
    (firstRecord s src x rest).refMon = s.refMon ∧ (firstRecord s src x rest).trig = s.trig ∧ (firstRecord s src x
    rest).ronko = s.ronko ∧ (firstRecord s src x rest).fsp = s.fsp ∧ (firstRecord s src x rest).xip = s.xip ∧
    (firstRecord s src x rest).now = s.now ∧ (firstRecord s src x rest).answer = s.answer ∧ (firstRecord s src x
    rest).emit = s.emit ∧ (firstRecord s src x rest).free = s.free ∧ (firstRecord s src x rest).pending = s.pending := by
  unfold firstRecord; simp only []; split
  · simp
  · rename_i r _
    have h := makeFit_frame (checkDesc s (ringOfSource s src)) r x.recs
    generalize makeFit (checkDesc s (ringOfSource s src)) r x.recs = y at h ⊢
    obtain ⟨t, o, p⟩ := y
    cases o with
    | none => simp only at h; simp [h]
    | some r => simp only []; split <;> (simp only at h; simp [h])

@[simp] theorem lastRecord_frame (s : State) (src : HwSource) (x : Staged) (rest : List Staged) : (lastRecord s src x
    rest).otp = s.otp ∧ (lastRecord s src x rest).ident = s.ident ∧ (lastRecord s src x rest).power = s.power ∧
    (lastRecord s src x rest).dev = s.dev ∧ (lastRecord s src x rest).clk = s.clk ∧ (lastRecord s src x rest).eng =
    s.eng ∧ (lastRecord s src x rest).trust = s.trust ∧ (lastRecord s src x rest).lockoutRec = s.lockoutRec ∧
    (lastRecord s src x rest).rop = s.rop ∧ (lastRecord s src x rest).pool = s.pool ∧ (lastRecord s src x rest).link =
    s.link ∧ (lastRecord s src x rest).bus = s.bus ∧ (lastRecord s src x rest).aux = s.aux ∧ (lastRecord s src x
    rest).refMon = s.refMon ∧ (lastRecord s src x rest).trig = s.trig ∧ (lastRecord s src x rest).ronko = s.ronko ∧
    (lastRecord s src x rest).fsp = s.fsp ∧ (lastRecord s src x rest).xip = s.xip ∧ (lastRecord s src x rest).now =
    s.now ∧ (lastRecord s src x rest).answer = s.answer ∧ (lastRecord s src x rest).emit = s.emit ∧ (lastRecord s src
    x rest).free = s.free ∧ (lastRecord s src x rest).pending = s.pending := by unfold lastRecord; simp only []; split <;> simp_all

@[simp] theorem writeStaged_frame (s : State) (src : HwSource) : (writeStaged s src).otp = s.otp ∧ (writeStaged s
    src).ident = s.ident ∧ (writeStaged s src).power = s.power ∧ (writeStaged s src).dev = s.dev ∧ (writeStaged s
    src).clk = s.clk ∧ (writeStaged s src).eng = s.eng ∧ (writeStaged s src).trust = s.trust ∧ (writeStaged s
    src).lockoutRec = s.lockoutRec ∧ (writeStaged s src).rop = s.rop ∧ (writeStaged s src).pool = s.pool ∧
    (writeStaged s src).link = s.link ∧ (writeStaged s src).bus = s.bus ∧ (writeStaged s src).aux = s.aux ∧
    (writeStaged s src).refMon = s.refMon ∧ (writeStaged s src).trig = s.trig ∧ (writeStaged s src).ronko = s.ronko ∧
    (writeStaged s src).fsp = s.fsp ∧ (writeStaged s src).xip = s.xip ∧ (writeStaged s src).now = s.now ∧ (writeStaged
    s src).answer = s.answer ∧ (writeStaged s src).emit = s.emit ∧ (writeStaged s src).free = s.free ∧ (writeStaged s
    src).pending = s.pending := by unfold writeStaged; (repeat' split) <;> simp

@[simp] theorem writeCaptured_frame (s : State) (n : Ch) : (writeCaptured s n).otp = s.otp ∧ (writeCaptured s n).ident
    = s.ident ∧ (writeCaptured s n).power = s.power ∧ (writeCaptured s n).dev = s.dev ∧ (writeCaptured s n).clk =
    s.clk ∧ (writeCaptured s n).eng = s.eng ∧ (writeCaptured s n).trust = s.trust ∧ (writeCaptured s n).lockoutRec =
    s.lockoutRec ∧ (writeCaptured s n).rop = s.rop ∧ (writeCaptured s n).eth = s.eth ∧ (writeCaptured s n).pool =
    s.pool ∧ (writeCaptured s n).link = s.link ∧ (writeCaptured s n).bus = s.bus ∧ (writeCaptured s n).aux = s.aux ∧
    (writeCaptured s n).refMon = s.refMon ∧ (writeCaptured s n).trig = s.trig ∧ (writeCaptured s n).ronko = s.ronko ∧
    (writeCaptured s n).fsp = s.fsp ∧ (writeCaptured s n).xip = s.xip ∧ (writeCaptured s n).now = s.now ∧
    (writeCaptured s n).answer = s.answer ∧ (writeCaptured s n).emit = s.emit ∧ (writeCaptured s n).free = s.free ∧
    (writeCaptured s n).pending = s.pending := by unfold writeCaptured; simp only []; (repeat' split) <;> simp_all

@[simp] theorem writeKept_frame (s : State) : (writeKept s).otp = s.otp ∧ (writeKept s).ident = s.ident ∧ (writeKept
    s).power = s.power ∧ (writeKept s).dev = s.dev ∧ (writeKept s).clk = s.clk ∧ (writeKept s).eng = s.eng ∧
    (writeKept s).ch = s.ch ∧ (writeKept s).trust = s.trust ∧ (writeKept s).lockoutRec = s.lockoutRec ∧ (writeKept
    s).rop = s.rop ∧ (writeKept s).eth = s.eth ∧ (writeKept s).pool = s.pool ∧ (writeKept s).link = s.link ∧
    (writeKept s).bus = s.bus ∧ (writeKept s).aux = s.aux ∧ (writeKept s).refMon = s.refMon ∧ (writeKept s).trig =
    s.trig ∧ (writeKept s).ronko = s.ronko ∧ (writeKept s).xip = s.xip ∧ (writeKept s).now = s.now ∧ (writeKept
    s).answer = s.answer ∧ (writeKept s).emit = s.emit ∧ (writeKept s).free = s.free ∧ (writeKept s).pending =
    s.pending := by unfold writeKept; split <;> simp

@[simp] theorem servePort_frame (s : State) (q : Nat) : (servePort s q).otp = s.otp ∧ (servePort s q).ident = s.ident
    ∧ (servePort s q).power = s.power ∧ (servePort s q).dev = s.dev ∧ (servePort s q).clk = s.clk ∧ (servePort s
    q).eng = s.eng ∧ (servePort s q).trust = s.trust ∧ (servePort s q).lockoutRec = s.lockoutRec ∧ (servePort s q).rop
    = s.rop ∧ (servePort s q).pool = s.pool ∧ (servePort s q).link = s.link ∧ (servePort s q).bus = s.bus ∧ (servePort
    s q).aux = s.aux ∧ (servePort s q).refMon = s.refMon ∧ (servePort s q).trig = s.trig ∧ (servePort s q).ronko =
    s.ronko ∧ (servePort s q).xip = s.xip ∧ (servePort s q).now = s.now ∧ (servePort s q).answer = s.answer ∧
    (servePort s q).emit = s.emit ∧ (servePort s q).free = s.free ∧ (servePort s q).pending = s.pending := by unfold servePort; split <;> simp

@[simp] theorem grantPort_frame (s : State) (q cost : Nat) (extra : List Nat) : (grantPort s q cost extra).otp = s.otp
    ∧ (grantPort s q cost extra).ident = s.ident ∧ (grantPort s q cost extra).power = s.power ∧ (grantPort s q cost
    extra).dev = s.dev ∧ (grantPort s q cost extra).clk = s.clk ∧ (grantPort s q cost extra).eng = s.eng ∧ (grantPort
    s q cost extra).ch = s.ch ∧ (grantPort s q cost extra).trust = s.trust ∧ (grantPort s q cost extra).lockoutRec =
    s.lockoutRec ∧ (grantPort s q cost extra).rop = s.rop ∧ (grantPort s q cost extra).eth = s.eth ∧ (grantPort s q
    cost extra).badger = s.badger ∧ (grantPort s q cost extra).events = s.events ∧ (grantPort s q cost extra).hamper =
    s.hamper ∧ (grantPort s q cost extra).aux = s.aux ∧ (grantPort s q cost extra).refMon = s.refMon ∧ (grantPort s q
    cost extra).trig = s.trig ∧ (grantPort s q cost extra).ronko = s.ronko ∧ (grantPort s q cost extra).fsp = s.fsp ∧
    (grantPort s q cost extra).xip = s.xip ∧ (grantPort s q cost extra).mgp = s.mgp ∧ (grantPort s q cost extra).now =
    s.now ∧ (grantPort s q cost extra).answer = s.answer ∧ (grantPort s q cost extra).emit = s.emit ∧ (grantPort s q
    cost extra).free = s.free ∧ (grantPort s q cost extra).pending = s.pending := by simp [grantPort]

@[simp] theorem finishPort_frame (s : State) (extra : List Nat) : (finishPort s extra).otp = s.otp ∧ (finishPort s
    extra).ident = s.ident ∧ (finishPort s extra).power = s.power ∧ (finishPort s extra).dev = s.dev ∧ (finishPort s
    extra).clk = s.clk ∧ (finishPort s extra).eng = s.eng ∧ (finishPort s extra).trust = s.trust ∧ (finishPort s
    extra).lockoutRec = s.lockoutRec ∧ (finishPort s extra).rop = s.rop ∧ (finishPort s extra).aux = s.aux ∧
    (finishPort s extra).refMon = s.refMon ∧ (finishPort s extra).trig = s.trig ∧ (finishPort s extra).ronko = s.ronko
    ∧ (finishPort s extra).xip = s.xip ∧ (finishPort s extra).now = s.now ∧ (finishPort s extra).answer = s.answer ∧
    (finishPort s extra).emit = s.emit ∧ (finishPort s extra).pending = s.pending := by unfold finishPort; split <;> simp

@[simp] theorem portTurn_frame (q n : Nat) (s : State) : (portTurn q n s).otp = s.otp ∧ (portTurn q n s).ident =
    s.ident ∧ (portTurn q n s).power = s.power ∧ (portTurn q n s).dev = s.dev ∧ (portTurn q n s).clk = s.clk ∧
    (portTurn q n s).eng = s.eng ∧ (portTurn q n s).trust = s.trust ∧ (portTurn q n s).lockoutRec = s.lockoutRec ∧
    (portTurn q n s).rop = s.rop ∧ (portTurn q n s).aux = s.aux ∧ (portTurn q n s).refMon = s.refMon ∧ (portTurn q n
    s).trig = s.trig ∧ (portTurn q n s).ronko = s.ronko ∧ (portTurn q n s).xip = s.xip ∧ (portTurn q n s).now = s.now
    ∧ (portTurn q n s).answer = s.answer ∧ (portTurn q n s).emit = s.emit ∧ (portTurn q n s).pending = s.pending := by
  induction n generalizing s with
  | zero => simp [portTurn]
  | succ n ih =>
    rw [portTurn]; split
    · split <;> simp [ih]
    · simp

@[simp] theorem portGrant_frame (q cost : Nat) (s : State) : (portGrant q cost s).otp = s.otp ∧ (portGrant q cost
    s).ident = s.ident ∧ (portGrant q cost s).power = s.power ∧ (portGrant q cost s).dev = s.dev ∧ (portGrant q cost
    s).clk = s.clk ∧ (portGrant q cost s).eng = s.eng ∧ (portGrant q cost s).trust = s.trust ∧ (portGrant q cost
    s).lockoutRec = s.lockoutRec ∧ (portGrant q cost s).rop = s.rop ∧ (portGrant q cost s).aux = s.aux ∧ (portGrant q
    cost s).refMon = s.refMon ∧ (portGrant q cost s).trig = s.trig ∧ (portGrant q cost s).ronko = s.ronko ∧ (portGrant
    q cost s).xip = s.xip ∧ (portGrant q cost s).now = s.now ∧ (portGrant q cost s).answer = s.answer ∧ (portGrant q
    cost s).emit = s.emit ∧ (portGrant q cost s).pending = s.pending := by simp [portGrant]

@[simp] theorem portRest_frame (q k : Nat) (s : State) : (portRest q k s).otp = s.otp ∧ (portRest q k s).ident =
    s.ident ∧ (portRest q k s).power = s.power ∧ (portRest q k s).dev = s.dev ∧ (portRest q k s).clk = s.clk ∧
    (portRest q k s).eng = s.eng ∧ (portRest q k s).trust = s.trust ∧ (portRest q k s).lockoutRec = s.lockoutRec ∧
    (portRest q k s).rop = s.rop ∧ (portRest q k s).aux = s.aux ∧ (portRest q k s).refMon = s.refMon ∧ (portRest q k
    s).trig = s.trig ∧ (portRest q k s).ronko = s.ronko ∧ (portRest q k s).xip = s.xip ∧ (portRest q k s).now = s.now
    ∧ (portRest q k s).answer = s.answer ∧ (portRest q k s).emit = s.emit ∧ (portRest q k s).pending = s.pending := by simp [portRest]

@[simp] theorem storeBundles_frame (n : Nat) (s : State) (num : Nat) (recs : List (List Byte)) : (storeBundles n s num
    recs).otp = s.otp ∧ (storeBundles n s num recs).ident = s.ident ∧ (storeBundles n s num recs).power = s.power ∧
    (storeBundles n s num recs).dev = s.dev ∧ (storeBundles n s num recs).clk = s.clk ∧ (storeBundles n s num
    recs).eng = s.eng ∧ (storeBundles n s num recs).ch = s.ch ∧ (storeBundles n s num recs).trust = s.trust ∧
    (storeBundles n s num recs).lockoutRec = s.lockoutRec ∧ (storeBundles n s num recs).rop = s.rop ∧ (storeBundles n
    s num recs).eth = s.eth ∧ (storeBundles n s num recs).pool = s.pool ∧ (storeBundles n s num recs).link = s.link ∧
    (storeBundles n s num recs).bus = s.bus ∧ (storeBundles n s num recs).aux = s.aux ∧ (storeBundles n s num
    recs).refMon = s.refMon ∧ (storeBundles n s num recs).trig = s.trig ∧ (storeBundles n s num recs).ronko = s.ronko
    ∧ (storeBundles n s num recs).fsp = s.fsp ∧ (storeBundles n s num recs).xip = s.xip ∧ (storeBundles n s num
    recs).now = s.now ∧ (storeBundles n s num recs).answer = s.answer ∧ (storeBundles n s num recs).emit = s.emit ∧
    (storeBundles n s num recs).free = s.free ∧ (storeBundles n s num recs).pending = s.pending := by
  induction n generalizing s recs with
  | zero => simp [storeBundles]
  | succ n ih =>
    rw [storeBundles]; split
    · simp
    · split <;> simp [ih]

@[simp] theorem appTurn_frame (s : State) (r : Ring) (recs : List (List Byte)) : (appTurn s r recs).1.otp = s.otp ∧
    (appTurn s r recs).1.ident = s.ident ∧ (appTurn s r recs).1.power = s.power ∧ (appTurn s r recs).1.dev = s.dev ∧
    (appTurn s r recs).1.clk = s.clk ∧ (appTurn s r recs).1.eng = s.eng ∧ (appTurn s r recs).1.trust = s.trust ∧
    (appTurn s r recs).1.lockoutRec = s.lockoutRec ∧ (appTurn s r recs).1.rop = s.rop ∧ (appTurn s r recs).1.aux =
    s.aux ∧ (appTurn s r recs).1.refMon = s.refMon ∧ (appTurn s r recs).1.trig = s.trig ∧ (appTurn s r recs).1.ronko =
    s.ronko ∧ (appTurn s r recs).1.xip = s.xip ∧ (appTurn s r recs).1.now = s.now ∧ (appTurn s r recs).1.answer =
    s.answer ∧ (appTurn s r recs).1.emit = s.emit ∧ (appTurn s r recs).1.pending = s.pending := by unfold appTurn; simp only []; (repeat' split) <;> simp_all

@[simp] theorem doWriteRing_frame (who : Requester) (num : Nat) (ty : Byte) (data : List Byte) (s : State) :
    (doWriteRing who num ty data s).otp = s.otp ∧ (doWriteRing who num ty data s).ident = s.ident ∧ (doWriteRing who
    num ty data s).power = s.power ∧ (doWriteRing who num ty data s).dev = s.dev ∧ (doWriteRing who num ty data s).clk
    = s.clk ∧ (doWriteRing who num ty data s).eng = s.eng ∧ (doWriteRing who num ty data s).trust = s.trust ∧
    (doWriteRing who num ty data s).lockoutRec = s.lockoutRec ∧ (doWriteRing who num ty data s).rop = s.rop ∧
    (doWriteRing who num ty data s).aux = s.aux ∧ (doWriteRing who num ty data s).refMon = s.refMon ∧ (doWriteRing who
    num ty data s).trig = s.trig ∧ (doWriteRing who num ty data s).ronko = s.ronko ∧ (doWriteRing who num ty data
    s).xip = s.xip ∧ (doWriteRing who num ty data s).now = s.now ∧ (doWriteRing who num ty data s).emit = s.emit ∧
    (doWriteRing who num ty data s).pending = s.pending := by
  unfold doWriteRing; simp only []; split
  · simp
  · split
    · simp
    · rename_i r _
      split
      · simp
      · have h := appTurn_frame (checkDesc s num) r (cutRecs r.recSize (data.length / r.recSize) data)
        generalize appTurn (checkDesc s num) r (cutRecs r.recSize (data.length / r.recSize) data) = y at h ⊢
        obtain ⟨t, o⟩ := y
        cases o <;> (simp only at h; simp [h])

@[simp] theorem readMarker_frame (s : State) (who : Requester) (r : Ring) : (readMarker s who r).otp = s.otp ∧
    (readMarker s who r).ident = s.ident ∧ (readMarker s who r).power = s.power ∧ (readMarker s who r).dev = s.dev ∧
    (readMarker s who r).clk = s.clk ∧ (readMarker s who r).eng = s.eng ∧ (readMarker s who r).ch = s.ch ∧ (readMarker
    s who r).trust = s.trust ∧ (readMarker s who r).lockoutRec = s.lockoutRec ∧ (readMarker s who r).eth = s.eth ∧
    (readMarker s who r).events = s.events ∧ (readMarker s who r).pool = s.pool ∧ (readMarker s who r).link = s.link ∧
    (readMarker s who r).bus = s.bus ∧ (readMarker s who r).aux = s.aux ∧ (readMarker s who r).refMon = s.refMon ∧
    (readMarker s who r).trig = s.trig ∧ (readMarker s who r).ronko = s.ronko ∧ (readMarker s who r).fsp = s.fsp ∧
    (readMarker s who r).xip = s.xip ∧ (readMarker s who r).mgp = s.mgp ∧ (readMarker s who r).now = s.now ∧
    (readMarker s who r).answer = s.answer ∧ (readMarker s who r).emit = s.emit ∧ (readMarker s who r).free = s.free ∧
    (readMarker s who r).pending = s.pending := by
  unfold readMarker; extract_lets clear atHead
  cases atHead with
  | true =>
    simp only [if_true]
    split <;> (rename_i h; have h := congrArg Prod.fst h; simp only at h; simp [← h])
  | false => simp [clear]

@[simp] theorem doReadRing_frame (who : Requester) (num room : Nat) (ty : Byte) (data : List Byte) (s : State) :
    (doReadRing who num room ty data s).otp = s.otp ∧ (doReadRing who num room ty data s).ident = s.ident ∧
    (doReadRing who num room ty data s).power = s.power ∧ (doReadRing who num room ty data s).dev = s.dev ∧
    (doReadRing who num room ty data s).clk = s.clk ∧ (doReadRing who num room ty data s).eng = s.eng ∧ (doReadRing
    who num room ty data s).ch = s.ch ∧ (doReadRing who num room ty data s).trust = s.trust ∧ (doReadRing who num room
    ty data s).lockoutRec = s.lockoutRec ∧ (doReadRing who num room ty data s).eth = s.eth ∧ (doReadRing who num room
    ty data s).events = s.events ∧ (doReadRing who num room ty data s).pool = s.pool ∧ (doReadRing who num room ty
    data s).link = s.link ∧ (doReadRing who num room ty data s).bus = s.bus ∧ (doReadRing who num room ty data s).aux
    = s.aux ∧ (doReadRing who num room ty data s).refMon = s.refMon ∧ (doReadRing who num room ty data s).trig =
    s.trig ∧ (doReadRing who num room ty data s).ronko = s.ronko ∧ (doReadRing who num room ty data s).fsp = s.fsp ∧
    (doReadRing who num room ty data s).xip = s.xip ∧ (doReadRing who num room ty data s).mgp = s.mgp ∧ (doReadRing
    who num room ty data s).now = s.now ∧ (doReadRing who num room ty data s).emit = s.emit ∧ (doReadRing who num room
    ty data s).free = s.free ∧ (doReadRing who num room ty data s).pending = s.pending := by
  unfold doReadRing; extract_lets a b code
  split
  · simp [a]
  · split <;> simp [a]

@[simp] theorem State.modRingPort_frame (s : State) (m : Master) (f : RingPort → RingPort) : (State.modRingPort s m
    f).otp = s.otp ∧ (State.modRingPort s m f).ident = s.ident ∧ (State.modRingPort s m f).power = s.power ∧
    (State.modRingPort s m f).dev = s.dev ∧ (State.modRingPort s m f).clk = s.clk ∧ (State.modRingPort s m f).eng =
    s.eng ∧ (State.modRingPort s m f).ch = s.ch ∧ (State.modRingPort s m f).trust = s.trust ∧ (State.modRingPort s m
    f).lockoutRec = s.lockoutRec ∧ (State.modRingPort s m f).rop = s.rop ∧ (State.modRingPort s m f).eth = s.eth ∧
    (State.modRingPort s m f).badger = s.badger ∧ (State.modRingPort s m f).events = s.events ∧ (State.modRingPort s m
    f).pool = s.pool ∧ (State.modRingPort s m f).link = s.link ∧ (State.modRingPort s m f).bus = s.bus ∧
    (State.modRingPort s m f).aux = s.aux ∧ (State.modRingPort s m f).refMon = s.refMon ∧ (State.modRingPort s m
    f).trig = s.trig ∧ (State.modRingPort s m f).ronko = s.ronko ∧ (State.modRingPort s m f).fsp = s.fsp ∧
    (State.modRingPort s m f).xip = s.xip ∧ (State.modRingPort s m f).mgp = s.mgp ∧ (State.modRingPort s m f).now =
    s.now ∧ (State.modRingPort s m f).answer = s.answer ∧ (State.modRingPort s m f).emit = s.emit ∧ (State.modRingPort
    s m f).free = s.free ∧ (State.modRingPort s m f).pending = s.pending := by unfold State.modRingPort; split <;> simp

@[simp] theorem pushGo_frame (m : Master) (cont asHost : Bool) (s : State) : (pushGo m cont asHost s).otp = s.otp ∧
    (pushGo m cont asHost s).ident = s.ident ∧ (pushGo m cont asHost s).power = s.power ∧ (pushGo m cont asHost s).dev
    = s.dev ∧ (pushGo m cont asHost s).clk = s.clk ∧ (pushGo m cont asHost s).eng = s.eng ∧ (pushGo m cont asHost
    s).trust = s.trust ∧ (pushGo m cont asHost s).lockoutRec = s.lockoutRec ∧ (pushGo m cont asHost s).rop = s.rop ∧
    (pushGo m cont asHost s).aux = s.aux ∧ (pushGo m cont asHost s).refMon = s.refMon ∧ (pushGo m cont asHost s).trig
    = s.trig ∧ (pushGo m cont asHost s).ronko = s.ronko ∧ (pushGo m cont asHost s).xip = s.xip ∧ (pushGo m cont asHost
    s).now = s.now ∧ (pushGo m cont asHost s).answer = s.answer ∧ (pushGo m cont asHost s).emit = s.emit ∧ (pushGo m
    cont asHost s).pending = s.pending := by unfold pushGo; simp only []; (repeat' split) <;> simp_all

@[simp] theorem popGo_frame (m : Master) (asHost : Bool) (s : State) : (popGo m asHost s).otp = s.otp ∧ (popGo m
    asHost s).ident = s.ident ∧ (popGo m asHost s).power = s.power ∧ (popGo m asHost s).dev = s.dev ∧ (popGo m asHost
    s).clk = s.clk ∧ (popGo m asHost s).eng = s.eng ∧ (popGo m asHost s).ch = s.ch ∧ (popGo m asHost s).trust =
    s.trust ∧ (popGo m asHost s).lockoutRec = s.lockoutRec ∧ (popGo m asHost s).rop = s.rop ∧ (popGo m asHost s).eth =
    s.eth ∧ (popGo m asHost s).events = s.events ∧ (popGo m asHost s).pool = s.pool ∧ (popGo m asHost s).link = s.link
    ∧ (popGo m asHost s).bus = s.bus ∧ (popGo m asHost s).aux = s.aux ∧ (popGo m asHost s).refMon = s.refMon ∧ (popGo
    m asHost s).trig = s.trig ∧ (popGo m asHost s).ronko = s.ronko ∧ (popGo m asHost s).fsp = s.fsp ∧ (popGo m asHost
    s).xip = s.xip ∧ (popGo m asHost s).mgp = s.mgp ∧ (popGo m asHost s).now = s.now ∧ (popGo m asHost s).answer =
    s.answer ∧ (popGo m asHost s).emit = s.emit ∧ (popGo m asHost s).free = s.free ∧ (popGo m asHost s).pending =
    s.pending := by
  unfold popGo; simp only []; split
  · simp
  · rename_i r _
    have := popHead_frame (checkDesc s (s.hamper.portOf m).popRing) r
    split
    · simp
    · split <;> simp_all

end Sys2Proof.Machine
end

