-- ==== Sys2Proof/Laws/FrameChannel.lean ====
section
/-! SUPPORT. Frames: which parts of the state an operation leaves alone, once for each operation (one channel: outputs, conversion, sweep, modes and ranges). -/

namespace Sys2Proof.Machine

/-! ### Output -/

@[simp] theorem clampTrip_frame (s : State) (n : Ch) (p : ClampPath) : (clampTrip s n p).otp = s.otp ∧ (clampTrip s n
    p).ident = s.ident ∧ (clampTrip s n p).power = s.power ∧ (clampTrip s n p).dev = s.dev ∧ (clampTrip s n p).clk =
    s.clk ∧ (clampTrip s n p).eng = s.eng ∧ (clampTrip s n p).trust = s.trust ∧ (clampTrip s n p).lockoutRec =
    s.lockoutRec ∧ (clampTrip s n p).rop = s.rop ∧ (clampTrip s n p).eth = s.eth ∧ (clampTrip s n p).events = s.events
    ∧ (clampTrip s n p).hamper = s.hamper ∧ (clampTrip s n p).pool = s.pool ∧ (clampTrip s n p).link = s.link ∧
    (clampTrip s n p).bus = s.bus ∧ (clampTrip s n p).aux = s.aux ∧ (clampTrip s n p).refMon = s.refMon ∧ (clampTrip s
    n p).trig = s.trig ∧ (clampTrip s n p).ronko = s.ronko ∧ (clampTrip s n p).fsp = s.fsp ∧ (clampTrip s n p).xip =
    s.xip ∧ (clampTrip s n p).mgp = s.mgp ∧ (clampTrip s n p).now = s.now ∧ (clampTrip s n p).answer = s.answer ∧
    (clampTrip s n p).emit = s.emit ∧ (clampTrip s n p).free = s.free ∧ (clampTrip s n p).pending = s.pending := by simp [clampTrip]

@[simp] theorem firePulse_frame (s : State) (src arg : Nat) : (firePulse s src arg).otp = s.otp ∧ (firePulse s src
    arg).ident = s.ident ∧ (firePulse s src arg).power = s.power ∧ (firePulse s src arg).dev = s.dev ∧ (firePulse s
    src arg).clk = s.clk ∧ (firePulse s src arg).eng = s.eng ∧ (firePulse s src arg).ch = s.ch ∧ (firePulse s src
    arg).trust = s.trust ∧ (firePulse s src arg).lockoutRec = s.lockoutRec ∧ (firePulse s src arg).rop = s.rop ∧
    (firePulse s src arg).eth = s.eth ∧ (firePulse s src arg).badger = s.badger ∧ (firePulse s src arg).events =
    s.events ∧ (firePulse s src arg).hamper = s.hamper ∧ (firePulse s src arg).pool = s.pool ∧ (firePulse s src
    arg).link = s.link ∧ (firePulse s src arg).bus = s.bus ∧ (firePulse s src arg).aux = s.aux ∧ (firePulse s src
    arg).refMon = s.refMon ∧ (firePulse s src arg).ronko = s.ronko ∧ (firePulse s src arg).fsp = s.fsp ∧ (firePulse s
    src arg).xip = s.xip ∧ (firePulse s src arg).mgp = s.mgp ∧ (firePulse s src arg).now = s.now ∧ (firePulse s src
    arg).answer = s.answer ∧ (firePulse s src arg).emit = s.emit ∧ (firePulse s src arg).free = s.free ∧ (firePulse s
    src arg).pending = s.pending := by simp [firePulse]

/-! ### Programs -/

@[simp] theorem admitSet_frame (s : State) (e : Eng) : (admitSet s e).otp = s.otp ∧ (admitSet s e).ident = s.ident ∧
    (admitSet s e).power = s.power ∧ (admitSet s e).dev = s.dev ∧ (admitSet s e).clk = s.clk ∧ (admitSet s e).ch =
    s.ch ∧ (admitSet s e).trust = s.trust ∧ (admitSet s e).lockoutRec = s.lockoutRec ∧ (admitSet s e).rop = s.rop ∧
    (admitSet s e).eth = s.eth ∧ (admitSet s e).badger = s.badger ∧ (admitSet s e).events = s.events ∧ (admitSet s
    e).hamper = s.hamper ∧ (admitSet s e).pool = s.pool ∧ (admitSet s e).link = s.link ∧ (admitSet s e).bus = s.bus ∧
    (admitSet s e).aux = s.aux ∧ (admitSet s e).refMon = s.refMon ∧ (admitSet s e).trig = s.trig ∧ (admitSet s
    e).ronko = s.ronko ∧ (admitSet s e).fsp = s.fsp ∧ (admitSet s e).xip = s.xip ∧ (admitSet s e).mgp = s.mgp ∧
    (admitSet s e).now = s.now ∧ (admitSet s e).answer = s.answer ∧ (admitSet s e).emit = s.emit ∧ (admitSet s e).free
    = s.free ∧ (admitSet s e).pending = s.pending :=
    ⟨rfl, rfl, rfl, rfl, rfl, rfl, rfl, rfl, rfl, rfl, rfl, rfl, rfl, rfl, rfl, rfl, rfl, rfl, rfl, rfl, rfl, rfl, rfl,
    rfl, rfl, rfl, rfl, rfl⟩

/-! ### Motion -/

@[simp] theorem feReport_frame (s : State) (n : Ch) : (feReport s n).otp = s.otp ∧ (feReport s n).ident = s.ident ∧
    (feReport s n).power = s.power ∧ (feReport s n).dev = s.dev ∧ (feReport s n).clk = s.clk ∧ (feReport s n).eng =
    s.eng ∧ (feReport s n).trust = s.trust ∧ (feReport s n).lockoutRec = s.lockoutRec ∧ (feReport s n).rop = s.rop ∧
    (feReport s n).eth = s.eth ∧ (feReport s n).events = s.events ∧ (feReport s n).hamper = s.hamper ∧ (feReport s
    n).pool = s.pool ∧ (feReport s n).link = s.link ∧ (feReport s n).bus = s.bus ∧ (feReport s n).aux = s.aux ∧
    (feReport s n).refMon = s.refMon ∧ (feReport s n).trig = s.trig ∧ (feReport s n).ronko = s.ronko ∧ (feReport s
    n).fsp = s.fsp ∧ (feReport s n).xip = s.xip ∧ (feReport s n).mgp = s.mgp ∧ (feReport s n).now = s.now ∧ (feReport
    s n).answer = s.answer ∧ (feReport s n).emit = s.emit ∧ (feReport s n).free = s.free ∧ (feReport s n).pending =
    s.pending := by simp [feReport]

@[simp] theorem superviseAgain_frame (s : State) (n : Ch) : (superviseAgain s n).otp = s.otp ∧ (superviseAgain s
    n).ident = s.ident ∧ (superviseAgain s n).power = s.power ∧ (superviseAgain s n).dev = s.dev ∧ (superviseAgain s
    n).clk = s.clk ∧ (superviseAgain s n).eng = s.eng ∧ (superviseAgain s n).trust = s.trust ∧ (superviseAgain s
    n).lockoutRec = s.lockoutRec ∧ (superviseAgain s n).rop = s.rop ∧ (superviseAgain s n).eth = s.eth ∧
    (superviseAgain s n).badger = s.badger ∧ (superviseAgain s n).events = s.events ∧ (superviseAgain s n).hamper =
    s.hamper ∧ (superviseAgain s n).pool = s.pool ∧ (superviseAgain s n).link = s.link ∧ (superviseAgain s n).bus =
    s.bus ∧ (superviseAgain s n).aux = s.aux ∧ (superviseAgain s n).refMon = s.refMon ∧ (superviseAgain s n).trig =
    s.trig ∧ (superviseAgain s n).ronko = s.ronko ∧ (superviseAgain s n).fsp = s.fsp ∧ (superviseAgain s n).xip =
    s.xip ∧ (superviseAgain s n).mgp = s.mgp ∧ (superviseAgain s n).now = s.now ∧ (superviseAgain s n).answer =
    s.answer ∧ (superviseAgain s n).emit = s.emit ∧ (superviseAgain s n).free = s.free ∧ (superviseAgain s n).pending
    = s.pending :=
    ⟨rfl, rfl, rfl, rfl, rfl, rfl, rfl, rfl, rfl, rfl, rfl, rfl, rfl, rfl, rfl, rfl, rfl, rfl, rfl, rfl, rfl, rfl, rfl,
    rfl, rfl, rfl, rfl, rfl⟩

@[simp] theorem oscReport_frame (s : State) (n : Ch) : (oscReport s n).otp = s.otp ∧ (oscReport s n).ident = s.ident ∧
    (oscReport s n).power = s.power ∧ (oscReport s n).dev = s.dev ∧ (oscReport s n).clk = s.clk ∧ (oscReport s n).eng
    = s.eng ∧ (oscReport s n).trust = s.trust ∧ (oscReport s n).lockoutRec = s.lockoutRec ∧ (oscReport s n).rop =
    s.rop ∧ (oscReport s n).eth = s.eth ∧ (oscReport s n).events = s.events ∧ (oscReport s n).hamper = s.hamper ∧
    (oscReport s n).pool = s.pool ∧ (oscReport s n).link = s.link ∧ (oscReport s n).bus = s.bus ∧ (oscReport s n).aux
    = s.aux ∧ (oscReport s n).refMon = s.refMon ∧ (oscReport s n).trig = s.trig ∧ (oscReport s n).ronko = s.ronko ∧
    (oscReport s n).fsp = s.fsp ∧ (oscReport s n).xip = s.xip ∧ (oscReport s n).mgp = s.mgp ∧ (oscReport s n).now =
    s.now ∧ (oscReport s n).answer = s.answer ∧ (oscReport s n).emit = s.emit ∧ (oscReport s n).free = s.free ∧
    (oscReport s n).pending = s.pending := by simp [oscReport]

/-! ### Lac -/

@[simp] theorem closeSegment_frame (s : State) (n : Ch) : (closeSegment s n).otp = s.otp ∧ (closeSegment s n).ident =
    s.ident ∧ (closeSegment s n).power = s.power ∧ (closeSegment s n).dev = s.dev ∧ (closeSegment s n).clk = s.clk ∧
    (closeSegment s n).eng = s.eng ∧ (closeSegment s n).trust = s.trust ∧ (closeSegment s n).lockoutRec = s.lockoutRec
    ∧ (closeSegment s n).rop = s.rop ∧ (closeSegment s n).eth = s.eth ∧ (closeSegment s n).badger = s.badger ∧
    (closeSegment s n).pool = s.pool ∧ (closeSegment s n).link = s.link ∧ (closeSegment s n).bus = s.bus ∧
    (closeSegment s n).aux = s.aux ∧ (closeSegment s n).refMon = s.refMon ∧ (closeSegment s n).trig = s.trig ∧
    (closeSegment s n).ronko = s.ronko ∧ (closeSegment s n).fsp = s.fsp ∧ (closeSegment s n).xip = s.xip ∧
    (closeSegment s n).mgp = s.mgp ∧ (closeSegment s n).now = s.now ∧ (closeSegment s n).answer = s.answer ∧
    (closeSegment s n).emit = s.emit ∧ (closeSegment s n).free = s.free ∧ (closeSegment s n).pending = s.pending := by unfold closeSegment; simp only []; (repeat' split) <;> simp_all

/-! ### Convert -/

@[simp] theorem stageWords_frame (s : State) (src : HwSource) (ws : List Word) : (stageWords s src ws).otp = s.otp ∧
    (stageWords s src ws).ident = s.ident ∧ (stageWords s src ws).power = s.power ∧ (stageWords s src ws).dev = s.dev
    ∧ (stageWords s src ws).clk = s.clk ∧ (stageWords s src ws).eng = s.eng ∧ (stageWords s src ws).ch = s.ch ∧
    (stageWords s src ws).trust = s.trust ∧ (stageWords s src ws).lockoutRec = s.lockoutRec ∧ (stageWords s src
    ws).rop = s.rop ∧ (stageWords s src ws).eth = s.eth ∧ (stageWords s src ws).badger = s.badger ∧ (stageWords s src
    ws).pool = s.pool ∧ (stageWords s src ws).link = s.link ∧ (stageWords s src ws).bus = s.bus ∧ (stageWords s src
    ws).aux = s.aux ∧ (stageWords s src ws).refMon = s.refMon ∧ (stageWords s src ws).trig = s.trig ∧ (stageWords s
    src ws).ronko = s.ronko ∧ (stageWords s src ws).fsp = s.fsp ∧ (stageWords s src ws).xip = s.xip ∧ (stageWords s
    src ws).mgp = s.mgp ∧ (stageWords s src ws).now = s.now ∧ (stageWords s src ws).answer = s.answer ∧ (stageWords s
    src ws).emit = s.emit ∧ (stageWords s src ws).free = s.free ∧ (stageWords s src ws).pending = s.pending := by unfold stageWords; split <;> simp

@[simp] theorem streamTick_frame (s : State) (n : Ch) : (streamTick s n).otp = s.otp ∧ (streamTick s n).ident =
    s.ident ∧ (streamTick s n).power = s.power ∧ (streamTick s n).dev = s.dev ∧ (streamTick s n).clk = s.clk ∧
    (streamTick s n).eng = s.eng ∧ (streamTick s n).trust = s.trust ∧ (streamTick s n).lockoutRec = s.lockoutRec ∧
    (streamTick s n).rop = s.rop ∧ (streamTick s n).eth = s.eth ∧ (streamTick s n).badger = s.badger ∧ (streamTick s
    n).pool = s.pool ∧ (streamTick s n).link = s.link ∧ (streamTick s n).bus = s.bus ∧ (streamTick s n).aux = s.aux ∧
    (streamTick s n).refMon = s.refMon ∧ (streamTick s n).trig = s.trig ∧ (streamTick s n).ronko = s.ronko ∧
    (streamTick s n).fsp = s.fsp ∧ (streamTick s n).xip = s.xip ∧ (streamTick s n).mgp = s.mgp ∧ (streamTick s n).now
    = s.now ∧ (streamTick s n).answer = s.answer ∧ (streamTick s n).emit = s.emit ∧ (streamTick s n).free = s.free ∧
    (streamTick s n).pending = s.pending := by simp [streamTick]

@[simp] theorem startPoint_frame (s : State) (n : Ch) (point : Nat) : (startPoint s n point).otp = s.otp ∧ (startPoint
    s n point).ident = s.ident ∧ (startPoint s n point).power = s.power ∧ (startPoint s n point).dev = s.dev ∧
    (startPoint s n point).clk = s.clk ∧ (startPoint s n point).eng = s.eng ∧ (startPoint s n point).trust = s.trust ∧
    (startPoint s n point).lockoutRec = s.lockoutRec ∧ (startPoint s n point).rop = s.rop ∧ (startPoint s n point).eth
    = s.eth ∧ (startPoint s n point).badger = s.badger ∧ (startPoint s n point).events = s.events ∧ (startPoint s n
    point).hamper = s.hamper ∧ (startPoint s n point).pool = s.pool ∧ (startPoint s n point).link = s.link ∧
    (startPoint s n point).bus = s.bus ∧ (startPoint s n point).aux = s.aux ∧ (startPoint s n point).trig = s.trig ∧
    (startPoint s n point).ronko = s.ronko ∧ (startPoint s n point).fsp = s.fsp ∧ (startPoint s n point).xip = s.xip ∧
    (startPoint s n point).mgp = s.mgp ∧ (startPoint s n point).now = s.now ∧ (startPoint s n point).answer = s.answer
    ∧ (startPoint s n point).emit = s.emit ∧ (startPoint s n point).free = s.free ∧ (startPoint s n point).pending =
    s.pending :=
    ⟨rfl, rfl, rfl, rfl, rfl, rfl, rfl, rfl, rfl, rfl, rfl, rfl, rfl, rfl, rfl, rfl, rfl, rfl, rfl, rfl, rfl, rfl, rfl,
    rfl, rfl, rfl, rfl⟩

@[simp] theorem computeWith_frame (s : State) (n : Ch) (method : Nat) (ds : F64 × F64) : (computeWith s n method
    ds).otp = s.otp ∧ (computeWith s n method ds).ident = s.ident ∧ (computeWith s n method ds).power = s.power ∧
    (computeWith s n method ds).dev = s.dev ∧ (computeWith s n method ds).clk = s.clk ∧ (computeWith s n method
    ds).eng = s.eng ∧ (computeWith s n method ds).trust = s.trust ∧ (computeWith s n method ds).lockoutRec =
    s.lockoutRec ∧ (computeWith s n method ds).rop = s.rop ∧ (computeWith s n method ds).eth = s.eth ∧ (computeWith s
    n method ds).badger = s.badger ∧ (computeWith s n method ds).events = s.events ∧ (computeWith s n method
    ds).hamper = s.hamper ∧ (computeWith s n method ds).pool = s.pool ∧ (computeWith s n method ds).link = s.link ∧
    (computeWith s n method ds).bus = s.bus ∧ (computeWith s n method ds).aux = s.aux ∧ (computeWith s n method
    ds).trig = s.trig ∧ (computeWith s n method ds).ronko = s.ronko ∧ (computeWith s n method ds).fsp = s.fsp ∧
    (computeWith s n method ds).xip = s.xip ∧ (computeWith s n method ds).mgp = s.mgp ∧ (computeWith s n method
    ds).now = s.now ∧ (computeWith s n method ds).answer = s.answer ∧ (computeWith s n method ds).emit = s.emit ∧
    (computeWith s n method ds).free = s.free ∧ (computeWith s n method ds).pending = s.pending :=
    ⟨rfl, rfl, rfl, rfl, rfl, rfl, rfl, rfl, rfl, rfl, rfl, rfl, rfl, rfl, rfl, rfl, rfl, rfl, rfl, rfl, rfl, rfl, rfl,
    rfl, rfl, rfl, rfl⟩

@[simp] theorem startSlot_frame (s : State) : (startSlot s).otp = s.otp ∧ (startSlot s).ident = s.ident ∧ (startSlot
    s).power = s.power ∧ (startSlot s).dev = s.dev ∧ (startSlot s).clk = s.clk ∧ (startSlot s).eng = s.eng ∧
    (startSlot s).ch = s.ch ∧ (startSlot s).trust = s.trust ∧ (startSlot s).lockoutRec = s.lockoutRec ∧ (startSlot
    s).rop = s.rop ∧ (startSlot s).eth = s.eth ∧ (startSlot s).badger = s.badger ∧ (startSlot s).events = s.events ∧
    (startSlot s).hamper = s.hamper ∧ (startSlot s).pool = s.pool ∧ (startSlot s).link = s.link ∧ (startSlot s).bus =
    s.bus ∧ (startSlot s).refMon = s.refMon ∧ (startSlot s).trig = s.trig ∧ (startSlot s).ronko = s.ronko ∧ (startSlot
    s).fsp = s.fsp ∧ (startSlot s).xip = s.xip ∧ (startSlot s).mgp = s.mgp ∧ (startSlot s).now = s.now ∧ (startSlot
    s).answer = s.answer ∧ (startSlot s).emit = s.emit ∧ (startSlot s).free = s.free ∧ (startSlot s).pending =
    s.pending :=
    ⟨rfl, rfl, rfl, rfl, rfl, rfl, rfl, rfl, rfl, rfl, rfl, rfl, rfl, rfl, rfl, rfl, rfl, rfl, rfl, rfl, rfl, rfl, rfl,
    rfl, rfl, rfl, rfl, rfl⟩

@[simp] theorem auxDeliver_frame (s : State) (j : AuxJob) (code : W16) (refNr : Bool) : (auxDeliver s j code
    refNr).otp = s.otp ∧ (auxDeliver s j code refNr).ident = s.ident ∧ (auxDeliver s j code refNr).power = s.power ∧
    (auxDeliver s j code refNr).dev = s.dev ∧ (auxDeliver s j code refNr).clk = s.clk ∧ (auxDeliver s j code
    refNr).eng = s.eng ∧ (auxDeliver s j code refNr).trust = s.trust ∧ (auxDeliver s j code refNr).lockoutRec =
    s.lockoutRec ∧ (auxDeliver s j code refNr).rop = s.rop ∧ (auxDeliver s j code refNr).eth = s.eth ∧ (auxDeliver s j
    code refNr).badger = s.badger ∧ (auxDeliver s j code refNr).pool = s.pool ∧ (auxDeliver s j code refNr).link =
    s.link ∧ (auxDeliver s j code refNr).bus = s.bus ∧ (auxDeliver s j code refNr).refMon = s.refMon ∧ (auxDeliver s j
    code refNr).trig = s.trig ∧ (auxDeliver s j code refNr).ronko = s.ronko ∧ (auxDeliver s j code refNr).fsp = s.fsp
    ∧ (auxDeliver s j code refNr).xip = s.xip ∧ (auxDeliver s j code refNr).mgp = s.mgp ∧ (auxDeliver s j code
    refNr).now = s.now ∧ (auxDeliver s j code refNr).answer = s.answer ∧ (auxDeliver s j code refNr).emit = s.emit ∧
    (auxDeliver s j code refNr).free = s.free ∧ (auxDeliver s j code refNr).pending = s.pending := by unfold auxDeliver; (repeat' split) <;> simp

@[simp] theorem auxEntry_frame (s : State) (n : Ch) : (auxEntry s n).otp = s.otp ∧ (auxEntry s n).ident = s.ident ∧
    (auxEntry s n).power = s.power ∧ (auxEntry s n).dev = s.dev ∧ (auxEntry s n).clk = s.clk ∧ (auxEntry s n).eng =
    s.eng ∧ (auxEntry s n).trust = s.trust ∧ (auxEntry s n).lockoutRec = s.lockoutRec ∧ (auxEntry s n).rop = s.rop ∧
    (auxEntry s n).eth = s.eth ∧ (auxEntry s n).badger = s.badger ∧ (auxEntry s n).events = s.events ∧ (auxEntry s
    n).hamper = s.hamper ∧ (auxEntry s n).pool = s.pool ∧ (auxEntry s n).link = s.link ∧ (auxEntry s n).bus = s.bus ∧
    (auxEntry s n).refMon = s.refMon ∧ (auxEntry s n).trig = s.trig ∧ (auxEntry s n).ronko = s.ronko ∧ (auxEntry s
    n).fsp = s.fsp ∧ (auxEntry s n).xip = s.xip ∧ (auxEntry s n).mgp = s.mgp ∧ (auxEntry s n).now = s.now ∧ (auxEntry
    s n).answer = s.answer ∧ (auxEntry s n).emit = s.emit ∧ (auxEntry s n).free = s.free ∧ (auxEntry s n).pending =
    s.pending := by simp [auxEntry]

@[simp] theorem auxTick_frame (s : State) (n : Ch) : (auxTick s n).otp = s.otp ∧ (auxTick s n).ident = s.ident ∧
    (auxTick s n).power = s.power ∧ (auxTick s n).dev = s.dev ∧ (auxTick s n).clk = s.clk ∧ (auxTick s n).eng = s.eng
    ∧ (auxTick s n).trust = s.trust ∧ (auxTick s n).lockoutRec = s.lockoutRec ∧ (auxTick s n).rop = s.rop ∧ (auxTick s
    n).eth = s.eth ∧ (auxTick s n).badger = s.badger ∧ (auxTick s n).events = s.events ∧ (auxTick s n).hamper =
    s.hamper ∧ (auxTick s n).pool = s.pool ∧ (auxTick s n).link = s.link ∧ (auxTick s n).bus = s.bus ∧ (auxTick s
    n).refMon = s.refMon ∧ (auxTick s n).trig = s.trig ∧ (auxTick s n).ronko = s.ronko ∧ (auxTick s n).fsp = s.fsp ∧
    (auxTick s n).xip = s.xip ∧ (auxTick s n).mgp = s.mgp ∧ (auxTick s n).now = s.now ∧ (auxTick s n).answer =
    s.answer ∧ (auxTick s n).emit = s.emit ∧ (auxTick s n).pending = s.pending := by simp [auxTick]

@[simp] theorem pwgEvent_frame (s : State) (p : Fin 4) : (pwgEvent s p).otp = s.otp ∧ (pwgEvent s p).ident = s.ident ∧
    (pwgEvent s p).power = s.power ∧ (pwgEvent s p).dev = s.dev ∧ (pwgEvent s p).clk = s.clk ∧ (pwgEvent s p).eng =
    s.eng ∧ (pwgEvent s p).ch = s.ch ∧ (pwgEvent s p).trust = s.trust ∧ (pwgEvent s p).lockoutRec = s.lockoutRec ∧
    (pwgEvent s p).rop = s.rop ∧ (pwgEvent s p).eth = s.eth ∧ (pwgEvent s p).badger = s.badger ∧ (pwgEvent s p).events
    = s.events ∧ (pwgEvent s p).pool = s.pool ∧ (pwgEvent s p).link = s.link ∧ (pwgEvent s p).bus = s.bus ∧ (pwgEvent
    s p).refMon = s.refMon ∧ (pwgEvent s p).trig = s.trig ∧ (pwgEvent s p).ronko = s.ronko ∧ (pwgEvent s p).fsp =
    s.fsp ∧ (pwgEvent s p).xip = s.xip ∧ (pwgEvent s p).mgp = s.mgp ∧ (pwgEvent s p).now = s.now ∧ (pwgEvent s
    p).answer = s.answer ∧ (pwgEvent s p).emit = s.emit ∧ (pwgEvent s p).free = s.free ∧ (pwgEvent s p).pending =
    s.pending := by simp [pwgEvent]

@[simp] theorem State.modPwg_frame (s : State) (p : Fin 4) (f : Pwg → Pwg) : (State.modPwg s p f).otp = s.otp ∧
    (State.modPwg s p f).ident = s.ident ∧ (State.modPwg s p f).power = s.power ∧ (State.modPwg s p f).dev = s.dev ∧
    (State.modPwg s p f).clk = s.clk ∧ (State.modPwg s p f).eng = s.eng ∧ (State.modPwg s p f).ch = s.ch ∧
    (State.modPwg s p f).trust = s.trust ∧ (State.modPwg s p f).lockoutRec = s.lockoutRec ∧ (State.modPwg s p f).rop =
    s.rop ∧ (State.modPwg s p f).eth = s.eth ∧ (State.modPwg s p f).badger = s.badger ∧ (State.modPwg s p f).events =
    s.events ∧ (State.modPwg s p f).hamper = s.hamper ∧ (State.modPwg s p f).pool = s.pool ∧ (State.modPwg s p f).link
    = s.link ∧ (State.modPwg s p f).bus = s.bus ∧ (State.modPwg s p f).aux = s.aux ∧ (State.modPwg s p f).refMon =
    s.refMon ∧ (State.modPwg s p f).ronko = s.ronko ∧ (State.modPwg s p f).fsp = s.fsp ∧ (State.modPwg s p f).xip =
    s.xip ∧ (State.modPwg s p f).mgp = s.mgp ∧ (State.modPwg s p f).now = s.now ∧ (State.modPwg s p f).answer =
    s.answer ∧ (State.modPwg s p f).emit = s.emit ∧ (State.modPwg s p f).free = s.free ∧ (State.modPwg s p f).pending
    = s.pending :=
    ⟨rfl, rfl, rfl, rfl, rfl, rfl, rfl, rfl, rfl, rfl, rfl, rfl, rfl, rfl, rfl, rfl, rfl, rfl, rfl, rfl, rfl, rfl, rfl,
    rfl, rfl, rfl, rfl, rfl⟩

/-! ### Sweep -/

@[simp] theorem State.modSweep_frame (s : State) (n : Ch) (f : Sweep → Sweep) : (State.modSweep s n f).otp = s.otp ∧
    (State.modSweep s n f).ident = s.ident ∧ (State.modSweep s n f).power = s.power ∧ (State.modSweep s n f).dev =
    s.dev ∧ (State.modSweep s n f).clk = s.clk ∧ (State.modSweep s n f).eng = s.eng ∧ (State.modSweep s n f).trust =
    s.trust ∧ (State.modSweep s n f).lockoutRec = s.lockoutRec ∧ (State.modSweep s n f).rop = s.rop ∧ (State.modSweep
    s n f).eth = s.eth ∧ (State.modSweep s n f).badger = s.badger ∧ (State.modSweep s n f).events = s.events ∧
    (State.modSweep s n f).hamper = s.hamper ∧ (State.modSweep s n f).pool = s.pool ∧ (State.modSweep s n f).link =
    s.link ∧ (State.modSweep s n f).bus = s.bus ∧ (State.modSweep s n f).aux = s.aux ∧ (State.modSweep s n f).refMon =
    s.refMon ∧ (State.modSweep s n f).trig = s.trig ∧ (State.modSweep s n f).ronko = s.ronko ∧ (State.modSweep s n
    f).fsp = s.fsp ∧ (State.modSweep s n f).xip = s.xip ∧ (State.modSweep s n f).mgp = s.mgp ∧ (State.modSweep s n
    f).now = s.now ∧ (State.modSweep s n f).answer = s.answer ∧ (State.modSweep s n f).emit = s.emit ∧ (State.modSweep
    s n f).free = s.free ∧ (State.modSweep s n f).pending = s.pending :=
    ⟨rfl, rfl, rfl, rfl, rfl, rfl, rfl, rfl, rfl, rfl, rfl, rfl, rfl, rfl, rfl, rfl, rfl, rfl, rfl, rfl, rfl, rfl, rfl,
    rfl, rfl, rfl, rfl, rfl⟩

@[simp] theorem writeResult_frame (s : State) (n : Ch) (short : Bool) : (writeResult s n short).otp = s.otp ∧
    (writeResult s n short).ident = s.ident ∧ (writeResult s n short).power = s.power ∧ (writeResult s n short).dev =
    s.dev ∧ (writeResult s n short).clk = s.clk ∧ (writeResult s n short).eng = s.eng ∧ (writeResult s n short).trust
    = s.trust ∧ (writeResult s n short).lockoutRec = s.lockoutRec ∧ (writeResult s n short).rop = s.rop ∧ (writeResult
    s n short).eth = s.eth ∧ (writeResult s n short).badger = s.badger ∧ (writeResult s n short).pool = s.pool ∧
    (writeResult s n short).link = s.link ∧ (writeResult s n short).bus = s.bus ∧ (writeResult s n short).aux = s.aux
    ∧ (writeResult s n short).refMon = s.refMon ∧ (writeResult s n short).trig = s.trig ∧ (writeResult s n
    short).ronko = s.ronko ∧ (writeResult s n short).fsp = s.fsp ∧ (writeResult s n short).xip = s.xip ∧ (writeResult
    s n short).mgp = s.mgp ∧ (writeResult s n short).now = s.now ∧ (writeResult s n short).answer = s.answer ∧
    (writeResult s n short).emit = s.emit ∧ (writeResult s n short).free = s.free ∧ (writeResult s n short).pending =
    s.pending := by unfold writeResult; simp only []; split <;> simp_all

@[simp] theorem markEvent_frame (s : State) (n : Ch) (r : StepRec) : (markEvent s n r).otp = s.otp ∧ (markEvent s n
    r).ident = s.ident ∧ (markEvent s n r).power = s.power ∧ (markEvent s n r).dev = s.dev ∧ (markEvent s n r).clk =
    s.clk ∧ (markEvent s n r).eng = s.eng ∧ (markEvent s n r).ch = s.ch ∧ (markEvent s n r).trust = s.trust ∧
    (markEvent s n r).lockoutRec = s.lockoutRec ∧ (markEvent s n r).rop = s.rop ∧ (markEvent s n r).eth = s.eth ∧
    (markEvent s n r).badger = s.badger ∧ (markEvent s n r).hamper = s.hamper ∧ (markEvent s n r).pool = s.pool ∧
    (markEvent s n r).link = s.link ∧ (markEvent s n r).bus = s.bus ∧ (markEvent s n r).aux = s.aux ∧ (markEvent s n
    r).refMon = s.refMon ∧ (markEvent s n r).trig = s.trig ∧ (markEvent s n r).ronko = s.ronko ∧ (markEvent s n r).fsp
    = s.fsp ∧ (markEvent s n r).xip = s.xip ∧ (markEvent s n r).mgp = s.mgp ∧ (markEvent s n r).now = s.now ∧
    (markEvent s n r).answer = s.answer ∧ (markEvent s n r).emit = s.emit ∧ (markEvent s n r).free = s.free ∧
    (markEvent s n r).pending = s.pending := by simp [markEvent]

@[simp] theorem listEnd_frame (s : State) (n : Ch) (reason : Nat) (code : Byte) : (listEnd s n reason code).otp =
    s.otp ∧ (listEnd s n reason code).ident = s.ident ∧ (listEnd s n reason code).power = s.power ∧ (listEnd s n
    reason code).dev = s.dev ∧ (listEnd s n reason code).clk = s.clk ∧ (listEnd s n reason code).eng = s.eng ∧
    (listEnd s n reason code).trust = s.trust ∧ (listEnd s n reason code).lockoutRec = s.lockoutRec ∧ (listEnd s n
    reason code).rop = s.rop ∧ (listEnd s n reason code).eth = s.eth ∧ (listEnd s n reason code).badger = s.badger ∧
    (listEnd s n reason code).hamper = s.hamper ∧ (listEnd s n reason code).pool = s.pool ∧ (listEnd s n reason
    code).link = s.link ∧ (listEnd s n reason code).bus = s.bus ∧ (listEnd s n reason code).aux = s.aux ∧ (listEnd s n
    reason code).refMon = s.refMon ∧ (listEnd s n reason code).trig = s.trig ∧ (listEnd s n reason code).ronko =
    s.ronko ∧ (listEnd s n reason code).fsp = s.fsp ∧ (listEnd s n reason code).xip = s.xip ∧ (listEnd s n reason
    code).mgp = s.mgp ∧ (listEnd s n reason code).now = s.now ∧ (listEnd s n reason code).answer = s.answer ∧ (listEnd
    s n reason code).emit = s.emit ∧ (listEnd s n reason code).free = s.free ∧ (listEnd s n reason code).pending =
    s.pending := by simp [listEnd]

@[simp] theorem listCut_frame (s : State) (n : Ch) (reason : Nat) : (listCut s n reason).otp = s.otp ∧ (listCut s n
    reason).ident = s.ident ∧ (listCut s n reason).power = s.power ∧ (listCut s n reason).dev = s.dev ∧ (listCut s n
    reason).clk = s.clk ∧ (listCut s n reason).eng = s.eng ∧ (listCut s n reason).trust = s.trust ∧ (listCut s n
    reason).lockoutRec = s.lockoutRec ∧ (listCut s n reason).rop = s.rop ∧ (listCut s n reason).eth = s.eth ∧ (listCut
    s n reason).badger = s.badger ∧ (listCut s n reason).pool = s.pool ∧ (listCut s n reason).link = s.link ∧ (listCut
    s n reason).bus = s.bus ∧ (listCut s n reason).aux = s.aux ∧ (listCut s n reason).refMon = s.refMon ∧ (listCut s n
    reason).trig = s.trig ∧ (listCut s n reason).ronko = s.ronko ∧ (listCut s n reason).fsp = s.fsp ∧ (listCut s n
    reason).xip = s.xip ∧ (listCut s n reason).mgp = s.mgp ∧ (listCut s n reason).now = s.now ∧ (listCut s n
    reason).answer = s.answer ∧ (listCut s n reason).emit = s.emit ∧ (listCut s n reason).free = s.free ∧ (listCut s n
    reason).pending = s.pending := by unfold listCut; simp only []; (repeat' split) <;> simp_all

@[simp] theorem stepEnd_frame (s : State) (n : Ch) (write short : Bool) : (stepEnd s n write short).otp = s.otp ∧
    (stepEnd s n write short).ident = s.ident ∧ (stepEnd s n write short).power = s.power ∧ (stepEnd s n write
    short).dev = s.dev ∧ (stepEnd s n write short).clk = s.clk ∧ (stepEnd s n write short).eng = s.eng ∧ (stepEnd s n
    write short).trust = s.trust ∧ (stepEnd s n write short).lockoutRec = s.lockoutRec ∧ (stepEnd s n write short).rop
    = s.rop ∧ (stepEnd s n write short).eth = s.eth ∧ (stepEnd s n write short).badger = s.badger ∧ (stepEnd s n write
    short).pool = s.pool ∧ (stepEnd s n write short).link = s.link ∧ (stepEnd s n write short).bus = s.bus ∧ (stepEnd
    s n write short).aux = s.aux ∧ (stepEnd s n write short).refMon = s.refMon ∧ (stepEnd s n write short).trig =
    s.trig ∧ (stepEnd s n write short).ronko = s.ronko ∧ (stepEnd s n write short).fsp = s.fsp ∧ (stepEnd s n write
    short).xip = s.xip ∧ (stepEnd s n write short).mgp = s.mgp ∧ (stepEnd s n write short).now = s.now ∧ (stepEnd s n
    write short).answer = s.answer ∧ (stepEnd s n write short).emit = s.emit ∧ (stepEnd s n write short).free = s.free
    ∧ (stepEnd s n write short).pending = s.pending := by unfold stepEnd; simp only []; split <;> simp_all

@[simp] theorem listBegin_frame (s : State) (n : Ch) : (listBegin s n).otp = s.otp ∧ (listBegin s n).ident = s.ident ∧
    (listBegin s n).power = s.power ∧ (listBegin s n).dev = s.dev ∧ (listBegin s n).clk = s.clk ∧ (listBegin s n).eng
    = s.eng ∧ (listBegin s n).trust = s.trust ∧ (listBegin s n).lockoutRec = s.lockoutRec ∧ (listBegin s n).rop =
    s.rop ∧ (listBegin s n).eth = s.eth ∧ (listBegin s n).badger = s.badger ∧ (listBegin s n).events = s.events ∧
    (listBegin s n).hamper = s.hamper ∧ (listBegin s n).pool = s.pool ∧ (listBegin s n).link = s.link ∧ (listBegin s
    n).bus = s.bus ∧ (listBegin s n).aux = s.aux ∧ (listBegin s n).refMon = s.refMon ∧ (listBegin s n).trig = s.trig ∧
    (listBegin s n).ronko = s.ronko ∧ (listBegin s n).fsp = s.fsp ∧ (listBegin s n).xip = s.xip ∧ (listBegin s n).mgp
    = s.mgp ∧ (listBegin s n).now = s.now ∧ (listBegin s n).answer = s.answer ∧ (listBegin s n).emit = s.emit ∧
    (listBegin s n).free = s.free ∧ (listBegin s n).pending = s.pending :=
    ⟨rfl, rfl, rfl, rfl, rfl, rfl, rfl, rfl, rfl, rfl, rfl, rfl, rfl, rfl, rfl, rfl, rfl, rfl, rfl, rfl, rfl, rfl, rfl,
    rfl, rfl, rfl, rfl, rfl⟩

@[simp] theorem stepAt_frame (s : State) (r : Ring) (k : Nat) : (stepAt s r k).1.otp = s.otp ∧ (stepAt s r k).1.ident
    = s.ident ∧ (stepAt s r k).1.power = s.power ∧ (stepAt s r k).1.dev = s.dev ∧ (stepAt s r k).1.clk = s.clk ∧
    (stepAt s r k).1.eng = s.eng ∧ (stepAt s r k).1.ch = s.ch ∧ (stepAt s r k).1.trust = s.trust ∧ (stepAt s r
    k).1.lockoutRec = s.lockoutRec ∧ (stepAt s r k).1.rop = s.rop ∧ (stepAt s r k).1.eth = s.eth ∧ (stepAt s r
    k).1.events = s.events ∧ (stepAt s r k).1.pool = s.pool ∧ (stepAt s r k).1.link = s.link ∧ (stepAt s r k).1.bus =
    s.bus ∧ (stepAt s r k).1.aux = s.aux ∧ (stepAt s r k).1.refMon = s.refMon ∧ (stepAt s r k).1.trig = s.trig ∧
    (stepAt s r k).1.ronko = s.ronko ∧ (stepAt s r k).1.fsp = s.fsp ∧ (stepAt s r k).1.xip = s.xip ∧ (stepAt s r
    k).1.mgp = s.mgp ∧ (stepAt s r k).1.now = s.now ∧ (stepAt s r k).1.answer = s.answer ∧ (stepAt s r k).1.emit =
    s.emit ∧ (stepAt s r k).1.free = s.free ∧ (stepAt s r k).1.pending = s.pending := by unfold stepAt; split <;> simp

@[simp] theorem nextStep_frame (s : State) (n : Ch) : (nextStep s n).1.otp = s.otp ∧ (nextStep s n).1.ident = s.ident
    ∧ (nextStep s n).1.power = s.power ∧ (nextStep s n).1.dev = s.dev ∧ (nextStep s n).1.clk = s.clk ∧ (nextStep s
    n).1.eng = s.eng ∧ (nextStep s n).1.trust = s.trust ∧ (nextStep s n).1.lockoutRec = s.lockoutRec ∧ (nextStep s
    n).1.rop = s.rop ∧ (nextStep s n).1.eth = s.eth ∧ (nextStep s n).1.events = s.events ∧ (nextStep s n).1.pool =
    s.pool ∧ (nextStep s n).1.link = s.link ∧ (nextStep s n).1.bus = s.bus ∧ (nextStep s n).1.aux = s.aux ∧ (nextStep
    s n).1.refMon = s.refMon ∧ (nextStep s n).1.trig = s.trig ∧ (nextStep s n).1.ronko = s.ronko ∧ (nextStep s
    n).1.fsp = s.fsp ∧ (nextStep s n).1.xip = s.xip ∧ (nextStep s n).1.mgp = s.mgp ∧ (nextStep s n).1.now = s.now ∧
    (nextStep s n).1.answer = s.answer ∧ (nextStep s n).1.emit = s.emit ∧ (nextStep s n).1.free = s.free ∧ (nextStep s
    n).1.pending = s.pending := by
  unfold nextStep; simp only []; split
  · simp
  · rename_i r _
    split
    · simp
    · split
      · simp
      · have h := stepAt_frame (checkDesc s (s.chan n).sweep.listRing) r 0
        split
        · rename_i t q e; rw [e] at h; simp at h; simp [h]
        · simp [h]

@[simp] theorem stepSp_frame (s : State) (n : Ch) (r : StepRec) : (stepSp s n r).otp = s.otp ∧ (stepSp s n r).ident =
    s.ident ∧ (stepSp s n r).power = s.power ∧ (stepSp s n r).dev = s.dev ∧ (stepSp s n r).clk = s.clk ∧ (stepSp s n
    r).eng = s.eng ∧ (stepSp s n r).trust = s.trust ∧ (stepSp s n r).lockoutRec = s.lockoutRec ∧ (stepSp s n r).rop =
    s.rop ∧ (stepSp s n r).eth = s.eth ∧ (stepSp s n r).badger = s.badger ∧ (stepSp s n r).events = s.events ∧ (stepSp
    s n r).hamper = s.hamper ∧ (stepSp s n r).pool = s.pool ∧ (stepSp s n r).link = s.link ∧ (stepSp s n r).bus =
    s.bus ∧ (stepSp s n r).aux = s.aux ∧ (stepSp s n r).refMon = s.refMon ∧ (stepSp s n r).trig = s.trig ∧ (stepSp s n
    r).ronko = s.ronko ∧ (stepSp s n r).fsp = s.fsp ∧ (stepSp s n r).xip = s.xip ∧ (stepSp s n r).mgp = s.mgp ∧
    (stepSp s n r).now = s.now ∧ (stepSp s n r).answer = s.answer ∧ (stepSp s n r).emit = s.emit ∧ (stepSp s n r).free
    = s.free ∧ (stepSp s n r).pending = s.pending :=
    ⟨rfl, rfl, rfl, rfl, rfl, rfl, rfl, rfl, rfl, rfl, rfl, rfl, rfl, rfl, rfl, rfl, rfl, rfl, rfl, rfl, rfl, rfl, rfl,
    rfl, rfl, rfl, rfl, rfl⟩

@[simp] theorem dwellStart_frame (s : State) (n : Ch) (r : StepRec) : (dwellStart s n r).otp = s.otp ∧ (dwellStart s n
    r).ident = s.ident ∧ (dwellStart s n r).power = s.power ∧ (dwellStart s n r).dev = s.dev ∧ (dwellStart s n r).clk
    = s.clk ∧ (dwellStart s n r).eng = s.eng ∧ (dwellStart s n r).trust = s.trust ∧ (dwellStart s n r).lockoutRec =
    s.lockoutRec ∧ (dwellStart s n r).rop = s.rop ∧ (dwellStart s n r).eth = s.eth ∧ (dwellStart s n r).badger =
    s.badger ∧ (dwellStart s n r).events = s.events ∧ (dwellStart s n r).hamper = s.hamper ∧ (dwellStart s n r).pool =
    s.pool ∧ (dwellStart s n r).link = s.link ∧ (dwellStart s n r).bus = s.bus ∧ (dwellStart s n r).aux = s.aux ∧
    (dwellStart s n r).refMon = s.refMon ∧ (dwellStart s n r).trig = s.trig ∧ (dwellStart s n r).ronko = s.ronko ∧
    (dwellStart s n r).fsp = s.fsp ∧ (dwellStart s n r).xip = s.xip ∧ (dwellStart s n r).mgp = s.mgp ∧ (dwellStart s n
    r).now = s.now ∧ (dwellStart s n r).answer = s.answer ∧ (dwellStart s n r).emit = s.emit ∧ (dwellStart s n r).free
    = s.free ∧ (dwellStart s n r).pending = s.pending :=
    ⟨rfl, rfl, rfl, rfl, rfl, rfl, rfl, rfl, rfl, rfl, rfl, rfl, rfl, rfl, rfl, rfl, rfl, rfl, rfl, rfl, rfl, rfl, rfl,
    rfl, rfl, rfl, rfl, rfl⟩

@[simp] theorem runStep_frame (s : State) (n : Ch) (r : StepRec) : (runStep s n r).otp = s.otp ∧ (runStep s n r).ident
    = s.ident ∧ (runStep s n r).power = s.power ∧ (runStep s n r).dev = s.dev ∧ (runStep s n r).clk = s.clk ∧ (runStep
    s n r).eng = s.eng ∧ (runStep s n r).trust = s.trust ∧ (runStep s n r).lockoutRec = s.lockoutRec ∧ (runStep s n
    r).rop = s.rop ∧ (runStep s n r).eth = s.eth ∧ (runStep s n r).badger = s.badger ∧ (runStep s n r).pool = s.pool ∧
    (runStep s n r).link = s.link ∧ (runStep s n r).bus = s.bus ∧ (runStep s n r).aux = s.aux ∧ (runStep s n r).refMon
    = s.refMon ∧ (runStep s n r).trig = s.trig ∧ (runStep s n r).ronko = s.ronko ∧ (runStep s n r).fsp = s.fsp ∧
    (runStep s n r).xip = s.xip ∧ (runStep s n r).mgp = s.mgp ∧ (runStep s n r).now = s.now ∧ (runStep s n r).answer =
    s.answer ∧ (runStep s n r).emit = s.emit ∧ (runStep s n r).free = s.free ∧ (runStep s n r).pending = s.pending := by simp [runStep]

@[simp] theorem rangingDone_frame (s : State) (n : Ch) : (rangingDone s n).otp = s.otp ∧ (rangingDone s n).ident =
    s.ident ∧ (rangingDone s n).power = s.power ∧ (rangingDone s n).dev = s.dev ∧ (rangingDone s n).clk = s.clk ∧
    (rangingDone s n).eng = s.eng ∧ (rangingDone s n).trust = s.trust ∧ (rangingDone s n).lockoutRec = s.lockoutRec ∧
    (rangingDone s n).rop = s.rop ∧ (rangingDone s n).eth = s.eth ∧ (rangingDone s n).badger = s.badger ∧ (rangingDone
    s n).events = s.events ∧ (rangingDone s n).hamper = s.hamper ∧ (rangingDone s n).pool = s.pool ∧ (rangingDone s
    n).link = s.link ∧ (rangingDone s n).bus = s.bus ∧ (rangingDone s n).aux = s.aux ∧ (rangingDone s n).refMon =
    s.refMon ∧ (rangingDone s n).trig = s.trig ∧ (rangingDone s n).ronko = s.ronko ∧ (rangingDone s n).fsp = s.fsp ∧
    (rangingDone s n).xip = s.xip ∧ (rangingDone s n).mgp = s.mgp ∧ (rangingDone s n).now = s.now ∧ (rangingDone s
    n).answer = s.answer ∧ (rangingDone s n).emit = s.emit ∧ (rangingDone s n).free = s.free ∧ (rangingDone s
    n).pending = s.pending := by unfold rangingDone; simp only []; split <;> simp_all

@[simp] theorem missTrigger_frame (s : State) (n : Ch) : (missTrigger s n).otp = s.otp ∧ (missTrigger s n).ident =
    s.ident ∧ (missTrigger s n).power = s.power ∧ (missTrigger s n).dev = s.dev ∧ (missTrigger s n).clk = s.clk ∧
    (missTrigger s n).eng = s.eng ∧ (missTrigger s n).trust = s.trust ∧ (missTrigger s n).lockoutRec = s.lockoutRec ∧
    (missTrigger s n).rop = s.rop ∧ (missTrigger s n).eth = s.eth ∧ (missTrigger s n).badger = s.badger ∧ (missTrigger
    s n).hamper = s.hamper ∧ (missTrigger s n).pool = s.pool ∧ (missTrigger s n).link = s.link ∧ (missTrigger s n).bus
    = s.bus ∧ (missTrigger s n).aux = s.aux ∧ (missTrigger s n).refMon = s.refMon ∧ (missTrigger s n).trig = s.trig ∧
    (missTrigger s n).ronko = s.ronko ∧ (missTrigger s n).fsp = s.fsp ∧ (missTrigger s n).xip = s.xip ∧ (missTrigger s
    n).mgp = s.mgp ∧ (missTrigger s n).now = s.now ∧ (missTrigger s n).answer = s.answer ∧ (missTrigger s n).emit =
    s.emit ∧ (missTrigger s n).free = s.free ∧ (missTrigger s n).pending = s.pending := by simp [missTrigger]

@[simp] theorem advance_frame (s : State) (n : Ch) : (advance s n).otp = s.otp ∧ (advance s n).ident = s.ident ∧
    (advance s n).power = s.power ∧ (advance s n).dev = s.dev ∧ (advance s n).clk = s.clk ∧ (advance s n).eng = s.eng
    ∧ (advance s n).trust = s.trust ∧ (advance s n).lockoutRec = s.lockoutRec ∧ (advance s n).rop = s.rop ∧ (advance s
    n).eth = s.eth ∧ (advance s n).badger = s.badger ∧ (advance s n).hamper = s.hamper ∧ (advance s n).pool = s.pool ∧
    (advance s n).link = s.link ∧ (advance s n).bus = s.bus ∧ (advance s n).aux = s.aux ∧ (advance s n).refMon =
    s.refMon ∧ (advance s n).trig = s.trig ∧ (advance s n).ronko = s.ronko ∧ (advance s n).fsp = s.fsp ∧ (advance s
    n).xip = s.xip ∧ (advance s n).mgp = s.mgp ∧ (advance s n).now = s.now ∧ (advance s n).answer = s.answer ∧
    (advance s n).emit = s.emit ∧ (advance s n).free = s.free ∧ (advance s n).pending = s.pending := by unfold advance; simp only []; (repeat' split) <;> simp_all

/-! ### Modes -/

@[simp] theorem setMode_frame (s : State) (n : Ch) (m : Mode) : (setMode s n m).otp = s.otp ∧ (setMode s n m).ident =
    s.ident ∧ (setMode s n m).power = s.power ∧ (setMode s n m).dev = s.dev ∧ (setMode s n m).clk = s.clk ∧ (setMode s
    n m).eng = s.eng ∧ (setMode s n m).trust = s.trust ∧ (setMode s n m).lockoutRec = s.lockoutRec ∧ (setMode s n
    m).rop = s.rop ∧ (setMode s n m).eth = s.eth ∧ (setMode s n m).badger = s.badger ∧ (setMode s n m).hamper =
    s.hamper ∧ (setMode s n m).pool = s.pool ∧ (setMode s n m).link = s.link ∧ (setMode s n m).bus = s.bus ∧ (setMode
    s n m).aux = s.aux ∧ (setMode s n m).refMon = s.refMon ∧ (setMode s n m).trig = s.trig ∧ (setMode s n m).ronko =
    s.ronko ∧ (setMode s n m).fsp = s.fsp ∧ (setMode s n m).xip = s.xip ∧ (setMode s n m).mgp = s.mgp ∧ (setMode s n
    m).now = s.now ∧ (setMode s n m).answer = s.answer ∧ (setMode s n m).emit = s.emit ∧ (setMode s n m).free = s.free
    ∧ (setMode s n m).pending = s.pending := by simp [setMode]

@[simp] theorem freeLock_frame (s : State) (n : Ch) : (freeLock s n).otp = s.otp ∧ (freeLock s n).ident = s.ident ∧
    (freeLock s n).power = s.power ∧ (freeLock s n).dev = s.dev ∧ (freeLock s n).clk = s.clk ∧ (freeLock s n).eng =
    s.eng ∧ (freeLock s n).trust = s.trust ∧ (freeLock s n).lockoutRec = s.lockoutRec ∧ (freeLock s n).rop = s.rop ∧
    (freeLock s n).eth = s.eth ∧ (freeLock s n).badger = s.badger ∧ (freeLock s n).events = s.events ∧ (freeLock s
    n).hamper = s.hamper ∧ (freeLock s n).pool = s.pool ∧ (freeLock s n).link = s.link ∧ (freeLock s n).bus = s.bus ∧
    (freeLock s n).aux = s.aux ∧ (freeLock s n).refMon = s.refMon ∧ (freeLock s n).trig = s.trig ∧ (freeLock s
    n).ronko = s.ronko ∧ (freeLock s n).fsp = s.fsp ∧ (freeLock s n).xip = s.xip ∧ (freeLock s n).mgp = s.mgp ∧
    (freeLock s n).now = s.now ∧ (freeLock s n).answer = s.answer ∧ (freeLock s n).emit = s.emit ∧ (freeLock s n).free
    = s.free ∧ (freeLock s n).pending = s.pending :=
    ⟨rfl, rfl, rfl, rfl, rfl, rfl, rfl, rfl, rfl, rfl, rfl, rfl, rfl, rfl, rfl, rfl, rfl, rfl, rfl, rfl, rfl, rfl, rfl,
    rfl, rfl, rfl, rfl, rfl⟩

@[simp] theorem enterOff_frame (s : State) (n : Ch) (why : OffReason) : (enterOff s n why).otp = s.otp ∧ (enterOff s n
    why).ident = s.ident ∧ (enterOff s n why).power = s.power ∧ (enterOff s n why).dev = s.dev ∧ (enterOff s n
    why).clk = s.clk ∧ (enterOff s n why).eng = s.eng ∧ (enterOff s n why).trust = s.trust ∧ (enterOff s n
    why).lockoutRec = s.lockoutRec ∧ (enterOff s n why).rop = s.rop ∧ (enterOff s n why).eth = s.eth ∧ (enterOff s n
    why).badger = s.badger ∧ (enterOff s n why).pool = s.pool ∧ (enterOff s n why).link = s.link ∧ (enterOff s n
    why).bus = s.bus ∧ (enterOff s n why).aux = s.aux ∧ (enterOff s n why).refMon = s.refMon ∧ (enterOff s n why).trig
    = s.trig ∧ (enterOff s n why).ronko = s.ronko ∧ (enterOff s n why).fsp = s.fsp ∧ (enterOff s n why).xip = s.xip ∧
    (enterOff s n why).mgp = s.mgp ∧ (enterOff s n why).now = s.now ∧ (enterOff s n why).answer = s.answer ∧ (enterOff
    s n why).emit = s.emit ∧ (enterOff s n why).free = s.free ∧ (enterOff s n why).pending = s.pending := by simp [enterOff]

@[simp] theorem tripChannel_frame (s : State) (n : Ch) : (tripChannel s n).otp = s.otp ∧ (tripChannel s n).ident =
    s.ident ∧ (tripChannel s n).power = s.power ∧ (tripChannel s n).dev = s.dev ∧ (tripChannel s n).clk = s.clk ∧
    (tripChannel s n).eng = s.eng ∧ (tripChannel s n).trust = s.trust ∧ (tripChannel s n).lockoutRec = s.lockoutRec ∧
    (tripChannel s n).rop = s.rop ∧ (tripChannel s n).eth = s.eth ∧ (tripChannel s n).badger = s.badger ∧ (tripChannel
    s n).pool = s.pool ∧ (tripChannel s n).link = s.link ∧ (tripChannel s n).bus = s.bus ∧ (tripChannel s n).aux =
    s.aux ∧ (tripChannel s n).refMon = s.refMon ∧ (tripChannel s n).trig = s.trig ∧ (tripChannel s n).ronko = s.ronko
    ∧ (tripChannel s n).fsp = s.fsp ∧ (tripChannel s n).xip = s.xip ∧ (tripChannel s n).mgp = s.mgp ∧ (tripChannel s
    n).now = s.now ∧ (tripChannel s n).answer = s.answer ∧ (tripChannel s n).emit = s.emit ∧ (tripChannel s n).free =
    s.free ∧ (tripChannel s n).pending = s.pending := by unfold tripChannel; simp only []; (repeat' split) <;> simp_all

@[simp] theorem allOff_frame (s : State) (fault : Bool) : (allOff s fault).otp = s.otp ∧ (allOff s fault).ident =
    s.ident ∧ (allOff s fault).power = s.power ∧ (allOff s fault).dev = s.dev ∧ (allOff s fault).clk = s.clk ∧ (allOff
    s fault).eng = s.eng ∧ (allOff s fault).trust = s.trust ∧ (allOff s fault).lockoutRec = s.lockoutRec ∧ (allOff s
    fault).rop = s.rop ∧ (allOff s fault).eth = s.eth ∧ (allOff s fault).badger = s.badger ∧ (allOff s fault).pool =
    s.pool ∧ (allOff s fault).link = s.link ∧ (allOff s fault).bus = s.bus ∧ (allOff s fault).aux = s.aux ∧ (allOff s
    fault).refMon = s.refMon ∧ (allOff s fault).trig = s.trig ∧ (allOff s fault).ronko = s.ronko ∧ (allOff s
    fault).fsp = s.fsp ∧ (allOff s fault).xip = s.xip ∧ (allOff s fault).mgp = s.mgp ∧ (allOff s fault).now = s.now ∧
    (allOff s fault).answer = s.answer ∧ (allOff s fault).emit = s.emit ∧ (allOff s fault).free = s.free ∧ (allOff s
    fault).pending = s.pending := by simp [allOff]

@[simp] theorem enterMode_frame (s : State) (n : Ch) (m : Mode) : (enterMode s n m).otp = s.otp ∧ (enterMode s n
    m).ident = s.ident ∧ (enterMode s n m).power = s.power ∧ (enterMode s n m).dev = s.dev ∧ (enterMode s n m).clk =
    s.clk ∧ (enterMode s n m).eng = s.eng ∧ (enterMode s n m).trust = s.trust ∧ (enterMode s n m).lockoutRec =
    s.lockoutRec ∧ (enterMode s n m).rop = s.rop ∧ (enterMode s n m).eth = s.eth ∧ (enterMode s n m).badger = s.badger
    ∧ (enterMode s n m).pool = s.pool ∧ (enterMode s n m).link = s.link ∧ (enterMode s n m).bus = s.bus ∧ (enterMode s
    n m).refMon = s.refMon ∧ (enterMode s n m).trig = s.trig ∧ (enterMode s n m).ronko = s.ronko ∧ (enterMode s n
    m).fsp = s.fsp ∧ (enterMode s n m).xip = s.xip ∧ (enterMode s n m).mgp = s.mgp ∧ (enterMode s n m).now = s.now ∧
    (enterMode s n m).answer = s.answer ∧ (enterMode s n m).emit = s.emit ∧ (enterMode s n m).free = s.free ∧
    (enterMode s n m).pending = s.pending := by simp [enterMode]

@[simp] theorem startRamp_frame (s : State) (n : Ch) (target : Mode) (why : OffReason) : (startRamp s n target
    why).otp = s.otp ∧ (startRamp s n target why).ident = s.ident ∧ (startRamp s n target why).power = s.power ∧
    (startRamp s n target why).dev = s.dev ∧ (startRamp s n target why).clk = s.clk ∧ (startRamp s n target why).eng =
    s.eng ∧ (startRamp s n target why).trust = s.trust ∧ (startRamp s n target why).lockoutRec = s.lockoutRec ∧
    (startRamp s n target why).rop = s.rop ∧ (startRamp s n target why).eth = s.eth ∧ (startRamp s n target
    why).badger = s.badger ∧ (startRamp s n target why).pool = s.pool ∧ (startRamp s n target why).link = s.link ∧
    (startRamp s n target why).bus = s.bus ∧ (startRamp s n target why).aux = s.aux ∧ (startRamp s n target
    why).refMon = s.refMon ∧ (startRamp s n target why).trig = s.trig ∧ (startRamp s n target why).ronko = s.ronko ∧
    (startRamp s n target why).fsp = s.fsp ∧ (startRamp s n target why).xip = s.xip ∧ (startRamp s n target why).mgp =
    s.mgp ∧ (startRamp s n target why).now = s.now ∧ (startRamp s n target why).answer = s.answer ∧ (startRamp s n
    target why).emit = s.emit ∧ (startRamp s n target why).free = s.free ∧ (startRamp s n target why).pending =
    s.pending := by simp [startRamp]

@[simp] theorem rampToIdle_frame (s : State) (n : Ch) : (rampToIdle s n).otp = s.otp ∧ (rampToIdle s n).ident =
    s.ident ∧ (rampToIdle s n).power = s.power ∧ (rampToIdle s n).dev = s.dev ∧ (rampToIdle s n).clk = s.clk ∧
    (rampToIdle s n).eng = s.eng ∧ (rampToIdle s n).trust = s.trust ∧ (rampToIdle s n).lockoutRec = s.lockoutRec ∧
    (rampToIdle s n).rop = s.rop ∧ (rampToIdle s n).eth = s.eth ∧ (rampToIdle s n).badger = s.badger ∧ (rampToIdle s
    n).pool = s.pool ∧ (rampToIdle s n).link = s.link ∧ (rampToIdle s n).bus = s.bus ∧ (rampToIdle s n).aux = s.aux ∧
    (rampToIdle s n).refMon = s.refMon ∧ (rampToIdle s n).trig = s.trig ∧ (rampToIdle s n).ronko = s.ronko ∧
    (rampToIdle s n).fsp = s.fsp ∧ (rampToIdle s n).xip = s.xip ∧ (rampToIdle s n).mgp = s.mgp ∧ (rampToIdle s n).now
    = s.now ∧ (rampToIdle s n).answer = s.answer ∧ (rampToIdle s n).emit = s.emit ∧ (rampToIdle s n).free = s.free ∧
    (rampToIdle s n).pending = s.pending := by simp [rampToIdle]

@[simp] theorem rampTick_frame (s : State) (n : Ch) : (rampTick s n).otp = s.otp ∧ (rampTick s n).ident = s.ident ∧
    (rampTick s n).power = s.power ∧ (rampTick s n).dev = s.dev ∧ (rampTick s n).clk = s.clk ∧ (rampTick s n).eng =
    s.eng ∧ (rampTick s n).trust = s.trust ∧ (rampTick s n).lockoutRec = s.lockoutRec ∧ (rampTick s n).rop = s.rop ∧
    (rampTick s n).eth = s.eth ∧ (rampTick s n).badger = s.badger ∧ (rampTick s n).pool = s.pool ∧ (rampTick s n).link
    = s.link ∧ (rampTick s n).bus = s.bus ∧ (rampTick s n).aux = s.aux ∧ (rampTick s n).refMon = s.refMon ∧ (rampTick
    s n).trig = s.trig ∧ (rampTick s n).ronko = s.ronko ∧ (rampTick s n).fsp = s.fsp ∧ (rampTick s n).xip = s.xip ∧
    (rampTick s n).mgp = s.mgp ∧ (rampTick s n).now = s.now ∧ (rampTick s n).answer = s.answer ∧ (rampTick s n).emit =
    s.emit ∧ (rampTick s n).free = s.free ∧ (rampTick s n).pending = s.pending := by simp [rampTick]

@[simp] theorem settleIdle_frame (s : State) (n : Ch) (why : OffReason) : (settleIdle s n why).otp = s.otp ∧
    (settleIdle s n why).ident = s.ident ∧ (settleIdle s n why).power = s.power ∧ (settleIdle s n why).dev = s.dev ∧
    (settleIdle s n why).clk = s.clk ∧ (settleIdle s n why).eng = s.eng ∧ (settleIdle s n why).trust = s.trust ∧
    (settleIdle s n why).lockoutRec = s.lockoutRec ∧ (settleIdle s n why).rop = s.rop ∧ (settleIdle s n why).eth =
    s.eth ∧ (settleIdle s n why).badger = s.badger ∧ (settleIdle s n why).pool = s.pool ∧ (settleIdle s n why).link =
    s.link ∧ (settleIdle s n why).bus = s.bus ∧ (settleIdle s n why).aux = s.aux ∧ (settleIdle s n why).refMon =
    s.refMon ∧ (settleIdle s n why).trig = s.trig ∧ (settleIdle s n why).ronko = s.ronko ∧ (settleIdle s n why).fsp =
    s.fsp ∧ (settleIdle s n why).xip = s.xip ∧ (settleIdle s n why).mgp = s.mgp ∧ (settleIdle s n why).now = s.now ∧
    (settleIdle s n why).answer = s.answer ∧ (settleIdle s n why).emit = s.emit ∧ (settleIdle s n why).free = s.free ∧
    (settleIdle s n why).pending = s.pending := by simp [settleIdle]

@[simp] theorem enterMeter_frame (s : State) (n : Ch) : (enterMeter s n).otp = s.otp ∧ (enterMeter s n).ident =
    s.ident ∧ (enterMeter s n).power = s.power ∧ (enterMeter s n).dev = s.dev ∧ (enterMeter s n).clk = s.clk ∧
    (enterMeter s n).eng = s.eng ∧ (enterMeter s n).trust = s.trust ∧ (enterMeter s n).lockoutRec = s.lockoutRec ∧
    (enterMeter s n).rop = s.rop ∧ (enterMeter s n).eth = s.eth ∧ (enterMeter s n).badger = s.badger ∧ (enterMeter s
    n).hamper = s.hamper ∧ (enterMeter s n).pool = s.pool ∧ (enterMeter s n).link = s.link ∧ (enterMeter s n).bus =
    s.bus ∧ (enterMeter s n).aux = s.aux ∧ (enterMeter s n).refMon = s.refMon ∧ (enterMeter s n).trig = s.trig ∧
    (enterMeter s n).ronko = s.ronko ∧ (enterMeter s n).fsp = s.fsp ∧ (enterMeter s n).xip = s.xip ∧ (enterMeter s
    n).mgp = s.mgp ∧ (enterMeter s n).now = s.now ∧ (enterMeter s n).answer = s.answer ∧ (enterMeter s n).emit =
    s.emit ∧ (enterMeter s n).free = s.free ∧ (enterMeter s n).pending = s.pending := by simp [enterMeter]

@[simp] theorem applyMode_frame (s : State) (n : Ch) : (applyMode s n).otp = s.otp ∧ (applyMode s n).ident = s.ident ∧
    (applyMode s n).power = s.power ∧ (applyMode s n).dev = s.dev ∧ (applyMode s n).clk = s.clk ∧ (applyMode s n).eng
    = s.eng ∧ (applyMode s n).trust = s.trust ∧ (applyMode s n).lockoutRec = s.lockoutRec ∧ (applyMode s n).rop =
    s.rop ∧ (applyMode s n).eth = s.eth ∧ (applyMode s n).badger = s.badger ∧ (applyMode s n).pool = s.pool ∧
    (applyMode s n).link = s.link ∧ (applyMode s n).bus = s.bus ∧ (applyMode s n).refMon = s.refMon ∧ (applyMode s
    n).trig = s.trig ∧ (applyMode s n).ronko = s.ronko ∧ (applyMode s n).fsp = s.fsp ∧ (applyMode s n).xip = s.xip ∧
    (applyMode s n).mgp = s.mgp ∧ (applyMode s n).now = s.now ∧ (applyMode s n).answer = s.answer ∧ (applyMode s
    n).emit = s.emit ∧ (applyMode s n).free = s.free ∧ (applyMode s n).pending = s.pending := by unfold applyMode; simp only []; (repeat' split) <;> simp_all

@[simp] theorem revoke_frame (s : State) (n : Ch) : (revoke s n).otp = s.otp ∧ (revoke s n).ident = s.ident ∧ (revoke
    s n).power = s.power ∧ (revoke s n).dev = s.dev ∧ (revoke s n).clk = s.clk ∧ (revoke s n).eng = s.eng ∧ (revoke s
    n).lockoutRec = s.lockoutRec ∧ (revoke s n).rop = s.rop ∧ (revoke s n).eth = s.eth ∧ (revoke s n).badger =
    s.badger ∧ (revoke s n).pool = s.pool ∧ (revoke s n).link = s.link ∧ (revoke s n).bus = s.bus ∧ (revoke s n).aux =
    s.aux ∧ (revoke s n).refMon = s.refMon ∧ (revoke s n).trig = s.trig ∧ (revoke s n).ronko = s.ronko ∧ (revoke s
    n).fsp = s.fsp ∧ (revoke s n).xip = s.xip ∧ (revoke s n).mgp = s.mgp ∧ (revoke s n).now = s.now ∧ (revoke s
    n).answer = s.answer ∧ (revoke s n).emit = s.emit ∧ (revoke s n).free = s.free ∧ (revoke s n).pending = s.pending
    := by unfold revoke; simp only []; (repeat' split) <;> simp_all

@[simp] theorem limitTick_frame (s : State) (n : Ch) : (limitTick s n).otp = s.otp ∧ (limitTick s n).ident = s.ident ∧
    (limitTick s n).power = s.power ∧ (limitTick s n).dev = s.dev ∧ (limitTick s n).clk = s.clk ∧ (limitTick s n).eng
    = s.eng ∧ (limitTick s n).trust = s.trust ∧ (limitTick s n).lockoutRec = s.lockoutRec ∧ (limitTick s n).rop =
    s.rop ∧ (limitTick s n).eth = s.eth ∧ (limitTick s n).badger = s.badger ∧ (limitTick s n).pool = s.pool ∧
    (limitTick s n).link = s.link ∧ (limitTick s n).bus = s.bus ∧ (limitTick s n).aux = s.aux ∧ (limitTick s n).refMon
    = s.refMon ∧ (limitTick s n).trig = s.trig ∧ (limitTick s n).ronko = s.ronko ∧ (limitTick s n).fsp = s.fsp ∧
    (limitTick s n).xip = s.xip ∧ (limitTick s n).mgp = s.mgp ∧ (limitTick s n).now = s.now ∧ (limitTick s n).answer =
    s.answer ∧ (limitTick s n).emit = s.emit ∧ (limitTick s n).free = s.free ∧ (limitTick s n).pending = s.pending := by unfold limitTick; simp only []; (repeat' split) <;> simp_all

@[simp] theorem changeLimits_frame (s : State) (n : Ch) (f : Limits → Limits) : (changeLimits s n f).otp = s.otp ∧
    (changeLimits s n f).ident = s.ident ∧ (changeLimits s n f).power = s.power ∧ (changeLimits s n f).dev = s.dev ∧
    (changeLimits s n f).clk = s.clk ∧ (changeLimits s n f).eng = s.eng ∧ (changeLimits s n f).trust = s.trust ∧
    (changeLimits s n f).lockoutRec = s.lockoutRec ∧ (changeLimits s n f).rop = s.rop ∧ (changeLimits s n f).eth =
    s.eth ∧ (changeLimits s n f).badger = s.badger ∧ (changeLimits s n f).pool = s.pool ∧ (changeLimits s n f).link =
    s.link ∧ (changeLimits s n f).bus = s.bus ∧ (changeLimits s n f).aux = s.aux ∧ (changeLimits s n f).refMon =
    s.refMon ∧ (changeLimits s n f).trig = s.trig ∧ (changeLimits s n f).ronko = s.ronko ∧ (changeLimits s n f).fsp =
    s.fsp ∧ (changeLimits s n f).xip = s.xip ∧ (changeLimits s n f).mgp = s.mgp ∧ (changeLimits s n f).now = s.now ∧
    (changeLimits s n f).answer = s.answer ∧ (changeLimits s n f).emit = s.emit ∧ (changeLimits s n f).free = s.free ∧
    (changeLimits s n f).pending = s.pending := by simp [changeLimits]

@[simp] theorem acceptMode_frame (s : State) (n : Ch) (m : Mode) : (acceptMode s n m).otp = s.otp ∧ (acceptMode s n
    m).ident = s.ident ∧ (acceptMode s n m).power = s.power ∧ (acceptMode s n m).dev = s.dev ∧ (acceptMode s n m).clk
    = s.clk ∧ (acceptMode s n m).trust = s.trust ∧ (acceptMode s n m).lockoutRec = s.lockoutRec ∧ (acceptMode s n
    m).rop = s.rop ∧ (acceptMode s n m).eth = s.eth ∧ (acceptMode s n m).badger = s.badger ∧ (acceptMode s n m).events
    = s.events ∧ (acceptMode s n m).hamper = s.hamper ∧ (acceptMode s n m).pool = s.pool ∧ (acceptMode s n m).link =
    s.link ∧ (acceptMode s n m).bus = s.bus ∧ (acceptMode s n m).aux = s.aux ∧ (acceptMode s n m).refMon = s.refMon ∧
    (acceptMode s n m).trig = s.trig ∧ (acceptMode s n m).ronko = s.ronko ∧ (acceptMode s n m).fsp = s.fsp ∧
    (acceptMode s n m).xip = s.xip ∧ (acceptMode s n m).mgp = s.mgp ∧ (acceptMode s n m).now = s.now ∧ (acceptMode s n
    m).answer = s.answer ∧ (acceptMode s n m).emit = s.emit ∧ (acceptMode s n m).free = s.free ∧ (acceptMode s n
    m).pending = s.pending := by simp [acceptMode]

/-! ### Ranges -/

@[simp] theorem rangeEnd_frame (s : State) (n : Ch) : (rangeEnd s n).otp = s.otp ∧ (rangeEnd s n).ident = s.ident ∧
    (rangeEnd s n).power = s.power ∧ (rangeEnd s n).dev = s.dev ∧ (rangeEnd s n).clk = s.clk ∧ (rangeEnd s n).eng =
    s.eng ∧ (rangeEnd s n).trust = s.trust ∧ (rangeEnd s n).lockoutRec = s.lockoutRec ∧ (rangeEnd s n).rop = s.rop ∧
    (rangeEnd s n).eth = s.eth ∧ (rangeEnd s n).badger = s.badger ∧ (rangeEnd s n).hamper = s.hamper ∧ (rangeEnd s
    n).pool = s.pool ∧ (rangeEnd s n).link = s.link ∧ (rangeEnd s n).bus = s.bus ∧ (rangeEnd s n).aux = s.aux ∧
    (rangeEnd s n).refMon = s.refMon ∧ (rangeEnd s n).trig = s.trig ∧ (rangeEnd s n).ronko = s.ronko ∧ (rangeEnd s
    n).fsp = s.fsp ∧ (rangeEnd s n).xip = s.xip ∧ (rangeEnd s n).mgp = s.mgp ∧ (rangeEnd s n).now = s.now ∧ (rangeEnd
    s n).answer = s.answer ∧ (rangeEnd s n).emit = s.emit ∧ (rangeEnd s n).free = s.free ∧ (rangeEnd s n).pending =
    s.pending := by simp [rangeEnd]

@[simp] theorem rangeFollowUp_frame (s : State) (n : Ch) : (rangeFollowUp s n).otp = s.otp ∧ (rangeFollowUp s n).ident
    = s.ident ∧ (rangeFollowUp s n).power = s.power ∧ (rangeFollowUp s n).dev = s.dev ∧ (rangeFollowUp s n).clk =
    s.clk ∧ (rangeFollowUp s n).eng = s.eng ∧ (rangeFollowUp s n).trust = s.trust ∧ (rangeFollowUp s n).lockoutRec =
    s.lockoutRec ∧ (rangeFollowUp s n).rop = s.rop ∧ (rangeFollowUp s n).eth = s.eth ∧ (rangeFollowUp s n).badger =
    s.badger ∧ (rangeFollowUp s n).hamper = s.hamper ∧ (rangeFollowUp s n).pool = s.pool ∧ (rangeFollowUp s n).link =
    s.link ∧ (rangeFollowUp s n).bus = s.bus ∧ (rangeFollowUp s n).aux = s.aux ∧ (rangeFollowUp s n).refMon = s.refMon
    ∧ (rangeFollowUp s n).trig = s.trig ∧ (rangeFollowUp s n).ronko = s.ronko ∧ (rangeFollowUp s n).fsp = s.fsp ∧
    (rangeFollowUp s n).xip = s.xip ∧ (rangeFollowUp s n).mgp = s.mgp ∧ (rangeFollowUp s n).now = s.now ∧
    (rangeFollowUp s n).answer = s.answer ∧ (rangeFollowUp s n).emit = s.emit ∧ (rangeFollowUp s n).free = s.free ∧
    (rangeFollowUp s n).pending = s.pending := by unfold rangeFollowUp; simp only []; split <;> simp_all

@[simp] theorem switchRange_frame (s : State) (n : Ch) (k : Nat) (ra : Q) (phase : RngPhase) : (switchRange s n k ra
    phase).otp = s.otp ∧ (switchRange s n k ra phase).ident = s.ident ∧ (switchRange s n k ra phase).power = s.power ∧
    (switchRange s n k ra phase).dev = s.dev ∧ (switchRange s n k ra phase).clk = s.clk ∧ (switchRange s n k ra
    phase).eng = s.eng ∧ (switchRange s n k ra phase).trust = s.trust ∧ (switchRange s n k ra phase).lockoutRec =
    s.lockoutRec ∧ (switchRange s n k ra phase).rop = s.rop ∧ (switchRange s n k ra phase).eth = s.eth ∧ (switchRange
    s n k ra phase).badger = s.badger ∧ (switchRange s n k ra phase).events = s.events ∧ (switchRange s n k ra
    phase).hamper = s.hamper ∧ (switchRange s n k ra phase).pool = s.pool ∧ (switchRange s n k ra phase).link = s.link
    ∧ (switchRange s n k ra phase).bus = s.bus ∧ (switchRange s n k ra phase).aux = s.aux ∧ (switchRange s n k ra
    phase).refMon = s.refMon ∧ (switchRange s n k ra phase).ronko = s.ronko ∧ (switchRange s n k ra phase).fsp = s.fsp
    ∧ (switchRange s n k ra phase).xip = s.xip ∧ (switchRange s n k ra phase).mgp = s.mgp ∧ (switchRange s n k ra
    phase).now = s.now ∧ (switchRange s n k ra phase).answer = s.answer ∧ (switchRange s n k ra phase).emit = s.emit ∧
    (switchRange s n k ra phase).free = s.free ∧ (switchRange s n k ra phase).pending = s.pending := by simp [switchRange]

end Sys2Proof.Machine
end

