-- ==== Sys2Proof/Laws/FrameEngine.lean ====
section
/-! SUPPORT. Frames: which parts of the state an operation leaves alone, once for each operation (the loop engines). -/

namespace Sys2Proof.Machine

/-! ### Engine -/

@[simp] theorem outerAct_frame (n : Ch) (s : State) : (outerAct n s).otp = s.otp ∧ (outerAct n s).ident = s.ident ∧
    (outerAct n s).power = s.power ∧ (outerAct n s).dev = s.dev ∧ (outerAct n s).clk = s.clk ∧ (outerAct n s).trust =
    s.trust ∧ (outerAct n s).lockoutRec = s.lockoutRec ∧ (outerAct n s).rop = s.rop ∧ (outerAct n s).eth = s.eth ∧
    (outerAct n s).badger = s.badger ∧ (outerAct n s).events = s.events ∧ (outerAct n s).hamper = s.hamper ∧ (outerAct
    n s).pool = s.pool ∧ (outerAct n s).link = s.link ∧ (outerAct n s).bus = s.bus ∧ (outerAct n s).aux = s.aux ∧
    (outerAct n s).refMon = s.refMon ∧ (outerAct n s).trig = s.trig ∧ (outerAct n s).ronko = s.ronko ∧ (outerAct n
    s).fsp = s.fsp ∧ (outerAct n s).xip = s.xip ∧ (outerAct n s).mgp = s.mgp ∧ (outerAct n s).now = s.now ∧ (outerAct
    n s).answer = s.answer ∧ (outerAct n s).emit = s.emit ∧ (outerAct n s).free = s.free ∧ (outerAct n s).pending =
    s.pending :=
    ⟨rfl, rfl, rfl, rfl, rfl, rfl, rfl, rfl, rfl, rfl, rfl, rfl, rfl, rfl, rfl, rfl, rfl, rfl, rfl, rfl, rfl, rfl, rfl,
    rfl, rfl, rfl, rfl⟩

@[simp] theorem superviseTick_frame (s : State) (n : Ch) (x : Inputs) (flags : Byte) (ran : Bool) : (superviseTick s n
    x flags ran).otp = s.otp ∧ (superviseTick s n x flags ran).ident = s.ident ∧ (superviseTick s n x flags ran).power
    = s.power ∧ (superviseTick s n x flags ran).dev = s.dev ∧ (superviseTick s n x flags ran).clk = s.clk ∧
    (superviseTick s n x flags ran).eng = s.eng ∧ (superviseTick s n x flags ran).trust = s.trust ∧ (superviseTick s n
    x flags ran).lockoutRec = s.lockoutRec ∧ (superviseTick s n x flags ran).rop = s.rop ∧ (superviseTick s n x flags
    ran).eth = s.eth ∧ (superviseTick s n x flags ran).badger = s.badger ∧ (superviseTick s n x flags ran).events =
    s.events ∧ (superviseTick s n x flags ran).hamper = s.hamper ∧ (superviseTick s n x flags ran).pool = s.pool ∧
    (superviseTick s n x flags ran).link = s.link ∧ (superviseTick s n x flags ran).bus = s.bus ∧ (superviseTick s n x
    flags ran).aux = s.aux ∧ (superviseTick s n x flags ran).refMon = s.refMon ∧ (superviseTick s n x flags ran).trig
    = s.trig ∧ (superviseTick s n x flags ran).ronko = s.ronko ∧ (superviseTick s n x flags ran).fsp = s.fsp ∧
    (superviseTick s n x flags ran).xip = s.xip ∧ (superviseTick s n x flags ran).mgp = s.mgp ∧ (superviseTick s n x
    flags ran).now = s.now ∧ (superviseTick s n x flags ran).answer = s.answer ∧ (superviseTick s n x flags ran).emit
    = s.emit ∧ (superviseTick s n x flags ran).free = s.free ∧ (superviseTick s n x flags ran).pending = s.pending := by simp [superviseTick]

@[simp] theorem overrun_frame (s : State) (n : Ch) (x : Inputs) (flags : Byte) (start stop : Nat) : (overrun s n x
    flags start stop).otp = s.otp ∧ (overrun s n x flags start stop).ident = s.ident ∧ (overrun s n x flags start
    stop).power = s.power ∧ (overrun s n x flags start stop).dev = s.dev ∧ (overrun s n x flags start stop).clk =
    s.clk ∧ (overrun s n x flags start stop).eng = s.eng ∧ (overrun s n x flags start stop).trust = s.trust ∧ (overrun
    s n x flags start stop).lockoutRec = s.lockoutRec ∧ (overrun s n x flags start stop).rop = s.rop ∧ (overrun s n x
    flags start stop).eth = s.eth ∧ (overrun s n x flags start stop).hamper = s.hamper ∧ (overrun s n x flags start
    stop).pool = s.pool ∧ (overrun s n x flags start stop).link = s.link ∧ (overrun s n x flags start stop).bus =
    s.bus ∧ (overrun s n x flags start stop).aux = s.aux ∧ (overrun s n x flags start stop).refMon = s.refMon ∧
    (overrun s n x flags start stop).trig = s.trig ∧ (overrun s n x flags start stop).ronko = s.ronko ∧ (overrun s n x
    flags start stop).fsp = s.fsp ∧ (overrun s n x flags start stop).xip = s.xip ∧ (overrun s n x flags start
    stop).mgp = s.mgp ∧ (overrun s n x flags start stop).now = s.now ∧ (overrun s n x flags start stop).answer =
    s.answer ∧ (overrun s n x flags start stop).emit = s.emit ∧ (overrun s n x flags start stop).free = s.free ∧
    (overrun s n x flags start stop).pending = s.pending := by simp [overrun]

@[simp] theorem served_frame (s : State) (e : Eng) (stop : Nat) : (served s e stop).otp = s.otp ∧ (served s e
    stop).ident = s.ident ∧ (served s e stop).power = s.power ∧ (served s e stop).dev = s.dev ∧ (served s e stop).clk
    = s.clk ∧ (served s e stop).ch = s.ch ∧ (served s e stop).trust = s.trust ∧ (served s e stop).lockoutRec =
    s.lockoutRec ∧ (served s e stop).rop = s.rop ∧ (served s e stop).eth = s.eth ∧ (served s e stop).badger = s.badger
    ∧ (served s e stop).events = s.events ∧ (served s e stop).hamper = s.hamper ∧ (served s e stop).pool = s.pool ∧
    (served s e stop).link = s.link ∧ (served s e stop).bus = s.bus ∧ (served s e stop).aux = s.aux ∧ (served s e
    stop).refMon = s.refMon ∧ (served s e stop).trig = s.trig ∧ (served s e stop).ronko = s.ronko ∧ (served s e
    stop).fsp = s.fsp ∧ (served s e stop).xip = s.xip ∧ (served s e stop).mgp = s.mgp ∧ (served s e stop).now = s.now
    ∧ (served s e stop).answer = s.answer ∧ (served s e stop).emit = s.emit ∧ (served s e stop).free = s.free ∧
    (served s e stop).pending = s.pending :=
    ⟨rfl, rfl, rfl, rfl, rfl, rfl, rfl, rfl, rfl, rfl, rfl, rfl, rfl, rfl, rfl, rfl, rfl, rfl, rfl, rfl, rfl, rfl, rfl,
    rfl, rfl, rfl, rfl, rfl⟩

@[simp] theorem occasional_otp (d : Nat) (due : Bool) (cost : Nat) (act : State → State)
    (x : State × Nat × Bool) (h : ∀ s, (act s).otp = s.otp) : (occasional d due cost act x).1.otp = x.1.otp := by
  unfold occasional; (repeat' split) <;> simp [h]

@[simp] theorem occasional_ident (d : Nat) (due : Bool) (cost : Nat) (act : State → State)
    (x : State × Nat × Bool) (h : ∀ s, (act s).ident = s.ident) : (occasional d due cost act x).1.ident = x.1.ident := by
  unfold occasional; (repeat' split) <;> simp [h]

@[simp] theorem occasional_power (d : Nat) (due : Bool) (cost : Nat) (act : State → State)
    (x : State × Nat × Bool) (h : ∀ s, (act s).power = s.power) : (occasional d due cost act x).1.power = x.1.power := by
  unfold occasional; (repeat' split) <;> simp [h]

@[simp] theorem occasional_dev (d : Nat) (due : Bool) (cost : Nat) (act : State → State)
    (x : State × Nat × Bool) (h : ∀ s, (act s).dev = s.dev) : (occasional d due cost act x).1.dev = x.1.dev := by
  unfold occasional; (repeat' split) <;> simp [h]

@[simp] theorem occasional_clk (d : Nat) (due : Bool) (cost : Nat) (act : State → State)
    (x : State × Nat × Bool) (h : ∀ s, (act s).clk = s.clk) : (occasional d due cost act x).1.clk = x.1.clk := by
  unfold occasional; (repeat' split) <;> simp [h]

@[simp] theorem occasional_trust (d : Nat) (due : Bool) (cost : Nat) (act : State → State)
    (x : State × Nat × Bool) (h : ∀ s, (act s).trust = s.trust) : (occasional d due cost act x).1.trust = x.1.trust := by
  unfold occasional; (repeat' split) <;> simp [h]

@[simp] theorem occasional_lockoutRec (d : Nat) (due : Bool) (cost : Nat) (act : State → State)
    (x : State × Nat × Bool) (h : ∀ s, (act s).lockoutRec = s.lockoutRec) : (occasional d due cost act x).1.lockoutRec = x.1.lockoutRec := by
  unfold occasional; (repeat' split) <;> simp [h]

@[simp] theorem occasional_rop (d : Nat) (due : Bool) (cost : Nat) (act : State → State)
    (x : State × Nat × Bool) (h : ∀ s, (act s).rop = s.rop) : (occasional d due cost act x).1.rop = x.1.rop := by
  unfold occasional; (repeat' split) <;> simp [h]

@[simp] theorem occasional_eth (d : Nat) (due : Bool) (cost : Nat) (act : State → State)
    (x : State × Nat × Bool) (h : ∀ s, (act s).eth = s.eth) : (occasional d due cost act x).1.eth = x.1.eth := by
  unfold occasional; (repeat' split) <;> simp [h]

@[simp] theorem occasional_pool (d : Nat) (due : Bool) (cost : Nat) (act : State → State)
    (x : State × Nat × Bool) (h : ∀ s, (act s).pool = s.pool) : (occasional d due cost act x).1.pool = x.1.pool := by
  unfold occasional; (repeat' split) <;> simp [h]

@[simp] theorem occasional_link (d : Nat) (due : Bool) (cost : Nat) (act : State → State)
    (x : State × Nat × Bool) (h : ∀ s, (act s).link = s.link) : (occasional d due cost act x).1.link = x.1.link := by
  unfold occasional; (repeat' split) <;> simp [h]

@[simp] theorem occasional_bus (d : Nat) (due : Bool) (cost : Nat) (act : State → State)
    (x : State × Nat × Bool) (h : ∀ s, (act s).bus = s.bus) : (occasional d due cost act x).1.bus = x.1.bus := by
  unfold occasional; (repeat' split) <;> simp [h]

@[simp] theorem occasional_aux (d : Nat) (due : Bool) (cost : Nat) (act : State → State)
    (x : State × Nat × Bool) (h : ∀ s, (act s).aux = s.aux) : (occasional d due cost act x).1.aux = x.1.aux := by
  unfold occasional; (repeat' split) <;> simp [h]

@[simp] theorem occasional_refMon (d : Nat) (due : Bool) (cost : Nat) (act : State → State)
    (x : State × Nat × Bool) (h : ∀ s, (act s).refMon = s.refMon) : (occasional d due cost act x).1.refMon = x.1.refMon := by
  unfold occasional; (repeat' split) <;> simp [h]

@[simp] theorem occasional_trig (d : Nat) (due : Bool) (cost : Nat) (act : State → State)
    (x : State × Nat × Bool) (h : ∀ s, (act s).trig = s.trig) : (occasional d due cost act x).1.trig = x.1.trig := by
  unfold occasional; (repeat' split) <;> simp [h]

@[simp] theorem occasional_ronko (d : Nat) (due : Bool) (cost : Nat) (act : State → State)
    (x : State × Nat × Bool) (h : ∀ s, (act s).ronko = s.ronko) : (occasional d due cost act x).1.ronko = x.1.ronko := by
  unfold occasional; (repeat' split) <;> simp [h]

@[simp] theorem occasional_fsp (d : Nat) (due : Bool) (cost : Nat) (act : State → State)
    (x : State × Nat × Bool) (h : ∀ s, (act s).fsp = s.fsp) : (occasional d due cost act x).1.fsp = x.1.fsp := by
  unfold occasional; (repeat' split) <;> simp [h]

@[simp] theorem occasional_xip (d : Nat) (due : Bool) (cost : Nat) (act : State → State)
    (x : State × Nat × Bool) (h : ∀ s, (act s).xip = s.xip) : (occasional d due cost act x).1.xip = x.1.xip := by
  unfold occasional; (repeat' split) <;> simp [h]

@[simp] theorem occasional_mgp (d : Nat) (due : Bool) (cost : Nat) (act : State → State)
    (x : State × Nat × Bool) (h : ∀ s, (act s).mgp = s.mgp) : (occasional d due cost act x).1.mgp = x.1.mgp := by
  unfold occasional; (repeat' split) <;> simp [h]

@[simp] theorem occasional_now (d : Nat) (due : Bool) (cost : Nat) (act : State → State)
    (x : State × Nat × Bool) (h : ∀ s, (act s).now = s.now) : (occasional d due cost act x).1.now = x.1.now := by
  unfold occasional; (repeat' split) <;> simp [h]

@[simp] theorem occasional_answer (d : Nat) (due : Bool) (cost : Nat) (act : State → State)
    (x : State × Nat × Bool) (h : ∀ s, (act s).answer = s.answer) : (occasional d due cost act x).1.answer = x.1.answer := by
  unfold occasional; (repeat' split) <;> simp [h]

@[simp] theorem occasional_emit (d : Nat) (due : Bool) (cost : Nat) (act : State → State)
    (x : State × Nat × Bool) (h : ∀ s, (act s).emit = s.emit) : (occasional d due cost act x).1.emit = x.1.emit := by
  unfold occasional; (repeat' split) <;> simp [h]

@[simp] theorem occasional_free (d : Nat) (due : Bool) (cost : Nat) (act : State → State)
    (x : State × Nat × Bool) (h : ∀ s, (act s).free = s.free) : (occasional d due cost act x).1.free = x.1.free := by
  unfold occasional; (repeat' split) <;> simp [h]

@[simp] theorem occasional_pending (d : Nat) (due : Bool) (cost : Nat) (act : State → State)
    (x : State × Nat × Bool) (h : ∀ s, (act s).pending = s.pending) : (occasional d due cost act x).1.pending = x.1.pending := by
  unfold occasional; (repeat' split) <;> simp [h]

@[simp] theorem serveChannel_frame (s : State) (n : Ch) (cyc : Nat) : (serveChannel s n cyc).1.otp = s.otp ∧
    (serveChannel s n cyc).1.ident = s.ident ∧ (serveChannel s n cyc).1.power = s.power ∧ (serveChannel s n cyc).1.dev
    = s.dev ∧ (serveChannel s n cyc).1.clk = s.clk ∧ (serveChannel s n cyc).1.trust = s.trust ∧ (serveChannel s n
    cyc).1.lockoutRec = s.lockoutRec ∧ (serveChannel s n cyc).1.rop = s.rop ∧ (serveChannel s n cyc).1.eth = s.eth ∧
    (serveChannel s n cyc).1.pool = s.pool ∧ (serveChannel s n cyc).1.link = s.link ∧ (serveChannel s n cyc).1.bus =
    s.bus ∧ (serveChannel s n cyc).1.aux = s.aux ∧ (serveChannel s n cyc).1.refMon = s.refMon ∧ (serveChannel s n
    cyc).1.trig = s.trig ∧ (serveChannel s n cyc).1.ronko = s.ronko ∧ (serveChannel s n cyc).1.fsp = s.fsp ∧
    (serveChannel s n cyc).1.xip = s.xip ∧ (serveChannel s n cyc).1.mgp = s.mgp ∧ (serveChannel s n cyc).1.now = s.now
    ∧ (serveChannel s n cyc).1.answer = s.answer ∧ (serveChannel s n cyc).1.emit = s.emit ∧ (serveChannel s n
    cyc).1.free = s.free ∧ (serveChannel s n cyc).1.pending = s.pending := by unfold serveChannel; simp only []; split <;> simp

@[simp] theorem serveTurn_frame (n : Ch) (x : State × Nat) : (serveTurn n x).1.otp = x.1.otp ∧ (serveTurn n x).1.ident
    = x.1.ident ∧ (serveTurn n x).1.power = x.1.power ∧ (serveTurn n x).1.dev = x.1.dev ∧ (serveTurn n x).1.clk =
    x.1.clk ∧ (serveTurn n x).1.trust = x.1.trust ∧ (serveTurn n x).1.lockoutRec = x.1.lockoutRec ∧ (serveTurn n
    x).1.rop = x.1.rop ∧ (serveTurn n x).1.eth = x.1.eth ∧ (serveTurn n x).1.pool = x.1.pool ∧ (serveTurn n x).1.link
    = x.1.link ∧ (serveTurn n x).1.bus = x.1.bus ∧ (serveTurn n x).1.aux = x.1.aux ∧ (serveTurn n x).1.refMon =
    x.1.refMon ∧ (serveTurn n x).1.trig = x.1.trig ∧ (serveTurn n x).1.ronko = x.1.ronko ∧ (serveTurn n x).1.fsp =
    x.1.fsp ∧ (serveTurn n x).1.xip = x.1.xip ∧ (serveTurn n x).1.mgp = x.1.mgp ∧ (serveTurn n x).1.now = x.1.now ∧
    (serveTurn n x).1.answer = x.1.answer ∧ (serveTurn n x).1.emit = x.1.emit ∧ (serveTurn n x).1.free = x.1.free ∧
    (serveTurn n x).1.pending = x.1.pending := by unfold serveTurn; (repeat' split) <;> simp

@[simp] theorem engineService_frame (s : State) (e : Eng) : (engineService s e).otp = s.otp ∧ (engineService s
    e).ident = s.ident ∧ (engineService s e).power = s.power ∧ (engineService s e).dev = s.dev ∧ (engineService s
    e).clk = s.clk ∧ (engineService s e).trust = s.trust ∧ (engineService s e).lockoutRec = s.lockoutRec ∧
    (engineService s e).rop = s.rop ∧ (engineService s e).eth = s.eth ∧ (engineService s e).pool = s.pool ∧
    (engineService s e).link = s.link ∧ (engineService s e).bus = s.bus ∧ (engineService s e).aux = s.aux ∧
    (engineService s e).refMon = s.refMon ∧ (engineService s e).trig = s.trig ∧ (engineService s e).ronko = s.ronko ∧
    (engineService s e).fsp = s.fsp ∧ (engineService s e).xip = s.xip ∧ (engineService s e).mgp = s.mgp ∧
    (engineService s e).now = s.now ∧ (engineService s e).answer = s.answer ∧ (engineService s e).emit = s.emit ∧
    (engineService s e).free = s.free ∧ (engineService s e).pending = s.pending := by unfold engineService; simp only []; split <;> simp

@[simp] theorem leStep_frame (i : LoopInstr) (f : Run → Run) (e : Eng) (s : State) : (leStep i f e s).otp = s.otp ∧
    (leStep i f e s).ident = s.ident ∧ (leStep i f e s).power = s.power ∧ (leStep i f e s).dev = s.dev ∧ (leStep i f e
    s).clk = s.clk ∧ (leStep i f e s).ch = s.ch ∧ (leStep i f e s).trust = s.trust ∧ (leStep i f e s).lockoutRec =
    s.lockoutRec ∧ (leStep i f e s).rop = s.rop ∧ (leStep i f e s).eth = s.eth ∧ (leStep i f e s).badger = s.badger ∧
    (leStep i f e s).events = s.events ∧ (leStep i f e s).hamper = s.hamper ∧ (leStep i f e s).pool = s.pool ∧ (leStep
    i f e s).link = s.link ∧ (leStep i f e s).bus = s.bus ∧ (leStep i f e s).aux = s.aux ∧ (leStep i f e s).refMon =
    s.refMon ∧ (leStep i f e s).trig = s.trig ∧ (leStep i f e s).ronko = s.ronko ∧ (leStep i f e s).fsp = s.fsp ∧
    (leStep i f e s).xip = s.xip ∧ (leStep i f e s).mgp = s.mgp ∧ (leStep i f e s).now = s.now ∧ (leStep i f e
    s).answer = s.answer ∧ (leStep i f e s).emit = s.emit ∧ (leStep i f e s).free = s.free ∧ (leStep i f e s).pending
    = s.pending := by simp [leStep]

/-! ### EngineObjs -/

@[simp] theorem activatePeriod_frame (s : State) (e : Eng) : (activatePeriod s e).otp = s.otp ∧ (activatePeriod s
    e).ident = s.ident ∧ (activatePeriod s e).power = s.power ∧ (activatePeriod s e).dev = s.dev ∧ (activatePeriod s
    e).clk = s.clk ∧ (activatePeriod s e).trust = s.trust ∧ (activatePeriod s e).lockoutRec = s.lockoutRec ∧
    (activatePeriod s e).rop = s.rop ∧ (activatePeriod s e).eth = s.eth ∧ (activatePeriod s e).badger = s.badger ∧
    (activatePeriod s e).events = s.events ∧ (activatePeriod s e).hamper = s.hamper ∧ (activatePeriod s e).pool =
    s.pool ∧ (activatePeriod s e).link = s.link ∧ (activatePeriod s e).bus = s.bus ∧ (activatePeriod s e).aux = s.aux
    ∧ (activatePeriod s e).refMon = s.refMon ∧ (activatePeriod s e).trig = s.trig ∧ (activatePeriod s e).ronko =
    s.ronko ∧ (activatePeriod s e).fsp = s.fsp ∧ (activatePeriod s e).xip = s.xip ∧ (activatePeriod s e).mgp = s.mgp ∧
    (activatePeriod s e).now = s.now ∧ (activatePeriod s e).answer = s.answer ∧ (activatePeriod s e).emit = s.emit ∧
    (activatePeriod s e).free = s.free ∧ (activatePeriod s e).pending = s.pending := by simp [activatePeriod]

/-! ### Tick -/

@[simp] theorem clrTick_frame (s : State) (n : Ch) : (clrTick s n).otp = s.otp ∧ (clrTick s n).ident = s.ident ∧
    (clrTick s n).power = s.power ∧ (clrTick s n).dev = s.dev ∧ (clrTick s n).clk = s.clk ∧ (clrTick s n).eng = s.eng
    ∧ (clrTick s n).trust = s.trust ∧ (clrTick s n).lockoutRec = s.lockoutRec ∧ (clrTick s n).rop = s.rop ∧ (clrTick s
    n).eth = s.eth ∧ (clrTick s n).badger = s.badger ∧ (clrTick s n).events = s.events ∧ (clrTick s n).hamper =
    s.hamper ∧ (clrTick s n).pool = s.pool ∧ (clrTick s n).link = s.link ∧ (clrTick s n).bus = s.bus ∧ (clrTick s
    n).aux = s.aux ∧ (clrTick s n).refMon = s.refMon ∧ (clrTick s n).trig = s.trig ∧ (clrTick s n).ronko = s.ronko ∧
    (clrTick s n).fsp = s.fsp ∧ (clrTick s n).xip = s.xip ∧ (clrTick s n).mgp = s.mgp ∧ (clrTick s n).now = s.now ∧
    (clrTick s n).answer = s.answer ∧ (clrTick s n).emit = s.emit ∧ (clrTick s n).free = s.free ∧ (clrTick s
    n).pending = s.pending := by simp [clrTick]

@[simp] theorem profileTick_frame (s : State) (n : Ch) (g : F64) : (profileTick s n g).otp = s.otp ∧ (profileTick s n
    g).ident = s.ident ∧ (profileTick s n g).power = s.power ∧ (profileTick s n g).dev = s.dev ∧ (profileTick s n
    g).clk = s.clk ∧ (profileTick s n g).eng = s.eng ∧ (profileTick s n g).trust = s.trust ∧ (profileTick s n
    g).lockoutRec = s.lockoutRec ∧ (profileTick s n g).rop = s.rop ∧ (profileTick s n g).eth = s.eth ∧ (profileTick s
    n g).badger = s.badger ∧ (profileTick s n g).hamper = s.hamper ∧ (profileTick s n g).pool = s.pool ∧ (profileTick
    s n g).link = s.link ∧ (profileTick s n g).bus = s.bus ∧ (profileTick s n g).aux = s.aux ∧ (profileTick s n
    g).refMon = s.refMon ∧ (profileTick s n g).trig = s.trig ∧ (profileTick s n g).ronko = s.ronko ∧ (profileTick s n
    g).fsp = s.fsp ∧ (profileTick s n g).xip = s.xip ∧ (profileTick s n g).mgp = s.mgp ∧ (profileTick s n g).now =
    s.now ∧ (profileTick s n g).answer = s.answer ∧ (profileTick s n g).emit = s.emit ∧ (profileTick s n g).free =
    s.free ∧ (profileTick s n g).pending = s.pending := by simp [profileTick]

@[simp] theorem followTick_frame (s : State) (n : Ch) : (followTick s n).otp = s.otp ∧ (followTick s n).ident =
    s.ident ∧ (followTick s n).power = s.power ∧ (followTick s n).dev = s.dev ∧ (followTick s n).clk = s.clk ∧
    (followTick s n).eng = s.eng ∧ (followTick s n).trust = s.trust ∧ (followTick s n).lockoutRec = s.lockoutRec ∧
    (followTick s n).rop = s.rop ∧ (followTick s n).eth = s.eth ∧ (followTick s n).badger = s.badger ∧ (followTick s
    n).hamper = s.hamper ∧ (followTick s n).pool = s.pool ∧ (followTick s n).link = s.link ∧ (followTick s n).bus =
    s.bus ∧ (followTick s n).aux = s.aux ∧ (followTick s n).refMon = s.refMon ∧ (followTick s n).trig = s.trig ∧
    (followTick s n).ronko = s.ronko ∧ (followTick s n).fsp = s.fsp ∧ (followTick s n).xip = s.xip ∧ (followTick s
    n).mgp = s.mgp ∧ (followTick s n).now = s.now ∧ (followTick s n).answer = s.answer ∧ (followTick s n).emit =
    s.emit ∧ (followTick s n).free = s.free ∧ (followTick s n).pending = s.pending := by simp [followTick]

@[simp] theorem spTick_frame (s : State) (n : Ch) : (spTick s n).otp = s.otp ∧ (spTick s n).ident = s.ident ∧ (spTick
    s n).power = s.power ∧ (spTick s n).dev = s.dev ∧ (spTick s n).clk = s.clk ∧ (spTick s n).eng = s.eng ∧ (spTick s
    n).trust = s.trust ∧ (spTick s n).lockoutRec = s.lockoutRec ∧ (spTick s n).rop = s.rop ∧ (spTick s n).eth = s.eth
    ∧ (spTick s n).badger = s.badger ∧ (spTick s n).pool = s.pool ∧ (spTick s n).link = s.link ∧ (spTick s n).bus =
    s.bus ∧ (spTick s n).aux = s.aux ∧ (spTick s n).refMon = s.refMon ∧ (spTick s n).trig = s.trig ∧ (spTick s
    n).ronko = s.ronko ∧ (spTick s n).fsp = s.fsp ∧ (spTick s n).xip = s.xip ∧ (spTick s n).mgp = s.mgp ∧ (spTick s
    n).now = s.now ∧ (spTick s n).answer = s.answer ∧ (spTick s n).emit = s.emit ∧ (spTick s n).free = s.free ∧
    (spTick s n).pending = s.pending := by unfold spTick; simp only []; (repeat' split) <;> simp_all

@[simp] theorem channelTick_frame (s : State) (n : Ch) (w : ChanWin) (refNr : Bool) : (channelTick s n w refNr).otp =
    s.otp ∧ (channelTick s n w refNr).ident = s.ident ∧ (channelTick s n w refNr).power = s.power ∧ (channelTick s n w
    refNr).dev = s.dev ∧ (channelTick s n w refNr).clk = s.clk ∧ (channelTick s n w refNr).eng = s.eng ∧ (channelTick
    s n w refNr).trust = s.trust ∧ (channelTick s n w refNr).lockoutRec = s.lockoutRec ∧ (channelTick s n w refNr).rop
    = s.rop ∧ (channelTick s n w refNr).eth = s.eth ∧ (channelTick s n w refNr).badger = s.badger ∧ (channelTick s n w
    refNr).pool = s.pool ∧ (channelTick s n w refNr).link = s.link ∧ (channelTick s n w refNr).bus = s.bus ∧
    (channelTick s n w refNr).refMon = s.refMon ∧ (channelTick s n w refNr).trig = s.trig ∧ (channelTick s n w
    refNr).ronko = s.ronko ∧ (channelTick s n w refNr).fsp = s.fsp ∧ (channelTick s n w refNr).xip = s.xip ∧
    (channelTick s n w refNr).mgp = s.mgp ∧ (channelTick s n w refNr).now = s.now ∧ (channelTick s n w refNr).answer =
    s.answer ∧ (channelTick s n w refNr).emit = s.emit ∧ (channelTick s n w refNr).pending = s.pending := by simp [channelTick]

end Sys2Proof.Machine
end

