-- ==== Sys2Proof/Laws/FrameDevice.lean ====
section
/-! SUPPORT. Frames: which parts of the state an operation leaves alone, once for each operation (device states, trust and Badger). -/

namespace Sys2Proof.Machine

/-! ### Device -/

@[simp] theorem removeSession_frame (s : State) (i : Fin 8) (how : Nat) : (removeSession s i how).otp = s.otp ∧
    (removeSession s i how).ident = s.ident ∧ (removeSession s i how).power = s.power ∧ (removeSession s i how).dev =
    s.dev ∧ (removeSession s i how).clk = s.clk ∧ (removeSession s i how).eng = s.eng ∧ (removeSession s i
    how).lockoutRec = s.lockoutRec ∧ (removeSession s i how).eth = s.eth ∧ (removeSession s i how).badger = s.badger ∧
    (removeSession s i how).pool = s.pool ∧ (removeSession s i how).link = s.link ∧ (removeSession s i how).bus =
    s.bus ∧ (removeSession s i how).aux = s.aux ∧ (removeSession s i how).refMon = s.refMon ∧ (removeSession s i
    how).trig = s.trig ∧ (removeSession s i how).ronko = s.ronko ∧ (removeSession s i how).fsp = s.fsp ∧
    (removeSession s i how).xip = s.xip ∧ (removeSession s i how).mgp = s.mgp ∧ (removeSession s i how).now = s.now ∧
    (removeSession s i how).answer = s.answer ∧ (removeSession s i how).emit = s.emit ∧ (removeSession s i how).free =
    s.free ∧ (removeSession s i how).pending = s.pending := by simp [removeSession]

@[simp] theorem removeSessions_frame (s : State) : (removeSessions s).otp = s.otp ∧ (removeSessions s).ident = s.ident
    ∧ (removeSessions s).power = s.power ∧ (removeSessions s).dev = s.dev ∧ (removeSessions s).clk = s.clk ∧
    (removeSessions s).eng = s.eng ∧ (removeSessions s).lockoutRec = s.lockoutRec ∧ (removeSessions s).eth = s.eth ∧
    (removeSessions s).badger = s.badger ∧ (removeSessions s).pool = s.pool ∧ (removeSessions s).link = s.link ∧
    (removeSessions s).bus = s.bus ∧ (removeSessions s).aux = s.aux ∧ (removeSessions s).refMon = s.refMon ∧
    (removeSessions s).trig = s.trig ∧ (removeSessions s).ronko = s.ronko ∧ (removeSessions s).fsp = s.fsp ∧
    (removeSessions s).xip = s.xip ∧ (removeSessions s).mgp = s.mgp ∧ (removeSessions s).now = s.now ∧ (removeSessions
    s).answer = s.answer ∧ (removeSessions s).emit = s.emit ∧ (removeSessions s).free = s.free ∧ (removeSessions
    s).pending = s.pending := by simp [removeSessions]

@[simp] theorem setDevice_frame (s : State) (d : DeviceState) : (setDevice s d).otp = s.otp ∧ (setDevice s d).ident =
    s.ident ∧ (setDevice s d).power = s.power ∧ (setDevice s d).clk = s.clk ∧ (setDevice s d).eng = s.eng ∧ (setDevice
    s d).ch = s.ch ∧ (setDevice s d).trust = s.trust ∧ (setDevice s d).lockoutRec = s.lockoutRec ∧ (setDevice s d).rop
    = s.rop ∧ (setDevice s d).eth = s.eth ∧ (setDevice s d).badger = s.badger ∧ (setDevice s d).hamper = s.hamper ∧
    (setDevice s d).pool = s.pool ∧ (setDevice s d).link = s.link ∧ (setDevice s d).bus = s.bus ∧ (setDevice s d).aux
    = s.aux ∧ (setDevice s d).refMon = s.refMon ∧ (setDevice s d).trig = s.trig ∧ (setDevice s d).xip = s.xip ∧
    (setDevice s d).mgp = s.mgp ∧ (setDevice s d).now = s.now ∧ (setDevice s d).answer = s.answer ∧ (setDevice s
    d).emit = s.emit ∧ (setDevice s d).free = s.free ∧ (setDevice s d).pending = s.pending := by simp [setDevice]

@[simp] theorem hostRing_frame (s : State) : (hostRing s).otp = s.otp ∧ (hostRing s).ident = s.ident ∧ (hostRing
    s).power = s.power ∧ (hostRing s).dev = s.dev ∧ (hostRing s).clk = s.clk ∧ (hostRing s).eng = s.eng ∧ (hostRing
    s).ch = s.ch ∧ (hostRing s).trust = s.trust ∧ (hostRing s).lockoutRec = s.lockoutRec ∧ (hostRing s).rop = s.rop ∧
    (hostRing s).eth = s.eth ∧ (hostRing s).badger = s.badger ∧ (hostRing s).events = s.events ∧ (hostRing s).pool =
    s.pool ∧ (hostRing s).link = s.link ∧ (hostRing s).bus = s.bus ∧ (hostRing s).aux = s.aux ∧ (hostRing s).refMon =
    s.refMon ∧ (hostRing s).trig = s.trig ∧ (hostRing s).ronko = s.ronko ∧ (hostRing s).fsp = s.fsp ∧ (hostRing s).xip
    = s.xip ∧ (hostRing s).mgp = s.mgp ∧ (hostRing s).now = s.now ∧ (hostRing s).answer = s.answer ∧ (hostRing s).emit
    = s.emit ∧ (hostRing s).free = s.free ∧ (hostRing s).pending = s.pending := by simp [hostRing]

@[simp] theorem coreReleased_frame (s : State) : (coreReleased s).otp = s.otp ∧ (coreReleased s).ident = s.ident ∧
    (coreReleased s).power = s.power ∧ (coreReleased s).dev = s.dev ∧ (coreReleased s).clk = s.clk ∧ (coreReleased
    s).eng = s.eng ∧ (coreReleased s).ch = s.ch ∧ (coreReleased s).trust = s.trust ∧ (coreReleased s).lockoutRec =
    s.lockoutRec ∧ (coreReleased s).rop = s.rop ∧ (coreReleased s).eth = s.eth ∧ (coreReleased s).badger = s.badger ∧
    (coreReleased s).events = s.events ∧ (coreReleased s).pool = s.pool ∧ (coreReleased s).link = s.link ∧
    (coreReleased s).bus = s.bus ∧ (coreReleased s).aux = s.aux ∧ (coreReleased s).refMon = s.refMon ∧ (coreReleased
    s).trig = s.trig ∧ (coreReleased s).ronko = s.ronko ∧ (coreReleased s).fsp = s.fsp ∧ (coreReleased s).mgp = s.mgp
    ∧ (coreReleased s).now = s.now ∧ (coreReleased s).answer = s.answer ∧ (coreReleased s).emit = s.emit ∧
    (coreReleased s).free = s.free ∧ (coreReleased s).pending = s.pending := by simp [coreReleased]

@[simp] theorem enterRun_frame (s : State) : (enterRun s).otp = s.otp ∧ (enterRun s).ident = s.ident ∧ (enterRun
    s).power = s.power ∧ (enterRun s).clk = s.clk ∧ (enterRun s).eng = s.eng ∧ (enterRun s).ch = s.ch ∧ (enterRun
    s).trust = s.trust ∧ (enterRun s).lockoutRec = s.lockoutRec ∧ (enterRun s).rop = s.rop ∧ (enterRun s).eth = s.eth
    ∧ (enterRun s).badger = s.badger ∧ (enterRun s).pool = s.pool ∧ (enterRun s).link = s.link ∧ (enterRun s).bus =
    s.bus ∧ (enterRun s).aux = s.aux ∧ (enterRun s).refMon = s.refMon ∧ (enterRun s).trig = s.trig ∧ (enterRun s).mgp
    = s.mgp ∧ (enterRun s).now = s.now ∧ (enterRun s).answer = s.answer ∧ (enterRun s).emit = s.emit ∧ (enterRun
    s).free = s.free ∧ (enterRun s).pending = s.pending := by simp [enterRun]

@[simp] theorem enterQuiet_frame (s : State) (d : DeviceState) : (enterQuiet s d).otp = s.otp ∧ (enterQuiet s d).ident
    = s.ident ∧ (enterQuiet s d).power = s.power ∧ (enterQuiet s d).clk = s.clk ∧ (enterQuiet s d).eng = s.eng ∧
    (enterQuiet s d).trust = s.trust ∧ (enterQuiet s d).lockoutRec = s.lockoutRec ∧ (enterQuiet s d).rop = s.rop ∧
    (enterQuiet s d).eth = s.eth ∧ (enterQuiet s d).badger = s.badger ∧ (enterQuiet s d).pool = s.pool ∧ (enterQuiet s
    d).link = s.link ∧ (enterQuiet s d).bus = s.bus ∧ (enterQuiet s d).aux = s.aux ∧ (enterQuiet s d).refMon =
    s.refMon ∧ (enterQuiet s d).trig = s.trig ∧ (enterQuiet s d).xip = s.xip ∧ (enterQuiet s d).mgp = s.mgp ∧
    (enterQuiet s d).now = s.now ∧ (enterQuiet s d).answer = s.answer ∧ (enterQuiet s d).emit = s.emit ∧ (enterQuiet s
    d).free = s.free ∧ (enterQuiet s d).pending = s.pending := by simp [enterQuiet]

@[simp] theorem coreHeld_frame (s : State) : (coreHeld s).otp = s.otp ∧ (coreHeld s).ident = s.ident ∧ (coreHeld
    s).power = s.power ∧ (coreHeld s).clk = s.clk ∧ (coreHeld s).eng = s.eng ∧ (coreHeld s).ch = s.ch ∧ (coreHeld
    s).lockoutRec = s.lockoutRec ∧ (coreHeld s).rop = s.rop ∧ (coreHeld s).eth = s.eth ∧ (coreHeld s).badger =
    s.badger ∧ (coreHeld s).events = s.events ∧ (coreHeld s).hamper = s.hamper ∧ (coreHeld s).pool = s.pool ∧
    (coreHeld s).link = s.link ∧ (coreHeld s).bus = s.bus ∧ (coreHeld s).aux = s.aux ∧ (coreHeld s).refMon = s.refMon
    ∧ (coreHeld s).trig = s.trig ∧ (coreHeld s).ronko = s.ronko ∧ (coreHeld s).fsp = s.fsp ∧ (coreHeld s).xip = s.xip
    ∧ (coreHeld s).mgp = s.mgp ∧ (coreHeld s).now = s.now ∧ (coreHeld s).answer = s.answer ∧ (coreHeld s).emit =
    s.emit ∧ (coreHeld s).free = s.free ∧ (coreHeld s).pending = s.pending :=
    ⟨rfl, rfl, rfl, rfl, rfl, rfl, rfl, rfl, rfl, rfl, rfl, rfl, rfl, rfl, rfl, rfl, rfl, rfl, rfl, rfl, rfl, rfl, rfl,
    rfl, rfl, rfl, rfl⟩

@[simp] theorem setRefReady_frame (s : State) (on : Bool) : (setRefReady s on).otp = s.otp ∧ (setRefReady s on).ident
    = s.ident ∧ (setRefReady s on).power = s.power ∧ (setRefReady s on).clk = s.clk ∧ (setRefReady s on).trust =
    s.trust ∧ (setRefReady s on).lockoutRec = s.lockoutRec ∧ (setRefReady s on).rop = s.rop ∧ (setRefReady s on).eth =
    s.eth ∧ (setRefReady s on).badger = s.badger ∧ (setRefReady s on).events = s.events ∧ (setRefReady s on).hamper =
    s.hamper ∧ (setRefReady s on).pool = s.pool ∧ (setRefReady s on).link = s.link ∧ (setRefReady s on).bus = s.bus ∧
    (setRefReady s on).refMon = s.refMon ∧ (setRefReady s on).trig = s.trig ∧ (setRefReady s on).ronko = s.ronko ∧
    (setRefReady s on).fsp = s.fsp ∧ (setRefReady s on).xip = s.xip ∧ (setRefReady s on).mgp = s.mgp ∧ (setRefReady s
    on).now = s.now ∧ (setRefReady s on).answer = s.answer ∧ (setRefReady s on).emit = s.emit ∧ (setRefReady s
    on).free = s.free ∧ (setRefReady s on).pending = s.pending :=
    ⟨rfl, rfl, rfl, rfl, rfl, rfl, rfl, rfl, rfl, rfl, rfl, rfl, rfl, rfl, rfl, rfl, rfl, rfl, rfl, rfl, rfl, rfl, rfl,
    rfl, rfl⟩

@[simp] theorem enterHalt_frame (s : State) (message : W64) (refFault : Bool) : (enterHalt s message refFault).otp =
    s.otp ∧ (enterHalt s message refFault).ident = s.ident ∧ (enterHalt s message refFault).power = s.power ∧
    (enterHalt s message refFault).clk = s.clk ∧ (enterHalt s message refFault).lockoutRec = s.lockoutRec ∧ (enterHalt
    s message refFault).eth = s.eth ∧ (enterHalt s message refFault).badger = s.badger ∧ (enterHalt s message
    refFault).pool = s.pool ∧ (enterHalt s message refFault).link = s.link ∧ (enterHalt s message refFault).bus =
    s.bus ∧ (enterHalt s message refFault).refMon = s.refMon ∧ (enterHalt s message refFault).trig = s.trig ∧
    (enterHalt s message refFault).xip = s.xip ∧ (enterHalt s message refFault).mgp = s.mgp ∧ (enterHalt s message
    refFault).now = s.now ∧ (enterHalt s message refFault).answer = s.answer ∧ (enterHalt s message refFault).emit =
    s.emit ∧ (enterHalt s message refFault).free = s.free ∧ (enterHalt s message refFault).pending = s.pending := by simp [enterHalt]

@[simp] theorem haltNow_frame (s : State) (src : BitVec 6) (kind : Byte) (detail : Nat) : (haltNow s src kind
    detail).otp = s.otp ∧ (haltNow s src kind detail).ident = s.ident ∧ (haltNow s src kind detail).power = s.power ∧
    (haltNow s src kind detail).clk = s.clk ∧ (haltNow s src kind detail).lockoutRec = s.lockoutRec ∧ (haltNow s src
    kind detail).eth = s.eth ∧ (haltNow s src kind detail).pool = s.pool ∧ (haltNow s src kind detail).link = s.link ∧
    (haltNow s src kind detail).bus = s.bus ∧ (haltNow s src kind detail).refMon = s.refMon ∧ (haltNow s src kind
    detail).trig = s.trig ∧ (haltNow s src kind detail).xip = s.xip ∧ (haltNow s src kind detail).mgp = s.mgp ∧
    (haltNow s src kind detail).now = s.now ∧ (haltNow s src kind detail).answer = s.answer ∧ (haltNow s src kind
    detail).emit = s.emit ∧ (haltNow s src kind detail).free = s.free ∧ (haltNow s src kind detail).pending =
    s.pending := by simp [haltNow]

@[simp] theorem afterReset_frame (s : State) (aon : Bool) : (afterReset s aon).otp = s.otp ∧ (afterReset s aon).ident
    = s.ident ∧ (afterReset s aon).lockoutRec = s.lockoutRec ∧ (afterReset s aon).now = s.now ∧ (afterReset s
    aon).answer = s.answer ∧ (afterReset s aon).emit = s.emit ∧ (afterReset s aon).free = s.free ∧ (afterReset s
    aon).pending = s.pending := by simp [afterReset]

@[simp] theorem enterReset_frame (s : State) (cause : W16) (aon : Bool) : (enterReset s cause aon).otp = s.otp ∧
    (enterReset s cause aon).ident = s.ident ∧ (enterReset s cause aon).lockoutRec = s.lockoutRec ∧ (enterReset s
    cause aon).now = s.now ∧ (enterReset s cause aon).answer = s.answer ∧ (enterReset s cause aon).emit = s.emit ∧
    (enterReset s cause aon).free = s.free ∧ (enterReset s cause aon).pending = s.pending := by simp [enterReset]

@[simp] theorem powerOn_frame (s : State) : (powerOn s).otp = s.otp ∧ (powerOn s).ident = s.ident ∧ (powerOn
    s).lockoutRec = s.lockoutRec ∧ (powerOn s).now = s.now ∧ (powerOn s).answer = s.answer ∧ (powerOn s).emit = s.emit
    ∧ (powerOn s).free = s.free ∧ (powerOn s).pending = s.pending :=
    ⟨rfl, rfl, rfl, rfl, rfl, rfl, rfl, rfl⟩

@[simp] theorem freeSems_frame (s : State) : (freeSems s).otp = s.otp ∧ (freeSems s).ident = s.ident ∧ (freeSems
    s).power = s.power ∧ (freeSems s).dev = s.dev ∧ (freeSems s).clk = s.clk ∧ (freeSems s).eng = s.eng ∧ (freeSems
    s).ch = s.ch ∧ (freeSems s).trust = s.trust ∧ (freeSems s).lockoutRec = s.lockoutRec ∧ (freeSems s).rop = s.rop ∧
    (freeSems s).eth = s.eth ∧ (freeSems s).events = s.events ∧ (freeSems s).pool = s.pool ∧ (freeSems s).link =
    s.link ∧ (freeSems s).bus = s.bus ∧ (freeSems s).aux = s.aux ∧ (freeSems s).refMon = s.refMon ∧ (freeSems s).trig
    = s.trig ∧ (freeSems s).ronko = s.ronko ∧ (freeSems s).fsp = s.fsp ∧ (freeSems s).xip = s.xip ∧ (freeSems s).mgp =
    s.mgp ∧ (freeSems s).now = s.now ∧ (freeSems s).answer = s.answer ∧ (freeSems s).emit = s.emit ∧ (freeSems s).free
    = s.free ∧ (freeSems s).pending = s.pending := by unfold freeSems; simp only []; (repeat' split) <;> simp_all

@[simp] theorem coreReset_frame (s : State) : (coreReset s).otp = s.otp ∧ (coreReset s).ident = s.ident ∧ (coreReset
    s).power = s.power ∧ (coreReset s).clk = s.clk ∧ (coreReset s).eng = s.eng ∧ (coreReset s).lockoutRec =
    s.lockoutRec ∧ (coreReset s).eth = s.eth ∧ (coreReset s).pool = s.pool ∧ (coreReset s).link = s.link ∧ (coreReset
    s).bus = s.bus ∧ (coreReset s).aux = s.aux ∧ (coreReset s).refMon = s.refMon ∧ (coreReset s).trig = s.trig ∧
    (coreReset s).ronko = s.ronko ∧ (coreReset s).fsp = s.fsp ∧ (coreReset s).xip = s.xip ∧ (coreReset s).mgp = s.mgp
    ∧ (coreReset s).now = s.now ∧ (coreReset s).answer = s.answer ∧ (coreReset s).emit = s.emit ∧ (coreReset s).free =
    s.free ∧ (coreReset s).pending = s.pending := by unfold coreReset; simp only []; (repeat' split) <;> simp_all

@[simp] theorem recordImages_frame (s : State) (x0 x1 : FlashImage) : (recordImages s x0 x1).otp = s.otp ∧
    (recordImages s x0 x1).ident = s.ident ∧ (recordImages s x0 x1).power = s.power ∧ (recordImages s x0 x1).dev =
    s.dev ∧ (recordImages s x0 x1).clk = s.clk ∧ (recordImages s x0 x1).eng = s.eng ∧ (recordImages s x0 x1).ch = s.ch
    ∧ (recordImages s x0 x1).lockoutRec = s.lockoutRec ∧ (recordImages s x0 x1).rop = s.rop ∧ (recordImages s x0
    x1).eth = s.eth ∧ (recordImages s x0 x1).badger = s.badger ∧ (recordImages s x0 x1).events = s.events ∧
    (recordImages s x0 x1).hamper = s.hamper ∧ (recordImages s x0 x1).pool = s.pool ∧ (recordImages s x0 x1).link =
    s.link ∧ (recordImages s x0 x1).bus = s.bus ∧ (recordImages s x0 x1).aux = s.aux ∧ (recordImages s x0 x1).refMon =
    s.refMon ∧ (recordImages s x0 x1).trig = s.trig ∧ (recordImages s x0 x1).ronko = s.ronko ∧ (recordImages s x0
    x1).fsp = s.fsp ∧ (recordImages s x0 x1).mgp = s.mgp ∧ (recordImages s x0 x1).now = s.now ∧ (recordImages s x0
    x1).answer = s.answer ∧ (recordImages s x0 x1).emit = s.emit ∧ (recordImages s x0 x1).free = s.free ∧
    (recordImages s x0 x1).pending = s.pending :=
    ⟨rfl, rfl, rfl, rfl, rfl, rfl, rfl, rfl, rfl, rfl, rfl, rfl, rfl, rfl, rfl, rfl, rfl, rfl, rfl, rfl, rfl, rfl, rfl,
    rfl, rfl, rfl, rfl⟩

@[simp] theorem beginLockout_frame (s : State) (len : Nat) : (beginLockout s len).otp = s.otp ∧ (beginLockout s
    len).ident = s.ident ∧ (beginLockout s len).power = s.power ∧ (beginLockout s len).dev = s.dev ∧ (beginLockout s
    len).clk = s.clk ∧ (beginLockout s len).eng = s.eng ∧ (beginLockout s len).ch = s.ch ∧ (beginLockout s
    len).lockoutRec = s.lockoutRec ∧ (beginLockout s len).rop = s.rop ∧ (beginLockout s len).eth = s.eth ∧
    (beginLockout s len).badger = s.badger ∧ (beginLockout s len).hamper = s.hamper ∧ (beginLockout s len).pool =
    s.pool ∧ (beginLockout s len).link = s.link ∧ (beginLockout s len).bus = s.bus ∧ (beginLockout s len).aux = s.aux
    ∧ (beginLockout s len).refMon = s.refMon ∧ (beginLockout s len).trig = s.trig ∧ (beginLockout s len).ronko =
    s.ronko ∧ (beginLockout s len).fsp = s.fsp ∧ (beginLockout s len).xip = s.xip ∧ (beginLockout s len).mgp = s.mgp ∧
    (beginLockout s len).now = s.now ∧ (beginLockout s len).answer = s.answer ∧ (beginLockout s len).emit = s.emit ∧
    (beginLockout s len).free = s.free ∧ (beginLockout s len).pending = s.pending := by simp [beginLockout]

@[simp] theorem noRecord_frame (s : State) (st : RecordState) : (noRecord s st).otp = s.otp ∧ (noRecord s st).ident =
    s.ident ∧ (noRecord s st).power = s.power ∧ (noRecord s st).dev = s.dev ∧ (noRecord s st).clk = s.clk ∧ (noRecord
    s st).eng = s.eng ∧ (noRecord s st).lockoutRec = s.lockoutRec ∧ (noRecord s st).rop = s.rop ∧ (noRecord s st).eth
    = s.eth ∧ (noRecord s st).events = s.events ∧ (noRecord s st).hamper = s.hamper ∧ (noRecord s st).pool = s.pool ∧
    (noRecord s st).link = s.link ∧ (noRecord s st).bus = s.bus ∧ (noRecord s st).aux = s.aux ∧ (noRecord s st).refMon
    = s.refMon ∧ (noRecord s st).trig = s.trig ∧ (noRecord s st).ronko = s.ronko ∧ (noRecord s st).fsp = s.fsp ∧
    (noRecord s st).xip = s.xip ∧ (noRecord s st).mgp = s.mgp ∧ (noRecord s st).now = s.now ∧ (noRecord s st).answer =
    s.answer ∧ (noRecord s st).emit = s.emit ∧ (noRecord s st).free = s.free ∧ (noRecord s st).pending = s.pending := by simp [noRecord]

@[simp] theorem applyRecord_frame (s : State) (r : RecordObs) : (applyRecord s r).otp = s.otp ∧ (applyRecord s
    r).ident = s.ident ∧ (applyRecord s r).power = s.power ∧ (applyRecord s r).dev = s.dev ∧ (applyRecord s r).clk =
    s.clk ∧ (applyRecord s r).eng = s.eng ∧ (applyRecord s r).lockoutRec = s.lockoutRec ∧ (applyRecord s r).rop =
    s.rop ∧ (applyRecord s r).eth = s.eth ∧ (applyRecord s r).events = s.events ∧ (applyRecord s r).hamper = s.hamper
    ∧ (applyRecord s r).pool = s.pool ∧ (applyRecord s r).link = s.link ∧ (applyRecord s r).bus = s.bus ∧ (applyRecord
    s r).aux = s.aux ∧ (applyRecord s r).refMon = s.refMon ∧ (applyRecord s r).trig = s.trig ∧ (applyRecord s r).ronko
    = s.ronko ∧ (applyRecord s r).fsp = s.fsp ∧ (applyRecord s r).xip = s.xip ∧ (applyRecord s r).mgp = s.mgp ∧
    (applyRecord s r).now = s.now ∧ (applyRecord s r).answer = s.answer ∧ (applyRecord s r).emit = s.emit ∧
    (applyRecord s r).free = s.free ∧ (applyRecord s r).pending = s.pending := by unfold applyRecord; split <;> simp

@[simp] theorem State.modInstr_frame (s : State) (f : Instructor → Instructor) : (State.modInstr s f).otp = s.otp ∧
    (State.modInstr s f).ident = s.ident ∧ (State.modInstr s f).power = s.power ∧ (State.modInstr s f).dev = s.dev ∧
    (State.modInstr s f).clk = s.clk ∧ (State.modInstr s f).eng = s.eng ∧ (State.modInstr s f).ch = s.ch ∧
    (State.modInstr s f).lockoutRec = s.lockoutRec ∧ (State.modInstr s f).rop = s.rop ∧ (State.modInstr s f).eth =
    s.eth ∧ (State.modInstr s f).badger = s.badger ∧ (State.modInstr s f).events = s.events ∧ (State.modInstr s
    f).hamper = s.hamper ∧ (State.modInstr s f).pool = s.pool ∧ (State.modInstr s f).link = s.link ∧ (State.modInstr s
    f).bus = s.bus ∧ (State.modInstr s f).aux = s.aux ∧ (State.modInstr s f).refMon = s.refMon ∧ (State.modInstr s
    f).trig = s.trig ∧ (State.modInstr s f).ronko = s.ronko ∧ (State.modInstr s f).fsp = s.fsp ∧ (State.modInstr s
    f).xip = s.xip ∧ (State.modInstr s f).mgp = s.mgp ∧ (State.modInstr s f).now = s.now ∧ (State.modInstr s f).answer
    = s.answer ∧ (State.modInstr s f).emit = s.emit ∧ (State.modInstr s f).free = s.free ∧ (State.modInstr s
    f).pending = s.pending :=
    ⟨rfl, rfl, rfl, rfl, rfl, rfl, rfl, rfl, rfl, rfl, rfl, rfl, rfl, rfl, rfl, rfl, rfl, rfl, rfl, rfl, rfl, rfl, rfl,
    rfl, rfl, rfl, rfl, rfl⟩

@[simp] theorem State.modFsp_frame (s : State) (f : Fsp → Fsp) : (State.modFsp s f).otp = s.otp ∧ (State.modFsp s
    f).ident = s.ident ∧ (State.modFsp s f).power = s.power ∧ (State.modFsp s f).dev = s.dev ∧ (State.modFsp s f).clk
    = s.clk ∧ (State.modFsp s f).eng = s.eng ∧ (State.modFsp s f).ch = s.ch ∧ (State.modFsp s f).trust = s.trust ∧
    (State.modFsp s f).lockoutRec = s.lockoutRec ∧ (State.modFsp s f).rop = s.rop ∧ (State.modFsp s f).eth = s.eth ∧
    (State.modFsp s f).badger = s.badger ∧ (State.modFsp s f).events = s.events ∧ (State.modFsp s f).hamper = s.hamper
    ∧ (State.modFsp s f).pool = s.pool ∧ (State.modFsp s f).link = s.link ∧ (State.modFsp s f).bus = s.bus ∧
    (State.modFsp s f).aux = s.aux ∧ (State.modFsp s f).refMon = s.refMon ∧ (State.modFsp s f).trig = s.trig ∧
    (State.modFsp s f).ronko = s.ronko ∧ (State.modFsp s f).xip = s.xip ∧ (State.modFsp s f).mgp = s.mgp ∧
    (State.modFsp s f).now = s.now ∧ (State.modFsp s f).answer = s.answer ∧ (State.modFsp s f).emit = s.emit ∧
    (State.modFsp s f).free = s.free ∧ (State.modFsp s f).pending = s.pending :=
    ⟨rfl, rfl, rfl, rfl, rfl, rfl, rfl, rfl, rfl, rfl, rfl, rfl, rfl, rfl, rfl, rfl, rfl, rfl, rfl, rfl, rfl, rfl, rfl,
    rfl, rfl, rfl, rfl, rfl⟩

@[simp] theorem State.modXip_frame (s : State) (f : Xip → Xip) : (State.modXip s f).otp = s.otp ∧ (State.modXip s
    f).ident = s.ident ∧ (State.modXip s f).power = s.power ∧ (State.modXip s f).dev = s.dev ∧ (State.modXip s f).clk
    = s.clk ∧ (State.modXip s f).eng = s.eng ∧ (State.modXip s f).ch = s.ch ∧ (State.modXip s f).trust = s.trust ∧
    (State.modXip s f).lockoutRec = s.lockoutRec ∧ (State.modXip s f).rop = s.rop ∧ (State.modXip s f).eth = s.eth ∧
    (State.modXip s f).badger = s.badger ∧ (State.modXip s f).events = s.events ∧ (State.modXip s f).hamper = s.hamper
    ∧ (State.modXip s f).pool = s.pool ∧ (State.modXip s f).link = s.link ∧ (State.modXip s f).bus = s.bus ∧
    (State.modXip s f).aux = s.aux ∧ (State.modXip s f).refMon = s.refMon ∧ (State.modXip s f).trig = s.trig ∧
    (State.modXip s f).ronko = s.ronko ∧ (State.modXip s f).fsp = s.fsp ∧ (State.modXip s f).mgp = s.mgp ∧
    (State.modXip s f).now = s.now ∧ (State.modXip s f).answer = s.answer ∧ (State.modXip s f).emit = s.emit ∧
    (State.modXip s f).free = s.free ∧ (State.modXip s f).pending = s.pending :=
    ⟨rfl, rfl, rfl, rfl, rfl, rfl, rfl, rfl, rfl, rfl, rfl, rfl, rfl, rfl, rfl, rfl, rfl, rfl, rfl, rfl, rfl, rfl, rfl,
    rfl, rfl, rfl, rfl, rfl⟩

@[simp] theorem State.fss0_frame (s : State) (bytes : List Byte) (dummy read : Nat) : (State.fss0 s bytes dummy
    read).otp = s.otp ∧ (State.fss0 s bytes dummy read).ident = s.ident ∧ (State.fss0 s bytes dummy read).power =
    s.power ∧ (State.fss0 s bytes dummy read).dev = s.dev ∧ (State.fss0 s bytes dummy read).clk = s.clk ∧ (State.fss0
    s bytes dummy read).eng = s.eng ∧ (State.fss0 s bytes dummy read).ch = s.ch ∧ (State.fss0 s bytes dummy
    read).trust = s.trust ∧ (State.fss0 s bytes dummy read).lockoutRec = s.lockoutRec ∧ (State.fss0 s bytes dummy
    read).rop = s.rop ∧ (State.fss0 s bytes dummy read).eth = s.eth ∧ (State.fss0 s bytes dummy read).badger =
    s.badger ∧ (State.fss0 s bytes dummy read).events = s.events ∧ (State.fss0 s bytes dummy read).hamper = s.hamper ∧
    (State.fss0 s bytes dummy read).pool = s.pool ∧ (State.fss0 s bytes dummy read).link = s.link ∧ (State.fss0 s
    bytes dummy read).bus = s.bus ∧ (State.fss0 s bytes dummy read).aux = s.aux ∧ (State.fss0 s bytes dummy
    read).refMon = s.refMon ∧ (State.fss0 s bytes dummy read).trig = s.trig ∧ (State.fss0 s bytes dummy read).ronko =
    s.ronko ∧ (State.fss0 s bytes dummy read).xip = s.xip ∧ (State.fss0 s bytes dummy read).mgp = s.mgp ∧ (State.fss0
    s bytes dummy read).now = s.now ∧ (State.fss0 s bytes dummy read).answer = s.answer ∧ (State.fss0 s bytes dummy
    read).free = s.free ∧ (State.fss0 s bytes dummy read).pending = s.pending := by simp [State.fss0]

@[simp] theorem exitNow_frame (s : State) : (exitNow s).otp = s.otp ∧ (exitNow s).ident = s.ident ∧ (exitNow s).power
    = s.power ∧ (exitNow s).dev = s.dev ∧ (exitNow s).clk = s.clk ∧ (exitNow s).eng = s.eng ∧ (exitNow s).ch = s.ch ∧
    (exitNow s).trust = s.trust ∧ (exitNow s).lockoutRec = s.lockoutRec ∧ (exitNow s).rop = s.rop ∧ (exitNow s).eth =
    s.eth ∧ (exitNow s).badger = s.badger ∧ (exitNow s).events = s.events ∧ (exitNow s).hamper = s.hamper ∧ (exitNow
    s).pool = s.pool ∧ (exitNow s).link = s.link ∧ (exitNow s).bus = s.bus ∧ (exitNow s).aux = s.aux ∧ (exitNow
    s).refMon = s.refMon ∧ (exitNow s).trig = s.trig ∧ (exitNow s).ronko = s.ronko ∧ (exitNow s).xip = s.xip ∧
    (exitNow s).mgp = s.mgp ∧ (exitNow s).now = s.now ∧ (exitNow s).answer = s.answer ∧ (exitNow s).free = s.free ∧
    (exitNow s).pending = s.pending := by simp [exitNow]

@[simp] theorem sendExit_frame (s : State) : (sendExit s).otp = s.otp ∧ (sendExit s).ident = s.ident ∧ (sendExit
    s).power = s.power ∧ (sendExit s).dev = s.dev ∧ (sendExit s).clk = s.clk ∧ (sendExit s).eng = s.eng ∧ (sendExit
    s).ch = s.ch ∧ (sendExit s).trust = s.trust ∧ (sendExit s).lockoutRec = s.lockoutRec ∧ (sendExit s).rop = s.rop ∧
    (sendExit s).eth = s.eth ∧ (sendExit s).badger = s.badger ∧ (sendExit s).events = s.events ∧ (sendExit s).hamper =
    s.hamper ∧ (sendExit s).pool = s.pool ∧ (sendExit s).link = s.link ∧ (sendExit s).bus = s.bus ∧ (sendExit s).aux =
    s.aux ∧ (sendExit s).refMon = s.refMon ∧ (sendExit s).trig = s.trig ∧ (sendExit s).ronko = s.ronko ∧ (sendExit
    s).xip = s.xip ∧ (sendExit s).mgp = s.mgp ∧ (sendExit s).now = s.now ∧ (sendExit s).answer = s.answer ∧ (sendExit
    s).free = s.free ∧ (sendExit s).pending = s.pending := by simp [sendExit]

@[simp] theorem supAccess_frame (s : State) : (supAccess s).otp = s.otp ∧ (supAccess s).ident = s.ident ∧ (supAccess
    s).power = s.power ∧ (supAccess s).dev = s.dev ∧ (supAccess s).clk = s.clk ∧ (supAccess s).eng = s.eng ∧
    (supAccess s).ch = s.ch ∧ (supAccess s).trust = s.trust ∧ (supAccess s).lockoutRec = s.lockoutRec ∧ (supAccess
    s).rop = s.rop ∧ (supAccess s).eth = s.eth ∧ (supAccess s).badger = s.badger ∧ (supAccess s).events = s.events ∧
    (supAccess s).hamper = s.hamper ∧ (supAccess s).pool = s.pool ∧ (supAccess s).link = s.link ∧ (supAccess s).bus =
    s.bus ∧ (supAccess s).aux = s.aux ∧ (supAccess s).refMon = s.refMon ∧ (supAccess s).trig = s.trig ∧ (supAccess
    s).ronko = s.ronko ∧ (supAccess s).xip = s.xip ∧ (supAccess s).mgp = s.mgp ∧ (supAccess s).now = s.now ∧
    (supAccess s).answer = s.answer ∧ (supAccess s).free = s.free ∧ (supAccess s).pending = s.pending := by simp [supAccess]

@[simp] theorem State.flashWritten_frame (s : State) : (State.flashWritten s).otp = s.otp ∧ (State.flashWritten
    s).ident = s.ident ∧ (State.flashWritten s).power = s.power ∧ (State.flashWritten s).dev = s.dev ∧
    (State.flashWritten s).clk = s.clk ∧ (State.flashWritten s).eng = s.eng ∧ (State.flashWritten s).ch = s.ch ∧
    (State.flashWritten s).trust = s.trust ∧ (State.flashWritten s).lockoutRec = s.lockoutRec ∧ (State.flashWritten
    s).rop = s.rop ∧ (State.flashWritten s).eth = s.eth ∧ (State.flashWritten s).badger = s.badger ∧
    (State.flashWritten s).events = s.events ∧ (State.flashWritten s).hamper = s.hamper ∧ (State.flashWritten s).pool
    = s.pool ∧ (State.flashWritten s).link = s.link ∧ (State.flashWritten s).bus = s.bus ∧ (State.flashWritten s).aux
    = s.aux ∧ (State.flashWritten s).refMon = s.refMon ∧ (State.flashWritten s).trig = s.trig ∧ (State.flashWritten
    s).ronko = s.ronko ∧ (State.flashWritten s).mgp = s.mgp ∧ (State.flashWritten s).now = s.now ∧ (State.flashWritten
    s).answer = s.answer ∧ (State.flashWritten s).emit = s.emit ∧ (State.flashWritten s).free = s.free ∧
    (State.flashWritten s).pending = s.pending :=
    ⟨rfl, rfl, rfl, rfl, rfl, rfl, rfl, rfl, rfl, rfl, rfl, rfl, rfl, rfl, rfl, rfl, rfl, rfl, rfl, rfl, rfl, rfl, rfl,
    rfl, rfl, rfl, rfl⟩

@[simp] theorem saveDone_frame (s : State) : (saveDone s).otp = s.otp ∧ (saveDone s).ident = s.ident ∧ (saveDone
    s).power = s.power ∧ (saveDone s).dev = s.dev ∧ (saveDone s).clk = s.clk ∧ (saveDone s).eng = s.eng ∧ (saveDone
    s).ch = s.ch ∧ (saveDone s).lockoutRec = s.lockoutRec ∧ (saveDone s).rop = s.rop ∧ (saveDone s).eth = s.eth ∧
    (saveDone s).badger = s.badger ∧ (saveDone s).hamper = s.hamper ∧ (saveDone s).pool = s.pool ∧ (saveDone s).link =
    s.link ∧ (saveDone s).bus = s.bus ∧ (saveDone s).aux = s.aux ∧ (saveDone s).refMon = s.refMon ∧ (saveDone s).trig
    = s.trig ∧ (saveDone s).ronko = s.ronko ∧ (saveDone s).mgp = s.mgp ∧ (saveDone s).now = s.now ∧ (saveDone
    s).answer = s.answer ∧ (saveDone s).free = s.free ∧ (saveDone s).pending = s.pending := by unfold saveDone; split <;> simp

@[simp] theorem deviceReset_frame (s : State) : (deviceReset s).otp = s.otp ∧ (deviceReset s).ident = s.ident ∧
    (deviceReset s).lockoutRec = s.lockoutRec ∧ (deviceReset s).now = s.now ∧ (deviceReset s).answer = s.answer ∧
    (deviceReset s).free = s.free ∧ (deviceReset s).pending = s.pending := by simp [deviceReset]

@[simp] theorem lockoutDefault_frame (s : State) : (lockoutDefault s).otp = s.otp ∧ (lockoutDefault s).ident = s.ident
    ∧ (lockoutDefault s).power = s.power ∧ (lockoutDefault s).dev = s.dev ∧ (lockoutDefault s).clk = s.clk ∧
    (lockoutDefault s).eng = s.eng ∧ (lockoutDefault s).ch = s.ch ∧ (lockoutDefault s).lockoutRec = s.lockoutRec ∧
    (lockoutDefault s).rop = s.rop ∧ (lockoutDefault s).eth = s.eth ∧ (lockoutDefault s).badger = s.badger ∧
    (lockoutDefault s).hamper = s.hamper ∧ (lockoutDefault s).pool = s.pool ∧ (lockoutDefault s).link = s.link ∧
    (lockoutDefault s).bus = s.bus ∧ (lockoutDefault s).aux = s.aux ∧ (lockoutDefault s).refMon = s.refMon ∧
    (lockoutDefault s).trig = s.trig ∧ (lockoutDefault s).ronko = s.ronko ∧ (lockoutDefault s).fsp = s.fsp ∧
    (lockoutDefault s).xip = s.xip ∧ (lockoutDefault s).mgp = s.mgp ∧ (lockoutDefault s).now = s.now ∧ (lockoutDefault
    s).answer = s.answer ∧ (lockoutDefault s).emit = s.emit ∧ (lockoutDefault s).free = s.free ∧ (lockoutDefault
    s).pending = s.pending := by simp [lockoutDefault]

/-! ### Power -/

@[simp] theorem probeFlash_frame (s : State) (read1 read2 : List Byte) : (probeFlash s read1 read2).otp = s.otp ∧
    (probeFlash s read1 read2).ident = s.ident ∧ (probeFlash s read1 read2).power = s.power ∧ (probeFlash s read1
    read2).dev = s.dev ∧ (probeFlash s read1 read2).clk = s.clk ∧ (probeFlash s read1 read2).eng = s.eng ∧ (probeFlash
    s read1 read2).ch = s.ch ∧ (probeFlash s read1 read2).trust = s.trust ∧ (probeFlash s read1 read2).lockoutRec =
    s.lockoutRec ∧ (probeFlash s read1 read2).rop = s.rop ∧ (probeFlash s read1 read2).eth = s.eth ∧ (probeFlash s
    read1 read2).badger = s.badger ∧ (probeFlash s read1 read2).events = s.events ∧ (probeFlash s read1 read2).hamper
    = s.hamper ∧ (probeFlash s read1 read2).pool = s.pool ∧ (probeFlash s read1 read2).link = s.link ∧ (probeFlash s
    read1 read2).bus = s.bus ∧ (probeFlash s read1 read2).aux = s.aux ∧ (probeFlash s read1 read2).refMon = s.refMon ∧
    (probeFlash s read1 read2).trig = s.trig ∧ (probeFlash s read1 read2).ronko = s.ronko ∧ (probeFlash s read1
    read2).mgp = s.mgp ∧ (probeFlash s read1 read2).now = s.now ∧ (probeFlash s read1 read2).answer = s.answer ∧
    (probeFlash s read1 read2).free = s.free ∧ (probeFlash s read1 read2).pending = s.pending := by simp [probeFlash]

@[simp] theorem startPorts_frame (s : State) : (startPorts s).otp = s.otp ∧ (startPorts s).ident = s.ident ∧
    (startPorts s).power = s.power ∧ (startPorts s).dev = s.dev ∧ (startPorts s).clk = s.clk ∧ (startPorts s).eng =
    s.eng ∧ (startPorts s).ch = s.ch ∧ (startPorts s).trust = s.trust ∧ (startPorts s).lockoutRec = s.lockoutRec ∧
    (startPorts s).rop = s.rop ∧ (startPorts s).eth = s.eth ∧ (startPorts s).badger = s.badger ∧ (startPorts s).events
    = s.events ∧ (startPorts s).hamper = s.hamper ∧ (startPorts s).pool = s.pool ∧ (startPorts s).link = s.link ∧
    (startPorts s).bus = s.bus ∧ (startPorts s).aux = s.aux ∧ (startPorts s).refMon = s.refMon ∧ (startPorts s).trig =
    s.trig ∧ (startPorts s).fsp = s.fsp ∧ (startPorts s).xip = s.xip ∧ (startPorts s).mgp = s.mgp ∧ (startPorts s).now
    = s.now ∧ (startPorts s).answer = s.answer ∧ (startPorts s).emit = s.emit ∧ (startPorts s).free = s.free ∧
    (startPorts s).pending = s.pending :=
    ⟨rfl, rfl, rfl, rfl, rfl, rfl, rfl, rfl, rfl, rfl, rfl, rfl, rfl, rfl, rfl, rfl, rfl, rfl, rfl, rfl, rfl, rfl, rfl,
    rfl, rfl, rfl, rfl, rfl⟩

@[simp] theorem clockFails_frame (m : Monitor) (count : Byte) (s : State) : (clockFails m count s).otp = s.otp ∧
    (clockFails m count s).ident = s.ident ∧ (clockFails m count s).power = s.power ∧ (clockFails m count
    s).lockoutRec = s.lockoutRec ∧ (clockFails m count s).eth = s.eth ∧ (clockFails m count s).pool = s.pool ∧
    (clockFails m count s).link = s.link ∧ (clockFails m count s).bus = s.bus ∧ (clockFails m count s).refMon =
    s.refMon ∧ (clockFails m count s).trig = s.trig ∧ (clockFails m count s).xip = s.xip ∧ (clockFails m count s).mgp
    = s.mgp ∧ (clockFails m count s).now = s.now ∧ (clockFails m count s).answer = s.answer ∧ (clockFails m count
    s).emit = s.emit ∧ (clockFails m count s).free = s.free ∧ (clockFails m count s).pending = s.pending := by unfold clockFails clockFails.react; simp only []; (repeat' split) <;> simp_all

@[simp] theorem refFails_frame (mon : W16) (s : State) : (refFails mon s).otp = s.otp ∧ (refFails mon s).ident =
    s.ident ∧ (refFails mon s).power = s.power ∧ (refFails mon s).clk = s.clk ∧ (refFails mon s).trust = s.trust ∧
    (refFails mon s).lockoutRec = s.lockoutRec ∧ (refFails mon s).rop = s.rop ∧ (refFails mon s).eth = s.eth ∧
    (refFails mon s).events = s.events ∧ (refFails mon s).hamper = s.hamper ∧ (refFails mon s).pool = s.pool ∧
    (refFails mon s).link = s.link ∧ (refFails mon s).bus = s.bus ∧ (refFails mon s).trig = s.trig ∧ (refFails mon
    s).ronko = s.ronko ∧ (refFails mon s).fsp = s.fsp ∧ (refFails mon s).xip = s.xip ∧ (refFails mon s).mgp = s.mgp ∧
    (refFails mon s).now = s.now ∧ (refFails mon s).answer = s.answer ∧ (refFails mon s).emit = s.emit ∧ (refFails mon
    s).free = s.free ∧ (refFails mon s).pending = s.pending := by simp [refFails]

@[simp] theorem wdtExpire_frame (s : State) : (wdtExpire s).otp = s.otp ∧ (wdtExpire s).ident = s.ident ∧ (wdtExpire
    s).power = s.power ∧ (wdtExpire s).clk = s.clk ∧ (wdtExpire s).eng = s.eng ∧ (wdtExpire s).lockoutRec =
    s.lockoutRec ∧ (wdtExpire s).eth = s.eth ∧ (wdtExpire s).pool = s.pool ∧ (wdtExpire s).link = s.link ∧ (wdtExpire
    s).bus = s.bus ∧ (wdtExpire s).aux = s.aux ∧ (wdtExpire s).refMon = s.refMon ∧ (wdtExpire s).trig = s.trig ∧
    (wdtExpire s).ronko = s.ronko ∧ (wdtExpire s).fsp = s.fsp ∧ (wdtExpire s).xip = s.xip ∧ (wdtExpire s).mgp = s.mgp
    ∧ (wdtExpire s).now = s.now ∧ (wdtExpire s).answer = s.answer ∧ (wdtExpire s).emit = s.emit ∧ (wdtExpire s).free =
    s.free ∧ (wdtExpire s).pending = s.pending := by simp [wdtExpire]

/-! ### Trust -/

@[simp] theorem unsaved_frame (s : State) : (unsaved s).otp = s.otp ∧ (unsaved s).ident = s.ident ∧ (unsaved s).power
    = s.power ∧ (unsaved s).dev = s.dev ∧ (unsaved s).clk = s.clk ∧ (unsaved s).eng = s.eng ∧ (unsaved s).ch = s.ch ∧
    (unsaved s).lockoutRec = s.lockoutRec ∧ (unsaved s).rop = s.rop ∧ (unsaved s).eth = s.eth ∧ (unsaved s).badger =
    s.badger ∧ (unsaved s).events = s.events ∧ (unsaved s).hamper = s.hamper ∧ (unsaved s).pool = s.pool ∧ (unsaved
    s).link = s.link ∧ (unsaved s).bus = s.bus ∧ (unsaved s).aux = s.aux ∧ (unsaved s).refMon = s.refMon ∧ (unsaved
    s).trig = s.trig ∧ (unsaved s).ronko = s.ronko ∧ (unsaved s).fsp = s.fsp ∧ (unsaved s).xip = s.xip ∧ (unsaved
    s).mgp = s.mgp ∧ (unsaved s).now = s.now ∧ (unsaved s).answer = s.answer ∧ (unsaved s).emit = s.emit ∧ (unsaved
    s).free = s.free ∧ (unsaved s).pending = s.pending :=
    ⟨rfl, rfl, rfl, rfl, rfl, rfl, rfl, rfl, rfl, rfl, rfl, rfl, rfl, rfl, rfl, rfl, rfl, rfl, rfl, rfl, rfl, rfl, rfl,
    rfl, rfl, rfl, rfl, rfl⟩

@[simp] theorem writeLockout_frame (s : State) : (writeLockout s).otp = s.otp ∧ (writeLockout s).ident = s.ident ∧
    (writeLockout s).power = s.power ∧ (writeLockout s).dev = s.dev ∧ (writeLockout s).clk = s.clk ∧ (writeLockout
    s).eng = s.eng ∧ (writeLockout s).ch = s.ch ∧ (writeLockout s).trust = s.trust ∧ (writeLockout s).rop = s.rop ∧
    (writeLockout s).eth = s.eth ∧ (writeLockout s).badger = s.badger ∧ (writeLockout s).events = s.events ∧
    (writeLockout s).hamper = s.hamper ∧ (writeLockout s).pool = s.pool ∧ (writeLockout s).link = s.link ∧
    (writeLockout s).bus = s.bus ∧ (writeLockout s).aux = s.aux ∧ (writeLockout s).refMon = s.refMon ∧ (writeLockout
    s).trig = s.trig ∧ (writeLockout s).ronko = s.ronko ∧ (writeLockout s).mgp = s.mgp ∧ (writeLockout s).now = s.now
    ∧ (writeLockout s).answer = s.answer ∧ (writeLockout s).free = s.free ∧ (writeLockout s).pending = s.pending := by simp [writeLockout]

@[simp] theorem beginSave_frame (s : State) : (beginSave s).otp = s.otp ∧ (beginSave s).ident = s.ident ∧ (beginSave
    s).power = s.power ∧ (beginSave s).dev = s.dev ∧ (beginSave s).clk = s.clk ∧ (beginSave s).eng = s.eng ∧
    (beginSave s).ch = s.ch ∧ (beginSave s).lockoutRec = s.lockoutRec ∧ (beginSave s).rop = s.rop ∧ (beginSave s).eth
    = s.eth ∧ (beginSave s).badger = s.badger ∧ (beginSave s).events = s.events ∧ (beginSave s).hamper = s.hamper ∧
    (beginSave s).pool = s.pool ∧ (beginSave s).link = s.link ∧ (beginSave s).bus = s.bus ∧ (beginSave s).aux = s.aux
    ∧ (beginSave s).refMon = s.refMon ∧ (beginSave s).trig = s.trig ∧ (beginSave s).ronko = s.ronko ∧ (beginSave
    s).fsp = s.fsp ∧ (beginSave s).xip = s.xip ∧ (beginSave s).mgp = s.mgp ∧ (beginSave s).now = s.now ∧ (beginSave
    s).answer = s.answer ∧ (beginSave s).emit = s.emit ∧ (beginSave s).free = s.free ∧ (beginSave s).pending =
    s.pending :=
    ⟨rfl, rfl, rfl, rfl, rfl, rfl, rfl, rfl, rfl, rfl, rfl, rfl, rfl, rfl, rfl, rfl, rfl, rfl, rfl, rfl, rfl, rfl, rfl,
    rfl, rfl, rfl, rfl, rfl⟩

@[simp] theorem endTest_frame (s : State) : (endTest s).otp = s.otp ∧ (endTest s).ident = s.ident ∧ (endTest s).power
    = s.power ∧ (endTest s).dev = s.dev ∧ (endTest s).clk = s.clk ∧ (endTest s).eng = s.eng ∧ (endTest s).trust =
    s.trust ∧ (endTest s).lockoutRec = s.lockoutRec ∧ (endTest s).rop = s.rop ∧ (endTest s).eth = s.eth ∧ (endTest
    s).events = s.events ∧ (endTest s).hamper = s.hamper ∧ (endTest s).pool = s.pool ∧ (endTest s).link = s.link ∧
    (endTest s).bus = s.bus ∧ (endTest s).aux = s.aux ∧ (endTest s).refMon = s.refMon ∧ (endTest s).trig = s.trig ∧
    (endTest s).ronko = s.ronko ∧ (endTest s).fsp = s.fsp ∧ (endTest s).xip = s.xip ∧ (endTest s).mgp = s.mgp ∧
    (endTest s).now = s.now ∧ (endTest s).answer = s.answer ∧ (endTest s).emit = s.emit ∧ (endTest s).free = s.free ∧
    (endTest s).pending = s.pending := by simp [endTest]

@[simp] theorem lockInstr_frame (s : State) : (lockInstr s).otp = s.otp ∧ (lockInstr s).ident = s.ident ∧ (lockInstr
    s).power = s.power ∧ (lockInstr s).dev = s.dev ∧ (lockInstr s).clk = s.clk ∧ (lockInstr s).eng = s.eng ∧
    (lockInstr s).lockoutRec = s.lockoutRec ∧ (lockInstr s).rop = s.rop ∧ (lockInstr s).eth = s.eth ∧ (lockInstr
    s).hamper = s.hamper ∧ (lockInstr s).pool = s.pool ∧ (lockInstr s).link = s.link ∧ (lockInstr s).bus = s.bus ∧
    (lockInstr s).aux = s.aux ∧ (lockInstr s).refMon = s.refMon ∧ (lockInstr s).trig = s.trig ∧ (lockInstr s).ronko =
    s.ronko ∧ (lockInstr s).fsp = s.fsp ∧ (lockInstr s).xip = s.xip ∧ (lockInstr s).mgp = s.mgp ∧ (lockInstr s).now =
    s.now ∧ (lockInstr s).answer = s.answer ∧ (lockInstr s).emit = s.emit ∧ (lockInstr s).free = s.free ∧ (lockInstr
    s).pending = s.pending := by simp [lockInstr]

@[simp] theorem unlockOk_frame (s : State) (code : List Byte) : (unlockOk s code).otp = s.otp ∧ (unlockOk s
    code).ident = s.ident ∧ (unlockOk s code).power = s.power ∧ (unlockOk s code).dev = s.dev ∧ (unlockOk s code).clk
    = s.clk ∧ (unlockOk s code).eng = s.eng ∧ (unlockOk s code).ch = s.ch ∧ (unlockOk s code).rop = s.rop ∧ (unlockOk
    s code).eth = s.eth ∧ (unlockOk s code).badger = s.badger ∧ (unlockOk s code).hamper = s.hamper ∧ (unlockOk s
    code).pool = s.pool ∧ (unlockOk s code).link = s.link ∧ (unlockOk s code).bus = s.bus ∧ (unlockOk s code).aux =
    s.aux ∧ (unlockOk s code).refMon = s.refMon ∧ (unlockOk s code).trig = s.trig ∧ (unlockOk s code).ronko = s.ronko
    ∧ (unlockOk s code).mgp = s.mgp ∧ (unlockOk s code).now = s.now ∧ (unlockOk s code).answer = s.answer ∧ (unlockOk
    s code).free = s.free ∧ (unlockOk s code).pending = s.pending := by simp [unlockOk]

@[simp] theorem unlockWrong_frame (s : State) : (unlockWrong s).otp = s.otp ∧ (unlockWrong s).ident = s.ident ∧
    (unlockWrong s).power = s.power ∧ (unlockWrong s).dev = s.dev ∧ (unlockWrong s).clk = s.clk ∧ (unlockWrong s).eng
    = s.eng ∧ (unlockWrong s).ch = s.ch ∧ (unlockWrong s).rop = s.rop ∧ (unlockWrong s).eth = s.eth ∧ (unlockWrong
    s).badger = s.badger ∧ (unlockWrong s).hamper = s.hamper ∧ (unlockWrong s).pool = s.pool ∧ (unlockWrong s).link =
    s.link ∧ (unlockWrong s).bus = s.bus ∧ (unlockWrong s).aux = s.aux ∧ (unlockWrong s).refMon = s.refMon ∧
    (unlockWrong s).trig = s.trig ∧ (unlockWrong s).ronko = s.ronko ∧ (unlockWrong s).mgp = s.mgp ∧ (unlockWrong
    s).now = s.now ∧ (unlockWrong s).answer = s.answer ∧ (unlockWrong s).free = s.free ∧ (unlockWrong s).pending =
    s.pending := by simp [unlockWrong]

@[simp] theorem raisePeriod_frame (s : State) (e : Eng) : (raisePeriod s e).otp = s.otp ∧ (raisePeriod s e).ident =
    s.ident ∧ (raisePeriod s e).power = s.power ∧ (raisePeriod s e).dev = s.dev ∧ (raisePeriod s e).clk = s.clk ∧
    (raisePeriod s e).trust = s.trust ∧ (raisePeriod s e).lockoutRec = s.lockoutRec ∧ (raisePeriod s e).rop = s.rop ∧
    (raisePeriod s e).eth = s.eth ∧ (raisePeriod s e).badger = s.badger ∧ (raisePeriod s e).events = s.events ∧
    (raisePeriod s e).hamper = s.hamper ∧ (raisePeriod s e).pool = s.pool ∧ (raisePeriod s e).link = s.link ∧
    (raisePeriod s e).bus = s.bus ∧ (raisePeriod s e).aux = s.aux ∧ (raisePeriod s e).refMon = s.refMon ∧ (raisePeriod
    s e).trig = s.trig ∧ (raisePeriod s e).ronko = s.ronko ∧ (raisePeriod s e).fsp = s.fsp ∧ (raisePeriod s e).xip =
    s.xip ∧ (raisePeriod s e).mgp = s.mgp ∧ (raisePeriod s e).now = s.now ∧ (raisePeriod s e).answer = s.answer ∧
    (raisePeriod s e).emit = s.emit ∧ (raisePeriod s e).free = s.free ∧ (raisePeriod s e).pending = s.pending := by simp [raisePeriod]

@[simp] theorem State.modSlot_frame (s : State) (k : Nat) (f : KeySlot → KeySlot) : (State.modSlot s k f).ident =
    s.ident ∧ (State.modSlot s k f).power = s.power ∧ (State.modSlot s k f).dev = s.dev ∧ (State.modSlot s k f).clk =
    s.clk ∧ (State.modSlot s k f).eng = s.eng ∧ (State.modSlot s k f).ch = s.ch ∧ (State.modSlot s k f).trust =
    s.trust ∧ (State.modSlot s k f).lockoutRec = s.lockoutRec ∧ (State.modSlot s k f).rop = s.rop ∧ (State.modSlot s k
    f).eth = s.eth ∧ (State.modSlot s k f).badger = s.badger ∧ (State.modSlot s k f).events = s.events ∧
    (State.modSlot s k f).hamper = s.hamper ∧ (State.modSlot s k f).pool = s.pool ∧ (State.modSlot s k f).link =
    s.link ∧ (State.modSlot s k f).bus = s.bus ∧ (State.modSlot s k f).aux = s.aux ∧ (State.modSlot s k f).refMon =
    s.refMon ∧ (State.modSlot s k f).trig = s.trig ∧ (State.modSlot s k f).ronko = s.ronko ∧ (State.modSlot s k f).fsp
    = s.fsp ∧ (State.modSlot s k f).xip = s.xip ∧ (State.modSlot s k f).mgp = s.mgp ∧ (State.modSlot s k f).now =
    s.now ∧ (State.modSlot s k f).answer = s.answer ∧ (State.modSlot s k f).emit = s.emit ∧ (State.modSlot s k f).free
    = s.free ∧ (State.modSlot s k f).pending = s.pending :=
    ⟨rfl, rfl, rfl, rfl, rfl, rfl, rfl, rfl, rfl, rfl, rfl, rfl, rfl, rfl, rfl, rfl, rfl, rfl, rfl, rfl, rfl, rfl, rfl,
    rfl, rfl, rfl, rfl, rfl⟩

@[simp] theorem protViolation_frame (s : State) (addr : Nat) : (protViolation s addr).otp = s.otp ∧ (protViolation s
    addr).ident = s.ident ∧ (protViolation s addr).power = s.power ∧ (protViolation s addr).dev = s.dev ∧
    (protViolation s addr).clk = s.clk ∧ (protViolation s addr).eng = s.eng ∧ (protViolation s addr).ch = s.ch ∧
    (protViolation s addr).lockoutRec = s.lockoutRec ∧ (protViolation s addr).rop = s.rop ∧ (protViolation s addr).eth
    = s.eth ∧ (protViolation s addr).events = s.events ∧ (protViolation s addr).hamper = s.hamper ∧ (protViolation s
    addr).pool = s.pool ∧ (protViolation s addr).link = s.link ∧ (protViolation s addr).bus = s.bus ∧ (protViolation s
    addr).aux = s.aux ∧ (protViolation s addr).refMon = s.refMon ∧ (protViolation s addr).trig = s.trig ∧
    (protViolation s addr).ronko = s.ronko ∧ (protViolation s addr).fsp = s.fsp ∧ (protViolation s addr).xip = s.xip ∧
    (protViolation s addr).mgp = s.mgp ∧ (protViolation s addr).now = s.now ∧ (protViolation s addr).answer = s.answer
    ∧ (protViolation s addr).free = s.free ∧ (protViolation s addr).pending = s.pending := by simp [protViolation]

@[simp] theorem claimLock_frame (s : State) (n : Ch) (who : Requester) : (claimLock s n who).otp = s.otp ∧ (claimLock
    s n who).ident = s.ident ∧ (claimLock s n who).power = s.power ∧ (claimLock s n who).dev = s.dev ∧ (claimLock s n
    who).clk = s.clk ∧ (claimLock s n who).eng = s.eng ∧ (claimLock s n who).trust = s.trust ∧ (claimLock s n
    who).lockoutRec = s.lockoutRec ∧ (claimLock s n who).rop = s.rop ∧ (claimLock s n who).eth = s.eth ∧ (claimLock s
    n who).badger = s.badger ∧ (claimLock s n who).hamper = s.hamper ∧ (claimLock s n who).pool = s.pool ∧ (claimLock
    s n who).link = s.link ∧ (claimLock s n who).bus = s.bus ∧ (claimLock s n who).aux = s.aux ∧ (claimLock s n
    who).refMon = s.refMon ∧ (claimLock s n who).trig = s.trig ∧ (claimLock s n who).ronko = s.ronko ∧ (claimLock s n
    who).fsp = s.fsp ∧ (claimLock s n who).xip = s.xip ∧ (claimLock s n who).mgp = s.mgp ∧ (claimLock s n who).now =
    s.now ∧ (claimLock s n who).answer = s.answer ∧ (claimLock s n who).emit = s.emit ∧ (claimLock s n who).free =
    s.free ∧ (claimLock s n who).pending = s.pending := by
  unfold claimLock; split
  · simp
  · cases who <;> simp

@[simp] theorem mgmtRevoke_frame (s : State) : (mgmtRevoke s).otp = s.otp ∧ (mgmtRevoke s).ident = s.ident ∧
    (mgmtRevoke s).power = s.power ∧ (mgmtRevoke s).dev = s.dev ∧ (mgmtRevoke s).clk = s.clk ∧ (mgmtRevoke s).eng =
    s.eng ∧ (mgmtRevoke s).lockoutRec = s.lockoutRec ∧ (mgmtRevoke s).rop = s.rop ∧ (mgmtRevoke s).eth = s.eth ∧
    (mgmtRevoke s).pool = s.pool ∧ (mgmtRevoke s).link = s.link ∧ (mgmtRevoke s).bus = s.bus ∧ (mgmtRevoke s).aux =
    s.aux ∧ (mgmtRevoke s).refMon = s.refMon ∧ (mgmtRevoke s).trig = s.trig ∧ (mgmtRevoke s).ronko = s.ronko ∧
    (mgmtRevoke s).fsp = s.fsp ∧ (mgmtRevoke s).xip = s.xip ∧ (mgmtRevoke s).mgp = s.mgp ∧ (mgmtRevoke s).now = s.now
    ∧ (mgmtRevoke s).answer = s.answer ∧ (mgmtRevoke s).emit = s.emit ∧ (mgmtRevoke s).free = s.free ∧ (mgmtRevoke
    s).pending = s.pending := by unfold mgmtRevoke; simp only []; (repeat' split) <;> simp_all

/-! ### Badger -/

@[simp] theorem react_frame (s : State) (m : Msg) (a : Level) : (react s m a).otp = s.otp ∧ (react s m a).ident =
    s.ident ∧ (react s m a).power = s.power ∧ (react s m a).clk = s.clk ∧ (react s m a).lockoutRec = s.lockoutRec ∧
    (react s m a).eth = s.eth ∧ (react s m a).badger = s.badger ∧ (react s m a).pool = s.pool ∧ (react s m a).link =
    s.link ∧ (react s m a).bus = s.bus ∧ (react s m a).refMon = s.refMon ∧ (react s m a).trig = s.trig ∧ (react s m
    a).xip = s.xip ∧ (react s m a).mgp = s.mgp ∧ (react s m a).now = s.now ∧ (react s m a).answer = s.answer ∧ (react
    s m a).emit = s.emit ∧ (react s m a).free = s.free ∧ (react s m a).pending = s.pending := by unfold react; split <;> simp

@[simp] theorem classify_frame (s : State) (m : Msg) : (classify s m).otp = s.otp ∧ (classify s m).ident = s.ident ∧
    (classify s m).power = s.power ∧ (classify s m).clk = s.clk ∧ (classify s m).lockoutRec = s.lockoutRec ∧ (classify
    s m).eth = s.eth ∧ (classify s m).pool = s.pool ∧ (classify s m).link = s.link ∧ (classify s m).bus = s.bus ∧
    (classify s m).refMon = s.refMon ∧ (classify s m).trig = s.trig ∧ (classify s m).xip = s.xip ∧ (classify s m).mgp
    = s.mgp ∧ (classify s m).now = s.now ∧ (classify s m).answer = s.answer ∧ (classify s m).emit = s.emit ∧ (classify
    s m).free = s.free ∧ (classify s m).pending = s.pending := by simp [classify]

@[simp] theorem holdComparator_frame (s : State) (arg : Nat) (on : Bool) : (holdComparator s arg on).otp = s.otp ∧
    (holdComparator s arg on).ident = s.ident ∧ (holdComparator s arg on).power = s.power ∧ (holdComparator s arg
    on).dev = s.dev ∧ (holdComparator s arg on).clk = s.clk ∧ (holdComparator s arg on).eng = s.eng ∧ (holdComparator
    s arg on).trust = s.trust ∧ (holdComparator s arg on).lockoutRec = s.lockoutRec ∧ (holdComparator s arg on).rop =
    s.rop ∧ (holdComparator s arg on).eth = s.eth ∧ (holdComparator s arg on).badger = s.badger ∧ (holdComparator s
    arg on).events = s.events ∧ (holdComparator s arg on).hamper = s.hamper ∧ (holdComparator s arg on).pool = s.pool
    ∧ (holdComparator s arg on).link = s.link ∧ (holdComparator s arg on).bus = s.bus ∧ (holdComparator s arg on).aux
    = s.aux ∧ (holdComparator s arg on).refMon = s.refMon ∧ (holdComparator s arg on).trig = s.trig ∧ (holdComparator
    s arg on).ronko = s.ronko ∧ (holdComparator s arg on).fsp = s.fsp ∧ (holdComparator s arg on).xip = s.xip ∧
    (holdComparator s arg on).mgp = s.mgp ∧ (holdComparator s arg on).now = s.now ∧ (holdComparator s arg on).answer =
    s.answer ∧ (holdComparator s arg on).emit = s.emit ∧ (holdComparator s arg on).free = s.free ∧ (holdComparator s
    arg on).pending = s.pending := by unfold holdComparator; split <;> simp

@[simp] theorem injectAt_frame (s : State) (target arg value : Nat) : (injectAt s target arg value).otp = s.otp ∧
    (injectAt s target arg value).ident = s.ident ∧ (injectAt s target arg value).power = s.power ∧ (injectAt s target
    arg value).lockoutRec = s.lockoutRec ∧ (injectAt s target arg value).eth = s.eth ∧ (injectAt s target arg
    value).pool = s.pool ∧ (injectAt s target arg value).link = s.link ∧ (injectAt s target arg value).bus = s.bus ∧
    (injectAt s target arg value).trig = s.trig ∧ (injectAt s target arg value).xip = s.xip ∧ (injectAt s target arg
    value).mgp = s.mgp ∧ (injectAt s target arg value).now = s.now ∧ (injectAt s target arg value).answer = s.answer ∧
    (injectAt s target arg value).free = s.free ∧ (injectAt s target arg value).pending = s.pending := by unfold injectAt; (repeat' split) <;> simp

@[simp] theorem State.modLine_frame (s : State) (x : Fin 4) (f : EventLine → EventLine) : (State.modLine s x f).otp =
    s.otp ∧ (State.modLine s x f).ident = s.ident ∧ (State.modLine s x f).power = s.power ∧ (State.modLine s x f).dev
    = s.dev ∧ (State.modLine s x f).clk = s.clk ∧ (State.modLine s x f).eng = s.eng ∧ (State.modLine s x f).ch = s.ch
    ∧ (State.modLine s x f).trust = s.trust ∧ (State.modLine s x f).lockoutRec = s.lockoutRec ∧ (State.modLine s x
    f).rop = s.rop ∧ (State.modLine s x f).eth = s.eth ∧ (State.modLine s x f).badger = s.badger ∧ (State.modLine s x
    f).hamper = s.hamper ∧ (State.modLine s x f).pool = s.pool ∧ (State.modLine s x f).link = s.link ∧ (State.modLine
    s x f).bus = s.bus ∧ (State.modLine s x f).aux = s.aux ∧ (State.modLine s x f).refMon = s.refMon ∧ (State.modLine
    s x f).trig = s.trig ∧ (State.modLine s x f).ronko = s.ronko ∧ (State.modLine s x f).fsp = s.fsp ∧ (State.modLine
    s x f).xip = s.xip ∧ (State.modLine s x f).mgp = s.mgp ∧ (State.modLine s x f).now = s.now ∧ (State.modLine s x
    f).answer = s.answer ∧ (State.modLine s x f).emit = s.emit ∧ (State.modLine s x f).free = s.free ∧ (State.modLine
    s x f).pending = s.pending :=
    ⟨rfl, rfl, rfl, rfl, rfl, rfl, rfl, rfl, rfl, rfl, rfl, rfl, rfl, rfl, rfl, rfl, rfl, rfl, rfl, rfl, rfl, rfl, rfl,
    rfl, rfl, rfl, rfl, rfl⟩

end Sys2Proof.Machine
end

