-- ==== Sys2Proof/Laws/FrameLink.lean ====
section
/-! SUPPORT. Frames: which parts of the state an operation leaves alone, once for each operation (the Ronko link). -/

namespace Sys2Proof.Machine

/-! ### Wire -/

@[simp] theorem answerForwarded_frame (s : State) (f : Forwarded) (code : Byte) (retry : Nat) : (answerForwarded s f
    code retry).otp = s.otp ∧ (answerForwarded s f code retry).ident = s.ident ∧ (answerForwarded s f code
    retry).power = s.power ∧ (answerForwarded s f code retry).dev = s.dev ∧ (answerForwarded s f code retry).clk =
    s.clk ∧ (answerForwarded s f code retry).eng = s.eng ∧ (answerForwarded s f code retry).ch = s.ch ∧
    (answerForwarded s f code retry).trust = s.trust ∧ (answerForwarded s f code retry).lockoutRec = s.lockoutRec ∧
    (answerForwarded s f code retry).eth = s.eth ∧ (answerForwarded s f code retry).badger = s.badger ∧
    (answerForwarded s f code retry).events = s.events ∧ (answerForwarded s f code retry).hamper = s.hamper ∧
    (answerForwarded s f code retry).pool = s.pool ∧ (answerForwarded s f code retry).link = s.link ∧ (answerForwarded
    s f code retry).bus = s.bus ∧ (answerForwarded s f code retry).aux = s.aux ∧ (answerForwarded s f code
    retry).refMon = s.refMon ∧ (answerForwarded s f code retry).trig = s.trig ∧ (answerForwarded s f code retry).ronko
    = s.ronko ∧ (answerForwarded s f code retry).fsp = s.fsp ∧ (answerForwarded s f code retry).xip = s.xip ∧
    (answerForwarded s f code retry).mgp = s.mgp ∧ (answerForwarded s f code retry).now = s.now ∧ (answerForwarded s f
    code retry).answer = s.answer ∧ (answerForwarded s f code retry).free = s.free ∧ (answerForwarded s f code
    retry).pending = s.pending := by simp [answerForwarded]

@[simp] theorem answerAll_frame (s : State) : (answerAll s).otp = s.otp ∧ (answerAll s).ident = s.ident ∧ (answerAll
    s).power = s.power ∧ (answerAll s).dev = s.dev ∧ (answerAll s).clk = s.clk ∧ (answerAll s).eng = s.eng ∧
    (answerAll s).ch = s.ch ∧ (answerAll s).trust = s.trust ∧ (answerAll s).lockoutRec = s.lockoutRec ∧ (answerAll
    s).eth = s.eth ∧ (answerAll s).badger = s.badger ∧ (answerAll s).events = s.events ∧ (answerAll s).hamper =
    s.hamper ∧ (answerAll s).pool = s.pool ∧ (answerAll s).link = s.link ∧ (answerAll s).bus = s.bus ∧ (answerAll
    s).aux = s.aux ∧ (answerAll s).refMon = s.refMon ∧ (answerAll s).trig = s.trig ∧ (answerAll s).ronko = s.ronko ∧
    (answerAll s).fsp = s.fsp ∧ (answerAll s).xip = s.xip ∧ (answerAll s).mgp = s.mgp ∧ (answerAll s).now = s.now ∧
    (answerAll s).answer = s.answer ∧ (answerAll s).free = s.free ∧ (answerAll s).pending = s.pending := by
  unfold answerAll
  generalize s.rop.forwarded = l
  induction l generalizing s with
  | nil => simp
  | cons a l ih => simp [ih]

/-! ### Ronko -/

@[simp] theorem State.modNode_frame (s : State) (f : Node → Node) : (State.modNode s f).otp = s.otp ∧ (State.modNode s
    f).ident = s.ident ∧ (State.modNode s f).power = s.power ∧ (State.modNode s f).dev = s.dev ∧ (State.modNode s
    f).clk = s.clk ∧ (State.modNode s f).eng = s.eng ∧ (State.modNode s f).ch = s.ch ∧ (State.modNode s f).trust =
    s.trust ∧ (State.modNode s f).lockoutRec = s.lockoutRec ∧ (State.modNode s f).rop = s.rop ∧ (State.modNode s
    f).eth = s.eth ∧ (State.modNode s f).badger = s.badger ∧ (State.modNode s f).events = s.events ∧ (State.modNode s
    f).hamper = s.hamper ∧ (State.modNode s f).pool = s.pool ∧ (State.modNode s f).link = s.link ∧ (State.modNode s
    f).bus = s.bus ∧ (State.modNode s f).aux = s.aux ∧ (State.modNode s f).refMon = s.refMon ∧ (State.modNode s
    f).trig = s.trig ∧ (State.modNode s f).fsp = s.fsp ∧ (State.modNode s f).xip = s.xip ∧ (State.modNode s f).mgp =
    s.mgp ∧ (State.modNode s f).now = s.now ∧ (State.modNode s f).answer = s.answer ∧ (State.modNode s f).emit =
    s.emit ∧ (State.modNode s f).free = s.free ∧ (State.modNode s f).pending = s.pending :=
    ⟨rfl, rfl, rfl, rfl, rfl, rfl, rfl, rfl, rfl, rfl, rfl, rfl, rfl, rfl, rfl, rfl, rfl, rfl, rfl, rfl, rfl, rfl, rfl,
    rfl, rfl, rfl, rfl, rfl⟩

@[simp] theorem State.modTime_frame (s : State) (f : TimeSt → TimeSt) : (State.modTime s f).otp = s.otp ∧
    (State.modTime s f).ident = s.ident ∧ (State.modTime s f).power = s.power ∧ (State.modTime s f).dev = s.dev ∧
    (State.modTime s f).clk = s.clk ∧ (State.modTime s f).eng = s.eng ∧ (State.modTime s f).ch = s.ch ∧ (State.modTime
    s f).trust = s.trust ∧ (State.modTime s f).lockoutRec = s.lockoutRec ∧ (State.modTime s f).rop = s.rop ∧
    (State.modTime s f).eth = s.eth ∧ (State.modTime s f).badger = s.badger ∧ (State.modTime s f).events = s.events ∧
    (State.modTime s f).hamper = s.hamper ∧ (State.modTime s f).pool = s.pool ∧ (State.modTime s f).link = s.link ∧
    (State.modTime s f).bus = s.bus ∧ (State.modTime s f).aux = s.aux ∧ (State.modTime s f).refMon = s.refMon ∧
    (State.modTime s f).trig = s.trig ∧ (State.modTime s f).fsp = s.fsp ∧ (State.modTime s f).xip = s.xip ∧
    (State.modTime s f).mgp = s.mgp ∧ (State.modTime s f).now = s.now ∧ (State.modTime s f).answer = s.answer ∧
    (State.modTime s f).emit = s.emit ∧ (State.modTime s f).free = s.free ∧ (State.modTime s f).pending = s.pending :=
    ⟨rfl, rfl, rfl, rfl, rfl, rfl, rfl, rfl, rfl, rfl, rfl, rfl, rfl, rfl, rfl, rfl, rfl, rfl, rfl, rfl, rfl, rfl, rfl,
    rfl, rfl, rfl, rfl, rfl⟩

@[simp] theorem State.modTrig_frame (s : State) (f : Triggers → Triggers) : (State.modTrig s f).otp = s.otp ∧
    (State.modTrig s f).ident = s.ident ∧ (State.modTrig s f).power = s.power ∧ (State.modTrig s f).dev = s.dev ∧
    (State.modTrig s f).clk = s.clk ∧ (State.modTrig s f).eng = s.eng ∧ (State.modTrig s f).ch = s.ch ∧ (State.modTrig
    s f).trust = s.trust ∧ (State.modTrig s f).lockoutRec = s.lockoutRec ∧ (State.modTrig s f).rop = s.rop ∧
    (State.modTrig s f).eth = s.eth ∧ (State.modTrig s f).badger = s.badger ∧ (State.modTrig s f).events = s.events ∧
    (State.modTrig s f).hamper = s.hamper ∧ (State.modTrig s f).pool = s.pool ∧ (State.modTrig s f).link = s.link ∧
    (State.modTrig s f).bus = s.bus ∧ (State.modTrig s f).aux = s.aux ∧ (State.modTrig s f).refMon = s.refMon ∧
    (State.modTrig s f).trig = s.trig ∧ (State.modTrig s f).fsp = s.fsp ∧ (State.modTrig s f).xip = s.xip ∧
    (State.modTrig s f).mgp = s.mgp ∧ (State.modTrig s f).now = s.now ∧ (State.modTrig s f).answer = s.answer ∧
    (State.modTrig s f).emit = s.emit ∧ (State.modTrig s f).free = s.free ∧ (State.modTrig s f).pending = s.pending :=
    ⟨rfl, rfl, rfl, rfl, rfl, rfl, rfl, rfl, rfl, rfl, rfl, rfl, rfl, rfl, rfl, rfl, rfl, rfl, rfl, rfl, rfl, rfl, rfl,
    rfl, rfl, rfl, rfl, rfl⟩

@[simp] theorem State.modTun_frame (s : State) (f : Tunnel → Tunnel) : (State.modTun s f).otp = s.otp ∧ (State.modTun
    s f).ident = s.ident ∧ (State.modTun s f).power = s.power ∧ (State.modTun s f).dev = s.dev ∧ (State.modTun s
    f).clk = s.clk ∧ (State.modTun s f).eng = s.eng ∧ (State.modTun s f).ch = s.ch ∧ (State.modTun s f).trust =
    s.trust ∧ (State.modTun s f).lockoutRec = s.lockoutRec ∧ (State.modTun s f).rop = s.rop ∧ (State.modTun s f).eth =
    s.eth ∧ (State.modTun s f).badger = s.badger ∧ (State.modTun s f).events = s.events ∧ (State.modTun s f).hamper =
    s.hamper ∧ (State.modTun s f).pool = s.pool ∧ (State.modTun s f).link = s.link ∧ (State.modTun s f).bus = s.bus ∧
    (State.modTun s f).aux = s.aux ∧ (State.modTun s f).refMon = s.refMon ∧ (State.modTun s f).trig = s.trig ∧
    (State.modTun s f).fsp = s.fsp ∧ (State.modTun s f).xip = s.xip ∧ (State.modTun s f).mgp = s.mgp ∧ (State.modTun s
    f).now = s.now ∧ (State.modTun s f).answer = s.answer ∧ (State.modTun s f).emit = s.emit ∧ (State.modTun s f).free
    = s.free ∧ (State.modTun s f).pending = s.pending :=
    ⟨rfl, rfl, rfl, rfl, rfl, rfl, rfl, rfl, rfl, rfl, rfl, rfl, rfl, rfl, rfl, rfl, rfl, rfl, rfl, rfl, rfl, rfl, rfl,
    rfl, rfl, rfl, rfl, rfl⟩

@[simp] theorem State.sendFrame_frame (s : State) (p : Port) (bytes : List Byte) : (State.sendFrame s p bytes).otp =
    s.otp ∧ (State.sendFrame s p bytes).ident = s.ident ∧ (State.sendFrame s p bytes).power = s.power ∧
    (State.sendFrame s p bytes).dev = s.dev ∧ (State.sendFrame s p bytes).clk = s.clk ∧ (State.sendFrame s p
    bytes).eng = s.eng ∧ (State.sendFrame s p bytes).ch = s.ch ∧ (State.sendFrame s p bytes).trust = s.trust ∧
    (State.sendFrame s p bytes).lockoutRec = s.lockoutRec ∧ (State.sendFrame s p bytes).rop = s.rop ∧ (State.sendFrame
    s p bytes).eth = s.eth ∧ (State.sendFrame s p bytes).badger = s.badger ∧ (State.sendFrame s p bytes).events =
    s.events ∧ (State.sendFrame s p bytes).hamper = s.hamper ∧ (State.sendFrame s p bytes).pool = s.pool ∧
    (State.sendFrame s p bytes).link = s.link ∧ (State.sendFrame s p bytes).bus = s.bus ∧ (State.sendFrame s p
    bytes).aux = s.aux ∧ (State.sendFrame s p bytes).refMon = s.refMon ∧ (State.sendFrame s p bytes).trig = s.trig ∧
    (State.sendFrame s p bytes).ronko = s.ronko ∧ (State.sendFrame s p bytes).fsp = s.fsp ∧ (State.sendFrame s p
    bytes).xip = s.xip ∧ (State.sendFrame s p bytes).mgp = s.mgp ∧ (State.sendFrame s p bytes).now = s.now ∧
    (State.sendFrame s p bytes).answer = s.answer ∧ (State.sendFrame s p bytes).free = s.free ∧ (State.sendFrame s p
    bytes).pending = s.pending :=
    ⟨rfl, rfl, rfl, rfl, rfl, rfl, rfl, rfl, rfl, rfl, rfl, rfl, rfl, rfl, rfl, rfl, rfl, rfl, rfl, rfl, rfl, rfl, rfl,
    rfl, rfl, rfl, rfl, rfl⟩

@[simp] theorem sendNormal_frame (s : State) (p : Port) (bytes : List Byte) : (sendNormal s p bytes).otp = s.otp ∧
    (sendNormal s p bytes).ident = s.ident ∧ (sendNormal s p bytes).power = s.power ∧ (sendNormal s p bytes).dev =
    s.dev ∧ (sendNormal s p bytes).clk = s.clk ∧ (sendNormal s p bytes).eng = s.eng ∧ (sendNormal s p bytes).ch = s.ch
    ∧ (sendNormal s p bytes).trust = s.trust ∧ (sendNormal s p bytes).lockoutRec = s.lockoutRec ∧ (sendNormal s p
    bytes).rop = s.rop ∧ (sendNormal s p bytes).eth = s.eth ∧ (sendNormal s p bytes).badger = s.badger ∧ (sendNormal s
    p bytes).events = s.events ∧ (sendNormal s p bytes).hamper = s.hamper ∧ (sendNormal s p bytes).pool = s.pool ∧
    (sendNormal s p bytes).link = s.link ∧ (sendNormal s p bytes).bus = s.bus ∧ (sendNormal s p bytes).aux = s.aux ∧
    (sendNormal s p bytes).refMon = s.refMon ∧ (sendNormal s p bytes).trig = s.trig ∧ (sendNormal s p bytes).fsp =
    s.fsp ∧ (sendNormal s p bytes).xip = s.xip ∧ (sendNormal s p bytes).mgp = s.mgp ∧ (sendNormal s p bytes).now =
    s.now ∧ (sendNormal s p bytes).answer = s.answer ∧ (sendNormal s p bytes).free = s.free ∧ (sendNormal s p
    bytes).pending = s.pending := by simp [sendNormal]

@[simp] theorem sendExpress_frame (s : State) (p : Port) (bytes : List Byte) : (sendExpress s p bytes).otp = s.otp ∧
    (sendExpress s p bytes).ident = s.ident ∧ (sendExpress s p bytes).power = s.power ∧ (sendExpress s p bytes).dev =
    s.dev ∧ (sendExpress s p bytes).clk = s.clk ∧ (sendExpress s p bytes).eng = s.eng ∧ (sendExpress s p bytes).ch =
    s.ch ∧ (sendExpress s p bytes).trust = s.trust ∧ (sendExpress s p bytes).lockoutRec = s.lockoutRec ∧ (sendExpress
    s p bytes).rop = s.rop ∧ (sendExpress s p bytes).eth = s.eth ∧ (sendExpress s p bytes).badger = s.badger ∧
    (sendExpress s p bytes).events = s.events ∧ (sendExpress s p bytes).hamper = s.hamper ∧ (sendExpress s p
    bytes).pool = s.pool ∧ (sendExpress s p bytes).link = s.link ∧ (sendExpress s p bytes).bus = s.bus ∧ (sendExpress
    s p bytes).aux = s.aux ∧ (sendExpress s p bytes).refMon = s.refMon ∧ (sendExpress s p bytes).trig = s.trig ∧
    (sendExpress s p bytes).fsp = s.fsp ∧ (sendExpress s p bytes).xip = s.xip ∧ (sendExpress s p bytes).mgp = s.mgp ∧
    (sendExpress s p bytes).now = s.now ∧ (sendExpress s p bytes).answer = s.answer ∧ (sendExpress s p bytes).free =
    s.free ∧ (sendExpress s p bytes).pending = s.pending := by simp [sendExpress]

@[simp] theorem sendLc_frame (s : State) (p : Port) (type value : Byte) : (sendLc s p type value).otp = s.otp ∧
    (sendLc s p type value).ident = s.ident ∧ (sendLc s p type value).power = s.power ∧ (sendLc s p type value).dev =
    s.dev ∧ (sendLc s p type value).clk = s.clk ∧ (sendLc s p type value).eng = s.eng ∧ (sendLc s p type value).ch =
    s.ch ∧ (sendLc s p type value).trust = s.trust ∧ (sendLc s p type value).lockoutRec = s.lockoutRec ∧ (sendLc s p
    type value).rop = s.rop ∧ (sendLc s p type value).eth = s.eth ∧ (sendLc s p type value).badger = s.badger ∧
    (sendLc s p type value).events = s.events ∧ (sendLc s p type value).hamper = s.hamper ∧ (sendLc s p type
    value).pool = s.pool ∧ (sendLc s p type value).link = s.link ∧ (sendLc s p type value).bus = s.bus ∧ (sendLc s p
    type value).aux = s.aux ∧ (sendLc s p type value).refMon = s.refMon ∧ (sendLc s p type value).trig = s.trig ∧
    (sendLc s p type value).ronko = s.ronko ∧ (sendLc s p type value).fsp = s.fsp ∧ (sendLc s p type value).xip =
    s.xip ∧ (sendLc s p type value).mgp = s.mgp ∧ (sendLc s p type value).now = s.now ∧ (sendLc s p type value).answer
    = s.answer ∧ (sendLc s p type value).free = s.free ∧ (sendLc s p type value).pending = s.pending := by simp [sendLc]

@[simp] theorem freeBuffer_frame (s : State) (from_ : Port) (bytes : List Byte) (express : Bool) : (freeBuffer s from_
    bytes express).otp = s.otp ∧ (freeBuffer s from_ bytes express).ident = s.ident ∧ (freeBuffer s from_ bytes
    express).power = s.power ∧ (freeBuffer s from_ bytes express).dev = s.dev ∧ (freeBuffer s from_ bytes express).clk
    = s.clk ∧ (freeBuffer s from_ bytes express).eng = s.eng ∧ (freeBuffer s from_ bytes express).ch = s.ch ∧
    (freeBuffer s from_ bytes express).trust = s.trust ∧ (freeBuffer s from_ bytes express).lockoutRec = s.lockoutRec
    ∧ (freeBuffer s from_ bytes express).rop = s.rop ∧ (freeBuffer s from_ bytes express).eth = s.eth ∧ (freeBuffer s
    from_ bytes express).badger = s.badger ∧ (freeBuffer s from_ bytes express).events = s.events ∧ (freeBuffer s
    from_ bytes express).hamper = s.hamper ∧ (freeBuffer s from_ bytes express).pool = s.pool ∧ (freeBuffer s from_
    bytes express).link = s.link ∧ (freeBuffer s from_ bytes express).bus = s.bus ∧ (freeBuffer s from_ bytes
    express).aux = s.aux ∧ (freeBuffer s from_ bytes express).refMon = s.refMon ∧ (freeBuffer s from_ bytes
    express).trig = s.trig ∧ (freeBuffer s from_ bytes express).ronko = s.ronko ∧ (freeBuffer s from_ bytes
    express).fsp = s.fsp ∧ (freeBuffer s from_ bytes express).xip = s.xip ∧ (freeBuffer s from_ bytes express).mgp =
    s.mgp ∧ (freeBuffer s from_ bytes express).now = s.now ∧ (freeBuffer s from_ bytes express).answer = s.answer ∧
    (freeBuffer s from_ bytes express).free = s.free ∧ (freeBuffer s from_ bytes express).pending = s.pending := by simp [freeBuffer]

@[simp] theorem resendX_frame (s : State) (p : Port) (k : Kept) : (resendX s p k).otp = s.otp ∧ (resendX s p k).ident
    = s.ident ∧ (resendX s p k).power = s.power ∧ (resendX s p k).dev = s.dev ∧ (resendX s p k).clk = s.clk ∧ (resendX
    s p k).eng = s.eng ∧ (resendX s p k).ch = s.ch ∧ (resendX s p k).trust = s.trust ∧ (resendX s p k).lockoutRec =
    s.lockoutRec ∧ (resendX s p k).rop = s.rop ∧ (resendX s p k).eth = s.eth ∧ (resendX s p k).badger = s.badger ∧
    (resendX s p k).events = s.events ∧ (resendX s p k).hamper = s.hamper ∧ (resendX s p k).pool = s.pool ∧ (resendX s
    p k).link = s.link ∧ (resendX s p k).bus = s.bus ∧ (resendX s p k).aux = s.aux ∧ (resendX s p k).refMon = s.refMon
    ∧ (resendX s p k).trig = s.trig ∧ (resendX s p k).fsp = s.fsp ∧ (resendX s p k).xip = s.xip ∧ (resendX s p k).mgp
    = s.mgp ∧ (resendX s p k).now = s.now ∧ (resendX s p k).answer = s.answer ∧ (resendX s p k).free = s.free ∧
    (resendX s p k).pending = s.pending := by simp [resendX]

@[simp] theorem resendN_frame (s : State) (p : Port) (k : Kept) : (resendN s p k).otp = s.otp ∧ (resendN s p k).ident
    = s.ident ∧ (resendN s p k).power = s.power ∧ (resendN s p k).dev = s.dev ∧ (resendN s p k).clk = s.clk ∧ (resendN
    s p k).eng = s.eng ∧ (resendN s p k).ch = s.ch ∧ (resendN s p k).trust = s.trust ∧ (resendN s p k).lockoutRec =
    s.lockoutRec ∧ (resendN s p k).rop = s.rop ∧ (resendN s p k).eth = s.eth ∧ (resendN s p k).badger = s.badger ∧
    (resendN s p k).events = s.events ∧ (resendN s p k).hamper = s.hamper ∧ (resendN s p k).pool = s.pool ∧ (resendN s
    p k).link = s.link ∧ (resendN s p k).bus = s.bus ∧ (resendN s p k).aux = s.aux ∧ (resendN s p k).refMon = s.refMon
    ∧ (resendN s p k).trig = s.trig ∧ (resendN s p k).fsp = s.fsp ∧ (resendN s p k).xip = s.xip ∧ (resendN s p k).mgp
    = s.mgp ∧ (resendN s p k).now = s.now ∧ (resendN s p k).answer = s.answer ∧ (resendN s p k).free = s.free ∧
    (resendN s p k).pending = s.pending := by simp [resendN]

@[simp] theorem pumpNormal_frame (s : State) (p : Port) : (pumpNormal s p).otp = s.otp ∧ (pumpNormal s p).ident =
    s.ident ∧ (pumpNormal s p).power = s.power ∧ (pumpNormal s p).dev = s.dev ∧ (pumpNormal s p).clk = s.clk ∧
    (pumpNormal s p).eng = s.eng ∧ (pumpNormal s p).ch = s.ch ∧ (pumpNormal s p).trust = s.trust ∧ (pumpNormal s
    p).lockoutRec = s.lockoutRec ∧ (pumpNormal s p).rop = s.rop ∧ (pumpNormal s p).eth = s.eth ∧ (pumpNormal s
    p).badger = s.badger ∧ (pumpNormal s p).events = s.events ∧ (pumpNormal s p).hamper = s.hamper ∧ (pumpNormal s
    p).pool = s.pool ∧ (pumpNormal s p).link = s.link ∧ (pumpNormal s p).bus = s.bus ∧ (pumpNormal s p).aux = s.aux ∧
    (pumpNormal s p).refMon = s.refMon ∧ (pumpNormal s p).trig = s.trig ∧ (pumpNormal s p).fsp = s.fsp ∧ (pumpNormal s
    p).xip = s.xip ∧ (pumpNormal s p).mgp = s.mgp ∧ (pumpNormal s p).now = s.now ∧ (pumpNormal s p).answer = s.answer
    ∧ (pumpNormal s p).free = s.free ∧ (pumpNormal s p).pending = s.pending := by unfold pumpNormal; simp only []; (repeat' split) <;> simp_all

@[simp] theorem pumpOne_frame (s : State) (p : Port) : (pumpOne s p).otp = s.otp ∧ (pumpOne s p).ident = s.ident ∧
    (pumpOne s p).power = s.power ∧ (pumpOne s p).dev = s.dev ∧ (pumpOne s p).clk = s.clk ∧ (pumpOne s p).eng = s.eng
    ∧ (pumpOne s p).ch = s.ch ∧ (pumpOne s p).trust = s.trust ∧ (pumpOne s p).lockoutRec = s.lockoutRec ∧ (pumpOne s
    p).rop = s.rop ∧ (pumpOne s p).eth = s.eth ∧ (pumpOne s p).badger = s.badger ∧ (pumpOne s p).events = s.events ∧
    (pumpOne s p).hamper = s.hamper ∧ (pumpOne s p).pool = s.pool ∧ (pumpOne s p).link = s.link ∧ (pumpOne s p).bus =
    s.bus ∧ (pumpOne s p).aux = s.aux ∧ (pumpOne s p).refMon = s.refMon ∧ (pumpOne s p).trig = s.trig ∧ (pumpOne s
    p).fsp = s.fsp ∧ (pumpOne s p).xip = s.xip ∧ (pumpOne s p).mgp = s.mgp ∧ (pumpOne s p).now = s.now ∧ (pumpOne s
    p).answer = s.answer ∧ (pumpOne s p).free = s.free ∧ (pumpOne s p).pending = s.pending := by unfold pumpOne; simp only []; split <;> simp_all

@[simp] theorem pump_frame (s : State) (p : Port) : (pump s p).otp = s.otp ∧ (pump s p).ident = s.ident ∧ (pump s
    p).power = s.power ∧ (pump s p).dev = s.dev ∧ (pump s p).clk = s.clk ∧ (pump s p).eng = s.eng ∧ (pump s p).ch =
    s.ch ∧ (pump s p).trust = s.trust ∧ (pump s p).lockoutRec = s.lockoutRec ∧ (pump s p).rop = s.rop ∧ (pump s p).eth
    = s.eth ∧ (pump s p).badger = s.badger ∧ (pump s p).events = s.events ∧ (pump s p).hamper = s.hamper ∧ (pump s
    p).pool = s.pool ∧ (pump s p).link = s.link ∧ (pump s p).bus = s.bus ∧ (pump s p).aux = s.aux ∧ (pump s p).refMon
    = s.refMon ∧ (pump s p).trig = s.trig ∧ (pump s p).fsp = s.fsp ∧ (pump s p).xip = s.xip ∧ (pump s p).mgp = s.mgp ∧
    (pump s p).now = s.now ∧ (pump s p).answer = s.answer ∧ (pump s p).free = s.free ∧ (pump s p).pending = s.pending
    := by simp [pump]

@[simp] theorem forward_frame (s : State) (from_ : Port) (outs : List Port) (bytes : List Byte) (express : Bool) :
    (forward s from_ outs bytes express).otp = s.otp ∧ (forward s from_ outs bytes express).ident = s.ident ∧ (forward
    s from_ outs bytes express).power = s.power ∧ (forward s from_ outs bytes express).dev = s.dev ∧ (forward s from_
    outs bytes express).clk = s.clk ∧ (forward s from_ outs bytes express).eng = s.eng ∧ (forward s from_ outs bytes
    express).ch = s.ch ∧ (forward s from_ outs bytes express).trust = s.trust ∧ (forward s from_ outs bytes
    express).lockoutRec = s.lockoutRec ∧ (forward s from_ outs bytes express).rop = s.rop ∧ (forward s from_ outs
    bytes express).eth = s.eth ∧ (forward s from_ outs bytes express).badger = s.badger ∧ (forward s from_ outs bytes
    express).events = s.events ∧ (forward s from_ outs bytes express).hamper = s.hamper ∧ (forward s from_ outs bytes
    express).pool = s.pool ∧ (forward s from_ outs bytes express).link = s.link ∧ (forward s from_ outs bytes
    express).bus = s.bus ∧ (forward s from_ outs bytes express).aux = s.aux ∧ (forward s from_ outs bytes
    express).refMon = s.refMon ∧ (forward s from_ outs bytes express).trig = s.trig ∧ (forward s from_ outs bytes
    express).fsp = s.fsp ∧ (forward s from_ outs bytes express).xip = s.xip ∧ (forward s from_ outs bytes express).mgp
    = s.mgp ∧ (forward s from_ outs bytes express).now = s.now ∧ (forward s from_ outs bytes express).answer =
    s.answer ∧ (forward s from_ outs bytes express).free = s.free ∧ (forward s from_ outs bytes express).pending =
    s.pending := by simp [forward]

@[simp] theorem queueSup_frame (s : State) (p : Port) (kind : Byte) (dest : W16) (payload : List Byte) : (queueSup s p
    kind dest payload).otp = s.otp ∧ (queueSup s p kind dest payload).ident = s.ident ∧ (queueSup s p kind dest
    payload).power = s.power ∧ (queueSup s p kind dest payload).dev = s.dev ∧ (queueSup s p kind dest payload).clk =
    s.clk ∧ (queueSup s p kind dest payload).eng = s.eng ∧ (queueSup s p kind dest payload).ch = s.ch ∧ (queueSup s p
    kind dest payload).trust = s.trust ∧ (queueSup s p kind dest payload).lockoutRec = s.lockoutRec ∧ (queueSup s p
    kind dest payload).rop = s.rop ∧ (queueSup s p kind dest payload).eth = s.eth ∧ (queueSup s p kind dest
    payload).badger = s.badger ∧ (queueSup s p kind dest payload).events = s.events ∧ (queueSup s p kind dest
    payload).hamper = s.hamper ∧ (queueSup s p kind dest payload).pool = s.pool ∧ (queueSup s p kind dest
    payload).link = s.link ∧ (queueSup s p kind dest payload).bus = s.bus ∧ (queueSup s p kind dest payload).aux =
    s.aux ∧ (queueSup s p kind dest payload).refMon = s.refMon ∧ (queueSup s p kind dest payload).trig = s.trig ∧
    (queueSup s p kind dest payload).fsp = s.fsp ∧ (queueSup s p kind dest payload).xip = s.xip ∧ (queueSup s p kind
    dest payload).mgp = s.mgp ∧ (queueSup s p kind dest payload).now = s.now ∧ (queueSup s p kind dest payload).answer
    = s.answer ∧ (queueSup s p kind dest payload).emit = s.emit ∧ (queueSup s p kind dest payload).free = s.free ∧
    (queueSup s p kind dest payload).pending = s.pending := by simp [queueSup]

@[simp] theorem queueTime_frame (s : State) (p : Port) (bytes : List Byte) : (queueTime s p bytes).otp = s.otp ∧
    (queueTime s p bytes).ident = s.ident ∧ (queueTime s p bytes).power = s.power ∧ (queueTime s p bytes).dev = s.dev
    ∧ (queueTime s p bytes).clk = s.clk ∧ (queueTime s p bytes).eng = s.eng ∧ (queueTime s p bytes).ch = s.ch ∧
    (queueTime s p bytes).trust = s.trust ∧ (queueTime s p bytes).lockoutRec = s.lockoutRec ∧ (queueTime s p
    bytes).rop = s.rop ∧ (queueTime s p bytes).eth = s.eth ∧ (queueTime s p bytes).badger = s.badger ∧ (queueTime s p
    bytes).events = s.events ∧ (queueTime s p bytes).hamper = s.hamper ∧ (queueTime s p bytes).pool = s.pool ∧
    (queueTime s p bytes).link = s.link ∧ (queueTime s p bytes).bus = s.bus ∧ (queueTime s p bytes).aux = s.aux ∧
    (queueTime s p bytes).refMon = s.refMon ∧ (queueTime s p bytes).trig = s.trig ∧ (queueTime s p bytes).fsp = s.fsp
    ∧ (queueTime s p bytes).xip = s.xip ∧ (queueTime s p bytes).mgp = s.mgp ∧ (queueTime s p bytes).now = s.now ∧
    (queueTime s p bytes).answer = s.answer ∧ (queueTime s p bytes).emit = s.emit ∧ (queueTime s p bytes).free =
    s.free ∧ (queueTime s p bytes).pending = s.pending :=
    ⟨rfl, rfl, rfl, rfl, rfl, rfl, rfl, rfl, rfl, rfl, rfl, rfl, rfl, rfl, rfl, rfl, rfl, rfl, rfl, rfl, rfl, rfl, rfl,
    rfl, rfl, rfl, rfl, rfl⟩

@[simp] theorem takeNack_frame (s : State) (src tag entry : W16) (reason : Byte) : (takeNack s src tag entry
    reason).otp = s.otp ∧ (takeNack s src tag entry reason).ident = s.ident ∧ (takeNack s src tag entry reason).power
    = s.power ∧ (takeNack s src tag entry reason).dev = s.dev ∧ (takeNack s src tag entry reason).clk = s.clk ∧
    (takeNack s src tag entry reason).eng = s.eng ∧ (takeNack s src tag entry reason).ch = s.ch ∧ (takeNack s src tag
    entry reason).trust = s.trust ∧ (takeNack s src tag entry reason).lockoutRec = s.lockoutRec ∧ (takeNack s src tag
    entry reason).eth = s.eth ∧ (takeNack s src tag entry reason).badger = s.badger ∧ (takeNack s src tag entry
    reason).events = s.events ∧ (takeNack s src tag entry reason).hamper = s.hamper ∧ (takeNack s src tag entry
    reason).pool = s.pool ∧ (takeNack s src tag entry reason).link = s.link ∧ (takeNack s src tag entry reason).bus =
    s.bus ∧ (takeNack s src tag entry reason).aux = s.aux ∧ (takeNack s src tag entry reason).refMon = s.refMon ∧
    (takeNack s src tag entry reason).trig = s.trig ∧ (takeNack s src tag entry reason).fsp = s.fsp ∧ (takeNack s src
    tag entry reason).xip = s.xip ∧ (takeNack s src tag entry reason).mgp = s.mgp ∧ (takeNack s src tag entry
    reason).now = s.now ∧ (takeNack s src tag entry reason).answer = s.answer ∧ (takeNack s src tag entry reason).free
    = s.free ∧ (takeNack s src tag entry reason).pending = s.pending := by unfold takeNack; simp only []; (repeat' split) <;> simp_all

@[simp] theorem sendNack_frame (s : State) (entry tag : W16) (reason : Byte) : (sendNack s entry tag reason).otp =
    s.otp ∧ (sendNack s entry tag reason).ident = s.ident ∧ (sendNack s entry tag reason).power = s.power ∧ (sendNack
    s entry tag reason).dev = s.dev ∧ (sendNack s entry tag reason).clk = s.clk ∧ (sendNack s entry tag reason).eng =
    s.eng ∧ (sendNack s entry tag reason).ch = s.ch ∧ (sendNack s entry tag reason).trust = s.trust ∧ (sendNack s
    entry tag reason).lockoutRec = s.lockoutRec ∧ (sendNack s entry tag reason).eth = s.eth ∧ (sendNack s entry tag
    reason).badger = s.badger ∧ (sendNack s entry tag reason).events = s.events ∧ (sendNack s entry tag reason).hamper
    = s.hamper ∧ (sendNack s entry tag reason).pool = s.pool ∧ (sendNack s entry tag reason).link = s.link ∧ (sendNack
    s entry tag reason).bus = s.bus ∧ (sendNack s entry tag reason).aux = s.aux ∧ (sendNack s entry tag reason).refMon
    = s.refMon ∧ (sendNack s entry tag reason).trig = s.trig ∧ (sendNack s entry tag reason).fsp = s.fsp ∧ (sendNack s
    entry tag reason).xip = s.xip ∧ (sendNack s entry tag reason).mgp = s.mgp ∧ (sendNack s entry tag reason).now =
    s.now ∧ (sendNack s entry tag reason).answer = s.answer ∧ (sendNack s entry tag reason).free = s.free ∧ (sendNack
    s entry tag reason).pending = s.pending := by simp [sendNack]

@[simp] theorem nackFrame_frame (s : State) (bytes : List Byte) (reason : Byte) : (nackFrame s bytes reason).otp =
    s.otp ∧ (nackFrame s bytes reason).ident = s.ident ∧ (nackFrame s bytes reason).power = s.power ∧ (nackFrame s
    bytes reason).dev = s.dev ∧ (nackFrame s bytes reason).clk = s.clk ∧ (nackFrame s bytes reason).eng = s.eng ∧
    (nackFrame s bytes reason).ch = s.ch ∧ (nackFrame s bytes reason).trust = s.trust ∧ (nackFrame s bytes
    reason).lockoutRec = s.lockoutRec ∧ (nackFrame s bytes reason).eth = s.eth ∧ (nackFrame s bytes reason).badger =
    s.badger ∧ (nackFrame s bytes reason).events = s.events ∧ (nackFrame s bytes reason).hamper = s.hamper ∧
    (nackFrame s bytes reason).pool = s.pool ∧ (nackFrame s bytes reason).link = s.link ∧ (nackFrame s bytes
    reason).bus = s.bus ∧ (nackFrame s bytes reason).aux = s.aux ∧ (nackFrame s bytes reason).refMon = s.refMon ∧
    (nackFrame s bytes reason).trig = s.trig ∧ (nackFrame s bytes reason).fsp = s.fsp ∧ (nackFrame s bytes reason).xip
    = s.xip ∧ (nackFrame s bytes reason).mgp = s.mgp ∧ (nackFrame s bytes reason).now = s.now ∧ (nackFrame s bytes
    reason).answer = s.answer ∧ (nackFrame s bytes reason).free = s.free ∧ (nackFrame s bytes reason).pending =
    s.pending := by unfold nackFrame; split <;> simp

@[simp] theorem startTx_frame (s : State) (k : Fin 4) (x : TxSlot) (data : List Byte) : (startTx s k x data).otp =
    s.otp ∧ (startTx s k x data).ident = s.ident ∧ (startTx s k x data).power = s.power ∧ (startTx s k x data).dev =
    s.dev ∧ (startTx s k x data).clk = s.clk ∧ (startTx s k x data).eng = s.eng ∧ (startTx s k x data).ch = s.ch ∧
    (startTx s k x data).trust = s.trust ∧ (startTx s k x data).lockoutRec = s.lockoutRec ∧ (startTx s k x data).eth =
    s.eth ∧ (startTx s k x data).badger = s.badger ∧ (startTx s k x data).events = s.events ∧ (startTx s k x
    data).hamper = s.hamper ∧ (startTx s k x data).pool = s.pool ∧ (startTx s k x data).link = s.link ∧ (startTx s k x
    data).bus = s.bus ∧ (startTx s k x data).aux = s.aux ∧ (startTx s k x data).refMon = s.refMon ∧ (startTx s k x
    data).trig = s.trig ∧ (startTx s k x data).fsp = s.fsp ∧ (startTx s k x data).xip = s.xip ∧ (startTx s k x
    data).mgp = s.mgp ∧ (startTx s k x data).now = s.now ∧ (startTx s k x data).answer = s.answer ∧ (startTx s k x
    data).free = s.free ∧ (startTx s k x data).pending = s.pending := by simp [startTx]

@[simp] theorem serveTx_frame (n : Nat) (s : State) : (serveTx n s).otp = s.otp ∧ (serveTx n s).ident = s.ident ∧
    (serveTx n s).power = s.power ∧ (serveTx n s).dev = s.dev ∧ (serveTx n s).clk = s.clk ∧ (serveTx n s).eng = s.eng
    ∧ (serveTx n s).ch = s.ch ∧ (serveTx n s).trust = s.trust ∧ (serveTx n s).lockoutRec = s.lockoutRec ∧ (serveTx n
    s).eth = s.eth ∧ (serveTx n s).badger = s.badger ∧ (serveTx n s).events = s.events ∧ (serveTx n s).hamper =
    s.hamper ∧ (serveTx n s).pool = s.pool ∧ (serveTx n s).link = s.link ∧ (serveTx n s).bus = s.bus ∧ (serveTx n
    s).aux = s.aux ∧ (serveTx n s).refMon = s.refMon ∧ (serveTx n s).trig = s.trig ∧ (serveTx n s).fsp = s.fsp ∧
    (serveTx n s).xip = s.xip ∧ (serveTx n s).mgp = s.mgp ∧ (serveTx n s).now = s.now ∧ (serveTx n s).answer =
    s.answer ∧ (serveTx n s).free = s.free ∧ (serveTx n s).pending = s.pending := by
  induction n generalizing s with
  | zero => simp [serveTx]
  | succ n ih => rw [serveTx]; split <;> simp [ih]

@[simp] theorem refillTx_frame (s : State) : (refillTx s).otp = s.otp ∧ (refillTx s).ident = s.ident ∧ (refillTx
    s).power = s.power ∧ (refillTx s).dev = s.dev ∧ (refillTx s).clk = s.clk ∧ (refillTx s).eng = s.eng ∧ (refillTx
    s).ch = s.ch ∧ (refillTx s).trust = s.trust ∧ (refillTx s).lockoutRec = s.lockoutRec ∧ (refillTx s).eth = s.eth ∧
    (refillTx s).badger = s.badger ∧ (refillTx s).events = s.events ∧ (refillTx s).hamper = s.hamper ∧ (refillTx
    s).pool = s.pool ∧ (refillTx s).link = s.link ∧ (refillTx s).bus = s.bus ∧ (refillTx s).aux = s.aux ∧ (refillTx
    s).refMon = s.refMon ∧ (refillTx s).trig = s.trig ∧ (refillTx s).fsp = s.fsp ∧ (refillTx s).xip = s.xip ∧
    (refillTx s).mgp = s.mgp ∧ (refillTx s).now = s.now ∧ (refillTx s).answer = s.answer ∧ (refillTx s).free = s.free
    ∧ (refillTx s).pending = s.pending := by simp [refillTx]

@[simp] theorem skipExchange_frame (s : State) : (skipExchange s).otp = s.otp ∧ (skipExchange s).ident = s.ident ∧
    (skipExchange s).power = s.power ∧ (skipExchange s).dev = s.dev ∧ (skipExchange s).clk = s.clk ∧ (skipExchange
    s).eng = s.eng ∧ (skipExchange s).ch = s.ch ∧ (skipExchange s).trust = s.trust ∧ (skipExchange s).lockoutRec =
    s.lockoutRec ∧ (skipExchange s).rop = s.rop ∧ (skipExchange s).eth = s.eth ∧ (skipExchange s).badger = s.badger ∧
    (skipExchange s).events = s.events ∧ (skipExchange s).hamper = s.hamper ∧ (skipExchange s).pool = s.pool ∧
    (skipExchange s).link = s.link ∧ (skipExchange s).bus = s.bus ∧ (skipExchange s).aux = s.aux ∧ (skipExchange
    s).refMon = s.refMon ∧ (skipExchange s).trig = s.trig ∧ (skipExchange s).fsp = s.fsp ∧ (skipExchange s).xip =
    s.xip ∧ (skipExchange s).mgp = s.mgp ∧ (skipExchange s).now = s.now ∧ (skipExchange s).answer = s.answer ∧
    (skipExchange s).emit = s.emit ∧ (skipExchange s).free = s.free ∧ (skipExchange s).pending = s.pending := by simp [skipExchange]

@[simp] theorem leaveLocked_frame (s : State) (next : TimeState) : (leaveLocked s next).otp = s.otp ∧ (leaveLocked s
    next).ident = s.ident ∧ (leaveLocked s next).power = s.power ∧ (leaveLocked s next).dev = s.dev ∧ (leaveLocked s
    next).clk = s.clk ∧ (leaveLocked s next).eng = s.eng ∧ (leaveLocked s next).ch = s.ch ∧ (leaveLocked s next).trust
    = s.trust ∧ (leaveLocked s next).lockoutRec = s.lockoutRec ∧ (leaveLocked s next).rop = s.rop ∧ (leaveLocked s
    next).eth = s.eth ∧ (leaveLocked s next).events = s.events ∧ (leaveLocked s next).hamper = s.hamper ∧ (leaveLocked
    s next).pool = s.pool ∧ (leaveLocked s next).link = s.link ∧ (leaveLocked s next).bus = s.bus ∧ (leaveLocked s
    next).aux = s.aux ∧ (leaveLocked s next).refMon = s.refMon ∧ (leaveLocked s next).trig = s.trig ∧ (leaveLocked s
    next).fsp = s.fsp ∧ (leaveLocked s next).xip = s.xip ∧ (leaveLocked s next).mgp = s.mgp ∧ (leaveLocked s next).now
    = s.now ∧ (leaveLocked s next).answer = s.answer ∧ (leaveLocked s next).emit = s.emit ∧ (leaveLocked s next).free
    = s.free ∧ (leaveLocked s next).pending = s.pending := by simp [leaveLocked]

@[simp] theorem activeChanged_frame (s : State) (p : Port) : (activeChanged s p).otp = s.otp ∧ (activeChanged s
    p).ident = s.ident ∧ (activeChanged s p).power = s.power ∧ (activeChanged s p).dev = s.dev ∧ (activeChanged s
    p).clk = s.clk ∧ (activeChanged s p).eng = s.eng ∧ (activeChanged s p).ch = s.ch ∧ (activeChanged s p).trust =
    s.trust ∧ (activeChanged s p).lockoutRec = s.lockoutRec ∧ (activeChanged s p).rop = s.rop ∧ (activeChanged s
    p).eth = s.eth ∧ (activeChanged s p).events = s.events ∧ (activeChanged s p).hamper = s.hamper ∧ (activeChanged s
    p).pool = s.pool ∧ (activeChanged s p).link = s.link ∧ (activeChanged s p).bus = s.bus ∧ (activeChanged s p).aux =
    s.aux ∧ (activeChanged s p).refMon = s.refMon ∧ (activeChanged s p).trig = s.trig ∧ (activeChanged s p).fsp =
    s.fsp ∧ (activeChanged s p).xip = s.xip ∧ (activeChanged s p).mgp = s.mgp ∧ (activeChanged s p).now = s.now ∧
    (activeChanged s p).answer = s.answer ∧ (activeChanged s p).emit = s.emit ∧ (activeChanged s p).free = s.free ∧
    (activeChanged s p).pending = s.pending := by simp [activeChanged]

@[simp] theorem portActive_frame (s : State) (p : Port) : (portActive s p).otp = s.otp ∧ (portActive s p).ident =
    s.ident ∧ (portActive s p).power = s.power ∧ (portActive s p).dev = s.dev ∧ (portActive s p).clk = s.clk ∧
    (portActive s p).eng = s.eng ∧ (portActive s p).ch = s.ch ∧ (portActive s p).trust = s.trust ∧ (portActive s
    p).lockoutRec = s.lockoutRec ∧ (portActive s p).rop = s.rop ∧ (portActive s p).eth = s.eth ∧ (portActive s
    p).events = s.events ∧ (portActive s p).hamper = s.hamper ∧ (portActive s p).pool = s.pool ∧ (portActive s p).link
    = s.link ∧ (portActive s p).bus = s.bus ∧ (portActive s p).aux = s.aux ∧ (portActive s p).refMon = s.refMon ∧
    (portActive s p).trig = s.trig ∧ (portActive s p).fsp = s.fsp ∧ (portActive s p).xip = s.xip ∧ (portActive s
    p).mgp = s.mgp ∧ (portActive s p).now = s.now ∧ (portActive s p).answer = s.answer ∧ (portActive s p).emit =
    s.emit ∧ (portActive s p).free = s.free ∧ (portActive s p).pending = s.pending := by simp [portActive]

@[simp] theorem portDown_frame (s : State) (p : Port) (cause : Nat) : (portDown s p cause).otp = s.otp ∧ (portDown s p
    cause).ident = s.ident ∧ (portDown s p cause).power = s.power ∧ (portDown s p cause).dev = s.dev ∧ (portDown s p
    cause).clk = s.clk ∧ (portDown s p cause).eng = s.eng ∧ (portDown s p cause).ch = s.ch ∧ (portDown s p
    cause).trust = s.trust ∧ (portDown s p cause).lockoutRec = s.lockoutRec ∧ (portDown s p cause).eth = s.eth ∧
    (portDown s p cause).events = s.events ∧ (portDown s p cause).hamper = s.hamper ∧ (portDown s p cause).pool =
    s.pool ∧ (portDown s p cause).link = s.link ∧ (portDown s p cause).bus = s.bus ∧ (portDown s p cause).aux = s.aux
    ∧ (portDown s p cause).refMon = s.refMon ∧ (portDown s p cause).trig = s.trig ∧ (portDown s p cause).fsp = s.fsp ∧
    (portDown s p cause).xip = s.xip ∧ (portDown s p cause).mgp = s.mgp ∧ (portDown s p cause).now = s.now ∧ (portDown
    s p cause).answer = s.answer ∧ (portDown s p cause).free = s.free ∧ (portDown s p cause).pending = s.pending := by simp [portDown]

@[simp] theorem failFrame_frame (s : State) (p : Port) : (failFrame s p).otp = s.otp ∧ (failFrame s p).ident = s.ident
    ∧ (failFrame s p).power = s.power ∧ (failFrame s p).dev = s.dev ∧ (failFrame s p).clk = s.clk ∧ (failFrame s
    p).eng = s.eng ∧ (failFrame s p).ch = s.ch ∧ (failFrame s p).trust = s.trust ∧ (failFrame s p).lockoutRec =
    s.lockoutRec ∧ (failFrame s p).eth = s.eth ∧ (failFrame s p).events = s.events ∧ (failFrame s p).hamper = s.hamper
    ∧ (failFrame s p).pool = s.pool ∧ (failFrame s p).link = s.link ∧ (failFrame s p).bus = s.bus ∧ (failFrame s
    p).aux = s.aux ∧ (failFrame s p).refMon = s.refMon ∧ (failFrame s p).trig = s.trig ∧ (failFrame s p).fsp = s.fsp ∧
    (failFrame s p).xip = s.xip ∧ (failFrame s p).mgp = s.mgp ∧ (failFrame s p).now = s.now ∧ (failFrame s p).answer =
    s.answer ∧ (failFrame s p).free = s.free ∧ (failFrame s p).pending = s.pending := by simp [failFrame]

@[simp] theorem resend_frame (s : State) (p : Port) (express : Bool) : (resend s p express).otp = s.otp ∧ (resend s p
    express).ident = s.ident ∧ (resend s p express).power = s.power ∧ (resend s p express).dev = s.dev ∧ (resend s p
    express).clk = s.clk ∧ (resend s p express).eng = s.eng ∧ (resend s p express).ch = s.ch ∧ (resend s p
    express).trust = s.trust ∧ (resend s p express).lockoutRec = s.lockoutRec ∧ (resend s p express).eth = s.eth ∧
    (resend s p express).events = s.events ∧ (resend s p express).hamper = s.hamper ∧ (resend s p express).pool =
    s.pool ∧ (resend s p express).link = s.link ∧ (resend s p express).bus = s.bus ∧ (resend s p express).aux = s.aux
    ∧ (resend s p express).refMon = s.refMon ∧ (resend s p express).trig = s.trig ∧ (resend s p express).fsp = s.fsp ∧
    (resend s p express).xip = s.xip ∧ (resend s p express).mgp = s.mgp ∧ (resend s p express).now = s.now ∧ (resend s
    p express).answer = s.answer ∧ (resend s p express).free = s.free ∧ (resend s p express).pending = s.pending := by unfold resend; simp only []; split <;> simp_all

@[simp] theorem enumFinish_frame (s : State) : (enumFinish s).otp = s.otp ∧ (enumFinish s).ident = s.ident ∧
    (enumFinish s).power = s.power ∧ (enumFinish s).dev = s.dev ∧ (enumFinish s).clk = s.clk ∧ (enumFinish s).eng =
    s.eng ∧ (enumFinish s).ch = s.ch ∧ (enumFinish s).trust = s.trust ∧ (enumFinish s).lockoutRec = s.lockoutRec ∧
    (enumFinish s).rop = s.rop ∧ (enumFinish s).eth = s.eth ∧ (enumFinish s).events = s.events ∧ (enumFinish s).hamper
    = s.hamper ∧ (enumFinish s).pool = s.pool ∧ (enumFinish s).link = s.link ∧ (enumFinish s).bus = s.bus ∧
    (enumFinish s).aux = s.aux ∧ (enumFinish s).refMon = s.refMon ∧ (enumFinish s).trig = s.trig ∧ (enumFinish s).fsp
    = s.fsp ∧ (enumFinish s).xip = s.xip ∧ (enumFinish s).mgp = s.mgp ∧ (enumFinish s).now = s.now ∧ (enumFinish
    s).answer = s.answer ∧ (enumFinish s).emit = s.emit ∧ (enumFinish s).free = s.free ∧ (enumFinish s).pending =
    s.pending := by simp [enumFinish]

@[simp] theorem enumNext_frame (s : State) : (enumNext s).otp = s.otp ∧ (enumNext s).ident = s.ident ∧ (enumNext
    s).power = s.power ∧ (enumNext s).dev = s.dev ∧ (enumNext s).clk = s.clk ∧ (enumNext s).eng = s.eng ∧ (enumNext
    s).ch = s.ch ∧ (enumNext s).trust = s.trust ∧ (enumNext s).lockoutRec = s.lockoutRec ∧ (enumNext s).rop = s.rop ∧
    (enumNext s).eth = s.eth ∧ (enumNext s).events = s.events ∧ (enumNext s).hamper = s.hamper ∧ (enumNext s).pool =
    s.pool ∧ (enumNext s).link = s.link ∧ (enumNext s).bus = s.bus ∧ (enumNext s).aux = s.aux ∧ (enumNext s).refMon =
    s.refMon ∧ (enumNext s).trig = s.trig ∧ (enumNext s).fsp = s.fsp ∧ (enumNext s).xip = s.xip ∧ (enumNext s).mgp =
    s.mgp ∧ (enumNext s).now = s.now ∧ (enumNext s).answer = s.answer ∧ (enumNext s).emit = s.emit ∧ (enumNext s).free
    = s.free ∧ (enumNext s).pending = s.pending := by unfold enumNext; simp only []; split <;> simp_all

@[simp] theorem enumBegin_frame (s : State) (offered level : Nat) (admitIt : Bool) (gen : W16) : (enumBegin s offered
    level admitIt gen).otp = s.otp ∧ (enumBegin s offered level admitIt gen).ident = s.ident ∧ (enumBegin s offered
    level admitIt gen).power = s.power ∧ (enumBegin s offered level admitIt gen).dev = s.dev ∧ (enumBegin s offered
    level admitIt gen).clk = s.clk ∧ (enumBegin s offered level admitIt gen).eng = s.eng ∧ (enumBegin s offered level
    admitIt gen).ch = s.ch ∧ (enumBegin s offered level admitIt gen).trust = s.trust ∧ (enumBegin s offered level
    admitIt gen).lockoutRec = s.lockoutRec ∧ (enumBegin s offered level admitIt gen).eth = s.eth ∧ (enumBegin s
    offered level admitIt gen).events = s.events ∧ (enumBegin s offered level admitIt gen).hamper = s.hamper ∧
    (enumBegin s offered level admitIt gen).pool = s.pool ∧ (enumBegin s offered level admitIt gen).link = s.link ∧
    (enumBegin s offered level admitIt gen).bus = s.bus ∧ (enumBegin s offered level admitIt gen).aux = s.aux ∧
    (enumBegin s offered level admitIt gen).refMon = s.refMon ∧ (enumBegin s offered level admitIt gen).trig = s.trig
    ∧ (enumBegin s offered level admitIt gen).fsp = s.fsp ∧ (enumBegin s offered level admitIt gen).xip = s.xip ∧
    (enumBegin s offered level admitIt gen).mgp = s.mgp ∧ (enumBegin s offered level admitIt gen).now = s.now ∧
    (enumBegin s offered level admitIt gen).answer = s.answer ∧ (enumBegin s offered level admitIt gen).free = s.free
    ∧ (enumBegin s offered level admitIt gen).pending = s.pending := by simp [enumBegin]

@[simp] theorem enumRoot_frame (s : State) : (enumRoot s).otp = s.otp ∧ (enumRoot s).ident = s.ident ∧ (enumRoot
    s).power = s.power ∧ (enumRoot s).dev = s.dev ∧ (enumRoot s).clk = s.clk ∧ (enumRoot s).eng = s.eng ∧ (enumRoot
    s).ch = s.ch ∧ (enumRoot s).trust = s.trust ∧ (enumRoot s).lockoutRec = s.lockoutRec ∧ (enumRoot s).eth = s.eth ∧
    (enumRoot s).events = s.events ∧ (enumRoot s).hamper = s.hamper ∧ (enumRoot s).pool = s.pool ∧ (enumRoot s).link =
    s.link ∧ (enumRoot s).bus = s.bus ∧ (enumRoot s).aux = s.aux ∧ (enumRoot s).refMon = s.refMon ∧ (enumRoot s).trig
    = s.trig ∧ (enumRoot s).fsp = s.fsp ∧ (enumRoot s).xip = s.xip ∧ (enumRoot s).mgp = s.mgp ∧ (enumRoot s).now =
    s.now ∧ (enumRoot s).answer = s.answer ∧ (enumRoot s).free = s.free ∧ (enumRoot s).pending = s.pending := by simp [enumRoot]

@[simp] theorem takeAssign_frame (s : State) (id : W16) (level : Byte) (admitIt : Bool) (gen : W16) : (takeAssign s id
    level admitIt gen).otp = s.otp ∧ (takeAssign s id level admitIt gen).ident = s.ident ∧ (takeAssign s id level
    admitIt gen).power = s.power ∧ (takeAssign s id level admitIt gen).dev = s.dev ∧ (takeAssign s id level admitIt
    gen).clk = s.clk ∧ (takeAssign s id level admitIt gen).eng = s.eng ∧ (takeAssign s id level admitIt gen).ch = s.ch
    ∧ (takeAssign s id level admitIt gen).trust = s.trust ∧ (takeAssign s id level admitIt gen).lockoutRec =
    s.lockoutRec ∧ (takeAssign s id level admitIt gen).eth = s.eth ∧ (takeAssign s id level admitIt gen).events =
    s.events ∧ (takeAssign s id level admitIt gen).hamper = s.hamper ∧ (takeAssign s id level admitIt gen).pool =
    s.pool ∧ (takeAssign s id level admitIt gen).link = s.link ∧ (takeAssign s id level admitIt gen).bus = s.bus ∧
    (takeAssign s id level admitIt gen).aux = s.aux ∧ (takeAssign s id level admitIt gen).refMon = s.refMon ∧
    (takeAssign s id level admitIt gen).trig = s.trig ∧ (takeAssign s id level admitIt gen).fsp = s.fsp ∧ (takeAssign
    s id level admitIt gen).xip = s.xip ∧ (takeAssign s id level admitIt gen).mgp = s.mgp ∧ (takeAssign s id level
    admitIt gen).now = s.now ∧ (takeAssign s id level admitIt gen).answer = s.answer ∧ (takeAssign s id level admitIt
    gen).free = s.free ∧ (takeAssign s id level admitIt gen).pending = s.pending := by simp [takeAssign]

@[simp] theorem takeDone_frame (s : State) (p : Port) (next unadmitted : W16) : (takeDone s p next unadmitted).otp =
    s.otp ∧ (takeDone s p next unadmitted).ident = s.ident ∧ (takeDone s p next unadmitted).power = s.power ∧
    (takeDone s p next unadmitted).dev = s.dev ∧ (takeDone s p next unadmitted).clk = s.clk ∧ (takeDone s p next
    unadmitted).eng = s.eng ∧ (takeDone s p next unadmitted).ch = s.ch ∧ (takeDone s p next unadmitted).trust =
    s.trust ∧ (takeDone s p next unadmitted).lockoutRec = s.lockoutRec ∧ (takeDone s p next unadmitted).rop = s.rop ∧
    (takeDone s p next unadmitted).eth = s.eth ∧ (takeDone s p next unadmitted).events = s.events ∧ (takeDone s p next
    unadmitted).hamper = s.hamper ∧ (takeDone s p next unadmitted).pool = s.pool ∧ (takeDone s p next unadmitted).link
    = s.link ∧ (takeDone s p next unadmitted).bus = s.bus ∧ (takeDone s p next unadmitted).aux = s.aux ∧ (takeDone s p
    next unadmitted).refMon = s.refMon ∧ (takeDone s p next unadmitted).trig = s.trig ∧ (takeDone s p next
    unadmitted).fsp = s.fsp ∧ (takeDone s p next unadmitted).xip = s.xip ∧ (takeDone s p next unadmitted).mgp = s.mgp
    ∧ (takeDone s p next unadmitted).now = s.now ∧ (takeDone s p next unadmitted).answer = s.answer ∧ (takeDone s p
    next unadmitted).emit = s.emit ∧ (takeDone s p next unadmitted).free = s.free ∧ (takeDone s p next
    unadmitted).pending = s.pending := by simp [takeDone]

@[simp] theorem takeReady_frame (s : State) (gen nodeCount : W16) : (takeReady s gen nodeCount).otp = s.otp ∧
    (takeReady s gen nodeCount).ident = s.ident ∧ (takeReady s gen nodeCount).power = s.power ∧ (takeReady s gen
    nodeCount).dev = s.dev ∧ (takeReady s gen nodeCount).clk = s.clk ∧ (takeReady s gen nodeCount).eng = s.eng ∧
    (takeReady s gen nodeCount).ch = s.ch ∧ (takeReady s gen nodeCount).trust = s.trust ∧ (takeReady s gen
    nodeCount).lockoutRec = s.lockoutRec ∧ (takeReady s gen nodeCount).rop = s.rop ∧ (takeReady s gen nodeCount).eth =
    s.eth ∧ (takeReady s gen nodeCount).badger = s.badger ∧ (takeReady s gen nodeCount).events = s.events ∧ (takeReady
    s gen nodeCount).hamper = s.hamper ∧ (takeReady s gen nodeCount).pool = s.pool ∧ (takeReady s gen nodeCount).link
    = s.link ∧ (takeReady s gen nodeCount).bus = s.bus ∧ (takeReady s gen nodeCount).aux = s.aux ∧ (takeReady s gen
    nodeCount).refMon = s.refMon ∧ (takeReady s gen nodeCount).trig = s.trig ∧ (takeReady s gen nodeCount).fsp = s.fsp
    ∧ (takeReady s gen nodeCount).xip = s.xip ∧ (takeReady s gen nodeCount).mgp = s.mgp ∧ (takeReady s gen
    nodeCount).now = s.now ∧ (takeReady s gen nodeCount).answer = s.answer ∧ (takeReady s gen nodeCount).emit = s.emit
    ∧ (takeReady s gen nodeCount).free = s.free ∧ (takeReady s gen nodeCount).pending = s.pending := by simp [takeReady]

@[simp] theorem takeTopo_frame (s : State) : (takeTopo s).otp = s.otp ∧ (takeTopo s).ident = s.ident ∧ (takeTopo
    s).power = s.power ∧ (takeTopo s).dev = s.dev ∧ (takeTopo s).clk = s.clk ∧ (takeTopo s).eng = s.eng ∧ (takeTopo
    s).ch = s.ch ∧ (takeTopo s).trust = s.trust ∧ (takeTopo s).lockoutRec = s.lockoutRec ∧ (takeTopo s).rop = s.rop ∧
    (takeTopo s).eth = s.eth ∧ (takeTopo s).badger = s.badger ∧ (takeTopo s).events = s.events ∧ (takeTopo s).hamper =
    s.hamper ∧ (takeTopo s).pool = s.pool ∧ (takeTopo s).link = s.link ∧ (takeTopo s).bus = s.bus ∧ (takeTopo s).aux =
    s.aux ∧ (takeTopo s).refMon = s.refMon ∧ (takeTopo s).trig = s.trig ∧ (takeTopo s).fsp = s.fsp ∧ (takeTopo s).xip
    = s.xip ∧ (takeTopo s).mgp = s.mgp ∧ (takeTopo s).now = s.now ∧ (takeTopo s).answer = s.answer ∧ (takeTopo s).emit
    = s.emit ∧ (takeTopo s).free = s.free ∧ (takeTopo s).pending = s.pending := by simp [takeTopo]

/-! ### Align -/

@[simp] theorem setRate_frame (s : State) (x : Int) : (setRate s x).otp = s.otp ∧ (setRate s x).ident = s.ident ∧
    (setRate s x).power = s.power ∧ (setRate s x).dev = s.dev ∧ (setRate s x).eng = s.eng ∧ (setRate s x).ch = s.ch ∧
    (setRate s x).trust = s.trust ∧ (setRate s x).lockoutRec = s.lockoutRec ∧ (setRate s x).rop = s.rop ∧ (setRate s
    x).eth = s.eth ∧ (setRate s x).events = s.events ∧ (setRate s x).hamper = s.hamper ∧ (setRate s x).pool = s.pool ∧
    (setRate s x).link = s.link ∧ (setRate s x).bus = s.bus ∧ (setRate s x).aux = s.aux ∧ (setRate s x).refMon =
    s.refMon ∧ (setRate s x).trig = s.trig ∧ (setRate s x).ronko = s.ronko ∧ (setRate s x).fsp = s.fsp ∧ (setRate s
    x).xip = s.xip ∧ (setRate s x).mgp = s.mgp ∧ (setRate s x).now = s.now ∧ (setRate s x).answer = s.answer ∧
    (setRate s x).emit = s.emit ∧ (setRate s x).free = s.free ∧ (setRate s x).pending = s.pending := by simp [setRate]

@[simp] theorem stepTime_frame (s : State) (offset : Int) : (stepTime s offset).otp = s.otp ∧ (stepTime s
    offset).ident = s.ident ∧ (stepTime s offset).power = s.power ∧ (stepTime s offset).dev = s.dev ∧ (stepTime s
    offset).eng = s.eng ∧ (stepTime s offset).ch = s.ch ∧ (stepTime s offset).trust = s.trust ∧ (stepTime s
    offset).lockoutRec = s.lockoutRec ∧ (stepTime s offset).rop = s.rop ∧ (stepTime s offset).eth = s.eth ∧ (stepTime
    s offset).events = s.events ∧ (stepTime s offset).hamper = s.hamper ∧ (stepTime s offset).pool = s.pool ∧
    (stepTime s offset).link = s.link ∧ (stepTime s offset).bus = s.bus ∧ (stepTime s offset).aux = s.aux ∧ (stepTime
    s offset).refMon = s.refMon ∧ (stepTime s offset).trig = s.trig ∧ (stepTime s offset).fsp = s.fsp ∧ (stepTime s
    offset).xip = s.xip ∧ (stepTime s offset).mgp = s.mgp ∧ (stepTime s offset).now = s.now ∧ (stepTime s
    offset).answer = s.answer ∧ (stepTime s offset).emit = s.emit ∧ (stepTime s offset).free = s.free ∧ (stepTime s
    offset).pending = s.pending := by simp [stepTime]

@[simp] theorem slewTime_frame (s : State) (o : Q) : (slewTime s o).otp = s.otp ∧ (slewTime s o).ident = s.ident ∧
    (slewTime s o).power = s.power ∧ (slewTime s o).dev = s.dev ∧ (slewTime s o).eng = s.eng ∧ (slewTime s o).ch =
    s.ch ∧ (slewTime s o).trust = s.trust ∧ (slewTime s o).lockoutRec = s.lockoutRec ∧ (slewTime s o).rop = s.rop ∧
    (slewTime s o).eth = s.eth ∧ (slewTime s o).events = s.events ∧ (slewTime s o).hamper = s.hamper ∧ (slewTime s
    o).pool = s.pool ∧ (slewTime s o).link = s.link ∧ (slewTime s o).bus = s.bus ∧ (slewTime s o).aux = s.aux ∧
    (slewTime s o).refMon = s.refMon ∧ (slewTime s o).trig = s.trig ∧ (slewTime s o).fsp = s.fsp ∧ (slewTime s o).xip
    = s.xip ∧ (slewTime s o).mgp = s.mgp ∧ (slewTime s o).now = s.now ∧ (slewTime s o).answer = s.answer ∧ (slewTime s
    o).emit = s.emit ∧ (slewTime s o).free = s.free ∧ (slewTime s o).pending = s.pending := by simp [slewTime]

@[simp] theorem alignExchange_frame (s : State) (p : Port) (t2 t3 : W64) (reqNo : W16) (t4 : W64) : (alignExchange s p
    t2 t3 reqNo t4).otp = s.otp ∧ (alignExchange s p t2 t3 reqNo t4).ident = s.ident ∧ (alignExchange s p t2 t3 reqNo
    t4).power = s.power ∧ (alignExchange s p t2 t3 reqNo t4).dev = s.dev ∧ (alignExchange s p t2 t3 reqNo t4).clk =
    s.clk ∧ (alignExchange s p t2 t3 reqNo t4).eng = s.eng ∧ (alignExchange s p t2 t3 reqNo t4).ch = s.ch ∧
    (alignExchange s p t2 t3 reqNo t4).trust = s.trust ∧ (alignExchange s p t2 t3 reqNo t4).lockoutRec = s.lockoutRec
    ∧ (alignExchange s p t2 t3 reqNo t4).rop = s.rop ∧ (alignExchange s p t2 t3 reqNo t4).eth = s.eth ∧ (alignExchange
    s p t2 t3 reqNo t4).badger = s.badger ∧ (alignExchange s p t2 t3 reqNo t4).events = s.events ∧ (alignExchange s p
    t2 t3 reqNo t4).hamper = s.hamper ∧ (alignExchange s p t2 t3 reqNo t4).pool = s.pool ∧ (alignExchange s p t2 t3
    reqNo t4).link = s.link ∧ (alignExchange s p t2 t3 reqNo t4).bus = s.bus ∧ (alignExchange s p t2 t3 reqNo t4).aux
    = s.aux ∧ (alignExchange s p t2 t3 reqNo t4).refMon = s.refMon ∧ (alignExchange s p t2 t3 reqNo t4).trig = s.trig
    ∧ (alignExchange s p t2 t3 reqNo t4).fsp = s.fsp ∧ (alignExchange s p t2 t3 reqNo t4).xip = s.xip ∧ (alignExchange
    s p t2 t3 reqNo t4).mgp = s.mgp ∧ (alignExchange s p t2 t3 reqNo t4).now = s.now ∧ (alignExchange s p t2 t3 reqNo
    t4).answer = s.answer ∧ (alignExchange s p t2 t3 reqNo t4).emit = s.emit ∧ (alignExchange s p t2 t3 reqNo t4).free
    = s.free ∧ (alignExchange s p t2 t3 reqNo t4).pending = s.pending := by unfold alignExchange; split <;> simp

@[simp] theorem childExchange_frame (s : State) (t1 t2 t3 t4 : W64) (parentLocked : Bool) : (childExchange s t1 t2 t3
    t4 parentLocked).otp = s.otp ∧ (childExchange s t1 t2 t3 t4 parentLocked).ident = s.ident ∧ (childExchange s t1 t2
    t3 t4 parentLocked).power = s.power ∧ (childExchange s t1 t2 t3 t4 parentLocked).dev = s.dev ∧ (childExchange s t1
    t2 t3 t4 parentLocked).eng = s.eng ∧ (childExchange s t1 t2 t3 t4 parentLocked).ch = s.ch ∧ (childExchange s t1 t2
    t3 t4 parentLocked).trust = s.trust ∧ (childExchange s t1 t2 t3 t4 parentLocked).lockoutRec = s.lockoutRec ∧
    (childExchange s t1 t2 t3 t4 parentLocked).rop = s.rop ∧ (childExchange s t1 t2 t3 t4 parentLocked).eth = s.eth ∧
    (childExchange s t1 t2 t3 t4 parentLocked).events = s.events ∧ (childExchange s t1 t2 t3 t4 parentLocked).hamper =
    s.hamper ∧ (childExchange s t1 t2 t3 t4 parentLocked).pool = s.pool ∧ (childExchange s t1 t2 t3 t4
    parentLocked).link = s.link ∧ (childExchange s t1 t2 t3 t4 parentLocked).bus = s.bus ∧ (childExchange s t1 t2 t3
    t4 parentLocked).aux = s.aux ∧ (childExchange s t1 t2 t3 t4 parentLocked).refMon = s.refMon ∧ (childExchange s t1
    t2 t3 t4 parentLocked).trig = s.trig ∧ (childExchange s t1 t2 t3 t4 parentLocked).fsp = s.fsp ∧ (childExchange s
    t1 t2 t3 t4 parentLocked).xip = s.xip ∧ (childExchange s t1 t2 t3 t4 parentLocked).mgp = s.mgp ∧ (childExchange s
    t1 t2 t3 t4 parentLocked).now = s.now ∧ (childExchange s t1 t2 t3 t4 parentLocked).answer = s.answer ∧
    (childExchange s t1 t2 t3 t4 parentLocked).emit = s.emit ∧ (childExchange s t1 t2 t3 t4 parentLocked).free =
    s.free ∧ (childExchange s t1 t2 t3 t4 parentLocked).pending = s.pending := by simp [childExchange]

@[simp] theorem storeTrig_frame (s : State) (t : SchedTrig) : (storeTrig s t).otp = s.otp ∧ (storeTrig s t).ident =
    s.ident ∧ (storeTrig s t).power = s.power ∧ (storeTrig s t).dev = s.dev ∧ (storeTrig s t).clk = s.clk ∧ (storeTrig
    s t).eng = s.eng ∧ (storeTrig s t).ch = s.ch ∧ (storeTrig s t).trust = s.trust ∧ (storeTrig s t).lockoutRec =
    s.lockoutRec ∧ (storeTrig s t).rop = s.rop ∧ (storeTrig s t).eth = s.eth ∧ (storeTrig s t).events = s.events ∧
    (storeTrig s t).hamper = s.hamper ∧ (storeTrig s t).pool = s.pool ∧ (storeTrig s t).link = s.link ∧ (storeTrig s
    t).bus = s.bus ∧ (storeTrig s t).aux = s.aux ∧ (storeTrig s t).refMon = s.refMon ∧ (storeTrig s t).trig = s.trig ∧
    (storeTrig s t).fsp = s.fsp ∧ (storeTrig s t).xip = s.xip ∧ (storeTrig s t).mgp = s.mgp ∧ (storeTrig s t).now =
    s.now ∧ (storeTrig s t).answer = s.answer ∧ (storeTrig s t).emit = s.emit ∧ (storeTrig s t).free = s.free ∧
    (storeTrig s t).pending = s.pending := by simp [storeTrig]

@[simp] theorem issueTrig_frame (s : State) (t : SchedTrig) : (issueTrig s t).otp = s.otp ∧ (issueTrig s t).ident =
    s.ident ∧ (issueTrig s t).power = s.power ∧ (issueTrig s t).dev = s.dev ∧ (issueTrig s t).clk = s.clk ∧ (issueTrig
    s t).eng = s.eng ∧ (issueTrig s t).ch = s.ch ∧ (issueTrig s t).trust = s.trust ∧ (issueTrig s t).lockoutRec =
    s.lockoutRec ∧ (issueTrig s t).rop = s.rop ∧ (issueTrig s t).eth = s.eth ∧ (issueTrig s t).events = s.events ∧
    (issueTrig s t).hamper = s.hamper ∧ (issueTrig s t).pool = s.pool ∧ (issueTrig s t).link = s.link ∧ (issueTrig s
    t).bus = s.bus ∧ (issueTrig s t).aux = s.aux ∧ (issueTrig s t).refMon = s.refMon ∧ (issueTrig s t).trig = s.trig ∧
    (issueTrig s t).fsp = s.fsp ∧ (issueTrig s t).xip = s.xip ∧ (issueTrig s t).mgp = s.mgp ∧ (issueTrig s t).now =
    s.now ∧ (issueTrig s t).answer = s.answer ∧ (issueTrig s t).emit = s.emit ∧ (issueTrig s t).free = s.free ∧
    (issueTrig s t).pending = s.pending := by simp [issueTrig]

@[simp] theorem takeTrig_frame (s : State) (p : Port) (t : SchedTrig) (bytes : List Byte) : (takeTrig s p t bytes).otp
    = s.otp ∧ (takeTrig s p t bytes).ident = s.ident ∧ (takeTrig s p t bytes).power = s.power ∧ (takeTrig s p t
    bytes).dev = s.dev ∧ (takeTrig s p t bytes).clk = s.clk ∧ (takeTrig s p t bytes).eng = s.eng ∧ (takeTrig s p t
    bytes).ch = s.ch ∧ (takeTrig s p t bytes).trust = s.trust ∧ (takeTrig s p t bytes).lockoutRec = s.lockoutRec ∧
    (takeTrig s p t bytes).rop = s.rop ∧ (takeTrig s p t bytes).eth = s.eth ∧ (takeTrig s p t bytes).events = s.events
    ∧ (takeTrig s p t bytes).hamper = s.hamper ∧ (takeTrig s p t bytes).pool = s.pool ∧ (takeTrig s p t bytes).link =
    s.link ∧ (takeTrig s p t bytes).bus = s.bus ∧ (takeTrig s p t bytes).aux = s.aux ∧ (takeTrig s p t bytes).refMon =
    s.refMon ∧ (takeTrig s p t bytes).trig = s.trig ∧ (takeTrig s p t bytes).fsp = s.fsp ∧ (takeTrig s p t bytes).xip
    = s.xip ∧ (takeTrig s p t bytes).mgp = s.mgp ∧ (takeTrig s p t bytes).now = s.now ∧ (takeTrig s p t bytes).answer
    = s.answer ∧ (takeTrig s p t bytes).free = s.free ∧ (takeTrig s p t bytes).pending = s.pending := by simp [takeTrig]

@[simp] theorem fireChannel_frame (s : State) (n : Ch) (src : Nat) : (fireChannel s n src).otp = s.otp ∧ (fireChannel
    s n src).ident = s.ident ∧ (fireChannel s n src).power = s.power ∧ (fireChannel s n src).dev = s.dev ∧
    (fireChannel s n src).clk = s.clk ∧ (fireChannel s n src).eng = s.eng ∧ (fireChannel s n src).trust = s.trust ∧
    (fireChannel s n src).lockoutRec = s.lockoutRec ∧ (fireChannel s n src).rop = s.rop ∧ (fireChannel s n src).eth =
    s.eth ∧ (fireChannel s n src).badger = s.badger ∧ (fireChannel s n src).hamper = s.hamper ∧ (fireChannel s n
    src).pool = s.pool ∧ (fireChannel s n src).link = s.link ∧ (fireChannel s n src).bus = s.bus ∧ (fireChannel s n
    src).aux = s.aux ∧ (fireChannel s n src).refMon = s.refMon ∧ (fireChannel s n src).trig = s.trig ∧ (fireChannel s
    n src).ronko = s.ronko ∧ (fireChannel s n src).fsp = s.fsp ∧ (fireChannel s n src).xip = s.xip ∧ (fireChannel s n
    src).mgp = s.mgp ∧ (fireChannel s n src).now = s.now ∧ (fireChannel s n src).answer = s.answer ∧ (fireChannel s n
    src).emit = s.emit ∧ (fireChannel s n src).free = s.free ∧ (fireChannel s n src).pending = s.pending := by simp [fireChannel]

@[simp] theorem issueTemplate_frame (s : State) : (issueTemplate s).otp = s.otp ∧ (issueTemplate s).ident = s.ident ∧
    (issueTemplate s).power = s.power ∧ (issueTemplate s).dev = s.dev ∧ (issueTemplate s).clk = s.clk ∧ (issueTemplate
    s).eng = s.eng ∧ (issueTemplate s).ch = s.ch ∧ (issueTemplate s).trust = s.trust ∧ (issueTemplate s).lockoutRec =
    s.lockoutRec ∧ (issueTemplate s).rop = s.rop ∧ (issueTemplate s).eth = s.eth ∧ (issueTemplate s).events = s.events
    ∧ (issueTemplate s).hamper = s.hamper ∧ (issueTemplate s).pool = s.pool ∧ (issueTemplate s).link = s.link ∧
    (issueTemplate s).bus = s.bus ∧ (issueTemplate s).aux = s.aux ∧ (issueTemplate s).refMon = s.refMon ∧
    (issueTemplate s).trig = s.trig ∧ (issueTemplate s).fsp = s.fsp ∧ (issueTemplate s).xip = s.xip ∧ (issueTemplate
    s).mgp = s.mgp ∧ (issueTemplate s).now = s.now ∧ (issueTemplate s).answer = s.answer ∧ (issueTemplate s).emit =
    s.emit ∧ (issueTemplate s).free = s.free ∧ (issueTemplate s).pending = s.pending := by simp [issueTemplate]

@[simp] theorem badFrame_frame (s : State) (p : Port) (express : Bool) : (badFrame s p express).otp = s.otp ∧
    (badFrame s p express).ident = s.ident ∧ (badFrame s p express).power = s.power ∧ (badFrame s p express).dev =
    s.dev ∧ (badFrame s p express).clk = s.clk ∧ (badFrame s p express).eng = s.eng ∧ (badFrame s p express).ch = s.ch
    ∧ (badFrame s p express).trust = s.trust ∧ (badFrame s p express).lockoutRec = s.lockoutRec ∧ (badFrame s p
    express).rop = s.rop ∧ (badFrame s p express).eth = s.eth ∧ (badFrame s p express).badger = s.badger ∧ (badFrame s
    p express).events = s.events ∧ (badFrame s p express).hamper = s.hamper ∧ (badFrame s p express).pool = s.pool ∧
    (badFrame s p express).link = s.link ∧ (badFrame s p express).bus = s.bus ∧ (badFrame s p express).aux = s.aux ∧
    (badFrame s p express).refMon = s.refMon ∧ (badFrame s p express).trig = s.trig ∧ (badFrame s p express).fsp =
    s.fsp ∧ (badFrame s p express).xip = s.xip ∧ (badFrame s p express).mgp = s.mgp ∧ (badFrame s p express).now =
    s.now ∧ (badFrame s p express).answer = s.answer ∧ (badFrame s p express).free = s.free ∧ (badFrame s p
    express).pending = s.pending := by simp [badFrame]

@[simp] theorem abortCopies_frame (s : State) (outs : List Port) (bytes : List Byte) (express : Bool) : (abortCopies s
    outs bytes express).otp = s.otp ∧ (abortCopies s outs bytes express).ident = s.ident ∧ (abortCopies s outs bytes
    express).power = s.power ∧ (abortCopies s outs bytes express).dev = s.dev ∧ (abortCopies s outs bytes express).clk
    = s.clk ∧ (abortCopies s outs bytes express).eng = s.eng ∧ (abortCopies s outs bytes express).ch = s.ch ∧
    (abortCopies s outs bytes express).trust = s.trust ∧ (abortCopies s outs bytes express).lockoutRec = s.lockoutRec
    ∧ (abortCopies s outs bytes express).rop = s.rop ∧ (abortCopies s outs bytes express).eth = s.eth ∧ (abortCopies s
    outs bytes express).badger = s.badger ∧ (abortCopies s outs bytes express).events = s.events ∧ (abortCopies s outs
    bytes express).hamper = s.hamper ∧ (abortCopies s outs bytes express).pool = s.pool ∧ (abortCopies s outs bytes
    express).link = s.link ∧ (abortCopies s outs bytes express).bus = s.bus ∧ (abortCopies s outs bytes express).aux =
    s.aux ∧ (abortCopies s outs bytes express).refMon = s.refMon ∧ (abortCopies s outs bytes express).trig = s.trig ∧
    (abortCopies s outs bytes express).fsp = s.fsp ∧ (abortCopies s outs bytes express).xip = s.xip ∧ (abortCopies s
    outs bytes express).mgp = s.mgp ∧ (abortCopies s outs bytes express).now = s.now ∧ (abortCopies s outs bytes
    express).answer = s.answer ∧ (abortCopies s outs bytes express).free = s.free ∧ (abortCopies s outs bytes
    express).pending = s.pending := by simp [abortCopies]

@[simp] theorem countErrors_frame (s : State) (p : Port) (fin : FrameEnd) : (countErrors s p fin).otp = s.otp ∧
    (countErrors s p fin).ident = s.ident ∧ (countErrors s p fin).power = s.power ∧ (countErrors s p fin).dev = s.dev
    ∧ (countErrors s p fin).clk = s.clk ∧ (countErrors s p fin).eng = s.eng ∧ (countErrors s p fin).ch = s.ch ∧
    (countErrors s p fin).trust = s.trust ∧ (countErrors s p fin).lockoutRec = s.lockoutRec ∧ (countErrors s p
    fin).rop = s.rop ∧ (countErrors s p fin).eth = s.eth ∧ (countErrors s p fin).badger = s.badger ∧ (countErrors s p
    fin).events = s.events ∧ (countErrors s p fin).hamper = s.hamper ∧ (countErrors s p fin).pool = s.pool ∧
    (countErrors s p fin).link = s.link ∧ (countErrors s p fin).bus = s.bus ∧ (countErrors s p fin).aux = s.aux ∧
    (countErrors s p fin).refMon = s.refMon ∧ (countErrors s p fin).trig = s.trig ∧ (countErrors s p fin).fsp = s.fsp
    ∧ (countErrors s p fin).xip = s.xip ∧ (countErrors s p fin).mgp = s.mgp ∧ (countErrors s p fin).now = s.now ∧
    (countErrors s p fin).answer = s.answer ∧ (countErrors s p fin).emit = s.emit ∧ (countErrors s p fin).free =
    s.free ∧ (countErrors s p fin).pending = s.pending := by simp [countErrors]

end Sys2Proof.Machine
end

