-- ==== Sys2Proof/Laws/FrameSerial.lean ====
section
/-! SUPPORT. Frames: which parts of the state an operation leaves alone, once for each operation (the front-end port, the arbiter, Ethernet and sessions). -/

namespace Sys2Proof.Machine

/-! ### Fsp -/

@[simp] theorem releaseBus_frame (s : State) : (releaseBus s).otp = s.otp ∧ (releaseBus s).ident = s.ident ∧
    (releaseBus s).power = s.power ∧ (releaseBus s).dev = s.dev ∧ (releaseBus s).clk = s.clk ∧ (releaseBus s).eng =
    s.eng ∧ (releaseBus s).ch = s.ch ∧ (releaseBus s).trust = s.trust ∧ (releaseBus s).lockoutRec = s.lockoutRec ∧
    (releaseBus s).rop = s.rop ∧ (releaseBus s).eth = s.eth ∧ (releaseBus s).badger = s.badger ∧ (releaseBus s).events
    = s.events ∧ (releaseBus s).hamper = s.hamper ∧ (releaseBus s).pool = s.pool ∧ (releaseBus s).link = s.link ∧
    (releaseBus s).bus = s.bus ∧ (releaseBus s).aux = s.aux ∧ (releaseBus s).refMon = s.refMon ∧ (releaseBus s).trig =
    s.trig ∧ (releaseBus s).ronko = s.ronko ∧ (releaseBus s).xip = s.xip ∧ (releaseBus s).mgp = s.mgp ∧ (releaseBus
    s).now = s.now ∧ (releaseBus s).answer = s.answer ∧ (releaseBus s).free = s.free ∧ (releaseBus s).pending =
    s.pending := by simp [releaseBus]

@[simp] theorem releaseIfDue_frame (s : State) : (releaseIfDue s).otp = s.otp ∧ (releaseIfDue s).ident = s.ident ∧
    (releaseIfDue s).power = s.power ∧ (releaseIfDue s).dev = s.dev ∧ (releaseIfDue s).clk = s.clk ∧ (releaseIfDue
    s).eng = s.eng ∧ (releaseIfDue s).ch = s.ch ∧ (releaseIfDue s).trust = s.trust ∧ (releaseIfDue s).lockoutRec =
    s.lockoutRec ∧ (releaseIfDue s).rop = s.rop ∧ (releaseIfDue s).eth = s.eth ∧ (releaseIfDue s).badger = s.badger ∧
    (releaseIfDue s).events = s.events ∧ (releaseIfDue s).hamper = s.hamper ∧ (releaseIfDue s).pool = s.pool ∧
    (releaseIfDue s).link = s.link ∧ (releaseIfDue s).bus = s.bus ∧ (releaseIfDue s).aux = s.aux ∧ (releaseIfDue
    s).refMon = s.refMon ∧ (releaseIfDue s).trig = s.trig ∧ (releaseIfDue s).ronko = s.ronko ∧ (releaseIfDue s).xip =
    s.xip ∧ (releaseIfDue s).mgp = s.mgp ∧ (releaseIfDue s).now = s.now ∧ (releaseIfDue s).answer = s.answer ∧
    (releaseIfDue s).free = s.free ∧ (releaseIfDue s).pending = s.pending := by simp [releaseIfDue]

@[simp] theorem writeResponse_frame (s : State) (resp : Bool) (recs : List (List Byte)) : (writeResponse s resp
    recs).otp = s.otp ∧ (writeResponse s resp recs).ident = s.ident ∧ (writeResponse s resp recs).power = s.power ∧
    (writeResponse s resp recs).dev = s.dev ∧ (writeResponse s resp recs).clk = s.clk ∧ (writeResponse s resp
    recs).eng = s.eng ∧ (writeResponse s resp recs).trust = s.trust ∧ (writeResponse s resp recs).lockoutRec =
    s.lockoutRec ∧ (writeResponse s resp recs).rop = s.rop ∧ (writeResponse s resp recs).aux = s.aux ∧ (writeResponse
    s resp recs).refMon = s.refMon ∧ (writeResponse s resp recs).trig = s.trig ∧ (writeResponse s resp recs).ronko =
    s.ronko ∧ (writeResponse s resp recs).xip = s.xip ∧ (writeResponse s resp recs).now = s.now ∧ (writeResponse s
    resp recs).answer = s.answer ∧ (writeResponse s resp recs).emit = s.emit ∧ (writeResponse s resp recs).pending =
    s.pending := by
  unfold writeResponse; simp only []; split
  · simp
  · split
    · split
      · rename_i q _ _ r _
        have h := putRecords_frame (portGrant reqFsp (if q.pendLoss = 0 then 1 else 2) (checkDesc s s.fsp.respRing)) r recs
        generalize putRecords (portGrant reqFsp (if q.pendLoss = 0 then 1 else 2) (checkDesc s s.fsp.respRing)) r recs = y at h ⊢
        obtain ⟨t, p⟩ := y
        cases p <;> (simp only at h; simp [h])
      · simp
    · simp

@[simp] theorem removeEntry_frame (s : State) : (removeEntry s).otp = s.otp ∧ (removeEntry s).ident = s.ident ∧
    (removeEntry s).power = s.power ∧ (removeEntry s).dev = s.dev ∧ (removeEntry s).clk = s.clk ∧ (removeEntry s).eng
    = s.eng ∧ (removeEntry s).ch = s.ch ∧ (removeEntry s).trust = s.trust ∧ (removeEntry s).lockoutRec = s.lockoutRec
    ∧ (removeEntry s).rop = s.rop ∧ (removeEntry s).eth = s.eth ∧ (removeEntry s).events = s.events ∧ (removeEntry
    s).pool = s.pool ∧ (removeEntry s).link = s.link ∧ (removeEntry s).bus = s.bus ∧ (removeEntry s).aux = s.aux ∧
    (removeEntry s).refMon = s.refMon ∧ (removeEntry s).trig = s.trig ∧ (removeEntry s).ronko = s.ronko ∧ (removeEntry
    s).fsp = s.fsp ∧ (removeEntry s).xip = s.xip ∧ (removeEntry s).mgp = s.mgp ∧ (removeEntry s).now = s.now ∧
    (removeEntry s).answer = s.answer ∧ (removeEntry s).emit = s.emit ∧ (removeEntry s).free = s.free ∧ (removeEntry
    s).pending = s.pending := by unfold removeEntry; simp only []; split <;> simp_all

@[simp] theorem afterFlash_frame (s : State) (e : Entry) (attempts : Nat) : (afterFlash s e attempts).otp = s.otp ∧
    (afterFlash s e attempts).ident = s.ident ∧ (afterFlash s e attempts).power = s.power ∧ (afterFlash s e
    attempts).dev = s.dev ∧ (afterFlash s e attempts).clk = s.clk ∧ (afterFlash s e attempts).eng = s.eng ∧
    (afterFlash s e attempts).ch = s.ch ∧ (afterFlash s e attempts).trust = s.trust ∧ (afterFlash s e
    attempts).lockoutRec = s.lockoutRec ∧ (afterFlash s e attempts).rop = s.rop ∧ (afterFlash s e attempts).eth =
    s.eth ∧ (afterFlash s e attempts).badger = s.badger ∧ (afterFlash s e attempts).events = s.events ∧ (afterFlash s
    e attempts).hamper = s.hamper ∧ (afterFlash s e attempts).pool = s.pool ∧ (afterFlash s e attempts).link = s.link
    ∧ (afterFlash s e attempts).bus = s.bus ∧ (afterFlash s e attempts).aux = s.aux ∧ (afterFlash s e attempts).refMon
    = s.refMon ∧ (afterFlash s e attempts).trig = s.trig ∧ (afterFlash s e attempts).ronko = s.ronko ∧ (afterFlash s e
    attempts).mgp = s.mgp ∧ (afterFlash s e attempts).now = s.now ∧ (afterFlash s e attempts).answer = s.answer ∧
    (afterFlash s e attempts).emit = s.emit ∧ (afterFlash s e attempts).free = s.free ∧ (afterFlash s e
    attempts).pending = s.pending := by simp [afterFlash]

@[simp] theorem completeEntry_frame (s : State) (e : Entry) (result : Byte) (attempts : Nat) (rx : List Byte) :
    (completeEntry s e result attempts rx).otp = s.otp ∧ (completeEntry s e result attempts rx).ident = s.ident ∧
    (completeEntry s e result attempts rx).power = s.power ∧ (completeEntry s e result attempts rx).dev = s.dev ∧
    (completeEntry s e result attempts rx).clk = s.clk ∧ (completeEntry s e result attempts rx).eng = s.eng ∧
    (completeEntry s e result attempts rx).trust = s.trust ∧ (completeEntry s e result attempts rx).lockoutRec =
    s.lockoutRec ∧ (completeEntry s e result attempts rx).rop = s.rop ∧ (completeEntry s e result attempts rx).aux =
    s.aux ∧ (completeEntry s e result attempts rx).refMon = s.refMon ∧ (completeEntry s e result attempts rx).trig =
    s.trig ∧ (completeEntry s e result attempts rx).ronko = s.ronko ∧ (completeEntry s e result attempts rx).now =
    s.now ∧ (completeEntry s e result attempts rx).answer = s.answer ∧ (completeEntry s e result attempts rx).pending
    = s.pending := by simp [completeEntry]

@[simp] theorem blockEntry_frame (s : State) (e : Entry) (op : Byte) : (blockEntry s e op).otp = s.otp ∧ (blockEntry s
    e op).ident = s.ident ∧ (blockEntry s e op).power = s.power ∧ (blockEntry s e op).dev = s.dev ∧ (blockEntry s e
    op).clk = s.clk ∧ (blockEntry s e op).eng = s.eng ∧ (blockEntry s e op).trust = s.trust ∧ (blockEntry s e
    op).lockoutRec = s.lockoutRec ∧ (blockEntry s e op).rop = s.rop ∧ (blockEntry s e op).aux = s.aux ∧ (blockEntry s
    e op).refMon = s.refMon ∧ (blockEntry s e op).trig = s.trig ∧ (blockEntry s e op).ronko = s.ronko ∧ (blockEntry s
    e op).now = s.now ∧ (blockEntry s e op).answer = s.answer ∧ (blockEntry s e op).pending = s.pending := by simp [blockEntry]

@[simp] theorem sendAssertions_frame (s : State) (c : Fin 4) (l : List (List Byte)) : (sendAssertions s c l).otp =
    s.otp ∧ (sendAssertions s c l).ident = s.ident ∧ (sendAssertions s c l).power = s.power ∧ (sendAssertions s c
    l).dev = s.dev ∧ (sendAssertions s c l).clk = s.clk ∧ (sendAssertions s c l).eng = s.eng ∧ (sendAssertions s c
    l).ch = s.ch ∧ (sendAssertions s c l).trust = s.trust ∧ (sendAssertions s c l).lockoutRec = s.lockoutRec ∧
    (sendAssertions s c l).rop = s.rop ∧ (sendAssertions s c l).eth = s.eth ∧ (sendAssertions s c l).badger = s.badger
    ∧ (sendAssertions s c l).events = s.events ∧ (sendAssertions s c l).hamper = s.hamper ∧ (sendAssertions s c
    l).pool = s.pool ∧ (sendAssertions s c l).link = s.link ∧ (sendAssertions s c l).bus = s.bus ∧ (sendAssertions s c
    l).aux = s.aux ∧ (sendAssertions s c l).refMon = s.refMon ∧ (sendAssertions s c l).trig = s.trig ∧ (sendAssertions
    s c l).ronko = s.ronko ∧ (sendAssertions s c l).fsp = s.fsp ∧ (sendAssertions s c l).xip = s.xip ∧ (sendAssertions
    s c l).mgp = s.mgp ∧ (sendAssertions s c l).now = s.now ∧ (sendAssertions s c l).answer = s.answer ∧
    (sendAssertions s c l).free = s.free ∧ (sendAssertions s c l).pending = s.pending := by
  induction l generalizing s with
  | nil => simp [sendAssertions]
  | cons a l ih => simp [sendAssertions, ih]

@[simp] theorem attempt_frame (s : State) (e : Entry) : (attempt s e).otp = s.otp ∧ (attempt s e).ident = s.ident ∧
    (attempt s e).power = s.power ∧ (attempt s e).dev = s.dev ∧ (attempt s e).clk = s.clk ∧ (attempt s e).eng = s.eng
    ∧ (attempt s e).ch = s.ch ∧ (attempt s e).trust = s.trust ∧ (attempt s e).lockoutRec = s.lockoutRec ∧ (attempt s
    e).rop = s.rop ∧ (attempt s e).eth = s.eth ∧ (attempt s e).badger = s.badger ∧ (attempt s e).events = s.events ∧
    (attempt s e).hamper = s.hamper ∧ (attempt s e).pool = s.pool ∧ (attempt s e).link = s.link ∧ (attempt s e).bus =
    s.bus ∧ (attempt s e).aux = s.aux ∧ (attempt s e).refMon = s.refMon ∧ (attempt s e).trig = s.trig ∧ (attempt s
    e).ronko = s.ronko ∧ (attempt s e).xip = s.xip ∧ (attempt s e).mgp = s.mgp ∧ (attempt s e).now = s.now ∧ (attempt
    s e).answer = s.answer ∧ (attempt s e).free = s.free ∧ (attempt s e).pending = s.pending := by simp [attempt]

@[simp] theorem clockWord_frame (s : State) (e : Entry) : (clockWord s e).otp = s.otp ∧ (clockWord s e).ident =
    s.ident ∧ (clockWord s e).power = s.power ∧ (clockWord s e).dev = s.dev ∧ (clockWord s e).clk = s.clk ∧ (clockWord
    s e).eng = s.eng ∧ (clockWord s e).ch = s.ch ∧ (clockWord s e).trust = s.trust ∧ (clockWord s e).lockoutRec =
    s.lockoutRec ∧ (clockWord s e).rop = s.rop ∧ (clockWord s e).eth = s.eth ∧ (clockWord s e).badger = s.badger ∧
    (clockWord s e).events = s.events ∧ (clockWord s e).hamper = s.hamper ∧ (clockWord s e).pool = s.pool ∧ (clockWord
    s e).link = s.link ∧ (clockWord s e).bus = s.bus ∧ (clockWord s e).aux = s.aux ∧ (clockWord s e).refMon = s.refMon
    ∧ (clockWord s e).trig = s.trig ∧ (clockWord s e).ronko = s.ronko ∧ (clockWord s e).xip = s.xip ∧ (clockWord s
    e).mgp = s.mgp ∧ (clockWord s e).now = s.now ∧ (clockWord s e).answer = s.answer ∧ (clockWord s e).free = s.free ∧
    (clockWord s e).pending = s.pending := by simp [clockWord]

@[simp] theorem attemptFailed_frame (s : State) (e : Entry) (why : AttemptFail) : (attemptFailed s e why).otp = s.otp
    ∧ (attemptFailed s e why).ident = s.ident ∧ (attemptFailed s e why).power = s.power ∧ (attemptFailed s e why).dev
    = s.dev ∧ (attemptFailed s e why).clk = s.clk ∧ (attemptFailed s e why).eng = s.eng ∧ (attemptFailed s e
    why).trust = s.trust ∧ (attemptFailed s e why).lockoutRec = s.lockoutRec ∧ (attemptFailed s e why).rop = s.rop ∧
    (attemptFailed s e why).aux = s.aux ∧ (attemptFailed s e why).refMon = s.refMon ∧ (attemptFailed s e why).trig =
    s.trig ∧ (attemptFailed s e why).ronko = s.ronko ∧ (attemptFailed s e why).now = s.now ∧ (attemptFailed s e
    why).answer = s.answer ∧ (attemptFailed s e why).pending = s.pending := by simp [attemptFailed]

@[simp] theorem cutWord_frame (s : State) (e : Entry) : (cutWord s e).otp = s.otp ∧ (cutWord s e).ident = s.ident ∧
    (cutWord s e).power = s.power ∧ (cutWord s e).dev = s.dev ∧ (cutWord s e).clk = s.clk ∧ (cutWord s e).eng = s.eng
    ∧ (cutWord s e).ch = s.ch ∧ (cutWord s e).trust = s.trust ∧ (cutWord s e).lockoutRec = s.lockoutRec ∧ (cutWord s
    e).rop = s.rop ∧ (cutWord s e).eth = s.eth ∧ (cutWord s e).badger = s.badger ∧ (cutWord s e).events = s.events ∧
    (cutWord s e).hamper = s.hamper ∧ (cutWord s e).pool = s.pool ∧ (cutWord s e).link = s.link ∧ (cutWord s e).bus =
    s.bus ∧ (cutWord s e).aux = s.aux ∧ (cutWord s e).refMon = s.refMon ∧ (cutWord s e).trig = s.trig ∧ (cutWord s
    e).ronko = s.ronko ∧ (cutWord s e).fsp = s.fsp ∧ (cutWord s e).xip = s.xip ∧ (cutWord s e).mgp = s.mgp ∧ (cutWord
    s e).now = s.now ∧ (cutWord s e).answer = s.answer ∧ (cutWord s e).free = s.free ∧ (cutWord s e).pending =
    s.pending := by simp [cutWord]

@[simp] theorem startFill_frame (s : State) (l : Nat) : (startFill s l).otp = s.otp ∧ (startFill s l).ident = s.ident
    ∧ (startFill s l).power = s.power ∧ (startFill s l).dev = s.dev ∧ (startFill s l).clk = s.clk ∧ (startFill s
    l).eng = s.eng ∧ (startFill s l).ch = s.ch ∧ (startFill s l).trust = s.trust ∧ (startFill s l).lockoutRec =
    s.lockoutRec ∧ (startFill s l).rop = s.rop ∧ (startFill s l).eth = s.eth ∧ (startFill s l).badger = s.badger ∧
    (startFill s l).events = s.events ∧ (startFill s l).hamper = s.hamper ∧ (startFill s l).pool = s.pool ∧ (startFill
    s l).link = s.link ∧ (startFill s l).bus = s.bus ∧ (startFill s l).aux = s.aux ∧ (startFill s l).refMon = s.refMon
    ∧ (startFill s l).trig = s.trig ∧ (startFill s l).ronko = s.ronko ∧ (startFill s l).xip = s.xip ∧ (startFill s
    l).mgp = s.mgp ∧ (startFill s l).now = s.now ∧ (startFill s l).answer = s.answer ∧ (startFill s l).free = s.free ∧
    (startFill s l).pending = s.pending := by simp [startFill]

@[simp] theorem dropFill_frame (s : State) (l : Nat) : (dropFill s l).otp = s.otp ∧ (dropFill s l).ident = s.ident ∧
    (dropFill s l).power = s.power ∧ (dropFill s l).dev = s.dev ∧ (dropFill s l).clk = s.clk ∧ (dropFill s l).eng =
    s.eng ∧ (dropFill s l).ch = s.ch ∧ (dropFill s l).trust = s.trust ∧ (dropFill s l).lockoutRec = s.lockoutRec ∧
    (dropFill s l).rop = s.rop ∧ (dropFill s l).eth = s.eth ∧ (dropFill s l).badger = s.badger ∧ (dropFill s l).events
    = s.events ∧ (dropFill s l).hamper = s.hamper ∧ (dropFill s l).pool = s.pool ∧ (dropFill s l).link = s.link ∧
    (dropFill s l).bus = s.bus ∧ (dropFill s l).aux = s.aux ∧ (dropFill s l).refMon = s.refMon ∧ (dropFill s l).trig =
    s.trig ∧ (dropFill s l).ronko = s.ronko ∧ (dropFill s l).fsp = s.fsp ∧ (dropFill s l).mgp = s.mgp ∧ (dropFill s
    l).now = s.now ∧ (dropFill s l).answer = s.answer ∧ (dropFill s l).free = s.free ∧ (dropFill s l).pending =
    s.pending := by simp [dropFill]

@[simp] theorem failAccess_frame (s : State) : (failAccess s).otp = s.otp ∧ (failAccess s).ident = s.ident ∧
    (failAccess s).power = s.power ∧ (failAccess s).dev = s.dev ∧ (failAccess s).clk = s.clk ∧ (failAccess s).eng =
    s.eng ∧ (failAccess s).ch = s.ch ∧ (failAccess s).lockoutRec = s.lockoutRec ∧ (failAccess s).rop = s.rop ∧
    (failAccess s).eth = s.eth ∧ (failAccess s).events = s.events ∧ (failAccess s).hamper = s.hamper ∧ (failAccess
    s).pool = s.pool ∧ (failAccess s).link = s.link ∧ (failAccess s).bus = s.bus ∧ (failAccess s).aux = s.aux ∧
    (failAccess s).refMon = s.refMon ∧ (failAccess s).trig = s.trig ∧ (failAccess s).ronko = s.ronko ∧ (failAccess
    s).fsp = s.fsp ∧ (failAccess s).xip = s.xip ∧ (failAccess s).now = s.now ∧ (failAccess s).answer = s.answer ∧
    (failAccess s).emit = s.emit ∧ (failAccess s).free = s.free ∧ (failAccess s).pending = s.pending := by simp [failAccess]

@[simp] theorem abortGrant_frame (s : State) : (abortGrant s).otp = s.otp ∧ (abortGrant s).ident = s.ident ∧
    (abortGrant s).power = s.power ∧ (abortGrant s).dev = s.dev ∧ (abortGrant s).clk = s.clk ∧ (abortGrant s).eng =
    s.eng ∧ (abortGrant s).ch = s.ch ∧ (abortGrant s).trust = s.trust ∧ (abortGrant s).lockoutRec = s.lockoutRec ∧
    (abortGrant s).rop = s.rop ∧ (abortGrant s).eth = s.eth ∧ (abortGrant s).badger = s.badger ∧ (abortGrant s).events
    = s.events ∧ (abortGrant s).hamper = s.hamper ∧ (abortGrant s).pool = s.pool ∧ (abortGrant s).link = s.link ∧
    (abortGrant s).aux = s.aux ∧ (abortGrant s).refMon = s.refMon ∧ (abortGrant s).trig = s.trig ∧ (abortGrant
    s).ronko = s.ronko ∧ (abortGrant s).fsp = s.fsp ∧ (abortGrant s).now = s.now ∧ (abortGrant s).answer = s.answer ∧
    (abortGrant s).emit = s.emit ∧ (abortGrant s).free = s.free ∧ (abortGrant s).pending = s.pending := by simp [abortGrant]

/-! ### Arbiter -/

@[simp] theorem stampSent_frame (s : State) (x : SupFrame) : (stampSent s x).otp = s.otp ∧ (stampSent s x).ident =
    s.ident ∧ (stampSent s x).power = s.power ∧ (stampSent s x).dev = s.dev ∧ (stampSent s x).clk = s.clk ∧ (stampSent
    s x).eng = s.eng ∧ (stampSent s x).ch = s.ch ∧ (stampSent s x).trust = s.trust ∧ (stampSent s x).lockoutRec =
    s.lockoutRec ∧ (stampSent s x).rop = s.rop ∧ (stampSent s x).eth = s.eth ∧ (stampSent s x).badger = s.badger ∧
    (stampSent s x).events = s.events ∧ (stampSent s x).hamper = s.hamper ∧ (stampSent s x).pool = s.pool ∧ (stampSent
    s x).link = s.link ∧ (stampSent s x).bus = s.bus ∧ (stampSent s x).aux = s.aux ∧ (stampSent s x).refMon = s.refMon
    ∧ (stampSent s x).trig = s.trig ∧ (stampSent s x).fsp = s.fsp ∧ (stampSent s x).xip = s.xip ∧ (stampSent s x).mgp
    = s.mgp ∧ (stampSent s x).now = s.now ∧ (stampSent s x).answer = s.answer ∧ (stampSent s x).free = s.free ∧
    (stampSent s x).pending = s.pending := by simp [stampSent]

@[simp] theorem sendHead_frame (s : State) (q : Nat) : (sendHead s q).otp = s.otp ∧ (sendHead s q).ident = s.ident ∧
    (sendHead s q).power = s.power ∧ (sendHead s q).dev = s.dev ∧ (sendHead s q).clk = s.clk ∧ (sendHead s q).eng =
    s.eng ∧ (sendHead s q).ch = s.ch ∧ (sendHead s q).trust = s.trust ∧ (sendHead s q).lockoutRec = s.lockoutRec ∧
    (sendHead s q).eth = s.eth ∧ (sendHead s q).badger = s.badger ∧ (sendHead s q).events = s.events ∧ (sendHead s
    q).hamper = s.hamper ∧ (sendHead s q).pool = s.pool ∧ (sendHead s q).link = s.link ∧ (sendHead s q).bus = s.bus ∧
    (sendHead s q).aux = s.aux ∧ (sendHead s q).refMon = s.refMon ∧ (sendHead s q).trig = s.trig ∧ (sendHead s q).fsp
    = s.fsp ∧ (sendHead s q).xip = s.xip ∧ (sendHead s q).mgp = s.mgp ∧ (sendHead s q).now = s.now ∧ (sendHead s
    q).answer = s.answer ∧ (sendHead s q).free = s.free ∧ (sendHead s q).pending = s.pending := by unfold sendHead; (repeat' split) <;> simp

@[simp] theorem clockIdle_frame (s : State) (q : Nat) : (clockIdle s q).otp = s.otp ∧ (clockIdle s q).ident = s.ident
    ∧ (clockIdle s q).power = s.power ∧ (clockIdle s q).dev = s.dev ∧ (clockIdle s q).clk = s.clk ∧ (clockIdle s
    q).eng = s.eng ∧ (clockIdle s q).ch = s.ch ∧ (clockIdle s q).trust = s.trust ∧ (clockIdle s q).lockoutRec =
    s.lockoutRec ∧ (clockIdle s q).rop = s.rop ∧ (clockIdle s q).eth = s.eth ∧ (clockIdle s q).badger = s.badger ∧
    (clockIdle s q).events = s.events ∧ (clockIdle s q).hamper = s.hamper ∧ (clockIdle s q).pool = s.pool ∧ (clockIdle
    s q).link = s.link ∧ (clockIdle s q).bus = s.bus ∧ (clockIdle s q).aux = s.aux ∧ (clockIdle s q).refMon = s.refMon
    ∧ (clockIdle s q).trig = s.trig ∧ (clockIdle s q).ronko = s.ronko ∧ (clockIdle s q).xip = s.xip ∧ (clockIdle s
    q).mgp = s.mgp ∧ (clockIdle s q).now = s.now ∧ (clockIdle s q).answer = s.answer ∧ (clockIdle s q).emit = s.emit ∧
    (clockIdle s q).free = s.free ∧ (clockIdle s q).pending = s.pending := by simp [clockIdle]

@[simp] theorem beginFill_frame (s : State) (l : Nat) : (beginFill s l).otp = s.otp ∧ (beginFill s l).ident = s.ident
    ∧ (beginFill s l).power = s.power ∧ (beginFill s l).dev = s.dev ∧ (beginFill s l).clk = s.clk ∧ (beginFill s
    l).eng = s.eng ∧ (beginFill s l).ch = s.ch ∧ (beginFill s l).trust = s.trust ∧ (beginFill s l).lockoutRec =
    s.lockoutRec ∧ (beginFill s l).rop = s.rop ∧ (beginFill s l).eth = s.eth ∧ (beginFill s l).badger = s.badger ∧
    (beginFill s l).events = s.events ∧ (beginFill s l).hamper = s.hamper ∧ (beginFill s l).pool = s.pool ∧ (beginFill
    s l).link = s.link ∧ (beginFill s l).bus = s.bus ∧ (beginFill s l).aux = s.aux ∧ (beginFill s l).refMon = s.refMon
    ∧ (beginFill s l).trig = s.trig ∧ (beginFill s l).ronko = s.ronko ∧ (beginFill s l).mgp = s.mgp ∧ (beginFill s
    l).now = s.now ∧ (beginFill s l).answer = s.answer ∧ (beginFill s l).free = s.free ∧ (beginFill s l).pending =
    s.pending := by simp [beginFill]

@[simp] theorem beginBus_frame (s : State) (q : Nat) : (beginBus s q).otp = s.otp ∧ (beginBus s q).ident = s.ident ∧
    (beginBus s q).power = s.power ∧ (beginBus s q).dev = s.dev ∧ (beginBus s q).clk = s.clk ∧ (beginBus s q).eng =
    s.eng ∧ (beginBus s q).ch = s.ch ∧ (beginBus s q).trust = s.trust ∧ (beginBus s q).lockoutRec = s.lockoutRec ∧
    (beginBus s q).rop = s.rop ∧ (beginBus s q).eth = s.eth ∧ (beginBus s q).badger = s.badger ∧ (beginBus s q).events
    = s.events ∧ (beginBus s q).hamper = s.hamper ∧ (beginBus s q).pool = s.pool ∧ (beginBus s q).link = s.link ∧
    (beginBus s q).bus = s.bus ∧ (beginBus s q).aux = s.aux ∧ (beginBus s q).refMon = s.refMon ∧ (beginBus s q).trig =
    s.trig ∧ (beginBus s q).ronko = s.ronko ∧ (beginBus s q).mgp = s.mgp ∧ (beginBus s q).now = s.now ∧ (beginBus s
    q).answer = s.answer ∧ (beginBus s q).free = s.free ∧ (beginBus s q).pending = s.pending := by unfold beginBus; (repeat' split) <;> simp

@[simp] theorem clearMaxWait_frame (s : State) (res : Resource) (q : Nat) : (clearMaxWait s res q).otp = s.otp ∧
    (clearMaxWait s res q).ident = s.ident ∧ (clearMaxWait s res q).power = s.power ∧ (clearMaxWait s res q).dev =
    s.dev ∧ (clearMaxWait s res q).clk = s.clk ∧ (clearMaxWait s res q).eng = s.eng ∧ (clearMaxWait s res q).ch = s.ch
    ∧ (clearMaxWait s res q).trust = s.trust ∧ (clearMaxWait s res q).lockoutRec = s.lockoutRec ∧ (clearMaxWait s res
    q).rop = s.rop ∧ (clearMaxWait s res q).eth = s.eth ∧ (clearMaxWait s res q).badger = s.badger ∧ (clearMaxWait s
    res q).events = s.events ∧ (clearMaxWait s res q).hamper = s.hamper ∧ (clearMaxWait s res q).aux = s.aux ∧
    (clearMaxWait s res q).refMon = s.refMon ∧ (clearMaxWait s res q).trig = s.trig ∧ (clearMaxWait s res q).ronko =
    s.ronko ∧ (clearMaxWait s res q).fsp = s.fsp ∧ (clearMaxWait s res q).xip = s.xip ∧ (clearMaxWait s res q).mgp =
    s.mgp ∧ (clearMaxWait s res q).now = s.now ∧ (clearMaxWait s res q).answer = s.answer ∧ (clearMaxWait s res
    q).emit = s.emit ∧ (clearMaxWait s res q).free = s.free ∧ (clearMaxWait s res q).pending = s.pending := by simp [clearMaxWait]

/-! ### Eth -/

@[simp] theorem State.modEth_frame (s : State) (f : Eth → Eth) : (State.modEth s f).otp = s.otp ∧ (State.modEth s
    f).ident = s.ident ∧ (State.modEth s f).power = s.power ∧ (State.modEth s f).dev = s.dev ∧ (State.modEth s f).clk
    = s.clk ∧ (State.modEth s f).eng = s.eng ∧ (State.modEth s f).ch = s.ch ∧ (State.modEth s f).trust = s.trust ∧
    (State.modEth s f).lockoutRec = s.lockoutRec ∧ (State.modEth s f).rop = s.rop ∧ (State.modEth s f).badger =
    s.badger ∧ (State.modEth s f).events = s.events ∧ (State.modEth s f).hamper = s.hamper ∧ (State.modEth s f).pool =
    s.pool ∧ (State.modEth s f).link = s.link ∧ (State.modEth s f).bus = s.bus ∧ (State.modEth s f).aux = s.aux ∧
    (State.modEth s f).refMon = s.refMon ∧ (State.modEth s f).trig = s.trig ∧ (State.modEth s f).ronko = s.ronko ∧
    (State.modEth s f).fsp = s.fsp ∧ (State.modEth s f).xip = s.xip ∧ (State.modEth s f).mgp = s.mgp ∧ (State.modEth s
    f).now = s.now ∧ (State.modEth s f).answer = s.answer ∧ (State.modEth s f).emit = s.emit ∧ (State.modEth s f).free
    = s.free ∧ (State.modEth s f).pending = s.pending :=
    ⟨rfl, rfl, rfl, rfl, rfl, rfl, rfl, rfl, rfl, rfl, rfl, rfl, rfl, rfl, rfl, rfl, rfl, rfl, rfl, rfl, rfl, rfl, rfl,
    rfl, rfl, rfl, rfl, rfl⟩

@[simp] theorem setRefOut_frame (s : State) (on : Bool) : (setRefOut s on).otp = s.otp ∧ (setRefOut s on).ident =
    s.ident ∧ (setRefOut s on).power = s.power ∧ (setRefOut s on).dev = s.dev ∧ (setRefOut s on).eng = s.eng ∧
    (setRefOut s on).ch = s.ch ∧ (setRefOut s on).trust = s.trust ∧ (setRefOut s on).lockoutRec = s.lockoutRec ∧
    (setRefOut s on).rop = s.rop ∧ (setRefOut s on).badger = s.badger ∧ (setRefOut s on).events = s.events ∧
    (setRefOut s on).hamper = s.hamper ∧ (setRefOut s on).pool = s.pool ∧ (setRefOut s on).link = s.link ∧ (setRefOut
    s on).bus = s.bus ∧ (setRefOut s on).aux = s.aux ∧ (setRefOut s on).refMon = s.refMon ∧ (setRefOut s on).trig =
    s.trig ∧ (setRefOut s on).ronko = s.ronko ∧ (setRefOut s on).fsp = s.fsp ∧ (setRefOut s on).xip = s.xip ∧
    (setRefOut s on).mgp = s.mgp ∧ (setRefOut s on).now = s.now ∧ (setRefOut s on).answer = s.answer ∧ (setRefOut s
    on).emit = s.emit ∧ (setRefOut s on).free = s.free ∧ (setRefOut s on).pending = s.pending :=
    ⟨rfl, rfl, rfl, rfl, rfl, rfl, rfl, rfl, rfl, rfl, rfl, rfl, rfl, rfl, rfl, rfl, rfl, rfl, rfl, rfl, rfl, rfl, rfl,
    rfl, rfl, rfl, rfl⟩

@[simp] theorem frameToRing_frame (s : State) (bytes : List Byte) : (frameToRing s bytes).1.otp = s.otp ∧ (frameToRing
    s bytes).1.ident = s.ident ∧ (frameToRing s bytes).1.power = s.power ∧ (frameToRing s bytes).1.dev = s.dev ∧
    (frameToRing s bytes).1.clk = s.clk ∧ (frameToRing s bytes).1.eng = s.eng ∧ (frameToRing s bytes).1.ch = s.ch ∧
    (frameToRing s bytes).1.trust = s.trust ∧ (frameToRing s bytes).1.lockoutRec = s.lockoutRec ∧ (frameToRing s
    bytes).1.rop = s.rop ∧ (frameToRing s bytes).1.eth = s.eth ∧ (frameToRing s bytes).1.badger = s.badger ∧
    (frameToRing s bytes).1.pool = s.pool ∧ (frameToRing s bytes).1.link = s.link ∧ (frameToRing s bytes).1.bus =
    s.bus ∧ (frameToRing s bytes).1.aux = s.aux ∧ (frameToRing s bytes).1.refMon = s.refMon ∧ (frameToRing s
    bytes).1.trig = s.trig ∧ (frameToRing s bytes).1.ronko = s.ronko ∧ (frameToRing s bytes).1.fsp = s.fsp ∧
    (frameToRing s bytes).1.xip = s.xip ∧ (frameToRing s bytes).1.mgp = s.mgp ∧ (frameToRing s bytes).1.now = s.now ∧
    (frameToRing s bytes).1.answer = s.answer ∧ (frameToRing s bytes).1.emit = s.emit ∧ (frameToRing s bytes).1.free =
    s.free ∧ (frameToRing s bytes).1.pending = s.pending := by unfold frameToRing; split <;> simp

@[simp] theorem announce_frame (s : State) : (announce s).otp = s.otp ∧ (announce s).ident = s.ident ∧ (announce
    s).power = s.power ∧ (announce s).dev = s.dev ∧ (announce s).clk = s.clk ∧ (announce s).eng = s.eng ∧ (announce
    s).ch = s.ch ∧ (announce s).trust = s.trust ∧ (announce s).lockoutRec = s.lockoutRec ∧ (announce s).rop = s.rop ∧
    (announce s).eth = s.eth ∧ (announce s).badger = s.badger ∧ (announce s).events = s.events ∧ (announce s).hamper =
    s.hamper ∧ (announce s).pool = s.pool ∧ (announce s).link = s.link ∧ (announce s).bus = s.bus ∧ (announce s).aux =
    s.aux ∧ (announce s).refMon = s.refMon ∧ (announce s).trig = s.trig ∧ (announce s).ronko = s.ronko ∧ (announce
    s).fsp = s.fsp ∧ (announce s).xip = s.xip ∧ (announce s).mgp = s.mgp ∧ (announce s).now = s.now ∧ (announce
    s).answer = s.answer ∧ (announce s).free = s.free ∧ (announce s).pending = s.pending := by simp [announce]

/-! ### Sessions -/

@[simp] theorem State.modRop_frame (s : State) (f : Rop → Rop) : (State.modRop s f).otp = s.otp ∧ (State.modRop s
    f).ident = s.ident ∧ (State.modRop s f).power = s.power ∧ (State.modRop s f).dev = s.dev ∧ (State.modRop s f).clk
    = s.clk ∧ (State.modRop s f).eng = s.eng ∧ (State.modRop s f).ch = s.ch ∧ (State.modRop s f).trust = s.trust ∧
    (State.modRop s f).lockoutRec = s.lockoutRec ∧ (State.modRop s f).eth = s.eth ∧ (State.modRop s f).badger =
    s.badger ∧ (State.modRop s f).events = s.events ∧ (State.modRop s f).hamper = s.hamper ∧ (State.modRop s f).pool =
    s.pool ∧ (State.modRop s f).link = s.link ∧ (State.modRop s f).bus = s.bus ∧ (State.modRop s f).aux = s.aux ∧
    (State.modRop s f).refMon = s.refMon ∧ (State.modRop s f).trig = s.trig ∧ (State.modRop s f).ronko = s.ronko ∧
    (State.modRop s f).fsp = s.fsp ∧ (State.modRop s f).xip = s.xip ∧ (State.modRop s f).mgp = s.mgp ∧ (State.modRop s
    f).now = s.now ∧ (State.modRop s f).answer = s.answer ∧ (State.modRop s f).emit = s.emit ∧ (State.modRop s f).free
    = s.free ∧ (State.modRop s f).pending = s.pending :=
    ⟨rfl, rfl, rfl, rfl, rfl, rfl, rfl, rfl, rfl, rfl, rfl, rfl, rfl, rfl, rfl, rfl, rfl, rfl, rfl, rfl, rfl, rfl, rfl,
    rfl, rfl, rfl, rfl, rfl⟩

@[simp] theorem openSession_frame (s : State) (ip : Word) (port entry : W16) (timeout : Nat) : (openSession s ip port
    entry timeout).1.otp = s.otp ∧ (openSession s ip port entry timeout).1.ident = s.ident ∧ (openSession s ip port
    entry timeout).1.power = s.power ∧ (openSession s ip port entry timeout).1.dev = s.dev ∧ (openSession s ip port
    entry timeout).1.clk = s.clk ∧ (openSession s ip port entry timeout).1.eng = s.eng ∧ (openSession s ip port entry
    timeout).1.ch = s.ch ∧ (openSession s ip port entry timeout).1.trust = s.trust ∧ (openSession s ip port entry
    timeout).1.lockoutRec = s.lockoutRec ∧ (openSession s ip port entry timeout).1.eth = s.eth ∧ (openSession s ip
    port entry timeout).1.badger = s.badger ∧ (openSession s ip port entry timeout).1.hamper = s.hamper ∧ (openSession
    s ip port entry timeout).1.pool = s.pool ∧ (openSession s ip port entry timeout).1.link = s.link ∧ (openSession s
    ip port entry timeout).1.bus = s.bus ∧ (openSession s ip port entry timeout).1.aux = s.aux ∧ (openSession s ip
    port entry timeout).1.refMon = s.refMon ∧ (openSession s ip port entry timeout).1.trig = s.trig ∧ (openSession s
    ip port entry timeout).1.ronko = s.ronko ∧ (openSession s ip port entry timeout).1.fsp = s.fsp ∧ (openSession s ip
    port entry timeout).1.xip = s.xip ∧ (openSession s ip port entry timeout).1.mgp = s.mgp ∧ (openSession s ip port
    entry timeout).1.now = s.now ∧ (openSession s ip port entry timeout).1.answer = s.answer ∧ (openSession s ip port
    entry timeout).1.emit = s.emit ∧ (openSession s ip port entry timeout).1.free = s.free ∧ (openSession s ip port
    entry timeout).1.pending = s.pending := by unfold openSession; (repeat' split) <;> simp

@[simp] theorem touchSession_frame (s : State) (sid : W16) : (touchSession s sid).otp = s.otp ∧ (touchSession s
    sid).ident = s.ident ∧ (touchSession s sid).power = s.power ∧ (touchSession s sid).dev = s.dev ∧ (touchSession s
    sid).clk = s.clk ∧ (touchSession s sid).eng = s.eng ∧ (touchSession s sid).ch = s.ch ∧ (touchSession s sid).trust
    = s.trust ∧ (touchSession s sid).lockoutRec = s.lockoutRec ∧ (touchSession s sid).eth = s.eth ∧ (touchSession s
    sid).badger = s.badger ∧ (touchSession s sid).events = s.events ∧ (touchSession s sid).hamper = s.hamper ∧
    (touchSession s sid).pool = s.pool ∧ (touchSession s sid).link = s.link ∧ (touchSession s sid).bus = s.bus ∧
    (touchSession s sid).aux = s.aux ∧ (touchSession s sid).refMon = s.refMon ∧ (touchSession s sid).trig = s.trig ∧
    (touchSession s sid).ronko = s.ronko ∧ (touchSession s sid).fsp = s.fsp ∧ (touchSession s sid).xip = s.xip ∧
    (touchSession s sid).mgp = s.mgp ∧ (touchSession s sid).now = s.now ∧ (touchSession s sid).answer = s.answer ∧
    (touchSession s sid).emit = s.emit ∧ (touchSession s sid).free = s.free ∧ (touchSession s sid).pending = s.pending
    := by unfold touchSession; split <;> simp

@[simp] theorem closeSession_frame (s : State) (sid : W16) : (closeSession s sid).otp = s.otp ∧ (closeSession s
    sid).ident = s.ident ∧ (closeSession s sid).power = s.power ∧ (closeSession s sid).dev = s.dev ∧ (closeSession s
    sid).clk = s.clk ∧ (closeSession s sid).eng = s.eng ∧ (closeSession s sid).lockoutRec = s.lockoutRec ∧
    (closeSession s sid).eth = s.eth ∧ (closeSession s sid).badger = s.badger ∧ (closeSession s sid).pool = s.pool ∧
    (closeSession s sid).link = s.link ∧ (closeSession s sid).bus = s.bus ∧ (closeSession s sid).aux = s.aux ∧
    (closeSession s sid).refMon = s.refMon ∧ (closeSession s sid).trig = s.trig ∧ (closeSession s sid).ronko = s.ronko
    ∧ (closeSession s sid).fsp = s.fsp ∧ (closeSession s sid).xip = s.xip ∧ (closeSession s sid).mgp = s.mgp ∧
    (closeSession s sid).now = s.now ∧ (closeSession s sid).answer = s.answer ∧ (closeSession s sid).emit = s.emit ∧
    (closeSession s sid).free = s.free ∧ (closeSession s sid).pending = s.pending := by unfold closeSession; split <;> simp

/-! ### TunTx -/

@[simp] theorem dropKept_frame (s : State) (entry tag : W16) : (dropKept s entry tag).otp = s.otp ∧ (dropKept s entry
    tag).ident = s.ident ∧ (dropKept s entry tag).power = s.power ∧ (dropKept s entry tag).dev = s.dev ∧ (dropKept s
    entry tag).clk = s.clk ∧ (dropKept s entry tag).eng = s.eng ∧ (dropKept s entry tag).ch = s.ch ∧ (dropKept s entry
    tag).trust = s.trust ∧ (dropKept s entry tag).lockoutRec = s.lockoutRec ∧ (dropKept s entry tag).rop = s.rop ∧
    (dropKept s entry tag).eth = s.eth ∧ (dropKept s entry tag).badger = s.badger ∧ (dropKept s entry tag).events =
    s.events ∧ (dropKept s entry tag).hamper = s.hamper ∧ (dropKept s entry tag).pool = s.pool ∧ (dropKept s entry
    tag).link = s.link ∧ (dropKept s entry tag).bus = s.bus ∧ (dropKept s entry tag).aux = s.aux ∧ (dropKept s entry
    tag).refMon = s.refMon ∧ (dropKept s entry tag).trig = s.trig ∧ (dropKept s entry tag).fsp = s.fsp ∧ (dropKept s
    entry tag).xip = s.xip ∧ (dropKept s entry tag).mgp = s.mgp ∧ (dropKept s entry tag).now = s.now ∧ (dropKept s
    entry tag).answer = s.answer ∧ (dropKept s entry tag).emit = s.emit ∧ (dropKept s entry tag).free = s.free ∧
    (dropKept s entry tag).pending = s.pending :=
    ⟨rfl, rfl, rfl, rfl, rfl, rfl, rfl, rfl, rfl, rfl, rfl, rfl, rfl, rfl, rfl, rfl, rfl, rfl, rfl, rfl, rfl, rfl, rfl,
    rfl, rfl, rfl, rfl, rfl⟩

@[simp] theorem cancelTx_frame (s : State) (k : Fin 4) : (cancelTx s k).otp = s.otp ∧ (cancelTx s k).ident = s.ident ∧
    (cancelTx s k).power = s.power ∧ (cancelTx s k).dev = s.dev ∧ (cancelTx s k).clk = s.clk ∧ (cancelTx s k).eng =
    s.eng ∧ (cancelTx s k).ch = s.ch ∧ (cancelTx s k).trust = s.trust ∧ (cancelTx s k).lockoutRec = s.lockoutRec ∧
    (cancelTx s k).eth = s.eth ∧ (cancelTx s k).badger = s.badger ∧ (cancelTx s k).events = s.events ∧ (cancelTx s
    k).hamper = s.hamper ∧ (cancelTx s k).pool = s.pool ∧ (cancelTx s k).link = s.link ∧ (cancelTx s k).bus = s.bus ∧
    (cancelTx s k).aux = s.aux ∧ (cancelTx s k).refMon = s.refMon ∧ (cancelTx s k).trig = s.trig ∧ (cancelTx s k).fsp
    = s.fsp ∧ (cancelTx s k).xip = s.xip ∧ (cancelTx s k).mgp = s.mgp ∧ (cancelTx s k).now = s.now ∧ (cancelTx s
    k).answer = s.answer ∧ (cancelTx s k).free = s.free ∧ (cancelTx s k).pending = s.pending := by simp [cancelTx]

@[simp] theorem writeTx_frame (s : State) (k : Fin 4) (w : Word) (data : List Byte) : (writeTx s k w data).otp = s.otp
    ∧ (writeTx s k w data).ident = s.ident ∧ (writeTx s k w data).power = s.power ∧ (writeTx s k w data).dev = s.dev ∧
    (writeTx s k w data).clk = s.clk ∧ (writeTx s k w data).eng = s.eng ∧ (writeTx s k w data).ch = s.ch ∧ (writeTx s
    k w data).trust = s.trust ∧ (writeTx s k w data).lockoutRec = s.lockoutRec ∧ (writeTx s k w data).eth = s.eth ∧
    (writeTx s k w data).badger = s.badger ∧ (writeTx s k w data).events = s.events ∧ (writeTx s k w data).hamper =
    s.hamper ∧ (writeTx s k w data).pool = s.pool ∧ (writeTx s k w data).link = s.link ∧ (writeTx s k w data).bus =
    s.bus ∧ (writeTx s k w data).aux = s.aux ∧ (writeTx s k w data).refMon = s.refMon ∧ (writeTx s k w data).trig =
    s.trig ∧ (writeTx s k w data).fsp = s.fsp ∧ (writeTx s k w data).xip = s.xip ∧ (writeTx s k w data).mgp = s.mgp ∧
    (writeTx s k w data).now = s.now ∧ (writeTx s k w data).answer = s.answer ∧ (writeTx s k w data).free = s.free ∧
    (writeTx s k w data).pending = s.pending := by simp [writeTx]

@[simp] theorem freeRx_frame (s : State) (mask : Byte) : (freeRx s mask).otp = s.otp ∧ (freeRx s mask).ident = s.ident
    ∧ (freeRx s mask).power = s.power ∧ (freeRx s mask).dev = s.dev ∧ (freeRx s mask).clk = s.clk ∧ (freeRx s
    mask).eng = s.eng ∧ (freeRx s mask).ch = s.ch ∧ (freeRx s mask).trust = s.trust ∧ (freeRx s mask).lockoutRec =
    s.lockoutRec ∧ (freeRx s mask).rop = s.rop ∧ (freeRx s mask).eth = s.eth ∧ (freeRx s mask).badger = s.badger ∧
    (freeRx s mask).events = s.events ∧ (freeRx s mask).hamper = s.hamper ∧ (freeRx s mask).pool = s.pool ∧ (freeRx s
    mask).link = s.link ∧ (freeRx s mask).bus = s.bus ∧ (freeRx s mask).aux = s.aux ∧ (freeRx s mask).refMon =
    s.refMon ∧ (freeRx s mask).trig = s.trig ∧ (freeRx s mask).fsp = s.fsp ∧ (freeRx s mask).xip = s.xip ∧ (freeRx s
    mask).mgp = s.mgp ∧ (freeRx s mask).now = s.now ∧ (freeRx s mask).answer = s.answer ∧ (freeRx s mask).emit =
    s.emit ∧ (freeRx s mask).free = s.free ∧ (freeRx s mask).pending = s.pending :=
    ⟨rfl, rfl, rfl, rfl, rfl, rfl, rfl, rfl, rfl, rfl, rfl, rfl, rfl, rfl, rfl, rfl, rfl, rfl, rfl, rfl, rfl, rfl, rfl,
    rfl, rfl, rfl, rfl, rfl⟩

/-! ### MgpObjs -/

@[simp] theorem State.modMgp_frame (s : State) (f : Mgp → Mgp) : (State.modMgp s f).otp = s.otp ∧ (State.modMgp s
    f).ident = s.ident ∧ (State.modMgp s f).power = s.power ∧ (State.modMgp s f).dev = s.dev ∧ (State.modMgp s f).clk
    = s.clk ∧ (State.modMgp s f).eng = s.eng ∧ (State.modMgp s f).ch = s.ch ∧ (State.modMgp s f).trust = s.trust ∧
    (State.modMgp s f).lockoutRec = s.lockoutRec ∧ (State.modMgp s f).rop = s.rop ∧ (State.modMgp s f).eth = s.eth ∧
    (State.modMgp s f).badger = s.badger ∧ (State.modMgp s f).events = s.events ∧ (State.modMgp s f).hamper = s.hamper
    ∧ (State.modMgp s f).pool = s.pool ∧ (State.modMgp s f).link = s.link ∧ (State.modMgp s f).bus = s.bus ∧
    (State.modMgp s f).aux = s.aux ∧ (State.modMgp s f).refMon = s.refMon ∧ (State.modMgp s f).trig = s.trig ∧
    (State.modMgp s f).ronko = s.ronko ∧ (State.modMgp s f).fsp = s.fsp ∧ (State.modMgp s f).xip = s.xip ∧
    (State.modMgp s f).now = s.now ∧ (State.modMgp s f).answer = s.answer ∧ (State.modMgp s f).emit = s.emit ∧
    (State.modMgp s f).free = s.free ∧ (State.modMgp s f).pending = s.pending :=
    ⟨rfl, rfl, rfl, rfl, rfl, rfl, rfl, rfl, rfl, rfl, rfl, rfl, rfl, rfl, rfl, rfl, rfl, rfl, rfl, rfl, rfl, rfl, rfl,
    rfl, rfl, rfl, rfl, rfl⟩

@[simp] theorem setStreamRing_frame (s : State) (num : Nat) : (setStreamRing s num).otp = s.otp ∧ (setStreamRing s
    num).ident = s.ident ∧ (setStreamRing s num).power = s.power ∧ (setStreamRing s num).dev = s.dev ∧ (setStreamRing
    s num).clk = s.clk ∧ (setStreamRing s num).eng = s.eng ∧ (setStreamRing s num).ch = s.ch ∧ (setStreamRing s
    num).trust = s.trust ∧ (setStreamRing s num).lockoutRec = s.lockoutRec ∧ (setStreamRing s num).rop = s.rop ∧
    (setStreamRing s num).eth = s.eth ∧ (setStreamRing s num).badger = s.badger ∧ (setStreamRing s num).events =
    s.events ∧ (setStreamRing s num).hamper = s.hamper ∧ (setStreamRing s num).pool = s.pool ∧ (setStreamRing s
    num).link = s.link ∧ (setStreamRing s num).bus = s.bus ∧ (setStreamRing s num).aux = s.aux ∧ (setStreamRing s
    num).refMon = s.refMon ∧ (setStreamRing s num).trig = s.trig ∧ (setStreamRing s num).ronko = s.ronko ∧
    (setStreamRing s num).fsp = s.fsp ∧ (setStreamRing s num).xip = s.xip ∧ (setStreamRing s num).now = s.now ∧
    (setStreamRing s num).answer = s.answer ∧ (setStreamRing s num).emit = s.emit ∧ (setStreamRing s num).free =
    s.free ∧ (setStreamRing s num).pending = s.pending :=
    ⟨rfl, rfl, rfl, rfl, rfl, rfl, rfl, rfl, rfl, rfl, rfl, rfl, rfl, rfl, rfl, rfl, rfl, rfl, rfl, rfl, rfl, rfl, rfl,
    rfl, rfl, rfl, rfl, rfl⟩

end Sys2Proof.Machine
end

