-- ==== Sys2Proof/Laws/FrameRequests.lean ====
section
/-! SUPPORT. Frames: which parts of the state an operation leaves alone, once for each operation (registers, the mailbox, ROP, the tunnel and the management port). -/

namespace Sys2Proof.Machine

/-! ### RegsA -/

@[simp] theorem State.modClk_frame (s : State) (f : Clocks → Clocks) : (State.modClk s f).otp = s.otp ∧ (State.modClk
    s f).ident = s.ident ∧ (State.modClk s f).power = s.power ∧ (State.modClk s f).dev = s.dev ∧ (State.modClk s
    f).eng = s.eng ∧ (State.modClk s f).ch = s.ch ∧ (State.modClk s f).trust = s.trust ∧ (State.modClk s f).lockoutRec
    = s.lockoutRec ∧ (State.modClk s f).rop = s.rop ∧ (State.modClk s f).eth = s.eth ∧ (State.modClk s f).badger =
    s.badger ∧ (State.modClk s f).events = s.events ∧ (State.modClk s f).hamper = s.hamper ∧ (State.modClk s f).pool =
    s.pool ∧ (State.modClk s f).link = s.link ∧ (State.modClk s f).bus = s.bus ∧ (State.modClk s f).aux = s.aux ∧
    (State.modClk s f).refMon = s.refMon ∧ (State.modClk s f).trig = s.trig ∧ (State.modClk s f).ronko = s.ronko ∧
    (State.modClk s f).fsp = s.fsp ∧ (State.modClk s f).xip = s.xip ∧ (State.modClk s f).mgp = s.mgp ∧ (State.modClk s
    f).now = s.now ∧ (State.modClk s f).answer = s.answer ∧ (State.modClk s f).emit = s.emit ∧ (State.modClk s f).free
    = s.free ∧ (State.modClk s f).pending = s.pending :=
    ⟨rfl, rfl, rfl, rfl, rfl, rfl, rfl, rfl, rfl, rfl, rfl, rfl, rfl, rfl, rfl, rfl, rfl, rfl, rfl, rfl, rfl, rfl, rfl,
    rfl, rfl, rfl, rfl, rfl⟩

@[simp] theorem State.modMbx_frame (s : State) (f : Mailbox → Mailbox) : (State.modMbx s f).otp = s.otp ∧
    (State.modMbx s f).ident = s.ident ∧ (State.modMbx s f).power = s.power ∧ (State.modMbx s f).dev = s.dev ∧
    (State.modMbx s f).clk = s.clk ∧ (State.modMbx s f).eng = s.eng ∧ (State.modMbx s f).ch = s.ch ∧ (State.modMbx s
    f).lockoutRec = s.lockoutRec ∧ (State.modMbx s f).rop = s.rop ∧ (State.modMbx s f).eth = s.eth ∧ (State.modMbx s
    f).badger = s.badger ∧ (State.modMbx s f).events = s.events ∧ (State.modMbx s f).hamper = s.hamper ∧ (State.modMbx
    s f).pool = s.pool ∧ (State.modMbx s f).link = s.link ∧ (State.modMbx s f).bus = s.bus ∧ (State.modMbx s f).aux =
    s.aux ∧ (State.modMbx s f).refMon = s.refMon ∧ (State.modMbx s f).trig = s.trig ∧ (State.modMbx s f).ronko =
    s.ronko ∧ (State.modMbx s f).fsp = s.fsp ∧ (State.modMbx s f).xip = s.xip ∧ (State.modMbx s f).mgp = s.mgp ∧
    (State.modMbx s f).now = s.now ∧ (State.modMbx s f).answer = s.answer ∧ (State.modMbx s f).emit = s.emit ∧
    (State.modMbx s f).free = s.free ∧ (State.modMbx s f).pending = s.pending :=
    ⟨rfl, rfl, rfl, rfl, rfl, rfl, rfl, rfl, rfl, rfl, rfl, rfl, rfl, rfl, rfl, rfl, rfl, rfl, rfl, rfl, rfl, rfl, rfl,
    rfl, rfl, rfl, rfl, rfl⟩

@[simp] theorem State.modLock_frame (s : State) (n : Ch) (f : Lock → Lock) : (State.modLock s n f).otp = s.otp ∧
    (State.modLock s n f).ident = s.ident ∧ (State.modLock s n f).power = s.power ∧ (State.modLock s n f).dev = s.dev
    ∧ (State.modLock s n f).clk = s.clk ∧ (State.modLock s n f).eng = s.eng ∧ (State.modLock s n f).trust = s.trust ∧
    (State.modLock s n f).lockoutRec = s.lockoutRec ∧ (State.modLock s n f).rop = s.rop ∧ (State.modLock s n f).eth =
    s.eth ∧ (State.modLock s n f).badger = s.badger ∧ (State.modLock s n f).events = s.events ∧ (State.modLock s n
    f).hamper = s.hamper ∧ (State.modLock s n f).pool = s.pool ∧ (State.modLock s n f).link = s.link ∧ (State.modLock
    s n f).bus = s.bus ∧ (State.modLock s n f).aux = s.aux ∧ (State.modLock s n f).refMon = s.refMon ∧ (State.modLock
    s n f).trig = s.trig ∧ (State.modLock s n f).ronko = s.ronko ∧ (State.modLock s n f).fsp = s.fsp ∧ (State.modLock
    s n f).xip = s.xip ∧ (State.modLock s n f).mgp = s.mgp ∧ (State.modLock s n f).now = s.now ∧ (State.modLock s n
    f).answer = s.answer ∧ (State.modLock s n f).emit = s.emit ∧ (State.modLock s n f).free = s.free ∧ (State.modLock
    s n f).pending = s.pending :=
    ⟨rfl, rfl, rfl, rfl, rfl, rfl, rfl, rfl, rfl, rfl, rfl, rfl, rfl, rfl, rfl, rfl, rfl, rfl, rfl, rfl, rfl, rfl, rfl,
    rfl, rfl, rfl, rfl, rfl⟩

/-! ### RegsB -/

@[simp] theorem State.modAux_frame (s : State) (f : Aux → Aux) : (State.modAux s f).otp = s.otp ∧ (State.modAux s
    f).ident = s.ident ∧ (State.modAux s f).power = s.power ∧ (State.modAux s f).dev = s.dev ∧ (State.modAux s f).clk
    = s.clk ∧ (State.modAux s f).eng = s.eng ∧ (State.modAux s f).ch = s.ch ∧ (State.modAux s f).trust = s.trust ∧
    (State.modAux s f).lockoutRec = s.lockoutRec ∧ (State.modAux s f).rop = s.rop ∧ (State.modAux s f).eth = s.eth ∧
    (State.modAux s f).badger = s.badger ∧ (State.modAux s f).events = s.events ∧ (State.modAux s f).hamper = s.hamper
    ∧ (State.modAux s f).pool = s.pool ∧ (State.modAux s f).link = s.link ∧ (State.modAux s f).bus = s.bus ∧
    (State.modAux s f).refMon = s.refMon ∧ (State.modAux s f).trig = s.trig ∧ (State.modAux s f).ronko = s.ronko ∧
    (State.modAux s f).fsp = s.fsp ∧ (State.modAux s f).xip = s.xip ∧ (State.modAux s f).mgp = s.mgp ∧ (State.modAux s
    f).now = s.now ∧ (State.modAux s f).answer = s.answer ∧ (State.modAux s f).emit = s.emit ∧ (State.modAux s f).free
    = s.free ∧ (State.modAux s f).pending = s.pending :=
    ⟨rfl, rfl, rfl, rfl, rfl, rfl, rfl, rfl, rfl, rfl, rfl, rfl, rfl, rfl, rfl, rfl, rfl, rfl, rfl, rfl, rfl, rfl, rfl,
    rfl, rfl, rfl, rfl, rfl⟩

@[simp] theorem State.modRef_frame (s : State) (f : RefMon → RefMon) : (State.modRef s f).otp = s.otp ∧ (State.modRef
    s f).ident = s.ident ∧ (State.modRef s f).power = s.power ∧ (State.modRef s f).dev = s.dev ∧ (State.modRef s
    f).clk = s.clk ∧ (State.modRef s f).eng = s.eng ∧ (State.modRef s f).ch = s.ch ∧ (State.modRef s f).trust =
    s.trust ∧ (State.modRef s f).lockoutRec = s.lockoutRec ∧ (State.modRef s f).rop = s.rop ∧ (State.modRef s f).eth =
    s.eth ∧ (State.modRef s f).badger = s.badger ∧ (State.modRef s f).events = s.events ∧ (State.modRef s f).hamper =
    s.hamper ∧ (State.modRef s f).pool = s.pool ∧ (State.modRef s f).link = s.link ∧ (State.modRef s f).bus = s.bus ∧
    (State.modRef s f).aux = s.aux ∧ (State.modRef s f).trig = s.trig ∧ (State.modRef s f).ronko = s.ronko ∧
    (State.modRef s f).fsp = s.fsp ∧ (State.modRef s f).xip = s.xip ∧ (State.modRef s f).mgp = s.mgp ∧ (State.modRef s
    f).now = s.now ∧ (State.modRef s f).answer = s.answer ∧ (State.modRef s f).emit = s.emit ∧ (State.modRef s f).free
    = s.free ∧ (State.modRef s f).pending = s.pending :=
    ⟨rfl, rfl, rfl, rfl, rfl, rfl, rfl, rfl, rfl, rfl, rfl, rfl, rfl, rfl, rfl, rfl, rfl, rfl, rfl, rfl, rfl, rfl, rfl,
    rfl, rfl, rfl, rfl, rfl⟩

@[simp] theorem caleCompute_frame (method : Nat) (s : State) : (caleCompute method s).otp = s.otp ∧ (caleCompute
    method s).ident = s.ident ∧ (caleCompute method s).power = s.power ∧ (caleCompute method s).dev = s.dev ∧
    (caleCompute method s).clk = s.clk ∧ (caleCompute method s).eng = s.eng ∧ (caleCompute method s).trust = s.trust ∧
    (caleCompute method s).lockoutRec = s.lockoutRec ∧ (caleCompute method s).rop = s.rop ∧ (caleCompute method s).eth
    = s.eth ∧ (caleCompute method s).badger = s.badger ∧ (caleCompute method s).events = s.events ∧ (caleCompute
    method s).hamper = s.hamper ∧ (caleCompute method s).pool = s.pool ∧ (caleCompute method s).link = s.link ∧
    (caleCompute method s).bus = s.bus ∧ (caleCompute method s).aux = s.aux ∧ (caleCompute method s).refMon = s.refMon
    ∧ (caleCompute method s).trig = s.trig ∧ (caleCompute method s).ronko = s.ronko ∧ (caleCompute method s).fsp =
    s.fsp ∧ (caleCompute method s).xip = s.xip ∧ (caleCompute method s).mgp = s.mgp ∧ (caleCompute method s).now =
    s.now ∧ (caleCompute method s).answer = s.answer ∧ (caleCompute method s).emit = s.emit ∧ (caleCompute method
    s).free = s.free ∧ (caleCompute method s).pending = s.pending := by simp [caleCompute]

@[simp] theorem State.modTrigs_frame (s : State) (f : Trig → Trig) : (State.modTrigs s f).otp = s.otp ∧
    (State.modTrigs s f).ident = s.ident ∧ (State.modTrigs s f).power = s.power ∧ (State.modTrigs s f).dev = s.dev ∧
    (State.modTrigs s f).clk = s.clk ∧ (State.modTrigs s f).eng = s.eng ∧ (State.modTrigs s f).ch = s.ch ∧
    (State.modTrigs s f).trust = s.trust ∧ (State.modTrigs s f).lockoutRec = s.lockoutRec ∧ (State.modTrigs s f).rop =
    s.rop ∧ (State.modTrigs s f).eth = s.eth ∧ (State.modTrigs s f).badger = s.badger ∧ (State.modTrigs s f).events =
    s.events ∧ (State.modTrigs s f).hamper = s.hamper ∧ (State.modTrigs s f).pool = s.pool ∧ (State.modTrigs s f).link
    = s.link ∧ (State.modTrigs s f).bus = s.bus ∧ (State.modTrigs s f).aux = s.aux ∧ (State.modTrigs s f).refMon =
    s.refMon ∧ (State.modTrigs s f).ronko = s.ronko ∧ (State.modTrigs s f).fsp = s.fsp ∧ (State.modTrigs s f).xip =
    s.xip ∧ (State.modTrigs s f).mgp = s.mgp ∧ (State.modTrigs s f).now = s.now ∧ (State.modTrigs s f).answer =
    s.answer ∧ (State.modTrigs s f).emit = s.emit ∧ (State.modTrigs s f).free = s.free ∧ (State.modTrigs s f).pending
    = s.pending :=
    ⟨rfl, rfl, rfl, rfl, rfl, rfl, rfl, rfl, rfl, rfl, rfl, rfl, rfl, rfl, rfl, rfl, rfl, rfl, rfl, rfl, rfl, rfl, rfl,
    rfl, rfl, rfl, rfl, rfl⟩

@[simp] theorem State.modHam_frame (s : State) (f : Hamper → Hamper) : (State.modHam s f).otp = s.otp ∧ (State.modHam
    s f).ident = s.ident ∧ (State.modHam s f).power = s.power ∧ (State.modHam s f).dev = s.dev ∧ (State.modHam s
    f).clk = s.clk ∧ (State.modHam s f).eng = s.eng ∧ (State.modHam s f).ch = s.ch ∧ (State.modHam s f).trust =
    s.trust ∧ (State.modHam s f).lockoutRec = s.lockoutRec ∧ (State.modHam s f).rop = s.rop ∧ (State.modHam s f).eth =
    s.eth ∧ (State.modHam s f).badger = s.badger ∧ (State.modHam s f).events = s.events ∧ (State.modHam s f).pool =
    s.pool ∧ (State.modHam s f).link = s.link ∧ (State.modHam s f).bus = s.bus ∧ (State.modHam s f).aux = s.aux ∧
    (State.modHam s f).refMon = s.refMon ∧ (State.modHam s f).trig = s.trig ∧ (State.modHam s f).ronko = s.ronko ∧
    (State.modHam s f).fsp = s.fsp ∧ (State.modHam s f).xip = s.xip ∧ (State.modHam s f).mgp = s.mgp ∧ (State.modHam s
    f).now = s.now ∧ (State.modHam s f).answer = s.answer ∧ (State.modHam s f).emit = s.emit ∧ (State.modHam s f).free
    = s.free ∧ (State.modHam s f).pending = s.pending :=
    ⟨rfl, rfl, rfl, rfl, rfl, rfl, rfl, rfl, rfl, rfl, rfl, rfl, rfl, rfl, rfl, rfl, rfl, rfl, rfl, rfl, rfl, rfl, rfl,
    rfl, rfl, rfl, rfl, rfl⟩

/-! ### RegsC -/

@[simp] theorem State.modBadger_frame (s : State) (f : Badger → Badger) : (State.modBadger s f).otp = s.otp ∧
    (State.modBadger s f).ident = s.ident ∧ (State.modBadger s f).power = s.power ∧ (State.modBadger s f).dev = s.dev
    ∧ (State.modBadger s f).clk = s.clk ∧ (State.modBadger s f).eng = s.eng ∧ (State.modBadger s f).ch = s.ch ∧
    (State.modBadger s f).trust = s.trust ∧ (State.modBadger s f).lockoutRec = s.lockoutRec ∧ (State.modBadger s
    f).rop = s.rop ∧ (State.modBadger s f).eth = s.eth ∧ (State.modBadger s f).events = s.events ∧ (State.modBadger s
    f).hamper = s.hamper ∧ (State.modBadger s f).pool = s.pool ∧ (State.modBadger s f).link = s.link ∧
    (State.modBadger s f).bus = s.bus ∧ (State.modBadger s f).aux = s.aux ∧ (State.modBadger s f).refMon = s.refMon ∧
    (State.modBadger s f).trig = s.trig ∧ (State.modBadger s f).ronko = s.ronko ∧ (State.modBadger s f).fsp = s.fsp ∧
    (State.modBadger s f).xip = s.xip ∧ (State.modBadger s f).mgp = s.mgp ∧ (State.modBadger s f).now = s.now ∧
    (State.modBadger s f).answer = s.answer ∧ (State.modBadger s f).emit = s.emit ∧ (State.modBadger s f).free =
    s.free ∧ (State.modBadger s f).pending = s.pending :=
    ⟨rfl, rfl, rfl, rfl, rfl, rfl, rfl, rfl, rfl, rfl, rfl, rfl, rfl, rfl, rfl, rfl, rfl, rfl, rfl, rfl, rfl, rfl, rfl,
    rfl, rfl, rfl, rfl, rfl⟩

/-! ### Regs -/

@[simp] theorem afterRead_frame (r : Reg) (m : Master) (addr : Nat) (s : State) : (afterRead r m addr s).otp = s.otp ∧
    (afterRead r m addr s).ident = s.ident ∧ (afterRead r m addr s).power = s.power ∧ (afterRead r m addr s).dev =
    s.dev ∧ (afterRead r m addr s).eng = s.eng ∧ (afterRead r m addr s).ch = s.ch ∧ (afterRead r m addr s).trust =
    s.trust ∧ (afterRead r m addr s).lockoutRec = s.lockoutRec ∧ (afterRead r m addr s).rop = s.rop ∧ (afterRead r m
    addr s).eth = s.eth ∧ (afterRead r m addr s).events = s.events ∧ (afterRead r m addr s).pool = s.pool ∧ (afterRead
    r m addr s).link = s.link ∧ (afterRead r m addr s).bus = s.bus ∧ (afterRead r m addr s).aux = s.aux ∧ (afterRead r
    m addr s).refMon = s.refMon ∧ (afterRead r m addr s).trig = s.trig ∧ (afterRead r m addr s).ronko = s.ronko ∧
    (afterRead r m addr s).fsp = s.fsp ∧ (afterRead r m addr s).xip = s.xip ∧ (afterRead r m addr s).mgp = s.mgp ∧
    (afterRead r m addr s).now = s.now ∧ (afterRead r m addr s).answer = s.answer ∧ (afterRead r m addr s).emit =
    s.emit ∧ (afterRead r m addr s).free = s.free ∧ (afterRead r m addr s).pending = s.pending := by unfold afterRead; (repeat' split) <;> simp

/-! ### Objects -/

@[simp] theorem State.answered_frame (s : State) (x : OpResult) : (State.answered s x).otp = s.otp ∧ (State.answered s
    x).ident = s.ident ∧ (State.answered s x).power = s.power ∧ (State.answered s x).dev = s.dev ∧ (State.answered s
    x).clk = s.clk ∧ (State.answered s x).eng = s.eng ∧ (State.answered s x).ch = s.ch ∧ (State.answered s x).trust =
    s.trust ∧ (State.answered s x).lockoutRec = s.lockoutRec ∧ (State.answered s x).rop = s.rop ∧ (State.answered s
    x).eth = s.eth ∧ (State.answered s x).badger = s.badger ∧ (State.answered s x).events = s.events ∧ (State.answered
    s x).hamper = s.hamper ∧ (State.answered s x).pool = s.pool ∧ (State.answered s x).link = s.link ∧ (State.answered
    s x).bus = s.bus ∧ (State.answered s x).aux = s.aux ∧ (State.answered s x).refMon = s.refMon ∧ (State.answered s
    x).trig = s.trig ∧ (State.answered s x).ronko = s.ronko ∧ (State.answered s x).fsp = s.fsp ∧ (State.answered s
    x).xip = s.xip ∧ (State.answered s x).mgp = s.mgp ∧ (State.answered s x).now = s.now ∧ (State.answered s x).emit =
    s.emit ∧ (State.answered s x).free = s.free ∧ (State.answered s x).pending = s.pending :=
    ⟨rfl, rfl, rfl, rfl, rfl, rfl, rfl, rfl, rfl, rfl, rfl, rfl, rfl, rfl, rfl, rfl, rfl, rfl, rfl, rfl, rfl, rfl, rfl,
    rfl, rfl, rfl, rfl, rfl⟩

/-! ### Mailbox -/

@[simp] theorem mbxResult_frame (s : State) (code : Byte) (pos : Nat) (epoch : W16) : (mbxResult s code pos epoch).otp
    = s.otp ∧ (mbxResult s code pos epoch).ident = s.ident ∧ (mbxResult s code pos epoch).power = s.power ∧ (mbxResult
    s code pos epoch).dev = s.dev ∧ (mbxResult s code pos epoch).clk = s.clk ∧ (mbxResult s code pos epoch).eng =
    s.eng ∧ (mbxResult s code pos epoch).ch = s.ch ∧ (mbxResult s code pos epoch).lockoutRec = s.lockoutRec ∧
    (mbxResult s code pos epoch).rop = s.rop ∧ (mbxResult s code pos epoch).eth = s.eth ∧ (mbxResult s code pos
    epoch).badger = s.badger ∧ (mbxResult s code pos epoch).events = s.events ∧ (mbxResult s code pos epoch).hamper =
    s.hamper ∧ (mbxResult s code pos epoch).pool = s.pool ∧ (mbxResult s code pos epoch).link = s.link ∧ (mbxResult s
    code pos epoch).bus = s.bus ∧ (mbxResult s code pos epoch).aux = s.aux ∧ (mbxResult s code pos epoch).refMon =
    s.refMon ∧ (mbxResult s code pos epoch).trig = s.trig ∧ (mbxResult s code pos epoch).ronko = s.ronko ∧ (mbxResult
    s code pos epoch).fsp = s.fsp ∧ (mbxResult s code pos epoch).xip = s.xip ∧ (mbxResult s code pos epoch).mgp =
    s.mgp ∧ (mbxResult s code pos epoch).now = s.now ∧ (mbxResult s code pos epoch).answer = s.answer ∧ (mbxResult s
    code pos epoch).emit = s.emit ∧ (mbxResult s code pos epoch).free = s.free ∧ (mbxResult s code pos epoch).pending
    = s.pending :=
    ⟨rfl, rfl, rfl, rfl, rfl, rfl, rfl, rfl, rfl, rfl, rfl, rfl, rfl, rfl, rfl, rfl, rfl, rfl, rfl, rfl, rfl, rfl, rfl,
    rfl, rfl, rfl, rfl, rfl⟩

@[simp] theorem mbxStage_frame (s : State) : (mbxStage s).otp = s.otp ∧ (mbxStage s).ident = s.ident ∧ (mbxStage
    s).power = s.power ∧ (mbxStage s).dev = s.dev ∧ (mbxStage s).clk = s.clk ∧ (mbxStage s).eng = s.eng ∧ (mbxStage
    s).ch = s.ch ∧ (mbxStage s).lockoutRec = s.lockoutRec ∧ (mbxStage s).rop = s.rop ∧ (mbxStage s).eth = s.eth ∧
    (mbxStage s).badger = s.badger ∧ (mbxStage s).events = s.events ∧ (mbxStage s).hamper = s.hamper ∧ (mbxStage
    s).pool = s.pool ∧ (mbxStage s).link = s.link ∧ (mbxStage s).bus = s.bus ∧ (mbxStage s).aux = s.aux ∧ (mbxStage
    s).refMon = s.refMon ∧ (mbxStage s).trig = s.trig ∧ (mbxStage s).ronko = s.ronko ∧ (mbxStage s).fsp = s.fsp ∧
    (mbxStage s).xip = s.xip ∧ (mbxStage s).mgp = s.mgp ∧ (mbxStage s).now = s.now ∧ (mbxStage s).answer = s.answer ∧
    (mbxStage s).emit = s.emit ∧ (mbxStage s).free = s.free ∧ (mbxStage s).pending = s.pending := by unfold mbxStage; simp only []; (repeat' split) <;> simp_all

@[simp] theorem mbxAbort_frame (s : State) : (mbxAbort s).otp = s.otp ∧ (mbxAbort s).ident = s.ident ∧ (mbxAbort
    s).power = s.power ∧ (mbxAbort s).dev = s.dev ∧ (mbxAbort s).clk = s.clk ∧ (mbxAbort s).eng = s.eng ∧ (mbxAbort
    s).ch = s.ch ∧ (mbxAbort s).lockoutRec = s.lockoutRec ∧ (mbxAbort s).rop = s.rop ∧ (mbxAbort s).eth = s.eth ∧
    (mbxAbort s).badger = s.badger ∧ (mbxAbort s).events = s.events ∧ (mbxAbort s).hamper = s.hamper ∧ (mbxAbort
    s).pool = s.pool ∧ (mbxAbort s).link = s.link ∧ (mbxAbort s).bus = s.bus ∧ (mbxAbort s).aux = s.aux ∧ (mbxAbort
    s).refMon = s.refMon ∧ (mbxAbort s).trig = s.trig ∧ (mbxAbort s).ronko = s.ronko ∧ (mbxAbort s).fsp = s.fsp ∧
    (mbxAbort s).xip = s.xip ∧ (mbxAbort s).mgp = s.mgp ∧ (mbxAbort s).now = s.now ∧ (mbxAbort s).answer = s.answer ∧
    (mbxAbort s).emit = s.emit ∧ (mbxAbort s).free = s.free ∧ (mbxAbort s).pending = s.pending :=
    ⟨rfl, rfl, rfl, rfl, rfl, rfl, rfl, rfl, rfl, rfl, rfl, rfl, rfl, rfl, rfl, rfl, rfl, rfl, rfl, rfl, rfl, rfl, rfl,
    rfl, rfl, rfl, rfl, rfl⟩

@[simp] theorem mbxAppend_frame (s : State) : (mbxAppend s).otp = s.otp ∧ (mbxAppend s).ident = s.ident ∧ (mbxAppend
    s).power = s.power ∧ (mbxAppend s).dev = s.dev ∧ (mbxAppend s).clk = s.clk ∧ (mbxAppend s).eng = s.eng ∧
    (mbxAppend s).ch = s.ch ∧ (mbxAppend s).lockoutRec = s.lockoutRec ∧ (mbxAppend s).rop = s.rop ∧ (mbxAppend s).eth
    = s.eth ∧ (mbxAppend s).badger = s.badger ∧ (mbxAppend s).events = s.events ∧ (mbxAppend s).hamper = s.hamper ∧
    (mbxAppend s).pool = s.pool ∧ (mbxAppend s).link = s.link ∧ (mbxAppend s).bus = s.bus ∧ (mbxAppend s).aux = s.aux
    ∧ (mbxAppend s).refMon = s.refMon ∧ (mbxAppend s).trig = s.trig ∧ (mbxAppend s).ronko = s.ronko ∧ (mbxAppend
    s).fsp = s.fsp ∧ (mbxAppend s).xip = s.xip ∧ (mbxAppend s).mgp = s.mgp ∧ (mbxAppend s).now = s.now ∧ (mbxAppend
    s).answer = s.answer ∧ (mbxAppend s).emit = s.emit ∧ (mbxAppend s).free = s.free ∧ (mbxAppend s).pending =
    s.pending := by simp [mbxAppend]

@[simp] theorem sessResult_frame (s : State) (code : Byte) (id : W16) : (sessResult s code id).otp = s.otp ∧
    (sessResult s code id).ident = s.ident ∧ (sessResult s code id).power = s.power ∧ (sessResult s code id).dev =
    s.dev ∧ (sessResult s code id).clk = s.clk ∧ (sessResult s code id).eng = s.eng ∧ (sessResult s code id).ch = s.ch
    ∧ (sessResult s code id).lockoutRec = s.lockoutRec ∧ (sessResult s code id).rop = s.rop ∧ (sessResult s code
    id).eth = s.eth ∧ (sessResult s code id).badger = s.badger ∧ (sessResult s code id).events = s.events ∧
    (sessResult s code id).hamper = s.hamper ∧ (sessResult s code id).pool = s.pool ∧ (sessResult s code id).link =
    s.link ∧ (sessResult s code id).bus = s.bus ∧ (sessResult s code id).aux = s.aux ∧ (sessResult s code id).refMon =
    s.refMon ∧ (sessResult s code id).trig = s.trig ∧ (sessResult s code id).ronko = s.ronko ∧ (sessResult s code
    id).fsp = s.fsp ∧ (sessResult s code id).xip = s.xip ∧ (sessResult s code id).mgp = s.mgp ∧ (sessResult s code
    id).now = s.now ∧ (sessResult s code id).answer = s.answer ∧ (sessResult s code id).emit = s.emit ∧ (sessResult s
    code id).free = s.free ∧ (sessResult s code id).pending = s.pending :=
    ⟨rfl, rfl, rfl, rfl, rfl, rfl, rfl, rfl, rfl, rfl, rfl, rfl, rfl, rfl, rfl, rfl, rfl, rfl, rfl, rfl, rfl, rfl, rfl,
    rfl, rfl, rfl, rfl, rfl⟩

@[simp] theorem sessCommand_frame (op : Nat) (sid : W16) (s : State) : (sessCommand op sid s).otp = s.otp ∧
    (sessCommand op sid s).ident = s.ident ∧ (sessCommand op sid s).power = s.power ∧ (sessCommand op sid s).dev =
    s.dev ∧ (sessCommand op sid s).clk = s.clk ∧ (sessCommand op sid s).eng = s.eng ∧ (sessCommand op sid
    s).lockoutRec = s.lockoutRec ∧ (sessCommand op sid s).eth = s.eth ∧ (sessCommand op sid s).badger = s.badger ∧
    (sessCommand op sid s).pool = s.pool ∧ (sessCommand op sid s).link = s.link ∧ (sessCommand op sid s).bus = s.bus ∧
    (sessCommand op sid s).aux = s.aux ∧ (sessCommand op sid s).refMon = s.refMon ∧ (sessCommand op sid s).trig =
    s.trig ∧ (sessCommand op sid s).ronko = s.ronko ∧ (sessCommand op sid s).fsp = s.fsp ∧ (sessCommand op sid s).xip
    = s.xip ∧ (sessCommand op sid s).mgp = s.mgp ∧ (sessCommand op sid s).now = s.now ∧ (sessCommand op sid s).answer
    = s.answer ∧ (sessCommand op sid s).emit = s.emit ∧ (sessCommand op sid s).free = s.free ∧ (sessCommand op sid
    s).pending = s.pending := by unfold sessCommand; split <;> simp

/-! ### Rop -/

@[simp] theorem tunnelSend_frame (s : State) (kind : Nat) (dest tag : W16) (peer : Peer) (entry : W16) (bytes : List
    Byte) : (tunnelSend s kind dest tag peer entry bytes).otp = s.otp ∧ (tunnelSend s kind dest tag peer entry
    bytes).ident = s.ident ∧ (tunnelSend s kind dest tag peer entry bytes).power = s.power ∧ (tunnelSend s kind dest
    tag peer entry bytes).dev = s.dev ∧ (tunnelSend s kind dest tag peer entry bytes).clk = s.clk ∧ (tunnelSend s kind
    dest tag peer entry bytes).eng = s.eng ∧ (tunnelSend s kind dest tag peer entry bytes).ch = s.ch ∧ (tunnelSend s
    kind dest tag peer entry bytes).trust = s.trust ∧ (tunnelSend s kind dest tag peer entry bytes).lockoutRec =
    s.lockoutRec ∧ (tunnelSend s kind dest tag peer entry bytes).eth = s.eth ∧ (tunnelSend s kind dest tag peer entry
    bytes).badger = s.badger ∧ (tunnelSend s kind dest tag peer entry bytes).events = s.events ∧ (tunnelSend s kind
    dest tag peer entry bytes).hamper = s.hamper ∧ (tunnelSend s kind dest tag peer entry bytes).pool = s.pool ∧
    (tunnelSend s kind dest tag peer entry bytes).link = s.link ∧ (tunnelSend s kind dest tag peer entry bytes).bus =
    s.bus ∧ (tunnelSend s kind dest tag peer entry bytes).aux = s.aux ∧ (tunnelSend s kind dest tag peer entry
    bytes).refMon = s.refMon ∧ (tunnelSend s kind dest tag peer entry bytes).trig = s.trig ∧ (tunnelSend s kind dest
    tag peer entry bytes).fsp = s.fsp ∧ (tunnelSend s kind dest tag peer entry bytes).xip = s.xip ∧ (tunnelSend s kind
    dest tag peer entry bytes).mgp = s.mgp ∧ (tunnelSend s kind dest tag peer entry bytes).now = s.now ∧ (tunnelSend s
    kind dest tag peer entry bytes).answer = s.answer ∧ (tunnelSend s kind dest tag peer entry bytes).free = s.free ∧
    (tunnelSend s kind dest tag peer entry bytes).pending = s.pending := by simp [tunnelSend]

@[simp] theorem respond_frame (s : State) (o : Origin) (bytes : List Byte) : (respond s o bytes).otp = s.otp ∧
    (respond s o bytes).ident = s.ident ∧ (respond s o bytes).power = s.power ∧ (respond s o bytes).dev = s.dev ∧
    (respond s o bytes).clk = s.clk ∧ (respond s o bytes).eng = s.eng ∧ (respond s o bytes).ch = s.ch ∧ (respond s o
    bytes).trust = s.trust ∧ (respond s o bytes).lockoutRec = s.lockoutRec ∧ (respond s o bytes).eth = s.eth ∧
    (respond s o bytes).badger = s.badger ∧ (respond s o bytes).events = s.events ∧ (respond s o bytes).hamper =
    s.hamper ∧ (respond s o bytes).pool = s.pool ∧ (respond s o bytes).link = s.link ∧ (respond s o bytes).bus = s.bus
    ∧ (respond s o bytes).aux = s.aux ∧ (respond s o bytes).refMon = s.refMon ∧ (respond s o bytes).trig = s.trig ∧
    (respond s o bytes).fsp = s.fsp ∧ (respond s o bytes).xip = s.xip ∧ (respond s o bytes).mgp = s.mgp ∧ (respond s o
    bytes).now = s.now ∧ (respond s o bytes).answer = s.answer ∧ (respond s o bytes).free = s.free ∧ (respond s o
    bytes).pending = s.pending := by unfold respond; split <;> simp

@[simp] theorem refuseWhole_frame (s : State) (o : Origin) (q : Request) (code : Byte) (retry : Nat) : (refuseWhole s
    o q code retry).otp = s.otp ∧ (refuseWhole s o q code retry).ident = s.ident ∧ (refuseWhole s o q code
    retry).power = s.power ∧ (refuseWhole s o q code retry).dev = s.dev ∧ (refuseWhole s o q code retry).clk = s.clk ∧
    (refuseWhole s o q code retry).eng = s.eng ∧ (refuseWhole s o q code retry).ch = s.ch ∧ (refuseWhole s o q code
    retry).trust = s.trust ∧ (refuseWhole s o q code retry).lockoutRec = s.lockoutRec ∧ (refuseWhole s o q code
    retry).eth = s.eth ∧ (refuseWhole s o q code retry).badger = s.badger ∧ (refuseWhole s o q code retry).events =
    s.events ∧ (refuseWhole s o q code retry).hamper = s.hamper ∧ (refuseWhole s o q code retry).pool = s.pool ∧
    (refuseWhole s o q code retry).link = s.link ∧ (refuseWhole s o q code retry).bus = s.bus ∧ (refuseWhole s o q
    code retry).aux = s.aux ∧ (refuseWhole s o q code retry).refMon = s.refMon ∧ (refuseWhole s o q code retry).trig =
    s.trig ∧ (refuseWhole s o q code retry).fsp = s.fsp ∧ (refuseWhole s o q code retry).xip = s.xip ∧ (refuseWhole s
    o q code retry).mgp = s.mgp ∧ (refuseWhole s o q code retry).now = s.now ∧ (refuseWhole s o q code retry).answer =
    s.answer ∧ (refuseWhole s o q code retry).free = s.free ∧ (refuseWhole s o q code retry).pending = s.pending := by simp [refuseWhole]

@[simp] theorem storeResponse_frame (s : State) (sid seq : W16) (status : Byte) (bytes : List Byte) : (storeResponse s
    sid seq status bytes).otp = s.otp ∧ (storeResponse s sid seq status bytes).ident = s.ident ∧ (storeResponse s sid
    seq status bytes).power = s.power ∧ (storeResponse s sid seq status bytes).dev = s.dev ∧ (storeResponse s sid seq
    status bytes).clk = s.clk ∧ (storeResponse s sid seq status bytes).eng = s.eng ∧ (storeResponse s sid seq status
    bytes).ch = s.ch ∧ (storeResponse s sid seq status bytes).trust = s.trust ∧ (storeResponse s sid seq status
    bytes).lockoutRec = s.lockoutRec ∧ (storeResponse s sid seq status bytes).eth = s.eth ∧ (storeResponse s sid seq
    status bytes).badger = s.badger ∧ (storeResponse s sid seq status bytes).events = s.events ∧ (storeResponse s sid
    seq status bytes).hamper = s.hamper ∧ (storeResponse s sid seq status bytes).pool = s.pool ∧ (storeResponse s sid
    seq status bytes).link = s.link ∧ (storeResponse s sid seq status bytes).bus = s.bus ∧ (storeResponse s sid seq
    status bytes).aux = s.aux ∧ (storeResponse s sid seq status bytes).refMon = s.refMon ∧ (storeResponse s sid seq
    status bytes).trig = s.trig ∧ (storeResponse s sid seq status bytes).ronko = s.ronko ∧ (storeResponse s sid seq
    status bytes).fsp = s.fsp ∧ (storeResponse s sid seq status bytes).xip = s.xip ∧ (storeResponse s sid seq status
    bytes).mgp = s.mgp ∧ (storeResponse s sid seq status bytes).now = s.now ∧ (storeResponse s sid seq status
    bytes).answer = s.answer ∧ (storeResponse s sid seq status bytes).emit = s.emit ∧ (storeResponse s sid seq status
    bytes).free = s.free ∧ (storeResponse s sid seq status bytes).pending = s.pending := by unfold storeResponse; (repeat' split) <;> simp

@[simp] theorem takeCommand_frame (s : State) (slots : Nat) : (takeCommand s slots).1.otp = s.otp ∧ (takeCommand s
    slots).1.ident = s.ident ∧ (takeCommand s slots).1.power = s.power ∧ (takeCommand s slots).1.dev = s.dev ∧
    (takeCommand s slots).1.clk = s.clk ∧ (takeCommand s slots).1.eng = s.eng ∧ (takeCommand s slots).1.ch = s.ch ∧
    (takeCommand s slots).1.trust = s.trust ∧ (takeCommand s slots).1.lockoutRec = s.lockoutRec ∧ (takeCommand s
    slots).1.rop = s.rop ∧ (takeCommand s slots).1.eth = s.eth ∧ (takeCommand s slots).1.events = s.events ∧
    (takeCommand s slots).1.pool = s.pool ∧ (takeCommand s slots).1.link = s.link ∧ (takeCommand s slots).1.bus =
    s.bus ∧ (takeCommand s slots).1.aux = s.aux ∧ (takeCommand s slots).1.refMon = s.refMon ∧ (takeCommand s
    slots).1.trig = s.trig ∧ (takeCommand s slots).1.ronko = s.ronko ∧ (takeCommand s slots).1.fsp = s.fsp ∧
    (takeCommand s slots).1.xip = s.xip ∧ (takeCommand s slots).1.mgp = s.mgp ∧ (takeCommand s slots).1.now = s.now ∧
    (takeCommand s slots).1.answer = s.answer ∧ (takeCommand s slots).1.emit = s.emit ∧ (takeCommand s slots).1.free =
    s.free ∧ (takeCommand s slots).1.pending = s.pending := by unfold takeCommand; (repeat' split) <;> simp

@[simp] theorem useToken_frame (s : State) (sid : W16) : (useToken s sid).otp = s.otp ∧ (useToken s sid).ident =
    s.ident ∧ (useToken s sid).power = s.power ∧ (useToken s sid).dev = s.dev ∧ (useToken s sid).clk = s.clk ∧
    (useToken s sid).eng = s.eng ∧ (useToken s sid).ch = s.ch ∧ (useToken s sid).trust = s.trust ∧ (useToken s
    sid).lockoutRec = s.lockoutRec ∧ (useToken s sid).eth = s.eth ∧ (useToken s sid).badger = s.badger ∧ (useToken s
    sid).events = s.events ∧ (useToken s sid).hamper = s.hamper ∧ (useToken s sid).pool = s.pool ∧ (useToken s
    sid).link = s.link ∧ (useToken s sid).bus = s.bus ∧ (useToken s sid).aux = s.aux ∧ (useToken s sid).refMon =
    s.refMon ∧ (useToken s sid).trig = s.trig ∧ (useToken s sid).ronko = s.ronko ∧ (useToken s sid).fsp = s.fsp ∧
    (useToken s sid).xip = s.xip ∧ (useToken s sid).mgp = s.mgp ∧ (useToken s sid).now = s.now ∧ (useToken s
    sid).answer = s.answer ∧ (useToken s sid).emit = s.emit ∧ (useToken s sid).free = s.free ∧ (useToken s
    sid).pending = s.pending := by unfold useToken; split <;> simp

@[simp] theorem enqueue_frame (s : State) (q : Request) (bytes : List Byte) (o : Origin) : (enqueue s q bytes o).otp =
    s.otp ∧ (enqueue s q bytes o).ident = s.ident ∧ (enqueue s q bytes o).power = s.power ∧ (enqueue s q bytes o).dev
    = s.dev ∧ (enqueue s q bytes o).clk = s.clk ∧ (enqueue s q bytes o).eng = s.eng ∧ (enqueue s q bytes o).trust =
    s.trust ∧ (enqueue s q bytes o).lockoutRec = s.lockoutRec ∧ (enqueue s q bytes o).aux = s.aux ∧ (enqueue s q bytes
    o).refMon = s.refMon ∧ (enqueue s q bytes o).trig = s.trig ∧ (enqueue s q bytes o).ronko = s.ronko ∧ (enqueue s q
    bytes o).xip = s.xip ∧ (enqueue s q bytes o).now = s.now ∧ (enqueue s q bytes o).answer = s.answer ∧ (enqueue s q
    bytes o).emit = s.emit ∧ (enqueue s q bytes o).pending = s.pending := by
  unfold enqueue; simp only []; split
  · rename_i r _
    have h := appTurn_frame s r (datagramRecs bytes)
    generalize appTurn s r (datagramRecs bytes) = y at h ⊢
    obtain ⟨t, o⟩ := y
    cases o <;> (simp only at h; simp [h])
  · simp

@[simp] theorem dropCommand_frame (s : State) (y : Queued) : (dropCommand s y).otp = s.otp ∧ (dropCommand s y).ident =
    s.ident ∧ (dropCommand s y).power = s.power ∧ (dropCommand s y).dev = s.dev ∧ (dropCommand s y).clk = s.clk ∧
    (dropCommand s y).eng = s.eng ∧ (dropCommand s y).ch = s.ch ∧ (dropCommand s y).trust = s.trust ∧ (dropCommand s
    y).lockoutRec = s.lockoutRec ∧ (dropCommand s y).eth = s.eth ∧ (dropCommand s y).badger = s.badger ∧ (dropCommand
    s y).events = s.events ∧ (dropCommand s y).pool = s.pool ∧ (dropCommand s y).link = s.link ∧ (dropCommand s y).bus
    = s.bus ∧ (dropCommand s y).aux = s.aux ∧ (dropCommand s y).refMon = s.refMon ∧ (dropCommand s y).trig = s.trig ∧
    (dropCommand s y).ronko = s.ronko ∧ (dropCommand s y).fsp = s.fsp ∧ (dropCommand s y).xip = s.xip ∧ (dropCommand s
    y).mgp = s.mgp ∧ (dropCommand s y).now = s.now ∧ (dropCommand s y).answer = s.answer ∧ (dropCommand s y).emit =
    s.emit ∧ (dropCommand s y).free = s.free ∧ (dropCommand s y).pending = s.pending := by unfold dropCommand; split <;> simp

@[simp] theorem admitRop_frame (s : State) (q : Request) (bytes : List Byte) (o : Origin) (x : Option Session) :
    (admitRop s q bytes o x).otp = s.otp ∧ (admitRop s q bytes o x).ident = s.ident ∧ (admitRop s q bytes o x).power =
    s.power ∧ (admitRop s q bytes o x).dev = s.dev ∧ (admitRop s q bytes o x).clk = s.clk ∧ (admitRop s q bytes o
    x).eng = s.eng ∧ (admitRop s q bytes o x).trust = s.trust ∧ (admitRop s q bytes o x).lockoutRec = s.lockoutRec ∧
    (admitRop s q bytes o x).aux = s.aux ∧ (admitRop s q bytes o x).refMon = s.refMon ∧ (admitRop s q bytes o x).trig
    = s.trig ∧ (admitRop s q bytes o x).xip = s.xip ∧ (admitRop s q bytes o x).now = s.now ∧ (admitRop s q bytes o
    x).answer = s.answer ∧ (admitRop s q bytes o x).pending = s.pending := by unfold admitRop; split <;> simp

@[simp] theorem accept_frame (s : State) (q : Request) (bytes : List Byte) (o : Origin) : (accept s q bytes o).otp =
    s.otp ∧ (accept s q bytes o).ident = s.ident ∧ (accept s q bytes o).power = s.power ∧ (accept s q bytes o).dev =
    s.dev ∧ (accept s q bytes o).clk = s.clk ∧ (accept s q bytes o).eng = s.eng ∧ (accept s q bytes o).trust = s.trust
    ∧ (accept s q bytes o).lockoutRec = s.lockoutRec ∧ (accept s q bytes o).aux = s.aux ∧ (accept s q bytes o).refMon
    = s.refMon ∧ (accept s q bytes o).trig = s.trig ∧ (accept s q bytes o).xip = s.xip ∧ (accept s q bytes o).now =
    s.now ∧ (accept s q bytes o).answer = s.answer ∧ (accept s q bytes o).pending = s.pending := by unfold accept; simp only []; (repeat' split) <;> simp_all

@[simp] theorem forwardRequest_frame (s : State) (q : Request) (bytes : List Byte) (peer : Peer) : (forwardRequest s q
    bytes peer).otp = s.otp ∧ (forwardRequest s q bytes peer).ident = s.ident ∧ (forwardRequest s q bytes peer).power
    = s.power ∧ (forwardRequest s q bytes peer).dev = s.dev ∧ (forwardRequest s q bytes peer).clk = s.clk ∧
    (forwardRequest s q bytes peer).eng = s.eng ∧ (forwardRequest s q bytes peer).ch = s.ch ∧ (forwardRequest s q
    bytes peer).trust = s.trust ∧ (forwardRequest s q bytes peer).lockoutRec = s.lockoutRec ∧ (forwardRequest s q
    bytes peer).eth = s.eth ∧ (forwardRequest s q bytes peer).badger = s.badger ∧ (forwardRequest s q bytes
    peer).events = s.events ∧ (forwardRequest s q bytes peer).hamper = s.hamper ∧ (forwardRequest s q bytes peer).pool
    = s.pool ∧ (forwardRequest s q bytes peer).link = s.link ∧ (forwardRequest s q bytes peer).bus = s.bus ∧
    (forwardRequest s q bytes peer).aux = s.aux ∧ (forwardRequest s q bytes peer).refMon = s.refMon ∧ (forwardRequest
    s q bytes peer).trig = s.trig ∧ (forwardRequest s q bytes peer).fsp = s.fsp ∧ (forwardRequest s q bytes peer).xip
    = s.xip ∧ (forwardRequest s q bytes peer).mgp = s.mgp ∧ (forwardRequest s q bytes peer).now = s.now ∧
    (forwardRequest s q bytes peer).answer = s.answer ∧ (forwardRequest s q bytes peer).free = s.free ∧
    (forwardRequest s q bytes peer).pending = s.pending := by simp [forwardRequest]

@[simp] theorem takeDatagram_frame (s : State) (peer : Peer) (broadcast : Bool) (bytes : List Byte) : (takeDatagram s
    peer broadcast bytes).otp = s.otp ∧ (takeDatagram s peer broadcast bytes).ident = s.ident ∧ (takeDatagram s peer
    broadcast bytes).power = s.power ∧ (takeDatagram s peer broadcast bytes).dev = s.dev ∧ (takeDatagram s peer
    broadcast bytes).clk = s.clk ∧ (takeDatagram s peer broadcast bytes).eng = s.eng ∧ (takeDatagram s peer broadcast
    bytes).trust = s.trust ∧ (takeDatagram s peer broadcast bytes).lockoutRec = s.lockoutRec ∧ (takeDatagram s peer
    broadcast bytes).aux = s.aux ∧ (takeDatagram s peer broadcast bytes).refMon = s.refMon ∧ (takeDatagram s peer
    broadcast bytes).trig = s.trig ∧ (takeDatagram s peer broadcast bytes).xip = s.xip ∧ (takeDatagram s peer
    broadcast bytes).now = s.now ∧ (takeDatagram s peer broadcast bytes).answer = s.answer ∧ (takeDatagram s peer
    broadcast bytes).pending = s.pending := by unfold takeDatagram; split <;> simp

@[simp] theorem sendEventTo_frame (r : EventRec) (s : State) (i : Fin 8) : (sendEventTo r s i).otp = s.otp ∧
    (sendEventTo r s i).ident = s.ident ∧ (sendEventTo r s i).power = s.power ∧ (sendEventTo r s i).dev = s.dev ∧
    (sendEventTo r s i).clk = s.clk ∧ (sendEventTo r s i).eng = s.eng ∧ (sendEventTo r s i).ch = s.ch ∧ (sendEventTo r
    s i).trust = s.trust ∧ (sendEventTo r s i).lockoutRec = s.lockoutRec ∧ (sendEventTo r s i).eth = s.eth ∧
    (sendEventTo r s i).badger = s.badger ∧ (sendEventTo r s i).events = s.events ∧ (sendEventTo r s i).hamper =
    s.hamper ∧ (sendEventTo r s i).pool = s.pool ∧ (sendEventTo r s i).link = s.link ∧ (sendEventTo r s i).bus = s.bus
    ∧ (sendEventTo r s i).aux = s.aux ∧ (sendEventTo r s i).refMon = s.refMon ∧ (sendEventTo r s i).trig = s.trig ∧
    (sendEventTo r s i).fsp = s.fsp ∧ (sendEventTo r s i).xip = s.xip ∧ (sendEventTo r s i).mgp = s.mgp ∧ (sendEventTo
    r s i).now = s.now ∧ (sendEventTo r s i).answer = s.answer ∧ (sendEventTo r s i).free = s.free ∧ (sendEventTo r s
    i).pending = s.pending := by simp [sendEventTo]

/-! ### Tunnel -/

@[simp] theorem dropSlot_frame (s : State) (i : Fin 8) : (dropSlot s i).otp = s.otp ∧ (dropSlot s i).ident = s.ident ∧
    (dropSlot s i).power = s.power ∧ (dropSlot s i).dev = s.dev ∧ (dropSlot s i).clk = s.clk ∧ (dropSlot s i).eng =
    s.eng ∧ (dropSlot s i).ch = s.ch ∧ (dropSlot s i).trust = s.trust ∧ (dropSlot s i).lockoutRec = s.lockoutRec ∧
    (dropSlot s i).rop = s.rop ∧ (dropSlot s i).eth = s.eth ∧ (dropSlot s i).badger = s.badger ∧ (dropSlot s i).events
    = s.events ∧ (dropSlot s i).hamper = s.hamper ∧ (dropSlot s i).pool = s.pool ∧ (dropSlot s i).link = s.link ∧
    (dropSlot s i).bus = s.bus ∧ (dropSlot s i).aux = s.aux ∧ (dropSlot s i).refMon = s.refMon ∧ (dropSlot s i).trig =
    s.trig ∧ (dropSlot s i).fsp = s.fsp ∧ (dropSlot s i).xip = s.xip ∧ (dropSlot s i).mgp = s.mgp ∧ (dropSlot s i).now
    = s.now ∧ (dropSlot s i).answer = s.answer ∧ (dropSlot s i).emit = s.emit ∧ (dropSlot s i).free = s.free ∧
    (dropSlot s i).pending = s.pending :=
    ⟨rfl, rfl, rfl, rfl, rfl, rfl, rfl, rfl, rfl, rfl, rfl, rfl, rfl, rfl, rfl, rfl, rfl, rfl, rfl, rfl, rfl, rfl, rfl,
    rfl, rfl, rfl, rfl, rfl⟩

@[simp] theorem beginSlot_frame (s : State) (kind : Nat) (g : Segment) : (beginSlot s kind g).1.otp = s.otp ∧
    (beginSlot s kind g).1.ident = s.ident ∧ (beginSlot s kind g).1.power = s.power ∧ (beginSlot s kind g).1.dev =
    s.dev ∧ (beginSlot s kind g).1.clk = s.clk ∧ (beginSlot s kind g).1.eng = s.eng ∧ (beginSlot s kind g).1.ch = s.ch
    ∧ (beginSlot s kind g).1.trust = s.trust ∧ (beginSlot s kind g).1.lockoutRec = s.lockoutRec ∧ (beginSlot s kind
    g).1.eth = s.eth ∧ (beginSlot s kind g).1.badger = s.badger ∧ (beginSlot s kind g).1.events = s.events ∧
    (beginSlot s kind g).1.hamper = s.hamper ∧ (beginSlot s kind g).1.pool = s.pool ∧ (beginSlot s kind g).1.link =
    s.link ∧ (beginSlot s kind g).1.bus = s.bus ∧ (beginSlot s kind g).1.aux = s.aux ∧ (beginSlot s kind g).1.refMon =
    s.refMon ∧ (beginSlot s kind g).1.trig = s.trig ∧ (beginSlot s kind g).1.fsp = s.fsp ∧ (beginSlot s kind g).1.xip
    = s.xip ∧ (beginSlot s kind g).1.mgp = s.mgp ∧ (beginSlot s kind g).1.now = s.now ∧ (beginSlot s kind g).1.answer
    = s.answer ∧ (beginSlot s kind g).1.free = s.free ∧ (beginSlot s kind g).1.pending = s.pending := by unfold beginSlot; split <;> simp

@[simp] theorem noEndpoint_frame (s : State) (kind : Nat) (g : Segment) : (noEndpoint s kind g).otp = s.otp ∧
    (noEndpoint s kind g).ident = s.ident ∧ (noEndpoint s kind g).power = s.power ∧ (noEndpoint s kind g).dev = s.dev
    ∧ (noEndpoint s kind g).clk = s.clk ∧ (noEndpoint s kind g).eng = s.eng ∧ (noEndpoint s kind g).ch = s.ch ∧
    (noEndpoint s kind g).trust = s.trust ∧ (noEndpoint s kind g).lockoutRec = s.lockoutRec ∧ (noEndpoint s kind
    g).eth = s.eth ∧ (noEndpoint s kind g).badger = s.badger ∧ (noEndpoint s kind g).events = s.events ∧ (noEndpoint s
    kind g).hamper = s.hamper ∧ (noEndpoint s kind g).pool = s.pool ∧ (noEndpoint s kind g).link = s.link ∧
    (noEndpoint s kind g).bus = s.bus ∧ (noEndpoint s kind g).aux = s.aux ∧ (noEndpoint s kind g).refMon = s.refMon ∧
    (noEndpoint s kind g).trig = s.trig ∧ (noEndpoint s kind g).fsp = s.fsp ∧ (noEndpoint s kind g).xip = s.xip ∧
    (noEndpoint s kind g).mgp = s.mgp ∧ (noEndpoint s kind g).now = s.now ∧ (noEndpoint s kind g).answer = s.answer ∧
    (noEndpoint s kind g).free = s.free ∧ (noEndpoint s kind g).pending = s.pending := by unfold noEndpoint; simp only []; (repeat' split) <;> simp_all

@[simp] theorem fillSlot_frame (s : State) (i : Fin 8) (g : Segment) : (fillSlot s i g).otp = s.otp ∧ (fillSlot s i
    g).ident = s.ident ∧ (fillSlot s i g).power = s.power ∧ (fillSlot s i g).dev = s.dev ∧ (fillSlot s i g).clk =
    s.clk ∧ (fillSlot s i g).eng = s.eng ∧ (fillSlot s i g).ch = s.ch ∧ (fillSlot s i g).trust = s.trust ∧ (fillSlot s
    i g).lockoutRec = s.lockoutRec ∧ (fillSlot s i g).rop = s.rop ∧ (fillSlot s i g).eth = s.eth ∧ (fillSlot s i
    g).badger = s.badger ∧ (fillSlot s i g).events = s.events ∧ (fillSlot s i g).hamper = s.hamper ∧ (fillSlot s i
    g).pool = s.pool ∧ (fillSlot s i g).link = s.link ∧ (fillSlot s i g).bus = s.bus ∧ (fillSlot s i g).aux = s.aux ∧
    (fillSlot s i g).refMon = s.refMon ∧ (fillSlot s i g).trig = s.trig ∧ (fillSlot s i g).fsp = s.fsp ∧ (fillSlot s i
    g).xip = s.xip ∧ (fillSlot s i g).mgp = s.mgp ∧ (fillSlot s i g).now = s.now ∧ (fillSlot s i g).answer = s.answer
    ∧ (fillSlot s i g).emit = s.emit ∧ (fillSlot s i g).free = s.free ∧ (fillSlot s i g).pending = s.pending := by simp [fillSlot]

@[simp] theorem takeResponse_frame (s : State) (x : RxSlot) : (takeResponse s x).otp = s.otp ∧ (takeResponse s
    x).ident = s.ident ∧ (takeResponse s x).power = s.power ∧ (takeResponse s x).dev = s.dev ∧ (takeResponse s x).clk
    = s.clk ∧ (takeResponse s x).eng = s.eng ∧ (takeResponse s x).ch = s.ch ∧ (takeResponse s x).trust = s.trust ∧
    (takeResponse s x).lockoutRec = s.lockoutRec ∧ (takeResponse s x).eth = s.eth ∧ (takeResponse s x).badger =
    s.badger ∧ (takeResponse s x).events = s.events ∧ (takeResponse s x).hamper = s.hamper ∧ (takeResponse s x).pool =
    s.pool ∧ (takeResponse s x).link = s.link ∧ (takeResponse s x).bus = s.bus ∧ (takeResponse s x).aux = s.aux ∧
    (takeResponse s x).refMon = s.refMon ∧ (takeResponse s x).trig = s.trig ∧ (takeResponse s x).ronko = s.ronko ∧
    (takeResponse s x).fsp = s.fsp ∧ (takeResponse s x).xip = s.xip ∧ (takeResponse s x).mgp = s.mgp ∧ (takeResponse s
    x).now = s.now ∧ (takeResponse s x).answer = s.answer ∧ (takeResponse s x).free = s.free ∧ (takeResponse s
    x).pending = s.pending := by unfold takeResponse; split <;> simp

/-! ### Mgp -/

@[simp] theorem streamItem_frame (s : State) : (streamItem s).otp = s.otp ∧ (streamItem s).ident = s.ident ∧
    (streamItem s).power = s.power ∧ (streamItem s).dev = s.dev ∧ (streamItem s).clk = s.clk ∧ (streamItem s).eng =
    s.eng ∧ (streamItem s).ch = s.ch ∧ (streamItem s).trust = s.trust ∧ (streamItem s).lockoutRec = s.lockoutRec ∧
    (streamItem s).rop = s.rop ∧ (streamItem s).eth = s.eth ∧ (streamItem s).badger = s.badger ∧ (streamItem s).events
    = s.events ∧ (streamItem s).hamper = s.hamper ∧ (streamItem s).pool = s.pool ∧ (streamItem s).link = s.link ∧
    (streamItem s).bus = s.bus ∧ (streamItem s).aux = s.aux ∧ (streamItem s).refMon = s.refMon ∧ (streamItem s).trig =
    s.trig ∧ (streamItem s).ronko = s.ronko ∧ (streamItem s).fsp = s.fsp ∧ (streamItem s).xip = s.xip ∧ (streamItem
    s).now = s.now ∧ (streamItem s).answer = s.answer ∧ (streamItem s).free = s.free ∧ (streamItem s).pending =
    s.pending := by unfold streamItem; split <;> simp

@[simp] theorem streamItems_frame (n : Nat) (s : State) : (streamItems n s).otp = s.otp ∧ (streamItems n s).ident =
    s.ident ∧ (streamItems n s).power = s.power ∧ (streamItems n s).dev = s.dev ∧ (streamItems n s).clk = s.clk ∧
    (streamItems n s).eng = s.eng ∧ (streamItems n s).ch = s.ch ∧ (streamItems n s).trust = s.trust ∧ (streamItems n
    s).lockoutRec = s.lockoutRec ∧ (streamItems n s).rop = s.rop ∧ (streamItems n s).eth = s.eth ∧ (streamItems n
    s).badger = s.badger ∧ (streamItems n s).events = s.events ∧ (streamItems n s).hamper = s.hamper ∧ (streamItems n
    s).pool = s.pool ∧ (streamItems n s).link = s.link ∧ (streamItems n s).bus = s.bus ∧ (streamItems n s).aux = s.aux
    ∧ (streamItems n s).refMon = s.refMon ∧ (streamItems n s).trig = s.trig ∧ (streamItems n s).ronko = s.ronko ∧
    (streamItems n s).fsp = s.fsp ∧ (streamItems n s).xip = s.xip ∧ (streamItems n s).now = s.now ∧ (streamItems n
    s).answer = s.answer ∧ (streamItems n s).free = s.free ∧ (streamItems n s).pending = s.pending := by
  induction n generalizing s with
  | zero => simp [streamItems]
  | succ n ih => rw [streamItems]; simp [ih]

@[simp] theorem cutItem_frame (s : State) (k : Nat) : (cutItem s k).otp = s.otp ∧ (cutItem s k).ident = s.ident ∧
    (cutItem s k).power = s.power ∧ (cutItem s k).dev = s.dev ∧ (cutItem s k).clk = s.clk ∧ (cutItem s k).eng = s.eng
    ∧ (cutItem s k).ch = s.ch ∧ (cutItem s k).trust = s.trust ∧ (cutItem s k).lockoutRec = s.lockoutRec ∧ (cutItem s
    k).rop = s.rop ∧ (cutItem s k).eth = s.eth ∧ (cutItem s k).badger = s.badger ∧ (cutItem s k).events = s.events ∧
    (cutItem s k).hamper = s.hamper ∧ (cutItem s k).pool = s.pool ∧ (cutItem s k).link = s.link ∧ (cutItem s k).bus =
    s.bus ∧ (cutItem s k).aux = s.aux ∧ (cutItem s k).refMon = s.refMon ∧ (cutItem s k).trig = s.trig ∧ (cutItem s
    k).ronko = s.ronko ∧ (cutItem s k).fsp = s.fsp ∧ (cutItem s k).xip = s.xip ∧ (cutItem s k).now = s.now ∧ (cutItem
    s k).answer = s.answer ∧ (cutItem s k).free = s.free ∧ (cutItem s k).pending = s.pending := by unfold cutItem; (repeat' split) <;> simp

@[simp] theorem streamFrame_frame (s : State) (k : Nat) : (streamFrame s k).otp = s.otp ∧ (streamFrame s k).ident =
    s.ident ∧ (streamFrame s k).power = s.power ∧ (streamFrame s k).dev = s.dev ∧ (streamFrame s k).clk = s.clk ∧
    (streamFrame s k).eng = s.eng ∧ (streamFrame s k).ch = s.ch ∧ (streamFrame s k).trust = s.trust ∧ (streamFrame s
    k).lockoutRec = s.lockoutRec ∧ (streamFrame s k).rop = s.rop ∧ (streamFrame s k).eth = s.eth ∧ (streamFrame s
    k).badger = s.badger ∧ (streamFrame s k).events = s.events ∧ (streamFrame s k).hamper = s.hamper ∧ (streamFrame s
    k).pool = s.pool ∧ (streamFrame s k).link = s.link ∧ (streamFrame s k).bus = s.bus ∧ (streamFrame s k).aux = s.aux
    ∧ (streamFrame s k).refMon = s.refMon ∧ (streamFrame s k).trig = s.trig ∧ (streamFrame s k).ronko = s.ronko ∧
    (streamFrame s k).fsp = s.fsp ∧ (streamFrame s k).xip = s.xip ∧ (streamFrame s k).now = s.now ∧ (streamFrame s
    k).answer = s.answer ∧ (streamFrame s k).free = s.free ∧ (streamFrame s k).pending = s.pending := by simp [streamFrame]

@[simp] theorem streamRest_frame (s : State) (k : Nat) : (streamRest s k).otp = s.otp ∧ (streamRest s k).ident =
    s.ident ∧ (streamRest s k).power = s.power ∧ (streamRest s k).dev = s.dev ∧ (streamRest s k).clk = s.clk ∧
    (streamRest s k).eng = s.eng ∧ (streamRest s k).ch = s.ch ∧ (streamRest s k).trust = s.trust ∧ (streamRest s
    k).lockoutRec = s.lockoutRec ∧ (streamRest s k).rop = s.rop ∧ (streamRest s k).eth = s.eth ∧ (streamRest s
    k).badger = s.badger ∧ (streamRest s k).events = s.events ∧ (streamRest s k).hamper = s.hamper ∧ (streamRest s
    k).pool = s.pool ∧ (streamRest s k).link = s.link ∧ (streamRest s k).bus = s.bus ∧ (streamRest s k).aux = s.aux ∧
    (streamRest s k).refMon = s.refMon ∧ (streamRest s k).trig = s.trig ∧ (streamRest s k).ronko = s.ronko ∧
    (streamRest s k).fsp = s.fsp ∧ (streamRest s k).xip = s.xip ∧ (streamRest s k).now = s.now ∧ (streamRest s
    k).answer = s.answer ∧ (streamRest s k).free = s.free ∧ (streamRest s k).pending = s.pending := by simp [streamRest]

@[simp] theorem frameStart_frame (s : State) : (frameStart s).otp = s.otp ∧ (frameStart s).ident = s.ident ∧
    (frameStart s).power = s.power ∧ (frameStart s).dev = s.dev ∧ (frameStart s).clk = s.clk ∧ (frameStart s).eng =
    s.eng ∧ (frameStart s).ch = s.ch ∧ (frameStart s).trust = s.trust ∧ (frameStart s).lockoutRec = s.lockoutRec ∧
    (frameStart s).rop = s.rop ∧ (frameStart s).eth = s.eth ∧ (frameStart s).badger = s.badger ∧ (frameStart s).events
    = s.events ∧ (frameStart s).hamper = s.hamper ∧ (frameStart s).pool = s.pool ∧ (frameStart s).link = s.link ∧
    (frameStart s).bus = s.bus ∧ (frameStart s).aux = s.aux ∧ (frameStart s).refMon = s.refMon ∧ (frameStart s).trig =
    s.trig ∧ (frameStart s).ronko = s.ronko ∧ (frameStart s).fsp = s.fsp ∧ (frameStart s).xip = s.xip ∧ (frameStart
    s).now = s.now ∧ (frameStart s).answer = s.answer ∧ (frameStart s).free = s.free ∧ (frameStart s).pending =
    s.pending := by simp [frameStart]

@[simp] theorem badRequest_frame (s : State) : (badRequest s).otp = s.otp ∧ (badRequest s).ident = s.ident ∧
    (badRequest s).power = s.power ∧ (badRequest s).dev = s.dev ∧ (badRequest s).clk = s.clk ∧ (badRequest s).eng =
    s.eng ∧ (badRequest s).lockoutRec = s.lockoutRec ∧ (badRequest s).rop = s.rop ∧ (badRequest s).eth = s.eth ∧
    (badRequest s).pool = s.pool ∧ (badRequest s).link = s.link ∧ (badRequest s).bus = s.bus ∧ (badRequest s).aux =
    s.aux ∧ (badRequest s).refMon = s.refMon ∧ (badRequest s).trig = s.trig ∧ (badRequest s).ronko = s.ronko ∧
    (badRequest s).fsp = s.fsp ∧ (badRequest s).xip = s.xip ∧ (badRequest s).now = s.now ∧ (badRequest s).answer =
    s.answer ∧ (badRequest s).emit = s.emit ∧ (badRequest s).free = s.free ∧ (badRequest s).pending = s.pending := by unfold badRequest; simp only []; split <;> simp_all

@[simp] theorem takeAlive_frame (s : State) (alive : BitVec 4) : (takeAlive s alive).otp = s.otp ∧ (takeAlive s
    alive).ident = s.ident ∧ (takeAlive s alive).power = s.power ∧ (takeAlive s alive).dev = s.dev ∧ (takeAlive s
    alive).clk = s.clk ∧ (takeAlive s alive).eng = s.eng ∧ (takeAlive s alive).ch = s.ch ∧ (takeAlive s alive).trust =
    s.trust ∧ (takeAlive s alive).lockoutRec = s.lockoutRec ∧ (takeAlive s alive).rop = s.rop ∧ (takeAlive s
    alive).eth = s.eth ∧ (takeAlive s alive).badger = s.badger ∧ (takeAlive s alive).events = s.events ∧ (takeAlive s
    alive).hamper = s.hamper ∧ (takeAlive s alive).pool = s.pool ∧ (takeAlive s alive).link = s.link ∧ (takeAlive s
    alive).bus = s.bus ∧ (takeAlive s alive).aux = s.aux ∧ (takeAlive s alive).refMon = s.refMon ∧ (takeAlive s
    alive).trig = s.trig ∧ (takeAlive s alive).ronko = s.ronko ∧ (takeAlive s alive).fsp = s.fsp ∧ (takeAlive s
    alive).xip = s.xip ∧ (takeAlive s alive).now = s.now ∧ (takeAlive s alive).answer = s.answer ∧ (takeAlive s
    alive).emit = s.emit ∧ (takeAlive s alive).free = s.free ∧ (takeAlive s alive).pending = s.pending :=
    ⟨rfl, rfl, rfl, rfl, rfl, rfl, rfl, rfl, rfl, rfl, rfl, rfl, rfl, rfl, rfl, rfl, rfl, rfl, rfl, rfl, rfl, rfl, rfl,
    rfl, rfl, rfl, rfl, rfl⟩

@[simp] theorem takeLong_frame (s : State) (b : List Byte) : (takeLong s b).otp = s.otp ∧ (takeLong s b).ident =
    s.ident ∧ (takeLong s b).power = s.power ∧ (takeLong s b).dev = s.dev ∧ (takeLong s b).clk = s.clk ∧ (takeLong s
    b).eng = s.eng ∧ (takeLong s b).ch = s.ch ∧ (takeLong s b).trust = s.trust ∧ (takeLong s b).lockoutRec =
    s.lockoutRec ∧ (takeLong s b).rop = s.rop ∧ (takeLong s b).eth = s.eth ∧ (takeLong s b).badger = s.badger ∧
    (takeLong s b).events = s.events ∧ (takeLong s b).hamper = s.hamper ∧ (takeLong s b).pool = s.pool ∧ (takeLong s
    b).link = s.link ∧ (takeLong s b).bus = s.bus ∧ (takeLong s b).aux = s.aux ∧ (takeLong s b).refMon = s.refMon ∧
    (takeLong s b).trig = s.trig ∧ (takeLong s b).ronko = s.ronko ∧ (takeLong s b).fsp = s.fsp ∧ (takeLong s b).xip =
    s.xip ∧ (takeLong s b).now = s.now ∧ (takeLong s b).answer = s.answer ∧ (takeLong s b).emit = s.emit ∧ (takeLong s
    b).free = s.free ∧ (takeLong s b).pending = s.pending := by simp [takeLong]

@[simp] theorem frameData_frame (b : List Byte) (s : State) : (frameData b s).otp = s.otp ∧ (frameData b s).ident =
    s.ident ∧ (frameData b s).power = s.power ∧ (frameData b s).dev = s.dev ∧ (frameData b s).clk = s.clk ∧ (frameData
    b s).eng = s.eng ∧ (frameData b s).ch = s.ch ∧ (frameData b s).trust = s.trust ∧ (frameData b s).lockoutRec =
    s.lockoutRec ∧ (frameData b s).rop = s.rop ∧ (frameData b s).eth = s.eth ∧ (frameData b s).badger = s.badger ∧
    (frameData b s).events = s.events ∧ (frameData b s).hamper = s.hamper ∧ (frameData b s).pool = s.pool ∧ (frameData
    b s).link = s.link ∧ (frameData b s).bus = s.bus ∧ (frameData b s).aux = s.aux ∧ (frameData b s).refMon = s.refMon
    ∧ (frameData b s).trig = s.trig ∧ (frameData b s).ronko = s.ronko ∧ (frameData b s).fsp = s.fsp ∧ (frameData b
    s).xip = s.xip ∧ (frameData b s).now = s.now ∧ (frameData b s).answer = s.answer ∧ (frameData b s).free = s.free ∧
    (frameData b s).pending = s.pending := by simp [frameData]

@[simp] theorem frameEnd_frame (b : List Byte) (s : State) : (frameEnd b s).otp = s.otp ∧ (frameEnd b s).ident =
    s.ident ∧ (frameEnd b s).lockoutRec = s.lockoutRec ∧ (frameEnd b s).now = s.now ∧ (frameEnd b s).answer = s.answer
    ∧ (frameEnd b s).free = s.free ∧ (frameEnd b s).pending = s.pending := by unfold frameEnd; split <;> simp

@[simp] theorem stageReply_frame (s : State) (r : Reply) : (stageReply s r).otp = s.otp ∧ (stageReply s r).ident =
    s.ident ∧ (stageReply s r).power = s.power ∧ (stageReply s r).dev = s.dev ∧ (stageReply s r).clk = s.clk ∧
    (stageReply s r).eng = s.eng ∧ (stageReply s r).ch = s.ch ∧ (stageReply s r).lockoutRec = s.lockoutRec ∧
    (stageReply s r).rop = s.rop ∧ (stageReply s r).eth = s.eth ∧ (stageReply s r).badger = s.badger ∧ (stageReply s
    r).events = s.events ∧ (stageReply s r).hamper = s.hamper ∧ (stageReply s r).pool = s.pool ∧ (stageReply s r).link
    = s.link ∧ (stageReply s r).bus = s.bus ∧ (stageReply s r).aux = s.aux ∧ (stageReply s r).refMon = s.refMon ∧
    (stageReply s r).trig = s.trig ∧ (stageReply s r).ronko = s.ronko ∧ (stageReply s r).fsp = s.fsp ∧ (stageReply s
    r).xip = s.xip ∧ (stageReply s r).now = s.now ∧ (stageReply s r).answer = s.answer ∧ (stageReply s r).emit =
    s.emit ∧ (stageReply s r).free = s.free ∧ (stageReply s r).pending = s.pending := by simp [stageReply]

@[simp] theorem flashRead_frame (s : State) (off k : Nat) : (flashRead s off k).otp = s.otp ∧ (flashRead s off
    k).ident = s.ident ∧ (flashRead s off k).power = s.power ∧ (flashRead s off k).dev = s.dev ∧ (flashRead s off
    k).clk = s.clk ∧ (flashRead s off k).eng = s.eng ∧ (flashRead s off k).ch = s.ch ∧ (flashRead s off k).trust =
    s.trust ∧ (flashRead s off k).lockoutRec = s.lockoutRec ∧ (flashRead s off k).rop = s.rop ∧ (flashRead s off
    k).eth = s.eth ∧ (flashRead s off k).badger = s.badger ∧ (flashRead s off k).events = s.events ∧ (flashRead s off
    k).hamper = s.hamper ∧ (flashRead s off k).pool = s.pool ∧ (flashRead s off k).link = s.link ∧ (flashRead s off
    k).bus = s.bus ∧ (flashRead s off k).aux = s.aux ∧ (flashRead s off k).refMon = s.refMon ∧ (flashRead s off
    k).trig = s.trig ∧ (flashRead s off k).ronko = s.ronko ∧ (flashRead s off k).xip = s.xip ∧ (flashRead s off k).mgp
    = s.mgp ∧ (flashRead s off k).now = s.now ∧ (flashRead s off k).answer = s.answer ∧ (flashRead s off k).free =
    s.free ∧ (flashRead s off k).pending = s.pending := by simp [flashRead]

@[simp] theorem flashAltered_frame (s : State) (op3 op4 : Byte) (off : Nat) (data : List Byte) : (flashAltered s op3
    op4 off data).otp = s.otp ∧ (flashAltered s op3 op4 off data).ident = s.ident ∧ (flashAltered s op3 op4 off
    data).power = s.power ∧ (flashAltered s op3 op4 off data).dev = s.dev ∧ (flashAltered s op3 op4 off data).clk =
    s.clk ∧ (flashAltered s op3 op4 off data).eng = s.eng ∧ (flashAltered s op3 op4 off data).ch = s.ch ∧
    (flashAltered s op3 op4 off data).trust = s.trust ∧ (flashAltered s op3 op4 off data).lockoutRec = s.lockoutRec ∧
    (flashAltered s op3 op4 off data).rop = s.rop ∧ (flashAltered s op3 op4 off data).eth = s.eth ∧ (flashAltered s
    op3 op4 off data).badger = s.badger ∧ (flashAltered s op3 op4 off data).events = s.events ∧ (flashAltered s op3
    op4 off data).hamper = s.hamper ∧ (flashAltered s op3 op4 off data).pool = s.pool ∧ (flashAltered s op3 op4 off
    data).link = s.link ∧ (flashAltered s op3 op4 off data).bus = s.bus ∧ (flashAltered s op3 op4 off data).aux =
    s.aux ∧ (flashAltered s op3 op4 off data).refMon = s.refMon ∧ (flashAltered s op3 op4 off data).trig = s.trig ∧
    (flashAltered s op3 op4 off data).ronko = s.ronko ∧ (flashAltered s op3 op4 off data).mgp = s.mgp ∧ (flashAltered
    s op3 op4 off data).now = s.now ∧ (flashAltered s op3 op4 off data).answer = s.answer ∧ (flashAltered s op3 op4
    off data).free = s.free ∧ (flashAltered s op3 op4 off data).pending = s.pending := by simp [flashAltered]

end Sys2Proof.Machine
end

