-- ==== Sys2Proof/Laws/Effects.lean ====
section
/-! SUPPORT. What shared operations do, once for each: device states, requests, channels. -/

namespace Sys2Proof.Machine

/-! ### Reading after an update -/

theorem State.chan_modCh (s : State) (n : Ch) (f : Channel → Channel) : (s.modCh n f).chan n = f (s.chan n) := by
  simp [State.chan, State.modCh]

theorem State.chan_modCh_ne (s : State) (n m : Ch) (f : Channel → Channel) (h : m ≠ n) :
    (s.modCh n f).chan m = s.chan m := by
  have h' : n.val ≠ m.val := fun e => h (Fin.ext e.symm)
  simp [State.chan, State.modCh, Vector.getElem_set_ne, h']

@[simp] theorem State.chan_modCh_if (s : State) (n m : Ch) (f : Channel → Channel) :
    (s.modCh n f).chan m = if m = n then f (s.chan m) else s.chan m := by
  split
  · rename_i h; subst h; exact s.chan_modCh m f
  · rename_i h; exact s.chan_modCh_ne n m f h

@[simp] theorem State.chan_modAllCh (s : State) (n : Ch) (f : Ch → Channel → Channel) :
    (s.modAllCh f).chan n = f n (s.chan n) := by
  simp [State.chan, State.modAllCh]

@[simp] theorem State.engine_modEng_if (s : State) (e d : Eng) (f : Engine → Engine) :
    (s.modEng e f).engine d = if d = e then f (s.engine d) else s.engine d := by
  split
  · rename_i h; subst h; simp [State.engine, State.modEng]
  · rename_i h
    have h' : e.val ≠ d.val := fun x => h (Fin.ext x.symm)
    simp [State.engine, State.modEng, Vector.getElem_set_ne, h']

@[simp] theorem State.port_modPort_if (s : State) (p q : Port) (f : PortSt → PortSt) :
    (s.modPort p f).port q = if q = p then f (s.port q) else s.port q := by
  split
  · rename_i h; subst h; simp [State.port, State.modPort]
  · rename_i h
    have h' : p.val ≠ q.val := fun x => h (Fin.ext x.symm)
    simp [State.port, State.modPort, Vector.getElem_set_ne, h']

@[simp] theorem State.session_modSession_if (s : State) (i j : Fin 8) (f : Session → Session) :
    (s.modSession i f).session j = if j = i then f (s.session j) else s.session j := by
  split
  · rename_i h; subst h; simp [State.session, State.modSession]
  · rename_i h
    have h' : i.val ≠ j.val := fun x => h (Fin.ext x.symm)
    simp [State.session, State.modSession, Vector.getElem_set_ne, h']

theorem State.chan_congr {s t : State} (h : t.ch = s.ch) (n : Ch) : t.chan n = s.chan n := by
  simp [State.chan, h]

theorem State.engine_congr {s t : State} (h : t.eng = s.eng) (e : Eng) : t.engine e = s.engine e := by
  simp [State.engine, h]

theorem State.port_congr {s t : State} (h : t.ronko = s.ronko) (p : Port) : t.port p = s.port p := by
  simp [State.port, h]

@[simp] theorem activatePeriod_engine (s : State) (e d : Eng) :
    (activatePeriod s e).engine d = if d = e then { s.engine d with nActive := (s.engine d).nShadow } else s.engine d := by
  unfold activatePeriod
  simp only []
  split
  · rename_i h; split
    · rename_i hd; subst hd
      generalize s.engine d = g at h ⊢; cases g; simp_all
    · rfl
  · rw [State.engine_congr (by simp : _ = (s.modEng e fun g => { g with nActive := g.nShadow }).eng)]
    simp

/-! ### Device states -/

@[simp] theorem setDevice_dev (s : State) (d : DeviceState) : (setDevice s d).dev = { s.dev with state := d } := by
  unfold setDevice
  split
  · rename_i h
    have h : s.dev.state = d := by simpa using h
    rw [← h]
  · simp

@[simp] theorem enterQuiet_dev (s : State) (d : DeviceState) : (enterQuiet s d).dev = { s.dev with state := d } := by
  simp [enterQuiet]

@[simp] theorem enterRun_dev (s : State) : (enterRun s).dev = { s.dev with state := .run } := by
  simp [enterRun, coreReleased]

@[simp] theorem coreHeld_dev (s : State) : (coreHeld s).dev = { s.dev with wdt := {} } := rfl

@[simp] theorem setRefReady_dev (s : State) (on : Bool) : (setRefReady s on).dev = { s.dev with refReady := on } := rfl

theorem enterHalt_state (s : State) (m : W64) (f : Bool) (h : s.dev.state ≠ .reset) :
    (enterHalt s m f).dev.state = .halt := by
  unfold enterHalt
  split
  · rename_i h'; simpa [h] using h'
  · cases f <;> simp

theorem enterHalt_lastHalt (s : State) (m : W64) (f : Bool) (h : s.dev.state ≠ .reset) (h' : s.dev.state ≠ .halt) :
    (enterHalt s m f).dev.lastHalt = m := by
  cases f <;> simp [enterHalt, h, h']

@[simp] theorem coreReset_dev (s : State) :
    (coreReset s).dev = { s.dev with appResets := s.dev.appResets.inc, reverify := true, wdt := {} } := by
  simp [coreReset]

/-- An entry into RESET from any other state. -/
theorem enterReset_enters {s u : State} (hu : u.dev = s.dev) (cause : W16) (aon : Bool) (h : s.dev.state ≠ .reset) :
    EntersReset s (enterReset u cause aon) cause := by
  simp [EntersReset, enterReset, h, hu, afterReset, State.chan, State.engine, brownOut]

@[simp] theorem enterReset_power (s : State) (cause : W16) (aon : Bool) :
    (enterReset s cause aon).power = { s.power with aonHeld := s.power.aonHeld || aon } := by
  unfold enterReset afterReset; split <;> rfl

theorem powerOn_poweredOn (s : State) : PoweredOn (powerOn s) := by
  simp [PoweredOn, powerOn, afterReset, State.chan, brownOut]

@[simp] theorem powerOn_power (s : State) : (powerOn s).power = { s.power with aonHeld := true } := by
  simp [powerOn, afterReset]

/-! ### Requests -/

@[simp] theorem reply_chan (s : State) (c ty : Byte) (e : W16) (d : List Byte) (n : Ch) :
    (s.reply c ty e d).chan n = s.chan n := rfl

@[simp] theorem reply_engine (s : State) (c ty : Byte) (e : W16) (d : List Byte) (k : Eng) :
    (s.reply c ty e d).engine k = s.engine k := rfl

@[simp] theorem reply_port (s : State) (c ty : Byte) (e : W16) (d : List Byte) (p : Port) :
    (s.reply c ty e d).port p = s.port p := rfl

@[simp] theorem instructorCommand_chan (s : State) (p : Path) (c : Byte) (n : Ch) :
    (s.instructorCommand p c).chan n = s.chan n := by
  unfold State.instructorCommand; split <;> rfl

@[simp] theorem instructorCommand_engine (s : State) (p : Path) (c : Byte) (k : Eng) :
    (s.instructorCommand p c).engine k = s.engine k := by
  unfold State.instructorCommand; split <;> rfl

@[simp] theorem instructorCommand_port (s : State) (p : Path) (c : Byte) (q : Port) :
    (s.instructorCommand p c).port q = s.port q := by
  unfold State.instructorCommand; split <;> rfl

/-! ### Numbers and bytes (R12) -/

theorem length_natBytes (k n : Nat) : (natBytes k n).length = k := by
  induction k with
  | zero => rfl
  | succ k ih => simp [natBytes, ih]

/-- The bytes of a number spell the number modulo the width. -/
theorem beNat_natBytes (k n : Nat) : beNat (natBytes k n) = n % 256 ^ k := by
  induction k with
  | zero => simp [natBytes, beNat, Nat.mod_one]
  | succ k ih =>
    simp only [natBytes, beNat, ih, length_natBytes, BitVec.toNat_ofNat]
    rw [Nat.mod_pow_succ (x := n) (b := 256) (k := k)]
    show _ % 256 * 256 ^ k + _ = _
    rw [Nat.mul_comm, Nat.add_comm]

@[simp] theorem beNat_one (b : Byte) : beNat [b] = b.toNat := by simp [beNat]

/-- A request that every check lets pass is performed, and answered with the code its action reports. -/
theorem perform_admitted {o : Obj} {r : Req} {ty : Byte} {data : List Byte} {s : State} (h : o.Admits r ty data s) :
    perform o r ty data s =
      ((o.put ⟨r, data, s, s, s⟩ s).instructorCommand r.path (o.after ⟨r, data, s, s, s⟩)).reply (o.after ⟨r, data, s, s, s⟩) o.ty
        (o.epochAfter ⟨r, data, s, o.put ⟨r, data, s, s, s⟩ s, s⟩ (o.put ⟨r, data, s, s, s⟩ s)) [] := by
  unfold perform performOp; simp only []; rw [if_pos (by simpa [Obj.Admits] using h), if_pos (by simpa [Obj.Admits] using h)]

/-- An admitted request whose action always reports E_OK does what it asks for and nothing else. -/
theorem perform_done {o : Obj} {r : Req} {ty : Byte} {data : List Byte} {s : State} (h : o.Admits r ty data s)
    (ha : ∀ w, o.after w = eOk) : Done r (o.put ⟨r, data, s, s, s⟩ s) (.next (perform o r ty data s)) := by
  refine ⟨_, rfl, ?_, ?_⟩ <;> rw [perform_admitted h] <;> simp [ha, State.reply]

@[simp] theorem instructorCommand_answer (s : State) (p : Path) (c : Byte) :
    (s.instructorCommand p c).answer = s.answer := by
  unfold State.instructorCommand; split <;> rfl

@[simp] theorem countBusy_answer (s : State) (p : Path) (c : Byte) : (s.countBusy p c).answer = s.answer := by
  unfold State.countBusy; split <;> rfl

/-- A request that a check stops leaves nothing but its answer, what the object keeps of refused writes, and the count of the
E_BUSY that ROP carries. -/
theorem perform_refused {o : Obj} {r : Req} {ty : Byte} {data : List Byte} {s : State} (h : ¬ o.Admits r ty data s) :
    ∃ w c e, c ≠ eOk ∧ perform o r ty data s = ((o.onRefuse w c s).reply c ty e []).countBusy r.path c := by
  let w : W := ⟨r, data, s, o.put ⟨r, data, s, s, s⟩ s, s⟩
  refine ⟨w, o.verdict ty w, o.epochAfter w s, h, ?_⟩
  unfold perform performOp; simp only []
  rw [if_neg (by simpa [Obj.Admits] using h), if_neg (by simpa [Obj.Admits] using h)]
  rfl

@[simp] theorem reply_answer (s : State) (c ty : Byte) (e : W16) (d : List Byte) :
    (s.reply c ty e d).answer = { code := c, ty := ty, epoch := e, data := d } := rfl

end Sys2Proof.Machine
end

