-- ==== Sys2Proof/Laws/Counters.lean ====
section
/-! SUPPORT. Event counters in the register space: every counter register holds one counter, which a write of it sets and
which nothing else of it shares (R73, R74). -/

namespace Sys2Proof.Machine

/-- What is stored in the counter's place is what is read from it. -/
def CounterHome.Faithful (h : CounterHome) : Prop := ∀ f s, WithinSizes s → h.get (h.set f s) = f (h.get s)

/-- A counter register is made by `counterReg`, a status register by a counter that keeps what it is given. -/
def Reg.Counts (r : Reg) : Prop :=
  (∀ h, r.counter = some h → h.Faithful ∧ r = counterReg r.tsf h) ∧ (∀ h, r.status = some h → h.Faithful)

theorem Reg.counts_of_none {r : Reg} (h : r.counter = none) (h' : r.status = none) : r.Counts := by
  constructor <;> simp_all

theorem counterReg_counts {tsf : Bool} {h : CounterHome} (hf : h.Faithful) : (counterReg tsf h).Counts := by
  constructor
  · intro k hk; simp [counterReg] at hk; subst hk; exact ⟨hf, rfl⟩
  · intro k hk; simp [counterReg] at hk

theorem statusReg_counts {tsf : Bool} {h : CounterHome} (hf : h.Faithful) : (statusReg tsf h).Counts := by
  constructor
  · intro k hk; simp [statusReg] at hk
  · intro k hk; simp [statusReg] at hk; subst hk; exact hf

theorem counterAt_counts {tsf : Bool} {base off : Nat} {h : CounterHome} {r : Reg} (e : counterAt tsf base off h = some r)
    (hf : h.Faithful) : r.Counts := by
  unfold counterAt at e
  split at e
  · cases e; exact counterReg_counts hf
  · split at e
    · cases e; exact statusReg_counts hf
    · cases e

theorem countersAt_counts {tsf : Bool} {base off : Nat} {hs : List CounterHome} {r : Reg}
    (e : countersAt tsf base off hs = some r) (hf : ∀ h ∈ hs, h.Faithful) : r.Counts := by
  unfold countersAt at e
  split at e
  · cases e
  · split at e
    · rename_i h hh; exact counterAt_counts e (hf h (List.mem_of_getElem? hh))
    · cases e

theorem pairAt_counts {tsf : Bool} {base off : Nat} {v : State → W64} {r : Reg} (e : pairAt tsf base off v = some r) :
    r.Counts := by
  unfold pairAt at e
  split at e
  · cases e; exact Reg.counts_of_none rfl rfl
  · split at e
    · cases e; exact Reg.counts_of_none rfl rfl
    · cases e

theorem chHome_faithful {n : Ch} {get : Channel → Counter} {set : Counter → Channel → Channel}
    (h : ∀ k c, get (set k c) = k) : (chHome n get set).Faithful := by
  intro f s _; simp [chHome, h]

theorem none_counts {r : Reg} (e : none = some r) : r.Counts := by cases e

theorem plain_counts {x r : Reg} (h : x.counter = none) (h' : x.status = none) (e : some x = some r) : r.Counts := by
  cases e; exact Reg.counts_of_none h h'

theorem bind_counts {α : Type} {o : Option α} {f : α → Option Reg} {r : Reg} (h : ∀ a, f a = some r → r.Counts)
    (e : o.bind f = some r) : r.Counts := by
  obtain ⟨a, _, e⟩ := Option.bind_eq_some_iff.1 e; exact h a e

theorem ite_counts {c : Prop} [Decidable c] {a b : Option Reg} {r : Reg} (ha : a = some r → r.Counts)
    (hb : b = some r → r.Counts) (e : (if c then a else b) = some r) : r.Counts := by
  split at e
  · exact ha e
  · exact hb e

theorem faithful_rfl {h : CounterHome} (e : ∀ f s, h.get (h.set f s) = f (h.get s)) : h.Faithful := fun f s _ => e f s

theorem homes_nil : ∀ h ∈ ([] : List CounterHome), h.Faithful := by simp

theorem homes_cons {h : CounterHome} {hs : List CounterHome} (a : h.Faithful) (b : ∀ k ∈ hs, k.Faithful) :
    ∀ k ∈ h :: hs, k.Faithful := by simpa [a] using b

theorem portHome_faithful {p : Port} {get : PortSt → Counter} {set : Counter → PortSt → PortSt}
    (h : ∀ k c, get (set k c) = k) : (portHome p get set).Faithful := by
  intro f s _; simp [portHome, h]

theorem trigHome_faithful {get : Triggers → Counter} {set : Counter → Triggers → Triggers}
    (h : ∀ k c, get (set k c) = k) : (trigHome get set).Faithful := by
  intro f s _; simp [trigHome, State.modTrig, h]

theorem fspHome_faithful {get : Fsp → Counter} {set : Counter → Fsp → Fsp} (h : ∀ k c, get (set k c) = k) :
    (fspHome get set).Faithful := by
  intro f s _; simp [fspHome, State.modFsp, h]

theorem xipHome_faithful {get : Xip → Counter} {set : Counter → Xip → Xip} (h : ∀ k c, get (set k c) = k) :
    (xipHome get set).Faithful := by
  intro f s _; simp [xipHome, State.modXip, h]

theorem mgpHome_faithful {get : Mgp → Counter} {set : Counter → Mgp → Mgp} (h : ∀ k c, get (set k c) = k) :
    (mgpHome get set).Faithful := by
  intro f s _; simp [mgpHome, State.modMgp, h]

theorem badgerHome_faithful {get : Badger → Counter} {set : Counter → Badger → Badger} (h : ∀ k c, get (set k c) = k) :
    (badgerHome get set).Faithful := by
  intro f s _; simp [badgerHome, State.modBadger, h]

theorem trigInHome_faithful (i : Fin 4) : (trigInHome i).Faithful := by
  intro f s _; simp [trigInHome, State.modTrigs]

/-- The number of requesters of a resource. -/
theorem WithinSizes.reqs {s : State} (h : WithinSizes s) (res : Resource) :
    (s.arb res).reqs.length = match res with | .pool => 13 | .ronko => 4 | .fsp => 3 := by
  obtain ⟨_, _, _, _, _, _, a, b, c⟩ := h
  cases res <;> simp [State.arb, a, b, c]

theorem arbHome_faithful {res : Resource} {q : Nat} {get : Requesting → Counter} {set : Counter → Requesting → Requesting}
    (hq : q < match res with | .pool => 13 | .ronko => 4 | .fsp => 3) (h : ∀ k c, get (set k c) = k) :
    (arbHome res q get set).Faithful := by
  intro f s hs
  have hl := hs.reqs res
  have hq' : q < (s.arb res).reqs.length := by rw [hl]; exact hq
  have e : ((s.modArb res fun a => a.modReq q fun r => set (f (get r)) r).arb res).reqs =
      (s.arb res).reqs.modify q fun r => set (f (get r)) r := by
    cases res <;> rfl
  simp [arbHome, e, hq', h]

theorem mem_modify_putRing (x : Ring) (l : List Ring) : (putRing x l).find? (fun r => r.num == x.num) = some x := by
  induction l with
  | nil => simp [putRing]
  | cons y ys ih =>
    unfold putRing; split
    · simp
    · split
      · simp
      · rename_i h _; simp only [List.find?_cons]; rw [show (y.num == x.num) = false by simpa using h]; exact ih

/-- The selected ring after it was stored anew. -/
theorem anyRing_setRing (s : State) (r : Ring) : (s.setRing r).hamper.anyRing r.num = some r := by
  simp [State.setRing, Hamper.setRing, Hamper.settle, Hamper.anyRing, mem_modify_putRing]

/-- The counter of the gaps of the selected ring. -/
theorem gaps_faithful (m : Master) : CounterHome.Faithful ⟨fun s => (selRing m s).gaps, fun f s =>
    match s.hamper.anyRing (s.hamper.portOf m).sel with
    | some r => s.setRing { r with gaps := f r.gaps }
    | none => s.setRing { num := (s.hamper.portOf m).sel, enabled := false, pagesHeld := 0, gaps := f {} }⟩ := by
  intro f s _
  have key : ∀ x : Ring, x.num = (s.hamper.portOf m).sel → (selRing m (s.setRing x)).gaps = x.gaps := by
    intro x hx
    have hp : (s.setRing x).hamper.portOf m = s.hamper.portOf m := by cases m <;> rfl
    have := anyRing_setRing s x
    simp only [selRing, hp, ← hx, this, Option.getD_some]
  dsimp only
  split
  · rename_i r hr
    have hn : r.num = (s.hamper.portOf m).sel := by simpa using List.find?_some hr
    have hg : (selRing m s).gaps = r.gaps := by rw [selRing, hr]; rfl
    rw [hg]; exact key _ hn
  · rename_i hr
    have hg : (selRing m s).gaps = {} := by rw [selRing, hr]; rfl
    rw [hg]; exact key { num := (s.hamper.portOf m).sel, enabled := false, pagesHeld := 0, gaps := f {} } rfl

theorem macHomes_faithful : ∀ h ∈ macHomes, h.Faithful := 
  homes_cons (faithful_rfl fun _ _ => rfl) <|
  homes_cons (faithful_rfl fun _ _ => rfl) <|
  homes_cons (faithful_rfl fun _ _ => rfl) <|
  homes_cons (faithful_rfl fun _ _ => rfl) <|
  homes_nil

theorem auxHomes_faithful : ∀ h ∈ auxHomes, h.Faithful := 
  homes_cons (faithful_rfl fun _ _ => rfl) <|
  homes_cons (faithful_rfl fun _ _ => rfl) <|
  homes_cons (faithful_rfl fun _ _ => rfl) <|
  homes_cons (faithful_rfl fun _ _ => rfl) <|
  homes_nil

theorem portHomes_faithful (p : Port) : ∀ h ∈ portHomes p, h.Faithful :=
  homes_cons (portHome_faithful fun _ _ => rfl) <| homes_cons (portHome_faithful fun _ _ => rfl) <|
        homes_cons (portHome_faithful fun _ _ => rfl) <| homes_cons (portHome_faithful fun _ _ => rfl) <|
        homes_cons (portHome_faithful fun _ _ => rfl) <| homes_cons (portHome_faithful fun _ _ => rfl) <|
        homes_cons (portHome_faithful fun _ _ => rfl) <| homes_nil

theorem fspHomes_faithful : ∀ h ∈ fspHomes, h.Faithful :=
  homes_cons (fspHome_faithful fun _ _ => rfl) <| homes_cons (fspHome_faithful fun _ _ => rfl) <|
        homes_cons (fspHome_faithful fun _ _ => rfl) <| homes_cons (fspHome_faithful fun _ _ => rfl) <|
        homes_cons (fspHome_faithful fun _ _ => rfl) <| homes_cons (xipHome_faithful fun _ _ => rfl) <|
        homes_cons (xipHome_faithful fun _ _ => rfl) <| homes_cons (fspHome_faithful fun _ _ => rfl) <| homes_nil

theorem devReg_counts {off : Nat} {r : Reg} (e : devReg off = some r) : r.Counts := by
  unfold devReg at e
  (repeat' split at e)
  all_goals first
    | (cases e; done)
    | (cases e; exact Reg.counts_of_none rfl rfl)

theorem clkReg_counts {off : Nat} {r : Reg} (e : clkReg off = some r) : r.Counts := by
  unfold clkReg at e
  (repeat' split at e)
  all_goals first
    | (cases e; done)
    | (cases e; exact Reg.counts_of_none rfl rfl)
    | exact pairAt_counts e

theorem mbxReg_counts {off : Nat} {r : Reg} (e : mbxReg off = some r) : r.Counts := by
  unfold mbxReg at e
  (repeat' split at e)
  all_goals first
    | (cases e; done)
    | (cases e; exact Reg.counts_of_none rfl rfl)
    | exact pairAt_counts e
    | (cases e; exact counterReg_counts (by intro f s _; rfl))

theorem limReg_counts {n : Ch} {off : Nat} {r : Reg} (e : limReg n off = some r) : r.Counts := by
  unfold limReg at e
  (repeat' split at e)
  all_goals first
    | (cases e; done)
    | (cases e; exact Reg.counts_of_none rfl rfl)

theorem lockReg_counts {n : Ch} {off : Nat} {r : Reg} (e : lockReg n off = some r) : r.Counts := by
  unfold lockReg at e
  (repeat' split at e)
  all_goals first
    | (cases e; done)
    | (cases e; exact Reg.counts_of_none rfl rfl)

theorem limitReg_counts {off : Nat} {r : Reg} (e : limitReg off = some r) : r.Counts := by
  unfold limitReg at e
  (repeat' split at e)
  all_goals first
    | cases e
    | exact pairAt_counts e
    | (obtain ⟨_, _, e⟩ := Option.bind_eq_some_iff.1 e; first | exact limReg_counts e | exact lockReg_counts e)

theorem chModeReg_counts {n : Ch} {off : Nat} {r : Reg} (e : chModeReg n off = some r) : r.Counts := by
  unfold chModeReg at e
  (repeat' split at e)
  all_goals first
    | (cases e; done)
    | (cases e; exact Reg.counts_of_none rfl rfl)
    | exact pairAt_counts e
    | exact counterAt_counts e (chHome_faithful fun _ _ => rfl)

theorem engChReg_counts {n : Ch} {off : Nat} {r : Reg} (e : engChReg n off = some r) : r.Counts := by
  unfold engChReg at e
  (repeat' split at e)
  all_goals first
    | (cases e; done)
    | (cases e; exact Reg.counts_of_none rfl rfl)
    | exact pairAt_counts e
    | (cases e; exact counterReg_counts (chHome_faithful fun _ _ => rfl))
    | (cases e; constructor
       · intro h hh; cases hh
       · intro h hh; cases hh; exact chHome_faithful fun _ _ => rfl)

theorem vecReg_counts {k : Nat} (n : Ch) (off : Nat) (get : Channel → Vector Word k) (set : Vector Word k → Channel → Channel)
    {r : Reg} (e : vecReg n off get set = some r) : r.Counts := by
  unfold vecReg at e
  (repeat' split at e)
  all_goals first
    | (cases e; done)
    | (cases e; exact Reg.counts_of_none rfl rfl)

theorem headReg_counts (n : Ch) (k : Nat) (x : ProgArea) {r : Reg} (e : headReg n k x = some r) : r.Counts := by
  unfold headReg at e
  (repeat' split at e)
  all_goals first
    | (cases e; done)
    | (cases e; exact Reg.counts_of_none rfl rfl)

theorem progReg_counts (n : Ch) (i : Nat) (x : ProgArea) {r : Reg} (e : progReg n i x = some r) : r.Counts := by
  unfold progReg at e
  cases e; exact Reg.counts_of_none rfl rfl

theorem lacReg_counts {n : Ch} {off : Nat} {r : Reg} (e : lacReg n off = some r) : r.Counts := by
  unfold lacReg at e
  (repeat' split at e)
  all_goals first
    | (cases e; done)
    | (cases e; exact Reg.counts_of_none rfl rfl)
    | exact pairAt_counts e
    | exact countersAt_counts e (homes_cons (chHome_faithful fun _ _ => rfl) <|
          homes_cons (chHome_faithful fun _ _ => rfl) <| homes_nil)

theorem motionReg_counts {n : Ch} {off : Nat} {r : Reg} (e : motionReg n off = some r) : r.Counts := by
  unfold motionReg at e
  (repeat' split at e)
  all_goals first
    | (cases e; done)
    | (cases e; exact Reg.counts_of_none rfl rfl)
    | exact pairAt_counts e
    | exact counterAt_counts e (chHome_faithful fun _ _ => rfl)

theorem macReg_counts {off : Nat} {r : Reg} (e : macReg off = some r) : r.Counts := by
  unfold macReg at e
  (repeat' split at e)
  all_goals first
    | (cases e; done)
    | (cases e; exact Reg.counts_of_none rfl rfl)
    | exact pairAt_counts e
    | (obtain ⟨h, hh, rfl⟩ := Option.map_eq_some_iff.1 e
       exact counterReg_counts (macHomes_faithful h (List.mem_of_getElem? hh)))
    | (obtain ⟨h, hh, rfl⟩ := Option.map_eq_some_iff.1 e
       exact statusReg_counts (macHomes_faithful h (List.mem_of_getElem? hh)))

theorem convReg_counts {n : Ch} {off : Nat} {r : Reg} (e : convReg n off = some r) : r.Counts := by
  unfold convReg at e
  (repeat' split at e)
  all_goals first
    | (cases e; done)
    | (cases e; exact Reg.counts_of_none rfl rfl)
    | exact pairAt_counts e
    | exact counterAt_counts e (chHome_faithful fun _ _ => rfl)

theorem auxReg_counts {off : Nat} {r : Reg} (e : auxReg off = some r) : r.Counts := by
  unfold auxReg at e
  (repeat' split at e)
  all_goals first
    | (cases e; done)
    | (cases e; exact Reg.counts_of_none rfl rfl)
    | exact pairAt_counts e
    | exact countersAt_counts e auxHomes_faithful

theorem refReg_counts {off : Nat} {r : Reg} (e : refReg off = some r) : r.Counts := by
  unfold refReg at e
  (repeat' split at e)
  all_goals first
    | (cases e; done)
    | (cases e; exact Reg.counts_of_none rfl rfl)

theorem outReg_counts {n : Ch} {off : Nat} {r : Reg} (e : outReg n off = some r) : r.Counts := by
  unfold outReg at e
  (repeat' split at e)
  all_goals first
    | (cases e; done)
    | (cases e; exact Reg.counts_of_none rfl rfl)
    | exact pairAt_counts e
    | exact counterAt_counts e (chHome_faithful fun _ _ => rfl)

theorem clrReg_counts {off : Nat} {r : Reg} (e : clrReg off = some r) : r.Counts := by
  unfold clrReg at e
  (repeat' split at e)
  all_goals first
    | (cases e; done)
    | (cases e; exact Reg.counts_of_none rfl rfl)
    | exact pairAt_counts e
    | exact counterAt_counts e (by intro f s _; rfl)

theorem pwgReg_counts {n : Fin 4} {off : Nat} {r : Reg} (e : pwgReg n off = some r) : r.Counts := by
  unfold pwgReg at e
  (repeat' split at e)
  all_goals first
    | (cases e; done)
    | (cases e; exact Reg.counts_of_none rfl rfl)

theorem trigReg_counts {off : Nat} {r : Reg} (e : trigReg off = some r) : r.Counts := by
  unfold trigReg at e
  (repeat' split at e)
  all_goals first
    | (cases e; done)
    | (cases e; exact Reg.counts_of_none rfl rfl)
    | exact pairAt_counts e
    | exact counterAt_counts e (trigInHome_faithful _)
    | exact pwgReg_counts e

theorem hamReg_counts {n : Master} {off : Nat} {r : Reg} (e : hamReg n off = some r) : r.Counts := by
  unfold hamReg at e
  (repeat' split at e)
  all_goals first
    | (cases e; done)
    | (cases e; exact Reg.counts_of_none rfl rfl)
    | exact pairAt_counts e
    | exact counterAt_counts e (faithful_rfl fun _ _ => rfl)
    | exact countersAt_counts e (homes_cons (faithful_rfl fun _ _ => rfl) <|
        homes_cons (faithful_rfl fun _ _ => rfl) <| homes_nil)
    | exact counterAt_counts e (gaps_faithful n)

theorem sweepReg_counts {n : Ch} {off : Nat} {r : Reg} (e : sweepReg n off = some r) : r.Counts := by
  unfold sweepReg at e
  (repeat' split at e)
  all_goals first
    | (cases e; done)
    | (cases e; exact Reg.counts_of_none rfl rfl)
    | exact pairAt_counts e
    | exact countersAt_counts e (homes_cons (chHome_faithful fun _ _ => rfl) <|
          homes_cons (chHome_faithful fun _ _ => rfl) <| homes_cons (chHome_faithful fun _ _ => rfl) <| homes_nil)

theorem sweepBlock_counts {off : Nat} {r : Reg} (e : sweepBlock off = some r) : r.Counts := by
  unfold sweepBlock at e
  all_goals first
    | exact pairAt_counts e
    | (obtain ⟨_, _, e⟩ := Option.bind_eq_some_iff.1 e; exact sweepReg_counts e)

theorem semReg_counts {n : Master} {off : Nat} {r : Reg} (e : semReg n off = some r) : r.Counts := by
  unfold semReg at e
  (repeat' split at e)
  all_goals first
    | (cases e; done)
    | (cases e; exact Reg.counts_of_none rfl rfl)

theorem portReg_counts {n : Port} {off : Nat} {r : Reg} (e : portReg n off = some r) : r.Counts := by
  unfold portReg at e
  (repeat' split at e)
  all_goals first
    | (cases e; done)
    | (cases e; exact Reg.counts_of_none rfl rfl)
    | exact pairAt_counts e
    | exact countersAt_counts e (portHomes_faithful n)

theorem txReg_counts {n : Fin 4} {off : Nat} {r : Reg} (e : txReg n off = some r) : r.Counts := by
  unfold txReg at e
  (repeat' split at e)
  all_goals first
    | (cases e; done)
    | (cases e; exact Reg.counts_of_none rfl rfl)

theorem treeReg_counts {off : Nat} {r : Reg} (e : treeReg off = some r) : r.Counts := by
  unfold treeReg at e
  (repeat' split at e)
  all_goals first
    | (cases e; done)
    | (cases e; exact Reg.counts_of_none rfl rfl)
    | exact pairAt_counts e
    | exact countersAt_counts e (homes_cons (trigHome_faithful fun _ _ => rfl) <|
          homes_cons (trigHome_faithful fun _ _ => rfl) <| homes_cons (trigHome_faithful fun _ _ => rfl) <|
          homes_cons (trigHome_faithful fun _ _ => rfl) <| homes_nil)
    | exact txReg_counts e

theorem fspReg_counts {off : Nat} {r : Reg} (e : fspReg off = some r) : r.Counts := by
  unfold fspReg at e
  (repeat' split at e)
  all_goals first
    | (cases e; done)
    | (cases e; exact Reg.counts_of_none rfl rfl)
    | exact pairAt_counts e
    | exact countersAt_counts e fspHomes_faithful

theorem mgpReg_counts {off : Nat} {r : Reg} (e : mgpReg off = some r) : r.Counts := by
  unfold mgpReg at e
  (repeat' split at e)
  all_goals first
    | (cases e; done)
    | (cases e; exact Reg.counts_of_none rfl rfl)
    | exact pairAt_counts e
    | exact countersAt_counts e (homes_cons (mgpHome_faithful fun _ _ => rfl) <|
          homes_cons (mgpHome_faithful fun _ _ => rfl) <| homes_cons (mgpHome_faithful fun _ _ => rfl) <|
          homes_cons (mgpHome_faithful fun _ _ => rfl) <| homes_cons (mgpHome_faithful fun _ _ => rfl) <|
          homes_cons (mgpHome_faithful fun _ _ => rfl) <| homes_nil)

theorem lineReg_counts {n : Fin 4} {off : Nat} {r : Reg} (e : lineReg n off = some r) : r.Counts := by
  unfold lineReg at e
  (repeat' split at e)
  all_goals first
    | (cases e; done)
    | (cases e; exact Reg.counts_of_none rfl rfl)
    | exact pairAt_counts e
    | exact counterAt_counts e (by intro f s _; simp [State.modLine])

theorem evtReg_counts {off : Nat} {r : Reg} (e : evtReg off = some r) : r.Counts := by
  unfold evtReg at e
  (repeat' split at e)
  all_goals first
    | (cases e; done)
    | (cases e; exact Reg.counts_of_none rfl rfl)
    | exact pairAt_counts e
    | exact lineReg_counts e
    | exact counterAt_counts e (by intro f s _; rfl)

theorem badgerReg_counts {off : Nat} {r : Reg} (e : badgerReg off = some r) : r.Counts := by
  unfold badgerReg at e
  (repeat' split at e)
  all_goals first
    | (cases e; done)
    | (cases e; exact Reg.counts_of_none rfl rfl)
    | (cases e; exact statusReg_counts (badgerHome_faithful fun _ _ => rfl))
    | exact pairAt_counts e
    | exact countersAt_counts e (homes_cons (badgerHome_faithful fun _ _ => rfl) <|
          homes_cons (badgerHome_faithful fun _ _ => rfl) <| homes_nil)

theorem progMem_counts {n : Ch} {off : Nat} {r : Reg} : progMem n off = some r → r.Counts := by
  unfold progMem
  dsimp only
  repeat' first
    | exact progReg_counts _ _ _
    | exact vecReg_counts _ _ _ _
    | exact headReg_counts _ _ _
    | exact none_counts
    | exact plain_counts rfl rfl
    | refine ite_counts ?_ ?_

theorem engReg_counts {n : Eng} {off : Nat} {r : Reg} (e : engReg n off = some r) : r.Counts := by
  unfold engReg at e
  split at e
  all_goals first | (cases e; exact Reg.counts_of_none rfl rfl) | skip
  split at e
  · exact engChReg_counts e
  · split at e
    · exact engChReg_counts e
    · cases e

theorem lacBlock_counts {n : Eng} {off : Nat} {r : Reg} (e : lacBlock n off = some r) : r.Counts := by
  unfold lacBlock at e
  split at e
  · exact lacReg_counts e
  · split at e
    · exact lacReg_counts e
    · split at e
      · cases e; exact Reg.counts_of_none rfl rfl
      · cases e

theorem rstReg_counts {off : Nat} {r : Reg} (e : rstReg off = some r) : r.Counts := by
  unfold rstReg at e
  split at e
  case _ => cases e; exact Reg.counts_of_none rfl rfl
  case _ => cases e; exact Reg.counts_of_none rfl rfl
  case _ => 
    cases e; constructor
    · intro h hh; cases hh
    · intro h hh; cases hh; intro f s _; rfl
  all_goals first | (cases e; exact Reg.counts_of_none rfl rfl) | exact pairAt_counts e

theorem reqReg_counts {res : Resource} {q off : Nat} {r : Reg}
    (hq : q < match res with | .pool => 13 | .ronko => 4 | .fsp => 3) (e : reqReg res q off = some r) : r.Counts := by
  unfold reqReg at e
  (repeat' split at e)
  all_goals first
    | (cases e; done)
    | (cases e; exact Reg.counts_of_none rfl rfl)
    | exact countersAt_counts e (homes_cons (arbHome_faithful hq fun _ _ => rfl) <|
        homes_cons (arbHome_faithful hq fun _ _ => rfl) <| homes_nil)

theorem resourceReg_counts {res : Resource} {k count off : Nat} {r : Reg}
    (hc : count ≤ match res with | .pool => 13 | .ronko => 4 | .fsp => 3) (e : resourceReg res k count off = some r) :
    r.Counts := by
  unfold resourceReg at e
  (repeat' split at e)
  all_goals first
    | (cases e; done)
    | (cases e; exact Reg.counts_of_none rfl rfl)
    | (refine reqReg_counts ?_ e; omega)

theorem arbReg_counts {off : Nat} {r : Reg} (e : arbReg off = some r) : r.Counts := by
  unfold arbReg at e
  (repeat' split at e)
  all_goals exact resourceReg_counts (by simp) e

theorem blockReg_counts {m : Master} {b off : Nat} {r : Reg} (e : blockReg m b off = some r) : r.Counts := by
  revert e
  unfold blockReg
  repeat' first
    | exact devReg_counts
    | exact clkReg_counts
    | exact rstReg_counts
    | exact mbxReg_counts
    | exact limitReg_counts
    | exact auxReg_counts
    | exact refReg_counts
    | exact clrReg_counts
    | exact trigReg_counts
    | exact hamReg_counts
    | exact sweepBlock_counts
    | exact semReg_counts
    | exact arbReg_counts
    | exact portReg_counts
    | exact treeReg_counts
    | exact macReg_counts
    | exact fspReg_counts
    | exact mgpReg_counts
    | exact evtReg_counts
    | exact badgerReg_counts
    | exact plain_counts rfl rfl
    | exact none_counts
    | exact bind_counts fun _ => chModeReg_counts
    | exact bind_counts fun _ => engReg_counts
    | exact bind_counts fun _ => lacBlock_counts
    | exact bind_counts fun _ => motionReg_counts
    | exact bind_counts fun _ => progMem_counts
    | exact bind_counts fun _ => convReg_counts
    | exact bind_counts fun _ => outReg_counts
    | refine ite_counts ?_ ?_

/-- Every register that a bus access finds: a counter register is a plain counter, and what counts keeps what it is given. -/
theorem busRegAt_counts {m : Master} {addr : Nat} {r : Reg} (e : busRegAt m addr = some r) : r.Counts := by
  unfold busRegAt at e
  split at e
  · rename_i x hx
    cases e
    unfold regAt at hx
    split at hx
    · cases hx
    · exact blockReg_counts hx
  · dsimp only at e
    split at e
    · cases e; exact Reg.counts_of_none rfl rfl
    · cases e

end Sys2Proof.Machine
end

