-- ==== Sys2Proof/Tests/Slice0.lean ====
section
/-! SUPPORT. Tests of one step each on small states, and witnesses: states and operands that meet the hypotheses of each clause
of the statements, together with what the clause says of them. -/

namespace Sys2Proof.Tests

open Sys2Proof Sys2Proof.Machine

-- one theorem after the other: each evaluates a step in the kernel, and all at once take too much memory
set_option Elab.async false

/-- A multiple of the neutral point of Ed25519, in any of its coordinates. -/
def Neutral (p : EdPoint) : Prop := p.x = 0 ∧ p.t = 0 ∧ p.y % edP = p.z % edP

theorem neutral_edAdd {p q : EdPoint} (hp : Neutral p) (hq : Neutral q) : Neutral (edAdd p q) := by
  obtain ⟨px, pt, py⟩ := hp
  obtain ⟨qx, qt, qy⟩ := hq
  have hpos : 0 < edP := by decide
  have a : (p.y + edP) * (q.y + edP) % edP = p.y * q.y % edP := by
    rw [Nat.mul_mod, Nat.add_mod_right, Nat.add_mod_right, ← Nat.mul_mod]
  refine ⟨?_, ?_, ?_⟩
  · simp [edAdd, px, qx, a]
  · simp [edAdd, px, qx, a]
  · simp only [edAdd, px, qx, pt, qt, Nat.sub_zero, Nat.add_zero, Nat.mul_zero, Nat.zero_mul, Nat.zero_mod, a, Nat.mod_mod]
    have d : 2 * p.z * q.z % edP = 2 * (p.y * q.y % edP) % edP := by
      rw [Nat.mul_assoc, Nat.mul_mod 2, Nat.mul_mod p.z, ← py, ← qy, ← Nat.mul_mod]
      simp [Nat.mul_mod]
    rw [Nat.mul_mod (2 * p.z * q.z % edP + edP), Nat.add_mod_right, Nat.mod_mod, Nat.mul_mod (2 * p.z * q.z % edP), Nat.mod_mod, d, Nat.two_mul]

theorem neutral_edMul {p : EdPoint} (k n : Nat) (hp : Neutral p) : Neutral (edMul p k n) := by
  induction k generalizing p n with
  | zero => exact ⟨rfl, rfl, rfl⟩
  | succ k ih =>
    simp only [edMul]
    split
    · exact neutral_edAdd hp (ih _ (neutral_edAdd hp hp))
    · exact ih _ (neutral_edAdd hp hp)

theorem edMul_zero (p : EdPoint) (k : Nat) : edMul p k 0 = ⟨0, 1, 1, 0⟩ := by
  induction k generalizing p with
  | zero => rfl
  | succ k ih => simp [edMul, ih]

/-- A public key under which one signature verifies every message: the neutral point. -/
def weakKey : List Byte := 1 :: List.replicate 31 0
def weakSig : List Byte := 1 :: List.replicate 63 0

theorem weakKey_point : edDecode weakKey = some ⟨0, 1, 1, 0⟩ := by
  have h : (edDecode weakKey).map (fun p => [p.x, p.y, p.z, p.t]) = some [0, 1, 1, 0] := by decide +kernel
  cases e : edDecode weakKey with
  | none => simp [e] at h
  | some p => obtain ⟨_, _, _, _⟩ := p; simpa [e] using h

theorem weakKey_verifies (msg : List Byte) : ed25519 weakKey msg weakSig = true := by
  have hs : edDecode (weakSig.take 32) = some ⟨0, 1, 1, 0⟩ := weakKey_point
  have h0 : littleEndian (weakSig.drop 32) = 0 := by decide +kernel
  have n : Neutral ⟨0, 1, 1, 0⟩ := ⟨rfl, rfl, rfl⟩
  simp only [ed25519, weakKey_point, hs, h0, edMul_zero]
  obtain ⟨hx, -, hy⟩ := neutral_edAdd n (neutral_edMul 253 (littleEndian (sha512 (weakSig.take 32 ++ weakKey ++ msg)) % edL) n)
  have l : (weakSig.length == 64 && decide (0 < edL)) = true := by decide
  rw [l]
  simp only [edSame, hx, hy, Nat.zero_mul, Nat.one_mul, Nat.mul_one, beq_self_eq_true, Bool.and_self]

/-- An outcome is a next state with a property. -/
def runs (o : Host.Outcome State Fault Refusal) (p : State → Bool) : Bool :=
  match o with
  | .next t => p t
  | _ => false

/-- A device in RUN with its clocks, its references and the Instructor unlocked, who owns every channel with epoch 1. -/
def bench : State :=
  { State.reset with
    power := { good := 0x3F, aonHeld := false }
    dev := { state := .run, resetCount := { value := 1 }, refbufOn := true, refReady := true }
    clk := { refPresent := true, pllEn := true, pllLock := true, monitorsOn := true, rootFreqOk := true }
    ch := Vector.replicate 8 { lock := { kind := .mgmt, epoch := 1, state := .held } }
    trust := { instr := { state := .unlocked } } }

/-- A converter's window of k codes. -/
def codes (k : Nat) (x : W16) : AdcWin := ⟨List.replicate k x⟩

/-- A state with the flash bus granted to the supervisor. -/
def supBus (s : State) : State := { s with bus := { s.bus with owner := some 0 } }

/-- A state with the pool write port granted to a requester. -/
def onPort (q : Nat) (s : State) : State := { s with pool := { s.pool with owner := some q } }

/-- What both converters of a channel deliver in a tick of 40 cycles. -/
def aWin : ChanWin := ⟨codes 20 5, codes 20 0xFFFB, false⟩

/-- An Instructor record of a SAVE. -/
def aSaved : SavedRecord := ⟨Vector.replicate 8 ⟨0, 0, 0, 0, 0, 0, 0⟩, [1]⟩

/-- The block at the release of the AON reset, with a public key under which one signature verifies every record. -/
def released (saved : Option SavedRecord) : State :=
  { State.reset with
    power := { State.reset.power with good := 0x3F }
    otp := { State.reset.otp with pubkey := weakKey }
    trust := { instr := { saved := saved } } }

/-- The Instructor over MGP, naming epoch 1. -/
def mg : Req := ⟨.mgmt, .mgp, some 1⟩

/-- The bench with channel 0 changed. -/
def ch0 (f : Channel → Channel) : State := bench.modCh 0 f

/-- The bench with its dictionary ring 5 as given, and both ports selecting it. -/
def withRing (r : Ring) : State :=
  { bench with hamper := { ready := true, rings := [r], appPort := { pushRing := 5, popRing := 5 }, supPort := { popRing := 5 } } }

/-- A ring of 32-byte records that the application core fills and empties. -/
def appRing : Ring := { num := 5, recSize := 32, producer := 2, consumer := 2 }

/-- A ring of 8-byte records that hosts write and read. -/
def openRing : Ring := { num := 5, producer := 1, consumer := 1 }

/-- The bench with port p as given. -/
def withPort (p : Port) (f : PortSt → PortSt) : State := bench.modPort p f

/-- An ACTIVE port. -/
def activePort (q : PortSt) : PortSt := { q with link := .active }

/-- A message of channel 0. -/
def aMsg : Msg :=
  { source := 8, kind := 0x50, base := .note, detail := 0, time := 0, forced := false, injected := false, loss := false }

/-- An unreadable flash area. -/
def noImage : FlashImage := ⟨true, [], []⟩

/-- The bench with the Instructor locked out of a verifier in force. -/
def lockedOut (streak : Nat) (verifier : Option (List Byte)) : State :=
  { bench with trust := { instr := { state := .locked, failedStreak := streak, verifier := verifier } } }

/-- The bench with engine 0 in a run of the given values. -/
def inRun (r : Run) : State := bench.modEng 0 fun g => { g with run := r }

/-- A run whose t slots 0 and 1 hold A and B. -/
def runAB (a b : Word) : Run := { t := #v[a, b, 0, 0, 0, 0, 0, 0] }

/-- Channel 0 of the bench in FV with its samples taken. -/
def sampled (c : Channel) : Channel :=
  { c with mode := { c.mode with mode := .fv }, loop := { c.loop with sampled := true } }

/-- The bench with channel 0 in FV and engine 0 in a run with the given wind-up scheme. -/
def windup (k : Nat) (r : Run) : State :=
  (inRun r).modCh 0 fun c => { c with mode := { c.mode with mode := .fv }, actProg := { c.actProg with windup := k, intMax := 5, intMin := 3 } }

/-- A program of one END: COUNT 1, PRESET_SLOT 0 and RESCALE_MASK 1 (R271). -/
def endProgram : List Byte := [1, 0, 0, 0, 0, 1, 0, 0, 0x7C, 0, 0, 0]

/-- A list of one step: END_STEP, step 3, set-point 1.0, dwell 2 and measurement 4 ticks. -/
def listRing : Ring :=
  { num := 5, recSize := 16, consumer := roleList 0, recs := [⟨[0x88, 0, 0, 3, 0x3F, 0x80, 0, 0, 0, 0, 0, 2, 0, 0, 0, 4], false, false, false, false⟩] }

/-- The bench with channel 0 about to start the first step of its list. -/
def stepping : State :=
  (withRing listRing).modCh 0 fun c => { c with
    mode := { c.mode with mode := .fvList }, sweep := { c.sweep with listRing := 5, listState := .running, startDue := true } }

/-- Channel 0 of the bench in FV_LIST with its sweep as given. -/
def swept (f : Sweep → Sweep) : State :=
  ch0 fun c => { c with mode := { c.mode with mode := .fvList }, sweep := f { c.sweep with listState := .running } }

/-- A step of the list, the last one or not. -/
def aStep (last : Bool) (meas : Nat) : StepRec := ⟨last, false, false, 0, false, 3, 0, 1, meas⟩

/-- A frame kept for its acknowledgement. -/
def keptOne (k : Nat) (q : PortSt) : PortSt :=
  { q with link := .active, credits := 8, xcredits := 4, kept := [{ seq := 0, bytes := [4, 0, 0, 0, 0, 0, 0, 0], attempts := k }], xkept := [{ seq := 0, bytes := [2, 0, 0, 0], attempts := k }] }

/-- The first of two segments of 250 bytes. -/
def seg0 : Segment :=
  { src := 3, tag := 4, entry := 3, hostIp := 5, hostPort := 6, seg := 0, segCount := 2, totalLen := 250, data := List.replicate 240 9 }

/-- The bench with its tunnel endpoint running. -/
def tunnelOn : State := bench.modTun fun t => { t with rxEn := true }

/-- An entry of one byte for select 1. -/
def anEntry : Entry :=
  { sel := 1, hold := true, crcTx := false, crcRx := true, resp := false, wlen := 8, retries := 1, tag := 7, len := 1, tx := [9]
    rxSkip := 0, rxBytes := 0, fill := 0, attempts := 1, frdyWait := false, elapsed := 0, cfg := {} }

/-- The records of an entry of one byte for select 1, with a tag. -/
def entryRecs : List Rec :=
  [⟨[0xF5, 5, 8, 1, 0, 7, 0, 1, 0, 1, 0, 0, 0, 0, 0, 0], false, false, false, false⟩,
   ⟨9 :: List.replicate 15 0, false, true, false, false⟩]

/-- A command ring with the given records. -/
def cmdRingOf (recs : List Rec) : Ring :=
  { num := 5, recSize := 16, byteRecs := true, producer := 2, consumer := roleFsp, recs := recs }

/-- The bench with the FSP's command ring as given, and the bus granted to it. -/
def onCmdRing (recs : List Rec) : State :=
  ({ withRing (cmdRingOf recs) with bus := { bench.bus with owner := some 2 } } : State).modFsp fun f => { f with cmdRing := 5 }

/-- The bench with an entry in progress. -/
def inEntry (e : Entry) : State := (onCmdRing entryRecs).modFsp fun f => { f with entry := some e }

/-- The bench with a window onto the flash. -/
def withXip (f : Xip → Xip) : State := bench.modXip fun x => f { x with size := 4096 }

/-- The header of a management request of an object (Table 14.15): header byte, FLAGS, index, element, type, epoch, length. -/
def objReq (hdr flags : Byte) (idx : W16) (el ty : Byte) (epoch len : W16) : List Byte :=
  [hdr, flags] ++ natBytes 2 idx.toNat ++ [el, ty] ++ natBytes 2 epoch.toNat ++ natBytes 2 len.toNat ++ [0, 0]

/-- The header of a management request of the flash. -/
def flashReq (hdr : Byte) (offset : Word) (count len : W16) : List Byte :=
  [hdr, 0] ++ natBytes 4 offset.toNat ++ natBytes 2 count.toNat ++ natBytes 2 len.toNat ++ [0, 0]

/-- The bench with a management request in execution. -/
def asked (b : List Byte) : State := bench.modMgp fun m => { m with executing := some b }

/-- The bench with such a request and the flash bus granted to the supervisor. -/
def askedFlash (b : List Byte) : State := supBus (asked b)

/-- The bench with one session open, whose host owns channel 1. -/
def inSession (id : W16) : State :=
  (bench.modSession 0 fun _ => { id := id, entry := ownEntry, timeoutMs := 2000 }).modCh 1 fun c =>
    { c with lock := { kind := .host, session := id, epoch := 1, state := .held } }

/-- A request without a session that reads one element k times. -/
def aRead (dest : W16) (k : Nat) (index : W16) (element : Byte) : List Byte :=
  [0x52, 0x50, 0x01, 0, 0, 0, 0, 1] ++ natBytes 2 dest.toNat ++ [0, 20, BitVec.ofNat 8 k, 0, 0, 0]
    ++ (List.replicate k ([1, 0] ++ natBytes 2 index.toNat ++ [element, 0, 0, 0, 0, 0])).flatten

/-- The bench with its MAC clocked. -/
def withMac (f : Eth → Eth) : State :=
  { bench with clk := { bench.clk with rmiiEn := true, rmiiLock := true }, eth := f { bench.eth with macAddr := 5 } }

/-- The record of a short frame. -/
def txRec : Rec := { bytes := List.replicate 16 9 }

/-- The bench with one frame to send. -/
def txBench : State :=
  { withMac (fun e => { e with txEn := true, txRing := 5 }) with
    hamper := (withRing { num := 5, recSize := 16, producer := 2, consumer := roleMacTx, recs := [txRec] }).hamper }

/-- The bench with its mailbox as given, and the local application as owner. -/
def mbxOf (f : Mailbox → Mailbox) : State :=
  (ch0 fun c => { c with lock := { c.lock with kind := .loc } }).modMbx fun m => f { m with auth := 0x00030001, len := 0x00010000 }

/-- A mailbox that asks channel 0 for OFF. -/
def modeOff (m : Mailbox) : Mailbox := { m with obj := BitVec.ofNat 32 (0x01000000 * tU8.toNat + 0x00012000) }

/-- Nothing is allocated at an index and element, with the given answer. -/
def absent (idx el : Nat) (code : Byte) : Bool :=
  match objAt idx el with
  | .error c => c == code
  | .ok _ => false

/-- An allocated object has a property. -/
def present (idx el : Nat) (p : Obj → Bool) : Bool :=
  match objAt idx el with
  | .error _ => false
  | .ok o => p o

/-! ### Supplies, reset, boot, clocks (chapters 2 and 5) -/

theorem witness_ResetSourcesEnterReset :
    runs (exec (.supplyFail .core) bench) (fun t => t.dev.state == .reset && t.power.good == 0x3D && t.dev.resetCount.value == 2) = true ∧
    runs (exec (.supplyFail .aon) bench) (fun t => t.dev.resetCause == 0x0001 && t.power.good == 0x3E) = true ∧
    runs (exec .rstNRecognised bench) (fun t => t.dev.state == .reset && t.dev.resetCause == 0x0040 && t.power.rstLow) = true ∧
    runs (exec .supWatchdogExpire bench) (fun t => t.dev.resetCause == 0x0080 && t.power.aonHeld) = true ∧
    runs (exec .deviceResetTimeout { bench with
        dev := { bench.dev with resetPending := true }
        trust := { instr := { saving := some aSaved } } })
      (fun t => t.dev.resetCause == 0x0100 && t.trust.instr.saved == some aSaved) = true ∧
    objDeviceReset.Admits mg tU8 [1] bench := by decide +kernel

theorem lockout_verifies (k l : Nat) (r : Bool) : lockoutFound (released none) (.other k l r weakSig) = some ⟨k, l, r⟩ := by
  simp [lockoutFound, Otp.verifies, released, weakKey_verifies]

/-- A lockout record that verifies, with a lockout running and without, and none with and without a record saved before. -/
theorem witness_BootSequenceCommands_records :
    (released none).power.aonHeld = true ∧ (released none).power.good.getLsbD 0 = true ∧ (released none).power.rstLow = false ∧
    lockoutFound (released none) (.other 3 60 true weakSig) = some ⟨3, 60, true⟩ ∧
    lockoutFound (released none) (.other 3 60 false weakSig) = some ⟨3, 60, false⟩ ∧
    lockoutFound (released none) .erased = none ∧ (released none).trust.instr.saved = none ∧
    lockoutFound (released (some aSaved)) .erased = none ∧ (released (some aSaved)).trust.instr.saved ≠ none :=
  ⟨rfl, by decide, rfl, lockout_verifies _ _ _, lockout_verifies _ _ _, rfl, rfl, rfl, by simp [released]⟩

theorem witness_BootSequenceCommands :
    runs (exec (.aonResetRelease 0x4 .erased) (released none))
      (fun t => !t.power.aonHeld && t.power.straps == 4 && t.trust.instr.state == .locked && t.trust.instr.failedStreak == 0) = true ∧
    runs (exec (.aonResetRelease 0x4 .kept) (released (some aSaved)))
      (fun t => t.trust.instr.state == .lockout && t.trust.instr.failedStreak == 5 && t.trust.instr.lockoutEnd == 14400000000) = true ∧
    runs (exec (.bootEntry (List.replicate 16 5, List.replicate 16 5)) { State.reset with power := { good := 0x3F, aonHeld := false } })
      (fun t => t.dev.state == .boot && t.dev.refbufOn && t.xip.cont && !t.clk.pllEn) = true ∧
    runs (exec .refPresentSet { bench with dev := { state := .boot }, clk := {} })
      (fun t => t.clk.refPresent && t.clk.pllEn && !t.clk.aonOnRc) = true ∧
    runs (exec (.pllLock noImage) { bench with dev := { state := .boot }, clk := { pllEn := true } })
      (fun t => t.clk.pllLock && t.dev.state == .verify && t.clk.monitorsOn) = true ∧
    runs (exec .pllLockTimeout { bench with dev := { state := .boot }, clk := { pllEn := true } })
      (fun t => t.clk.pllFails == 1 && t.dev.state == .boot) = true ∧
    runs (exec .pllLockTimeout { bench with dev := { state := .boot }, clk := { pllEn := true, pllFails := 2 } })
      (fun t => t.dev.state == .halt && !t.clk.pllEn) = true ∧
    runs (exec .refPresentTimeout { bench with dev := { state := .boot }, clk := {} })
      (fun t => t.dev.state == .halt) = true := by decide +kernel

theorem witness_ApplicationCoreCommands :
    runs (exec (.verifyComplete noImage noImage .erased) (supBus { bench with dev := { state := .verify } }))
      (fun t => t.dev.state == .safe && t.trust.image.result0 == 9) = true ∧
    runs (exec (.appReverifyComplete noImage noImage) (supBus { bench with dev := { state := .run, reverify := true } }))
      (fun t => t.dev.state == .safe && !t.dev.reverify) = true ∧
    objAppReset.Admits mg tU8 [1] bench ∧
    runs (exec (.appWdtCtrlWrite 0x80000001) bench) (fun t => t.dev.wdt.on && t.dev.wdt.period == 1) = true ∧
    runs (exec (.appWdtCtrlWrite 0x80002710) bench) (fun t => t.dev.wdt.on && t.dev.wdt.period == 10000) = true ∧
    runs (exec (.appWdtCtrlWrite 0) { bench with dev := { bench.dev with wdt := { on := true, period := 7 } } })
      (fun t => t.dev.wdt.on && t.dev.wdt.period == 7) = true ∧
    runs (exec (.appWdtKick 0xA5) { bench with now := 7, dev := { bench.dev with wdt := { on := true, period := 1 } } })
      (fun t => t.dev.wdt.deadline == 240007) = true ∧
    runs (exec (.appWdtKick 0xA4) { bench with dev := { bench.dev with wdt := { on := true } } })
      (fun t => t.dev.reverify && t.dev.appResets.value == 1) = true ∧
    runs (exec .appWdtExpire { bench with dev := { bench.dev with wdt := { on := true } } })
      (fun t => t.dev.reverify && !t.dev.wdt.on) = true := by decide +kernel

theorem witness_ClockAndReferenceCommands :
    runs (exec (.clockMonitorFail .pll 3) bench) (fun t => t.clk.clockLost && t.dev.state == .halt) = true ∧
    runs (exec .refReadySet { bench with dev := { bench.dev with refReady := false } })
      (fun t => t.dev.refReady && (t.engine 3).refHigh) = true ∧
    runs (exec .refReadyTimeout { bench with dev := { bench.dev with refReady := false } })
      (fun t => (t.badger.queue.map (·.kind)) == [0x20]) = true ∧
    runs (exec (.refWindowFail 0x8000) bench) (fun t => !t.dev.refReady) = true ∧
    runs (exec (.refVoltsUpdate 0x1234) bench) (fun t => t.refMon.mon == 0x1234) = true := by decide +kernel

theorem witness_TimebaseCommands :
    runs (step { bench with clk := { bench.clk with rate := -1 } }) (fun t => t.clk.tbc == 0 && t.clk.frac == 0xFFFFFFFF) = true ∧
    runs (step { bench with clk := { bench.clk with rate := 1, frac := 0xFFFFFFFF } })
      (fun t => t.clk.tbc == 2 && t.clk.frac == 0) = true ∧
    runs (step { bench with clk := { bench.clk with tbcSet := 9, loadPending := true } })
      (fun t => t.clk.tbc == 9 && !t.clk.loadPending) = true ∧
    runs (step { bench with clk := {} }) (fun t => t.now == 1 && t.clk.tbc == 0) = true ∧
    runs (exec (.tbcRateWrite 0x000D1B72) bench) (fun t => t.clk.rate == 858993 && t.clk.rateClamp) = true ∧
    runs (exec (.tbcRateWrite 0xFFF2E48F) bench) (fun t => t.clk.rate == -858993 && !t.clk.rateClamp) = true ∧
    runs (exec (.tbcLoad 1) bench) (fun t => t.clk.loadPending) = true := by
  decide +kernel

theorem witness_CounterRegisterCommands :
    runs (exec (.counterWrite .sup 0x40012804 7 true) bench)
      (fun t => t.trig.clrCount.value == 8 && t.trig.clrCount.collide) = true ∧
    runs (exec (.statusW1c .sup 0x40012808 1 false true)
        { bench with trig := { bench.trig with clrCount := { value := 3, wrap := true } } })
      (fun t => !t.trig.clrCount.wrap && t.trig.clrCount.collide && t.trig.clrCount.value == 3) = true ∧
    runs (exec (.periodRegWrite .scan 16) bench) (fun t => t.aux.period == 16) = true ∧
    runs (exec (.periodRegWrite (.pwgPeriod 3) 2) bench) (fun t => (t.trig.pwgs[3]).period == 2) = true ∧
    runs (exec (.semWrite .app 31 1) bench) (fun t => t.hamper.sems[31] == some .app) = true ∧
    semOpen { bench with hamper := { bench.hamper with sems := Vector.replicate 32 (some .sup) } } .app 0 = false ∧
    runs (exec (.semWrite .sup 31 1) { bench with hamper := { bench.hamper with sems := Vector.replicate 32 (some .app) } })
      (fun t => t.hamper.sems[31] == some .sup && t.hamper.sems[30] == some .app) = true ∧
    runs (exec (.semWrite .app 0 0) { bench with hamper := { bench.hamper with sems := Vector.replicate 32 (some .app) } })
      (fun t => t.hamper.sems[0] == none && t.hamper.sems[1] == some .app) = true ∧
    runs (exec (.semWrite .app 0 0) { bench with hamper := { bench.hamper with sems := Vector.replicate 32 (some .sup) } })
      (fun t => t.hamper.sems[0] == some .sup) = true := by decide +kernel

theorem witness_BusAccessStopsOutsideTheBlocks :
    busRegAt .app 0x3FFFFFFC = none ∧ busRegAt .sup 0x40000402 = none ∧ xipWrite .app 0x40000402 = false ∧
    (busRegAt .app 0x40000410).isSome = true ∧ (busRegAt .app 0x40001000).any (fun r => r.barred .app) = true ∧
    (busRegAt .app 0x40012804).any (fun r => !r.barred .app) = true ∧
    runs (exec (.registerWrite .app 0x201FFFFF 1) bench) (fun t => t.emit == [.storeFault 0x201FFFFF]) = true ∧
    (Instr.tbcLoad 0).accesses = false ∧ blockAllocated 0x7FF = true ∧ (busRegAt .sup 0x401FFFFC).isSome = true := by
  decide +kernel

theorem witness_LoopTimingCommands :
    runs (exec (.loopTick 0 aWin aWin) (bench.modEng 0 fun g => { g with nShadow := 800, nActive := 40, cycle := 99 }))
      (fun t => (t.engine 0).nActive == 800 && (t.engine 0).cycle == 0 && (t.engine 1).nActive == 400) = true ∧
    winFits ((bench.modEng 0 fun g => { g with nActive := 40 }).engine 0) (bench.chan 0) aWin = true ∧
    (objLoopN 0).Admits mg tU16 (natBytes 2 40000) bench ∧
    (objPeakClear 3).Admits mg tU8 [1] bench ∧
    objSyncArm.Admits mg tU8 [1] { bench with clk := { bench.clk with syncMask := 0xF } } ∧
    objSyncArm.Admits mg tU8 [0] bench ∧
    runs (exec .loopSyncRestart { bench with now := 5, clk := { bench.clk with syncArmed := true, syncMask := 2 } })
      (fun t => !t.clk.syncArmed && (t.engine 1).base == 5 && (t.engine 0).base == 0) = true := by decide +kernel

theorem witness_BootWithStrap :
    runs (exec (.bootEntry ([], [])) { State.reset with power := { good := 0x3F, aonHeld := false, straps := 8 } })
      (fun t => (t.badger.queue.map (·.kind)) == [0x00, 0x02] && !t.xip.cont) = true ∧
    verifyMay (supBus { bench with dev := { state := .verify } }) noImage noImage = true ∧
    verifyMay (supBus { bench with dev := { state := .run, reverify := true } }) noImage noImage = true := by decide +kernel

/-! ### Ownership, trust, modes, Badger (chapters 4, 6, 15) -/

theorem witness_OwnershipAndLimits :
    (objClaim 2).Admits ⟨.mgmt, .mgp, some 0⟩ tU8 [1] { bench with ch := Vector.replicate 8 {} } ∧
    runs (exec (.claim ⟨.mgmt, .mgp, some 0⟩ 2 1) { bench with ch := Vector.replicate 8 {} })
      (fun t => holds (t.chan 2).lock .mgmt && (t.chan 2).lock.epoch == 1 && (t.chan 1).lock.epoch == 0) = true ∧
    (objRelease 2).Admits mg tU8 [1] bench ∧
    runs (exec (.release mg 2 1) bench) (fun t => (t.chan 2).lock.state == .free && (t.chan 2).lock.epoch == 2) = true ∧
    runs (exec (.release mg 2 1) (bench.modCh 2 fun c => { c with mode := { c.mode with mode := .fv } }))
      (fun t => (t.chan 2).lock.state == .ramping && (t.chan 2).mode.status == .safeRamp) = true ∧
    runs (exec .mgmtAliveTimeout bench)
      (fun t => t.trust.instr.state == .locked && (t.chan 7).lock.kind == .none && (t.chan 7).lock.epoch == 2) = true ∧
    ((objLimit 0 1).all fun o => decide (o.Admits mg tF32 (natBytes 4 0x41200000) bench)) = true ∧
    runs (exec (.limitWrite mg 0 1 tF32 (natBytes 4 0x41200000)) bench)
      (fun t => (t.chan 0).lim.vMax == 0x41200000 && t.answer.code == eOk && t.trust.instr.record == .unsaved) = true ∧
    ((objLimit 0 2).all fun o => decide (o.Admits mg tF32 (natBytes 4 0x41200000) bench)) = true ∧
    ((objLimit 0 3).all fun o => decide (o.Admits mg tF32 (natBytes 4 0x41200000) bench)) = true ∧
    ((objLimit 0 4).all fun o => decide (o.Admits mg tU16 (natBytes 2 1) bench)) = true ∧
    ((objLimit 0 5).all fun o => decide (o.Admits mg tF32 (natBytes 4 0x3727C5AC) bench)) = true ∧
    ((objLimit 0 6).all fun o => decide (o.Admits mg tU8 [31] bench)) = true ∧
    ((objLimit 0 7).all fun o => decide (o.Admits mg tF32 (natBytes 4 0x3F000000) bench)) = true ∧
    (objLimit 0 8).isNone = true := by decide +kernel

theorem witness_ModeRequestsAreChecked :
    (objMode 0).Admits mg tU8 [1] bench ∧
    runs (exec (.modeRequest mg 0 1) bench) (fun t => (t.chan 0).mode.pending == some .idle && (t.chan 0).mode.mode == .off) = true ∧
    (objMode 0).Admits mg tU8 [0] bench ∧
    (objMode 0).Admits mg tU8 [0] (ch0 fun c => { c with mode := { c.mode with mode := .fv, status := .safeRamp } }) ∧
    (objOffNow 0).Admits mg tU8 [1] (ch0 fun c => { c with mode := { c.mode with mode := .fv } }) ∧
    ¬ (objMode 0).Admits mg tU8 [1] { bench with dev := { bench.dev with state := .safe } } ∧
    ¬ (objMode 0).Admits mg tU8 [8] (ch0 fun c => { c with mode := { c.mode with mode := .fv } }) ∧
    runs (exec (.modeRequest mg 0 12) bench) (fun t => t.answer.code == eRange && (t.chan 0).mode.lastReject == eRange) = true := by
  decide +kernel

/-- The bench with a change from FV to IDLE waiting for a range change at its switch tick. -/
def waiting : State :=
  ch0 fun c => { c with mode := { c.mode with mode := .fv, pending := some .idle, status := .waitRange }, loop := { c.loop with rsw := true } }

theorem witness_ModeChangesAtABoundary :
    runs (exec (.modeChangeApply 0) (ch0 fun c => { c with mode := { c.mode with mode := .fv, offNow := true } }))
      (fun t => (t.chan 0).mode.mode == .off && (t.chan 0).mode.offReason == .offNow && (t.chan 1).mode.mode == .off) = true ∧
    runs (exec (.modeChangeApply 0) (ch0 fun c => { c with mode := { c.mode with mode := .idle, pending := some .off } }))
      (fun t => (t.chan 0).mode.mode == .off && (t.chan 0).mode.offReason == .modeRequest) = true ∧
    runs (exec (.modeChangeApply 0) (ch0 fun c => { c with mode := { c.mode with mode := .fv, pending := some .idle } }))
      (fun t => (t.chan 0).mode.mode == .fv && (t.chan 0).mode.status == .safeRamp && (t.chan 0).mode.target == .idle) = true ∧
    runs (exec (.modeChangeApply 0) (ch0 fun c => { c with mode := { c.mode with mode := .fv, pending := some .fvProfile } }))
      (fun t => (t.chan 0).mode.mode == .fvProfile && (t.chan 0).mode.changes.value == 1) = true ∧
    runs (exec (.modeChangeApply 0) (ch0 fun c => { c with mode := { c.mode with mode := .idle, pending := some .nested } }))
      (fun t => (t.chan 0).mode.mode == .nested && (t.chan 0).mode.status == .stable) = true ∧
    runs (exec (.modeChangeApply 0) (ch0 fun c => { c with mode := { c.mode with mode := .fiList, pending := some .off } }))
      (fun t => (t.chan 0).mode.mode == .fiList && (t.chan 0).mode.status == .safeRamp && (t.chan 0).mode.target == .off) = true ∧
    runs (exec (.modeChangeApply 0) (ch0 fun c => { c with mode := { c.mode with pending := some .meter } }))
      (fun t => (t.chan 0).mode.mode == .meter && (t.chan 0).clamp.armed) = true ∧
    runs (exec (.modeChangeApply 0) (ch0 fun c => { c with mode := { c.mode with mode := .meter, pending := some .off } }))
      (fun t => (t.chan 0).mode.mode == .off && (t.chan 0).mode.offReason == .modeRequest) = true ∧
    (waiting.chan 0).mode.status = .waitRange ∧ (waiting.chan 0).loop.rsw = true ∧
    runs (exec (.modeChangeApply 0) waiting) (fun t => (t.chan 0).mode.mode == .fv && (t.chan 0).mode.pending == some .idle) = true := by
  decide +kernel

theorem witness_EnablingAndSafeRamp :
    runs (exec (.enableStart 0) (ch0 fun c => { c with mode := { c.mode with pending := some .fv } }))
      (fun t => (t.chan 0).mode.mode == .idle && (t.chan 0).mode.enable == some .started && (t.chan 0).mode.target == .fv
        && (t.chan 0).clamp.armed && (t.chan 0).out.enabling && (t.chan 0).sp.active == f64To32 0
        && (t.chan 0).out.code == (bench.chan 0).zeroCode) = true ∧
    runs (exec (.enableStageOn 0) (ch0 fun c => { c with mode := { c.mode with enable := some .started } }))
      (fun t => (t.chan 0).mode.enable == some .stageOn) = true ∧
    runs (exec (.enableLoopClose 0) (ch0 fun c => { c with mode := { c.mode with enable := some .stageOn, target := .fv } }))
      (fun t => (t.chan 0).mode.enable == some .loopClosed && (t.chan 0).loop.first
        && (t.chan 0).slots.s == Vector.replicate 16 0) = true ∧
    runs (exec (.enableModeEntry 0)
        (ch0 fun c => { c with mode := { c.mode with mode := .idle, enable := some .loopClosed, target := .fv } }))
      (fun t => (t.chan 0).mode.mode == .fv && (t.chan 0).mode.enable == none && (t.chan 0).mode.status == .stable) = true ∧
    runs (exec (.enableLoopClose 0) (ch0 fun c => { c with mode := { c.mode with mode := .idle, enable := some .stageOn, target := .off } }))
      (fun t => (t.chan 0).mode.enable == none && (t.chan 0).mode.mode == .off) = true ∧
    (bench.chan 0).permits .idle = true ∧
    runs (exec (.enableLoopClose 0) (ch0 fun c => { c with mode := { c.mode with mode := .idle, enable := some .stageOn, target := .idle } }))
      (fun t => (t.chan 0).mode.enable == none && (t.chan 0).mode.mode == .idle && (t.chan 0).mode.status == .stable) = true ∧
    runs (exec (.safeRampEnd 0)
        (ch0 fun c => { c with mode := { c.mode with mode := .idle, status := .safeRamp, target := .off, rampReason := .trip } }))
      (fun t => (t.chan 0).mode.mode == .off && (t.chan 0).mode.offReason == .trip) = true ∧
    runs (exec (.safeRampEnd 0)
        (ch0 fun c => { c with mode := { c.mode with mode := .idle, status := .safeRamp, target := .idle } }))
      (fun t => (t.chan 0).mode.mode == .idle && (t.chan 0).mode.status == .stable) = true ∧
    runs (exec (.overrunFallback 0) (ch0 fun c => { c with mode := { c.mode with mode := .fv, overrunDue := true } }))
      (fun t => (t.chan 0).mode.romPi && (t.chan 0).mode.status == .safeRamp) = true ∧
    runs (exec (.powerLimitExceeded 0) (ch0 fun c => { c with powerCount := 16 }))
      (fun t => (t.chan 0).powerCount == 0 && (t.badger.queue.map (·.kind)) == [0x60]) = true := by decide +kernel

theorem witness_KeySlotsAndProtection :
    objKeyProgram.Admits mg tBlob (3 :: 0xA5 :: List.replicate 32 7) bench ∧
    runs (exec (.keyProgram mg (3 :: 0xA5 :: List.replicate 32 7)) bench)
      (fun t => (t.otp.slots[3]).keyed && (t.otp.slots[3]).hash == List.replicate 32 7 && !(t.otp.slots[2]).keyed) = true ∧
    objKeyDisable.Admits mg tBlob [0, 0xA5] bench ∧
    runs (exec (.keyDisable mg [0, 0xA5]) bench) (fun t => (t.otp.slots[0]).disabled && !(t.otp.slots[1]).disabled) = true ∧
    runs (exec (.protViolation 0x40000404) bench)
      (fun t => t.trust.protViol.value == 1 && (t.badger.queue.map (·.detail)) == [0x101]) = true ∧
    runs (exec (.protViolation 0x40000404)
        { bench with badger := { slots := [⟨3, srcProt, .note, 1⟩] } }) (fun t => t.badger.queue == []) = true := by
  decide +kernel

theorem witness_InstructorAccess :
    objUnlock.Admits mg tBlob [1, 2, 3, 4] (lockedOut 2 none) ∧ codeRight (lockedOut 2 none) [1, 2, 3, 4] = true ∧
    objLock.Admits mg tU8 [1] bench ∧ objSetCode.Admits mg tBlob [1, 2, 3, 4] bench ∧ objSave.Admits mg tU8 [1] bench ∧
    runs (exec (.save mg 1) bench) (fun t => t.trust.instr.saving == some (recordNow bench)) = true ∧
    runs (exec .saveComplete (supBus { bench with trust := { instr := { saving := some (recordNow bench) } } }))
      (fun t => t.trust.instr.saved == some (recordNow bench) && t.trust.instr.record == .valid) = true ∧
    runs (exec .unlockTimeout bench) (fun t => t.trust.instr.state == .locked) = true ∧
    runs (exec .lockoutEnd { bench with trust := { instr := { state := .lockout, failedStreak := 5, lastLockout := 60 } } })
      (fun t => t.trust.instr.state == .locked && t.lockoutRec == some ⟨5, 60, false⟩) = true := by decide +kernel

/-- A verifier that no code meets: it is one byte longer than any. -/
theorem wrong_code (k : Nat) (code : List Byte) :
    codeRight (lockedOut k (some (verifierOf bench code ++ [0]))) code = false := by
  have h : verifierOf (lockedOut k (some (verifierOf bench code ++ [0]))) code = verifierOf bench code := rfl
  show (verifierOf bench code ++ [0] == verifierOf (lockedOut k _) code) = false
  rw [h]; simp

theorem witness_InstructorAccess_codes :
    objUnlock.Admits mg tBlob [1, 2, 3, 4] (lockedOut 3 (some (verifierOf bench [1, 2, 3, 4] ++ [0]))) ∧
    codeRight (lockedOut 3 (some (verifierOf bench [1, 2, 3, 4] ++ [0]))) [1, 2, 3, 4] = false ∧
    objUnlock.Admits mg tBlob [1, 2, 3, 4] (lockedOut 4 (some (verifierOf bench [1, 2, 3, 4] ++ [0]))) ∧
    codeRight (lockedOut 4 (some (verifierOf bench [1, 2, 3, 4] ++ [0]))) [1, 2, 3, 4] = false :=
  ⟨rfl, wrong_code 3 _, rfl, wrong_code 4 _⟩

theorem witness_BadgerSlots :
    runs (exec .badgerClassify { bench with badger := { queue := [aMsg] } })
      (fun t => t.badger.queue == [] && t.badger.slot 5 8 == some ⟨5, 8, .note, 1⟩
        && (t.badger.history.map (·.msg)) == [aMsg] && t.badger.histSeq.value == 1) = true ∧
    runs (exec .badgerClassify { bench with badger := { queue := [{ aMsg with base := .warn }], slots := [⟨5, 8, .note, 9⟩] } })
      (fun t => t.badger.slot 5 8 == some ⟨5, 8, .warn, 10⟩) = true ∧
    appliedLevel { aMsg with base := .error } none = .error ∧ chOfSource 8 = some 0 ∧
    runs (exec .badgerClassify
        ((ch0 fun c => { c with mode := { c.mode with mode := .fv } }).modBadger fun b => { b with queue := [{ aMsg with base := .error }] }))
      (fun t => (t.chan 0).hold.due == (((bench.chan 0).errorAction 5).hold.due)) = true ∧
    appliedLevel { aMsg with base := .trip } none = .trip ∧
    runs (exec .badgerClassify
        ((ch0 fun c => { c with mode := { c.mode with mode := .fv } }).modBadger fun b => { b with queue := [{ aMsg with base := .trip }] }))
      (fun t => (t.chan 0).mode.mode == .off && (t.chan 0).mode.offReason == .trip) = true ∧
    appliedLevel { aMsg with base := .halt } none = .halt ∧
    runs (exec .badgerClassify { bench with badger := { queue := [{ aMsg with base := .halt }] } })
      (fun t => t.dev.state == .halt && t.dev.lastHalt == { aMsg with base := .halt }.word) = true ∧
    quietCloses { bench with badger := { slots := [⟨5, 8, .warn, 1⟩] } } 5 8 = true ∧
    runs (exec (.ackQuietClose 5 8) { bench with badger := { slots := [⟨5, 8, .warn, 1⟩, ⟨6, 8, .warn, 1⟩] } })
      (fun t => t.badger.slots == [⟨6, 8, .warn, 1⟩]) = true ∧
    objFaultAck.Admits mg tU16 (natBytes 2 0x0805) { bench with badger := { slots := [⟨5, 8, .trip, 1⟩] } } ∧
    runs (exec (.faultAck mg 0x0805) { bench with badger := { slots := [⟨5, 8, .trip, 1⟩, ⟨5, 9, .trip, 1⟩] } })
      (fun t => t.badger.slots == [⟨5, 9, .trip, 1⟩]) = true ∧
    objFaultAck.Admits mg tU16 (natBytes 2 0xFFFF) bench := by decide +kernel

theorem witness_MessagesTestModeAndEvents :
    runs (exec (.appPost 0x01000007) bench) (fun t => (t.badger.queue.map fun m => (m.base, m.detail)) == [(.warn, 7)]) = true ∧
    objForce.Admits mg tBlob [8, 0x50, 1, 0, 0, 9] bench ∧
    runs (exec (.force mg [8, 0x50, 1, 0, 0, 9]) bench)
      (fun t => (t.badger.queue.map fun m => (m.forced, m.kind, m.base, m.detail)) == [(true, 0x50, .warn, 9)]) = true ∧
    objTestEnter.Admits mg tU8 [0xA5] { bench with power := { bench.power with straps := 8 } } ∧
    objTestExit.Admits mg tU8 [1] { bench with badger := { testActive := true, injections := [⟨5, 0, 1, 9⟩] } } ∧
    objInject.Admits mg tBlob [5, 0, 0, 0, 1] { bench with badger := { testActive := true } } ∧
    runs (exec (.inject mg [1, 0, 2, 0, 1]) { bench with badger := { testActive := true } })
      (fun t => (t.badger.injections.map fun x => (x.target, x.arg, x.value)) == [(1, 2, 1)]) = true ∧
    runs (exec .injectionEnd { bench with badger := { testActive := true, injections := [⟨5, 0, 1, 9⟩, ⟨4, 0, 1, 3⟩] } })
      (fun t => t.badger.injections == [⟨5, 0, 1, 9⟩]) = true ∧
    (objEvtClear 3).Admits mg tU32 (natBytes 4 0xFF) bench ∧
    runs (exec .fifoPop { bench with events := { bench.events with fifo := [⟨0, 0, 0, 0, 0, 0, 0⟩] } })
      (fun t => t.events.fifo == []) = true := by decide +kernel

/-- The bench in factory test mode. -/
def testing : State := { bench with badger := { testActive := true } }

theorem witness_Injections :
    objInject.Admits mg tBlob [4, 0, 0, 0, 20] testing ∧
    runs (exec (.inject mg [4, 0, 0, 0, 20]) testing) (fun t => !t.dev.refReady && t.badger.refInjected
      && (t.badger.queue.map fun m => (m.kind, m.base, m.injected)) == [(0x21, .halt, true)]) = true ∧
    objInject.Admits mg tBlob [6, 0, 1, 0, 7] testing ∧ testing.linkOn = true ∧
    runs (exec (.inject mg [6, 0, 1, 0, 7]) testing) (fun t => t.emit == [.codeErrors 1 7]) = true ∧
    runs (exec (.inject mg [5, 0, 0, 0, 1]) testing) (fun t => t.dev.state == .halt && !t.clk.refPresent && t.clk.aonOnRc) = true := by
  decide +kernel

/-! ### The loop engine (chapter 7) -/

theorem witness_LoopArithmeticAndProducts :
    runs (exec (.leAdd 0 2 0 1) (inRun (runAB 0x7FFFFFFF 1))) (fun t => (t.engine 0).run.t[2] == 0x7FFFFFFF
      && (t.engine 0).run.flags == 0x80 && (t.engine 0).run.pc == 1) = true ∧
    runs (exec (.leSub 0 2 0 1) (inRun (runAB 3 5))) (fun t => (t.engine 0).run.t[2] == 0xFFFFFFFE
      && (t.engine 0).run.flags == 0) = true ∧
    runs (exec (.leMul 0 2 0 1) (inRun (runAB 0x40000000 0x20000000))) (fun t => (t.engine 0).run.t[2] == 0x20000000
      && (t.engine 0).run.cycles == 2) = true ∧
    runs (exec (.leMac 0 0 1) (inRun (runAB 2 3))) (fun t => (t.engine 0).run.acc == 6) = true ∧
    runs (exec (.leShr 0 2 0 30) (inRun (runAB 0x60000000 0))) (fun t => (t.engine 0).run.t[2] == 2) = true ∧
    runs (exec (.leDiv 0 2 0 1) (inRun (runAB 0x20000000 0x40000000))) (fun t => (t.engine 0).run.t[2] == 0x20000000
      && (t.engine 0).run.cycles == 18) = true ∧
    runs (exec (.leDiv 0 2 0 1) (inRun (runAB 0x80000000 0))) (fun t => (t.engine 0).run.t[2] == 0x80000000
      && (t.engine 0).run.flags == 0xC0) = true ∧
    runs (exec (.leLdi 0 0x3D 0x80) (inRun {})) (fun t => (t.engine 0).run.out == 0xC0000000) = true ∧
    runs (exec (.leLim 0 2 0 1) (inRun (runAB 9 0xFFFFFFFC))) (fun t => (t.engine 0).run.t[2] == 4) = true := by
  decide +kernel

theorem witness_LoopControlAndFilters :
    runs (exec (.leBneg 0 0 4) (inRun (runAB 0xFFFFFFFF 0))) (fun t => (t.engine 0).run.pc == 5 && (t.engine 0).run.cycles == 2) = true ∧
    runs (exec (.leBfs 0 7 4) (inRun {})) (fun t => (t.engine 0).run.pc == 1) = true ∧
    Instr.loop (.leAdd 0 0x18 0 0) = some (0, .add 0x18 0 0) ∧ (LoopInstr.add 0x18 0 0).wf = false ∧
    (runInputs (windup 2 (runAB 0x40000000 7)) 0).scheme = 2 ∧
    runs (exec (.leIntg 0 8 0 1) (windup 2 (runAB 0x40000000 7))) (fun t => (t.engine 0).run.s[0] == 7) = true ∧
    (runInputs (windup 1 (runAB 0x40000000 7)) 0).scheme = 1 ∧
    (runInputs (windup 1 (runAB 0x40000000 7)) 0).lo ≤ (runInputs (windup 1 (runAB 0x40000000 7)) 0).hi ∧
    runs (exec (.leIntg 0 8 0 1) (windup 1 (runAB 0x40000000 7))) (fun t => (t.engine 0).run.s[0] == 5) = true ∧
    (runInputs (windup 2 { runAB 0x40000000 7 with flags := 2 }) 0).scheme = 2 ∧
    runs (exec (.leIntg 0 8 0 1) (windup 2 { runAB 0x40000000 7 with flags := 2 })) (fun t => (t.engine 0).run.s[0] == 0) = true ∧
    runs (exec (.leBqd 0 1 0 0x1B 14) (inRun (runAB 1 0))) (fun t => (t.engine 0).run.cycles == 8) = true ∧
    runs (exec (.leEnd 0) (inRun { s := Vector.replicate 16 9 }))
      (fun t => (t.engine 0).run.ended && (t.chan 0).slots.s == Vector.replicate 16 9) = true ∧
    (bench.chan 0).loopClosed = false := by decide +kernel

theorem witness_EngineServiceAndPrograms :
    runs (exec (.engineService 1) bench) (fun t => t == bench) = true ∧
    (((ch0 sampled).chan 0).awaits) = true ∧
    runs (exec (.engineService 0) (ch0 sampled))
      (fun t => !(t.chan 0).loop.sampled && (t.chan 0).out.queue.length == 1 && (t.engine 0).peakLoad != 0) = true ∧
    runs (exec (.outerStep 0) (ch0 fun c =>
        { c with mode := { c.mode with mode := .nested }, loop := { c.loop with sampled := true, outerDue := true } }))
      (fun t => !(t.chan 0).loop.outerDue && (t.chan 0).loop.outerRan && (t.chan 0).loop.outerLeft == 8) = true ∧
    runs (exec (.deadlineOverrun 0) (ch0 sampled))
      (fun t => (t.chan 0).loop.ovrCount.value == 1 && !(t.chan 0).loop.sampled) = true := by decide +kernel

theorem witness_EngineServiceAndPrograms_programs :
    (decodeProgram true endProgram).isSome = true ∧ (objLoadMain 0).Admits mg tBlob endProgram bench ∧
    runs (exec (.loadMain mg 0 endProgram) bench) (fun t => ((t.chan 0).prog.userMain.map (·.words)) == some [0x7C000000]) = true ∧
    (decodeProgram false (endProgram.set 2 1)).isSome = true ∧ (objLoadOuter 0).Admits mg tBlob (endProgram.set 2 1) bench ∧
    runs (exec (.loadOuter mg 0 (endProgram.set 2 1)) bench) (fun t => ((t.chan 0).prog.userOuter.map (·.words)) == some [0x7C000000]) = true ∧
    (objUnload 0).Admits mg tU8 [1] bench ∧ (objUnload 0).Admits mg tU8 [2] bench ∧
    ((objNotch 0 3 1).all fun o => decide (o.Admits mg tF32 (natBytes 4 0x447A0000) bench)) = true ∧
    runs (exec (.notchDesign mg 0 3 1 0x447A0000) bench) (fun t => ((t.chan 0).notch[3]).f == 0x447A0000) = true ∧
    ((objNotch 0 3 2).all fun o => decide (o.Admits mg tF32 (natBytes 4 0x3F800000) bench)) = true ∧
    ((objNotch 0 3 3).all fun o => decide (o.Admits mg tF32 (natBytes 4 0x41A00000) bench)) = true := by decide +kernel

/-- Channel 0 ready for a run of the built-in program alone, after its first. -/
def plainly (c : Channel) : Channel := { sampled c with loop := { (sampled c).loop with first := false } }

theorem plainly_serves : PlainService (ch0 plainly) 0 (Nat.max 84 ((ch0 plainly).engine 0).cycle) := by
  unfold PlainService
  decide +kernel

theorem witness_EngineServiceAndPrograms_codes :
    runs (exec (.engineService 0) (ch0 plainly)) (fun t => (t.chan 0).out.queue.getLast? == some (codeOfRun (ch0 plainly) 0)
      && !(t.chan 0).loop.first) = true ∧
    runs (exec (.engineService 0) (ch0 fun c => { plainly c with out := { c.out with holdTick := true }, last := { c.last with code := 7 } }))
      (fun t => (t.chan 0).out.queue.getLast? == some 7) = true ∧
    runs (exec (.engineService 0) (bench.modCh 1 plainly)) (fun t => (t.chan 1).out.queue.length == 1 && !(t.chan 1).loop.sampled) = true ∧
    runs (exec (.engineService 0) ((ch0 plainly).modCh 1 plainly))
      (fun t => (t.chan 0).out.queue.length == 1 && (t.chan 1).out.queue.length == 1) = true ∧
    runs (exec (.leBqd 0 1 0 0x1B 14) (inRun { runAB 0 0 with s := Vector.replicate 16 5 }))
      (fun t => (t.engine 0).run.t[1] == 5 && (t.engine 0).run.s[14] == 15 && (t.engine 0).run.s[15] == 0xFFFFFFFB) = true := by decide +kernel

/-! ### Motion, supervision, tuning, converters (chapters 8 and 9) -/

theorem witness_MotionAndSupervision :
    runs (exec (.folEdge 0 true) { ch0 (fun c => { c with fol := { c.fol with lastEdge := some 5 } }) with
        clk := { bench.clk with tbc := 9 } })
      (fun t => (t.chan 0).fol.edges.value == 1 && (t.chan 0).fol.lastPeriod == some 4) = true ∧
    runs (exec (.folStandstill 0) (ch0 fun c => { c with fol := { c.fol with src := 1, valid := true } }))
      (fun t => !(t.chan 0).fol.valid && (t.chan 0).fol.standstill) = true ∧
    runs (exec (.followingErrorReport 0) (ch0 fun c => { c with fe := { c.fe with count := 100 } }))
      (fun t => (t.chan 0).fe.count == 0 && (t.badger.queue.map fun m => (m.kind, m.base)) == [(0x70, .error)]) = true ∧
    runs (exec (.oscillationReport 0) (ch0 fun c => { c with osc := { c.osc with count := 20 } }))
      (fun t => (t.chan 0).osc.count == 0 && (t.badger.queue.map (·.kind)) == [0x80]) = true ∧
    (objSrcResume 0).Admits mg tU8 [1] (ch0 fun c => { c with hold := { c.hold with held := 1 } }) ∧
    (objSrcResume 0).Admits mg tU8 [1] (ch0 fun c => { c with hold := { c.hold with due := 2 } }) := by decide +kernel

theorem witness_TuneAndLacCommands :
    runs (exec (.tuneSegmentClose 0) (ch0 fun c => { c with loop := { c.loop with tuneDue := true } }))
      (fun t => (t.chan 0).tune.segsDone.value == 1 && (t.chan 0).loop.extra == 40 && !(t.chan 0).loop.tuneDue) = true ∧
    ((ch0 fun c => { c with mode := { c.mode with mode := .tune }, tune := { c.tune with segNo := 16 } }).chan 0).tune.over = true ∧
    runs (exec (.tuneDone 0) (ch0 fun c => { c with mode := { c.mode with mode := .tune }, tune := { c.tune with segNo := 16 } }))
      (fun t => (t.chan 0).tune.done) = true ∧
    runs (exec (.tuneSegmentClose 0) bench) (fun t => t == bench) = true ∧
    runs (exec (.lacFrameEnd 0) (ch0 fun c => { c with lac := { c.lac with state := .adapting, frameTick := 4096 } }))
      (fun t => (t.chan 0).lac.frameTick == 0 && (t.chan 0).lac.state == .frozen && (t.chan 0).lac.freezeWhy != 0) = true ∧
    runs (exec (.lacUpdate 0) (ch0 fun c => { c with loop := { c.loop with lacDue := true } }))
      (fun t => !(t.chan 0).loop.lacDue && (t.chan 0).loop.extra == 64) = true ∧
    (objLacRevert 0).Admits mg tU8 [1] bench ∧ (objLacResume 0).Admits mg tU8 [1] bench ∧
    (objLacResume 0).Admits mg tU8 [1] (ch0 fun c => { c with lac := { c.lac with state := .frozen } }) := by decide +kernel

/-- The bench with a capture being copied, the oldest bulk copy. -/
def copying : State :=
  (ch0 fun c => { c with cap := { c.cap with state := .copying, ring := 7, len := 1, codes := [⟨1, false, false, false⟩] } }).modHam fun h =>
    { h with bulk := [.capture 0] }

/-- The bench with both calibration points of channel 0 measured. -/
def calibrated : State :=
  ch0 fun c => { c with conv := { c.conv with zeroMean := some 0, fullMean := some (f32To64 0x4AC00000) } }

theorem witness_CaptureCalibrationAndScans :
    (objCapArm 0).Admits mg tU8 [1] bench ∧
    runs (exec (.captureStart 0) (ch0 fun c => { c with cap := { c.cap with state := .armed, triggered := true } }))
      (fun t => (t.chan 0).cap.state == .capturing) = true ∧
    runs (exec (.captureStart 0) (ch0 fun c => { c with cap := { c.cap with state := .armed } }))
      (fun t => (t.chan 0).cap.state == .armed) = true ∧
    ({ bench.chan 0 with cap := { (bench.chan 0).cap with state := .capturing } } : Channel).captureTrigger.cap.missed.value = 1 ∧
    runs (exec (.captureComplete 0 [⟨1, false, false, false⟩, ⟨2, true, false, false⟩])
        (ch0 fun c => { c with cap := { c.cap with state := .capturing, len := 2 } }))
      (fun t => (t.chan 0).cap.state == .copying && (t.chan 0).cap.codes == []) = true ∧
    runs (exec (.captureComplete 0 [⟨1, false, false, false⟩, ⟨2, true, false, false⟩])
        (ch0 fun c => { c with cap := { c.cap with state := .capturing, len := 2, ring := 7 } }))
      (fun t => (t.chan 0).cap.state == .copying && (t.chan 0).cap.codes.length == 2) = true ∧
    runs (exec (.captureCopyDone 0) (ch0 fun c => { c with cap := { c.cap with state := .copying } }))
      (fun t => (t.chan 0).cap.state == .idle) = true ∧
    headSource copying 12 = some (.capture 0) ∧
    runs (exec (.hwRecordWrite (.capture 0)) (onPort 12 copying))
      (fun t => (t.chan 0).cap.codes == [] && (t.chan 0).cap.index == 1) = true ∧
    (objCalPoint 0).Admits mg tU8 [2] (ch0 fun c => { c with mode := { c.mode with mode := .fv } }) ∧
    runs (exec (.calCaptureDone 0)
        (ch0 fun c => { c with conv := { c.conv with calStatus := .capturing, capOpen := true, capFull := true, capTicks := 4, capSum := 8 } }))
      (fun t => (t.chan 0).conv.fullMean == some (f32To64 0x40000000) && (t.chan 0).conv.zeroMean == none) = true ∧
    (objCalCompute 0).Admits mg tU8 [1] calibrated ∧
    ((calibrated.chan 0).conv.calResult 1 (calibrated.chan 0).trueDs).isSome = true ∧
    runs (exec (.calCompute mg 0 1) calibrated) (fun t => (t.chan 0).conv.calStatus == .outOfRange && t.answer.code == eRange) = true ∧
    (objCalCompute 0).Admits mg tU8 [2] calibrated ∧
    runs (exec (.calCompute mg 0 2) calibrated) (fun t => (t.chan 0).conv.calStatus == .applied && t.answer.code == eOk) = true ∧
    runs (exec (.phaseUpdate 0) bench) (fun t => t == bench) = true ∧
    runs (exec (.phaseUpdate 0) (ch0 fun c => { c with actProg := { c.actProg with timing := 1 } })) (fun _ => true) = true := by
  decide +kernel

theorem witness_CaptureCalibrationAndScans_scans :
    objScanStart.Admits mg tU8 [1] bench ∧ objScanStop.Admits mg tU8 [1] bench ∧ objUrgReq.Admits mg tU8 [23] bench ∧
    objScanStop.Admits mg tU8 [1] { bench with aux := { bench.aux with state := .scanning } } ∧
    runs (exec .scanTimerWrap { bench with aux := { bench.aux with src := 1, period := 77 } })
      (fun t => t.aux.periodActive == 77) = true ∧
    runs (exec .scanDelayEnd { bench with aux := { bench.aux with state := .delay } })
      (fun t => t.aux.state == .scanning) = true ∧
    runs (exec .auxSlotStart { bench with aux := { bench.aux with urgent := [⟨.host, 4, 0⟩] } })
      (fun t => (t.aux.slot.map fun j => (j.input, j.req)) == some (4, some .host)) = true ∧
    runs (exec (.auxResult 0x1234 true)
        { bench with aux := { bench.aux with inFlight := [⟨4, false, some .host, false, false, 0, false, true, none⟩] } })
      (fun t => t.aux.urgResult == 0x1234 && t.aux.urgDone) = true ∧
    runs (exec (.auxResult 0x1234 true)
        { bench with aux := { bench.aux with slot := some ⟨4, false, none, false, false, 0, false, true, none⟩ } })
      (fun t => t.aux.slot.isNone && t.aux.inFlight == []) = true ∧
    runs (exec .auxSlotStart { bench with aux := { bench.aux with slot := some ⟨4, false, none, false, false, 0, false, true, none⟩ } })
      (fun t => t.aux.inFlight.length == 1) = true ∧
    runs (exec .scanEnd { bench with aux := { bench.aux with state := .scanning, stopDue := true, todo := [3] } })
      (fun t => t.aux.state == .idle && !t.aux.stopDue) = true ∧
    runs (exec .scanEnd { bench with aux := { bench.aux with state := .scanning } }) (fun t => t.aux.state == .idle) = true := by
  decide +kernel

/-! ### Outputs, clamps, ranges, triggers (chapter 10) -/

theorem witness_ClearAndClampCommands :
    runs (exec .clrNFall (ch0 fun c => { c with actSp := { c.actSp with clrEn := true }, mode := { c.mode with mode := .fv } }))
      (fun t => (t.chan 0).out.clrHeld && t.trig.clrCount.value == 1 && !t.trig.clrN) = true ∧
    runs (exec .clrNRise (ch0 fun c => { c with out := { c.out with clrHeld := true } }))
      (fun t => !(t.chan 0).out.clrHeld && t.trig.clrN) = true ∧
    runs (exec (.clampTrip 0 .v) (ch0 fun c => { c with mode := { c.mode with mode := .fv } }))
      (fun t => (t.chan 0).clamp.trippedV && (t.chan 0).clamp.trips.value == 1 && (t.badger.queue.map (·.kind)) == [0x50]) = true ∧
    runs (exec (.clampTrip 0 .i) (ch0 fun c => { c with clamp := { c.clamp with trippedI := true } }))
      (fun t => (t.chan 0).clamp.trips.value == 0) = true ∧
    runs (exec .clrNFall { bench with dev := { bench.dev with state := .safe } }) (fun t => t.trig.clrCount.value == 0) = true ∧
    runs (exec (.clampRelease 0) bench) (fun t => t == bench) = true ∧
    ((ch0 fun c => { c with clamp := { c.clamp with trippedI := true, relI := 16 } }).chan 0).mayRelease = true ∧
    runs (exec (.clampRelease 0) (ch0 fun c => { c with clamp := { c.clamp with trippedI := true, relI := 16 } }))
      (fun t => !(t.chan 0).clamp.trippedI) = true ∧
    runs (exec (.clampHoldRepeat 0 .i) (ch0 fun c => { c with clamp := { c.clamp with trippedI := true } }))
      (fun t => (t.badger.queue.map (·.detail)) == [0x103FF]) = true := by decide +kernel

theorem witness_RangeChanges :
    (objRangeReq 0).Admits mg tU8 [0] (ch0 fun c => { c with mode := { c.mode with mode := .fv } }) ∧
    (bench.chan 0).range = 0 ∧ (bench.chan 0).rng.running = false ∧
    (objRangeReq 0).Admits mg tU8 [2]
      (ch0 fun c => { c with mode := { c.mode with mode := .fv }, decl := { c.decl with rangeCount := 4 } }) ∧
    runs (exec (.rangeReq mg 0 2) (ch0 fun c => { c with mode := { c.mode with mode := .fv }, decl := { c.decl with rangeCount := 4 } }))
      (fun t => (t.chan 0).rng.target == some 2 && (t.chan 0).rng.changing && (t.chan 0).rng.active == none) = true ∧
    runs (exec (.rangeMake 0)
        (ch0 fun c => { c with mode := { c.mode with mode := .fv }, rng := { target := some 0, changing := true } }))
      (fun t => (t.chan 0).rng.phase == .make && !(t.chan 0).out.holdTick) = true ∧
    runs (exec (.rangeMake 0)
        (ch0 fun c => { c with mode := { c.mode with mode := .fv }, rng := { target := some 0, changing := true, method := 1 } }))
      (fun t => (t.chan 0).rng.phase == .hold && (t.chan 0).out.holdTick && (t.chan 0).rng.left == 1) = true ∧
    runs (exec (.rangeSwitch 0) (ch0 fun c => { c with rng := { target := some 0, changing := true, phase := .make } }))
      (fun t => (t.chan 0).rng.active == some 0 && (t.chan 0).rng.phase == .break_ && (t.chan 0).loop.rsw) = true ∧
    runs (exec (.rangeBreakEnd 0) (ch0 fun c => { c with rng := { target := some 0, active := some 0, phase := .break_ } }))
      (fun t => (t.chan 0).rng.phase == .idle && (t.chan 0).rng.changes.value == 1) = true ∧
    runs (exec (.rangeHoldSwitch 0) (ch0 fun c => { c with rng := { target := some 0, phase := .hold, method := 1 } }))
      (fun t => (t.chan 0).rng.phase == .idle && (t.chan 0).rng.active == some 0 && (t.chan 0).rng.changes.value == 1) = true ∧
    runs (exec (.rangeNoOverlap 0)
        (ch0 fun c => { c with mode := { c.mode with mode := .meter }, rng := { target := some 0, method := 2 } }))
      (fun t => (t.chan 0).rng.active == some 0 && (t.chan 0).rng.changes.value == 1) = true := by decide +kernel

theorem witness_FastStepsTriggersAndSweeps :
    (objFastArm 0).Admits mg tU8 [1] (ch0 fun c => { c with mode := { c.mode with mode := .fv }, fast := { c.fast with src := 1 } }) ∧
    runs (exec (.fastFire 0) (ch0 fun c => { c with fast := { c.fast with state := .armed } }))
      (fun t => (t.chan 0).fast.state == .fired && (t.chan 0).out.fastHeld) = true ∧
    runs (exec (.fastSpApply 0) (ch0 fun c => { c with mode := { c.mode with mode := .fv }, fast := { c.fast with state := .fired, due := [(0x3F800000, false)] } }))
      (fun t => (t.chan 0).fast.state == .idle && (t.chan 0).sp.active == 0x3F800000) = true ∧
    runs (exec (.fastFire 0) bench) (fun t => t == bench) = true ∧ runs (exec (.fastSpApply 0) bench) (fun t => t == bench) = true ∧
    runs (exec (.triginEdge 3) { bench with dev := { bench.dev with state := .safe } }) (fun t => (t.trig.ins[3]).count.value == 0) = true ∧
    runs (exec (.triginEdge 3) (ch0 fun c => { c with fast := { c.fast with state := .armed, src := 4 }, cap := { c.cap with state := .armed, src := 4 } }))
      (fun t => (t.chan 0).fast.state == .fired && (t.chan 0).cap.triggered && (t.trig.ins[3]).count.value == 1) = true ∧
    runs (exec (.pwgRun 1 1) bench) (fun t => (t.trig.pwgs[1]).run) = true ∧
    runs (exec (.pwgRun 1 0) (bench.modPwg 1 fun g => { g with run := true, out := true })) (fun t => !(t.trig.pwgs[1]).out) = true ∧
    runs (exec (.pwgWrap 1) (bench.modPwg 1 fun g => { g with run := true, period := 9 })) (fun t => (t.trig.pwgs[1]).periodActive == 9) = true ∧
    runs (exec (.pwgWidthEnd 1) (bench.modPwg 1 fun g => { g with run := true, out := true })) (fun t => !(t.trig.pwgs[1]).out) = true := by
  decide +kernel

/-! ### Rings, sweeps, arbiter (chapters 11 and 12) -/

/-- The stream ring of channel 0. -/
def streamRing : Ring := { num := 5, recSize := 16, producer := roleStream 0, consumer := 1 }

/-- The bench with a batch of one record staged for that ring. -/
def staged : State :=
  ((withRing streamRing).modCh 0 fun c => { c with stream := { c.stream with ring := 5 } }).modHam fun h =>
    { h with staging := [{ src := .stream 0, recs := [List.replicate 16 7] }] }

theorem witness_RingsAndHardwareRecords :
    objRingConfig.Admits mg tBlob [0, 5, 8, 0, 0, 1, 0, 1, 1, 1, 0xFF, 0, 0, 0, 0, 0] (withRing { appRing with num := 6 }) ∧
    (ringOfBlob [0, 5, 8, 0, 0, 1, 0, 1, 1, 1, 0xFF, 0, 0, 0, 0, 0]).isSome = true ∧
    runs (exec (.ringConfig mg [0, 5, 8, 0, 0, 1, 0, 1, 1, 1, 0xFF, 0, 0, 0, 0, 0]) (withRing { appRing with num := 6 }))
      (fun t => (t.hamper.ring 5).isSome && (t.hamper.ring 6).isSome && t.answer.code == eOk) = true ∧
    objRingFree.Admits mg tU16 (natBytes 2 5) (withRing openRing) ∧
    runs (exec (.ringFree mg 5) (withRing openRing)) (fun t => (t.hamper.ring 5).isNone) = true ∧
    objRingFlush.Admits mg tU16 (natBytes 2 5) (withRing { openRing with recs := [{ bytes := [1] }] }) ∧
    runs (exec (.ringFlush mg 5) (withRing { openRing with recs := [{ bytes := [1] }] }))
      (fun t => (t.hamper.ring 5).map (·.recs) == some []) = true ∧
    runs (exec .lossRateUpdate (withRing { openRing with lossTotal := 9, lossMark := 4 }))
      (fun t => (t.hamper.ring 5).map (·.lossPerS) == some 5) = true ∧
    headSource staged (poolReq (.stream 0)) = some (.stream 0) ∧ boundRing staged (.stream 0) = some streamRing ∧
    staged.hamper.fits streamRing (streamRing.slotsFor [List.replicate 16 7]) = true ∧
    runs (exec (.hwRecordWrite (.stream 0)) (onPort 0 staged))
      (fun t => t.hamper.staging == [] && (t.hamper.ring 5).map (·.recs.map (·.bytes)) == some [List.replicate 16 7]) = true ∧
    boundRing { bench with hamper := { bench.hamper with staging := [{ src := .stream 0, recs := [] }] } } (.stream 0) = none ∧
    runs (exec (.hwRecordWrite (.result 7)) bench) (fun t => t == bench) = true ∧
    runs (exec (.hwRecordWrite (.stream 0)) (onPort 0 { bench with hamper := { bench.hamper with staging := [{ src := .stream 0, recs := [] }] } }))
      (fun t => t.hamper.staging == []) = true := by decide +kernel

/-- A ring of 32-byte records without a free slot. -/
def fullRing (p : Policy) : Ring := { appRing with policy := p, maxPages := 0 }

theorem witness_RingPortsAndDatagrams :
    (withRing appRing).hamper.fits appRing 1 = true ∧
    runs (exec (.ringPush .app 1) (withRing appRing))
      (fun t => t.hamper.appPort.pushResult == 0 && (t.hamper.ring 5).map (·.recs.length) == some 1) = true ∧
    runs (exec (.ringPush .app 0) bench) (fun t => !t.hamper.appPort.pushCont) = true ∧
    runs (exec (.ringPop .app 2) bench) (fun t => t.hamper.appPort.popAsHost) = true ∧
    runs (exec (.ringPush .app 3) (withRing appRing)) (fun t => t.hamper.appPort.bundle.length == 1 && t.hamper.appPort.pushCont) = true ∧
    runs (exec (.ringPush .sup 1) bench) (fun t => t.hamper.supPort.pushResult == 3) = true ∧
    (withRing (fullRing .stall)).hamper.fits (fullRing .stall) 1 = false ∧
    runs (exec (.ringPush .app 1) (withRing (fullRing .stall))) (fun t => t.hamper.appPort.pushResult == 1) = true ∧
    runs (exec (.ringPush .app 1) (withRing (fullRing .dropNewest)))
      (fun t => t.hamper.appPort.pushResult == 2 && (t.hamper.ring 5).map (·.pendLoss) == some 1) = true ∧
    runs (exec (.ringPop .app 1) (withRing { appRing with recs := [{ bytes := [0, 0, 0, 7] }] }))
      (fun t => t.hamper.appPort.popValid && t.hamper.appPort.popData[0] == 7 && (t.hamper.ring 5).map (·.recs) == some []) = true ∧
    runs (exec (.ringPop .sup 1) bench) (fun t => !t.hamper.supPort.popValid && t.hamper.supPort.popRefused) = true ∧
    ringOpCode (withRing openRing) .mgmt 5 (fun _ => eOk) (·.consumer) eWriteOnly = eOk ∧
    runs (exec (.readRing mg 5 tBlob (natBytes 2 1)) (withRing { openRing with recs := [{ bytes := [1, 2] }, { bytes := [3] }] }))
      (fun t => t.answer.code == eOk && t.answer.data == [1, 2] && (t.hamper.ring 5).map (·.recs.length) == some 1) = true ∧
    ringOpCode (withRing openRing) .mgmt 5 (fun _ => eOk) (·.producer) eReadOnly = eOk ∧
    runs (exec (.writeRing mg 5 tBlob [1, 2, 3, 4, 5, 6, 7, 8]) (withRing openRing))
      (fun t => t.answer.code == eOk && (t.hamper.ring 5).map (·.recs) == some [{ bytes := [1, 2, 3, 4, 5, 6, 7, 8] }]) = true ∧
    runs (exec (.readRing mg 5 tBlob (natBytes 2 1024)) (withRing { openRing with recs := [{ bytes := [1, 2] }, { bytes := [3] }] }))
      (fun t => t.answer.data == [1, 2, 3] && (t.hamper.ring 5).map (·.recs.length) == some 0) = true ∧
    runs (exec (.writeRing mg 5 tBlob (List.replicate 16 4)) (withRing openRing))
      (fun t => t.answer.code == eOk && (t.hamper.ring 5).map (·.recs.length) == some 2) = true ∧
    (withRing { openRing with policy := .stall, maxPages := 0 }).hamper.fits { openRing with policy := .stall, maxPages := 0 } 1 = false ∧
    runs (exec (.writeRing mg 5 tBlob (List.replicate 8 4)) (withRing { openRing with policy := .stall, maxPages := 0 }))
      (fun t => t.answer.code == eRingFull) = true ∧
    runs (exec (.readRing mg 7 tBlob (natBytes 2 1)) (withRing openRing)) (fun t => t.answer.code == eNoObject) = true := by
  decide +kernel

theorem witness_RingRoundTrip :
    runs (exec (.ringPush .app 1) { withRing appRing with hamper :=
        { (withRing appRing).hamper with appPort := { pushRing := 5, pushData := #v[1, 2, 3, 4, 5, 6, 7, 8] } } })
      (fun t => runs (exec (.ringPop .sup 1) t) (fun u => u.hamper.supPort.popData == #v[1, 2, 3, 4, 5, 6, 7, 8])) = true := by
  decide +kernel

/-- The first record of the list as one that cannot be corrected. -/
def badStep (s : State) : State := s.modHam fun h => { h with rings := h.rings.map fun r => { r with recs := r.recs.map fun x => { x with bad := true } } }

theorem witness_FastStepsTriggersAndSweeps_sweeps :
    (objListStart 0).Admits mg tU8 [1]
      (ch0 fun c => { c with mode := { c.mode with mode := .fvList }, sweep := { c.sweep with listRing := 5 } }) ∧
    runs (exec (.listStart mg 0 1)
        (ch0 fun c => { c with mode := { c.mode with mode := .fvList }, sweep := { c.sweep with listRing := 5 } }))
      (fun t => (t.chan 0).sweep.listState == .running && t.answer.code == eOk) = true ∧
    (objListStop 0).Admits mg tU8 [1] (ch0 fun c => { c with sweep := { c.sweep with listState := .running } }) ∧
    runs (exec (.listStop mg 0 1) (ch0 fun c => { c with sweep := { c.sweep with listState := .running } }))
      (fun t => (t.chan 0).sweep.listState == .ended && (t.chan 0).sweep.endReason == 6) = true ∧
    (objSwpTrig 0).Admits mg tU8 [1]
      (ch0 fun c => { c with sweep := { c.sweep with advSrc := 6, listState := .running, phase := .waitTrig } }) ∧
    runs (exec (.swpTrig mg 0 1)
        (ch0 fun c => { c with sweep := { c.sweep with advSrc := 6, listState := .running, phase := .waitTrig } }))
      (fun t => (t.chan 0).sweep.startDue) = true ∧
    runs (exec (.stepAdvanceTrigger 0) (swept fun w => { w with advSrc := 6, phase := .waitTrig })) (fun t => (t.chan 0).sweep.startDue) = true ∧
    runs (exec (.stepAdvanceTrigger 0) (swept fun w => { w with advSrc := 6, listState := .waitStart })) (fun t => (t.chan 0).sweep.startDue) = true ∧
    runs (exec (.stepAdvanceTrigger 0) (swept fun w => { w with advSrc := 6, phase := .dwell })) (fun t => (t.chan 0).sweep.missed.value == 1) = true ∧
    runs (exec (.stepAdvanceTrigger 0) (swept fun w => { w with advSrc := 6, phase := .ranging, stepPolicy := 1 })) (fun t => (t.chan 0).sweep.trigPending) = true ∧
    runs (exec (.stepAdvanceTrigger 0) (swept fun w => { w with advSrc := 6, phase := .measure, stepPolicy := 2 })) (fun t => (t.chan 0).sweep.abortDue) = true := by
  decide +kernel

theorem witness_FastStepsTriggersAndSweeps_steps :
    (match (nextStep stepping 0).2 with | .step q => !q.rngEn && q.stepId == 3 | _ => false) = true ∧
    runs (exec (.stepStart 0) stepping)
      (fun t => ((t.chan 0).sweep.cur.map (·.dwell)) == some 2 && (t.chan 0).sweep.stepId == 3 && t.hamper.stepsTotal == 1) = true ∧
    runs (exec (.stepStart 0) (swept fun w => { w with startDue := true })) (fun t => (t.chan 0).sweep.endReason == 3) = true ∧
    (match (nextStep (badStep stepping) 0).2 with | .bad _ => true | _ => false) = true ∧
    runs (exec (.stepStart 0) (badStep stepping)) (fun t => (t.chan 0).sweep.endReason == 4) = true ∧
    runs (exec (.stepDwellEnd 0) (swept fun w => { w with phase := .dwell, cur := some (aStep true 4) }))
      (fun t => (t.chan 0).sweep.phase == .measure && (t.chan 0).sweep.left == 4) = true ∧
    runs (exec (.stepDwellEnd 0) (swept fun w => { w with phase := .dwell, cur := some (aStep true 0) }))
      (fun t => (t.chan 0).sweep.listState == .ended && (t.chan 0).sweep.endReason == 1) = true ∧
    runs (exec (.stepMeasureEnd 0)
        (swept fun w => { w with phase := .measure, window := { w.window with opened := true }, cur := some (aStep true 4) }))
      (fun t => (t.chan 0).sweep.endReason == 1) = true ∧
    runs (exec (.stepMeasureEnd 0)
        (swept fun w => { w with phase := .measure, advSrc := 6, window := { w.window with opened := true }, cur := some (aStep false 4) }))
      (fun t => (t.chan 0).sweep.phase == .waitTrig && (t.chan 0).sweep.cur.isNone && !(t.chan 0).sweep.startDue) = true ∧
    runs (exec (.stepMeasureEnd 0)
        (swept fun w => { w with phase := .measure, window := { w.window with opened := true }, cur := some (aStep false 4) }))
      (fun t => (t.chan 0).sweep.phase == .none && (t.chan 0).sweep.startDue) = true ∧
    runs (exec (.stepMeasureEnd 0)
        (swept fun w => { w with phase := .dwell, left := 3, abortDue := true, resultRing := 7, cur := some (aStep false 4) }))
      (fun t => (t.chan 0).sweep.cur.isNone && (t.chan 0).sweep.startDue && (t.chan 0).sweep.short.value == 1) = true := by
  decide +kernel

theorem witness_ArbiterCommands :
    (winner { bench with xip := { bench.xip with miss := some 3 } } .fsp).isSome = true ∧
    runs (exec (.arbGrant .fsp 9) { bench with xip := { bench.xip with miss := some 3 } })
      (fun t => t.bus.owner == some 1 && t.bus.parked == some 1) = true ∧
    runs (exec (.arbGrant .ronko 9) bench) (fun t => t.link.owner == none) = true ∧
    runs (exec (.grantEnd .pool) { bench with pool := { bench.pool with owner := some 0 } }) (fun t => t.pool.owner == none) = true ∧
    runs (exec (.grantEnd .fsp) { inEntry anEntry with bus := { bench.bus with owner := some 0 } }) (fun t => t.bus.owner == some 0) = true ∧
    runs (exec (.grantEnd .fsp) { bench with bus := { bench.bus with owner := some 0 } }) (fun t => t.bus.owner == none) = true ∧
    objArbCommit.Admits mg tU8 [1] bench ∧
    runs (exec (.arbCommit mg 1) bench) (fun t => t.pool.commitState == 1 && t.pool.pending.isSome) = true ∧
    runs (exec (.arbWindowBoundary .pool) { bench with pool := { bench.pool with pending := some { bench.pool.snapshot with window := 77 } } })
      (fun t => t.pool.commitState == 2 && t.pool.windowActive == 77) = true ∧
    requests { bench with xip := { bench.xip with miss := some 3 } } .fsp 1 = true ∧
    runs (exec (.arbWaitForce .fsp 1) { bench with xip := { bench.xip with miss := some 3 } })
      (fun t => t.bus.forcedNo == 1 && (t.bus.reqs[1]?.map (·.forced)) == some 1) = true := by decide +kernel

/-- A bundle of three records of the Ethernet receiver, of which some have been taken, with the port granted to it. -/
def frameBundle (sent : Nat) : State :=
  onPort 9 <| ({ withRing { num := 5, recSize := 16, producer := roleMacRx, consumer := 1, reserved := if sent = 0 then 0 else 3 } with
      eth := { bench.eth with rxRing := 5 } } : State).modHam fun h =>
    { h with staging := [{ src := .macRx, recs := List.replicate 3 (List.replicate 16 7), sent := sent, ring := 5 }] }

/-- A capture's copy into a ring of its channel, with the port granted to it. -/
def capturePort : State :=
  onPort 12 <| ((withRing { num := 5, recSize := 16, producer := roleCapture 0, consumer := 1 }).modCh 0 fun c => { c with
      cap := { c.cap with state := .copying, ring := 5, len := 1, codes := [⟨1, false, false, false⟩] } }).modHam fun h =>
    { h with bulk := [.capture 0] }

theorem witness_RingsAndHardwareRecords_bundles :
    headSource (frameBundle 0) (poolReq .macRx) = some .macRx ∧ (boundRing (frameBundle 0) .macRx).isSome = true ∧
    runs (exec (.hwRecordWrite .macRx) (frameBundle 0)) (fun t => (t.hamper.staging.map (·.sent)) == [1]
      && (t.hamper.ring 5).any (fun r => r.reserved == 3 && r.recs == []) && t.pool.owner == none) = true ∧
    runs (exec (.hwRecordWrite .macRx) (frameBundle 1)) (fun t => (t.hamper.staging.map (·.sent)) == [2]
      && t.hamper.rings == (frameBundle 1).hamper.rings) = true ∧
    runs (exec (.hwRecordWrite .macRx) (frameBundle 2)) (fun t => t.hamper.staging == []
      && (t.hamper.ring 5).any (fun r => r.reserved == 0 && r.recs.length == 3)) = true ∧
    headSource capturePort (poolReq (.capture 0)) = some (.capture 0) ∧
    runs (exec (.hwRecordWrite (.capture 0)) capturePort) (fun t => (t.chan 0).cap.codes == [] && (t.hamper.ring 5).any (·.recs.length == 1)) = true ∧
    runs (exec (.hwRecordWrite (.stream 0)) staged) (fun t => t == staged) = true := by decide +kernel

/-- The link granted to the triggers while the supervisor's express frame for port 1 waits. -/
def linkGranted : State :=
  { (withPort 1 fun q => { activePort q with xcredits := 4 }) with
    link := { bench.link with owner := some 0, cost := 10, waiters := [1] }
    ronko := { (withPort 1 fun q => { activePort q with xcredits := 4 }).ronko with sup := [⟨1, true, List.replicate 24 2⟩] } }

theorem witness_ArbiterCommands_ends :
    requests linkGranted .ronko 1 = true ∧
    runs (exec (.grantEnd .ronko) linkGranted) (fun t => t.link.owner == none && (t.link.reqs[1]?).map (·.wait) == some 10) = true ∧
    runs (exec (.grantEnd .pool) (onPort 0 staged)) (fun t => t.hamper.staging == [] && t.pool.owner == none) = true ∧
    runs (exec (.grantEnd .pool) bench) (fun t => t == bench) = true ∧
    runs (exec (.arbWindowBoundary .pool) { bench with pool := { bench.pool with reqs := bench.pool.reqs.map fun r => { r with credit := 0 - 500, granted := 3, masked := true } } })
      (fun t => (t.pool.reqs[0]?).any fun r => r.credit == (r.active.weight : Int) - 500 && r.granted == 0 && !r.masked) = true ∧
    runs (exec (.arbWindowBoundary .fsp) { bench.modFsp (fun f => { f with master := .released }) with bus := { bench.bus with reqs := bench.bus.reqs.map fun r => { r with credit := 3, granted := 2 } } })
      (fun t => (t.bus.reqs[1]?).any fun r => r.credit == 3 && r.granted == 0) = true := by decide +kernel

/-! ### The Ronko link (chapter 13) -/

theorem witness_PortsAndEnumeration :
    bench.linkOn = true ∧
    runs (exec (.signalDetect 1) (withPort 1 fun q => { q with link := .down })) (fun t => (t.port 1).link == .train) = true ∧
    runs (exec (.trainComplete 1) (withPort 1 fun q => { q with link := .train })) (fun t => (t.port 1).link == .align) = true ∧
    roleOfPort 1 = 2 ∧
    runs (exec (.alignComplete 1 7) (withPort 1 fun q => { q with link := .align, peerRole := 1, aligned := 8, delay := 7 }))
      (fun t => (t.port 1).link == .active && (t.port 1).credits == 8) = true ∧
    runs (exec (.alignComplete 1 9830) (withPort 1 fun q => { q with link := .align, peerRole := 1, aligned := 8, delay := 9830 }))
      (fun t => (t.port 1).link == .active) = true ∧
    runs (exec (.alignComplete 1 0) (withPort 1 fun q => { q with link := .align, peerRole := 2 }))
      (fun t => (t.port 1).link == .miswired) = true ∧
    runs (exec (.alignComplete 1 9831) (withPort 1 fun q => { q with link := .align, peerRole := 1, aligned := 8, delay := 9831 }))
      (fun t => (t.port 1).link == .tooLong) = true ∧
    runs (exec (.portRestart 1) (withPort 1 fun q => { q with link := .tooLong })) (fun t => (t.port 1).link == .down) = true ∧
    runs (exec (.linkLoss 1 .noSignal) (withPort 1 activePort))
      (fun t => (t.port 1).link == .down && (t.port 1).linkDowns.value == 1) = true ∧
    (objPortEn 1).Admits mg tBool [1] (withPort 1 fun q => { q with en := false }) ∧ (bench.port 1).link = .disabled ∧
    (objPortEn 1).Admits mg tBool [0] bench ∧
    runs (exec (.portEnWrite mg 1 1) (withPort 1 fun q => { q with en := false }))
      (fun t => (t.port 1).en && (t.port 1).link == .down && t.answer.code == eOk) = true ∧
    runs (exec (.eqAdapt 1 7 1 2 3 4) (withPort 1 fun q => { q with link := .train })) (fun t => (t.port 1).eqPeak == 7 && (t.port 1).dfe3 == 3) = true ∧
    eqMay { activePort (bench.port 1) with eqPeak := 7, eqTrained := true } 24000 8 [0, 0, 1] 12 = true ∧
    runs (exec (.eqAdapt 1 8 0 0 1 12) { withPort 1 (fun q => { activePort q with eqPeak := 7, eqTrained := true }) with now := 24000 })
      (fun t => (t.port 1).eqPeak == 8 && (t.port 1).peakAt == 24000) = true ∧
    eqMay { activePort (bench.port 1) with eqPeak := 7, eqTrained := true } 23999 8 [0, 0, 1] 12 = false ∧
    runs (exec (.eqAdapt 1 7 64 0 0 0) (withPort 1 fun q => { q with link := .train })) (fun t => (t.port 1).dfe1 == 0) = true ∧
    runs (exec (.eqAdapt 1 9 0 0 0 0) (withPort 1 fun q => { activePort q with eqPeak := 7 })) (fun t => (t.port 1).eqPeak == 7) = true ∧
    runs (exec (.alignComplete 1 0) (withPort 1 fun q => { q with link := .align, peerRole := 1, aligned := 7 })) (fun t => (t.port 1).link == .align) = true ∧
    runs (exec (.eyeUpdate 1 39 400) (withPort 1 fun q => { q with link := .down })) (fun t => t.badger.queue == [] && (t.port 1).eyeMv == 0) = true ∧
    runs (exec (.eyeUpdate 1 39 400) (withPort 1 activePort)) (fun t => (t.badger.queue.map (·.kind)) == [0xD3]) = true := by
  decide +kernel

theorem witness_LinkControlAndRetry :
    runs (exec (.lcAck 1 0 (crc8 [1, 0])) (withPort 1 (keptOne 1))) (fun t => (t.port 1).kept == []) = true ∧
    runs (exec (.lcXack 1 0 (crc8 [3, 0])) (withPort 1 (keptOne 1))) (fun t => (t.port 1).xkept == []) = true ∧
    runs (exec (.lcNak 1 0 (crc8 [2, 0])) (withPort 1 (keptOne 2)))
      (fun t => (t.port 1).kept.map (·.attempts) == [3] && t.emit.length == 2) = true ∧
    runs (exec (.lcXnak 1 0 (crc8 [4, 0])) (withPort 1 (keptOne 2))) (fun t => (t.port 1).xkept.map (·.attempts) == [3]) = true ∧
    runs (exec (.lcNak 1 0 (crc8 [2, 0])) (withPort 1 (keptOne 3)))
      (fun t => (t.port 1).link == .down && (t.port 1).kept == [] && (t.port 1).linkFails.value == 1) = true ∧
    runs (exec (.lcXnak 1 0 (crc8 [4, 0])) (withPort 1 (keptOne 3)))
      (fun t => (t.port 1).link == .down && (t.port 1).xkept == [] && (t.port 1).linkFails.value == 1) = true ∧
    runs (exec (.lcCredit 1 8 (crc8 [5, 8])) (withPort 1 fun q => { q with link := .active, credits := 1 }))
      (fun t => (t.port 1).credits == 8) = true ∧
    runs (exec (.lcXcredit 1 1 (crc8 [6, 1])) (withPort 1 fun q => { q with link := .active, xcredits := 1 }))
      (fun t => (t.port 1).xcredits == 2) = true ∧
    runs (exec (.lcHello 1 0x41 (crc8 [7, 0x41])) (withPort 1 fun q => { q with link := .align }))
      (fun t => (t.port 1).peerRole == 1) = true ∧
    runs (exec (.lcLinkdown 1 0 (crc8 [8, 0])) (withPort 1 activePort)) (fun t => (t.port 1).link == .down) = true ∧
    runs (exec (.lcHello 1 0x81 (crc8 [7, 0x81])) (withPort 1 fun q => { q with link := .align }))
      (fun t => (t.port 1).peerRole == 2) = true ∧
    runs (exec (.lcLinkdown 1 0 (crc8 [8, 0])) (withPort 1 fun q => { activePort q with en := false })) (fun t => (t.port 1).link == .disabled) = true ∧
    runs (exec (.lcAck 1 0 (crc8 [1, 0] + 1)) (withPort 1 (keptOne 1))) (fun t => (t.port 1).kept.length == 1) = true ∧
    runs (exec (.retryTimeout 1 false) (withPort 1 (keptOne 1))) (fun t => (t.port 1).kept.map (·.attempts) == [2]) = true ∧
    runs (exec (.retryTimeout 1 false) (withPort 1 (keptOne 3)))
      (fun t => (t.port 1).link == .down && (t.port 1).kept == [] && (t.port 1).linkFails.value == 1) = true ∧
    runs (exec (.frameFail 1 false) (withPort 1 (keptOne 1)))
      (fun t => (t.port 1).link == .down && (t.port 1).linkFails.value == 1 && (t.port 1).linkDowns.value == 1) = true ∧
    runs (exec (.retryTimeout 1 true) (withPort 1 (keptOne 1))) (fun t => (t.port 1).xkept.map (·.attempts) == [2]) = true ∧
    runs (exec (.retryTimeout 1 true) (withPort 1 (keptOne 3)))
      (fun t => (t.port 1).link == .down && (t.port 1).xkept == [] && (t.port 1).linkFails.value == 1) = true ∧
    runs (exec (.frameFail 1 true) (withPort 1 (keptOne 1)))
      (fun t => (t.port 1).link == .down && (t.port 1).linkFails.value == 1) = true ∧
    runs (exec (.retryTimeout 1 true) bench) (fun t => t.emit == []) = true := by
  decide +kernel

theorem witness_FrameReception :
    runs (exec (.normalFrameRx 1 [1, 2, 3] ⟨false, 0, 0⟩) (withPort 1 activePort))
      (fun t => (t.port 1).crcErrors.value == 1 && (t.port 1).nakSent && (t.port 1).rxFrames.value == 0) = true ∧
    crcGood (withCrc [0x10, 0, 0, 7, 0, 0, 0, 0]) = true ∧ normalForm (withCrc [0x10, 0, 0, 7, 0, 0, 0, 0]) = true ∧
    (frameRoute (withPort 1 activePort) 1 [0x10, 0, 0, 7, 0, 0, 0, 0]).here = false ∧
    runs (exec (.normalFrameRx 1 (withCrc [0x10, 0, 0, 7, 0, 0, 0, 0]) ⟨false, 0, 0⟩) (withPort 1 activePort))
      (fun t => (t.port 1).rxSeq == 1 && (t.port 1).rxFrames.value == 1) = true ∧
    seqPlace 1 0 8 = .ahead ∧ seqPlace 4 5 8 = .behind ∧
    runs (exec (.normalFrameRx 1 (withCrc [0x10, 1, 0, 7, 0, 0, 0, 0]) ⟨false, 0, 0⟩) (withPort 1 activePort))
      (fun t => (t.port 1).nakSent && (t.port 1).rxSeq == 0 && (t.port 1).rxFrames.value == 0) = true ∧
    runs (exec (.normalFrameRx 1 (withCrc [0x10, 4, 0, 7, 0, 0, 0, 0]) ⟨false, 0, 0⟩) (withPort 1 fun q => { activePort q with rxSeq := 5 }))
      (fun t => t.emit.contains (.linkControl 1 0x01 4 (crc8 [0x01, 4])) && (t.port 1).rxSeq == 5) = true ∧
    runs (exec (.normalFrameRx 1 [] ⟨false, 1, 0⟩) (withPort 1 activePort)) (fun t => (t.port 1).codeErrors.value == 1) = true ∧
    runs (exec (.expressFrameRx 1 [] ⟨false, 1, 0⟩) (withPort 1 activePort)) (fun t => (t.port 1).codeErrors.value == 1) = true ∧
    runs (exec (.normalFrameRx 1 [] ⟨true, 0, 0⟩) (withPort 1 activePort)) (fun t => (t.port 1).rxFrames.value == 0) = true ∧
    runs (exec (.expressFrameRx 1 [] ⟨true, 0, 0⟩) (withPort 1 activePort)) (fun t => (t.port 1).rxFrames.value == 0) = true ∧
    expressForm (withCrc ([1, 0, 0, 9] ++ List.replicate 20 0)) = true ∧
    runs (exec (.expressFrameRx 1 (withCrc ([1, 0, 0, 9] ++ List.replicate 20 0)) ⟨false, 0, 0⟩) (withPort 1 activePort))
      (fun t => (t.port 1).rxXseq == 1) = true ∧
    runs (exec (.normalFrameRx 2 [] ⟨false, 0, 0⟩) bench) (fun t => (t.port 2).rxFrames.value == 0) = true ∧
    runs (exec (.expressFrameRx 1 [1, 2, 3] ⟨false, 0, 0⟩) (withPort 1 activePort))
      (fun t => (t.port 1).crcErrors.value == 1 && (t.port 1).xnakSent) = true ∧
    expressForm (withCrc ([2, 0, 0xFF, 0xFE] ++ List.replicate 20 0)) = true ∧
    runs (exec (.expressFrameRx 1 (withCrc ([2, 0, 0xFF, 0xFE] ++ List.replicate 20 0)) ⟨false, 0, 0⟩) (withPort 1 activePort))
      (fun t => (t.port 1).rxXseq == 1 && (t.port 1).rxFrames.value == 1) = true := by decide +kernel

theorem witness_PortsAndEnumeration_enumeration :
    runs (exec .enumStart (withPort 1 activePort))
      (fun t => t.ronko.node.gen == 1 && t.ronko.node.waiting == some 1 && t.ronko.node.enum == .running) = true ∧ rkl = 1 ∧
    objEnumRestart.Admits mg tU8 [1] (withPort 1 activePort) ∧
    runs (exec (.enumAssign 7 2 true 3) ((withPort 1 activePort).modPort 0 activePort))
      (fun t => t.ronko.node.id == some 7 && t.ronko.node.level == 2 && t.ronko.node.nextId == 8) = true ∧
    runs (exec (.enumAssign 7 2 false 3) ((withPort 1 activePort).modPort 0 activePort))
      (fun t => t.ronko.node.id == none && t.ronko.node.nextId == 7) = true ∧
    runs (exec (.enumDone 1 9 2) ((withPort 1 activePort).modNode fun n => { n with waiting := some 1, todo := [2], nextId := 4 }))
      (fun t => (t.port 1).subFirst == 4 && (t.port 1).subCount == 5 && t.ronko.node.waiting == some 2) = true ∧
    runs (exec (.enumReady 3 9) ((withPort 0 activePort).modNode fun n => { n with enum := .running }))
      (fun t => t.ronko.node.enum == .ready && t.ronko.node.nodeCount == 9) = true ∧
    runs (exec .topoChange bench) (fun t => t.ronko.node.topoChanges.value == 1) = true ∧
    runs (exec .rootlessTimeout ((withPort 0 activePort).modNode fun n => { n with rootlessDue := true }))
      (fun t => t.ronko.node.enum == .rootless && (t.badger.queue.map (·.kind)) == [0xD5]) = true := by decide +kernel

theorem witness_TimeAndScheduledTriggers :
    runs (exec (.syncExchangeStart 0) (withPort 0 activePort))
      (fun t => t.ronko.time.open_ == some (1, none) && (t.ronko.sup.map fun x => (x.port, x.express)) == [(0, true)]) = true ∧
    runs (exec (.syncExchangeStart 1) (withPort 1 fun q => { q with link := .align })) (fun t => (t.port 1).alignOpen == some (1, 0) && t.emit.length == 1) = true ∧
    runs (exec (.timeReq 1 4 5 96) (withPort 1 activePort)) (fun t => (t.ronko.sup.map fun x => (x.port, x.express)) == [(1, true)]) = true ∧
    runs (exec (.timeReq 1 4 5 96) (withPort 1 fun q => { q with link := .align })) (fun t => t.emit.length == 1 && t.ronko.sup == []) = true ∧
    runs (exec (.timeRsp 1 (110, 120) 1 true 0) (withPort 1 fun q => { q with link := .align, alignOpen := some (1, 10), aligned := 7 }))
      (fun t => (t.port 1).aligned == 8 && (t.port 1).delay == -20 && (t.port 1).alignOpen == none) = true ∧
    runs (exec (.timeRsp 1 (110, 120) 2 true 0) (withPort 1 fun q => { q with link := .align, alignOpen := some (1, 10), aligned := 7 }))
      (fun t => (t.port 1).aligned == 7 && t.ronko.time.fails.value == 1) = true ∧
    runs (exec .exchangeTimeout (withPort 1 fun q => { q with link := .align, alignOpen := some (1, 10) }))
      (fun t => (t.port 1).alignOpen == none && t.ronko.time.fails.value == 1) = true ∧
    runs (exec (.timeRsp 0 (110, 120) 1 true 88)
        { (withPort 0 activePort).modTime (fun t => { t with open_ := some (1, some 10) }) with clk := { bench.clk with tbc := 1 } })
      (fun t => t.ronko.time.open_ == none && t.ronko.time.delay == 20 && t.ronko.time.offset == 180) = true ∧
    runs (exec (.timeRsp 0 (110, 120) 2 true 0) ((withPort 0 activePort).modTime fun t => { t with open_ := some (1, some 10) }))
      (fun t => t.ronko.time.fails.value == 1) = true ∧
    runs (exec .exchangeTimeout (bench.modTime fun t => { t with open_ := some (1, none) })) (fun t => t.ronko.time.open_ == none && t.ronko.time.fails.value == 1) = true ∧
    runs (exec .exchangeTimeout { (withPort 1 fun q => { q with link := .align, alignOpen := some (1, 300) }).modTime
        (fun t => { t with open_ := some (2, some 10) }) with clk := { bench.clk with tbc := 9 } })
      (fun t => t.ronko.time.open_ == none && (t.port 1).alignOpen == some (1, 300)) = true ∧
    oldestAlign (((bench.modPort 1 fun q => { q with alignOpen := some (1, 300) }).modPort 2 fun q => { q with alignOpen := some (2, 900) }).modPort 0
      fun q => { q with alignOpen := some (4, 2000) }) = some 1 ∧
    runs (exec .exchangeTimeout bench) (fun t => t.ronko.time.fails.value == 0) = true ∧
    objSchedTrig.Admits mg tBlob [0, 9, 0, 1, 0, 3, 0, 0, 0, 0, 0, 1, 0, 0, 0, 0] (bench.modNode fun n => { n with id := some 9 }) ∧
    runs (exec (.schedTrig mg [0, 9, 0, 1, 0, 3, 0, 0, 0, 0, 0, 1, 0, 0, 0, 0]) (bench.modNode fun n => { n with id := some 9 }))
      (fun t => (t.ronko.trig.pending.map (·.id)) == [3]) = true ∧
    (routeOf ((withPort 1 activePort).modNode fun n => { n with id := some 9, enum := .ready }) (some 1) 9 false).here = true ∧
    runs (exec (.trigFrame 1 9 99 3 0 0 1) ((withPort 1 activePort).modNode fun n => { n with id := some 9, enum := .ready }))
      (fun t => (t.ronko.trig.pending.map (·.target)) == [99]) = true ∧
    runs (exec .triggerExecute (bench.modTrig fun x => { x with pending := [{ target := 1, id := 3, origin := 0, addr := 9, gmask := 0, chmask := 1 }] }))
      (fun t => t.ronko.trig.pending.length == 1) = true ∧
    runs (exec .triggerExecute ((ch0 fun c => { c with fast := { c.fast with src := 5, state := .armed } }).modTrig fun x =>
        { x with pending := [{ target := 0, id := 3, origin := 0, addr := 9, gmask := 0, chmask := 1 }] }))
      (fun t => (t.chan 0).fast.state == .fired && t.ronko.trig.exec.value == 1 && t.ronko.trig.lastId == 3) = true := by
  decide +kernel

/-- The tunnel in the middle of a datagram of the given kind, with its first segment in slot 2. -/
def filling (kind count total : Nat) : State :=
  tunnelOn.modTun fun t => t.setRx 2 {
    filling := true, kind := kind, src := 3, tag := 4, entry := 3, hostIp := 5, hostPort := 6
    segs := 1, segCount := count, totalLen := total, data := List.replicate 240 9 }

/-- The second of two segments, and of three, and a datagram of one segment. -/
def seg1 : Segment := { seg0 with seg := 1, data := List.replicate 10 8 }
def seg1of3 : Segment := { seg0 with seg := 1, segCount := 3, totalLen := 500, data := List.replicate 240 8 }
def segOnly : Segment := { seg0 with segCount := 1, totalLen := 20, data := List.replicate 20 7 }

/-- A transmit slot with 20 bytes for node 9, reached by port 1. -/
def txReady : State :=
  (((withPort 1 fun q => { activePort q with subFirst := 9, subCount := 1 }).modNode fun n => { n with id := some 1, enum := .ready }).modTun fun t =>
    t.setTx 3 { d1 := 0x00140000 })

theorem witness_TunnelCommands_segments :
    segFits segOnly = true ∧ slotFilling tunnelOn.ronko.tun 2 segOnly = none ∧
    (fillSlot (beginSlot tunnelOn kReq segOnly).1 0 segOnly).ronko.tun.rxCount.value = 1 ∧
    runs (exec (.tunRsp segOnly) tunnelOn) (fun t => t.ronko.tun.rxCount.value == 1) = true ∧
    runs (exec (.tunEvt segOnly) tunnelOn) (fun t => t.ronko.tun.rxCount.value == 1 && (t.ronko.tun.rx[0]).full) = true ∧
    segFits seg1of3 = true ∧ slotFilling (filling 0 3 500).ronko.tun 0 seg1of3 = some 2 ∧
    runs (exec (.tunReq seg1of3) (filling 0 3 500)) (fun t => (t.ronko.tun.rx[2]).segs == 2 && (t.ronko.tun.rx[2]).filling) = true ∧
    runs (exec (.tunRsp seg1of3) (filling 1 3 500)) (fun t => (t.ronko.tun.rx[2]).segs == 2 && (t.ronko.tun.rx[2]).filling) = true ∧
    runs (exec (.tunEvt seg1of3) (filling 2 3 500)) (fun t => (t.ronko.tun.rx[2]).segs == 2 && (t.ronko.tun.rx[2]).filling) = true ∧
    segFits seg1 = true ∧ slotFilling (filling 1 2 250).ronko.tun 1 seg1 = some 2 ∧
    (fillSlot (filling 0 2 250) 2 seg1).ronko.tun.rxCount.value = 1 ∧
    runs (exec (.tunRsp seg1) (filling 1 2 250)) (fun t => t.ronko.tun.rxCount.value == 1) = true ∧
    runs (exec (.tunEvt seg1) (filling 2 2 250))
      (fun t => t.ronko.tun.rxCount.value == 1 && (t.ronko.tun.rx[2]).data.length == 250 && (t.ronko.tun.rx[2]).full) = true ∧
    runs (exec (.tunReq { seg1of3 with seg := 2 }) (filling 0 3 500)) (fun t => t.ronko.tun.rx[2] == {} && t.ronko.tun.reasmDrops.value == 1) = true ∧
    runs (exec (.tunRsp { seg1of3 with seg := 2 }) (filling 1 3 500)) (fun t => t.ronko.tun.rx[2] == {} && t.ronko.tun.reasmDrops.value == 1) = true ∧
    runs (exec (.tunEvt { seg1of3 with seg := 2 }) (filling 2 3 500)) (fun t => t.ronko.tun.rx[2] == {} && t.ronko.tun.reasmDrops.value == 1) = true ∧
    (routeOf txReady none 9 false).outs = [1] ∧ (txReady.ronko.tun.tx[3]).len = 20 ∧
    runs (exec (.tunTxGo 3 0x80000009 (List.replicate 20 5)) txReady)
      (fun t => (t.ronko.tun.tx[3]).state == 1 && (t.ronko.tun.tx[3]).segs.length == 1) = true ∧
    runs (exec (.tunTxGo 3 0x80000009 []) tunnelOn) (fun t => (t.ronko.tun.tx[3]).state == 3) = true := by
  decide +kernel

theorem witness_TunnelCommands :
    tunnelOn.coreRuns = true ∧ freeSlot tunnelOn.ronko.tun = some 0 ∧ segFits seg0 = true ∧
    runs (exec (.tunReq seg0) tunnelOn) (fun t => (t.ronko.tun.rx[0]).filling && (t.ronko.tun.rx[0]).segs == 1) = true ∧
    runs (exec (.tunRsp seg0) tunnelOn) (fun t => (t.ronko.tun.rx[0]).filling && (t.ronko.tun.rx[0]).kind == 1) = true ∧
    runs (exec (.tunEvt seg0) tunnelOn) (fun t => (t.ronko.tun.rx[0]).filling && (t.ronko.tun.rx[0]).kind == 2) = true ∧
    runs (exec (.reassemblyTimeout 2) (tunnelOn.modTun fun t => t.setRx 2 { filling := true }))
      (fun t => !(t.ronko.tun.rx[2]).filling && t.ronko.tun.reasmDrops.value == 1) = true ∧
    runs (exec (.tunTxGo 3 0x0003FFFF []) tunnelOn) (fun t => (t.ronko.tun.tx[3]).d0 == 0x3FFFF) = true ∧
    runs (exec (.tunTxCancel 3) (tunnelOn.modTun fun t => t.setTx 3 { state := 1 })) (fun t => (t.ronko.tun.tx[3]).state == 0) = true ∧
    runs (exec (.tunRxFree 4) (tunnelOn.modTun fun t => t.setRx 2 { full := true })) (fun t => !(t.ronko.tun.rx[2]).full) = true := by
  decide +kernel

theorem witness_TunnelCommands_refusal :
    nackCode 3 = some (eBusy, 1) ∧
    runs (exec (.tunNack 4 3 3) (tunnelOn.modRop fun r => { r with forwarded := [⟨3, 4, 5, 20, ⟨9, 8⟩, 4, 0⟩] }))
      (fun t => t.rop.forwarded == [] && t.ronko.tun.nackRx.value == 1) = true ∧
    runs (exec (.tunNack 4 3 2) tunnelOn)
      (fun t => (t.ronko.tun.rx[0]).full && (t.ronko.tun.rx[0]).reason == 2 && t.ronko.tun.nackRx.value == 1) = true := by
  decide +kernel

theorem witness_TunnelCommands_closed :
    runs (exec (.tunReq seg1) ((filling 0 2 250).modTun fun t => { t with rxEn := false }))
      (fun t => t.ronko.tun.rx[2] == {}) = true ∧
    runs (exec (.tunRsp seg1) ((filling 1 2 250).modTun fun t => { t with rxEn := false })) (fun t => t.ronko.tun.rx[2] == {}) = true ∧
    runs (exec (.tunEvt seg1) ((filling 2 2 250).modTun fun t => { t with rxEn := false })) (fun t => t.ronko.tun.rx[2] == {}) = true ∧
    slotFilling ((filling 0 2 250).modTun fun t => { t with rxEn := false }).ronko.tun 0 seg1 = some 2 ∧
    runs (exec (.tunReq seg0) bench) (fun t => (t.ronko.tun.rx[0]) == {}) = true := by decide +kernel

/-! ### The front-end serial port and the management port (chapter 14) -/

theorem witness_CommandRingEntries :
    cmdqMay (onCmdRing entryRecs) = true ∧ (onCmdRing entryRecs).hamper.ring 5 = some (cmdRingOf entryRecs) ∧
    (parseEntry ((headBundle entryRecs).map (·.bytes))).isSome = true ∧
    (parseEntry ((headBundle entryRecs).map (·.bytes))).all (fun e => responseFits (onCmdRing entryRecs) e
      && (blockedBy bench.fsp e).isNone) = true ∧
    runs (exec .cmdqEntry (onCmdRing entryRecs)) (fun t => t.fsp.entry.any (fun e => e.sel == 1 && e.tx == [9] && e.tag == 7)
      && t.fsp.entries.value == 0) = true ∧
    (headBundle [(⟨[0xF4], false, false, false, false⟩ : Rec)]).map (·.bytes) = [[0xF4]] ∧ parseEntry [[0xF4]] = none ∧
    runs (exec .cmdqEntry (onCmdRing [⟨[0xF4], false, false, false, false⟩]))
      (fun t => t.fsp.entry.isNone && t.fsp.entries.value == 1 && t.fsp.fails.value == 1) = true ∧
    cmdqMay (inEntry anEntry) = false ∧
    runs (exec .frdyReady (inEntry { anEntry with frdyWait := true })) (fun t => t.fsp.entry.any fun e => !e.frdyWait) = true ∧
    runs (exec .frdyTimeout (inEntry { anEntry with frdyWait := true, attempts := 2 }))
      (fun t => t.fsp.entry.isNone && t.fsp.entries.value == 1 && t.fsp.fails.value == 1) = true ∧
    anEntry.cfg.inter + anEntry.cycles ≤ 30000 ∧
    runs (exec (.fspAttemptFail .crc 100) (inEntry anEntry))
      (fun t => t.fsp.entry.any (fun e => e.attempts == 2) && t.fsp.retries.value == 1) = true ∧
    runs (exec (.fspAttemptFail .crc 100) (inEntry { anEntry with attempts := 2 }))
      (fun t => t.fsp.entry.isNone && t.fsp.fails.value == 1) = true ∧
    runs (exec (.cmdqEntryComplete [3, crc8 [3]]) (inEntry anEntry))
      (fun t => t.fsp.entry.isNone && t.fsp.entries.value == 1 && t.fsp.fails.value == 0) = true ∧
    anEntry.echoed [3, crc8 [3]] = true ∧
    changesFlash bench.fsp { anEntry with sel := 0, tx := [0x20] } = true ∧
    runs (exec (.cmdqEntryComplete [3, crc8 [3]]) (inEntry { anEntry with sel := 0, tx := [0x20] }))
      (fun t => t.fsp.busyPend && t.xip.lines == []) = true := by decide +kernel

theorem witness_FlashAccessAndBusMaster :
    xipLine (withXip fun x => x).xip 0x20000040 = some 2 ∧ bench.coreRuns = true ∧
    runs (exec (.xipMiss 0x20000040) (withXip fun x => x)) (fun t => t.xip.miss == some 2 && t.xip.misses.value == 1) = true ∧
    runs (exec (.xipHit 0x20000040) (withXip fun x => { x with lines := [5, 2] }))
      (fun t => t.xip.lines == [2, 5] && t.xip.hits.value == 1) = true ∧
    runs (exec .xipFillComplete (withXip fun x => { x with lines := [5, 6, 7, 8], filling := some 2, miss := some 2 }))
      (fun t => t.xip.lines == [2, 5, 6, 7] && t.xip.miss.isNone) = true ∧
    runs (exec .xipFillComplete (withXip fun x => { x with filling := some 2 }))
      (fun t => t.xip.lines == [2] && t.xip.filling.isNone) = true ∧
    objXipInvalidate.Admits mg tU8 [1] bench ∧
    runs (exec (.xipInvalidate mg 1) (withXip fun x => { x with lines := [5] })) (fun t => t.xip.lines == []) = true ∧
    runs (exec (.busyPoll 0) (supBus (bench.modFsp fun f => { f with busyPend := true })))
      (fun t => !t.fsp.busyPend && t.fsp.busyPolls.value == 1 && t.emit.length == 1) = true ∧
    runs (exec (.busyPoll 1) (supBus (bench.modFsp fun f => { f with busyPend := true }))) (fun t => t.fsp.busyPend) = true ∧
    runs (exec .flashStuck (supBus (bench.modFsp fun f => { f with busyPend := true })))
      (fun t => (t.badger.queue.map (·.kind)) == [0xF1]) = true ∧
    runs (exec .flashStuck (supBus { bench.modFsp (fun f => { f with busyPend := true }) with trust := { instr := { saving := some aSaved } } }))
      (fun t => (t.badger.queue.map fun m => (m.kind, m.detail)) == [(0xF1, 0), (0xC2, 0x7100)] && t.trust.instr.saving.isNone) = true ∧
    objFspRelease.Admits mg tU8 [1] bench ∧ bench.busUsed = false ∧
    runs (exec (.fspRelease mg 1) bench) (fun t => t.fsp.master == .released && t.answer.code == eOk) = true ∧
    objFspRelease.Admits mg tU8 [1] (inEntry anEntry) ∧ (inEntry anEntry).busUsed = true ∧
    runs (exec (.fspRelease mg 1) (inEntry anEntry)) (fun t => t.fsp.releaseDue && t.fsp.master == .master) = true ∧
    objFspAcquire.Admits mg tU8 [1] (bench.modFsp fun f => { f with master := .released }) ∧
    runs (exec (.fspAcquire mg 1) (bench.modFsp fun f => { f with master := .released })) (fun t => t.fsp.master == .master) = true ∧
    bench.onFss0 = false ∧
    runs (exec .modeFault bench) (fun t => t.fsp.master == .waiting && t.fsp.modeFaults.value == 1) = true ∧
    runs (exec .mfQuietReacquire (bench.modFsp fun f => { f with master := .waiting })) (fun t => t.fsp.master == .master) = true := by
  decide +kernel

/-- A management frame's bytes: a request and its CRC. -/
def framed (b : List Byte) : List Byte := b ++ natBytes 2 (crc16 b).toNat

/-- A frame in which the reply to DEVICE_RESET goes out. -/
def resetAsked : State :=
  { bench with
    dev := { bench.dev with resetPending := true }
    mgp := { bench.mgp with inFrame := true, status := 0x80 } }

theorem witness_ManagementPort :
    runs (exec .mgpFrameStart bench) (fun t => t.mgp.inFrame && t.mgp.status == statusByte bench && t.emit.length == 1) = true ∧
    goodRequest [] = none ∧
    runs (exec (.mgpFrameEnd []) (bench.modMgp fun m => { m with inFrame := true }))
      (fun t => !t.mgp.inFrame && t.mgp.bad && t.mgp.badFrames.value == 1 && t.mgp.frames.value == 1) = true ∧
    (goodRequest (framed (objReq 0x11 0 2 1 0 0 0))).isSome = true ∧
    runs (exec (.mgpFrameEnd (framed (objReq 0x11 0 2 1 0 0 0))) (bench.modMgp fun m => { m with inFrame := true }))
      (fun t => t.mgp.executing == some (objReq 0x11 0 2 1 0 0 0) && t.mgp.alive == 1 && t.mgp.staged.isNone) = true ∧
    runs (exec (.mgpFrameEnd (framed (objReq 0x11 0 2 1 0 0 0))) (bench.modMgp fun m => { m with inFrame := true, held := { rhdr := 0x11 } }))
      (fun t => t.mgp.executing.isNone && t.mgp.repeats.value == 1) = true ∧
    runs (exec (.mgpFrameEnd (framed (objReq 0x11 0 2 1 0 0 0))) ((asked [1]).modMgp fun m => { m with inFrame := true }))
      (fun t => t.mgp.executing == some [1] && t.mgp.busyIgnored.value == 1) = true ∧
    carriesReset resetAsked 0x10 14 = true ∧
    runs (exec (.mgpFrameEnd (0x10 :: List.replicate 13 0)) resetAsked) (fun t => t.dev.state == .reset && t.dev.resetCause == 0x0100) = true ∧
    runs (exec (.mgpFrameEnd []) bench) (fun t => t.mgp.frames.value == 0) = true ∧
    runs (exec (.mgpPoll 5) bench) (fun t => t.mgp.alive == 5 && t.mgp.frames.value == 1) = true ∧
    runs (exec (.mgpStream 2) bench) (fun t => t.mgp.streaming && t.mgp.inFrame) = true ∧
    runs (exec .mgpReplyComplete ((asked [0x11]).modMgp fun m => { m with staged := some { rhdr := 0x11 } }))
      (fun t => t.mgp.held.rhdr == 0x11 && t.mgp.executing.isNone && t.mgp.staged.isNone) = true := by
  decide +kernel

theorem witness_ManagementPort_requests :
    (asked (objReq 0x11 0 2 1 0 0 0)).toDo tRead (readFields 2 1 0) = some 0x11 ∧ mgpReach (asked []) 2 1 = eOk ∧
    runs (exec (.mgpRead 2 1 0) (asked (objReq 0x11 0 2 1 0 0 0)))
      (fun t => t.mgp.staged.any fun r => r.rhdr == 0x11 && r.code == eOk) = true ∧
    (asked (objReq 0x11 0 0xC000 1 0 0 0)).toDo tRead (readFields 0xC000 1 0) = some 0x11 ∧ mgpReach (asked []) 0xC000 1 = eNoObject ∧
    runs (exec (.mgpRead 0xC000 1 0) (asked (objReq 0x11 0 0xC000 1 0 0 0)))
      (fun t => t.mgp.staged.any fun r => r.rhdr == 0x11 && r.code == eNoObject) = true ∧
    (asked (objReq 0x12 1 0x2000 2 tU8 1 1 ++ [1])).toDo tWrite (writeFields 0x2000 2 tU8 (some 1) [1]) = some 0x12 ∧
    mgpReach (asked []) 0x2000 2 = eOk ∧
    runs (exec (.mgpWrite 0x2000 2 tU8 (some 1) [1]) (asked (objReq 0x12 1 0x2000 2 tU8 1 1 ++ [1])))
      (fun t => t.mgp.staged.any fun r => r.rhdr == 0x12) = true ∧
    (asked (objReq 0x12 0 0xC000 0 0 0 0)).toDo tWrite (writeFields 0xC000 0 0 none []) = some 0x12 ∧
    runs (exec (.mgpWrite 0xC000 0 0 none []) (asked (objReq 0x12 0 0xC000 0 0 0 0)))
      (fun t => t.mgp.staged.any fun r => r.code == eNoObject) = true := by
  decide +kernel

theorem witness_ManagementPort_flash :
    (askedFlash (flashReq 0x14 0 2 0)).toDo tFlashRead (flashFields 0 2 []) = some 0x14 ∧ (askedFlash []).supMay = true ∧
    flashCode (askedFlash []) 0 2 false (within 1 512 2) = eOk ∧
    runs (exec (.mgpFlashRead 0 2 [7, 8]) (askedFlash (flashReq 0x14 0 2 0))) (fun t => t.mgp.staged.any fun r => r.data == [7, 8]) = true ∧
    flashCode (askedFlash []) 0 513 false (within 1 512 513) = eRange ∧
    runs (exec (.mgpFlashRead 0 513 []) (asked (flashReq 0x14 0 513 0))) (fun t => t.mgp.staged.any fun r => r.code == eRange) = true ∧
    (askedFlash (flashReq 0x15 0x300000 0 2 ++ [7, 8])).toDo tFlashWrite (flashFields 0x300000 0 [7, 8]) = some 0x15 ∧
    flashCode (askedFlash []) 0x300000 2 true true = eOk ∧
    runs (exec (.mgpFlashWrite 0x300000 [7, 8] true) (askedFlash (flashReq 0x15 0x300000 0 2 ++ [7, 8])))
      (fun t => t.fsp.busyPend && t.mgp.programmed && t.mgp.staged == none) = true ∧
    runs (exec (.mgpFlashWrite 0x300000 [7, 8] true) ((askedFlash (flashReq 0x15 0x300000 0 2 ++ [7, 8])).modMgp fun m => { m with programmed := true }))
      (fun t => !t.mgp.programmed && t.mgp.staged.any fun r => r.code == eOk) = true ∧
    runs (exec (.mgpFlashWrite 0x300000 [7, 8] false) ((askedFlash (flashReq 0x15 0x300000 0 2 ++ [7, 8])).modMgp fun m => { m with programmed := true }))
      (fun t => t.mgp.staged.any fun r => r.code == eCrc) = true ∧
    runs (exec (.mgpFlashWrite 0x3000FF [7, 8] true) (asked (flashReq 0x15 0x3000FF 0 2 ++ [7, 8])))
      (fun t => !t.fsp.busyPend && t.mgp.staged.any fun r => r.code == eRange) = true ∧
    (askedFlash (flashReq 0x16 0x300000 0 0)).toDo tFlashErase (flashFields 0x300000 0 []) = some 0x16 ∧
    flashCode (askedFlash []) 0x300000 4096 true true = eOk ∧
    runs (exec (.mgpFlashErase 0x300000) (askedFlash (flashReq 0x16 0x300000 0 0)))
      (fun t => t.fsp.busyPend && t.xip.lines == [] && t.mgp.staged.any fun r => r.rhdr == 0x16) = true ∧
    runs (exec (.mgpFlashErase 0x300001) (asked (flashReq 0x16 0x300001 0 0))) (fun t => t.mgp.staged.any fun r => r.code == eRange) = true := by
  decide +kernel

/-- The records of an entry for select 0 whose byte would erase the flash. -/
def erasing : List Rec :=
  [⟨[0xF5, 4, 8, 1, 0, 7, 0, 1, 0, 1, 0, 0, 0, 0, 0, 0], false, false, false, false⟩,
   ⟨0x20 :: List.replicate 15 0, false, true, false, false⟩]

/-- An entry of two words that waits for FRDY before each. -/
def twoWords (hold : Bool) (word : Nat) : Entry :=
  { anEntry with len := 2, tx := [9, 8], crcRx := false, hold := hold, frdyWait := true, word := word, cfg := { frdyEn := true } }

/-- A fill of line 2 that a read waits for, behind a flash to be polled. -/
def stuckFill : State := (withXip fun x => { x with filling := some 2, miss := some 2 }).modFsp fun f => { f with busyPend := true }

theorem witness_CommandRingEntries_words :
    cmdqMay (onCmdRing erasing) = true ∧ (parseEntry ((headBundle erasing).map (·.bytes))).isSome = true ∧
    (parseEntry ((headBundle erasing).map (·.bytes))).all (fun e => (blockedBy bench.fsp e) == some 0x20) = true ∧
    runs (exec .cmdqEntry (onCmdRing erasing)) (fun t => t.fsp.entry.isNone && t.fsp.protBlocks.value == 1 && t.fsp.fails.value == 1) = true ∧
    runs (exec .frdyReady (inEntry (twoWords false 0)))
      (fun t => t.fsp.entry.any (fun e => e.frdyWait && e.word == 1) && t.emit == [.fsp 1 [9]]) = true ∧
    runs (exec .frdyReady (inEntry (twoWords true 0))) (fun t => t.fsp.entry.any (fun e => e.frdyWait && e.word == 1) && t.emit == []) = true ∧
    runs (exec .frdyReady (inEntry (twoWords true 1))) (fun t => t.fsp.entry.any (fun e => !e.frdyWait) && t.emit == [.fsp 1 [9, 8]]) = true ∧
    runs (exec .frdyTimeout (inEntry { twoWords true 1 with retries := 2, cfg := { frdyEn := true, frdyTmo := 10 } }))
      (fun t => t.fsp.entry.any (fun e => e.attempts == 2 && e.word == 0 && e.frdyWait) && t.fsp.retries.value == 1) = true ∧
    runs (exec .frdyReady (inEntry anEntry)) (fun t => t == inEntry anEntry) = true ∧
    runs (exec .cmdqEntry bench) (fun t => t == bench) = true ∧
    pollDue stuckFill = true ∧
    runs (exec .flashStuck stuckFill) (fun t => t.xip.filling == none && t.xip.miss == none && t.emit == [.loadFault 0x20000040]
      && (t.badger.queue.map (·.kind)) == [0xF1]) = true ∧
    runs (exec (.busyPoll 0) stuckFill) (fun t => !t.fsp.busyPend && t.emit.length == 2) = true ∧
    runs (exec (.busyPoll 0) bench) (fun t => t == bench) = true ∧
    runs (exec .modeFault (bench.modFsp fun f => { f with master := .released })) (fun t => t.fsp.modeFaults.value == 0) = true := by
  decide +kernel

/-! ### The object dictionary, ROP, sessions, Ethernet and the mailbox (chapters 3 and 4) -/

theorem witness_DictionaryAccessAndPlaces :
    absent 0xC000 1 eNoObject = true ∧
    runs (exec (.ropRead mg 0xC000 1 0) bench) (fun t => t.answer.code == eNoObject) = true ∧
    runs (exec (.ropWrite mg 0xC000 1 0 []) bench) (fun t => t.answer.code == eNoObject) = true ∧
    present 0x2000 1 (fun o => readObj o mg.who 0 bench == (eOk, [0])) = true ∧
    runs (exec (.ropRead mg 0x2000 1 0) (ch0 fun c => { c with mode := { c.mode with mode := .fv } }))
      (fun t => t.answer.code == eOk && t.answer.data == natBytes 1 Mode.fv.toNat) = true ∧
    (objMode 0).Admits mg tU8 [0] bench ∧
    runs (exec (.ropWrite mg 0x2000 0x01 tU8 [0]) bench) (fun t => t.answer.code == eOk) = true ∧
    ¬ (objMode 0).Admits { mg with epoch := none } tU8 [0] bench ∧
    runs (exec (.ropWrite { mg with epoch := none } 0x2000 0x01 tU8 [0]) bench) (fun t => t.answer.code != eOk) = true ∧
    present 0x7000 3 (fun o => readObj o mg.who tU64 bench == (eOk, natBytes 8 bench.otp.uid.toNat)) = true := by decide +kernel

/-- A group of a write that would pass and one of an object that does not exist. -/
def badGroup : List StagedWrite := [⟨mg, 0x2000, 0x01, tU8, [0]⟩, ⟨mg, 0xC000, 1, 0, []⟩]

theorem witness_GroupsAreAtomic :
    (groupParts badGroup bench).map (groupCode (groupPost badGroup bench) bench) = [eOk, eNoObject] ∧
    ((runGroup badGroup bench).1.chan 0).mode.status = (bench.chan 0).mode.status := by decide +kernel

theorem witness_SessionCommands :
    bench.coreRuns = true ∧ freeSession bench = some 0 ∧
    runs (exec (.sessionOpen ⟨9, 8⟩ ownEntry 500) bench)
      (fun t => t.answer.code == eOk && (t.session 0).id == 1 && (t.session 0).timeoutMs == 500) = true ∧
    freeSession (allSlots.foldl (fun s i => s.modSession i fun x => { x with id := 9 }) bench) = none ∧
    runs (exec (.sessionOpen ⟨9, 8⟩ ownEntry 500) (allSlots.foldl (fun s i => s.modSession i fun x => { x with id := 9 }) bench))
      (fun t => t.answer.code == eBusy) = true ∧
    slotOf (inSession 7) 7 = some 0 ∧ holds ((inSession 7).chan 1).lock (.host 7) = true ∧
    runs (exec (.sessionClose 7) (inSession 7))
      (fun t => t.answer.code == eOk && (t.session 0).id == 0 && (t.chan 1).lock.kind == .none && (t.chan 1).lock.epoch == 2)
      = true ∧
    runs (exec (.keepalive 7) (inSession 7)) (fun t => (t.session 0).deadline == t.now + msec 2000) = true ∧
    runs (exec (.sessionExpire 0) (inSession 7)) (fun t => (t.session 0).id == 0) = true ∧
    slotOf bench 7 = none ∧
    runs (exec (.sessionClose 7) bench) (fun t => t.answer.code == eStaleEpoch) = true ∧
    runs (exec (.keepalive 7) bench) (fun t => t.answer.code == eStaleEpoch) = true ∧
    runs (exec .busyPerSUpdate { bench with rop := { bench.rop with busyCount := 5, busyMark := 2 } })
      (fun t => t.rop.busyPerS == 3) = true := by decide +kernel

theorem witness_SessionIdsAreFresh :
    freeSession (inSession 1) = some 1 ∧
    runs (exec (.sessionOpen ⟨9, 8⟩ ownEntry 500) (inSession 1)) (fun t => (t.session 1).id == 2) = true ∧
    runs (exec (.sessionOpen ⟨9, 8⟩ ownEntry 500) { inSession 1 with rop := { (inSession 1).rop with lastId := 0xFFFF } })
      (fun t => (t.session 1).id == 2) = true := by decide +kernel

/-- A host of the network. -/
def aPeer : Peer := ⟨9, 8⟩

/-- The bench with its MAC clocked and addressed, and the host command ring in place. -/
def hearing : State := hostRing { withMac (fun e => { e with ip := 5 }) with hamper := { ready := true } }

/-- The same with session 7 open to the host, after its transaction SEQ 4. -/
def inTalk : State :=
  hearing.modSession 0 fun _ =>
    { id := 7, entry := ownEntry, ip := 9, port := 8, timeoutMs := 2000, rate := 1, burst := 1, level := 240000000
      lastSeq := some 4, stored := [1, 2, 3] }

/-- A request of one operation to every node. -/
def aTalk (sid seq : W16) (op : List Byte) : List Byte :=
  [0x52, 0x50, 0x01, 0] ++ natBytes 2 sid.toNat ++ natBytes 2 seq.toNat ++ [0xFF, 0xFF, 0, 20, 1, 0, 0, 0] ++ op

/-- A READ of SESSION_COUNT and a WRITE of channel 0's mode without an epoch. -/
def aReadOp : List Byte := [1, 0, 0, 0x20, 1, 0, 0, 0, 0, 0]
def aWriteOp : List Byte := [2, tU8, 0x20, 0, 1, 0, 0, 0, 0, 1, 0]

/-- The state with one transaction waiting, its records in the host command ring. -/
def queued (bytes : List Byte) (s : State) : State :=
  (match commandRing s with
    | some r => storeNow s r (datagramRecs bytes)
    | none => s).modRop fun r => { r with queue := [⟨aPeer, ownEntry, none, bytes, 5⟩] }

/-- The state in an enumerated tree whose root is reached upwards. -/
def inTree (s : State) : State :=
  (s.modPort rku fun q => { q with link := .active }).modNode fun n => { n with enum := .ready, id := some 0, nodeCount := 2 }

theorem witness_DatagramCommands_ends :
    (hearing.coreRuns && hearing.hears true && hearing.hears false && hearing.macLives) = true ∧
    parseRequest [1] maskEthernet = none ∧
    runs (exec (.ropDatagram aPeer false [1] 0 0) hearing) (fun t => t.rop.malformed == 1) = true ∧
    bench.coreRuns = true ∧ bench.hears true = false ∧ bench.hears false = false ∧
    runs (exec (.ropDatagram aPeer false [1] 0 0) bench) (fun t => t.rop.malformed == 0) = true ∧
    State.reset.coreRuns = false ∧
    runs (exec (.ropDatagram aPeer true [1] 0 0) State.reset) (fun t => t.rop.malformed == 0) = true ∧
    (parseRequest (aRead 0xFFFF 1 0x0020 1) maskEthernet).any (fun q => q.legal && q.discovers hearing ⟨aPeer, ownEntry, none⟩
      && destHere hearing q.dest) = true ∧
    runs (exec (.ropDatagram aPeer true (aRead 0xFFFF 1 0x0020 1) 0 0) hearing) (fun t => t.rop.discovery.length == 1) = true ∧
    (parseRequest (aRead 5 1 0x0020 1) maskEthernet).any (fun q => q.legal && q.openOk && !destHere hearing q.dest) = true ∧
    runs (exec (.ropDatagram aPeer false (aRead 5 1 0x0020 1) 0 0) hearing)
      (fun t => t.rop.rxDatagrams == 1 && t.emit.length == 1) = true ∧
    (parseRequest (aRead 1 1 0x0020 1) maskEthernet).any (fun q => q.legal && q.openOk && !destHere (inTree hearing) q.dest
      && decide ((routeOf (inTree hearing) none q.dest false).outs ≠ [])) = true ∧
    (idleTx (inTree hearing)).isSome = true ∧
    runs (exec (.ropDatagram aPeer false (aRead 1 1 0x0020 1) 0 0) (inTree hearing))
      (fun t => t.rop.forwarded.length == 1) = true := by decide +kernel

theorem witness_DatagramCommands_admission :
    (parseRequest (aRead 0xFFFF 1 0x0020 1) maskEthernet).any (fun q => q.legal && q.openOk && q.session == 0
      && destHere hearing q.dest && decide (q.largest hearing ≤ 1472)
      && ringTakes hearing hearing.rop.cmdDepth (aRead 0xFFFF 1 0x0020 1)) = true ∧
    runs (exec (.ropDatagram aPeer false (aRead 0xFFFF 1 0x0020 1) 0 0) hearing) (fun t => t.rop.queue.length == 1) = true ∧
    runs (exec (.ropDatagram aPeer false (aRead 0xFFFF 1 0x0020 1) 1 0) hearing)
      (fun t => t.rop.queue == [] && t.emit.length == 1) = true ∧
    slotOf inTalk 7 = some 0 ∧ (inTalk.session 0).boundTo ⟨aPeer, ownEntry, none⟩ = true ∧
    outstanding inTalk (inTalk.session 0) = none ∧ 240000000 ≤ (inTalk.session 0).levelNow inTalk.now ∧
    ringTakes inTalk (inTalk.session 0).depth (aTalk 7 5 aReadOp) = true ∧
    (parseRequest (aTalk 7 5 aReadOp) maskEthernet).any (fun q => q.legal && q.openOk && q.session == 7 && q.seq == 5
      && destHere inTalk q.dest && decide (q.largest inTalk ≤ 1472)) = true ∧
    runs (exec (.ropDatagram aPeer false (aTalk 7 5 aReadOp) 0 0) inTalk)
      (fun t => t.rop.queue.length == 1 && (t.session 0).level == 0) = true ∧
    runs (exec (.ropDatagram aPeer false (aTalk 7 4 aReadOp) 0 0) inTalk)
      (fun t => t.rop.queue == [] && t.rop.duplicates == 1 && t.emit == [.datagram 9 8 [1, 2, 3]]) = true ∧
    runs (exec (.ropDatagram aPeer false (aTalk 7 9 aReadOp) 0 0) inTalk)
      (fun t => t.rop.queue == [] && t.emit.length == 1) = true := by decide +kernel

theorem witness_DatagramCommands_service :
    (parseRequest (aTalk 7 5 aWriteOp) maskTunnel).any (fun q => q.flags &&& fGroup == 0 && q.session == 7
      && q.ops.map (·.op) == [opWrite]) = true ∧
    ((serveMany 1 3 (queued (aTalk 7 5 aWriteOp) inTalk)).session 0).lastSeq = some 5 ∧
    (serveMany 1 3 (queued (aTalk 7 5 aWriteOp) inTalk)).rop.queue = [] ∧
    (parseRequest (aRead 0xFFFF 1 0x0020 1) maskTunnel).any (fun q => q.flags &&& fGroup == 0 && q.session == 0
      && q.ops.map (·.op) == [opRead]) = true ∧
    (serveMany 1 3 (queued (aRead 0xFFFF 1 0x0020 1) hearing)).emit.length = 1 ∧
    runs (exec (.ropDatagram aPeer false [1] 1 3) (queued (aRead 0xFFFF 1 0x0020 1) hearing))
      (fun t => t.rop.queue == [] && t.rop.serviceUs == [3] && t.rop.malformed == 1) = true := by decide +kernel

theorem witness_DatagramCommands_replies :
    runs (exec .broadcastReply (hearing.modRop fun r => { r with discovery := [(aPeer, [1])] }))
      (fun t => t.rop.discovery == [] && t.emit == []) = true ∧
    (parseRequest (aRead 0xFFFF 6 0x0002 1) maskEthernet).any (fun q => decide (1472 < q.largest hearing)) = true ∧
    runs (exec .broadcastReply (hearing.modRop fun r => { r with discovery := [(aPeer, aRead 0xFFFF 6 0x0002 1)] }))
      (fun t => t.rop.discovery == [] && t.emit.length == 1) = true ∧
    runs (exec .broadcastReply (hearing.modRop fun r => { r with discovery := [(aPeer, aRead 0xFFFF 1 0x0020 1)] }))
      (fun t => t.rop.discovery == [] && t.emit.length == 1) = true ∧
    runs (exec (.transactionTimeout 3 4) (hearing.modRop fun r => { r with forwarded := [⟨3, 4, 5, 20, aPeer, 1, 0⟩] }))
      (fun t => t.rop.forwarded == [] && t.rop.timeouts == 1 && t.emit.length == 1) = true ∧
    runs (exec (.transactionTimeout 7 5) (queued (aTalk 7 5 aReadOp) inTalk))
      (fun t => t.rop.queue == [] && t.rop.timeouts == 1 && t.emit.length == 1) = true ∧
    runs (exec (.transactionTimeout 3 4) hearing) (fun t => t.rop.timeouts == 0) = true ∧
    runs (exec .eventDatagramSend { inTalk.modSession 0 (fun x => { x with rel := { x.rel with eventSubscribe := 1 } }) with
        events := { bench.events with fifo := [⟨0, 1, 0, 0, 0, 0, 0⟩] } })
      (fun t => t.events.fifo == [] && (t.session 0).eventSeq == 1 && t.emit.length == 1) = true := by decide +kernel

theorem witness_EthernetAndMacCommands :
    runs (exec (.linkUp true true) bench) (fun t => t.eth.linkUp && t.eth.dhcp == .discovering 1) = true ∧
    runs (exec (.linkUp false true) (bench.modEth fun e => { e with dhcpEn := false, staticIp := 5 }))
      (fun t => t.eth.ip == 5 && t.eth.linkSpeed == 1) = true ∧
    runs (exec .ethernetLinkLoss (bench.modEth fun e => { e with linkUp := true })) (fun t => !t.eth.linkUp) = true ∧
    runs (exec .dhcpRetransmit (bench.modEth fun e => { e with linkUp := true, dhcp := .discovering 1 }))
      (fun t => t.eth.dhcp == .discovering 2) = true ∧
    runs (exec (.dhcpReply 5 6 7 60) (hearing.modEth fun e => { e with linkUp := true, dhcp := .renewing }))
      (fun t => t.eth.ip == 5 && t.eth.dhcp == .bound && t.eth.leaseEnd == t.now + secs 60) = true ∧
    runs (exec .dhcpRenew (bench.modEth fun e => { e with dhcp := .bound })) (fun t => t.eth.dhcp == .renewing) = true ∧
    runs (exec .dhcpRebind (bench.modEth fun e => { e with dhcp := .renewing })) (fun t => t.eth.dhcp == .rebinding) = true ∧
    runs (exec .leaseExpire (bench.modEth fun e => { e with ip := 5, dhcp := .rebinding }))
      (fun t => t.eth.ip == 0 && t.eth.dhcp == .discovering 0) = true ∧
    runs (exec (.arpRequest 5 6 7) hearing)
      (fun t => t.eth.arp == [⟨6, 7⟩] && t.emit.length == 1) = true ∧
    runs (exec (.arpAge 6) (bench.modEth fun e => { e with arp := [⟨6, 7⟩, ⟨8, 9⟩] })) (fun t => t.eth.arp == [⟨8, 9⟩]) = true ∧
    runs (exec (.icmpEcho 6 5 [1]) hearing) (fun t => t.eth.icmpSent == 1 && t.emit.length == 1) = true ∧
    runs (exec (.icmpEcho 6 5 [1]) (hearing.modEth fun e => { e with icmpSent := 100 }))
      (fun t => t.eth.icmpSent == 100 && t.eth.rxDropped.value == 1 && t.emit == []) = true ∧
    runs (exec .dhcpRenew (hearing.modEth fun e => { e with dhcp := .bound })) (fun t => t.emit.length == 1) = true ∧
    (withMac fun e => e).macReady = true ∧
    runs (exec (.macFrameRx [] false) (withMac fun e => { e with rxEn := true })) (fun t => t.eth.rxFcsErr.value == 1) = true ∧
    runs (exec (.macFrameRx [] true) (withMac fun e => { e with rxEn := true })) (fun t => t.eth.rxDropped.value == 1) = true ∧
    (withMac fun e => e).eth.admits (List.replicate 64 0xFF) = true ∧
    runs (exec (.macFrameRx (List.replicate 64 0xFF) true) (withMac fun e => { e with rxEn := true }))
      (fun t => t.eth.rxFrames.value == 1) = true ∧
    txBench.txOn = true ∧ headBundle [txRec] = [txRec] ∧
    runs (exec .macFrameTx txBench) (fun t => t.eth.txFrames.value == 1 && t.emit.length == 1
      && (t.hamper.ring 5).any fun r => r.recs == []) = true ∧
    runs (exec (.mdioGo 0x0C230007) bench)
      (fun t => t.eth.mdio.go && t.eth.mdio.read && t.eth.mdio.phy == 1 && t.eth.mdio.reg == 3 && t.eth.mdio.data == 7) = true ∧
    runs (exec (.mdioComplete 9) (bench.modEth fun e => { e with mdio := { e.mdio with go := true, read := true } }))
      (fun t => !t.eth.mdio.go && t.eth.mdio.data == 9) = true ∧
    runs (exec .rmiiPllLock { bench with clk := { bench.clk with rmiiEn := true } }) (fun t => t.clk.rmiiLock) = true := by
  decide +kernel

theorem witness_MailboxCommands :
    (mbxOf fun m => { m with len := 0x00410000 }).trust.mbx.request = none ∧
    runs (exec .mbxWrite (mbxOf fun m => { m with len := 0x00410000 })) (fun t => t.trust.mbx.resultCode == eRange) = true ∧
    runs (exec .mbxWrite (mbxOf fun m => { m with obj := 0x0001C000 })) (fun t => t.trust.mbx.resultCode == eNoObject) = true ∧
    ¬ (objMode 0).Admits ⟨.loc, .mbx, some 1⟩ tU8 [0x0F]
      ((mbxOf fun m => { modeOff m with data := m.data.set 0 0x0F }).modMbx fun m => { m with cmd := 1, long := [] }) ∧
    runs (exec .mbxWrite (mbxOf fun m => { modeOff m with data := m.data.set 0 0x0F }))
      (fun t => t.trust.mbx.resultCode == eRange) = true ∧
    (mbxOf modeOff).trust.mbx.request = some ⟨⟨.loc, .mbx, some 1⟩, 0x2000, 0x01, tU8, [0x00]⟩ ∧
    (objMode 0).Admits ⟨.loc, .mbx, some 1⟩ tU8 [0x00] ((mbxOf modeOff).modMbx fun m => { m with cmd := 1, long := [] }) ∧
    ((mbxOf modeOff).chan 0).already 0 = true ∧
    runs (exec .mbxWrite (mbxOf modeOff)) (fun t => t.trust.mbx.resultCode == eOk) = true ∧
    runs (exec .mbxStage (mbxOf fun m => { m with staged := List.replicate 32 ⟨mg, 0, 0, 0, []⟩ }))
      (fun t => t.trust.mbx.resultCode == eGroup) = true ∧
    formCode ((mbxOf modeOff).modMbx fun m => { m with cmd := 2, long := [] })
      ⟨⟨.loc, .mbx, some 1⟩, 0x2000, 0x01, tU8, [0x00]⟩ = eOk ∧
    runs (exec .mbxStage (mbxOf modeOff)) (fun t => t.trust.mbx.resultCode == eOk && t.trust.mbx.staged.length == 1) = true ∧
    runs (exec .mbxCommit (mbxOf fun m => m)) (fun t => t.trust.mbx.resultCode == eGroup) = true ∧
    runs (exec .mbxCommit (mbxOf fun m => { m with staged := [⟨⟨.loc, .mbx, some 1⟩, 0x2000, 0x01, tU8, [0x00]⟩] }))
      (fun t => t.trust.mbx.resultCode == eOk && t.trust.mbx.staged == []) = true ∧
    runs (exec .mbxAbort (mbxOf fun m => { m with long := [1] })) (fun t => t.trust.mbx.long == []) = true ∧
    runs (exec .mbxAppend (mbxOf fun m => { m with len := 0x00030000, data := m.data.set 0 0x00030201 }))
      (fun t => t.trust.mbx.long == [1, 2, 3] && t.trust.mbx.resultCode == eOk) = true ∧
    runs (exec .sessCmdOpen (mbxOf fun m => { m with sessArg := 100 }))
      (fun t => t.trust.mbx.sessCode == eOk && t.trust.mbx.sessNew == 1 && (t.session 0).timeoutMs == 100) = true ∧
    runs (exec .sessCmdOpen (mbxOf fun m => { m with sessArg := 0 }))
      (fun t => t.trust.mbx.sessCode == eOk && (t.session 0).timeoutMs == bench.rop.sessionTimeoutDefault) = true ∧
    runs (exec .sessCmdOpen (allSlots.foldl (fun s i => s.modSession i fun x => { x with id := 9 }) bench))
      (fun t => t.trust.mbx.sessCode == eBusy) = true ∧
    runs (exec (.sessCmdTouch 7) bench) (fun t => t.trust.mbx.sessCode == eStaleEpoch) = true ∧
    runs (exec (.sessCmdClose 7) bench) (fun t => t.trust.mbx.sessCode == eStaleEpoch) = true ∧
    runs (exec (.sessCmdTouch 7) (inSession 7)) (fun t => (t.session 0).deadline == t.now + msec 2000) = true ∧
    runs (exec (.sessCmdClose 7) (inSession 7)) (fun t => (t.session 0).id == 0 && t.trust.mbx.sessCode == eOk) = true := by
  decide +kernel

/-! ### The whole block -/

theorem witness_RequestsAreDictionaryWrites :
    requestOf (.modeRequest mg 0 0) = some ⟨mg, objMode 0, tU8, [0]⟩ ∧ (objMode 0).Admits mg tU8 [0] bench ∧
    ¬ (objMode 0).Admits { mg with epoch := none } tU8 [0] bench ∧
    (requestOf (.limitWrite mg 0 1 tF32 [0x3F, 0x80, 0, 0])).isSome = true := by
  refine ⟨rfl, ?_, ?_, ?_⟩ <;> decide +kernel

theorem witness_OwnersAlone :
    (objMode 0).scope ⟨mg, [0], bench, (objMode 0).put ⟨mg, [0], bench, bench, bench⟩ bench, bench⟩ = .chan 0 ∧
    holds (bench.chan 0).lock (.host 7) = false ∧ mg.epoch ≠ some ((ch0 fun c => { c with lock := { c.lock with epoch := 2 } }).chan 0).lock.epoch ∧
    runs (exec (.modeRequest { mg with who := .host 7 } 0 0) bench) (fun t => t.answer.code != eOk) = true := by
  decide +kernel

theorem witness_EveryStepKeepsTheInvariant :
    WithinSizes bench ∧ runs (step { bench with pending := [.topoChange] }) (fun t => t.ronko.node.topoChanges.value == 1) = true := by
  refine ⟨?_, ?_⟩
  · unfold WithinSizes; decide +kernel
  · decide +kernel

/-! ### Rules stated whole -/

theorem witness_ClaimAndReleaseCarryTheEpoch :
    { mg with epoch := none }.epoch ≠ some ((bench.chan 0).lock.epoch) ∧
    runs (exec (.claim { mg with epoch := none } 0 1) bench) (fun t => t.answer.code == eStaleEpoch) = true ∧
    runs (exec (.release { mg with epoch := some 2 } 0 1) bench) (fun t => t.answer.code == eStaleEpoch) = true := by
  decide +kernel

theorem witness_ApplicationRangeHoldsNoObject :
    (mbxOf fun m => { m with obj := 0x0001C000 }).trust.mbx.request = some ⟨⟨.loc, .mbx, some 1⟩, 0xC000, 1, 0, [0]⟩ ∧
    runs (exec .mbxStage (mbxOf fun m => { m with obj := 0x0001C000 })) (fun t => t.trust.mbx.resultCode == eNoObject) = true ∧
    runs (exec (.mgpRead 0xFFFF 0 0) (asked (objReq 0x11 0 0xFFFF 0 0 0 0))) (fun t => t.mgp.staged.any fun r => r.rhdr == 0x11 && r.code == eNoObject) = true := by
  decide +kernel

/-- A device in RESET whose supplies are good and whose always-on domain runs. -/
def beforeBoot : State :=
  { State.reset with power := { good := 0x3F, aonHeld := false, straps := 0x8 }, dev := { resetCause := 0x41 } }

theorem witness_EveryBootIsReported :
    beforeBoot.dev.state = .reset ∧ beforeBoot.badger.queue = [] ∧
    runs (exec (.bootEntry ([], [])) beforeBoot) (fun t => t.dev.state == .boot && t.badger.queue.length == 2 &&
      (nextMsg t.badger.queue).any (fun m => m.kind == 0 && m.detail == 0x41 && m.source == srcTsf) &&
      runs (exec .badgerClassify t) fun u => u.badger.history.head?.any fun h => h.msg.kind == 0) = true := by decide +kernel

theorem witness_EventCountersTakeWrites :
    (busRegAt .sup 0x40012804).any (fun r => !r.barred .sup && r.counter.isSome) = true ∧
    (busRegAt .app 0x40012808).any (fun r => r.status.isSome) = true ∧
    runs (exec (.counterWrite .sup 0x40012804 7 false) bench) (fun t => t.trig.clrCount.value == 7) = true ∧
    runs (exec (.counterWrite .sup 0x40012804 0xFFFFFFFF true) bench)
      (fun t => t.trig.clrCount.value == 0 && t.trig.clrCount.wrap && t.trig.clrCount.collide) = true ∧
    runs (exec (.statusW1c .sup 0x40012808 3 true false) { bench with trig := { bench.trig with clrCount := { wrap := true, collide := true } } })
      (fun t => t.trig.clrCount.wrap && !t.trig.clrCount.collide) = true := by decide +kernel

theorem witness_CommandsKeepTheirFrames :
    Part.ch ∉ touchesOf .alertPulseEnd ∧ Part.badger ∈ touchesOf .alertPulseEnd ∧
    runs (exec .alertPulseEnd (bench.modBadger fun b => { b with alertPulsing := true }))
      (fun t => !t.badger.alertPulsing && decide ((t.chan 0).mode = (bench.chan 0).mode)) = true := by decide +kernel

/-! ### Well-formedness: one ill-formed command for each check, and a well-formed one -/


theorem smoke_wf_ok : (Instr.loopTick 0 aWin aWin).wf = true ∧ (Instr.leAdd 0 0x00 0x38 0x39).wf = true ∧
    Instr.topoChange.wf = true ∧ (Instr.tunReq seg0).wf = true ∧ (Instr.arbGrant .fsp 1).wf = true := by decide +kernel

theorem smoke_wf_window : (Instr.loopTick 0 { aWin with a := codes 19 5 } aWin).wf = false ∧
    (Instr.loopTick 0 aWin { aWin with b := codes 22 5 }).wf = false ∧
    (Instr.loopTick 0 aWin { aWin with b := codes 19 0x8000 }).wf = false := by decide +kernel

theorem smoke_wf_lengths : (Instr.ropDatagram ⟨0, 0⟩ false (List.replicate 1473 0) 0 0).wf = false ∧
    (Instr.macFrameRx (List.replicate 1519 0) true).wf = false ∧ (Instr.tunReq { seg0 with seg := 2 }).wf = false ∧
    (Instr.tunRsp { seg0 with totalLen := 1 }).wf = false ∧ (Instr.arbGrant .fsp 0).wf = false ∧
    (Instr.captureComplete 0 (List.replicate 4097 ⟨0, false, true, false⟩)).wf = false := by decide +kernel

theorem smoke_wf_loop : (Instr.leMov 0 0x3D 0x3D).wf = false ∧ (Instr.leMov 0 0x18 0x00).wf = false ∧
    (Instr.leIntg 0 0x00 0x01 0x18).wf = false ∧ (Instr.leShl 0 0x00 0x01 31).wf = false ∧
    (Instr.leBqd 0 0x00 0x01 0x34 0).wf = false ∧ (Instr.leBqd 0 0x00 0x01 0x18 15).wf = false ∧
    (Instr.leBfs 0 0x08 0).wf = false := by decide +kernel

/-! ### Words of the control-law instructions (R266, Table 7.5) -/

theorem test_words : decodeLoop 0x080E3900 = some (.add 0x00 0x38 0x39) ∧ decodeLoop 0x7C000000 = some .fin ∧
    decodeLoop 0x54000000 = none ∧ (LoopInstr.add 0x00 0x38 0x39).wf = true ∧
    encodeLoop (.add 0x00 0x38 0x39) = 0x080E3900 := by decide +kernel

/-! ### The queue -/

theorem test_no_word_is_a_command : decodeTableWord 32 0xFFFFFFFF = none ∧
    (State.reset.withFetchWord 32 0xFFFFFFFF).pending = [] := by decide +kernel

theorem test_front_first : runs (step { bench with pending := [.enumReady 3 9, .topoChange] })
    (fun t => t.ronko.node.topoChanges.value == 0 && t.pending.length == 1) = true := by decide +kernel

theorem test_empty_queue_passes_one_period : runs (step bench)
    (fun t => t.clk.tbc == 1 && t.pending.length == 0) = true := by decide +kernel

/-! ### Witnesses of the statements over every step -/

theorem witness_TimebaseAdvancesByTheTrim : bench.pending.length = 0 ∧ bench.clk.pllLock = true ∧ bench.clk.loadPending = false ∧
    runs (step { bench with clk := { bench.clk with rate := 858993, frac := 0xFFFFFFFF } }) (fun t => t.clk.tbc == 2) = true := by
  decide +kernel

theorem witness_FrontCommandRuns : ({ bench with pending := [.topoChange] } : State).pending.length = 1 ∧
    runs (step { bench with pending := [.topoChange] }) (fun t => t.pending.length == 0) = true := by decide +kernel

/-- The bench with its first key slot programmed and its second disabled. -/
def keyed : State :=
  { bench with otp := { bench.otp with slots := #v[{ keyed := true, hash := [7] }, { disabled := true }, {}, {}] } }

theorem witness_EveryStepKeepsIdentityAndKeys : (keyed.otp.slots[0]).keyed = true ∧ (keyed.otp.slots[1]).disabled = true ∧
    runs (step { keyed with pending := [.keyDisable mg [0, 0xA5]] }) (fun t =>
      (t.otp.slots[0]).keyed && (t.otp.slots[0]).disabled && (t.otp.slots[0]).hash == [7]) = true := by decide +kernel

theorem witness_OperandsReadBack : (0x02 : Opnd).toNat < 0x18 ∧ (0x03 : Opnd) ≠ 0x02 ∧
    readOp (runInputs bench 0) (writeOp {} 0x02 5) 0x02 = 5 ∧ readOp (runInputs bench 0) (writeOp {} 0x02 5) 0x03 = 0 := by
  decide +kernel

theorem witness_LoopDecodeEncode : (LoopInstr.add 0x00 0x38 0x39).wf = true ∧
    decodeLoop 0x080E3900 = some (.add 0x00 0x38 0x39) := by decide +kernel

end Sys2Proof.Tests
end

section
namespace Sys2Proof.Machine

/-! ## Writes of event counters (R74, R75)

A counter keeps what is stored in it while the state is within its sizes (`busRegAt_counts`). A write with an event in the
same cycle stores twice, so the first store has to keep the sizes for the second. That is shown once for every register
table below; only the arbiters' counters lie in a list whose length is bounded. -/

/-- A change of the counter at home `h` keeps the sizes of the state. -/
def CounterHome.KeepsSizes (h : CounterHome) : Prop := ∀ f s, WithinSizes s → WithinSizes (h.set f s)

/-- A counter register counts within the sizes of the state, and so does the write of a status register. -/
def Reg.CountsWithinSizes (r : Reg) : Prop :=
  (∀ h, r.counter = some h → h.KeepsSizes) ∧
  (∀ h, r.status = some h → ∀ w s, WithinSizes s → WithinSizes (r.put w s))

/-- Whatever register a table gives counts within the sizes of the state. -/
def TableCountsWithinSizes (o : Option Reg) : Prop := ∀ r, o = some r → r.CountsWithinSizes

namespace TableCountsWithinSizes

theorem of_none : TableCountsWithinSizes none := fun _ e => nomatch e

theorem of_some {r : Reg} (h : r.CountsWithinSizes) : TableCountsWithinSizes (some r) := fun _ e => Option.some.inj e ▸ h

theorem of_plain {r : Reg} (hc : r.counter = none) (hs : r.status = none) : TableCountsWithinSizes (some r) :=
  of_some ⟨by simp [hc], by simp [hs]⟩

theorem of_bind {α : Type} {o : Option α} {f : α → Option Reg} (h : ∀ a, TableCountsWithinSizes (f a)) :
    TableCountsWithinSizes (o.bind f) := by
  intro r e
  obtain ⟨a, _, e⟩ := Option.bind_eq_some_iff.1 e
  exact h a r e

theorem of_ite {c : Prop} [Decidable c] {a b : Option Reg} (ha : TableCountsWithinSizes a) (hb : TableCountsWithinSizes b) :
    TableCountsWithinSizes (if c then a else b) := by
  split
  · exact ha
  · exact hb

theorem of_homes {hs : List CounterHome} (k : hs.Forall CounterHome.KeepsSizes) {f : CounterHome → Reg}
    (hf : ∀ h, h.KeepsSizes → TableCountsWithinSizes (some (f h))) (i : Nat) : TableCountsWithinSizes ((hs[i]?).map f) := by
  intro r e
  obtain ⟨h, hh, e⟩ := Option.map_eq_some_iff.1 e
  exact hf h (List.forall_iff_forall_mem.1 k h (List.mem_of_getElem? hh)) r (congrArg some e)

theorem of_counter {tsf : Bool} {h : CounterHome} (k : h.KeepsSizes) : TableCountsWithinSizes (some (counterReg tsf h)) :=
  of_some ⟨by simpa [counterReg] using k, by simp [counterReg]⟩

end TableCountsWithinSizes

/-- A written 1 clears WRAP or COLLIDE of the counter and does nothing else. -/
theorem put_statusReg (tsf : Bool) (h : CounterHome) (w : Word) (s : State) :
    (statusReg tsf h).put w s =
      let t := if w.toNat / 2 ^ 0 % 2 ^ 1 = 1 then h.set (fun c => { c with wrap := false }) s else s
      if w.toNat / 2 ^ 1 % 2 ^ 1 = 1 then h.set (fun c => { c with collide := false }) t else t := rfl

/-- Both outcomes of a choice within the sizes. -/
theorem withinSizes_ite {c : Prop} [Decidable c] {s t : State} (hs : WithinSizes s) (ht : WithinSizes t) :
    WithinSizes (if c then s else t) := by
  split
  · exact hs
  · exact ht

theorem CounterHome.KeepsSizes.put_statusReg {h : CounterHome} (k : h.KeepsSizes) (tsf : Bool) (w : Word) (s : State)
    (hs : WithinSizes s) : WithinSizes ((statusReg tsf h).put w s) := by
  rw [Machine.put_statusReg]
  have ht := withinSizes_ite (c := w.toNat / 2 ^ 0 % 2 ^ 1 = 1) (k (fun c => { c with wrap := false }) s hs) hs
  exact withinSizes_ite (k _ _ ht) ht

namespace TableCountsWithinSizes

theorem of_status {tsf : Bool} {h : CounterHome} (k : h.KeepsSizes) : TableCountsWithinSizes (some (statusReg tsf h)) :=
  of_some ⟨by simp [statusReg], fun _ _ => k.put_statusReg tsf⟩

theorem of_counterAt {tsf : Bool} {base off : Nat} {h : CounterHome} (k : h.KeepsSizes) :
    TableCountsWithinSizes (counterAt tsf base off h) :=
  of_ite (of_counter k) (of_ite (of_status k) of_none)

theorem of_countersAt {tsf : Bool} {base off : Nat} {hs : List CounterHome} (k : hs.Forall CounterHome.KeepsSizes) :
    TableCountsWithinSizes (countersAt tsf base off hs) := by
  refine of_ite of_none ?_
  split
  next h hh => exact of_counterAt (List.forall_iff_forall_mem.1 k h (List.mem_of_getElem? hh))
  next => exact of_none

theorem of_pairAt {tsf : Bool} {base off : Nat} {v : State → W64} : TableCountsWithinSizes (pairAt tsf base off v) :=
  of_ite (of_plain rfl rfl) (of_ite (of_plain rfl rfl) of_none)

end TableCountsWithinSizes

open TableCountsWithinSizes

/-! ### The tables, block by block -/

theorem devReg_within (off : Nat) : TableCountsWithinSizes (devReg off) := by
  dsimp only [devReg]
  split
  all_goals first | exact of_plain rfl rfl | exact of_none

theorem clkReg_within (off : Nat) : TableCountsWithinSizes (clkReg off) := by
  dsimp only [clkReg]
  split
  all_goals first | exact of_plain rfl rfl | exact of_pairAt

/-- RESET_COUNT has a status register of WRAP alone (Table 5.8). -/
theorem rstReg_within (off : Nat) : TableCountsWithinSizes (rstReg off) := by
  dsimp only [rstReg]
  split
  case h_3 => exact of_some ⟨nofun, fun _ _ _ _ hs => withinSizes_ite hs hs⟩
  all_goals first | exact of_plain rfl rfl | exact of_pairAt

theorem mbxReg_within (off : Nat) : TableCountsWithinSizes (mbxReg off) := by
  dsimp only [mbxReg, mbxWord]
  repeat' split
  all_goals first | exact of_plain rfl rfl | exact of_none | exact of_counter fun _ _ hs => hs

theorem limReg_within (n : Ch) (k : Nat) : TableCountsWithinSizes (limReg n k) := by
  dsimp only [limReg, limF]
  split
  all_goals first | exact of_plain rfl rfl | exact of_none

theorem lockReg_within (n : Ch) (k : Nat) : TableCountsWithinSizes (lockReg n k) := by
  dsimp only [lockReg]
  split
  all_goals first | exact of_plain rfl rfl | exact of_none

theorem limitReg_within (off : Nat) : TableCountsWithinSizes (limitReg off) :=
  of_ite (of_bind fun n => limReg_within n _) (of_ite (of_bind fun n => lockReg_within n _) of_none)

theorem chModeReg_within (n : Ch) (off : Nat) : TableCountsWithinSizes (chModeReg n off) := by
  dsimp only [chModeReg]
  split
  all_goals first | exact of_plain rfl rfl | exact of_counterAt fun _ _ hs => hs

/-- The status register of the overruns shows their run beside WRAP and COLLIDE (Table 7.15). -/
theorem engChReg_within (n : Ch) (off : Nat) : TableCountsWithinSizes (engChReg n off) := by
  dsimp only [engChReg]
  split
  case h_10 =>
    exact of_some ⟨nofun, fun _ _ => CounterHome.KeepsSizes.put_statusReg
      (h := chHome n (·.loop.ovrCount) fun k c => { c with loop := { c.loop with ovrCount := k } }) (fun _ _ hs => hs) false⟩
  all_goals first | exact of_plain rfl rfl | exact of_none | exact of_counter fun _ _ hs => hs

theorem engReg_within (e : Eng) (off : Nat) : TableCountsWithinSizes (engReg e off) := by
  dsimp only [engReg]
  repeat' split
  all_goals first | exact engChReg_within _ _ | exact of_plain rfl rfl | exact of_none

theorem vecReg_within {k : Nat} (n : Ch) (i : Nat) (get : Channel → Vector Word k) (set : Vector Word k → Channel → Channel) :
    TableCountsWithinSizes (vecReg n i get set) :=
  of_ite (of_plain rfl rfl) of_none

theorem headReg_within (n : Ch) (k : Nat) (x : ProgArea) : TableCountsWithinSizes (headReg n k x) := by
  dsimp only [headReg]
  split <;> exact of_plain rfl rfl

theorem progMem_within (n : Ch) (off : Nat) : TableCountsWithinSizes (progMem n off) := by
  dsimp only [progMem, progReg]
  repeat' refine of_ite ?_ ?_
  all_goals first
    | exact vecReg_within _ _ _ _ | exact headReg_within _ _ _ | exact of_plain rfl rfl | exact of_none

theorem lacReg_within (n : Ch) (off : Nat) : TableCountsWithinSizes (lacReg n off) := by
  dsimp only [lacReg]
  repeat' split
  all_goals first
    | exact of_plain rfl rfl | exact of_none
    | exact of_countersAt ⟨fun _ _ hs => hs, fun _ _ hs => hs⟩

theorem lacBlock_within (e : Eng) (off : Nat) : TableCountsWithinSizes (lacBlock e off) :=
  of_ite (lacReg_within _ _) (of_ite (lacReg_within _ _) (of_ite (of_plain rfl rfl) of_none))

theorem motionReg_within (n : Ch) (off : Nat) : TableCountsWithinSizes (motionReg n off) := by
  dsimp only [motionReg]
  repeat' split
  all_goals first | exact of_plain rfl rfl | exact of_counterAt fun _ _ hs => hs

theorem macHomes_keepSizes : macHomes.Forall CounterHome.KeepsSizes := by
  unfold macHomes
  exact ⟨fun _ _ hs => hs, fun _ _ hs => hs, fun _ _ hs => hs, fun _ _ hs => hs⟩

theorem macReg_within (off : Nat) : TableCountsWithinSizes (macReg off) := by
  dsimp only [macReg]
  repeat' split
  all_goals first
    | exact of_plain rfl rfl | exact of_none
    | exact of_homes macHomes_keepSizes (fun _ k => of_counter k) _
    | exact of_homes macHomes_keepSizes (fun _ k => of_status k) _

theorem convReg_within (n : Ch) (off : Nat) : TableCountsWithinSizes (convReg n off) := by
  dsimp only [convReg]
  repeat' split
  all_goals first | exact of_plain rfl rfl | exact of_counterAt fun _ _ hs => hs

theorem auxReg_within (off : Nat) : TableCountsWithinSizes (auxReg off) := by
  dsimp only [auxReg, auxHomes]
  repeat' split
  all_goals first
    | exact of_plain rfl rfl | exact of_none
    | exact of_countersAt ⟨fun _ _ hs => hs, fun _ _ hs => hs, fun _ _ hs => hs, fun _ _ hs => hs⟩

theorem refReg_within (off : Nat) : TableCountsWithinSizes (refReg off) := by
  dsimp only [refReg]
  split
  all_goals first | exact of_plain rfl rfl | exact of_none

theorem outReg_within (n : Ch) (off : Nat) : TableCountsWithinSizes (outReg n off) := by
  dsimp only [outReg]
  repeat' split
  all_goals first | exact of_plain rfl rfl | exact of_pairAt | exact of_counterAt fun _ _ hs => hs

theorem clrReg_within (off : Nat) : TableCountsWithinSizes (clrReg off) := by
  dsimp only [clrReg]
  split
  · exact of_plain rfl rfl
  · exact of_counterAt fun _ _ hs => hs

theorem pwgReg_within (p : Fin 4) (off : Nat) : TableCountsWithinSizes (pwgReg p off) := by
  dsimp only [pwgReg]
  split
  all_goals first | exact of_plain rfl rfl | exact of_none

theorem trigReg_within (off : Nat) : TableCountsWithinSizes (trigReg off) :=
  of_ite (of_plain rfl rfl) (of_ite (of_counterAt fun _ _ hs => hs)
    (of_ite (of_plain rfl rfl) (of_ite (pwgReg_within _ _) of_none)))

theorem hamReg_within (m : Master) (off : Nat) : TableCountsWithinSizes (hamReg m off) := by
  dsimp only [hamReg]
  repeat' split
  all_goals first
    | exact of_plain rfl rfl | exact of_none | exact of_pairAt
    | exact of_counterAt fun _ _ hs => hs
    | exact of_countersAt ⟨fun _ _ hs => hs, fun _ _ hs => hs⟩
    | (refine of_counterAt fun f s hs => ?_; dsimp only; split <;> exact hs)

theorem sweepReg_within (n : Ch) (off : Nat) : TableCountsWithinSizes (sweepReg n off) := by
  dsimp only [sweepReg]
  split
  all_goals first
    | exact of_plain rfl rfl
    | exact of_countersAt ⟨fun _ _ hs => hs, fun _ _ hs => hs, fun _ _ hs => hs⟩

theorem sweepBlock_within (off : Nat) : TableCountsWithinSizes (sweepBlock off) := of_bind fun n => sweepReg_within n _

theorem semReg_within (m : Master) (off : Nat) : TableCountsWithinSizes (semReg m off) :=
  of_ite (of_plain rfl rfl) (of_ite (of_plain rfl rfl) (of_ite (of_plain rfl rfl) of_none))

/-- An arbiter keeps its requesters. -/
theorem arbHome_keepsSizes (res : Resource) (q : Nat) (get : Requesting → Counter) (set : Counter → Requesting → Requesting) :
    (arbHome res q get set).KeepsSizes := by
  intro f s hs
  cases res <;> simpa [WithinSizes, arbHome, State.modArb, Arb.modReq] using hs

theorem reqReg_within (res : Resource) (q off : Nat) : TableCountsWithinSizes (reqReg res q off) := by
  dsimp only [reqReg]
  repeat' split
  all_goals first
    | exact of_plain rfl rfl | exact of_none
    | exact of_countersAt ⟨arbHome_keepsSizes _ _ _ _, arbHome_keepsSizes _ _ _ _⟩

theorem resourceReg_within (res : Resource) (k count off : Nat) : TableCountsWithinSizes (resourceReg res k count off) := by
  dsimp only [resourceReg]
  repeat' split
  all_goals first | exact of_plain rfl rfl | exact of_none | exact reqReg_within _ _ _

theorem arbReg_within (off : Nat) : TableCountsWithinSizes (arbReg off) :=
  of_ite (resourceReg_within _ _ _ _) (of_ite (resourceReg_within _ _ _ _) (resourceReg_within _ _ _ _))

theorem portReg_within (p : Port) (off : Nat) : TableCountsWithinSizes (portReg p off) := by
  dsimp only [portReg, portHomes]
  split
  all_goals first
    | exact of_plain rfl rfl
    | exact of_countersAt ⟨fun _ _ hs => hs, fun _ _ hs => hs, fun _ _ hs => hs, fun _ _ hs => hs, fun _ _ hs => hs,
        fun _ _ hs => hs, fun _ _ hs => hs⟩

theorem txReg_within (k : Fin 4) (off : Nat) : TableCountsWithinSizes (txReg k off) := by
  dsimp only [txReg]
  split
  all_goals first | exact of_plain rfl rfl | exact of_none

theorem treeReg_within (off : Nat) : TableCountsWithinSizes (treeReg off) := by
  dsimp only [treeReg]
  repeat' split
  all_goals first
    | exact of_plain rfl rfl | exact of_pairAt | exact txReg_within _ _
    | exact of_countersAt ⟨fun _ _ hs => hs, fun _ _ hs => hs, fun _ _ hs => hs, fun _ _ hs => hs⟩

theorem fspReg_within (off : Nat) : TableCountsWithinSizes (fspReg off) := by
  dsimp only [fspReg, fspHomes]
  repeat' split
  all_goals first
    | exact of_plain rfl rfl | exact of_none
    | exact of_countersAt ⟨fun _ _ hs => hs, fun _ _ hs => hs, fun _ _ hs => hs, fun _ _ hs => hs, fun _ _ hs => hs,
        fun _ _ hs => hs, fun _ _ hs => hs, fun _ _ hs => hs⟩

theorem mgpReg_within (off : Nat) : TableCountsWithinSizes (mgpReg off) := by
  dsimp only [mgpReg]
  split
  all_goals first
    | exact of_plain rfl rfl
    | exact of_countersAt ⟨fun _ _ hs => hs, fun _ _ hs => hs, fun _ _ hs => hs, fun _ _ hs => hs, fun _ _ hs => hs,
        fun _ _ hs => hs⟩

theorem lineReg_within (x : Fin 4) (off : Nat) : TableCountsWithinSizes (lineReg x off) := by
  dsimp only [lineReg]
  split
  all_goals first | exact of_plain rfl rfl | exact of_counterAt fun _ _ hs => hs

theorem evtReg_within (off : Nat) : TableCountsWithinSizes (evtReg off) := by
  dsimp only [evtReg]
  repeat' split
  all_goals first | exact of_plain rfl rfl | exact lineReg_within _ _ | exact of_counterAt fun _ _ hs => hs

theorem badgerReg_within (off : Nat) : TableCountsWithinSizes (badgerReg off) := by
  dsimp only [badgerReg]
  repeat' split
  all_goals first
    | exact of_plain rfl rfl
    | exact of_status fun _ _ hs => hs
    | exact of_countersAt ⟨fun _ _ hs => hs, fun _ _ hs => hs⟩

theorem blockReg_within (m : Master) (b off : Nat) : TableCountsWithinSizes (blockReg m b off) :=
  of_ite (devReg_within _) <| of_ite (clkReg_within _) <| of_ite (rstReg_within _) <| of_ite (mbxReg_within _) <|
  of_ite (limitReg_within _) <| of_ite of_none <| of_ite (of_bind fun _ => chModeReg_within _ _) <|
  of_ite (of_bind fun _ => engReg_within _ _) <| of_ite (of_bind fun _ => lacBlock_within _ _) <|
  of_ite (of_bind fun _ => motionReg_within _ _) <| of_ite (of_bind fun _ => progMem_within _ _) <|
  of_ite (of_bind fun _ => convReg_within _ _) <| of_ite (auxReg_within _) <| of_ite (refReg_within _) <|
  of_ite (clrReg_within _) <| of_ite (trigReg_within _) <| of_ite of_none <|
  of_ite (of_bind fun _ => outReg_within _ _) <| of_ite (hamReg_within _ _) <| of_ite (sweepBlock_within _) <|
  of_ite (semReg_within _ _) <| of_ite (arbReg_within _) <| of_ite (portReg_within _ _) <|
  of_ite (portReg_within _ _) <| of_ite (portReg_within _ _) <| of_ite (treeReg_within _) <|
  of_ite (macReg_within _) <| of_ite (fspReg_within _) <| of_ite (mgpReg_within _) <| of_ite (evtReg_within _) <|
  of_ite (badgerReg_within _) <| of_ite (of_plain rfl rfl) <| of_ite (of_plain rfl rfl) <| of_none

/-- Whatever a bus access finds counts within the sizes of the state. -/
theorem busRegAt_countsWithinSizes {m : Master} {addr : Nat} {r : Reg} (e : busRegAt m addr = some r) :
    r.CountsWithinSizes := by
  have found : TableCountsWithinSizes (regAt m addr) := of_ite of_none (blockReg_within _ _ _)
  unfold busRegAt at e
  split at e
  next x hx => cases e; exact found _ hx
  next =>
    exact of_ite (c := regBase ≤ addr ∧ addr % 4 = 0 ∧ blockAllocated ((addr - regBase) / 0x400))
      (of_plain rfl rfl) of_none r e

/-! ### The writes -/

/-- The request registers of the mailbox and of the sessions count nothing. -/
theorem busRegAt_request_plain {m : Master} {addr : Nat} {r : Reg} (e : busRegAt m addr = some r)
    (ha : addr = addrMbxCtrl ∨ addr = addrSessCmd) : r.counter = none ∧ r.status = none := by
  obtain rfl | rfl := ha <;> (cases e; exact ⟨rfl, rfl⟩)

/-- A write of a register that counts, or that shows the status of a counter, asks for nothing else. -/
theorem busWrite_eq_writeReg {m : Master} {addr : Nat} {r : Reg} (e : busRegAt m addr = some r)
    (hr : r.counter.isSome = true ∨ r.status.isSome = true) (w : Word) (s : State) :
    busWrite r m addr w s = writeReg r m addr w s := by
  have hne : ¬ (addr = addrMbxCtrl ∨ addr = addrSessCmd) := fun ha => by
    obtain ⟨hc, hst⟩ := busRegAt_request_plain e ha
    simp [hc, hst] at hr
  rw [not_or] at hne
  simp only [busWrite, hne.1, hne.2, if_false]

theorem sendMsg_history (s : State) (src : BitVec 6) (kind : Byte) (base : Level) (detail : Nat) :
    (sendMsg s src kind base detail).badger.history = s.badger.history := by
  unfold sendMsg sendFull
  extract_lets
  split <;> rfl

/-- A write that the protection bars sends a message, but keeps the history (R145, R592). -/
theorem protViolation_history (s : State) (addr : Nat) : (protViolation s addr).badger.history = s.badger.history := by
  unfold protViolation
  extract_lets
  split
  · rfl
  · exact sendMsg_history ..

theorem protViolation_withinSizes {s : State} (addr : Nat) (hs : WithinSizes s) : WithinSizes (protViolation s addr) := by
  simpa [WithinSizes, protViolation_history] using hs

/-- Barred, ignored or taken, the write of a status register keeps the sizes. -/
theorem writeReg_withinSizes {r : Reg} (hr : r.CountsWithinSizes) {h : CounterHome} (hst : r.status = some h)
    (m : Master) (addr : Nat) (w : Word) {s : State} (hs : WithinSizes s) : WithinSizes (writeReg r m addr w s) :=
  withinSizes_ite (protViolation_withinSizes addr hs) (withinSizes_ite hs (hr.2 h hst w s hs))

theorem put_counterReg (tsf : Bool) (h : CounterHome) (w : Word) (s : State) :
    (counterReg tsf h).put w s = h.set (fun c => { c with value := w }) s := by
  have field : BitVec.ofNat 32 (w.toNat / 2 ^ 0 % 2 ^ 32) = w :=
    by rw [pow_zero, Nat.div_one, Nat.mod_eq_of_lt w.isLt, BitVec.ofNat_toNat, BitVec.setWidth_eq]
  change h.set (fun c => { c with value := BitVec.ofNat 32 (w.toNat / 2 ^ 0 % 2 ^ 32) }) s = _
  rw [field]

/-- A write that is not barred reaches the counter: no check of the TSF stands behind a counter register (R74). -/
theorem writeReg_counter {r : Reg} {m : Master} {h : CounterHome} (hb : r.barred m = false) (hr : r = counterReg r.tsf h)
    (addr : Nat) (w : Word) (s : State) : writeReg r m addr w s = h.set (fun c => { c with value := w }) s := by
  have hg : r.guard s = true := by rw [hr]; rfl
  rw [writeReg, hb, hg]
  simp only [Bool.not_true, Bool.and_false, Bool.false_eq_true, if_false]
  rw [hr]
  exact put_counterReg _ h w s

/-- COUNTER_WRITE of a counter register that the master may write. -/
theorem exec_counterWrite {m : Master} {addr : Nat} {r : Reg} {h : CounterHome} (e : busRegAt m addr = some r)
    (hb : r.barred m = false) (hc : r.counter = some h) (w : Word) (event : Bool) (s : State) :
    exec (.counterWrite m addr w event) s =
      let t := h.set (fun c => { c with value := w }) s
      .next (if event then h.set Counter.collided t else t) := by
  have hw : busWrite r m addr w s = h.set (fun c => { c with value := w }) s :=
    (busWrite_eq_writeReg e (by simp [hc]) w s).trans (writeReg_counter hb ((busRegAt_counts e).1 h hc).2 addr w s)
  change execCounterWrite m addr w event s = _
  cases event <;> simp [execCounterWrite, e, hc, hb, hw]

/-- STATUS_W1C of a status register. -/
theorem exec_statusW1c {m : Master} {addr : Nat} {r : Reg} {h : CounterHome} (e : busRegAt m addr = some r)
    (hst : r.status = some h) (w : Word) (wrapNow collideNow : Bool) (s : State) :
    exec (.statusW1c m addr w wrapNow collideNow) s =
      .next (h.set (fun c => { c with wrap := c.wrap || wrapNow, collide := c.collide || collideNow }) (writeReg r m addr w s)) := by
  rw [← busWrite_eq_writeReg e (by simp [hst]) w s]
  change execStatusW1c m addr w wrapNow collideNow s = _
  simp [execStatusW1c, e, hst]

/-- Settles O60: the write and the event are two changes of one counter, and the first keeps the sizes that the second
relies on. -/
theorem eventCountersTakeWrites : Obligations.EventCountersTakeWrites := by
  unfold Obligations.EventCountersTakeWrites
  constructor
  · intro s m addr r h w hs e hb hc
    obtain ⟨faithful, -⟩ := (busRegAt_counts e).1 h hc
    have loaded := faithful (fun c => { c with value := w }) s hs
    have counted := faithful Counter.collided _ ((busRegAt_countsWithinSizes e).1 h hc (fun c => { c with value := w }) s hs)
    rw [loaded] at counted
    refine ⟨⟨_, exec_counterWrite e hb hc w false s, loaded⟩, _, exec_counterWrite e hb hc w true s, ?_⟩
    simp only [if_true, counted]
    exact ⟨rfl, rfl, by rintro rfl; simp [Counter.collided, Counter.inc]⟩
  · intro s m addr r h w wrapNow collideNow hs e hst
    have kept := (busRegAt_counts e).2 h hst (fun c => { c with wrap := c.wrap || wrapNow, collide := c.collide || collideNow }) _
      (writeReg_withinSizes (busRegAt_countsWithinSizes e) hst m addr w hs)
    refine ⟨_, exec_statusW1c e hst w wrapNow collideNow s, ?_⟩
    rw [kept]
    constructor <;> (rintro rfl; simp)

end Sys2Proof.Machine
end

section
namespace Sys2Proof.Machine

/-! ## Requests that name no object (R88 to R91)

A request whose index and element name no object is answered with the code that `objAt` gives, before any other check
(steps 1 and 2 of Table 3.3). Below, once for each path by which a request comes: ROP, the mailbox and the management port.
In the application range of R91 that code is E_NO_OBJECT. -/

/-! ### The shared operations on an index without an object -/

section
variable {c : Byte}

theorem readAt_of_no_object {idx : W16} {el : Byte} (h : objAt idx.toNat el.toNat = .error c) (who : Requester) (ty : Byte)
    (s : State) : readAt who idx el ty s = (s, { code := c, ty := ty }) := by
  rw [readAt, h]

variable {g : StagedWrite} (h : objAt g.index.toNat g.element.toNat = .error c) (s : State)
include h

theorem writeAt_of_no_object : writeAt g s = (s, { code := c, ty := g.ty }) := by rw [writeAt, h]

theorem formCode_of_no_object : formCode s g = c := by rw [formCode, h]

theorem stagedEpoch_of_no_object : stagedEpoch s g = 0 := by rw [stagedEpoch, h]

end

/-- A code other than E_BUSY is not counted (R132). -/
theorem countBusy_of_ne {c : Byte} (h : c ≠ eBusy) (s : State) (p : Path) : s.countBusy p c = s := by
  simp [State.countBusy, h]

/-- A reply other than E_OK is no instructor command: it is staged and nothing else happens (R179). -/
theorem stageReply_of_ne {x : Reply} (h : x.code ≠ eOk) (s : State) :
    stageReply s x = s.modMgp fun m => { m with staged := some x } := by
  simp [stageReply, State.instructorCommand, h]

/-! ### The paths of a request -/

section
variable {idx : W16} {el ty c : Byte} (h : objAt idx.toNat el.toNat = .error c) (s : State)
include h

theorem exec_ropRead_of_no_object (r : Req) : exec (.ropRead r idx el ty) s = .next (s.reply c ty 0 []) := by
  change execRopRead r idx el ty s = _
  rw [execRopRead, readAt_of_no_object h]
  rfl

theorem exec_ropWrite_of_no_object (r : Req) (data : List Byte) :
    exec (.ropWrite r idx el ty data) s = .next ((s.countBusy r.path c).reply c ty 0 []) := by
  change execRopWrite r idx el ty data s = _
  rw [execRopWrite, writeAt_of_no_object h]
  rfl

end

section
variable {s : State} {g : StagedWrite} {c : Byte} (hg : s.trust.mbx.request = some g)
  (h : objAt g.index.toNat g.element.toNat = .error c)
include hg h

theorem exec_mbxWrite_of_no_object :
    exec .mbxWrite s = .next (mbxResult (s.modMbx fun m => { m with cmd := 1, long := [] }) c 0 0) := by
  change Host.Outcome.next (mbxWrite (s.modMbx fun m => { m with cmd := 1 })) = _
  have asked : (s.modMbx fun m => { m with cmd := 1 }).trust.mbx.request = some g := hg
  simp only [mbxWrite, asked, writeAt_of_no_object h]
  rfl

theorem exec_mbxStage_of_no_object (room : s.trust.mbx.staged.length < 32) (hc : c ≠ eOk) :
    exec .mbxStage s = .next (mbxResult (s.modMbx fun m => { m with cmd := 2, long := [] }) c 0 0) := by
  change Host.Outcome.next (mbxStage (s.modMbx fun m => { m with cmd := 2 })) = _
  have asked : (s.modMbx fun m => { m with cmd := 2 }).trust.mbx.request = some g := hg
  have short : ¬ 32 ≤ (s.modMbx fun m => { m with cmd := 2 }).trust.mbx.staged.length := Nat.not_le.2 room
  simp only [mbxStage, asked, if_neg short, formCode_of_no_object h, stagedEpoch_of_no_object h, bne_iff_ne.2 hc, if_true]
  rfl

end

section
variable {s : State} {idx : W16} {el ty hdr : Byte}

theorem exec_mgpRead_of_not_reached (asked : s.toDo tRead (readFields idx el ty) = some hdr)
    (h : mgpReach s idx.toNat el.toNat ≠ eOk) :
    exec (.mgpRead idx el ty) s =
      .next (s.modMgp fun m => { m with staged := some { rhdr := hdr, code := mgpReach s idx.toNat el.toNat } }) := by
  change execMgpRead idx el ty s = _
  simp only [execMgpRead, asked, bne_iff_ne.2 h, if_true]
  rw [stageReply_of_ne h]

theorem exec_mgpWrite_of_not_reached {epoch : Option W16} {data : List Byte}
    (asked : s.toDo tWrite (writeFields idx el ty epoch data) = some hdr) (h : mgpReach s idx.toNat el.toNat ≠ eOk) :
    exec (.mgpWrite idx el ty epoch data) s =
      .next (s.modMgp fun m => { m with staged := some { rhdr := hdr, code := mgpReach s idx.toNat el.toNat } }) := by
  change execMgpWrite idx el ty epoch data s = _
  simp only [execMgpWrite, asked, bne_iff_ne.2 h, if_true]
  rw [stageReply_of_ne h]

end

/-! ### The application range (R91) -/

theorem objAt_applicationRange {idx : Nat} (h : 0xC000 ≤ idx) (el : Nat) : objAt idx el = .error eNoObject := if_pos h

/-- None of the indices that the management port always serves lies in the application range (R570). -/
theorem mgpAlways_applicationRange {idx : Nat} (h : 0xC000 ≤ idx) : mgpAlways idx = false := by
  simp only [mgpAlways, within, Bool.or_eq_false_iff, Bool.and_eq_false_iff, beq_eq_false_iff_ne, decide_eq_false_iff_not]
  omega

/-- The management port too finds no object in the application range, in RESET as in every other state. -/
theorem mgpReach_applicationRange (s : State) {idx : Nat} (h : 0xC000 ≤ idx) (el : Nat) : mgpReach s idx el = eNoObject := by
  simp [mgpReach, mgpAlways_applicationRange h, objAt_applicationRange h]

/-- Settles O58: the application range holds no object, so each path answers with the code of step 1. -/
theorem applicationRangeHoldsNoObject : Obligations.ApplicationRangeHoldsNoObject := by
  unfold Obligations.ApplicationRangeHoldsNoObject
  intro s idx el ty hidx
  have absent : objAt idx.toNat el.toNat = .error eNoObject := objAt_applicationRange hidx _
  have reach : mgpReach s idx.toNat el.toNat = eNoObject := mgpReach_applicationRange s hidx _
  have refused : mgpReach s idx.toNat el.toNat ≠ eOk := by rw [reach]; decide
  refine ⟨fun r => ?ropRead, fun r data => ?ropWrite, fun r data asked => ⟨?mbxWrite, fun room => ?mbxStage⟩,
    fun hdr asked => ?mgpRead, fun hdr epoch data asked => ?mgpWrite⟩
  case ropRead => exact ⟨_, exec_ropRead_of_no_object absent s r, rfl, rfl⟩
  case ropWrite =>
    have answered := exec_ropWrite_of_no_object (ty := ty) absent s r data
    rw [countBusy_of_ne (by decide)] at answered
    exact ⟨_, answered, rfl, rfl⟩
  case mbxWrite => exact ⟨_, exec_mbxWrite_of_no_object asked absent, rfl, rfl⟩
  case mbxStage => exact ⟨_, exec_mbxStage_of_no_object asked absent room (by decide), rfl, rfl, rfl⟩
  case mgpRead => exact ⟨_, _, exec_mgpRead_of_not_reached asked refused, rfl, rfl, reach, rfl⟩
  case mgpWrite => exact ⟨_, _, exec_mgpWrite_of_not_reached asked refused, rfl, rfl, reach, rfl⟩

end Sys2Proof.Machine
end

section
namespace Sys2Proof.Machine

/-! ## CLAIM and RELEASE without the channel's epoch (R98, R183)

The value 1 passes steps 3 to 5 of Table 3.3 for both lock objects, so step 6, the epoch, gives the verdict. Neither object
keeps anything of a refused write, and E_STALE_EPOCH is not counted as E_BUSY is: only the answer changes. -/

/-- The verdict is the epoch's where the class, the type and the range let the write pass. -/
theorem verdict_of_epochCode {o : Obj} {ty c : Byte} {w : W} (access : o.accessCode w = eOk) (type : o.typeCode ty w = eOk)
    (range : o.rangeCode w = eOk) (epoch : o.epochCode w = c) (hc : c ≠ eOk) : o.verdict ty w = c := by
  simp [Obj.verdict, firstCode, access, type, range, epoch, hc]

/-- A lock object is judged by the epoch that its write finds (R98). -/
theorem epochCode_of_lock {o : Obj} {w : W} {n : Ch} (scope : o.scope w = .lock n)
    (other : w.req.epoch ≠ some (w.seq.chan n).lock.epoch) : o.epochCode w = eStaleEpoch := by
  simp [Obj.epochCode, scope, epochOk, other]

/-- The write that `perform` judges. -/
def Obj.judged (o : Obj) (r : Req) (data : List Byte) (s : State) : W := ⟨r, data, s, o.put ⟨r, data, s, s, s⟩ s, s⟩

section
variable {o : Obj} {r : Req} {ty : Byte} {data : List Byte} {s : State}

/-- A refused request whose object keeps nothing of it, and whose code is not counted, changes the answer alone. -/
theorem perform_of_verdict {c : Byte} (verdict : o.verdict ty (o.judged r data s) = c) (hok : c ≠ eOk) (hbusy : c ≠ eBusy)
    (keeps : ∀ w, o.onRefuse w c s = s) :
    perform o r ty data s = s.reply c ty (o.epochAfter (o.judged r data s) s) [] := by
  unfold Obj.judged at *
  simp [perform, performOp, verdict, hok, keeps, countBusy_of_ne hbusy]

/-- A request to a lock object that nothing but its epoch stops. -/
theorem perform_of_other_epoch {n : Ch} (access : o.accessCode (o.judged r data s) = eOk)
    (type : o.typeCode ty (o.judged r data s) = eOk) (range : o.rangeCode (o.judged r data s) = eOk)
    (scope : o.scope (o.judged r data s) = .lock n) (keeps : ∀ w, o.onRefuse w eStaleEpoch s = s)
    (other : r.epoch ≠ some (s.chan n).lock.epoch) :
    perform o r ty data s = s.reply eStaleEpoch ty (o.epochAfter (o.judged r data s) s) [] :=
  have stale : o.epochCode (o.judged r data s) = eStaleEpoch := epochCode_of_lock scope other
  perform_of_verdict (verdict_of_epochCode access type range stale (by decide)) (by decide) (by decide) keeps

end

/-- Settles O57: both commands are requests to a lock object, whose verdict is the epoch's (step 6 of Table 3.3). -/
theorem claimAndReleaseCarryTheEpoch : Obligations.ClaimAndReleaseCarryTheEpoch := by
  unfold Obligations.ClaimAndReleaseCarryTheEpoch
  intro s r n other
  have claimed := perform_of_other_epoch (o := objClaim n) (ty := tU8) (data := [1]) rfl rfl rfl rfl (fun _ => rfl) other
  have released := perform_of_other_epoch (o := objRelease n) (ty := tU8) (data := [1]) rfl rfl rfl rfl (fun _ => rfl) other
  exact ⟨⟨_, congrArg Host.Outcome.next claimed, rfl, rfl⟩, ⟨_, congrArg Host.Outcome.next released, rfl, rfl⟩⟩

end Sys2Proof.Machine
end

section
namespace Sys2Proof.Machine

/-! ## The one way into BOOT (R211, R593)

BOOT_ENTRY alone takes the device into BOOT. Every other command changes the device state, if at all, by an entry into another
state or into RESET; that is shown once for each operation that does so, and carried along the paths by which a write can
reach it: the objects, the registers, the groups, ROP, the tunnel and the management port. -/

/-- The device is not in BOOT. -/
def OutOfBoot (s : State) : Prop := s.dev.state ≠ .boot

/-- A change of the state that does not take the device into BOOT. -/
def AvoidsBoot (f : State → State) : Prop := ∀ s, OutOfBoot s → OutOfBoot (f s)

theorem OutOfBoot.congr {s t : State} (hs : OutOfBoot s) (h : t.dev = s.dev) : OutOfBoot t := by rwa [OutOfBoot, h]

theorem OutOfBoot.ite {c : Prop} [Decidable c] {s t : State} (hs : OutOfBoot s) (ht : OutOfBoot t) :
    OutOfBoot (if c then s else t) := by
  split
  · exact hs
  · exact ht

theorem AvoidsBoot.of_dev {f : State → State} (h : ∀ s, (f s).dev = s.dev) : AvoidsBoot f := fun s hs => hs.congr (h s)

theorem AvoidsBoot.id : AvoidsBoot fun s => s := fun _ hs => hs

/-! ### Entries into a state -/

section
variable {s : State}

theorem setDevice_outOfBoot {d : DeviceState} (hd : d ≠ .boot) (s : State) : OutOfBoot (setDevice s d) := by
  simpa [OutOfBoot] using hd

theorem enterQuiet_outOfBoot {d : DeviceState} (hd : d ≠ .boot) (s : State) : OutOfBoot (enterQuiet s d) := by
  simpa [OutOfBoot] using hd

theorem enterRun_outOfBoot (s : State) : OutOfBoot (enterRun s) := by simp [OutOfBoot]

theorem enterHalt_outOfBoot (m : W64) (f : Bool) (hs : OutOfBoot s) : OutOfBoot (enterHalt s m f) := by
  unfold enterHalt
  split
  · exact hs
  · exact setDevice_outOfBoot (by decide) _

theorem haltNow_outOfBoot (src : BitVec 6) (kind : Byte) (detail : Nat) (hs : OutOfBoot s) :
    OutOfBoot (haltNow s src kind detail) :=
  enterHalt_outOfBoot _ _ (hs.congr (by simp))

theorem enterReset_outOfBoot (s : State) (cause : W16) (aon : Bool) : OutOfBoot (enterReset s cause aon) := by
  unfold enterReset
  split <;> simp [OutOfBoot, afterReset]

theorem powerOn_outOfBoot (s : State) : OutOfBoot (powerOn s) := by simp [OutOfBoot, powerOn, afterReset]

theorem deviceReset_outOfBoot (s : State) : OutOfBoot (deviceReset s) := enterReset_outOfBoot _ _ _

theorem setRefReady_outOfBoot (on : Bool) (hs : OutOfBoot s) : OutOfBoot (setRefReady s on) := hs

theorem coreReset_outOfBoot (hs : OutOfBoot s) : OutOfBoot (coreReset s) := by simpa [OutOfBoot] using hs

theorem wdtExpire_outOfBoot (hs : OutOfBoot s) : OutOfBoot (wdtExpire s) := .ite (coreReset_outOfBoot (hs.congr (by simp))) hs

/-! ### Faults -/

/-- The clock-loss reaction of R80 ends in HALT. -/
theorem clockFails_react_outOfBoot (m : Monitor) (count : Byte) (hs : OutOfBoot s) : OutOfBoot (clockFails.react m count s) :=
  haltNow_outOfBoot _ _ _ (hs.congr (by simp))

theorem clockFails_outOfBoot (m : Monitor) (count : Byte) (hs : OutOfBoot s) : OutOfBoot (clockFails m count s) := by
  unfold clockFails
  split
  · exact hs
  · have reacts := clockFails_react_outOfBoot (s := { s with clk := s.clk.fail m }) m count hs
    dsimp only
    split
    · exact hs
    · exact hs
    · exact .ite reacts hs
    · exact reacts

theorem refFails_outOfBoot (mon : W16) (hs : OutOfBoot s) : OutOfBoot (refFails mon s) := by
  unfold refFails
  exact .ite (by simpa [OutOfBoot] using hs) hs

theorem react_outOfBoot (m : Msg) (a : Level) (hs : OutOfBoot s) : OutOfBoot (react s m a) := by
  unfold react
  split
  · exact hs
  · exact hs.congr (by simp)
  · exact enterHalt_outOfBoot _ _ hs
  · exact hs

theorem classify_outOfBoot (m : Msg) (hs : OutOfBoot s) : OutOfBoot (classify s m) := by
  unfold classify
  exact react_outOfBoot _ _ (.ite (.congr (s := s) hs (by simp)) hs)

theorem injectAt_outOfBoot (target arg value : Nat) (hs : OutOfBoot s) : OutOfBoot (injectAt s target arg value) := by
  unfold injectAt
  split
  · split
    · exact hs.congr (by simp)
    · exact hs
  · exact .ite (refFails_outOfBoot _ hs) hs
  · exact clockFails_outOfBoot _ _ hs
  · exact .ite hs hs
  · exact hs

end
end Sys2Proof.Machine
end

section
namespace Sys2Proof.Machine

/-! ### Objects

An object avoids BOOT if neither an accepted write of it nor a refused one takes the device there. -/

def Obj.AvoidsBoot (o : Obj) : Prop := ∀ w, Machine.AvoidsBoot (o.put w) ∧ ∀ c, Machine.AvoidsBoot (o.onRefuse w c)

/-- Whatever object a table gives avoids BOOT. -/
def TableAvoidsBoot (o : Option Obj) : Prop := ∀ x, o = some x → x.AvoidsBoot

/-- An object that keeps nothing of a refused write. -/
theorem Obj.AvoidsBoot.of_put {o : Obj} (hp : ∀ w, Machine.AvoidsBoot (o.put w)) (hr : ∀ w c s, o.onRefuse w c s = s) :
    o.AvoidsBoot :=
  fun w => ⟨hp w, fun c s hs => (hr w c s).symm ▸ hs⟩

/-- An object whose writes do not reach the device's record. -/
theorem Obj.AvoidsBoot.of_dev {o : Obj} (hp : ∀ w s, (o.put w s).dev = s.dev) (hr : ∀ w c s, (o.onRefuse w c s).dev = s.dev) :
    o.AvoidsBoot :=
  fun w => ⟨.of_dev (hp w), fun c => .of_dev (hr w c)⟩

namespace TableAvoidsBoot

theorem of_none : TableAvoidsBoot none := fun _ e => nomatch e

theorem of_some {o : Obj} (h : o.AvoidsBoot) : TableAvoidsBoot (some o) := fun _ e => Option.some.inj e ▸ h

theorem of_dev {o : Obj} (hp : ∀ w s, (o.put w s).dev = s.dev) (hr : ∀ w c s, (o.onRefuse w c s).dev = s.dev) :
    TableAvoidsBoot (some o) :=
  of_some (.of_dev hp hr)

theorem of_map {α : Type} {f : α → Obj} (h : ∀ a, (f a).AvoidsBoot) (o : Option α) : TableAvoidsBoot (o.map f) := by
  intro x e
  obtain ⟨a, -, rfl⟩ := Option.map_eq_some_iff.1 e
  exact h a

theorem of_bind {α : Type} {f : α → Option Obj} (h : ∀ a, TableAvoidsBoot (f a)) (o : Option α) : TableAvoidsBoot (o.bind f) := by
  intro x e
  obtain ⟨a, -, e⟩ := Option.bind_eq_some_iff.1 e
  exact h a x e

theorem of_ite {c : Prop} [Decidable c] {a b : Option Obj} (ha : TableAvoidsBoot a) (hb : TableAvoidsBoot b) :
    TableAvoidsBoot (if c then a else b) := by
  split
  · exact ha
  · exact hb

end TableAvoidsBoot

open TableAvoidsBoot

/-! Rings and their bindings -/

theorem objTuneRing_avoidsBoot (n : Ch) : (objTuneRing n).AvoidsBoot := .of_dev (by simp [objTuneRing, notTune]) fun _ _ _ => rfl

theorem objStreamRing_avoidsBoot (n : Ch) : (objStreamRing n).AvoidsBoot := .of_dev (by simp [objStreamRing]) fun _ _ _ => rfl

theorem objCapRing_avoidsBoot (n : Ch) : (objCapRing n).AvoidsBoot := .of_dev (by simp [objCapRing, capObj]) fun _ _ _ => rfl

theorem listRingObj_avoidsBoot (n : Ch) (role : Nat) (form : Ring → Bool) (get : Sweep → Nat) (set : Nat → Sweep → Sweep) :
    (listRingObj n role form get set).AvoidsBoot :=
  .of_dev (by simp [listRingObj, listObj]) fun _ _ _ => rfl

theorem objAuxRing_avoidsBoot : objAuxRing.AvoidsBoot :=
  .of_dev (fun w s => by dsimp only [objAuxRing]; split <;> simp) fun _ _ _ => rfl

theorem objRingConfig_avoidsBoot : objRingConfig.AvoidsBoot :=
  .of_dev (fun w s => by dsimp only [objRingConfig]; split <;> simp) fun _ _ _ => rfl

theorem ringCmd_avoidsBoot (act : Ring → Ring) : (ringCmd act).AvoidsBoot :=
  .of_dev (fun w s => by dsimp only [ringCmd]; split <;> simp) fun _ _ _ => rfl

/-! Channels and engines -/

theorem objMode_avoidsBoot (n : Ch) : (objMode n).AvoidsBoot :=
  .of_dev (fun w s => by dsimp only [objMode]; split <;> simp) fun _ _ _ => rfl

theorem objListStop_avoidsBoot (n : Ch) : (objListStop n).AvoidsBoot := .of_dev (by simp [objListStop, chCmd]) fun _ _ _ => rfl

theorem objSwpTrig_avoidsBoot (n : Ch) : (objSwpTrig n).AvoidsBoot := .of_dev (by simp [objSwpTrig, chCmd]) fun _ _ _ => rfl

theorem loadObj_avoidsBoot (n : Ch) (main : Bool) (inUse : Channel → Bool) (sel : ProgSel → ProgSel)
    (set : Program → ProgSel → ProgSel) : (loadObj n main inUse sel set).AvoidsBoot :=
  .of_dev (fun w s => by dsimp only [loadObj]; split <;> simp) fun _ _ _ => rfl

theorem objLoopN_avoidsBoot (e : Eng) : (objLoopN e).AvoidsBoot :=
  .of_dev (fun w s => by dsimp only [objLoopN]; split <;> simp) fun _ _ _ => rfl

theorem objNotch_avoidsBoot (n : Ch) (r el : Nat) : TableAvoidsBoot (objNotch n r el) := by
  unfold objNotch
  split
  all_goals first | exact of_dev (fun _ _ => rfl) fun _ _ _ => rfl | exact of_none

/-! Auxiliary measurements -/

theorem auxNat_avoidsBoot (ty : Byte) (legal : Nat → Bool) (get : AuxCfg → Nat) (set : Nat → AuxCfg → AuxCfg) :
    (auxNat ty legal get set).AvoidsBoot :=
  .of_dev (by simp [auxNat, rwNat]) fun _ _ _ => rfl

theorem objAuxRec_avoidsBoot : objAuxRec.AvoidsBoot := .of_dev (by simp [objAuxRec, auxNat, rwNat]) fun _ _ _ => rfl

theorem objScanSrc_avoidsBoot : objScanSrc.AvoidsBoot :=
  .of_dev (fun w s => by dsimp only [objScanSrc, rwNat]; split <;> simp) fun _ _ _ => rfl

theorem objScanStart_avoidsBoot : objScanStart.AvoidsBoot := .of_dev (by simp [objScanStart]) fun _ _ _ => rfl

theorem objScanStop_avoidsBoot : objScanStop.AvoidsBoot :=
  .of_dev (fun w s => by dsimp only [objScanStop]; split <;> simp) fun _ _ _ => rfl

/-! Trust, ownership and device state -/

theorem objUnlock_avoidsBoot : objUnlock.AvoidsBoot :=
  .of_dev (fun w s => by dsimp only [objUnlock]; split <;> simp) fun _ _ _ => rfl

theorem objLock_avoidsBoot : objLock.AvoidsBoot := .of_dev (by simp [objLock]) fun _ _ _ => rfl

theorem objKeyProgram_avoidsBoot : objKeyProgram.AvoidsBoot :=
  .of_dev (fun w s => by dsimp only [objKeyProgram]; split <;> simp) fun _ _ _ => rfl

theorem objKeyDisable_avoidsBoot : objKeyDisable.AvoidsBoot :=
  .of_dev (fun w s => by dsimp only [objKeyDisable]; split <;> simp) fun _ _ _ => rfl

theorem limObj_avoidsBoot (n : Ch) (ty : Byte) (legal : W → Bool) (get : Limits → Nat) (set : Nat → Limits → Limits) :
    (limObj n ty legal get set).AvoidsBoot :=
  .of_dev (by simp [limObj]) fun _ _ _ => rfl

theorem objLimit_avoidsBoot (n : Ch) (el : Nat) : TableAvoidsBoot (objLimit n el) := by
  unfold objLimit
  split
  all_goals first | exact of_some (limObj_avoidsBoot n _ _ _ _) | exact of_none

theorem objClaim_avoidsBoot (n : Ch) : (objClaim n).AvoidsBoot := .of_dev (by simp [objClaim]) fun _ _ _ => rfl

theorem objRelease_avoidsBoot (n : Ch) : (objRelease n).AvoidsBoot := .of_dev (by simp [objRelease]) fun _ _ _ => rfl

/-- DEVICE_RESET only marks the reset that follows its reply (R205). -/
theorem objDeviceReset_avoidsBoot : objDeviceReset.AvoidsBoot := .of_put (fun _ _ hs => hs) fun _ _ _ => rfl

/-- APP_RESET goes from SAFE to VERIFY, and elsewhere resets the core alone (R190, R216). -/
theorem objAppReset_avoidsBoot : objAppReset.AvoidsBoot :=
  .of_put (fun _ _ hs => .ite (enterQuiet_outOfBoot (by decide) _) (coreReset_outOfBoot hs)) fun _ _ _ => rfl

/-! Badger, and what it is asked to do -/

theorem objFaultAck_avoidsBoot : objFaultAck.AvoidsBoot :=
  .of_dev (fun w s => by dsimp only [objFaultAck]; split <;> simp) fun _ _ _ => rfl

theorem objForce_avoidsBoot : objForce.AvoidsBoot := .of_dev (by simp [objForce]) fun _ _ _ => rfl

theorem objTestEnter_avoidsBoot : objTestEnter.AvoidsBoot :=
  .of_dev (fun w s => by dsimp only [objTestEnter]; split <;> simp) fun _ _ _ => rfl

theorem objTestExit_avoidsBoot : objTestExit.AvoidsBoot := .of_dev (by simp [objTestExit]) fun _ _ _ => rfl

/-- The detector of an injection reacts at once, at most with HALT (R606). -/
theorem objInject_avoidsBoot : objInject.AvoidsBoot :=
  .of_put (fun _ _ hs => injectAt_outOfBoot _ _ _ hs) fun _ _ _ => rfl

/-! Arbiter, link and front end -/

/-- A refused COMMIT shows in COMMIT_STATE (R474). -/
theorem objArbCommit_avoidsBoot : objArbCommit.AvoidsBoot :=
  .of_dev (fun w s => by dsimp only [objArbCommit]; split <;> simp)
    fun w c s => by dsimp only [objArbCommit]; repeat' split <;> simp

theorem reqCfg_avoidsBoot (res : Resource) (q : Nat) (ty : Byte) (legal : Nat → Bool) (get : ReqCfg → Nat)
    (set : Nat → ReqCfg → ReqCfg) : (reqCfg res q ty legal get set).AvoidsBoot :=
  .of_dev (by simp [reqCfg, rwNat]) fun _ _ _ => rfl

theorem objPortEn_avoidsBoot (p : Port) : (objPortEn p).AvoidsBoot :=
  .of_dev (fun w s => by dsimp only [objPortEn, rwNat]; repeat' split <;> simp) fun _ _ _ => rfl

theorem objEnumRestart_avoidsBoot : objEnumRestart.AvoidsBoot := .of_dev (by simp [objEnumRestart]) fun _ _ _ => rfl

theorem objSchedTrig_avoidsBoot : objSchedTrig.AvoidsBoot := .of_dev (by simp [objSchedTrig]) fun _ _ _ => rfl

theorem objFspRelease_avoidsBoot : objFspRelease.AvoidsBoot :=
  .of_dev (fun w s => by dsimp only [objFspRelease]; split <;> simp) fun _ _ _ => rfl

/-! ### The object tables, chapter by chapter

An entry whose write is one update of another part of the state keeps the device's record by computation. -/

@[simp] theorem objsMode_avoidsBoot (n : Ch) (j el : Nat) : TableAvoidsBoot (objsMode n j el) := by
  dsimp only [objsMode]
  repeat' split
  all_goals first
    | exact of_dev (fun _ _ => rfl) fun _ _ _ => rfl | exact of_none
    | exact of_some (objMode_avoidsBoot n)

@[simp] theorem objsSignal_avoidsBoot (n : Ch) (j el : Nat) : TableAvoidsBoot (objsSignal n j el) := by
  dsimp only [objsSignal]
  repeat' split
  all_goals first | exact of_dev (fun _ _ => rfl) fun _ _ _ => rfl | exact of_none

@[simp] theorem objsMotion_avoidsBoot (n : Ch) (j el : Nat) : TableAvoidsBoot (objsMotion n j el) := by
  dsimp only [objsMotion]
  repeat' split
  all_goals first | exact of_dev (fun _ _ => rfl) fun _ _ _ => rfl | exact of_none

@[simp] theorem objsOutput_avoidsBoot (n : Ch) (j el : Nat) : TableAvoidsBoot (objsOutput n j el) := by
  dsimp only [objsOutput]
  repeat' split
  all_goals first | exact of_dev (fun _ _ => rfl) fun _ _ _ => rfl | exact of_none

@[simp] theorem objsSweep_avoidsBoot (n : Ch) (j el : Nat) : TableAvoidsBoot (objsSweep n j el) := by
  dsimp only [objsSweep]
  repeat' split
  all_goals first
    | exact of_dev (fun _ _ => rfl) fun _ _ _ => rfl | exact of_none
    | exact of_some (listRingObj_avoidsBoot n _ _ _ _)
    | exact of_some (objListStop_avoidsBoot n)
    | exact of_some (objSwpTrig_avoidsBoot n)

@[simp] theorem objsLac_avoidsBoot (n : Ch) (j el : Nat) : TableAvoidsBoot (objsLac n j el) := by
  dsimp only [objsLac]
  repeat' split
  all_goals first
    | exact of_dev (fun _ _ => rfl) fun _ _ _ => rfl | exact of_none
    | exact of_some (objTuneRing_avoidsBoot n)

@[simp] theorem objsConv_avoidsBoot (n : Ch) (j el : Nat) : TableAvoidsBoot (objsConv n j el) := by
  dsimp only [objsConv]
  repeat' split
  all_goals first
    | exact of_dev (fun _ _ => rfl) fun _ _ _ => rfl | exact of_none
    | exact of_some (objStreamRing_avoidsBoot n)
    | exact of_some (objCapRing_avoidsBoot n)

@[simp] theorem objsEngineCh_avoidsBoot (n : Ch) (j el : Nat) : TableAvoidsBoot (objsEngineCh n j el) := by
  dsimp only [objsEngineCh]
  repeat' split
  all_goals first
    | exact of_dev (fun _ _ => rfl) fun _ _ _ => rfl | exact of_none
    | exact of_some (loadObj_avoidsBoot n _ _ _ _)
    | exact objNotch_avoidsBoot n _ _

@[simp] theorem objsEngine_avoidsBoot (e : Eng) (idx el : Nat) : TableAvoidsBoot (objsEngine e idx el) := by
  dsimp only [objsEngine]
  repeat' split
  all_goals first
    | exact of_dev (fun _ _ => rfl) fun _ _ _ => rfl | exact of_none
    | exact objsEngineCh_avoidsBoot _ _ _

@[simp] theorem objsEnv_avoidsBoot (el : Nat) : TableAvoidsBoot (objsEnv el) := by
  dsimp only [objsEnv]
  repeat' split
  all_goals first | exact of_dev (fun _ _ => rfl) fun _ _ _ => rfl | exact of_none

@[simp] theorem objsAux_avoidsBoot (idx el : Nat) : TableAvoidsBoot (objsAux idx el) := by
  dsimp only [objsAux]
  repeat' split
  case h_2 => exact of_some objScanSrc_avoidsBoot
  case h_9 => exact of_some objAuxRing_avoidsBoot
  case h_10 => exact of_some objAuxRec_avoidsBoot
  case h_14 => exact of_some objScanStart_avoidsBoot
  case h_15 => exact of_some objScanStop_avoidsBoot
  all_goals first
    | exact of_dev (fun _ _ => rfl) fun _ _ _ => rfl | exact of_none
    | exact of_some (auxNat_avoidsBoot _ _ _ _)

@[simp] theorem objsHamper_avoidsBoot (idx el : Nat) : TableAvoidsBoot (objsHamper idx el) := by
  dsimp only [objsHamper]
  repeat' split
  all_goals first
    | exact of_dev (fun _ _ => rfl) fun _ _ _ => rfl | exact of_none
    | exact of_some objRingConfig_avoidsBoot
    | exact of_some (ringCmd_avoidsBoot _)
    | exact of_dev (by simp) fun _ _ _ => rfl

@[simp] theorem objsReq_avoidsBoot (res : Resource) (q el : Nat) : TableAvoidsBoot (objsReq res q el) := by
  dsimp only [objsReq]
  repeat' split
  all_goals first
    | exact of_dev (fun _ _ => rfl) fun _ _ _ => rfl | exact of_none
    | exact of_some (reqCfg_avoidsBoot _ _ _ _ _ _)
    | exact of_dev (by simp) fun _ _ _ => rfl

@[simp] theorem objsArbMain_avoidsBoot (el : Nat) : TableAvoidsBoot (objsArbMain el) := by
  dsimp only [objsArbMain]
  repeat' split
  all_goals first
    | exact of_dev (fun _ _ => rfl) fun _ _ _ => rfl | exact of_none
    | exact of_some objArbCommit_avoidsBoot
    | exact of_map (fun _ => .of_dev (fun _ _ => rfl) fun _ _ _ => rfl) _
    | exact of_map (fun _ => .of_dev (by simp [rwNat]) fun _ _ _ => rfl) _

@[simp] theorem objsArb_avoidsBoot (idx el : Nat) : TableAvoidsBoot (objsArb idx el) := by
  dsimp only [objsArb]
  repeat' split
  all_goals first
    | exact of_dev (fun _ _ => rfl) fun _ _ _ => rfl | exact of_none
    | exact objsArbMain_avoidsBoot _
    | exact objsReq_avoidsBoot _ _ _

@[simp] theorem objsDevice_avoidsBoot (idx el : Nat) : TableAvoidsBoot (objsDevice idx el) := by
  dsimp only [objsDevice]
  repeat' split
  all_goals first
    | exact of_dev (fun _ _ => rfl) fun _ _ _ => rfl | exact of_none
    | exact of_some objDeviceReset_avoidsBoot

@[simp] theorem objsPeriod_avoidsBoot (idx el : Nat) : TableAvoidsBoot (objsPeriod idx el) := by
  dsimp only [objsPeriod]
  repeat' split
  all_goals first
    | exact of_dev (fun _ _ => rfl) fun _ _ _ => rfl | exact of_none
    | exact of_map objLoopN_avoidsBoot _
    | exact of_map (fun _ => .of_dev (fun _ _ => rfl) fun _ _ _ => rfl) _

@[simp] theorem objsTrust_avoidsBoot (idx el : Nat) : TableAvoidsBoot (objsTrust idx el) := by
  dsimp only [objsTrust]
  repeat' split
  all_goals first
    | exact of_dev (fun _ _ => rfl) fun _ _ _ => rfl | exact of_none
    | exact of_some objUnlock_avoidsBoot
    | exact of_some objLock_avoidsBoot
    | exact of_some objKeyProgram_avoidsBoot
    | exact of_some objKeyDisable_avoidsBoot
    | exact of_some objAppReset_avoidsBoot
    | exact of_some (objClaim_avoidsBoot _)
    | exact of_some (objRelease_avoidsBoot _)
    | exact objLimit_avoidsBoot _ _

@[simp] theorem objsLine_avoidsBoot (x : Fin 4) (el : Nat) : TableAvoidsBoot (objsLine x el) := by
  dsimp only [objsLine]
  repeat' split
  all_goals first | exact of_dev (fun _ _ => rfl) fun _ _ _ => rfl | exact of_none

@[simp] theorem objsBadgerMain_avoidsBoot (el : Nat) : TableAvoidsBoot (objsBadgerMain el) := by
  dsimp only [objsBadgerMain]
  repeat' split
  all_goals first
    | exact of_dev (fun _ _ => rfl) fun _ _ _ => rfl | exact of_none
    | exact of_some objFaultAck_avoidsBoot
    | exact of_dev (by simp) fun _ _ _ => rfl

@[simp] theorem objsBadger_avoidsBoot (idx el : Nat) : TableAvoidsBoot (objsBadger idx el) := by
  dsimp only [objsBadger]
  repeat' split
  all_goals first
    | exact of_dev (fun _ _ => rfl) fun _ _ _ => rfl | exact of_none
    | exact objsLine_avoidsBoot _ _
    | exact objsBadgerMain_avoidsBoot _
    | exact of_some objForce_avoidsBoot
    | exact of_some objTestEnter_avoidsBoot
    | exact of_some objTestExit_avoidsBoot
    | exact of_some objInject_avoidsBoot

@[simp] theorem objsPort_avoidsBoot (p : Port) (el : Nat) : TableAvoidsBoot (objsPort p el) := by
  dsimp only [objsPort]
  repeat' split
  all_goals first
    | exact of_dev (fun _ _ => rfl) fun _ _ _ => rfl | exact of_none
    | exact of_some (objPortEn_avoidsBoot p)

@[simp] theorem objsNode_avoidsBoot (el : Nat) : TableAvoidsBoot (objsNode el) := by
  dsimp only [objsNode]
  repeat' split
  all_goals first
    | exact of_dev (fun _ _ => rfl) fun _ _ _ => rfl | exact of_none
    | exact of_some objEnumRestart_avoidsBoot

@[simp] theorem objsTime_avoidsBoot (el : Nat) : TableAvoidsBoot (objsTime el) := by
  dsimp only [objsTime]
  repeat' split
  all_goals first | exact of_dev (fun _ _ => rfl) fun _ _ _ => rfl | exact of_none

@[simp] theorem objsTrigger_avoidsBoot (el : Nat) : TableAvoidsBoot (objsTrigger el) := by
  dsimp only [objsTrigger]
  repeat' split
  all_goals first
    | exact of_dev (fun _ _ => rfl) fun _ _ _ => rfl | exact of_none
    | exact of_some objSchedTrig_avoidsBoot

@[simp] theorem objsRonko_avoidsBoot (idx el : Nat) : TableAvoidsBoot (objsRonko idx el) := by
  dsimp only [objsRonko]
  repeat' split
  all_goals first
    | exact of_dev (fun _ _ => rfl) fun _ _ _ => rfl | exact of_none
    | exact objsPort_avoidsBoot _ _
    | exact objsNode_avoidsBoot _
    | exact objsTime_avoidsBoot _
    | exact objsTrigger_avoidsBoot _

@[simp] theorem objsSelect_avoidsBoot (c : Fin 4) (el : Nat) : TableAvoidsBoot (objsSelect c el) := by
  dsimp only [objsSelect]
  repeat' split
  all_goals first | exact of_dev (fun _ _ => rfl) fun _ _ _ => rfl | exact of_none

@[simp] theorem objsFsp_avoidsBoot (idx el : Nat) : TableAvoidsBoot (objsFsp idx el) := by
  dsimp only [objsFsp]
  repeat' split
  all_goals first
    | exact of_dev (fun _ _ => rfl) fun _ _ _ => rfl | exact of_none
    | exact of_some objFspRelease_avoidsBoot
    | exact objsSelect_avoidsBoot _ _

@[simp] theorem objsEth_avoidsBoot (idx el : Nat) : TableAvoidsBoot (objsEth idx el) := by
  dsimp only [objsEth]
  repeat' split
  all_goals first | exact of_dev (fun _ _ => rfl) fun _ _ _ => rfl | exact of_none

@[simp] theorem objsRop_avoidsBoot (idx el : Nat) : TableAvoidsBoot (objsRop idx el) := by
  dsimp only [objsRop]
  repeat' split
  all_goals first
    | exact of_dev (fun _ _ => rfl) fun _ _ _ => rfl | exact of_none
    | exact of_dev (by simp) fun _ _ _ => rfl
    | exact of_dev (fun w s => by dsimp only [rwNat]; split <;> simp) fun _ _ _ => rfl

@[simp] theorem objsMgp_avoidsBoot (el : Nat) : TableAvoidsBoot (objsMgp el) := by
  dsimp only [objsMgp]
  repeat' split
  all_goals first | exact of_dev (fun _ _ => rfl) fun _ _ _ => rfl | exact of_none

@[simp] theorem objsIdentity_avoidsBoot (el : Nat) : TableAvoidsBoot (objsIdentity el) := by
  dsimp only [objsIdentity]
  repeat' split
  all_goals first | exact of_dev (fun _ _ => rfl) fun _ _ _ => rfl | exact of_none

end Sys2Proof.Machine
end

section
namespace Sys2Proof.Machine

/-! ### Registers

A register avoids BOOT if no write of it takes the device there, and no change of the event counter that it shows does. -/

def Field.AvoidsBoot (f : Field) : Prop := ∀ g, f.set = some g → ∀ v, Machine.AvoidsBoot (g v)

/-- A change of the counter does not reach the device state. -/
def CounterHome.AvoidsBoot (h : CounterHome) : Prop := ∀ f, Machine.AvoidsBoot (h.set f)

structure Reg.AvoidsBoot (r : Reg) : Prop where
  put : ∀ w, Machine.AvoidsBoot (r.put w)
  counter : ∀ h, r.counter = some h → h.AvoidsBoot
  status : ∀ h, r.status = some h → h.AvoidsBoot

/-- Whatever register a table gives avoids BOOT. -/
def RegsAvoidBoot (o : Option Reg) : Prop := ∀ r, o = some r → r.AvoidsBoot

/-! Fields -/

section
variable {lo width : Nat} {get : State → Nat}

theorem Field.AvoidsBoot.of_set {g : Nat → State → State} (h : ∀ v, Machine.AvoidsBoot (g v)) {code : Nat → W → Byte} :
    Field.AvoidsBoot { lo := lo, width := width, get := get, set := some g, code := code } :=
  fun _ e => Option.some.inj e ▸ h

@[simp] theorem roF_avoidsBoot : (roF lo width get).AvoidsBoot := nofun

theorem rwF_avoidsBoot_of {legal : Nat → Bool} {set : Nat → State → State} (h : ∀ v, AvoidsBoot (set v)) :
    (rwF lo width get legal set).AvoidsBoot :=
  .of_set fun v s hs => .ite (h v s hs) hs

@[simp] theorem rwF_avoidsBoot {legal : Nat → Bool} {set : Nat → State → State} (h : ∀ v s, (set v s).dev = s.dev) :
    (rwF lo width get legal set).AvoidsBoot :=
  rwF_avoidsBoot_of fun v => .of_dev (h v)

theorem goF_avoidsBoot_of {act : State → State} (h : AvoidsBoot act) : (goF lo act).AvoidsBoot :=
  .of_set fun _ s hs => .ite (h s hs) hs

@[simp] theorem goF_avoidsBoot {act : State → State} (h : ∀ s, (act s).dev = s.dev) : (goF lo act).AvoidsBoot :=
  goF_avoidsBoot_of (.of_dev h)

theorem w1cF_avoidsBoot_of {shown : State → Bool} {clear : State → State} (h : AvoidsBoot clear) :
    (w1cF lo shown clear).AvoidsBoot :=
  .of_set fun _ s hs => .ite (h s hs) hs

@[simp] theorem w1cF_avoidsBoot {shown : State → Bool} {clear : State → State} (h : ∀ s, (clear s).dev = s.dev) :
    (w1cF lo shown clear).AvoidsBoot :=
  w1cF_avoidsBoot_of (.of_dev h)

theorem Obj.AvoidsBoot.regWrite_post {o : Obj} (h : o.AvoidsBoot) (v : Nat) {s : State} (hs : OutOfBoot s) :
    OutOfBoot (o.regWrite v s).post :=
  (h _).1 s hs

/-- A value that a register gives its object is written or refused as a request's is. -/
theorem Obj.AvoidsBoot.poke {o : Obj} (h : o.AvoidsBoot) (v : Nat) : Machine.AvoidsBoot (o.poke v) :=
  fun s hs => .ite (h.regWrite_post v hs) ((h _).2 _ s hs)

section
variable {o : Option Obj}

@[simp] theorem objF_avoidsBoot (h : TableAvoidsBoot o) : (objF lo width o).AvoidsBoot := by
  unfold objF
  split
  · exact roF_avoidsBoot
  next x =>
    split
    · exact roF_avoidsBoot
    · exact .of_set (h x rfl).poke

@[simp] theorem tableF_avoidsBoot (h : TableAvoidsBoot o) : (tableF lo width o).AvoidsBoot := by
  unfold tableF
  split
  · exact roF_avoidsBoot
  next x => exact .of_set fun v s hs => .ite ((h x rfl).regWrite_post v hs) hs

@[simp] theorem cmdF_avoidsBoot {v : Nat} (h : TableAvoidsBoot o) : (cmdF lo v o).AvoidsBoot := by
  refine .of_set fun _ s hs => .ite ?_ hs
  cases o with
  | none => exact hs
  | some x => exact (h x rfl).poke v s hs

@[simp] theorem ringF_avoidsBoot (h : TableAvoidsBoot o) : (ringF lo o).AvoidsBoot := by
  cases o with
  | none => exact nofun
  | some x => exact .of_set fun v => (h x rfl).poke _

end
end

/-! Forms of registers -/

section
variable {tsf : Bool} {fields : List Field} {pair : Pairing} {check : W → List Byte} {guard : State → Bool}

theorem fields_avoidBoot {whole : Option (Word → State → State)} {counter status : Option CounterHome} (hw : whole = none)
    (h : ∀ f ∈ fields, f.AvoidsBoot) (w : Word) :
    AvoidsBoot (Reg.put ⟨fields, tsf, pair, whole, check, guard, counter, status⟩ w) := by
  subst hw
  unfold Reg.put
  dsimp only
  induction fields with
  | nil => exact .id
  | cons f fs ih =>
    intro s hs
    dsimp only [List.foldl_cons]
    refine ih (fun g hg => h g (List.mem_cons_of_mem f hg)) _ ?_
    split
    next g hg => exact h f List.mem_cons_self g hg _ s hs
    next => exact hs

@[simp] theorem Reg.AvoidsBoot.of_fields (h : ∀ f ∈ fields, f.AvoidsBoot) :
    Reg.AvoidsBoot ⟨fields, tsf, pair, none, check, guard, none, none⟩ :=
  ⟨fields_avoidBoot rfl h, nofun, nofun⟩

theorem Reg.AvoidsBoot.of_whole {f : Word → State → State} (h : ∀ w, Machine.AvoidsBoot (f w)) :
    Reg.AvoidsBoot ⟨fields, tsf, pair, some f, check, guard, none, none⟩ :=
  ⟨h, nofun, nofun⟩

@[simp] theorem Reg.AvoidsBoot.of_whole_dev {f : Word → State → State} (h : ∀ w s, (f w s).dev = s.dev) :
    Reg.AvoidsBoot ⟨fields, tsf, pair, some f, check, guard, none, none⟩ :=
  .of_whole fun w => .of_dev (h w)

@[simp] theorem wordReg_avoidsBoot {o : Option Obj} (h : TableAvoidsBoot o) : (wordReg tsf o).AvoidsBoot :=
  .of_fields (by simpa using objF_avoidsBoot h)

@[simp] theorem roReg_avoidsBoot {get : State → Nat} : (roReg get).AvoidsBoot := .of_fields (by simp)

variable {h : CounterHome} (k : h.AvoidsBoot)
include k

theorem counterReg_avoidsBoot : (counterReg tsf h).AvoidsBoot :=
  ⟨fields_avoidBoot rfl (by simpa using rwF_avoidsBoot_of fun _ => k _), fun _ e => Option.some.inj e ▸ k, nofun⟩

theorem statusReg_avoidsBoot : (statusReg tsf h).AvoidsBoot :=
  ⟨fun w s hs => by
    rw [put_statusReg]
    have wrap := OutOfBoot.ite (c := w.toNat / 2 ^ 0 % 2 ^ 1 = 1) (k (fun c => { c with wrap := false }) s hs) hs
    exact .ite (k _ _ wrap) wrap, nofun, fun _ e => Option.some.inj e ▸ k⟩

end

namespace RegsAvoidBoot

theorem of_none : RegsAvoidBoot none := fun _ e => nomatch e

theorem of_some {r : Reg} (h : r.AvoidsBoot) : RegsAvoidBoot (some r) := fun _ e => Option.some.inj e ▸ h

theorem of_bind {α : Type} {f : α → Option Reg} (h : ∀ a, RegsAvoidBoot (f a)) (o : Option α) : RegsAvoidBoot (o.bind f) := by
  intro x e
  obtain ⟨a, -, e⟩ := Option.bind_eq_some_iff.1 e
  exact h a x e

theorem of_ite {c : Prop} [Decidable c] {a b : Option Reg} (ha : RegsAvoidBoot a) (hb : RegsAvoidBoot b) :
    RegsAvoidBoot (if c then a else b) := by
  split
  · exact ha
  · exact hb

theorem of_counterAt {tsf : Bool} {base off : Nat} {h : CounterHome} (k : h.AvoidsBoot) :
    RegsAvoidBoot (counterAt tsf base off h) :=
  of_ite (of_some (counterReg_avoidsBoot k)) (of_ite (of_some (statusReg_avoidsBoot k)) of_none)

theorem of_countersAt {tsf : Bool} {base off : Nat} {hs : List CounterHome} (k : hs.Forall CounterHome.AvoidsBoot) :
    RegsAvoidBoot (countersAt tsf base off hs) := by
  refine of_ite of_none ?_
  split
  next h e => exact of_counterAt (List.forall_iff_forall_mem.1 k h (List.mem_of_getElem? e))
  next => exact of_none

theorem of_homes {hs : List CounterHome} (k : hs.Forall CounterHome.AvoidsBoot) {f : CounterHome → Reg}
    (hf : ∀ h, h.AvoidsBoot → (f h).AvoidsBoot) (i : Nat) : RegsAvoidBoot ((hs[i]?).map f) := by
  intro r e
  obtain ⟨h, hh, rfl⟩ := Option.map_eq_some_iff.1 e
  exact hf h (List.forall_iff_forall_mem.1 k h (List.mem_of_getElem? hh))

theorem of_pairAt {tsf : Bool} {base off : Nat} {v : State → W64} : RegsAvoidBoot (pairAt tsf base off v) :=
  of_ite (of_some (.of_fields (by simp))) (of_ite (of_some (.of_fields (by simp))) of_none)

end RegsAvoidBoot

end Sys2Proof.Machine
end

section
namespace Sys2Proof.Machine

/-! ### Registers that act as a command does -/

@[simp] theorem settled_next (s t : State) : settled s (.next t) = t := rfl

@[simp] theorem settled_execTbcLoad_dev (w : Word) (s : State) : (settled s (execTbcLoad w s)).dev = s.dev := by
  unfold execTbcLoad
  rw [settled_next]
  split <;> rfl

@[simp] theorem settled_execPwgRun_dev (p : Fin 4) (w : Word) (s : State) : (settled s (execPwgRun p w s)).dev = s.dev := by
  unfold execPwgRun
  dsimp only
  repeat' split
  all_goals simp

@[simp] theorem settled_execPeriodRegWrite_dev (p : PeriodReg) (w : Word) (s : State) :
    (settled s (execPeriodRegWrite p w s)).dev = s.dev := by
  unfold execPeriodRegWrite
  repeat' split
  all_goals simp

@[simp] theorem settled_execRingPush_dev (m : Master) (w : Word) (s : State) : (settled s (execRingPush m w s)).dev = s.dev := by
  unfold execRingPush
  rw [settled_next]
  repeat' split
  all_goals simp

@[simp] theorem settled_execRingPop_dev (m : Master) (w : Word) (s : State) : (settled s (execRingPop m w s)).dev = s.dev := by
  unfold execRingPop
  rw [settled_next]
  repeat' split
  all_goals simp

@[simp] theorem settled_execSemWrite_dev (m : Master) (i : Fin 32) (w : Word) (s : State) :
    (settled s (execSemWrite m i w s)).dev = s.dev := by
  unfold execSemWrite
  rw [settled_next]
  repeat' split
  all_goals rfl

@[simp] theorem settled_execAppPost_dev (w : Word) (s : State) : (settled s (execAppPost w s)).dev = s.dev := by simp [execAppPost]

theorem execAppWdtCtrlWrite_avoidsBoot (w : Word) : AvoidsBoot fun s => settled s (execAppWdtCtrlWrite w s) := by
  intro s hs
  unfold execAppWdtCtrlWrite
  dsimp only
  repeat' split
  all_goals exact hs

theorem execAppWdtKick_avoidsBoot (w : Word) : AvoidsBoot fun s => settled s (execAppWdtKick w s) := by
  intro s hs
  unfold execAppWdtKick
  dsimp only
  repeat' split
  · exact hs
  · exact hs
  · exact wdtExpire_outOfBoot hs

theorem execDeviceResetTimeout_avoidsBoot : AvoidsBoot fun s => settled s (execDeviceResetTimeout s) :=
  fun _ hs => .ite (deviceReset_outOfBoot _) hs

theorem OutOfBoot.modHam {s : State} (hs : OutOfBoot s) (f : Hamper → Hamper) : OutOfBoot (s.modHam f) := hs

theorem cfgCommand_avoidsBoot (w : Word) : AvoidsBoot (cfgCommand w) := by
  intro s hs
  unfold cfgCommand
  dsimp only
  refine .modHam ?_ _
  split
  · exact .modHam (.ite ((objRingConfig_avoidsBoot _).1 s hs) hs) _
  · exact .modHam (.ite ((ringCmd_avoidsBoot _ _).1 s hs) hs) _
  · exact .modHam (.ite ((ringCmd_avoidsBoot _ _).1 s hs) hs) _
  · exact hs

@[simp] theorem caleCtrl_dev (w : Word) (s : State) : (caleCtrl w s).dev = s.dev := by
  unfold caleCtrl
  dsimp only
  split <;> simp

@[simp] theorem trigCmd_dev (w : Word) (s : State) : (trigCmd w s).dev = s.dev := by
  unfold trigCmd
  dsimp only
  repeat' split
  all_goals simp

@[simp] theorem forceGo_dev (w : Word) (s : State) : (forceGo w s).dev = s.dev := by
  unfold forceGo
  dsimp only
  split <;> simp [objForce]

@[simp] theorem testCtrl_dev (w : Word) (s : State) : (testCtrl w s).dev = s.dev := by
  unfold testCtrl
  dsimp only
  split <;> simp

theorem testGo_avoidsBoot (w : Word) : AvoidsBoot (testGo w) :=
  fun _ hs => .ite ((objInject_avoidsBoot _).1 _ hs) hs

end Sys2Proof.Machine
end

section
namespace Sys2Proof.Machine
open RegsAvoidBoot

/-! ### Fields and homes of the chapters -/

theorem chHome_avoidsBoot (n : Ch) (get : Channel → Counter) (set : Counter → Channel → Channel) : (chHome n get set).AvoidsBoot :=
  fun _ _ hs => hs

@[simp] theorem Field.AvoidsBoot.of_dev {lo width : Nat} {get : State → Nat} {g : Nat → State → State} {code : Nat → W → Byte}
    (h : ∀ v s, (g v s).dev = s.dev) : Field.AvoidsBoot ⟨lo, width, get, some g, code⟩ :=
  .of_set fun v => .of_dev (h v)

@[simp] theorem mbxF_avoidsBoot (lo width : Nat) (get : Mailbox → Nat) (set : Nat → Mailbox → Mailbox) :
    (mbxF lo width get set).AvoidsBoot :=
  rwF_avoidsBoot fun _ _ => rfl

@[simp] theorem chF_avoidsBoot (n : Ch) (lo width : Nat) (get : Channel → Nat) (legal : Nat → Bool) (set : Nat → Channel → Channel) :
    (chF n lo width get legal set).AvoidsBoot :=
  rwF_avoidsBoot fun _ _ => rfl

@[simp] theorem areaF_avoidsBoot (n : Ch) (x : ProgArea) (i lo width : Nat) : (areaF n x i lo width).AvoidsBoot :=
  chF_avoidsBoot n _ _ _ _ _

@[simp] theorem macF_avoidsBoot (lo width : Nat) (get : Eth → Nat) (legal : State → Nat → Bool) (set : Nat → Eth → Eth) :
    (macF lo width get legal set).AvoidsBoot :=
  .of_dev fun _ _ => by split <;> simp

/-- A field that writes its object with a number made of its own. -/
@[simp] theorem Field.AvoidsBoot.of_map_poke {lo width : Nat} {get : State → Nat} {o : Option Obj} (h : TableAvoidsBoot o)
    {f : Nat → Nat} {code : Nat → W → Byte} :
    Field.AvoidsBoot ⟨lo, width, get, o.map fun o v s => o.poke (f v) s, code⟩ := by
  cases o with
  | none => exact nofun
  | some x => exact .of_set fun v => (h x rfl).poke _

@[simp] theorem settled_execFifoPop_dev (s : State) : (settled s (execFifoPop s)).dev = s.dev := by simp [execFifoPop]

@[simp] theorem plainEntries_avoidBoot :
    TableAvoidsBoot (some objFspRelease) ∧ TableAvoidsBoot (some objFspAcquire) ∧ TableAvoidsBoot (some objXipInvalidate) ∧
      TableAvoidsBoot (some objStream) :=
  ⟨.of_some objFspRelease_avoidsBoot, .of_dev (fun _ _ => rfl) fun _ _ _ => rfl, .of_dev (fun _ _ => rfl) fun _ _ _ => rfl,
    .of_dev (fun _ _ => rfl) fun _ _ _ => rfl⟩

end Sys2Proof.Machine
end

section
namespace Sys2Proof.Machine
open RegsAvoidBoot

/-! ### The register tables, block by block -/

theorem devReg_avoidsBoot (off : Nat) : RegsAvoidBoot (devReg off) := by
  dsimp only [devReg]
  repeat' split
  all_goals first
    | exact of_none
    | exact of_some (.of_fields (by simp))

/-- RESET_CTRL performs the reset of DEVICE_RESET, and the watchdog's registers at most the core's. -/
theorem rstReg_avoidsBoot (off : Nat) : RegsAvoidBoot (rstReg off) := by
  dsimp only [rstReg]
  repeat' split
  case h_3 => exact of_some ⟨fields_avoidBoot rfl (List.forall_mem_singleton.2 (w1cF_avoidsBoot_of fun _ hs => hs)), nofun,
    fun _ e => Option.some.inj e ▸ fun _ _ hs => hs⟩
  case h_6 => exact of_some (.of_whole execAppWdtCtrlWrite_avoidsBoot)
  case h_7 => exact of_some (.of_whole execAppWdtKick_avoidsBoot)
  case h_9 => exact of_some (.of_fields (List.forall_mem_singleton.2 (goF_avoidsBoot_of execDeviceResetTimeout_avoidsBoot)))
  all_goals first
    | exact of_pairAt
    | exact of_some (.of_fields (by simp))

theorem clkReg_avoidsBoot (off : Nat) : RegsAvoidBoot (clkReg off) := by
  dsimp only [clkReg]
  repeat' split
  all_goals first
    | exact of_pairAt
    | exact of_some (.of_fields (by simp))
    | exact of_some (.of_whole_dev fun _ _ => rfl)

theorem mbxReg_avoidsBoot (off : Nat) : RegsAvoidBoot (mbxReg off) := by
  dsimp only [mbxReg, mbxWord]
  repeat' split
  all_goals first
    | exact of_none
    | exact of_some (counterReg_avoidsBoot fun _ _ hs => hs)
    | exact of_some (.of_fields (by simp))
    | exact of_some (.of_whole_dev fun _ _ => rfl)

theorem limReg_avoidsBoot (n : Ch) (k : Nat) : RegsAvoidBoot (limReg n k) := by
  dsimp only [limReg, limF]
  repeat' split
  all_goals first
    | exact of_none
    | exact of_some (.of_fields (by simp))

theorem lockReg_avoidsBoot (n : Ch) (k : Nat) : RegsAvoidBoot (lockReg n k) := by
  dsimp only [lockReg]
  repeat' split
  all_goals first
    | exact of_none
    | exact of_some (.of_fields (by simp))

theorem limitReg_avoidsBoot (off : Nat) : RegsAvoidBoot (limitReg off) :=
  of_ite (of_bind (fun n => limReg_avoidsBoot n _) _) (of_ite (of_bind (fun n => lockReg_avoidsBoot n _) _) of_none)

theorem modeReg_avoidsBoot (n : Ch) : (modeReg n).AvoidsBoot := .of_whole_dev fun w s => by split <;> rfl

theorem chModeReg_avoidsBoot (n : Ch) (off : Nat) : RegsAvoidBoot (chModeReg n off) := by
  dsimp only [chModeReg]
  repeat' split
  all_goals first
    | exact of_counterAt fun _ _ hs => hs
    | exact of_some (modeReg_avoidsBoot n)
    | exact of_some (.of_fields (by simp))

/-- The status register of the overruns shows their run beside WRAP and COLLIDE (Table 7.15). -/
theorem engChReg_avoidsBoot (n : Ch) (off : Nat) : RegsAvoidBoot (engChReg n off) := by
  dsimp only [engChReg]
  repeat' split
  case h_10 =>
    have k := chHome_avoidsBoot n (·.loop.ovrCount) fun k c => { c with loop := { c.loop with ovrCount := k } }
    exact of_some ⟨(statusReg_avoidsBoot (tsf := false) k).put, nofun, (statusReg_avoidsBoot (tsf := false) k).status⟩
  all_goals first
    | exact of_none
    | exact of_some (counterReg_avoidsBoot fun _ _ hs => hs)
    | exact of_some (.of_fields (by simp))

theorem engReg_avoidsBoot (e : Eng) (off : Nat) : RegsAvoidBoot (engReg e off) := by
  dsimp only [engReg]
  repeat' split
  all_goals first
    | exact engChReg_avoidsBoot _ _
    | exact of_none
    | exact of_some (.of_fields (by simp))
    | exact of_some (.of_whole_dev fun _ _ => rfl)

theorem vecReg_avoidsBoot {k : Nat} (n : Ch) (i : Nat) (get : Channel → Vector Word k)
    (set : Vector Word k → Channel → Channel) : RegsAvoidBoot (vecReg n i get set) :=
  of_ite (of_some (.of_fields (by simp))) of_none

theorem headReg_avoidsBoot (n : Ch) (k : Nat) (x : ProgArea) : RegsAvoidBoot (headReg n k x) := by
  dsimp only [headReg]
  repeat' split
  all_goals exact of_some (.of_fields (by simp))

theorem progMem_avoidsBoot (n : Ch) (off : Nat) : RegsAvoidBoot (progMem n off) := by
  dsimp only [progMem, progReg]
  repeat' refine of_ite ?_ ?_
  all_goals first | exact vecReg_avoidsBoot _ _ _ _ | exact headReg_avoidsBoot _ _ _ | exact of_some (.of_fields (by simp)) | exact of_none

theorem lacReg_avoidsBoot (n : Ch) (off : Nat) : RegsAvoidBoot (lacReg n off) := by
  dsimp only [lacReg, wordReg]
  repeat' split
  all_goals first
    | exact of_none
    | exact of_countersAt ⟨fun _ _ hs => hs, fun _ _ hs => hs⟩
    | exact of_some (.of_fields (by simp))

theorem lacBlock_avoidsBoot (e : Eng) (off : Nat) : RegsAvoidBoot (lacBlock e off) := by
  dsimp only [lacBlock]
  repeat' split
  all_goals first
    | exact lacReg_avoidsBoot _ _
    | exact of_none
    | exact of_some (.of_fields (by simp))

theorem motionReg_avoidsBoot (n : Ch) (off : Nat) : RegsAvoidBoot (motionReg n off) := by
  dsimp only [motionReg]
  repeat' split
  all_goals first
    | exact of_counterAt fun _ _ hs => hs
    | exact of_some (.of_fields (by simp))

theorem macRing_avoidsBoot (role : Nat) (get : Eth → Nat) (set : Nat → Eth → Eth) : (macRing role get set).AvoidsBoot :=
  .of_fields (List.forall_mem_singleton.2 (.of_dev fun v s => by dsimp only; repeat' split <;> simp))

theorem macHomes_avoidBoot : macHomes.Forall CounterHome.AvoidsBoot := by
  unfold macHomes
  exact ⟨fun _ _ hs => hs, fun _ _ hs => hs, fun _ _ hs => hs, fun _ _ hs => hs⟩

theorem macReg_avoidsBoot (off : Nat) : RegsAvoidBoot (macReg off) := by
  dsimp only [macReg]
  repeat' split
  all_goals first
    | exact of_none
    | exact of_some (macRing_avoidsBoot _ _ _)
    | exact of_homes macHomes_avoidBoot (fun _ k => counterReg_avoidsBoot k) _
    | exact of_homes macHomes_avoidBoot (fun _ k => statusReg_avoidsBoot k) _
    | exact of_some (.of_fields (by simp))
    | exact of_some (.of_whole_dev fun _ _ => rfl)

theorem calReg_avoidsBoot (n : Ch) (k : Nat) (gain : Bool) : (calReg n k gain).AvoidsBoot :=
  .of_fields (by cases gain <;> simp)

theorem convReg_avoidsBoot (n : Ch) (off : Nat) : RegsAvoidBoot (convReg n off) := by
  dsimp only [convReg]
  repeat' split
  all_goals first
    | exact of_counterAt fun _ _ hs => hs
    | exact of_some roReg_avoidsBoot
    | exact of_some (calReg_avoidsBoot _ _ _)
    | exact of_some (.of_fields (by simp))

/-- GO performs the object HOST_URG (R358). -/
theorem urgReg_avoidsBoot : urgReg.AvoidsBoot :=
  .of_whole fun _ _ hs => .ite hs (.ite (Obj.AvoidsBoot.poke (.of_dev (fun _ _ => rfl) fun _ _ _ => rfl) _ _ hs) hs)

theorem auxReg_avoidsBoot (off : Nat) : RegsAvoidBoot (auxReg off) := by
  dsimp only [auxReg, auxHomes]
  repeat' split
  case h_7 =>
    refine of_some (.of_fields ?_)
    simp only [List.forall_mem_cons]
    exact ⟨ringF_avoidsBoot (objsAux_avoidsBoot _ _), objF_avoidsBoot (objsAux_avoidsBoot _ _),
      .of_set fun _ => objAuxRec_avoidsBoot.poke _, nofun⟩
  all_goals first
    | exact of_some (wordReg_avoidsBoot (objsAux_avoidsBoot _ _))
    | exact of_some urgReg_avoidsBoot
    | exact of_countersAt ⟨fun _ _ hs => hs, fun _ _ hs => hs, fun _ _ hs => hs, fun _ _ hs => hs⟩
    | exact of_none
    | exact of_some (.of_fields (by simp))

/-- REFBUF switches the reference buffer, with REF_READY (R221). -/
theorem refReg_avoidsBoot (off : Nat) : RegsAvoidBoot (refReg off) := by
  dsimp only [refReg]
  repeat' split
  case h_1 => exact of_some (.of_fields (List.forall_mem_singleton.2 (rwF_avoidsBoot_of fun v s hs => by split <;> exact hs)))
  all_goals first
    | exact of_none
    | exact of_some (.of_fields (by simp))
    | exact of_some (.of_whole_dev fun _ _ => rfl)
    | exact of_some (.of_whole_dev (by simp))

theorem objRangeReq_avoidsBoot (n : Ch) : (objRangeReq n).AvoidsBoot := .of_dev (fun _ _ => rfl) fun _ _ _ => rfl

theorem outReg_avoidsBoot (n : Ch) (off : Nat) : RegsAvoidBoot (outReg n off) := by
  dsimp only [outReg]
  repeat' split
  case h_15 => exact of_some (.of_whole fun _ s hs => .ite ((objRangeReq_avoidsBoot n).poke _ s hs) hs)
  all_goals first
    | exact of_counterAt fun _ _ hs => hs
    | exact of_pairAt
    | exact of_some (.of_fields (by simp))

theorem clrReg_avoidsBoot (off : Nat) : RegsAvoidBoot (clrReg off) := by
  dsimp only [clrReg]
  repeat' split
  all_goals first
    | exact of_counterAt fun _ _ hs => hs
    | exact of_some (.of_fields (by simp))

theorem pwgReg_avoidsBoot (p : Fin 4) (off : Nat) : RegsAvoidBoot (pwgReg p off) := by
  dsimp only [pwgReg]
  repeat' split
  all_goals first
    | exact of_none
    | exact of_some (.of_fields (by simp))
    | exact of_some (.of_whole_dev (by simp))

theorem trigReg_avoidsBoot (off : Nat) : RegsAvoidBoot (trigReg off) :=
  of_ite (of_some (.of_fields (by simp))) <| of_ite (of_counterAt fun _ _ hs => hs) <|
  of_ite (of_some (.of_whole_dev fun _ _ => rfl)) <| of_ite (pwgReg_avoidsBoot _ _) of_none

theorem hamReg_avoidsBoot (m : Master) (off : Nat) : RegsAvoidBoot (hamReg m off) := by
  dsimp only [hamReg]
  repeat' split
  all_goals first
    | exact of_none
    | exact of_pairAt
    | exact of_counterAt fun _ _ hs => hs
    | exact of_countersAt ⟨fun _ _ hs => hs, fun _ _ hs => hs⟩
    | exact of_some roReg_avoidsBoot
    | exact of_some (.of_whole cfgCommand_avoidsBoot)
    | exact of_counterAt fun f s hs => by dsimp only; split <;> exact hs
    | exact of_some (.of_fields (by simp))
    | exact of_some (.of_whole_dev (by simp))

theorem sweepReg_avoidsBoot (n : Ch) (off : Nat) : RegsAvoidBoot (sweepReg n off) := by
  dsimp only [sweepReg]
  repeat' split
  all_goals first
    | exact of_countersAt ⟨fun _ _ hs => hs, fun _ _ hs => hs, fun _ _ hs => hs⟩
    | exact of_some (.of_fields (by simp))

theorem semReg_avoidsBoot (m : Master) (off : Nat) : RegsAvoidBoot (semReg m off) := by
  dsimp only [semReg]
  repeat' split
  all_goals first
    | exact of_none
    | exact of_some roReg_avoidsBoot
    | exact of_some (.of_whole_dev (by simp))

theorem arbHome_avoidsBoot (res : Resource) (q : Nat) (get : Requesting → Counter) (set : Counter → Requesting → Requesting) :
    (arbHome res q get set).AvoidsBoot :=
  fun _ _ hs => hs.congr (by simp [arbHome])

theorem reqReg_avoidsBoot (res : Resource) (q off : Nat) : RegsAvoidBoot (reqReg res q off) := by
  dsimp only [reqReg]
  repeat' split
  all_goals first
    | exact of_none
    | exact of_countersAt ⟨arbHome_avoidsBoot _ _ _ _, arbHome_avoidsBoot _ _ _ _⟩
    | exact of_some (.of_fields (by simp))
    | exact of_some (.of_whole_dev (by simp))

theorem resourceReg_avoidsBoot (res : Resource) (k count off : Nat) : RegsAvoidBoot (resourceReg res k count off) := by
  dsimp only [resourceReg]
  repeat' split
  case h_1 =>
    refine of_some (.of_fields ?_)
    simp only [List.forall_mem_cons]
    exact ⟨objF_avoidsBoot (objsArbMain_avoidsBoot _), goF_avoidsBoot_of (objArbCommit_avoidsBoot.poke _),
      objF_avoidsBoot (objsArbMain_avoidsBoot _), nofun⟩
  all_goals first
    | exact reqReg_avoidsBoot _ _ _
    | exact of_none
    | exact of_some (.of_fields (by simp))

theorem portReg_avoidsBoot (p : Port) (off : Nat) : RegsAvoidBoot (portReg p off) := by
  dsimp only [portReg, portHomes]
  repeat' split
  all_goals first
    | exact of_countersAt ⟨fun _ _ hs => hs, fun _ _ hs => hs, fun _ _ hs => hs, fun _ _ hs => hs,
        fun _ _ hs => hs, fun _ _ hs => hs, fun _ _ hs => hs⟩
    | exact of_some (.of_fields (by simp))

theorem templateReg_avoidsBoot (k : Nat) : (templateReg k).AvoidsBoot :=
  .of_fields (List.forall_mem_singleton.2 (.of_dev fun v s => by dsimp only; split <;> rfl))

theorem txReg_avoidsBoot (k : Fin 4) (off : Nat) : RegsAvoidBoot (txReg k off) := by
  dsimp only [txReg, txWord]
  repeat' split
  all_goals first
    | exact of_none
    | exact of_some (.of_whole_dev (by simp))

theorem treeReg_avoidsBoot (off : Nat) : RegsAvoidBoot (treeReg off) := by
  dsimp only [treeReg]
  repeat' split
  all_goals first
    | exact of_pairAt
    | exact of_some (templateReg_avoidsBoot _)
    | exact txReg_avoidsBoot _ _
    | exact of_countersAt ⟨fun _ _ hs => hs, fun _ _ hs => hs, fun _ _ hs => hs, fun _ _ hs => hs⟩
    | exact of_some (.of_fields (by simp))
    | exact of_some (.of_whole_dev fun _ _ => rfl)
    | exact of_some (.of_whole_dev (by simp))

theorem protReg_avoidsBoot (k : Nat) : (protReg k).AvoidsBoot := .of_whole_dev fun w s => by split <;> rfl

theorem fspReg_avoidsBoot (off : Nat) : RegsAvoidBoot (fspReg off) := by
  dsimp only [fspReg, fspHomes]
  repeat' split
  all_goals first
    | exact of_none
    | exact of_some (protReg_avoidsBoot _)
    | exact of_countersAt ⟨fun _ _ hs => hs, fun _ _ hs => hs, fun _ _ hs => hs, fun _ _ hs => hs,
        fun _ _ hs => hs, fun _ _ hs => hs, fun _ _ hs => hs, fun _ _ hs => hs⟩
    | exact of_some (.of_fields (by simp))
    | exact of_some (.of_whole_dev fun _ _ => rfl)

theorem mgpReg_avoidsBoot (off : Nat) : RegsAvoidBoot (mgpReg off) := by
  dsimp only [mgpReg]
  repeat' split
  all_goals first
    | exact of_countersAt ⟨fun _ _ hs => hs, fun _ _ hs => hs, fun _ _ hs => hs, fun _ _ hs => hs,
        fun _ _ hs => hs, fun _ _ hs => hs⟩
    | exact of_some (.of_fields (by simp))

theorem lineReg_avoidsBoot (x : Fin 4) (off : Nat) : RegsAvoidBoot (lineReg x off) := by
  dsimp only [lineReg]
  repeat' split
  all_goals first
    | exact of_counterAt fun _ _ hs => hs
    | exact of_some (.of_fields (by simp))

theorem evtReg_avoidsBoot (off : Nat) : RegsAvoidBoot (evtReg off) := by
  dsimp only [evtReg]
  repeat' split
  all_goals first
    | exact lineReg_avoidsBoot _ _
    | exact of_counterAt fun _ _ hs => hs
    | exact of_some roReg_avoidsBoot
    | exact of_some (.of_fields (by simp))

theorem badgerReg_avoidsBoot (off : Nat) : RegsAvoidBoot (badgerReg off) := by
  dsimp only [badgerReg]
  repeat' split
  all_goals first
    | exact of_some roReg_avoidsBoot
    | exact of_some (.of_whole testGo_avoidsBoot)
    | exact of_some (statusReg_avoidsBoot fun _ _ hs => hs)
    | exact of_countersAt ⟨fun _ _ hs => hs, fun _ _ hs => hs⟩
    | exact of_some (.of_fields (by simp))
    | exact of_some (.of_whole_dev fun _ _ => rfl)
    | exact of_some (.of_whole_dev (by simp))

theorem sweepBlock_avoidsBoot (off : Nat) : RegsAvoidBoot (sweepBlock off) := of_bind (fun n => sweepReg_avoidsBoot n _) _

theorem arbReg_avoidsBoot (off : Nat) : RegsAvoidBoot (arbReg off) :=
  of_ite (resourceReg_avoidsBoot _ _ _ _) (of_ite (resourceReg_avoidsBoot _ _ _ _) (resourceReg_avoidsBoot _ _ _ _))

theorem blockReg_avoidsBoot (m : Master) (b off : Nat) : RegsAvoidBoot (blockReg m b off) :=
  of_ite (devReg_avoidsBoot _) <| of_ite (clkReg_avoidsBoot _) <| of_ite (rstReg_avoidsBoot _) <|
  of_ite (mbxReg_avoidsBoot _) <| of_ite (limitReg_avoidsBoot _) <| of_ite of_none <|
  of_ite (of_bind (fun _ => chModeReg_avoidsBoot _ _) _) <| of_ite (of_bind (fun _ => engReg_avoidsBoot _ _) _) <|
  of_ite (of_bind (fun _ => lacBlock_avoidsBoot _ _) _) <| of_ite (of_bind (fun _ => motionReg_avoidsBoot _ _) _) <|
  of_ite (of_bind (fun _ => progMem_avoidsBoot _ _) _) <| of_ite (of_bind (fun _ => convReg_avoidsBoot _ _) _) <|
  of_ite (auxReg_avoidsBoot _) <| of_ite (refReg_avoidsBoot _) <| of_ite (clrReg_avoidsBoot _) <|
  of_ite (trigReg_avoidsBoot _) <| of_ite of_none <| of_ite (of_bind (fun _ => outReg_avoidsBoot _ _) _) <|
  of_ite (hamReg_avoidsBoot _ _) <| of_ite (sweepBlock_avoidsBoot _) <| of_ite (semReg_avoidsBoot _ _) <|
  of_ite (arbReg_avoidsBoot _) <| of_ite (portReg_avoidsBoot _ _) <| of_ite (portReg_avoidsBoot _ _) <|
  of_ite (portReg_avoidsBoot _ _) <| of_ite (treeReg_avoidsBoot _) <| of_ite (macReg_avoidsBoot _) <|
  of_ite (fspReg_avoidsBoot _) <| of_ite (mgpReg_avoidsBoot _) <| of_ite (evtReg_avoidsBoot _) <|
  of_ite (badgerReg_avoidsBoot _) <| of_ite (of_some roReg_avoidsBoot) <| of_ite (of_some roReg_avoidsBoot) of_none

theorem regAt_avoidsBoot (m : Master) (addr : Nat) : RegsAvoidBoot (regAt m addr) := of_ite of_none (blockReg_avoidsBoot _ _ _)

theorem busRegAt_avoidsBoot (m : Master) (addr : Nat) : RegsAvoidBoot (busRegAt m addr) := by
  unfold busRegAt
  split
  next r e => exact of_some (regAt_avoidsBoot m addr r e)
  next => exact of_ite (of_some (.of_fields nofun)) of_none

end Sys2Proof.Machine
end

section
namespace Sys2Proof.Machine
open TableAvoidsBoot

/-! ### Every object of the dictionary -/

theorem objsChannel_avoidsBoot (n : Ch) (j el : Nat) : TableAvoidsBoot (objsChannel n j el) :=
  of_ite (objsMode_avoidsBoot _ _ _) <| of_ite (objsSignal_avoidsBoot _ _ _) <| of_ite (objsMotion_avoidsBoot _ _ _) <|
  of_ite (objsOutput_avoidsBoot _ _ _) <| of_ite (objsSweep_avoidsBoot _ _ _) of_none

theorem objsAt_avoidsBoot (idx el : Nat) : TableAvoidsBoot (objsAt idx el) :=
  of_ite (objsIdentity_avoidsBoot _) <| of_ite (objsDevice_avoidsBoot _ _) <| of_ite (objsPeriod_avoidsBoot _ _) <|
  of_ite (objsRop_avoidsBoot _ _) <| of_ite (objsEth_avoidsBoot _ _) <| of_ite (objsRonko_avoidsBoot _ _) <|
  of_ite (objsMgp_avoidsBoot _) <| of_ite (objsFsp_avoidsBoot _ _) <|
  of_ite (of_bind (fun _ => objsChannel_avoidsBoot _ _ _) _) <| of_ite of_none <|
  of_ite (of_bind (fun _ => objsEngine_avoidsBoot _ _ _) _) <| of_ite (of_bind (fun _ => objsLac_avoidsBoot _ _ _) _) <|
  of_ite (objsEnv_avoidsBoot _) <| of_ite of_none <| of_ite (of_bind (fun _ => objsConv_avoidsBoot _ _ _) _) <|
  of_ite (objsAux_avoidsBoot _ _) <| of_ite (objsHamper_avoidsBoot _ _) <| of_ite (objsArb_avoidsBoot _ _) <|
  of_ite (objsBadger_avoidsBoot _ _) <| of_ite (objsTrust_avoidsBoot _ _) of_none

theorem rawObj_avoidsBoot {r : Reg} (h : r.AvoidsBoot) (b addr : Nat) : (rawObj b r addr).AvoidsBoot :=
  .of_put (fun w => h.put w.word) fun _ _ _ => rfl

/-- Whatever object a request finds avoids BOOT, one of the raw window included (R90). -/
theorem objAt_avoidsBoot {idx el : Nat} {o : Obj} (e : objAt idx el = .ok o) : o.AvoidsBoot := by
  unfold objAt at e
  dsimp only at e
  split at e
  · cases e
  split at e
  · split at e
    · split at e
      next r hr =>
        cases e
        exact rawObj_avoidsBoot (regAt_avoidsBoot _ _ r hr) _ _
      next => cases e
    · cases e
  · split at e
    next o' ho =>
      cases e
      exact objsAt_avoidsBoot _ _ o ho
    next =>
      split at e
      · cases e
      · split at e
        · cases e
          exact .of_dev (fun _ _ => rfl) fun _ _ _ => rfl
        · cases e

/-! ### One request -/

section
variable {s : State}

theorem performOp_outOfBoot {o : Obj} (h : o.AvoidsBoot) (r : Req) (ty : Byte) (data : List Byte) (hs : OutOfBoot s) :
    OutOfBoot (performOp o r ty data s) := by
  have put := (h ⟨r, data, s, s, s⟩).1 s hs
  unfold performOp
  dsimp only
  split
  · exact put.congr (by simp)
  · exact ((h _).2 _ s hs).congr rfl

theorem perform_outOfBoot {o : Obj} (h : o.AvoidsBoot) (r : Req) (ty : Byte) (data : List Byte) (hs : OutOfBoot s) :
    OutOfBoot (perform o r ty data s) := by
  have done := performOp_outOfBoot h r ty data hs
  unfold perform
  exact .ite done (done.congr (by simp))

@[simp] theorem afterObjRead_dev (idx el : Nat) (s : State) : (afterObjRead idx el s).dev = s.dev := by
  unfold afterObjRead
  repeat' split
  all_goals simp

@[simp] theorem readAt_dev (who : Requester) (idx : W16) (el ty : Byte) (s : State) : (readAt who idx el ty s).1.dev = s.dev := by
  unfold readAt
  dsimp only
  repeat' split
  all_goals simp

theorem writeAt_outOfBoot (g : StagedWrite) (hs : OutOfBoot s) : OutOfBoot (writeAt g s).1 := by
  unfold writeAt
  split
  · exact hs
  next o e => exact performOp_outOfBoot (objAt_avoidsBoot e) _ _ _ hs

/-! ### Groups (R107 to R111) -/

theorem groupPut_outOfBoot (g : StagedWrite) {t : State} (ht : OutOfBoot t) : OutOfBoot (groupPut s t g) := by
  unfold groupPut
  split
  next o e => exact (objAt_avoidsBoot e _).1 t ht
  next => exact ht

/-- A fold of changes none of which enters BOOT. -/
theorem foldl_outOfBoot {α : Type} {f : State → α → State} (h : ∀ x t, OutOfBoot t → OutOfBoot (f t x)) (l : List α)
    (hs : OutOfBoot s) : OutOfBoot (l.foldl f s) := by
  induction l generalizing s with
  | nil => exact hs
  | cons x l ih => exact ih (h x s hs)

theorem settleSides_outOfBoot (s : State) {t : State} (ht : OutOfBoot t) : OutOfBoot (settleSides s t) :=
  foldl_outOfBoot (fun _ _ hu => .ite hu (hu.congr (by simp))) _ ht

theorem groupOthers_outOfBoot (gs : List StagedWrite) (hs : OutOfBoot s) : OutOfBoot (groupOthers gs s) :=
  foldl_outOfBoot (fun g _ => groupPut_outOfBoot g) _ hs

theorem groupPost_outOfBoot (gs : List StagedWrite) (hs : OutOfBoot s) : OutOfBoot (groupPost gs s) :=
  settleSides_outOfBoot s (foldl_outOfBoot (fun g _ => groupPut_outOfBoot g) _ (groupOthers_outOfBoot gs hs))

theorem groupRefused_outOfBoot (post : State) (x : StagedWrite × State) (code : Byte) (hs : OutOfBoot s) :
    OutOfBoot (groupRefused post x code s) := by
  unfold groupRefused
  split
  · exact hs
  next o e => exact (objAt_avoidsBoot e _).2 _ s hs

theorem getD_map_outOfBoot {α : Type} {f : α → State} (h : ∀ x, OutOfBoot (f x)) (o : Option α) (hs : OutOfBoot s) :
    OutOfBoot ((o.map f).getD s) := by
  cases o with
  | none => exact hs
  | some x => exact h x

theorem runGroup_outOfBoot (gs : List StagedWrite) (hs : OutOfBoot s) : OutOfBoot (runGroup gs s).1 := by
  unfold runGroup
  dsimp only
  split
  · dsimp only
    exact groupPost_outOfBoot gs hs
  · exact getD_map_outOfBoot (fun x => groupRefused_outOfBoot _ x _ hs) _ hs

/-! ### The mailbox and the bus (R150 to R154) -/

theorem mbxWrite_outOfBoot (hs : OutOfBoot s) : OutOfBoot (mbxWrite s) := by
  unfold mbxWrite
  dsimp only
  split
  · exact hs
  next g _ =>
    have written := writeAt_outOfBoot g (s := s.modMbx fun m => { m with long := [] }) hs
    exact written

theorem mbxCommit_outOfBoot (hs : OutOfBoot s) : OutOfBoot (mbxCommit s) := by
  have done := runGroup_outOfBoot s.trust.mbx.staged (s := s.modMbx fun m => { m with staged := [] }) hs
  unfold mbxCommit
  dsimp only
  split
  · exact hs
  · split
    · exact done
    · exact done

theorem mbxCommand_outOfBoot (cmd : Nat) (hs : OutOfBoot s) : OutOfBoot (mbxCommand cmd s) := by
  have begun : OutOfBoot (s.modMbx fun m => { m with cmd := BitVec.ofNat 3 cmd }) := hs
  unfold mbxCommand
  dsimp only
  split
  · exact mbxWrite_outOfBoot begun
  · exact begun.congr (by simp)
  · exact mbxCommit_outOfBoot begun
  · exact begun.congr (by simp)
  · exact begun.congr (by simp)
  · exact hs

theorem writeReg_outOfBoot {r : Reg} (h : r.AvoidsBoot) (m : Master) (addr : Nat) (w : Word) (hs : OutOfBoot s) :
    OutOfBoot (writeReg r m addr w s) :=
  .ite (hs.congr (by simp)) (.ite hs (h.put w s hs))

theorem busWrite_outOfBoot {r : Reg} (h : r.AvoidsBoot) (m : Master) (addr : Nat) (w : Word) (hs : OutOfBoot s) :
    OutOfBoot (busWrite r m addr w s) :=
  have written := writeReg_outOfBoot h m addr w hs
  .ite (.ite (mbxCommand_outOfBoot _ hs) written) (.ite (.ite (hs.congr (by simp)) written) written)

end
end Sys2Proof.Machine
end

section
namespace Sys2Proof.Machine

section
variable {s : State}

/-! ### The ROP server (R107 to R131) -/

theorem runOp_outOfBoot (who : Requester) (q : Request) (from_ : Origin) (o : Op) (hs : OutOfBoot s) :
    OutOfBoot (runOp who q from_ s o).1 := by
  have written := writeAt_outOfBoot (o.write who) hs
  unfold runOp
  dsimp only
  split
  · exact hs.congr (by simp)
  · split
    · repeat' split
      all_goals exact written
    · repeat' split
      all_goals exact hs.congr (by simp)

theorem runOps_outOfBoot (who : Requester) (q : Request) (from_ : Origin) (ops : List Op) (hs : OutOfBoot s) :
    OutOfBoot (runOps who q from_ ops s).1 := by
  induction ops generalizing s with
  | nil => exact hs
  | cons o ops ih => exact ih (runOp_outOfBoot who q from_ o hs)

@[simp] theorem groupReads_dev (who : Requester) (ops : List Op) (done : List OpResult) (s : State) :
    (groupReads who ops done s).1.dev = s.dev := by
  induction ops generalizing done s with
  | nil => rfl
  | cons o ops ih =>
    unfold groupReads
    dsimp only
    repeat' split
    all_goals simp [ih]

theorem runGroupOps_outOfBoot (who : Requester) (q : Request) (hs : OutOfBoot s) : OutOfBoot (runGroupOps who q s).1 := by
  have written := runGroup_outOfBoot ((q.ops.filter (·.op == opWrite)).map (·.write who)) hs
  unfold runGroupOps
  split
  · exact hs
  · dsimp only
    split
    next e => rw [e] at written; exact written.congr (by simp)
    next e => rw [e] at written; exact written

theorem execute_outOfBoot (q : Request) (o : Origin) (hs : OutOfBoot s) : OutOfBoot (execute s q o).1 := by
  have grouped := runGroupOps_outOfBoot (requesterOf s q o) q hs
  have single := runOps_outOfBoot (requesterOf s q o) q o q.ops hs
  unfold execute
  dsimp only
  cases q.flags &&& fGroup != 0 with
  | true => exact .ite (grouped.congr (by simp)) grouped
  | false => exact .ite (single.congr (by simp)) single

theorem serveOne_outOfBoot (us : Nat) (hs : OutOfBoot s) : OutOfBoot (serveOne us s) := by
  unfold serveOne
  split
  · exact hs
  next q rest _ =>
    split
    · exact hs
    · have taken : OutOfBoot ((takeCommand s (datagramRecs q.bytes).length).1.modRop fun r =>
          { r with queue := rest, serviceUs := (us :: r.serviceUs).take 64 }) := hs.congr (by simp)
      dsimp only
      split
      · exact taken
      next x _ => exact .ite ((execute_outOfBoot x q.origin taken).congr (by simp)) taken

theorem serveMany_outOfBoot (n us : Nat) (hs : OutOfBoot s) : OutOfBoot (serveMany n us s) := by
  induction n generalizing s with
  | zero => exact hs
  | succ n ih => exact ih (serveOne_outOfBoot us hs)

/-! ### The tunnel (R522 to R524) -/

theorem takeRequest_outOfBoot (x : RxSlot) (hs : OutOfBoot s) : OutOfBoot (takeRequest s x) := by
  unfold takeRequest
  dsimp only
  refine serveMany_outOfBoot _ _ (OutOfBoot.congr (s := s) hs ?_)
  repeat' split
  all_goals simp

theorem takeWhole_outOfBoot (x : RxSlot) (hs : OutOfBoot s) : OutOfBoot (takeWhole s x) :=
  .ite (takeRequest_outOfBoot x hs) (.ite (hs.congr (by simp)) (hs.congr (by simp)))

/-- A segment joins its slot, and a datagram that it completes is handled. -/
theorem fill_outOfBoot (i : Fin 8) (g : Segment) (hs : OutOfBoot s) :
    OutOfBoot (if ((fillSlot s i g).ronko.tun.rx[i.val]).full then takeWhole (fillSlot s i g) ((fillSlot s i g).ronko.tun.rx[i.val])
      else fillSlot s i g) :=
  have filled : OutOfBoot (fillSlot s i g) := hs.congr (by simp)
  .ite (takeWhole_outOfBoot _ filled) filled

theorem beginSlot_outOfBoot {kind : Nat} {g : Segment} {t : State} {i : Option (Fin 8)} (e : beginSlot s kind g = (t, i))
    (hs : OutOfBoot s) : OutOfBoot t := by
  have begun : OutOfBoot (beginSlot s kind g).1 := hs.congr (by simp)
  rwa [e] at begun

theorem takeSegment_outOfBoot (kind : Nat) (g : Segment) (hs : OutOfBoot s) : OutOfBoot (takeSegment s kind g) := by
  unfold takeSegment
  dsimp only
  split
  · exact hs.congr (by simp)
  cases slotFilling s.ronko.tun kind g with
  | none =>
    dsimp only
    split
    · split
      next e => exact fill_outOfBoot _ _ (beginSlot_outOfBoot e hs)
      next e => exact beginSlot_outOfBoot e hs
    · exact hs
  | some i =>
    have dropped : OutOfBoot (dropSlot s i) := hs.congr (by simp)
    dsimp only
    split
    · split
      next e => exact fill_outOfBoot _ _ (beginSlot_outOfBoot e dropped)
      next e => exact beginSlot_outOfBoot e dropped
    · exact fill_outOfBoot _ _ hs

theorem deliver_outOfBoot (p : Port) (b : List Byte) (hs : OutOfBoot s) : OutOfBoot (deliver s p b) := by
  unfold deliver
  dsimp only
  split
  case h_6 => exact .ite (takeSegment_outOfBoot _ _ hs) hs
  all_goals
    repeat' split
    all_goals exact hs.congr (by simp)

theorem takeFrame_outOfBoot (p : Port) (b : List Byte) (hs : OutOfBoot s) : OutOfBoot (takeFrame s p b) := by
  have taken : OutOfBoot (if (frameRoute s p b).here then deliver s p b
      else if (frameRoute s p b).outs.isEmpty then nackFrame s b 4 else s) :=
    .ite (deliver_outOfBoot p b hs) (.ite (hs.congr (by simp)) hs)
  exact taken.congr (by simp [takeFrame])

end
end Sys2Proof.Machine
end

section
namespace Sys2Proof.Machine

/-! ### Commands that reach the device state -/

/-- The command does not take the device into BOOT. -/
abbrev CommandAvoidsBoot (c : Instr) : Prop := AvoidsBoot fun s => settled s (exec c s)

section
variable {s : State}

theorem supplyFail_avoidsBoot (sup : Supply) : CommandAvoidsBoot (.supplyFail sup) := by
  intro s hs
  dsimp only [exec, execSupplyFail, settled_next]
  split
  · exact powerOn_outOfBoot _
  · exact .ite hs (enterReset_outOfBoot _ _ _)

theorem startPorts_outOfBoot (hs : OutOfBoot s) : OutOfBoot (startPorts s) := hs.congr (by simp)

theorem pllLock_avoidsBoot (patchArea : FlashImage) : CommandAvoidsBoot (.pllLock patchArea) := by
  intro s hs
  dsimp only [exec, execPllLock]
  split
  · exact startPorts_outOfBoot (enterQuiet_outOfBoot (by decide) _)
  · exact hs

theorem pllLockTimeout_avoidsBoot : CommandAvoidsBoot .pllLockTimeout := by
  intro s hs
  dsimp only [exec, execPllLockTimeout]
  repeat' split
  · exact hs
  · exact haltNow_outOfBoot _ _ _ hs
  · exact hs

theorem refPresentTimeout_avoidsBoot : CommandAvoidsBoot .refPresentTimeout := by
  intro s hs
  dsimp only [exec, execRefPresentTimeout]
  split
  · exact haltNow_outOfBoot _ _ _ hs
  · exact hs

/-- VERIFY ends in RUN or in SAFE (R213). -/
theorem verifyComplete_avoidsBoot (img0 img1 : FlashImage) (record : RecordObs) :
    CommandAvoidsBoot (.verifyComplete img0 img1 record) := by
  intro s hs
  dsimp only [exec, execVerifyComplete]
  repeat' split
  all_goals rw [settled_next]
  · exact enterRun_outOfBoot _
  · exact enterQuiet_outOfBoot (by decide) _
  · exact hs

theorem appReverifyComplete_avoidsBoot (img0 img1 : FlashImage) : CommandAvoidsBoot (.appReverifyComplete img0 img1) := by
  intro s hs
  dsimp only [exec, execAppReverifyComplete]
  have ended : OutOfBoot { s with dev := { s.dev with reverify := false } } := hs
  repeat' split
  all_goals rw [settled_next]
  · exact ended.congr (by simp)
  · exact enterRun_outOfBoot _
  · exact enterQuiet_outOfBoot (by decide) _
  · exact hs

theorem refVoltsUpdate_avoidsBoot (mon : W16) : CommandAvoidsBoot (.refVoltsUpdate mon) := fun _ hs => .ite hs hs

/-! ### Commands that write a register or an object -/

theorem reg64LowWrite_avoidsBoot (m : Master) (addr : Nat) (w : Word) : CommandAvoidsBoot (.reg64LowWrite m addr w) := by
  intro s hs
  dsimp only [exec, execReg64LowWrite]
  split
  next => exact hs
  next r e => exact busWrite_outOfBoot (busRegAt_avoidsBoot m addr r e) m addr w hs

theorem counterWrite_avoidsBoot (m : Master) (addr : Nat) (w : Word) (event : Bool) :
    CommandAvoidsBoot (.counterWrite m addr w event) := by
  intro s hs
  dsimp only [exec, execCounterWrite]
  split
  next => exact hs
  next r e =>
    have avoids := busRegAt_avoidsBoot m addr r e
    have written := busWrite_outOfBoot avoids m addr w hs
    rw [settled_next]
    split
    next h e => exact .ite written (.ite (avoids.counter h e _ _ written) (avoids.counter h e _ _ written))
    next => exact written

theorem statusW1c_avoidsBoot (m : Master) (addr : Nat) (w : Word) (wrapNow collideNow : Bool) :
    CommandAvoidsBoot (.statusW1c m addr w wrapNow collideNow) := by
  intro s hs
  dsimp only [exec, execStatusW1c]
  split
  next => exact hs
  next r e =>
    have avoids := busRegAt_avoidsBoot m addr r e
    have written := busWrite_outOfBoot avoids m addr w hs
    rw [settled_next]
    split
    next h e => exact avoids.status h e _ _ written
    next => exact written

theorem registerWrite_avoidsBoot (m : Master) (addr : Nat) (w : Word) : CommandAvoidsBoot (.registerWrite m addr w) := by
  intro s hs
  dsimp only [exec, execRegisterWrite]
  split
  next =>
    split
    · exact hs
    · exact hs
  next r e => exact busWrite_outOfBoot (busRegAt_avoidsBoot m addr r e) m addr w hs

theorem ropWrite_avoidsBoot (r : Req) (idx : W16) (el ty : Byte) (data : List Byte) :
    CommandAvoidsBoot (.ropWrite r idx el ty data) := fun _ hs =>
  (writeAt_outOfBoot ⟨r, idx, el, ty, data⟩ hs).congr (by simp [exec, execRopWrite])

theorem mgpWrite_avoidsBoot (idx : W16) (el dtype : Byte) (epoch : Option W16) (data : List Byte) :
    CommandAvoidsBoot (.mgpWrite idx el dtype epoch data) := by
  intro s hs
  dsimp only [exec, execMgpWrite]
  repeat' split
  · exact hs
  · exact hs.congr (by simp)
  · exact hs.congr (by simp)
  · exact (writeAt_outOfBoot ⟨⟨.mgmt, .mgp, epoch⟩, idx, el, dtype, data⟩ hs).congr (by simp)

/-! ### Commands that carry datagrams and frames -/

theorem takeDatagram_outOfBoot (peer : Peer) (broadcast : Bool) (b : List Byte) (hs : OutOfBoot s) :
    OutOfBoot (takeDatagram s peer broadcast b) := hs.congr (by simp)

theorem ropDatagram_avoidsBoot (peer : Peer) (broadcast : Bool) (bytes : List Byte) (serve serviceUs : Nat) :
    CommandAvoidsBoot (.ropDatagram peer broadcast bytes serve serviceUs) := fun _ hs =>
  .ite (serveMany_outOfBoot _ _ (.ite (takeDatagram_outOfBoot peer broadcast bytes hs) hs)) hs

theorem broadcastReply_avoidsBoot : CommandAvoidsBoot .broadcastReply := by
  intro s hs
  dsimp only [exec, execBroadcastReply]
  split
  · exact hs
  next peer bytes rest _ =>
    have taken : OutOfBoot (s.modRop fun r => { r with discovery := rest }) := hs
    split
    · exact hs
    split
    · exact taken
    next q _ =>
      split
      · exact taken.congr (by simp)
      · exact (execute_outOfBoot q ⟨peer, ownEntry, none⟩ taken).congr (by simp)

theorem normalFrameRx_avoidsBoot (p : Port) (bytes : List Byte) (fin : FrameEnd) :
    CommandAvoidsBoot (.normalFrameRx p bytes fin) := by
  intro s hs
  dsimp only [exec, execNormalFrameRx]
  repeat' split
  case h_4 => exact takeFrame_outOfBoot p _ (hs.congr (by simp))
  all_goals exact hs.congr (by simp)

theorem frameEnd_outOfBoot (b : List Byte) (hs : OutOfBoot s) : OutOfBoot (frameEnd b s) := by
  refine .ite (deviceReset_outOfBoot _) (hs.congr ?_)
  repeat' split
  all_goals simp

theorem mgpFrameEnd_avoidsBoot (bytes : List Byte) : CommandAvoidsBoot (.mgpFrameEnd bytes) := fun _ hs =>
  .ite (frameEnd_outOfBoot bytes hs) hs

theorem mgpPoll_avoidsBoot (alive : BitVec 4) : CommandAvoidsBoot (.mgpPoll alive) := by
  intro s hs
  dsimp only [exec, execMgpPoll]
  split
  · exact hs
  · exact frameEnd_outOfBoot _ (.ite hs (hs.congr (by simp)))

theorem badgerClassify_avoidsBoot : CommandAvoidsBoot .badgerClassify := by
  intro s hs
  dsimp only [exec, execBadgerClassify]
  split
  next m _ => exact classify_outOfBoot m hs
  next => exact hs

theorem reg64LowRead_avoidsBoot (m : Master) (addr : Nat) : CommandAvoidsBoot (.reg64LowRead m addr) := by
  intro s hs
  dsimp only [exec, execReg64LowRead]
  split
  · exact hs
  · exact hs.congr (by simp)

theorem stepStart_avoidsBoot (n : Ch) : CommandAvoidsBoot (.stepStart n) := by
  intro s hs
  have looked : OutOfBoot (nextStep s n).1 := hs.congr (by simp)
  dsimp only [exec, execStepStart]
  split
  · split
    all_goals
      next e =>
        rw [e] at looked
        exact looked.congr (by simp)
  · exact hs

end

/-! ### Requests -/

theorem exec_of_requestOf {c : Instr} {q : DictWrite} (h : requestOf c = some q) (s : State) :
    exec c s = .next (perform q.obj q.req q.ty q.data s) := by
  cases c
  case limitWrite r n el ty data =>
    obtain ⟨o, e, rfl⟩ := Option.map_eq_some_iff.mp h
    simp [exec, execLimitWrite, e]
  case notchDesign r n bank el v =>
    obtain ⟨o, e, rfl⟩ := Option.map_eq_some_iff.mp h
    simp [exec, execNotchDesign, e]
  all_goals cases h
  all_goals rfl

theorem objLoadMain_avoidsBoot (n : Ch) : (objLoadMain n).AvoidsBoot := loadObj_avoidsBoot n _ _ _ _

theorem objLoadOuter_avoidsBoot (n : Ch) : (objLoadOuter n).AvoidsBoot := loadObj_avoidsBoot n _ _ _ _

theorem avoidsBoot_of_requestOf {c : Instr} {q : DictWrite} (h : requestOf c = some q) : q.obj.AvoidsBoot := by
  cases c
  case limitWrite r n el ty data =>
    obtain ⟨o, e, rfl⟩ := Option.map_eq_some_iff.mp h
    exact objLimit_avoidsBoot n _ o e
  case notchDesign r n bank el v =>
    obtain ⟨o, e, rfl⟩ := Option.map_eq_some_iff.mp h
    exact objNotch_avoidsBoot n _ _ o e
  all_goals cases h
  case ringConfig => exact objRingConfig_avoidsBoot
  case ringFree => exact ringCmd_avoidsBoot _
  case ringFlush => exact ringCmd_avoidsBoot _
  case scanStart => exact objScanStart_avoidsBoot
  case scanStop => exact objScanStop_avoidsBoot
  case listStop r n v => exact objListStop_avoidsBoot n
  case swpTrig r n v => exact objSwpTrig_avoidsBoot n
  case modeRequest r n v => exact objMode_avoidsBoot n
  case loopNRequest r e n => exact objLoopN_avoidsBoot e
  case loadMain r n data => exact objLoadMain_avoidsBoot n
  case loadOuter r n data => exact objLoadOuter_avoidsBoot n
  case deviceReset => exact objDeviceReset_avoidsBoot
  case appReset => exact objAppReset_avoidsBoot
  case unlock => exact objUnlock_avoidsBoot
  case lock => exact objLock_avoidsBoot
  case keyProgram => exact objKeyProgram_avoidsBoot
  case keyDisable => exact objKeyDisable_avoidsBoot
  case claim r n v => exact objClaim_avoidsBoot n
  case release r n v => exact objRelease_avoidsBoot n
  case faultAck => exact objFaultAck_avoidsBoot
  case force => exact objForce_avoidsBoot
  case testEnter => exact objTestEnter_avoidsBoot
  case testExit => exact objTestExit_avoidsBoot
  case inject => exact objInject_avoidsBoot
  case portEnWrite r p v => exact objPortEn_avoidsBoot p
  case enumRestart => exact objEnumRestart_avoidsBoot
  case schedTrig => exact objSchedTrig_avoidsBoot
  case fspRelease => exact objFspRelease_avoidsBoot
  case arbCommit => exact objArbCommit_avoidsBoot
  all_goals exact .of_dev (fun _ _ => rfl) fun _ _ _ => rfl

theorem request_avoidsBoot {c : Instr} {q : DictWrite} (h : requestOf c = some q) : CommandAvoidsBoot c := by
  intro s hs
  dsimp only
  rw [exec_of_requestOf h]
  exact perform_outOfBoot (avoidsBoot_of_requestOf h) _ _ _ hs

/-! ### The other commands -/

/-- The device state is among the parts that these commands reach (`touchesOf`). -/
theorem exec_avoidsBoot_of_touched {c : Instr} (hc : ∀ reads, c ≠ .bootEntry reads) (hq : requestOf c = none)
    (hd : Part.dev ∈ touchesOf c) : CommandAvoidsBoot c := by
  intro s hs
  cases c
  case bootEntry reads => exact absurd rfl (hc reads)
  case supplyFail sup => exact supplyFail_avoidsBoot sup s hs
  case aonPor => exact powerOn_outOfBoot _
  case rstNRecognised => exact enterReset_outOfBoot _ _ _
  case supWatchdogExpire => exact enterReset_outOfBoot _ _ _
  case deviceResetTimeout => exact execDeviceResetTimeout_avoidsBoot s hs
  case pllLock patchArea => exact pllLock_avoidsBoot patchArea s hs
  case pllLockTimeout => exact pllLockTimeout_avoidsBoot s hs
  case refPresentTimeout => exact refPresentTimeout_avoidsBoot s hs
  case verifyComplete img0 img1 record => exact verifyComplete_avoidsBoot img0 img1 record s hs
  case appReverifyComplete img0 img1 => exact appReverifyComplete_avoidsBoot img0 img1 s hs
  case clockMonitorFail m count => exact clockFails_outOfBoot m count hs
  case refReadySet => exact .ite (setRefReady_outOfBoot true hs) hs
  case refWindowFail mon => exact refFails_outOfBoot mon hs
  case refVoltsUpdate mon => exact refVoltsUpdate_avoidsBoot mon s hs
  case appWdtCtrlWrite w => exact execAppWdtCtrlWrite_avoidsBoot w s hs
  case appWdtKick w => exact execAppWdtKick_avoidsBoot w s hs
  case appWdtExpire => exact wdtExpire_outOfBoot hs
  case badgerClassify => exact badgerClassify_avoidsBoot s hs
  case reg64LowWrite m addr w => exact reg64LowWrite_avoidsBoot m addr w s hs
  case counterWrite m addr w event => exact counterWrite_avoidsBoot m addr w event s hs
  case statusW1c m addr w wrapNow collideNow => exact statusW1c_avoidsBoot m addr w wrapNow collideNow s hs
  case registerWrite m addr w => exact registerWrite_avoidsBoot m addr w s hs
  case ropDatagram peer broadcast bytes serve us => exact ropDatagram_avoidsBoot peer broadcast bytes serve us s hs
  case ropWrite r idx el ty data => exact ropWrite_avoidsBoot r idx el ty data s hs
  case broadcastReply => exact broadcastReply_avoidsBoot s hs
  case mbxWrite => exact mbxCommand_outOfBoot 1 hs
  case mbxCommit => exact mbxCommand_outOfBoot 3 hs
  case normalFrameRx p bytes fin => exact normalFrameRx_avoidsBoot p bytes fin s hs
  case tunReq seg => exact .ite (takeSegment_outOfBoot _ seg hs) hs
  case tunRsp seg => exact .ite (takeSegment_outOfBoot _ seg hs) hs
  case tunEvt seg => exact .ite (takeSegment_outOfBoot _ seg hs) hs
  case mgpFrameEnd bytes => exact mgpFrameEnd_avoidsBoot bytes s hs
  case mgpPoll alive => exact mgpPoll_avoidsBoot alive s hs
  case mgpWrite idx el dtype epoch data => exact mgpWrite_avoidsBoot idx el dtype epoch data s hs
  all_goals simp [requestOf, touchesOf] at hq hd

/-- The device state is no part that these commands reach. The groups follow the chapters: time, clocks and converters; ROP,
Ethernet, trust and modes; engines and outputs; arbiters, link and ports. Each command keeps the device state because the
operations it is made of do. -/
theorem exec_avoidsBoot_of_untouched {c : Instr} (hq : requestOf c = none) (hd : Part.dev ∉ touchesOf c) :
    CommandAvoidsBoot c := by
  intro s hs
  cases c
  case limitWrite r n el ty data =>
    have e : objLimit n el.toNat = none := Option.map_eq_none_iff.mp hq
    exact hs.congr (by simp [exec, execLimitWrite, e])
  case notchDesign r n bank el v =>
    have e : objNotch n bank.val el.toNat = none := Option.map_eq_none_iff.mp hq
    exact hs.congr (by simp [exec, execNotchDesign, e])
  case reg64LowRead m addr => exact reg64LowRead_avoidsBoot m addr s hs
  case mbxStage => exact mbxCommand_outOfBoot 2 hs
  case mbxAbort => exact mbxCommand_outOfBoot 4 hs
  case mbxAppend => exact mbxCommand_outOfBoot 5 hs
  case stepStart n => exact stepStart_avoidsBoot n s hs
  case aonResetRelease | refPresentSet | refReadyTimeout | tbcRateWrite | tbcLoad | supplyRisingThreshold | rstNHigh |
    loopTick | loopSyncRestart | sessCmdOpen | sessCmdTouch | sessCmdClose | periodRegWrite | captureStart | captureComplete |
    captureCopyDone | scanTimerWrap | scanDelayEnd | auxSlotStart | auxResult | scanEnd | calCaptureDone | phaseUpdate |
    pwgRun | pwgWrap | pwgWidthEnd | hwRecordWrite =>
    refine hs.congr ?_
    dsimp only [exec, execAonResetRelease, execRefPresentSet, execRefReadyTimeout, execTbcRateWrite, execTbcLoad,
      execSupplyRisingThreshold, execRstNHigh, execLoopTick, execLoopSyncRestart, execSessCmdOpen, execSessCmdTouch,
      execSessCmdClose, execPeriodRegWrite, execCaptureStart, execCaptureComplete, execCaptureCopyDone, execScanTimerWrap,
      execScanDelayEnd, execAuxSlotStart, execAuxResult, execScanEnd, execCalCaptureDone, execPhaseUpdate, execPwgRun,
      execPwgWrap, execPwgWidthEnd, execHwRecordWrite]
    repeat' split
    all_goals simp
  case ropRead | readRing | writeRing | ringPush | ringPop | lossRateUpdate | semWrite | sessionOpen | sessionClose |
    keepalive | sessionExpire | busyPerSUpdate | transactionTimeout | eventDatagramSend | linkUp | dhcpRetransmit |
    dhcpReply | dhcpRenew | dhcpRebind | leaseExpire | arpRequest | arpAge | icmpEcho | macFrameRx | macFrameTx | mdioGo |
    mdioComplete | ethernetLinkLoss | rmiiPllLock | protViolation | saveComplete | unlockTimeout | lockoutEnd |
    mgmtAliveTimeout | modeChangeApply | enableStart | enableStageOn | enableLoopClose | enableModeEntry | safeRampEnd |
    overrunFallback | powerLimitExceeded =>
    refine hs.congr ?_
    dsimp only [exec, execRopRead, execReadRing, execWriteRing, execRingPush, execRingPop, execLossRateUpdate, execSemWrite,
      execSessionOpen, execSessionClose, execKeepalive, execSessionExpire, execBusyPerSUpdate, execTransactionTimeout,
      execEventDatagramSend, execLinkUp, execDhcpRetransmit, execDhcpReply, execDhcpRenew, execDhcpRebind, execLeaseExpire,
      execArpRequest, execArpAge, execIcmpEcho, execMacFrameRx, execMacFrameTx, execMdioGo, execMdioComplete,
      execEthernetLinkLoss, execRmiiPllLock, execProtViolation, execSaveComplete, execUnlockTimeout, execLockoutEnd,
      execMgmtAliveTimeout, execModeChangeApply, execEnableStart, execEnableStageOn, execEnableLoopClose, execEnableModeEntry,
      execSafeRampEnd, execOverrunFallback, execPowerLimitExceeded]
    repeat' split
    all_goals simp
  case engineService | leNop | leMov | leAdd | leSub | leMul | leMac | leMsu | leClra | leLda | leSta | leMin | leMax |
    leLim | leAbs | leNeg | leShl | leShr | leDiv | leIntg | leBqd | leLdi | leBneg | leBpos | leBz | leBnz | leBfs | leJmp |
    leEnd | leTunt | deadlineOverrun | outerStep | folEdge | folStandstill | followingErrorReport | oscillationReport |
    fastSpApply | tuneSegmentClose | tuneDone | lacFrameEnd | lacUpdate | clrNFall | clrNRise | clampTrip | clampRelease |
    clampHoldRepeat | fastFire | trigoutPulseEnd | rangeMake | rangeSwitch | rangeBreakEnd | rangeHoldSwitch |
    rangeNoOverlap | triginEdge | expressFrameRx | syncExchangeStart | timeReq | timeRsp | exchangeTimeout | trigFrame |
    triggerExecute | stepDwellEnd | stepMeasureEnd | stepAdvanceTrigger =>
    refine hs.congr ?_
    dsimp only [exec, execEngineService, execLeNop, execLeMov, execLeAdd, execLeSub, execLeMul, execLeMac, execLeMsu,
      execLeClra, execLeLda, execLeSta, execLeMin, execLeMax, execLeLim, execLeAbs, execLeNeg, execLeShl, execLeShr,
      execLeDiv, execLeIntg, execLeBqd, execLeLdi, execLeBneg, execLeBpos, execLeBz, execLeBnz, execLeBfs, execLeJmp,
      execLeEnd, execLeTunt, execDeadlineOverrun, execOuterStep, execFolEdge, execFolStandstill, execFollowingErrorReport,
      execOscillationReport, execFastSpApply, execTuneSegmentClose, execTuneDone, execLacFrameEnd, execLacUpdate,
      execClrNFall, execClrNRise, execClampTrip, execClampRelease, execClampHoldRepeat, execFastFire, execTrigoutPulseEnd,
      execRangeMake, execRangeSwitch, execRangeBreakEnd, execRangeHoldSwitch, execRangeNoOverlap, execTriginEdge,
      execExpressFrameRx, execSyncExchangeStart, execTimeReq, execTimeRsp, execExchangeTimeout, execTrigFrame,
      execTriggerExecute, execStepDwellEnd, execStepMeasureEnd, execStepAdvanceTrigger]
    repeat' split
    all_goals simp
  case arbGrant | grantEnd | arbWindowBoundary | arbWaitForce | signalDetect | trainComplete | alignComplete | portRestart |
    linkLoss | lcAck | lcNak | lcXack | lcXnak | lcCredit | lcXcredit | lcHello | lcLinkdown | retryTimeout | frameFail |
    enumStart | enumAssign | enumDone | enumReady | topoChange | rootlessTimeout | eqAdapt | eyeUpdate | tunNack |
    reassemblyTimeout | tunTxGo | tunTxCancel | tunRxFree | cmdqEntry | frdyReady | frdyTimeout | fspAttemptFail |
    cmdqEntryComplete | xipMiss | xipFillComplete | busyPoll | flashStuck | modeFault | mfQuietReacquire | xipHit |
    mgpFrameStart | mgpRead | mgpStream | mgpFlashRead | mgpFlashWrite | mgpFlashErase | mgpReplyComplete | ackQuietClose |
    appPost | injectionEnd | alertPulseEnd | evtPulseEnd | fifoPop =>
    refine hs.congr ?_
    dsimp only [exec, execArbGrant, execGrantEnd, execArbWindowBoundary, execArbWaitForce, execSignalDetect,
      execTrainComplete, execAlignComplete, execPortRestart, execLinkLoss, execLcAck, execLcNak, execLcXack, execLcXnak,
      execLcCredit, execLcXcredit, execLcHello, execLcLinkdown, execRetryTimeout, execFrameFail, execEnumStart,
      execEnumAssign, execEnumDone, execEnumReady, execTopoChange, execRootlessTimeout, execEqAdapt, execEyeUpdate,
      execTunNack, execReassemblyTimeout, execTunTxGo, execTunTxCancel, execTunRxFree, execCmdqEntry, execFrdyReady,
      execFrdyTimeout, execFspAttemptFail, execCmdqEntryComplete, execXipMiss, execXipFillComplete, execBusyPoll,
      execFlashStuck, execModeFault, execMfQuietReacquire, execXipHit, execMgpFrameStart, execMgpRead, execMgpStream,
      execMgpFlashRead, execMgpFlashWrite, execMgpFlashErase, execMgpReplyComplete, execAckQuietClose, execAppPost,
      execInjectionEnd, execAlertPulseEnd, execEvtPulseEnd, execFifoPop]
    repeat' split
    all_goals simp
  all_goals simp [requestOf, touchesOf, Part.reset, Part.writable] at hq hd

/-- BOOT_ENTRY alone enters BOOT. -/
theorem exec_avoidsBoot {c : Instr} (hc : ∀ reads, c ≠ .bootEntry reads) : CommandAvoidsBoot c := by
  cases hq : requestOf c with
  | some q => exact request_avoidsBoot hq
  | none =>
    by_cases hd : Part.dev ∈ touchesOf c
    · exact exec_avoidsBoot_of_touched hc hq hd
    · exact exec_avoidsBoot_of_untouched hq hd

theorem exec_outOfBoot {c : Instr} {s t : State} (hc : ∀ reads, c ≠ .bootEntry reads) (h : exec c s = .next t)
    (hs : OutOfBoot s) : OutOfBoot t := by
  have avoided : OutOfBoot (settled s (exec c s)) := exec_avoidsBoot hc s hs
  rwa [h] at avoided

end Sys2Proof.Machine
end

section
namespace Sys2Proof.Machine

/-! ## The message of an entry into BOOT (R586, R592, R593) -/

section
variable {s : State}

/-! ### Sending and taking -/

theorem sendMsg_queue_of_room {src : BitVec 6} (h : s.badger.queue.countP (fun m => m.source == src) < 8) (kind : Byte)
    (base : Level) (detail : Nat) :
    (sendMsg s src kind base detail).badger.queue = s.badger.queue ++ [newMsg s src kind base (BitVec.ofNat 24 detail) false] := by
  simp [sendMsg, sendFull, Nat.not_le.mpr h]

theorem heads_eq_nil {seen : List (BitVec 6)} {q : List Msg} (h : ∀ m ∈ q, m.source ∈ seen) : heads seen q = [] := by
  induction q with
  | nil => rfl
  | cons m q ih =>
    have hm : m.source ∈ seen := h m (by simp)
    simp [heads, hm, ih fun x hx => h x (by simp [hx])]

/-- Messages of one source are taken in the order of their sending. -/
theorem nextMsg_cons_of_source {m : Msg} {rest : List Msg} (h : ∀ x ∈ rest, x.source = m.source) :
    nextMsg (m :: rest) = some m := by
  have behind : heads [m.source] rest = [] := heads_eq_nil fun x hx => by simp [h x hx]
  simp [nextMsg, heads, behind]

/-! ### Classifying a NOTE -/

theorem appliedLevel_of_note {m : Msg} (h : m.base = .note) (slot : Option Slot) : appliedLevel m slot = .note := by
  cases slot <;> simp [appliedLevel, h]

theorem Badger.store_history_head (b : Badger) (m : Msg) (level : Level) (count : Nat) :
    ((b.store m level count).history.head?).map (·.msg) = some m := by simp [Badger.store]

/-- A NOTE has no reaction, so its record stays the newest of the history. -/
theorem classify_history_head_of_note {m : Msg} (h : m.base = .note) :
    ((classify s m).badger.history.head?).map (·.msg) = some m := by
  have quiet (t : State) : react t m .note = t := rfl
  unfold classify
  dsimp only
  rw [appliedLevel_of_note h, quiet]
  split
  · simp [Badger.store_history_head]
  · exact Badger.store_history_head _ _ _ _

theorem exec_badgerClassify_of_nextMsg {m : Msg} (h : nextMsg s.badger.queue = some m) :
    exec .badgerClassify s = .next (classify { s with badger := { s.badger with queue := s.badger.queue.erase m } } m) := by
  simp [exec, execBadgerClassify, h]

/-! ### BOOT_ENTRY (R211) -/

/-- The state in which BOOT sends its message: entered, and the flash taken out of its continuous read. -/
def bootEntered (s : State) (reads : List Byte × List Byte) : State :=
  probeFlash { s with dev := { s.dev with state := .boot, refbufOn := true, refbufAt := s.now }
                      mgp := s.mgp.defaults
                      clk := { s.clk with pllEn := s.clk.refPresent } } reads.1 reads.2

/-- The message BOOT with its detail. -/
def bootMsg (s : State) (reads : List Byte × List Byte) : Msg :=
  newMsg (bootEntered s reads) srcTsf 0x00 .note (BitVec.ofNat 24 s.dev.resetCause.toNat) false

/-- The state after the message BOOT, ahead of the second one that strap 3 asks for. -/
def bootReported (s : State) (reads : List Byte × List Byte) : State :=
  sendMsg (bootEntered s reads) srcTsf 0x00 .note s.dev.resetCause.toNat

theorem bootReported_queue (hq : s.badger.queue = []) (reads : List Byte × List Byte) :
    (bootReported s reads).badger.queue = [bootMsg s reads] := by
  have empty : (bootEntered s reads).badger.queue = [] := by simp [bootEntered, hq]
  simp [bootReported, bootMsg, sendMsg_queue_of_room (s := bootEntered s reads) (src := srcTsf) (by simp [empty]), empty]

theorem exec_bootEntry (hr : s.dev.state = .reset) (ha : s.power.aonHeld = false) (hg : s.power.good = 0x3F)
    (reads : List Byte × List Byte) :
    exec (.bootEntry reads) s = .next (if s.power.straps.getLsbD 3 then sendMsg (bootReported s reads) srcTsf 0x02 .warn 0
      else bootReported s reads) := by
  simp [exec, execBootEntry, bootReported, bootEntered, hr, ha, hg]

/-- BOOT's message heads the queue, and what strap 3 adds comes of the same source. -/
theorem bootEntry_queue (hr : s.dev.state = .reset) (ha : s.power.aonHeld = false) (hg : s.power.good = 0x3F)
    (hq : s.badger.queue = []) (reads : List Byte × List Byte) :
    ∃ t rest, exec (.bootEntry reads) s = .next t ∧ t.dev.state = .boot ∧ t.badger.queue = bootMsg s reads :: rest
      ∧ ∀ x ∈ rest, x.source = srcTsf := by
  have reported := bootReported_queue hq reads
  have entered : (bootReported s reads).dev.state = .boot := by simp [bootReported, bootEntered]
  have told := exec_bootEntry hr ha hg reads
  by_cases h3 : s.power.straps.getLsbD 3
  · rw [if_pos h3] at told
    have room : (bootReported s reads).badger.queue.countP (fun m => m.source == srcTsf) < 8 := by
      rw [reported]
      exact Nat.lt_of_le_of_lt List.countP_le_length (by simp)
    exact ⟨_, _, told, by simp [entered], by rw [sendMsg_queue_of_room room, reported]; rfl, by simp [newMsg]⟩
  · rw [if_neg h3] at told
    exact ⟨_, [], told, entered, reported, by simp⟩

end

/-- Settles O59: no other command takes the device into BOOT; and the message of the entry heads a queue of one source, so
that it is classified first, and as a NOTE it is then the newest of the history. -/
theorem everyBootIsReported : Obligations.EveryBootIsReported := by
  unfold Obligations.EveryBootIsReported
  refine ⟨fun c s t h hs ht => ?_, fun s x hr ha hg hq => ?_⟩
  · by_contra hc
    exact exec_outOfBoot (fun reads e => hc ⟨reads, e⟩) h hs ht
  · obtain ⟨t, rest, told, booted, queued, alike⟩ := bootEntry_queue hr ha hg hq x
    have first : nextMsg t.badger.queue = some (bootMsg s x) := by rw [queued]; exact nextMsg_cons_of_source alike
    have detail : (bootMsg s x).detail = s.dev.resetCause.setWidth 24 := BitVec.ofNat_toNat 24 s.dev.resetCause
    exact ⟨t, bootMsg s x, rest, told, booted, queued, rfl, rfl, rfl, detail, first, _, exec_badgerClassify_of_nextMsg first,
      classify_history_head_of_note rfl⟩

end Sys2Proof.Machine
end

section
namespace Sys2Proof.Machine

/-! ## Words of the control-law instructions (R266, R272) -/

/-- The fields of a packed word are the fields it was packed from. -/
theorem packLoop_fields (op d a b : BitVec 6) (imm : Byte) :
    (packLoop op d a b imm).extractLsb' 26 6 = op ∧ (packLoop op d a b imm).extractLsb' 20 6 = d ∧
      (packLoop op d a b imm).extractLsb' 14 6 = a ∧ (packLoop op d a b imm).extractLsb' 8 6 = b ∧
      (packLoop op d a b imm).extractLsb' 0 8 = imm := by
  unfold packLoop
  refine ⟨?_, ?_, ?_, ?_, ?_⟩ <;> grind

/-- The word of an instruction holds its operation code and its fields. -/
theorem readLoop_encodeLoop (i : LoopInstr) : readLoop (encodeLoop i) = some i := by
  cases i
  all_goals
    unfold encodeLoop readLoop
    simp only [packLoop_fields]
    rfl

theorem decodeLoop_eq_some_iff {w : Word} {i : LoopInstr} :
    decodeLoop w = some i ↔ readLoop w = some i ∧ i.wf = true ∧ encodeLoop i = w := by
  unfold decodeLoop
  cases readLoop w with
  | none => simp
  | some j =>
    dsimp only
    split
    next h =>
      rw [Bool.and_eq_true, beq_iff_eq] at h
      simp only [Option.some.injEq]
      exact ⟨fun e => e ▸ ⟨rfl, h⟩, And.left⟩
    next h =>
      rw [Bool.and_eq_true, beq_iff_eq] at h
      simp only [Option.some.injEq, reduceCtorEq, false_iff]
      rintro ⟨rfl, hj⟩
      exact h hj

/-- Settles O52: the word of an instruction reads back as it, and a decoder that re-encodes what it read answers nothing else. -/
theorem loopDecodeEncode : Obligations.LoopDecodeEncode := by
  unfold Obligations.LoopDecodeEncode
  constructor
  · intro i hi
    exact decodeLoop_eq_some_iff.2 ⟨readLoop_encodeLoop i, hi, rfl⟩
  · intro w i h
    obtain ⟨-, hi, hw⟩ := decodeLoop_eq_some_iff.1 h
    exact ⟨hw, hi⟩

end Sys2Proof.Machine
end

section
namespace Sys2Proof.Machine

/-! ## The control-law instructions (R261 to R268, R276, R283, Table 7.5) -/

/-! ### Operands (R263, Table 7.4) -/

theorem readOp_writeOp_same (x : Inputs) (r : Run) {d : Opnd} (w : Word) (h : d.toNat < 0x18) :
    readOp x (writeOp r d w) d = w := by
  by_cases ht : d.toNat < 0x08
  · simp [readOp, writeOp, ht]
  · have hs : d.toNat - 8 < 16 := by omega
    simp [readOp, writeOp, ht, h, hs]

theorem readOp_writeOp_ne (x : Inputs) (r : Run) {d o : Opnd} (w : Word) (h : d.toNat < 0x18) (hne : o ≠ d) :
    readOp x (writeOp r d w) o = readOp x r o := by
  have hn : d.toNat ≠ o.toNat := fun e => hne (BitVec.eq_of_toNat_eq e.symm)
  by_cases ht : d.toNat < 0x08
  · simp [readOp, writeOp, ht, Vector.getElem?_setIfInBounds_ne hn]
  · simp only [writeOp, ht, h, if_false, if_true, readOp]
    split
    · rfl
    · split
      next ho hs => rw [Vector.getElem?_setIfInBounds_ne (by omega)]
      next => rfl

theorem writeOp_zero (r : Run) (w : Word) : writeOp r 0x3F w = r := rfl

theorem readOp_zero (x : Inputs) (r : Run) : readOp x r 0x3F = 0 := rfl

/-- Settles O20: a destination below the coefficients is one element of one vector of the run. -/
theorem operandsReadBack : Obligations.OperandsReadBack :=
  ⟨fun x r _ w h => readOp_writeOp_same x r w h, fun x r _ _ w h hne => readOp_writeOp_ne x r w h hne, writeOp_zero, readOp_zero⟩

/-- A store changes no accumulator and no flag, and uses neither. -/
theorem writeOp_with (r : Run) (o : Opnd) (w : Word) (a : BitVec 64) (f : Byte) :
    writeOp { r with acc := a, flags := f } o w = { writeOp r o w with acc := a, flags := f } := by
  unfold writeOp
  dsimp only
  repeat' split
  all_goals rfl

@[simp] theorem writeOp_acc (r : Run) (o : Opnd) (w : Word) : (writeOp r o w).acc = r.acc := by
  unfold writeOp
  dsimp only
  repeat' split
  all_goals rfl

@[simp] theorem writeOp_flags (r : Run) (o : Opnd) (w : Word) : (writeOp r o w).flags = r.flags := by
  unfold writeOp
  dsimp only
  repeat' split
  all_goals rfl

@[simp] theorem writeOp_pc (r : Run) (o : Opnd) (w : Word) : (writeOp r o w).pc = r.pc := by
  unfold writeOp
  dsimp only
  repeat' split
  all_goals rfl

@[simp] theorem writeOp_cycles (r : Run) (o : Opnd) (w : Word) : (writeOp r o w).cycles = r.cycles := by
  unfold writeOp
  dsimp only
  repeat' split
  all_goals rfl

/-! ### Results (R261, R262) -/

theorem clampInt_ne_iff {lo hi x : Int} : clampInt lo hi x ≠ x ↔ x < lo ∨ hi < x := by
  unfold clampInt
  repeat' split
  all_goals omega

theorem raiseFlag_qsat (f : Byte) (b : Bool) : raiseFlag f flagQsat b = if b then f ||| 0x80 else f := rfl

theorem satHit_iff {v : Int} : satHit v = true ↔ v < -2147483648 ∨ 2147483647 < v := by
  rw [satHit, bne_iff_ne]
  exact clampInt_ne_iff

theorem accHit_iff {v : Int} : accHit v = true ↔ v < -9223372036854775808 ∨ 9223372036854775807 < v := by
  rw [accHit, bne_iff_ne]
  exact clampInt_ne_iff

/-- What R262 says of a stored result is what the datapath does. -/
theorem stores_storeInt (r : Run) (d : Opnd) (v : Int) (k : Nat) : Stores r ((storeInt r d v).advance k) d v k := by
  have flags : raiseFlag r.flags flagQsat (satHit v) = if v < -2147483648 ∨ 2147483647 < v then r.flags ||| 0x80 else r.flags := by
    simp only [raiseFlag_qsat, satHit_iff]
  simp only [Stores, storeInt, Run.advance, flags, satWord, satQ, clampInt, writeOp_pc, writeOp_cycles]

theorem accumulates_setAcc (r : Run) (v : Int) (k : Nat) : Accumulates r ((setAcc r v).advance k) v k := by
  have flags : raiseFlag r.flags flagQsat (accHit v) =
      if v < -9223372036854775808 ∨ 9223372036854775807 < v then r.flags ||| 0x80 else r.flags := by
    simp only [raiseFlag_qsat, accHit_iff]
  simp only [Accumulates, setAcc, Run.advance, flags, satAcc, clampInt]
  rfl

theorem branches_branch (r : Run) (imm : Byte) (p : Prop) [Decidable p] : Branches r (r.branch imm (decide p)) imm p := by
  constructor
  · intro h
    simp [Run.branch, h]
  · intro h
    simp [Run.branch, h, Run.advance]

/-! ### One instruction of an engine's run -/

theorem leStep_of_wf {s : State} {i : LoopInstr} (hc : s.clk.pllLock = true) (hi : i.wf = true) (f : Run → Run) (e : Eng) :
    leStep i f e s = s.modEng e fun g => { g with run := f (runOf s e) } := by
  simp [leStep, State.clocksRun, hc, hi]

/-- A command of one instruction leaves the run that its instruction makes of the run in progress, and changes nothing else. -/
theorem exec_stepped {c : Instr} {s : State} {i : LoopInstr} {f : Run → Run} {e : Eng} (P : Run → Prop)
    (h : exec c s = .next (leStep i f e s)) (hc : s.clk.pllLock = true) (hi : i.wf = true) (hp : P (f (runOf s e))) :
    ∃ t, exec c s = .next t ∧ Stepped e s t ∧ P (t.engine e).run := by
  rw [leStep_of_wf hc hi] at h
  refine ⟨_, h, ?_, ?_⟩
  · simp [Stepped]
  · simpa using hp

theorem exec_stores {c : Instr} {s : State} {i : LoopInstr} {f : Run → Run} {e : Eng} {d : Opnd} {v : Int} {k : Nat}
    (h : exec c s = .next (leStep i f e s)) (hc : s.clk.pllLock = true) (hi : i.wf = true)
    (hf : f (runOf s e) = (storeInt (runOf s e) d v).advance k) :
    ∃ t, exec c s = .next t ∧ Stepped e s t ∧ Stores (runOf s e) (t.engine e).run d v k :=
  exec_stepped (Stores (runOf s e) · d v k) h hc hi (hf ▸ stores_storeInt _ _ _ _)

theorem exec_accumulates {c : Instr} {s : State} {i : LoopInstr} {f : Run → Run} {e : Eng} {v : Int} {k : Nat}
    (h : exec c s = .next (leStep i f e s)) (hc : s.clk.pllLock = true) (hi : i.wf = true)
    (hf : f (runOf s e) = (setAcc (runOf s e) v).advance k) :
    ∃ t, exec c s = .next t ∧ Stepped e s t ∧ Accumulates (runOf s e) (t.engine e).run v k :=
  exec_stepped (Accumulates (runOf s e) · v k) h hc hi (hf ▸ accumulates_setAcc _ _ _)

theorem exec_branches {c : Instr} {s : State} {i : LoopInstr} {f : Run → Run} {e : Eng} {imm : Byte} {p : Prop} [Decidable p]
    (h : exec c s = .next (leStep i f e s)) (hc : s.clk.pllLock = true) (hi : i.wf = true)
    (hf : f (runOf s e) = (runOf s e).branch imm (decide p)) :
    ∃ t, exec c s = .next t ∧ Stepped e s t ∧ Branches (runOf s e) (t.engine e).run imm p :=
  exec_stepped (Branches (runOf s e) · imm p) h hc hi (hf ▸ branches_branch _ _ _)

/-! ### Values of the arithmetic instructions (Table 7.5) -/

theorem runLim_eq (x : Inputs) (d a b : Opnd) (r : Run) :
    runLim x d a b r = (storeInt r d (if readInt x r a < -|readInt x r b| then -|readInt x r b|
      else if |readInt x r b| < readInt x r a then |readInt x r b| else readInt x r a)).advance 1 := by
  simp only [runLim, clampInt, Int.abs_eq_natAbs]

theorem runAbs_eq (x : Inputs) (d a : Opnd) (r : Run) : runAbs x d a r = (storeInt r d |readInt x r a|).advance 1 := by
  rw [runAbs, Int.abs_eq_natAbs]

theorem runMsu_eq (x : Inputs) (a b : Opnd) (r : Run) :
    runMsu x a b r = (setAcc r (r.acc.toInt - readInt x r a * readInt x r b)).advance 2 := by
  rw [runMsu, accumulate, Int.sub_eq_add_neg]

theorem setAcc_zero (r : Run) : setAcc r 0 = { r with acc := 0 } := rfl

/-- A shift to the right is the exact quotient rounded with ties toward plus infinity (R262). -/
theorem runShr_eq (x : Inputs) (d a : Opnd) (imm : Byte) (r : Run) :
    runShr x d a imm r =
      (storeInt r d ((2 * readInt x r a + 2 ^ imm.toNat) / (2 * 2 ^ imm.toNat))).advance 1 := by
  simp [runShr, Q.roundUp]

/-- The exact quotient in Q2.30 units, its sign that of the dividend times the divisor's. -/
theorem div_roundUp (n : Int) {m : Int} (hm : m ≠ 0) :
    (((Q.ofInt n).div (Q.ofInt m)).scale2 30).roundUp = (2 * (n * m.sign * 2 ^ 30) + |m|) / (2 * |m|) := by
  rcases lt_or_gt_of_ne hm with h | h
  · simp [Q.div, Q.ofInt, Q.scale2, Q.roundUp, hm, h, Int.sign_eq_neg_one_of_neg h]
  · simp [Q.div, Q.ofInt, Q.scale2, Q.roundUp, hm, not_lt.2 h.le, Int.sign_eq_one_of_pos h]

theorem runDiv_of_ne {x : Inputs} {r : Run} {b : Opnd} (d a : Opnd) (hb : readInt x r b ≠ 0) :
    runDiv x d a b r = (storeInt r d ((2 * (readInt x r a * (readInt x r b).sign * 2 ^ 30) + |readInt x r b|)
      / (2 * |readInt x r b|))).advance 18 := by
  simp only [runDiv, hb, if_false, div_roundUp _ hb]

theorem runDiv_of_zero {x : Inputs} {r : Run} {b : Opnd} (d a : Opnd) (hb : readInt x r b = 0) :
    runDiv x d a b r = { writeOp r d (if 0 ≤ readInt x r a then 0x7FFFFFFF else 0x80000000) with
      flags := r.flags ||| 0xC0, pc := r.pc + 1, cycles := r.cycles + 18 } := by
  have flags : raiseFlag (raiseFlag r.flags flagDivz true) flagQsat true = r.flags ||| 0xC0 := by
    change r.flags ||| BitVec.twoPow 8 6 ||| BitVec.twoPow 8 7 = _
    rw [BitVec.or_assoc]
    rfl
  simp only [runDiv, hb, if_true, Run.advance, flags, writeOp_pc, writeOp_cycles]

/-- Settles O18: each instruction is a store or an accumulation of its value, once its operands are legal (R272). -/
theorem loopArithmeticAndProducts : Obligations.LoopArithmeticAndProducts := by
  unfold Obligations.LoopArithmeticAndProducts
  constructor
  · intro s e d a b hc hd ha hb
    have legal1 : (LoopInstr.mov d a).wf = true := by simp [LoopInstr.wf, hd, ha]
    have legal2 : (LoopInstr.add d a b).wf = true := by simp [LoopInstr.wf, hd, ha, hb]
    dsimp only
    refine ⟨?mov, ?add, ?sub, ?min, ?max, ?lim, ?abs, ?neg⟩
    case mov => exact exec_stores rfl hc legal1 rfl
    case add => exact exec_stores rfl hc legal2 rfl
    case sub => exact exec_stores rfl hc legal2 rfl
    case min => exact exec_stores rfl hc legal2 rfl
    case max => exact exec_stores rfl hc legal2 rfl
    case lim => exact exec_stores rfl hc legal2 (runLim_eq _ _ _ _ _)
    case abs => exact exec_stores rfl hc legal1 (runAbs_eq _ _ _ _)
    case neg => exact exec_stores rfl hc legal1 rfl
  · intro s e d a b imm hc hd ha hb
    have legal : (LoopInstr.mul d a b).wf = true := by simp [LoopInstr.wf, hd, ha, hb]
    have legalAcc : (LoopInstr.mac a b).wf = true := by simp [LoopInstr.wf, ha, hb]
    dsimp only
    refine ⟨?mul, ?mac, ?msu, ?clra, ?lda, ?sta, fun hi => ?shl, fun hi => ?shr, fun hz => ?div, fun hz => ?divz, ?ldi⟩
    case mul => exact exec_stores rfl hc legal rfl
    case mac => exact exec_accumulates rfl hc legalAcc rfl
    case msu => exact exec_accumulates rfl hc legalAcc (runMsu_eq _ _ _ _)
    case clra => exact exec_accumulates rfl hc rfl rfl
    case lda => exact exec_accumulates rfl hc ha rfl
    case sta => exact exec_stores rfl hc hd rfl
    case shl => exact exec_stores rfl hc (by simp [LoopInstr.wf, hd, ha, hi]) rfl
    case shr => exact exec_stores rfl hc (by simp [LoopInstr.wf, hd, ha, hi]) (runShr_eq _ _ _ _ _)
    case div => exact exec_stores rfl hc legal (runDiv_of_ne _ _ hz)
    case divz => exact exec_stepped (· = _) rfl hc legal (runDiv_of_zero _ _ hz)
    case ldi => exact exec_stores rfl hc hd rfl

/-! ### The integrator (R283) -/

/-- The result of an operand below the special ones depends on the slots alone. -/
theorem readOp_advance (x : Inputs) (r : Run) (f : Byte) (k : Nat) {o : Opnd} (h : o.toNat < 0x38) :
    readOp x (Run.advance { r with flags := f } k) o = readOp x r o := by
  simp only [readOp, Run.advance, h, if_true]

theorem readInt_range (x : Inputs) (r : Run) (o : Opnd) : -2147483648 ≤ readInt x r o ∧ readInt x r o ≤ 2147483647 := by
  have lower := BitVec.le_toInt (readOp x r o)
  have upper := BitVec.toInt_lt (x := readOp x r o)
  unfold readInt
  omega

theorem satQ_of_range {v : Int} (h : -2147483648 ≤ v ∧ v ≤ 2147483647) : satQ v = v := by
  unfold satQ clampInt
  repeat' split
  all_goals omega

theorem toInt_ofInt_of_range {v : Int} (h : -2147483648 ≤ v ∧ v ≤ 2147483647) : (BitVec.ofInt 32 v).toInt = v := by
  rw [BitVec.toInt_ofInt]
  exact Int.bmod_eq_of_le (by omega) (by omega)

theorem ofInt_readInt (x : Inputs) (r : Run) (o : Opnd) : BitVec.ofInt 32 (readInt x r o) = readOp x r o :=
  BitVec.ofInt_toInt

theorem clampInt_satQ {lo hi v : Int} (h : lo ≤ hi) (hlo : -2147483648 ≤ lo) (hhi : hi ≤ 2147483647) :
    clampInt lo hi (satQ v) = max lo (min hi v) := by
  unfold satQ clampInt
  repeat' split
  all_goals omega

section
variable {x : Inputs} {r : Run} {d : Opnd} (a b : Opnd)

/-- The sum that INTG forms where nothing holds it. -/
abbrev intgSum (x : Inputs) (r : Run) (d a b : Opnd) : Int :=
  readInt x r d + (readInt x r a * readInt x r b + 2 ^ 29) / 2 ^ 30

theorem runIntg_free (h : x.scheme = 2) (h0 : r.flags.getLsbD 0 = false) (h1 : r.flags.getLsbD 1 = false) :
    runIntg x d a b r = (storeInt r d (intgSum x r d a b)).advance 3 := by
  have free : (x.scheme == 2 && (r.flags.getLsbD flagSat || r.flags.getLsbD flagCompl)) = false := by
    rw [show flagSat = 0 from rfl, show flagCompl = 1 from rfl, h0, h1]
    simp
  unfold runIntg
  dsimp only
  rw [free]
  simp only [h, Nat.reduceBEq, Bool.false_eq_true, if_false]
  rfl

/-- Conditional integration leaves the sum where the output saturates or complies (R283). -/
theorem runIntg_held (h : x.scheme = 2) (hf : r.flags.getLsbD 0 = true ∨ r.flags.getLsbD 1 = true) (hd : d.isS = true) :
    readOp x (runIntg x d a b r) d = readOp x r d := by
  obtain ⟨-, slot⟩ : 8 ≤ d.toNat ∧ d.toNat < 24 := by simpa [Opnd.isS] using hd
  have held : (x.scheme == 2 && (r.flags.getLsbD flagSat || r.flags.getLsbD flagCompl)) = true := by
    simpa [flagSat, flagCompl, h] using hf
  unfold runIntg
  dsimp only
  rw [held, readOp_advance x _ _ _ (by omega), readOp_writeOp_same x r _ slot]
  simp [h, satQ_of_range (readInt_range x r d), ofInt_readInt]

theorem runIntg_clamped (h : x.scheme = 1) (hlh : x.lo ≤ x.hi) (hlo : -2147483648 ≤ x.lo) (hhi : x.hi ≤ 2147483647)
    (hd : d.isS = true) : readInt x (runIntg x d a b r) d = max x.lo (min x.hi (intgSum x r d a b)) := by
  obtain ⟨-, slot⟩ : 8 ≤ d.toNat ∧ d.toNat < 24 := by simpa [Opnd.isS] using hd
  unfold readInt runIntg
  dsimp only
  rw [readOp_advance x _ _ _ (by omega), readOp_writeOp_same x r _ slot]
  simp only [h, beq_self_eq_true, if_true, clampInt_satQ hlh hlo hhi]
  rw [toInt_ofInt_of_range (by omega)]
  rfl

end

/-! ### The biquad (R276) -/

/-- No flag but QSAT was raised. -/
def Raised (f g : Byte) : Prop := g = f ∨ g = f ||| 0x80

theorem Raised.trans {f g h : Byte} (a : Raised f g) (b : Raised g h) : Raised f h := by
  rcases a with rfl | rfl <;> rcases b with rfl | rfl <;> simp [Raised, BitVec.or_assoc]

theorem raised_raiseFlag (f : Byte) (c : Bool) : Raised f (raiseFlag f flagQsat c) := by
  rw [raiseFlag_qsat]
  split
  · exact .inr rfl
  · exact .inl rfl

/-- Terms accumulated one after the other, each sum saturated to Q4.60 (R261). -/
theorem accumulate_terms (terms : List Int) (r : Run) : ∃ f, Raised r.flags f ∧ terms.foldl accumulate r =
    { r with acc := BitVec.ofInt 64 (terms.foldl (fun acc x => clampInt (-2 ^ 63) (2 ^ 63 - 1) (acc + x)) r.acc.toInt), flags := f } := by
  induction terms generalizing r with
  | nil => exact ⟨r.flags, .inl rfl, by simp⟩
  | cons v terms ih =>
    obtain ⟨f, hf, e⟩ := ih (accumulate r v)
    have range : (BitVec.ofInt 64 (satAcc (r.acc.toInt + v))).toInt = clampInt (-2 ^ 63) (2 ^ 63 - 1) (r.acc.toInt + v) := by
      rw [BitVec.toInt_ofInt, satAcc]
      refine Int.bmod_eq_of_le ?_ ?_ <;> unfold clampInt <;> (repeat' split) <;> omega
    refine ⟨f, (raised_raiseFlag _ _).trans hf, ?_⟩
    rw [List.foldl_cons, e, List.foldl_cons, ← range]
    rfl

theorem formed_toInt (terms : List Int) (h : terms ≠ []) : (BitVec.ofInt 64 (formed terms)).toInt = formed terms := by
  obtain ⟨front, v, rfl⟩ := (List.eq_nil_or_concat terms).resolve_left h
  rw [BitVec.toInt_ofInt, formed, List.concat_eq_append, List.foldl_append, List.foldl_cons, List.foldl_nil]
  refine Int.bmod_eq_of_le ?_ ?_ <;> unfold clampInt <;> (repeat' split) <;> omega

/-- One line of the biquad: its sum goes through ACC to its destination. -/
theorem bqdLine_eq (r : Run) (terms : List Int) (h : terms ≠ []) (dest : Opnd) : ∃ f, Raised r.flags f ∧
    bqdLine r terms dest = { writeOp r dest (BitVec.ofInt 32 (stored (formed terms))) with
      acc := BitVec.ofInt 64 (formed terms), flags := f } := by
  obtain ⟨f, hf, e⟩ := accumulate_terms terms { r with acc := 0 }
  refine ⟨raiseFlag f flagQsat (satHit (round30 (formed terms))), hf.trans (raised_raiseFlag _ _), ?_⟩
  change storeAcc (terms.foldl accumulate { r with acc := 0 }) dest (terms.foldl accumulate { r with acc := 0 }).acc.toInt = _
  rw [e]
  change storeAcc { r with acc := BitVec.ofInt 64 (formed terms), flags := f } dest (BitVec.ofInt 64 (formed terms)).toInt = _
  rw [formed_toInt terms h, storeAcc, storeInt, writeOp_with]
  rfl

/-- The biquad's three lines: the output first, then the two states, and the output stored last (R276). -/
theorem runBqd_eq (x : Inputs) (r : Run) (d a b : Opnd) (imm : Byte) :
    let k := kInt x
    let kb := b.toNat - 0x18
    let v := readInt x r a
    let y := stored (formed [k kb * v, readInt x r (sOp imm.toNat) * 2 ^ 30])
    let z1 := formed [k (kb + 1) * v, -(k (kb + 3) * y), readInt x r (sOp (imm.toNat + 1)) * 2 ^ 30]
    let z2 := formed [k (kb + 2) * v, -(k (kb + 4) * y)]
    ∃ f, Raised r.flags f ∧ runBqd x d a b imm r = Run.advance { writeOp (writeOp (writeOp r (sOp imm.toNat)
      (BitVec.ofInt 32 (stored z1))) (sOp (imm.toNat + 1)) (BitVec.ofInt 32 (stored z2))) d (BitVec.ofInt 32 y) with
        acc := BitVec.ofInt 64 z2, flags := f } 8 := by
  intro k kb v y z1 z2
  let first := [k kb * v, readInt x r (sOp imm.toNat) * 2 ^ 30]
  obtain ⟨f1, raised1, e1⟩ := accumulate_terms first { r with acc := 0 }
  have sum1 : (first.foldl accumulate { r with acc := 0 }).acc.toInt = formed first := by
    rw [e1]
    exact formed_toInt first (by simp [first])
  let f2 := raiseFlag f1 flagQsat (satHit (round30 (formed first)))
  let r2 : Run := { r with acc := BitVec.ofInt 64 (formed first), flags := f2 }
  obtain ⟨f3, raised3, e3⟩ := bqdLine_eq r2
    [k (kb + 1) * v, -(k (kb + 3) * y), readInt x r (sOp (imm.toNat + 1)) * 2 ^ 30] (by simp) (sOp imm.toNat)
  obtain ⟨f4, raised4, e4⟩ := bqdLine_eq (bqdLine r2
    [k (kb + 1) * v, -(k (kb + 3) * y), readInt x r (sOp (imm.toNat + 1)) * 2 ^ 30] (sOp imm.toNat))
    [k (kb + 2) * v, -(k (kb + 4) * y)] (by simp) (sOp (imm.toNat + 1))
  have raised : Raised r.flags f4 := (raised1.trans (raised_raiseFlag _ _)).trans (raised3.trans (by rwa [e3] at raised4))
  refine ⟨f4, raised, ?_⟩
  have lines : runBqd x d a b imm r = (writeOp (bqdLine (bqdLine r2
      [k (kb + 1) * v, -(k (kb + 3) * y), readInt x r (sOp (imm.toNat + 1)) * 2 ^ 30] (sOp imm.toNat))
      [k (kb + 2) * v, -(k (kb + 4) * y)] (sOp (imm.toNat + 1))) d (BitVec.ofInt 32 y)).advance 8 := by
    unfold runBqd
    dsimp only
    rw [sum1, e1]
    rfl
  rw [lines, e4, e3]
  simp only [r2, writeOp_with]
  rfl

theorem filters_runBqd (x : Inputs) (r : Run) (d a b : Opnd) (imm : Byte) : Filters x r (runBqd x d a b imm r) d a b imm := by
  obtain ⟨f, raised, e⟩ := runBqd_eq x r d a b imm
  refine ⟨?_, ?_⟩
  · rw [e]
    simp only [Run.advance, writeOp_pc, writeOp_cycles]
    rfl
  · rw [e]
    exact raised

theorem runBqd_pc (x : Inputs) (r : Run) (d a b : Opnd) (imm : Byte) : (runBqd x d a b imm r).pc = r.pc + 1 := by
  obtain ⟨f, -, e⟩ := runBqd_eq x r d a b imm
  simp [e, Run.advance]

theorem runBqd_cycles (x : Inputs) (r : Run) (d a b : Opnd) (imm : Byte) : (runBqd x d a b imm r).cycles = r.cycles + 8 := by
  obtain ⟨f, -, e⟩ := runBqd_eq x r d a b imm
  simp [e, Run.advance]

/-! ### Control -/

theorem leStep_of_illegal {i : LoopInstr} {s : State} (h : i.wf = false ∨ s.clk.pllLock = false) (f : Run → Run) (e : Eng) :
    leStep i f e s = s := by
  rcases h with h | h <;> simp [leStep, State.clocksRun, h]

/-- A command of one instruction executes nothing where the fields are illegal or the engines' clock is stopped (R83, R272). -/
theorem exec_loop_illegal {i : Instr} {e : Eng} {l : LoopInstr} {s : State} (hl : i.loop = some (e, l))
    (h : l.wf = false ∨ s.clk.pllLock = false) : exec i s = .next s := by
  cases i
  case leEnd | leTunt =>
    obtain ⟨rfl, rfl⟩ : _ ∧ _ := by simpa [Instr.loop] using hl
    have stopped : s.clk.pllLock = false := by simpa [LoopInstr.wf] using h
    simp [exec, execLeEnd, execLeTunt, State.clocksRun, stopped]
  all_goals cases hl
  all_goals exact congrArg Host.Outcome.next (leStep_of_illegal h _ _)

theorem engine_modCh (s : State) (n : Ch) (f : Channel → Channel) (e : Eng) : (s.modCh n f).engine e = s.engine e := rfl

theorem chan_modEng (s : State) (e : Eng) (f : Engine → Engine) (n : Ch) : (s.modEng e f).chan n = s.chan n := rfl

theorem othersKept_modCh (s : State) (e : Eng) (g : Engine → Engine) (n : Ch) (f : Channel → Channel) :
    OthersKept n s ((s.modEng e g).modCh n f) := fun m hm => (State.chan_modCh_ne _ n m f hm).trans (chan_modEng s e g m)

/-- Settles O19: the branches and the filters are instructions of the run in progress; END and TUNT also reach their channel. -/
theorem loopControlAndFilters : Obligations.LoopControlAndFilters := by
  unfold Obligations.LoopControlAndFilters
  refine ⟨⟨?control, fun i e l s => exec_loop_illegal⟩, ?integrator, ?biquad, ?fin, ?tunt⟩
  case control =>
    intro s e a b imm hc
    dsimp only
    refine ⟨exec_stepped (· = _) rfl hc rfl rfl, exec_branches rfl hc rfl rfl, fun ha => ⟨?_, ?_, ?_, ?_⟩, fun hb => ?_⟩
    · exact exec_branches rfl hc ha rfl
    · exact exec_branches rfl hc ha rfl
    · exact exec_branches rfl hc ha rfl
    · exact exec_branches rfl hc ha rfl
    · exact exec_branches rfl hc (decide_eq_true hb) (by simp [runBfs])
  case integrator =>
    intro s e d a b hc hd ha hb
    have legal : (LoopInstr.intg d a b).wf = true := by simp [LoopInstr.wf, hd, ha, hb]
    dsimp only
    refine ⟨fun h h0 h1 => ?_, fun h hf => ?_, fun h hlh hlo hhi => ?_⟩
    · exact exec_stores rfl hc legal (runIntg_free a b h h0 h1)
    · exact exec_stepped (fun r => readOp _ r d = _) rfl hc legal (runIntg_held a b h hf hd)
    · exact exec_stepped (fun r => readInt _ r d = _) rfl hc legal (runIntg_clamped a b h hlh hlo hhi hd)
  case biquad =>
    intro s e d a b imm hc hd ha hb hk hi
    have legal : (LoopInstr.bqd d a b imm).wf = true := by simp [LoopInstr.wf, hd, ha, hb, hk, hi]
    exact exec_stepped (fun r => r.cycles = _ ∧ r.pc = _ ∧ Filters _ _ r d a b imm) rfl hc legal
      ⟨runBqd_cycles _ _ _ _ _ _, runBqd_pc _ _ _ _ _ _, filters_runBqd _ _ _ _ _ _⟩
  case fin =>
    intro s e hc
    simp only [exec, execLeEnd, State.clocksRun, hc, Bool.not_true, Bool.false_eq_true, if_false]
    refine ⟨_, rfl, ?_, ?_, ?_, othersKept_modCh _ _ _ _ _⟩
    · simp [engine_modCh, runEnd]
    · simp [engine_modCh, runEnd]
    · intro open_ inner
      simp [chan_modEng, open_, inner, runEnd]
  case tunt =>
    intro s e hc
    simp only [exec, execLeTunt, State.clocksRun, hc, Bool.not_true, Bool.false_eq_true, if_false]
    refine ⟨_, rfl, ?_, othersKept_modCh _ _ _ _ _⟩
    simpa [engine_modCh, runTunt] using stores_storeInt (runOf s e) 0x3D _ 4

end Sys2Proof.Machine
end

section
namespace Sys2Proof.Machine

/-! ## The timebase (R65 to R71) -/

/-! ### One period -/

@[simp] theorem rootWindow_tbc (c : Clocks) (now : Nat) : (c.rootWindow now).tbc = c.tbc := by
  unfold Clocks.rootWindow
  split <;> rfl

@[simp] theorem rootWindow_frac (c : Clocks) (now : Nat) : (c.rootWindow now).frac = c.frac := by
  unfold Clocks.rootWindow
  split <;> rfl

@[simp] theorem rootWindow_rate (c : Clocks) (now : Nat) : (c.rootWindow now).rate = c.rate := by
  unfold Clocks.rootWindow
  split <;> rfl

@[simp] theorem rootWindow_loadPending (c : Clocks) (now : Nat) : (c.rootWindow now).loadPending = c.loadPending := by
  unfold Clocks.rootWindow
  split <;> rfl

@[simp] theorem rootWindow_pllLock (c : Clocks) (now : Nat) : (c.rootWindow now).pllLock = c.pllLock := by
  unfold Clocks.rootWindow
  split <;> rfl

theorem count_of_load {c : Clocks} (h : c.loadPending = true) :
    c.count = { c with tbc := c.tbcSet, frac := 0, loadPending := false, past := (c.tbc :: c.past).take 144 } := by
  simp [Clocks.count, h]

theorem count_of_running {c : Clocks} (h : c.loadPending = false) :
    c.count = { c with
      past := (c.tbc :: c.past).take 144
      frac := BitVec.ofInt 32 (c.frac.toNat + c.rate)
      tbc := BitVec.ofInt 64 (c.tbc.toNat + 1 + (c.frac.toNat + c.rate) / 2 ^ 32) } := by
  simp [Clocks.count, h]

theorem step_of_idle {s : State} (h : s.pending = []) : step s = .next (tick s) := by
  simp [step, h]

theorem tick_clk_of_locked {s : State} (h : s.clk.pllLock = true) : (tick s).clk = s.clk.count.rootWindow (s.now + 1) := by
  simp [tick, h]

theorem tick_of_stopped {s : State} (h : s.clk.pllLock = false) : tick s = { s with now := s.now + 1 } := by
  simp [tick, h]

/-! ### Many periods -/

/-- The TBC with its fraction, as one number of 96 bits. -/
def Clocks.fine (c : Clocks) : Nat := c.tbc.toNat * 2 ^ 32 + c.frac.toNat

/-- The carry of the fraction moves the count, so that nothing of the trim is lost. -/
theorem fine_count {c : Clocks} (h : c.loadPending = false) :
    (c.count.fine : Int) = (c.fine + (2 ^ 32 + c.rate)) % 2 ^ 96 := by
  simp only [Clocks.fine, count_of_running h, Nat.cast_add, Nat.cast_mul, Nat.cast_pow, Nat.cast_ofNat, BitVec.toNat_ofInt]
  have hfrac : (0 : Int) ≤ (c.frac.toNat + c.rate) % 2 ^ 32 := Int.emod_nonneg _ (by decide)
  have htbc : (0 : Int) ≤ (c.tbc.toNat + 1 + (c.frac.toNat + c.rate) / 2 ^ 32) % 2 ^ 64 := Int.emod_nonneg _ (by decide)
  norm_num at hfrac htbc ⊢
  omega

/-- The clocks run, nothing waits, and a trim stands. -/
structure Idles (s : State) (rate : Int) : Prop where
  pending : s.pending = []
  locked : s.clk.pllLock = true
  noLoad : s.clk.loadPending = false
  rate : s.clk.rate = rate

theorem Idles.tick {s : State} {rate : Int} (h : Idles s rate) : Idles (tick s) rate where
  pending := h.pending
  locked := by simp [tick_clk_of_locked h.locked, count_of_running h.noLoad, h.locked]
  noLoad := by simp [tick_clk_of_locked h.locked, count_of_running h.noLoad, h.noLoad]
  rate := by simp [tick_clk_of_locked h.locked, count_of_running h.noLoad, h.rate]

theorem Idles.fine_tick {s : State} {rate : Int} (h : Idles s rate) :
    ((Machine.tick s).clk.fine : Int) = (s.clk.fine + (2 ^ 32 + rate)) % 2 ^ 96 := by
  rw [← h.rate, ← fine_count h.noLoad, tick_clk_of_locked h.locked]
  simp [Clocks.fine]

theorem Idles.run {s : State} {rate : Int} (h : Idles s rate) (k : Nat) : ∃ t, Host.Core.run core k s = .next t
    ∧ (t.clk.fine : Int) = (s.clk.fine + k * (2 ^ 32 + rate)) % 2 ^ 96 := by
  induction k generalizing s with
  | zero =>
    refine ⟨s, rfl, ?_⟩
    have tbc := s.clk.tbc.isLt
    have frac := s.clk.frac.isLt
    unfold Clocks.fine
    omega
  | succ k ih =>
    obtain ⟨t, run, fine⟩ := ih h.tick
    refine ⟨t, ?_, ?_⟩
    · have first : core.step s = .next (Machine.tick s) := step_of_idle h.pending
      simp only [Host.Core.run, first]
      exact run
    · rw [fine, h.fine_tick, Int.emod_add_emod]
      congr 1
      push_cast
      ring

/-- Settles O6, by induction on the periods: one period adds one and the trim to the number of 96 bits. -/
theorem timebaseAdvancesByTheTrim : Obligations.TimebaseAdvancesByTheTrim := fun _ k hp hl hn => Idles.run ⟨hp, hl, hn, rfl⟩ k

/-! ### The registers of the timebase (Table 2.5) -/

theorem busRegAt_tbc (m : Master) : busRegAt m 0x40000410 = some
    { fields := [roF 0 32 fun s => s.clk.tbc.toNat % 2 ^ 32], tsf := false, pair := .low (·.clk.tbc) } := rfl

theorem busRegAt_tbcHigh (m : Master) : busRegAt m 0x40000414 = some { fields := [roF 0 32 fun _ => 0], tsf := false, pair := .high } :=
  rfl

theorem busRegAt_tbcSetHigh (m : Master) : busRegAt m 0x40000424 = some
    { fields := [roF 0 32 fun _ => 0], tsf := true, pair := .high
      whole := some fun w s => s.modClk fun c => { c with tbcSetHold := w } } := rfl

theorem busRegAt_tbcSet (m : Master) : busRegAt m 0x40000420 = some
    { fields := [roF 0 32 fun s => s.clk.tbcSet.toNat % 2 ^ 32], tsf := true, pair := .low (·.clk.tbcSet)
      whole := some fun w s => s.modClk fun c => { c with tbcSet := pairOf c.tbcSetHold w } } := rfl

/-- A register whose one field takes the whole word reads it. -/
theorem word_roF (get : State → Nat) (tsf : Bool) (pair : Pairing) (whole : Option (Word → State → State)) (s : State) :
    (Reg.word { fields := [roF 0 32 get], tsf := tsf, pair := pair, whole := whole } s) = BitVec.ofNat 32 (get s) := by
  apply BitVec.eq_of_toNat_eq
  simp [Reg.word, roF]

theorem tbcLow_read (m : Master) (s : State) : ∃ t, exec (.reg64LowRead m 0x40000410) s = .next t
    ∧ t.answer.data = natBytes 4 (s.clk.tbc.toNat % 2 ^ 32) ∧ latched t m 0x40000410 = s.clk.tbc.extractLsb' 32 32
    ∧ t.clk.tbc = s.clk.tbc := by
  simp only [exec, execReg64LowRead, busRegAt_tbc]
  refine ⟨_, rfl, ?_, ?_, ?_⟩
  · simp [readWord, word_roF]
  · simp [latched, afterRead]
  · simp [afterRead]

theorem tbcHigh_read (m : Master) (s : State) : ∃ t, exec (.reg64LowRead m 0x40000414) s = .next t
    ∧ t.answer.data = natBytes 4 (latched s m 0x40000410).toNat ∧ t.clk = s.clk := by
  simp only [exec, execReg64LowRead, busRegAt_tbcHigh]
  refine ⟨_, rfl, ?_, ?_⟩
  · simp [readWord]
  · simp [afterRead]

/-- Settles O5: each command of the timebase by the equations above. -/
theorem timebaseCommands : Obligations.TimebaseCommands := by
  unfold Obligations.TimebaseCommands
  refine ⟨⟨?stopped, ?load, ?counts⟩, fun _ _ => rfl, ?cmd, fun s m => tbcLow_read m s, fun s m => tbcHigh_read m s, fun _ _ => rfl,
    fun _ _ => rfl⟩
  case stopped =>
    intro s hp hl
    rw [step_of_idle hp, tick_of_stopped hl]
  case load =>
    intro s hp hl hload
    refine ⟨_, step_of_idle hp, rfl, ?_, ?_, ?_, ?_⟩ <;> simp [tick_clk_of_locked hl, count_of_load hload]
  case counts =>
    intro s hp hl hload
    refine ⟨_, step_of_idle hp, rfl, ?_, ?_, ?_, rfl⟩ <;> simp [tick_clk_of_locked hl, count_of_running hload]
  case cmd =>
    intro s w hw
    exact congrArg Host.Outcome.next (if_pos hw)

end Sys2Proof.Machine
end

section
namespace Sys2Proof.Machine

/-! ## Bounded parts (R67, R462, R547, R592, R601, Table 3.7)

The event FIFO, the history, the ARP cache, the lines held for execution in place and the arbiters' requesters have sizes that
no operation takes beyond their bounds. An operation that does not reach one of these parts leaves its size by its frame; what
the others leave is said here, once for each. -/

/-! ### Choices and repetitions -/

@[simp] theorem ite_fifo_le (c : Prop) [Decidable c] (a b : Events) (k : Nat) :
    (if c then a else b).fifo.length ≤ k ↔ if c then a.fifo.length ≤ k else b.fifo.length ≤ k := by
  split <;> rfl

@[simp] theorem ite_history_length (c : Prop) [Decidable c] (a b : Badger) :
    (if c then a else b).history.length = if c then a.history.length else b.history.length := by
  split <;> rfl

@[simp] theorem ite_arp_length (c : Prop) [Decidable c] (a b : Eth) :
    (if c then a else b).arp.length = if c then a.arp.length else b.arp.length := by
  split <;> rfl

@[simp] theorem ite_lines_length (c : Prop) [Decidable c] (a b : Xip) :
    (if c then a else b).lines.length = if c then a.lines.length else b.lines.length := by
  split <;> rfl

@[simp] theorem ite_reqs_length (c : Prop) [Decidable c] (a b : Arb) :
    (if c then a else b).reqs.length = if c then a.reqs.length else b.reqs.length := by
  split <;> rfl

@[simp] theorem ite_rate (c : Prop) [Decidable c] (a b : Clocks) :
    (if c then a else b).rate = if c then a.rate else b.rate := by
  split <;> rfl

section
variable {α : Type} (l : List α) (f : State → α → State)

@[simp] theorem forEach_fifo_le (h : ∀ s a, (f s a).events.fifo.length ≤ 64 ↔ s.events.fifo.length ≤ 64) (s : State) :
    (forEach l s f).events.fifo.length ≤ 64 ↔ s.events.fifo.length ≤ 64 :=
  (forEach_keeps (·.events.fifo.length ≤ 64) l f (fun s a => propext (h s a)) s).to_iff

@[simp] theorem forEach_history_length (h : ∀ s a, (f s a).badger.history.length = s.badger.history.length) (s : State) :
    (forEach l s f).badger.history.length = s.badger.history.length := forEach_keeps (·.badger.history.length) l f h s

@[simp] theorem forEach_arp_length (h : ∀ s a, (f s a).eth.arp.length = s.eth.arp.length) (s : State) :
    (forEach l s f).eth.arp.length = s.eth.arp.length := forEach_keeps (·.eth.arp.length) l f h s

@[simp] theorem forEach_poolReqs (h : ∀ s a, (f s a).pool.reqs.length = s.pool.reqs.length) (s : State) :
    (forEach l s f).pool.reqs.length = s.pool.reqs.length := forEach_keeps (·.pool.reqs.length) l f h s

@[simp] theorem forEach_linkReqs (h : ∀ s a, (f s a).link.reqs.length = s.link.reqs.length) (s : State) :
    (forEach l s f).link.reqs.length = s.link.reqs.length := forEach_keeps (·.link.reqs.length) l f h s

@[simp] theorem forEach_busReqs (h : ∀ s a, (f s a).bus.reqs.length = s.bus.reqs.length) (s : State) :
    (forEach l s f).bus.reqs.length = s.bus.reqs.length := forEach_keeps (·.bus.reqs.length) l f h s

end

/-! ### Updates of one part -/

theorem State.modBadger_badger (s : State) (f : Badger → Badger) : (s.modBadger f).badger = f s.badger := rfl

theorem State.modEth_eth (s : State) (f : Eth → Eth) : (s.modEth f).eth = f s.eth := rfl

@[simp] theorem State.modXip_xip (s : State) (f : Xip → Xip) : (s.modXip f).xip = f s.xip := rfl

@[simp] theorem record_fifo_le (v : Events) (r : EventRec) : (v.record r).fifo.length ≤ 64 ↔ v.fifo.length ≤ 64 := by
  unfold Events.record
  split
  · rfl
  · simp
    omega

@[simp] theorem flipped_history (b : Badger) (num : Nat) : (b.flipped num).history = b.history := rfl

@[simp] theorem reported_history (b : Badger) (num : Nat) : (b.reported num).history = b.history := rfl

@[simp] theorem fail_rate (c : Clocks) (m : Monitor) : (c.fail m).rate = c.rate := by
  cases m <;> rfl

/-- A closed slot marks history entries and drops none (R596). -/
@[simp] theorem closeSlot_history_length (b : Badger) (cls : BitVec 4) (src : BitVec 6) :
    (b.closeSlot cls src).history.length = b.history.length := by
  unfold Badger.closeSlot
  split <;> simp

/-! ### Arbiters -/

@[simp] theorem modReq_reqs_length (a : Arb) (q : Nat) (f : Requesting → Requesting) :
    (a.modReq q f).reqs.length = a.reqs.length := by
  simp [Arb.modReq]

@[simp] theorem grant_reqs_length (a : Arb) (pool : Bool) (q cost : Nat) (others : List Nat) :
    (a.grant pool q cost others).reqs.length = a.reqs.length := by
  simp [Arb.grant]

theorem foldl_force_reqs_length (l : List Nat) (a : Arb) : (l.foldl Arb.force a).reqs.length = a.reqs.length := by
  induction l generalizing a with
  | nil => rfl
  | cons q l ih => simp [ih, Arb.force]

@[simp] theorem endGrant_reqs_length (a : Arb) (pool : Bool) (atEnd : List Nat) (free : Nat) :
    (a.endGrant pool atEnd free).reqs.length = a.reqs.length := by
  unfold Arb.endGrant
  dsimp only
  split
  · simp
  · simp [foldl_force_reqs_length]

section
variable {s : State} {res : Resource} {f : Arb → Arb} (h : ∀ a, (f a).reqs.length = a.reqs.length)
include h

@[simp] theorem modArb_sizes : (s.modArb res f).pool.reqs.length = s.pool.reqs.length ∧
    (s.modArb res f).link.reqs.length = s.link.reqs.length ∧ (s.modArb res f).bus.reqs.length = s.bus.reqs.length := by
  cases res <;> simp [State.modArb, h]

end

/-! ### The operations -/


@[simp] theorem State.endGrant_sizes (s : State) (res : Resource) (atEnd : List Nat) :
    (State.endGrant s res atEnd).pool.reqs.length = s.pool.reqs.length ∧
    (State.endGrant s res atEnd).link.reqs.length = s.link.reqs.length ∧
    (State.endGrant s res atEnd).bus.reqs.length = s.bus.reqs.length := by simp [State.endGrant]

@[simp] theorem sendFull_sizes (s : State) (src : BitVec 6) (kind : Byte) (base : Level) (detail : BitVec 24) (forced : Bool) :
    (sendFull s src kind base detail forced).badger.history.length = s.badger.history.length := by simp [sendFull]

@[simp] theorem sendMsg_sizes (s : State) (src : BitVec 6) (kind : Byte) (base : Level) (detail : Nat) :
    (sendMsg s src kind base detail).badger.history.length = s.badger.history.length := by simp [sendMsg]

@[simp] theorem raiseWith_sizes (s : State) (line : Fin 4) (cause : Nat) (detail : Nat) (message : W64) :
    ((raiseWith s line cause detail message).events.fifo.length ≤ 64 ↔ s.events.fifo.length ≤ 64) := by simp [raiseWith]

@[simp] theorem raiseEvent_sizes (s : State) (line : Fin 4) (cause : Nat) (detail : Nat) :
    ((raiseEvent s line cause detail).events.fifo.length ≤ 64 ↔ s.events.fifo.length ≤ 64) := by simp [raiseEvent]

@[simp] theorem countLoss_sizes (s : State) (r : Ring) (k : Nat) (newGap : Bool) :
    ((countLoss s r k newGap).1.events.fifo.length ≤ 64 ↔ s.events.fifo.length ≤ 64) := by simp [countLoss]

@[simp] theorem pendLoss_sizes (s : State) (r : Ring) (k : Nat) :
    ((pendLoss s r k).events.fifo.length ≤ 64 ↔ s.events.fifo.length ≤ 64) := by simp [pendLoss]

@[simp] theorem poolRefusal_sizes (s : State) (r : Ring) (k : Nat) :
    (poolRefusal s r k).badger.history.length = s.badger.history.length := by simp [poolRefusal]

@[simp] theorem appendSlots_sizes (s : State) (r : Ring) (xs : List Rec) :
    (appendSlots s r xs).badger.history.length = s.badger.history.length ∧
    ((appendSlots s r xs).events.fifo.length ≤ 64 ↔ s.events.fifo.length ≤ 64) := by simp [appendSlots]

@[simp] theorem storeNow_sizes (s : State) (r : Ring) (recs : List (List Byte)) :
    (storeNow s r recs).badger.history.length = s.badger.history.length ∧
    ((storeNow s r recs).events.fifo.length ≤ 64 ↔ s.events.fifo.length ≤ 64) := by simp [storeNow]

@[simp] theorem dropHead_sizes (s : State) (r : Ring) :
    ((dropHead s r).1.events.fifo.length ≤ 64 ↔ s.events.fifo.length ≤ 64) := by unfold dropHead; simp only []; (repeat' split) <;> simp_all

@[simp] theorem makeRoom_sizes (n : Nat) (s : State) (r : Ring) (k : Nat) :
    ((makeRoom n s r k).1.events.fifo.length ≤ 64 ↔ s.events.fifo.length ≤ 64) := by
  induction n generalizing s r with
  | zero => simp [makeRoom]
  | succ n ih => rw [makeRoom]; simp only []; split <;> split <;> simp [ih]

@[simp] theorem makeFit_sizes (s : State) (r : Ring) (recs : List (List Byte)) :
    (makeFit s r recs).1.badger.history.length = s.badger.history.length ∧
    ((makeFit s r recs).1.events.fifo.length ≤ 64 ↔ s.events.fifo.length ≤ 64) := by unfold makeFit; split <;> simp

@[simp] theorem putRecords_sizes (s : State) (r : Ring) (recs : List (List Byte)) :
    (putRecords s r recs).1.badger.history.length = s.badger.history.length ∧
    ((putRecords s r recs).1.events.fifo.length ≤ 64 ↔ s.events.fifo.length ≤ 64) := by
  unfold putRecords
  have h := makeFit_sizes s r recs
  generalize makeFit s r recs = x at h ⊢
  obtain ⟨t, o, p⟩ := x
  cases o <;> (simp only at h; simp [h])

@[simp] theorem checkDesc_sizes (s : State) (num : Nat) :
    (checkDesc s num).badger.history.length = s.badger.history.length := by unfold checkDesc; (repeat' split) <;> simp

@[simp] theorem eccTurn_sizes (s : State) (r : Ring) (k : Nat) :
    (eccTurn s r k).badger.history.length = s.badger.history.length := by simp [eccTurn]

@[simp] theorem popHead_sizes (s : State) (r : Ring) :
    (popHead s r).1.badger.history.length = s.badger.history.length := by unfold popHead; simp only []; (repeat' split) <;> simp_all

@[simp] theorem readBundles_sizes (fuel : Nat) (s : State) (num n : Nat) (acc : List (List Byte)) :
    (readBundles fuel s num n acc).1.badger.history.length = s.badger.history.length := by
  induction fuel generalizing s n acc with
  | zero => simp [readBundles]
  | succ fuel ih => rw [readBundles]; (repeat' split) <;> simp [ih]

@[simp] theorem stage_sizes (s : State) (src : HwSource) (recs : List (List Byte)) :
    ((stage s src recs).events.fifo.length ≤ 64 ↔ s.events.fifo.length ≤ 64) := by unfold stage; split <;> simp

@[simp] theorem countLost_sizes (s : State) (src : HwSource) (k : Nat) :
    (countLost s src k).eth.arp.length = s.eth.arp.length := by unfold countLost; split <;> simp

@[simp] theorem firstRecord_sizes (s : State) (src : HwSource) (x : Staged) (rest : List Staged) :
    (firstRecord s src x rest).badger.history.length = s.badger.history.length ∧
    ((firstRecord s src x rest).events.fifo.length ≤ 64 ↔ s.events.fifo.length ≤ 64) ∧
    (firstRecord s src x rest).eth.arp.length = s.eth.arp.length := by
  unfold firstRecord
  dsimp only
  split
  · simp
  next r _ =>
    have sizes := makeFit_sizes (checkDesc s (ringOfSource s src)) r x.recs
    have frame := makeFit_frame (checkDesc s (ringOfSource s src)) r x.recs
    generalize makeFit (checkDesc s (ringOfSource s src)) r x.recs = y at sizes frame ⊢
    obtain ⟨t, o, p⟩ := y
    dsimp only at sizes frame
    cases o with
    | none => simp [sizes, frame]
    | some r =>
      dsimp only
      split <;> simp [sizes, frame]


@[simp] theorem lastRecord_sizes (s : State) (src : HwSource) (x : Staged) (rest : List Staged) :
    (lastRecord s src x rest).eth.arp.length = s.eth.arp.length ∧
    (lastRecord s src x rest).badger.history.length = s.badger.history.length ∧
    ((lastRecord s src x rest).events.fifo.length ≤ 64 ↔ s.events.fifo.length ≤ 64) := by unfold lastRecord; simp only []; split <;> simp_all

@[simp] theorem writeStaged_sizes (s : State) (src : HwSource) :
    (writeStaged s src).eth.arp.length = s.eth.arp.length ∧
    (writeStaged s src).badger.history.length = s.badger.history.length ∧
    ((writeStaged s src).events.fifo.length ≤ 64 ↔ s.events.fifo.length ≤ 64) := by unfold writeStaged; (repeat' split) <;> simp

@[simp] theorem writeCaptured_sizes (s : State) (n : Ch) :
    (writeCaptured s n).badger.history.length = s.badger.history.length ∧
    ((writeCaptured s n).events.fifo.length ≤ 64 ↔ s.events.fifo.length ≤ 64) := by unfold writeCaptured; simp only []; (repeat' split) <;> simp_all

@[simp] theorem writeKept_sizes (s : State) :
    (writeKept s).badger.history.length = s.badger.history.length ∧
    ((writeKept s).events.fifo.length ≤ 64 ↔ s.events.fifo.length ≤ 64) := by unfold writeKept; split <;> simp

@[simp] theorem servePort_sizes (s : State) (q : Nat) :
    (servePort s q).eth.arp.length = s.eth.arp.length ∧
    (servePort s q).badger.history.length = s.badger.history.length ∧
    ((servePort s q).events.fifo.length ≤ 64 ↔ s.events.fifo.length ≤ 64) := by unfold servePort; split <;> simp

@[simp] theorem grantPort_sizes (s : State) (q cost : Nat) (extra : List Nat) :
    (grantPort s q cost extra).pool.reqs.length = s.pool.reqs.length ∧
    (grantPort s q cost extra).link.reqs.length = s.link.reqs.length ∧
    (grantPort s q cost extra).bus.reqs.length = s.bus.reqs.length := by simp [grantPort]

@[simp] theorem finishPort_sizes (s : State) (extra : List Nat) :
    (finishPort s extra).eth.arp.length = s.eth.arp.length ∧
    (finishPort s extra).badger.history.length = s.badger.history.length ∧
    ((finishPort s extra).events.fifo.length ≤ 64 ↔ s.events.fifo.length ≤ 64) ∧
    (finishPort s extra).pool.reqs.length = s.pool.reqs.length ∧
    (finishPort s extra).link.reqs.length = s.link.reqs.length ∧
    (finishPort s extra).bus.reqs.length = s.bus.reqs.length := by unfold finishPort; split <;> simp

@[simp] theorem portTurn_sizes (q n : Nat) (s : State) :
    (portTurn q n s).eth.arp.length = s.eth.arp.length ∧
    (portTurn q n s).badger.history.length = s.badger.history.length ∧
    ((portTurn q n s).events.fifo.length ≤ 64 ↔ s.events.fifo.length ≤ 64) ∧
    (portTurn q n s).pool.reqs.length = s.pool.reqs.length ∧
    (portTurn q n s).link.reqs.length = s.link.reqs.length ∧
    (portTurn q n s).bus.reqs.length = s.bus.reqs.length := by
  induction n generalizing s with
  | zero => simp [portTurn]
  | succ n ih =>
    rw [portTurn]; split
    · split <;> simp [ih]
    · simp

@[simp] theorem portGrant_sizes (q cost : Nat) (s : State) :
    (portGrant q cost s).eth.arp.length = s.eth.arp.length ∧
    (portGrant q cost s).badger.history.length = s.badger.history.length ∧
    ((portGrant q cost s).events.fifo.length ≤ 64 ↔ s.events.fifo.length ≤ 64) ∧
    (portGrant q cost s).pool.reqs.length = s.pool.reqs.length ∧
    (portGrant q cost s).link.reqs.length = s.link.reqs.length ∧
    (portGrant q cost s).bus.reqs.length = s.bus.reqs.length := by simp [portGrant]

@[simp] theorem portRest_sizes (q k : Nat) (s : State) :
    (portRest q k s).eth.arp.length = s.eth.arp.length ∧
    (portRest q k s).badger.history.length = s.badger.history.length ∧
    ((portRest q k s).events.fifo.length ≤ 64 ↔ s.events.fifo.length ≤ 64) ∧
    (portRest q k s).pool.reqs.length = s.pool.reqs.length ∧
    (portRest q k s).link.reqs.length = s.link.reqs.length ∧
    (portRest q k s).bus.reqs.length = s.bus.reqs.length := by simp [portRest]

@[simp] theorem storeBundles_sizes (n : Nat) (s : State) (num : Nat) (recs : List (List Byte)) :
    (storeBundles n s num recs).badger.history.length = s.badger.history.length ∧
    ((storeBundles n s num recs).events.fifo.length ≤ 64 ↔ s.events.fifo.length ≤ 64) := by
  induction n generalizing s recs with
  | zero => simp [storeBundles]
  | succ n ih =>
    rw [storeBundles]; split
    · simp
    · split <;> simp [ih]

@[simp] theorem appTurn_sizes (s : State) (r : Ring) (recs : List (List Byte)) :
    (appTurn s r recs).1.eth.arp.length = s.eth.arp.length ∧
    (appTurn s r recs).1.badger.history.length = s.badger.history.length ∧
    ((appTurn s r recs).1.events.fifo.length ≤ 64 ↔ s.events.fifo.length ≤ 64) ∧
    (appTurn s r recs).1.pool.reqs.length = s.pool.reqs.length ∧
    (appTurn s r recs).1.link.reqs.length = s.link.reqs.length ∧
    (appTurn s r recs).1.bus.reqs.length = s.bus.reqs.length := by unfold appTurn; simp only []; (repeat' split) <;> simp_all

@[simp] theorem doWriteRing_sizes (who : Requester) (num : Nat) (ty : Byte) (data : List Byte) (s : State) :
    (doWriteRing who num ty data s).eth.arp.length = s.eth.arp.length ∧
    (doWriteRing who num ty data s).badger.history.length = s.badger.history.length ∧
    ((doWriteRing who num ty data s).events.fifo.length ≤ 64 ↔ s.events.fifo.length ≤ 64) ∧
    (doWriteRing who num ty data s).pool.reqs.length = s.pool.reqs.length ∧
    (doWriteRing who num ty data s).link.reqs.length = s.link.reqs.length ∧
    (doWriteRing who num ty data s).bus.reqs.length = s.bus.reqs.length := by
  unfold doWriteRing; simp only []; split
  · simp
  · split
    · simp
    · rename_i r _
      split
      · simp
      · have h := appTurn_sizes (checkDesc s num) r (cutRecs r.recSize (data.length / r.recSize) data)
        generalize appTurn (checkDesc s num) r (cutRecs r.recSize (data.length / r.recSize) data) = y at h ⊢
        obtain ⟨t, o⟩ := y
        cases o <;> (simp only at h; simp [h])

@[simp] theorem readMarker_sizes (s : State) (who : Requester) (r : Ring) :
    (readMarker s who r).badger.history.length = s.badger.history.length := by
  unfold readMarker; extract_lets clear atHead
  cases atHead with
  | true =>
    simp only [if_true]
    split <;> (rename_i h; have h := congrArg Prod.fst h; simp only at h; simp [← h])
  | false => simp [clear]

@[simp] theorem doReadRing_sizes (who : Requester) (num room : Nat) (ty : Byte) (data : List Byte) (s : State) :
    (doReadRing who num room ty data s).badger.history.length = s.badger.history.length := by
  unfold doReadRing; extract_lets a b code
  split
  · simp [a]
  · split <;> simp [a]

@[simp] theorem pushGo_sizes (m : Master) (cont asHost : Bool) (s : State) :
    (pushGo m cont asHost s).eth.arp.length = s.eth.arp.length ∧
    (pushGo m cont asHost s).badger.history.length = s.badger.history.length ∧
    ((pushGo m cont asHost s).events.fifo.length ≤ 64 ↔ s.events.fifo.length ≤ 64) ∧
    (pushGo m cont asHost s).pool.reqs.length = s.pool.reqs.length ∧
    (pushGo m cont asHost s).link.reqs.length = s.link.reqs.length ∧
    (pushGo m cont asHost s).bus.reqs.length = s.bus.reqs.length := by unfold pushGo; simp only []; (repeat' split) <;> simp_all

@[simp] theorem popGo_sizes (m : Master) (asHost : Bool) (s : State) :
    (popGo m asHost s).badger.history.length = s.badger.history.length := by
  unfold popGo; simp only []; split
  · simp
  · rename_i r _
    have := popHead_sizes (checkDesc s (s.hamper.portOf m).popRing) r
    split
    · simp
    · split <;> simp_all

@[simp] theorem clampTrip_sizes (s : State) (n : Ch) (p : ClampPath) :
    (clampTrip s n p).badger.history.length = s.badger.history.length := by simp [clampTrip]

@[simp] theorem feReport_sizes (s : State) (n : Ch) :
    (feReport s n).badger.history.length = s.badger.history.length := by simp [feReport]

@[simp] theorem oscReport_sizes (s : State) (n : Ch) :
    (oscReport s n).badger.history.length = s.badger.history.length := by simp [oscReport]

@[simp] theorem closeSegment_sizes (s : State) (n : Ch) :
    ((closeSegment s n).events.fifo.length ≤ 64 ↔ s.events.fifo.length ≤ 64) := by unfold closeSegment; simp only []; (repeat' split) <;> simp_all

@[simp] theorem stageWords_sizes (s : State) (src : HwSource) (ws : List Word) :
    ((stageWords s src ws).events.fifo.length ≤ 64 ↔ s.events.fifo.length ≤ 64) := by unfold stageWords; split <;> simp

@[simp] theorem streamTick_sizes (s : State) (n : Ch) :
    ((streamTick s n).events.fifo.length ≤ 64 ↔ s.events.fifo.length ≤ 64) := by simp [streamTick]

@[simp] theorem auxDeliver_sizes (s : State) (j : AuxJob) (code : W16) (refNr : Bool) :
    ((auxDeliver s j code refNr).events.fifo.length ≤ 64 ↔ s.events.fifo.length ≤ 64) := by unfold auxDeliver; (repeat' split) <;> simp

@[simp] theorem writeResult_sizes (s : State) (n : Ch) (short : Bool) :
    ((writeResult s n short).events.fifo.length ≤ 64 ↔ s.events.fifo.length ≤ 64) := by unfold writeResult; simp only []; split <;> simp_all

@[simp] theorem markEvent_sizes (s : State) (n : Ch) (r : StepRec) :
    ((markEvent s n r).events.fifo.length ≤ 64 ↔ s.events.fifo.length ≤ 64) := by simp [markEvent]

@[simp] theorem listEnd_sizes (s : State) (n : Ch) (reason : Nat) (code : Byte) :
    ((listEnd s n reason code).events.fifo.length ≤ 64 ↔ s.events.fifo.length ≤ 64) := by simp [listEnd]

@[simp] theorem listCut_sizes (s : State) (n : Ch) (reason : Nat) :
    ((listCut s n reason).events.fifo.length ≤ 64 ↔ s.events.fifo.length ≤ 64) := by unfold listCut; simp only []; (repeat' split) <;> simp_all

@[simp] theorem stepEnd_sizes (s : State) (n : Ch) (write short : Bool) :
    ((stepEnd s n write short).events.fifo.length ≤ 64 ↔ s.events.fifo.length ≤ 64) := by unfold stepEnd; simp only []; split <;> simp_all

@[simp] theorem stepAt_sizes (s : State) (r : Ring) (k : Nat) :
    (stepAt s r k).1.badger.history.length = s.badger.history.length := by unfold stepAt; split <;> simp

@[simp] theorem nextStep_sizes (s : State) (n : Ch) :
    (nextStep s n).1.badger.history.length = s.badger.history.length := by
  unfold nextStep; simp only []; split
  · simp
  · rename_i r _
    split
    · simp
    · split
      · simp
      · have h := stepAt_sizes (checkDesc s (s.chan n).sweep.listRing) r 0
        split
        · rename_i t q e; rw [e] at h; simp at h; simp [h]
        · simp [h]

@[simp] theorem runStep_sizes (s : State) (n : Ch) (r : StepRec) :
    ((runStep s n r).events.fifo.length ≤ 64 ↔ s.events.fifo.length ≤ 64) := by simp [runStep]

@[simp] theorem missTrigger_sizes (s : State) (n : Ch) :
    ((missTrigger s n).events.fifo.length ≤ 64 ↔ s.events.fifo.length ≤ 64) := by simp [missTrigger]

@[simp] theorem advance_sizes (s : State) (n : Ch) :
    ((advance s n).events.fifo.length ≤ 64 ↔ s.events.fifo.length ≤ 64) := by unfold advance; simp only []; (repeat' split) <;> simp_all

@[simp] theorem setMode_sizes (s : State) (n : Ch) (m : Mode) :
    ((setMode s n m).events.fifo.length ≤ 64 ↔ s.events.fifo.length ≤ 64) := by simp [setMode]

@[simp] theorem enterOff_sizes (s : State) (n : Ch) (why : OffReason) :
    ((enterOff s n why).events.fifo.length ≤ 64 ↔ s.events.fifo.length ≤ 64) := by simp [enterOff]

@[simp] theorem tripChannel_sizes (s : State) (n : Ch) :
    ((tripChannel s n).events.fifo.length ≤ 64 ↔ s.events.fifo.length ≤ 64) := by unfold tripChannel; simp only []; (repeat' split) <;> simp_all

@[simp] theorem allOff_sizes (s : State) (fault : Bool) :
    ((allOff s fault).events.fifo.length ≤ 64 ↔ s.events.fifo.length ≤ 64) := by simp [allOff]

@[simp] theorem enterMode_sizes (s : State) (n : Ch) (m : Mode) :
    ((enterMode s n m).events.fifo.length ≤ 64 ↔ s.events.fifo.length ≤ 64) := by simp [enterMode]

@[simp] theorem startRamp_sizes (s : State) (n : Ch) (target : Mode) (why : OffReason) :
    ((startRamp s n target why).events.fifo.length ≤ 64 ↔ s.events.fifo.length ≤ 64) := by simp [startRamp]

@[simp] theorem rampToIdle_sizes (s : State) (n : Ch) :
    ((rampToIdle s n).events.fifo.length ≤ 64 ↔ s.events.fifo.length ≤ 64) := by simp [rampToIdle]

@[simp] theorem rampTick_sizes (s : State) (n : Ch) :
    ((rampTick s n).events.fifo.length ≤ 64 ↔ s.events.fifo.length ≤ 64) := by simp [rampTick]

@[simp] theorem settleIdle_sizes (s : State) (n : Ch) (why : OffReason) :
    ((settleIdle s n why).events.fifo.length ≤ 64 ↔ s.events.fifo.length ≤ 64) := by simp [settleIdle]

@[simp] theorem enterMeter_sizes (s : State) (n : Ch) :
    ((enterMeter s n).events.fifo.length ≤ 64 ↔ s.events.fifo.length ≤ 64) := by simp [enterMeter]

@[simp] theorem applyMode_sizes (s : State) (n : Ch) :
    ((applyMode s n).events.fifo.length ≤ 64 ↔ s.events.fifo.length ≤ 64) := by unfold applyMode; simp only []; (repeat' split) <;> simp_all

@[simp] theorem revoke_sizes (s : State) (n : Ch) :
    ((revoke s n).events.fifo.length ≤ 64 ↔ s.events.fifo.length ≤ 64) := by unfold revoke; simp only []; (repeat' split) <;> simp_all

@[simp] theorem limitTick_sizes (s : State) (n : Ch) :
    ((limitTick s n).events.fifo.length ≤ 64 ↔ s.events.fifo.length ≤ 64) := by unfold limitTick; simp only []; (repeat' split) <;> simp_all

@[simp] theorem changeLimits_sizes (s : State) (n : Ch) (f : Limits → Limits) :
    ((changeLimits s n f).events.fifo.length ≤ 64 ↔ s.events.fifo.length ≤ 64) := by simp [changeLimits]

@[simp] theorem rangeEnd_sizes (s : State) (n : Ch) :
    ((rangeEnd s n).events.fifo.length ≤ 64 ↔ s.events.fifo.length ≤ 64) := by simp [rangeEnd]

@[simp] theorem rangeFollowUp_sizes (s : State) (n : Ch) :
    ((rangeFollowUp s n).events.fifo.length ≤ 64 ↔ s.events.fifo.length ≤ 64) := by unfold rangeFollowUp; simp only []; split <;> simp_all

@[simp] theorem overrun_sizes (s : State) (n : Ch) (x : Inputs) (flags : Byte) (start stop : Nat) :
    (overrun s n x flags start stop).badger.history.length = s.badger.history.length ∧
    ((overrun s n x flags start stop).events.fifo.length ≤ 64 ↔ s.events.fifo.length ≤ 64) := by simp [overrun]

section
variable (d : Nat) (due : Bool) (cost : Nat) (act : State → State) (x : State × Nat × Bool)

@[simp] theorem occasional_history_length (h : ∀ s, (act s).badger.history.length = s.badger.history.length) :
    (occasional d due cost act x).1.badger.history.length = x.1.badger.history.length := by
  unfold occasional
  repeat' split
  all_goals simp [h]

@[simp] theorem occasional_fifo_le (h : ∀ s, (act s).events.fifo.length ≤ 64 ↔ s.events.fifo.length ≤ 64) :
    (occasional d due cost act x).1.events.fifo.length ≤ 64 ↔ x.1.events.fifo.length ≤ 64 := by
  unfold occasional
  repeat' split
  all_goals simp [h]

end

@[simp] theorem serveChannel_sizes (s : State) (n : Ch) (cyc : Nat) : (serveChannel s n cyc).1.badger.history.length =
    s.badger.history.length ∧ ((serveChannel s n cyc).1.events.fifo.length ≤ 64 ↔ s.events.fifo.length ≤ 64) := by
  unfold serveChannel
  dsimp only
  split
  · simp
  · split <;> simp

@[simp] theorem serveTurn_sizes (n : Ch) (x : State × Nat) : (serveTurn n x).1.badger.history.length =
    x.1.badger.history.length ∧ ((serveTurn n x).1.events.fifo.length ≤ 64 ↔ x.1.events.fifo.length ≤ 64) := by
  unfold serveTurn
  repeat' split
  all_goals simp


@[simp] theorem engineService_sizes (s : State) (e : Eng) : (engineService s e).badger.history.length =
    s.badger.history.length ∧ ((engineService s e).events.fifo.length ≤ 64 ↔ s.events.fifo.length ≤ 64) := by
  unfold engineService
  dsimp only
  split <;> simp


@[simp] theorem profileTick_sizes (s : State) (n : Ch) (g : F64) :
    ((profileTick s n g).events.fifo.length ≤ 64 ↔ s.events.fifo.length ≤ 64) := by simp [profileTick]

@[simp] theorem followTick_sizes (s : State) (n : Ch) :
    ((followTick s n).events.fifo.length ≤ 64 ↔ s.events.fifo.length ≤ 64) := by simp [followTick]

@[simp] theorem spTick_sizes (s : State) (n : Ch) :
    ((spTick s n).events.fifo.length ≤ 64 ↔ s.events.fifo.length ≤ 64) := by unfold spTick; simp only []; (repeat' split) <;> simp_all

@[simp] theorem channelTick_sizes (s : State) (n : Ch) (w : ChanWin) (refNr : Bool) :
    ((channelTick s n w refNr).events.fifo.length ≤ 64 ↔ s.events.fifo.length ≤ 64) := by simp [channelTick]

@[simp] theorem removeSession_sizes (s : State) (i : Fin 8) (how : Nat) :
    ((removeSession s i how).events.fifo.length ≤ 64 ↔ s.events.fifo.length ≤ 64) := by simp [removeSession]

@[simp] theorem removeSessions_sizes (s : State) :
    ((removeSessions s).events.fifo.length ≤ 64 ↔ s.events.fifo.length ≤ 64) := by simp [removeSessions]

@[simp] theorem setDevice_sizes (s : State) (d : DeviceState) :
    ((setDevice s d).events.fifo.length ≤ 64 ↔ s.events.fifo.length ≤ 64) := by simp [setDevice]

@[simp] theorem coreReleased_lines (s : State) : (coreReleased s).xip.lines = [] := by simp [coreReleased]


@[simp] theorem enterRun_sizes (s : State) :
    ((enterRun s).events.fifo.length ≤ 64 ↔ s.events.fifo.length ≤ 64) ∧
    (enterRun s).xip.lines = [] := by simp [enterRun]

@[simp] theorem enterQuiet_sizes (s : State) (d : DeviceState) :
    ((enterQuiet s d).events.fifo.length ≤ 64 ↔ s.events.fifo.length ≤ 64) := by simp [enterQuiet]

@[simp] theorem enterHalt_sizes (s : State) (message : W64) (refFault : Bool) :
    ((enterHalt s message refFault).events.fifo.length ≤ 64 ↔ s.events.fifo.length ≤ 64) := by simp [enterHalt]

@[simp] theorem haltNow_sizes (s : State) (src : BitVec 6) (kind : Byte) (detail : Nat) :
    (haltNow s src kind detail).badger.history.length = s.badger.history.length ∧
    ((haltNow s src kind detail).events.fifo.length ≤ 64 ↔ s.events.fifo.length ≤ 64) := by simp [haltNow]

@[simp] theorem freeSems_sizes (s : State) :
    (freeSems s).badger.history.length = s.badger.history.length := by unfold freeSems; simp only []; (repeat' split) <;> simp_all

@[simp] theorem coreReset_sizes (s : State) :
    (coreReset s).badger.history.length = s.badger.history.length ∧
    ((coreReset s).events.fifo.length ≤ 64 ↔ s.events.fifo.length ≤ 64) := by unfold coreReset; simp only []; (repeat' split) <;> simp_all

@[simp] theorem recordImages_lines (s : State) (x0 x1 : FlashImage) : (recordImages s x0 x1).xip.lines = s.xip.lines := rfl


@[simp] theorem beginLockout_sizes (s : State) (len : Nat) :
    ((beginLockout s len).events.fifo.length ≤ 64 ↔ s.events.fifo.length ≤ 64) := by simp [beginLockout]

@[simp] theorem noRecord_sizes (s : State) (st : RecordState) :
    (noRecord s st).badger.history.length = s.badger.history.length := by simp [noRecord]

@[simp] theorem applyRecord_sizes (s : State) (r : RecordObs) :
    (applyRecord s r).badger.history.length = s.badger.history.length := by unfold applyRecord; split <;> simp

@[simp] theorem State.flashWritten_lines (s : State) : s.flashWritten.xip.lines = [] := rfl


@[simp] theorem saveDone_sizes (s : State) :
    ((saveDone s).events.fifo.length ≤ 64 ↔ s.events.fifo.length ≤ 64) := by unfold saveDone; split <;> simp

@[simp] theorem saveDone_lines {s : State} (h : s.xip.lines.length ≤ 4) :
    (saveDone s).xip.lines.length ≤ 4 := by
  unfold saveDone
  split <;> simp [h]

@[simp] theorem lockoutDefault_sizes (s : State) :
    ((lockoutDefault s).events.fifo.length ≤ 64 ↔ s.events.fifo.length ≤ 64) := by simp [lockoutDefault]

@[simp] theorem probeFlash_sizes (s : State) (read1 read2 : List Byte) :
    (probeFlash s read1 read2).xip.lines = s.xip.lines := by
  unfold probeFlash
  dsimp only
  split <;> simp


@[simp] theorem clockFails_sizes (m : Monitor) (count : Byte) (s : State) :
    (clockFails m count s).clk.rate = s.clk.rate ∧
    (clockFails m count s).badger.history.length = s.badger.history.length ∧
    ((clockFails m count s).events.fifo.length ≤ 64 ↔ s.events.fifo.length ≤ 64) := by
  unfold clockFails clockFails.react
  dsimp only
  repeat' split
  all_goals simp


@[simp] theorem refFails_sizes (mon : W16) (s : State) :
    (refFails mon s).badger.history.length = s.badger.history.length := by simp [refFails]

@[simp] theorem wdtExpire_sizes (s : State) :
    (wdtExpire s).badger.history.length = s.badger.history.length ∧
    ((wdtExpire s).events.fifo.length ≤ 64 ↔ s.events.fifo.length ≤ 64) := by simp [wdtExpire]

@[simp] theorem writeLockout_lines (s : State) : (writeLockout s).xip.lines = [] := by simp [writeLockout]


@[simp] theorem endTest_sizes (s : State) :
    (endTest s).badger.history.length = s.badger.history.length := by simp [endTest]

@[simp] theorem lockInstr_sizes (s : State) :
    (lockInstr s).badger.history.length = s.badger.history.length ∧
    ((lockInstr s).events.fifo.length ≤ 64 ↔ s.events.fifo.length ≤ 64) := by simp [lockInstr]

@[simp] theorem unlockOk_sizes (s : State) (code : List Byte) :
    ((unlockOk s code).events.fifo.length ≤ 64 ↔ s.events.fifo.length ≤ 64) := by simp [unlockOk]

@[simp] theorem unlockOk_lines {s : State} (code : List Byte) (h : s.xip.lines.length ≤ 4) :
    (unlockOk s code).xip.lines.length ≤ 4 := by
  simp [unlockOk, h]

@[simp] theorem unlockWrong_sizes (s : State) :
    ((unlockWrong s).events.fifo.length ≤ 64 ↔ s.events.fifo.length ≤ 64) := by simp [unlockWrong]

@[simp] theorem unlockWrong_lines {s : State} (h : s.xip.lines.length ≤ 4) :
    (unlockWrong s).xip.lines.length ≤ 4 := by
  simp [unlockWrong, h]

@[simp] theorem protViolation_sizes (s : State) (addr : Nat) :
    (protViolation s addr).badger.history.length = s.badger.history.length := by simp [protViolation]

@[simp] theorem claimLock_sizes (s : State) (n : Ch) (who : Requester) :
    ((claimLock s n who).events.fifo.length ≤ 64 ↔ s.events.fifo.length ≤ 64) := by
  unfold claimLock; split
  · simp
  · cases who <;> simp

@[simp] theorem mgmtRevoke_sizes (s : State) :
    (mgmtRevoke s).badger.history.length = s.badger.history.length ∧
    ((mgmtRevoke s).events.fifo.length ≤ 64 ↔ s.events.fifo.length ≤ 64) := by unfold mgmtRevoke; simp only []; (repeat' split) <;> simp_all

@[simp] theorem react_sizes (s : State) (m : Msg) (a : Level) :
    ((react s m a).events.fifo.length ≤ 64 ↔ s.events.fifo.length ≤ 64) := by unfold react; split <;> simp

@[simp] theorem injectAt_sizes (s : State) (target arg value : Nat) :
    (injectAt s target arg value).clk.rate = s.clk.rate ∧
    (injectAt s target arg value).badger.history.length = s.badger.history.length ∧
    ((injectAt s target arg value).events.fifo.length ≤ 64 ↔ s.events.fifo.length ≤ 64) := by unfold injectAt; (repeat' split) <;> simp

@[simp] theorem leaveLocked_sizes (s : State) (next : TimeState) :
    (leaveLocked s next).badger.history.length = s.badger.history.length := by simp [leaveLocked]

@[simp] theorem activeChanged_sizes (s : State) (p : Port) :
    (activeChanged s p).badger.history.length = s.badger.history.length := by simp [activeChanged]

@[simp] theorem portActive_sizes (s : State) (p : Port) :
    (portActive s p).badger.history.length = s.badger.history.length := by simp [portActive]

@[simp] theorem portDown_sizes (s : State) (p : Port) (cause : Nat) :
    (portDown s p cause).badger.history.length = s.badger.history.length := by simp [portDown]

@[simp] theorem failFrame_sizes (s : State) (p : Port) :
    (failFrame s p).badger.history.length = s.badger.history.length := by simp [failFrame]

@[simp] theorem resend_sizes (s : State) (p : Port) (express : Bool) :
    (resend s p express).badger.history.length = s.badger.history.length := by unfold resend; simp only []; split <;> simp_all

@[simp] theorem enumFinish_sizes (s : State) :
    (enumFinish s).badger.history.length = s.badger.history.length := by simp [enumFinish]

@[simp] theorem enumNext_sizes (s : State) :
    (enumNext s).badger.history.length = s.badger.history.length := by unfold enumNext; simp only []; split <;> simp_all

@[simp] theorem enumBegin_sizes (s : State) (offered level : Nat) (admitIt : Bool) (gen : W16) :
    (enumBegin s offered level admitIt gen).badger.history.length = s.badger.history.length := by simp [enumBegin]

@[simp] theorem enumRoot_sizes (s : State) :
    (enumRoot s).badger.history.length = s.badger.history.length := by simp [enumRoot]

@[simp] theorem takeAssign_sizes (s : State) (id : W16) (level : Byte) (admitIt : Bool) (gen : W16) :
    (takeAssign s id level admitIt gen).badger.history.length = s.badger.history.length := by simp [takeAssign]

@[simp] theorem takeDone_sizes (s : State) (p : Port) (next unadmitted : W16) :
    (takeDone s p next unadmitted).badger.history.length = s.badger.history.length := by simp [takeDone]

@[simp] theorem setRate_sizes (s : State) (x : Int) :
    (setRate s x).badger.history.length = s.badger.history.length := by simp [setRate]

@[simp] theorem stepTime_sizes (s : State) (offset : Int) :
    (stepTime s offset).badger.history.length = s.badger.history.length := by simp [stepTime]

@[simp] theorem slewTime_sizes (s : State) (o : Q) :
    (slewTime s o).badger.history.length = s.badger.history.length := by simp [slewTime]

@[simp] theorem childExchange_sizes (s : State) (t1 t2 t3 t4 : W64) (parentLocked : Bool) :
    (childExchange s t1 t2 t3 t4 parentLocked).badger.history.length = s.badger.history.length := by simp [childExchange]

@[simp] theorem storeTrig_sizes (s : State) (t : SchedTrig) :
    (storeTrig s t).badger.history.length = s.badger.history.length := by simp [storeTrig]

@[simp] theorem issueTrig_sizes (s : State) (t : SchedTrig) :
    (issueTrig s t).badger.history.length = s.badger.history.length := by simp [issueTrig]

@[simp] theorem takeTrig_sizes (s : State) (p : Port) (t : SchedTrig) (bytes : List Byte) :
    (takeTrig s p t bytes).badger.history.length = s.badger.history.length := by simp [takeTrig]

@[simp] theorem fireChannel_sizes (s : State) (n : Ch) (src : Nat) :
    ((fireChannel s n src).events.fifo.length ≤ 64 ↔ s.events.fifo.length ≤ 64) := by simp [fireChannel]

@[simp] theorem issueTemplate_sizes (s : State) :
    (issueTemplate s).badger.history.length = s.badger.history.length := by simp [issueTemplate]

@[simp] theorem writeResponse_sizes (s : State) (resp : Bool) (recs : List (List Byte)) :
    (writeResponse s resp recs).badger.history.length = s.badger.history.length ∧
    ((writeResponse s resp recs).events.fifo.length ≤ 64 ↔ s.events.fifo.length ≤ 64) ∧
    (writeResponse s resp recs).eth.arp.length = s.eth.arp.length ∧
    (writeResponse s resp recs).pool.reqs.length = s.pool.reqs.length ∧
    (writeResponse s resp recs).link.reqs.length = s.link.reqs.length ∧
    (writeResponse s resp recs).bus.reqs.length = s.bus.reqs.length := by
  unfold writeResponse
  dsimp only
  split
  · simp
  · split
    next q _ =>
      split
      next r _ =>
        have sizes := putRecords_sizes (portGrant reqFsp (if q.pendLoss = 0 then 1 else 2) (checkDesc s s.fsp.respRing)) r recs
        have frame := putRecords_frame (portGrant reqFsp (if q.pendLoss = 0 then 1 else 2) (checkDesc s s.fsp.respRing)) r recs
        generalize putRecords (portGrant reqFsp (if q.pendLoss = 0 then 1 else 2) (checkDesc s s.fsp.respRing)) r recs = y at sizes frame ⊢
        obtain ⟨t, p⟩ := y
        dsimp only at sizes frame
        cases p <;> simp [sizes, frame]
      next => simp
    next => simp


@[simp] theorem removeEntry_sizes (s : State) :
    (removeEntry s).badger.history.length = s.badger.history.length := by unfold removeEntry; simp only []; split <;> simp_all

@[simp] theorem afterFlash_lines {s : State} (e : Entry) (attempts : Nat) (h : s.xip.lines.length ≤ 4) :
    (afterFlash s e attempts).xip.lines.length ≤ 4 := by
  unfold afterFlash
  split <;> simp [h]


@[simp] theorem completeEntry_sizes (s : State) (e : Entry) (result : Byte) (attempts : Nat) (rx : List Byte) :
    (completeEntry s e result attempts rx).eth.arp.length = s.eth.arp.length ∧
    (completeEntry s e result attempts rx).badger.history.length = s.badger.history.length ∧
    ((completeEntry s e result attempts rx).events.fifo.length ≤ 64 ↔ s.events.fifo.length ≤ 64) ∧
    (completeEntry s e result attempts rx).pool.reqs.length = s.pool.reqs.length ∧
    (completeEntry s e result attempts rx).link.reqs.length = s.link.reqs.length ∧
    (completeEntry s e result attempts rx).bus.reqs.length = s.bus.reqs.length := by simp [completeEntry]

@[simp] theorem completeEntry_lines {s : State} (e : Entry) (result : Byte) (attempts : Nat) (rx : List Byte) (h : s.xip.lines.length ≤ 4) :
    (completeEntry s e result attempts rx).xip.lines.length ≤ 4 := by
  simp [completeEntry, h]

@[simp] theorem blockEntry_sizes (s : State) (e : Entry) (op : Byte) :
    (blockEntry s e op).eth.arp.length = s.eth.arp.length ∧
    (blockEntry s e op).badger.history.length = s.badger.history.length ∧
    ((blockEntry s e op).events.fifo.length ≤ 64 ↔ s.events.fifo.length ≤ 64) ∧
    (blockEntry s e op).pool.reqs.length = s.pool.reqs.length ∧
    (blockEntry s e op).link.reqs.length = s.link.reqs.length ∧
    (blockEntry s e op).bus.reqs.length = s.bus.reqs.length := by simp [blockEntry]

@[simp] theorem blockEntry_lines {s : State} (e : Entry) (op : Byte) (h : s.xip.lines.length ≤ 4) :
    (blockEntry s e op).xip.lines.length ≤ 4 := by
  unfold blockEntry
  dsimp only
  split <;> simp [h]

@[simp] theorem attemptFailed_sizes (s : State) (e : Entry) (why : AttemptFail) :
    (attemptFailed s e why).eth.arp.length = s.eth.arp.length ∧
    (attemptFailed s e why).badger.history.length = s.badger.history.length ∧
    ((attemptFailed s e why).events.fifo.length ≤ 64 ↔ s.events.fifo.length ≤ 64) ∧
    (attemptFailed s e why).pool.reqs.length = s.pool.reqs.length ∧
    (attemptFailed s e why).link.reqs.length = s.link.reqs.length ∧
    (attemptFailed s e why).bus.reqs.length = s.bus.reqs.length := by simp [attemptFailed]

@[simp] theorem attemptFailed_lines {s : State} (e : Entry) (why : AttemptFail) (h : s.xip.lines.length ≤ 4) :
    (attemptFailed s e why).xip.lines.length ≤ 4 := by
  unfold attemptFailed
  split <;> simp [h]

@[simp] theorem dropFill_lines {s : State} (l : Nat) (h : s.xip.lines.length ≤ 4) :
    (dropFill s l).xip.lines.length ≤ 4 := by
  simp [dropFill, h]


@[simp] theorem failAccess_sizes (s : State) :
    (failAccess s).badger.history.length = s.badger.history.length := by simp [failAccess]

@[simp] theorem abortGrant_sizes (s : State) :
    (abortGrant s).bus.reqs.length = s.bus.reqs.length := by simp [abortGrant]

@[simp] theorem abortGrant_lines {s : State} (h : s.xip.lines.length ≤ 4) :
    (abortGrant s).xip.lines.length ≤ 4 := by
  simp [abortGrant, h]

@[simp] theorem beginFill_lines {s : State} (l : Nat) (h : s.xip.lines.length ≤ 4) :
    (beginFill s l).xip.lines.length ≤ 4 := by
  simp [beginFill, h]


@[simp] theorem beginBus_lines {s : State} (q : Nat) (h : s.xip.lines.length ≤ 4) :
    (beginBus s q).xip.lines.length ≤ 4 := by
  unfold beginBus
  split
  · simpa using h
  · split
    · exact beginFill_lines _ h
    · exact beginFill_lines _ (by simpa using h)
    · exact h
  · exact h


@[simp] theorem clearMaxWait_sizes (s : State) (res : Resource) (q : Nat) :
    (clearMaxWait s res q).pool.reqs.length = s.pool.reqs.length ∧
    (clearMaxWait s res q).link.reqs.length = s.link.reqs.length ∧
    (clearMaxWait s res q).bus.reqs.length = s.bus.reqs.length := by simp [clearMaxWait]

@[simp] theorem setRefOut_sizes (s : State) (on : Bool) :
    (setRefOut s on).clk.rate = s.clk.rate ∧
    (setRefOut s on).eth.arp.length = s.eth.arp.length :=  ⟨rfl, rfl⟩

@[simp] theorem frameToRing_sizes (s : State) (bytes : List Byte) :
    ((frameToRing s bytes).1.events.fifo.length ≤ 64 ↔ s.events.fifo.length ≤ 64) := by unfold frameToRing; split <;> simp

@[simp] theorem openSession_sizes (s : State) (ip : Word) (port entry : W16) (timeout : Nat) :
    ((openSession s ip port entry timeout).1.events.fifo.length ≤ 64 ↔ s.events.fifo.length ≤ 64) := by unfold openSession; (repeat' split) <;> simp

@[simp] theorem closeSession_sizes (s : State) (sid : W16) :
    ((closeSession s sid).events.fifo.length ≤ 64 ↔ s.events.fifo.length ≤ 64) := by unfold closeSession; split <;> simp

@[simp] theorem afterRead_sizes (r : Reg) (m : Master) (addr : Nat) (s : State) :
    (afterRead r m addr s).clk.rate = s.clk.rate ∧
    (afterRead r m addr s).badger.history.length = s.badger.history.length := by unfold afterRead; (repeat' split) <;> simp

@[simp] theorem sessCommand_sizes (op : Nat) (sid : W16) (s : State) :
    ((sessCommand op sid s).events.fifo.length ≤ 64 ↔ s.events.fifo.length ≤ 64) := by unfold sessCommand; split <;> simp

@[simp] theorem takeCommand_sizes (s : State) (slots : Nat) :
    (takeCommand s slots).1.badger.history.length = s.badger.history.length := by unfold takeCommand; (repeat' split) <;> simp

@[simp] theorem enqueue_sizes (s : State) (q : Request) (bytes : List Byte) (o : Origin) :
    (enqueue s q bytes o).eth.arp.length = s.eth.arp.length ∧
    (enqueue s q bytes o).badger.history.length = s.badger.history.length ∧
    ((enqueue s q bytes o).events.fifo.length ≤ 64 ↔ s.events.fifo.length ≤ 64) ∧
    (enqueue s q bytes o).pool.reqs.length = s.pool.reqs.length ∧
    (enqueue s q bytes o).link.reqs.length = s.link.reqs.length ∧
    (enqueue s q bytes o).bus.reqs.length = s.bus.reqs.length := by
  unfold enqueue; simp only []; split
  · rename_i r _
    have h := appTurn_sizes s r (datagramRecs bytes)
    generalize appTurn s r (datagramRecs bytes) = y at h ⊢
    obtain ⟨t, o⟩ := y
    cases o <;> (simp only at h; simp [h])
  · simp

@[simp] theorem admitRop_sizes (s : State) (q : Request) (bytes : List Byte) (o : Origin) (x : Option Session) :
    (admitRop s q bytes o x).eth.arp.length = s.eth.arp.length ∧
    (admitRop s q bytes o x).badger.history.length = s.badger.history.length ∧
    ((admitRop s q bytes o x).events.fifo.length ≤ 64 ↔ s.events.fifo.length ≤ 64) ∧
    (admitRop s q bytes o x).pool.reqs.length = s.pool.reqs.length ∧
    (admitRop s q bytes o x).link.reqs.length = s.link.reqs.length ∧
    (admitRop s q bytes o x).bus.reqs.length = s.bus.reqs.length := by unfold admitRop; split <;> simp

@[simp] theorem accept_sizes (s : State) (q : Request) (bytes : List Byte) (o : Origin) :
    (accept s q bytes o).eth.arp.length = s.eth.arp.length ∧
    (accept s q bytes o).badger.history.length = s.badger.history.length ∧
    ((accept s q bytes o).events.fifo.length ≤ 64 ↔ s.events.fifo.length ≤ 64) ∧
    (accept s q bytes o).pool.reqs.length = s.pool.reqs.length ∧
    (accept s q bytes o).link.reqs.length = s.link.reqs.length ∧
    (accept s q bytes o).bus.reqs.length = s.bus.reqs.length := by unfold accept; simp only []; (repeat' split) <;> simp_all

@[simp] theorem takeDatagram_sizes (s : State) (peer : Peer) (broadcast : Bool) (bytes : List Byte) :
    (takeDatagram s peer broadcast bytes).eth.arp.length = s.eth.arp.length ∧
    (takeDatagram s peer broadcast bytes).badger.history.length = s.badger.history.length ∧
    ((takeDatagram s peer broadcast bytes).events.fifo.length ≤ 64 ↔ s.events.fifo.length ≤ 64) ∧
    (takeDatagram s peer broadcast bytes).pool.reqs.length = s.pool.reqs.length ∧
    (takeDatagram s peer broadcast bytes).link.reqs.length = s.link.reqs.length ∧
    (takeDatagram s peer broadcast bytes).bus.reqs.length = s.bus.reqs.length := by unfold takeDatagram; split <;> simp

@[simp] theorem badRequest_sizes (s : State) :
    (badRequest s).badger.history.length = s.badger.history.length ∧
    ((badRequest s).events.fifo.length ≤ 64 ↔ s.events.fifo.length ≤ 64) := by unfold badRequest; simp only []; split <;> simp_all

@[simp] theorem flashAltered_lines (s : State) (op3 op4 : Byte) (off : Nat) (data : List Byte) :
    (flashAltered s op3 op4 off data).xip.lines = [] := by simp [flashAltered]


/-! ### The trim, the history and resets -/

/-- The trim is within its limits (R67). -/
def Clocks.TrimFits (c : Clocks) : Prop := -858993 ≤ c.rate ∧ c.rate ≤ 858993

theorem clampInt_trimFits (x : Int) : -858993 ≤ clampInt (-858993) 858993 x ∧ clampInt (-858993) 858993 x ≤ 858993 := by
  unfold clampInt
  repeat' split
  all_goals omega

theorem setRate_trimFits (s : State) (x : Int) : (setRate s x).clk.TrimFits := by
  simpa [Clocks.TrimFits, setRate] using clampInt_trimFits x

theorem slewTime_trimFits (s : State) (o : Q) : (slewTime s o).clk.TrimFits := setRate_trimFits _ _

@[simp] theorem stepTime_rate (s : State) (offset : Int) : (stepTime s offset).clk.rate = s.clk.rate := by simp [stepTime]

theorem childExchange_trimFits {s : State} (t1 t2 t3 t4 : W64) (parentLocked : Bool) (h : s.clk.TrimFits) :
    (childExchange s t1 t2 t3 t4 parentLocked).clk.TrimFits := by
  unfold childExchange
  dsimp only
  split
  · simpa [Clocks.TrimFits] using h
  · simpa using slewTime_trimFits _ _

/-- The history takes a message at its front and keeps 32 (R592). -/
theorem store_history_length (b : Badger) (m : Msg) (level : Level) (count : Nat) : (b.store m level count).history.length ≤ 32 := by
  simp [Badger.store]

theorem classify_sizes (s : State) (m : Msg) : (classify s m).badger.history.length ≤ 32 ∧
    ((classify s m).events.fifo.length ≤ 64 ↔ s.events.fifo.length ≤ 64) := by
  constructor
  · unfold classify
    simp [store_history_length]
  · simp [classify]

theorem withinSizes_iff {s : State} : WithinSizes s ↔ s.clk.TrimFits ∧ s.events.fifo.length ≤ 64 ∧ s.badger.history.length ≤ 32 ∧
    s.eth.arp.length ≤ 16 ∧ s.xip.lines.length ≤ 4 ∧ s.pool.reqs.length = 13 ∧ s.link.reqs.length = 4 ∧ s.bus.reqs.length = 3 := by
  unfold WithinSizes Clocks.TrimFits
  simp only [and_assoc]

@[simp] theorem closeAll_history_length (b : Badger) : b.closeAll.history.length = b.history.length := by
  unfold Badger.closeAll
  generalize b.slots = slots
  induction slots generalizing b with
  | nil => rfl
  | cons x slots ih => simp [ih]

theorem afterReset_withinSizes {s : State} (aon : Bool) (h : s.badger.history.length ≤ 32) : WithinSizes (afterReset s aon) := by
  simp [WithinSizes, afterReset, h]
  decide

theorem enterReset_withinSizes {s : State} (cause : W16) (aon : Bool) (h : WithinSizes s) : WithinSizes (enterReset s cause aon) := by
  obtain ⟨-, -, history, -⟩ := withinSizes_iff.1 h
  have after := afterReset_withinSizes aon history
  unfold enterReset
  split
  · exact after
  · exact after

theorem powerOn_withinSizes (s : State) : WithinSizes (powerOn s) := by
  simp [WithinSizes, powerOn, afterReset]
  decide


end Sys2Proof.Machine
end

section
namespace Sys2Proof.Machine

/-! ### The staged group

Only STAGE adds to the staged group (R151). The operations that change the trust block otherwise keep it, and those that hold the core
empty it. -/

@[simp] theorem forEach_staged {α : Type} (l : List α) {f : State → α → State} (h : ∀ s a, (f s a).trust.mbx.staged = s.trust.mbx.staged)
    (s : State) : (forEach l s f).trust.mbx.staged = s.trust.mbx.staged :=
  forEach_keeps (·.trust.mbx.staged) l f h s

@[simp] theorem State.modInstr_staged (s : State) (f : Instructor → Instructor) :
    (s.modInstr f).trust.mbx.staged = s.trust.mbx.staged := rfl

@[simp] theorem unsaved_staged (s : State) : (unsaved s).trust.mbx.staged = s.trust.mbx.staged := by
  rw [unsaved, State.modInstr_staged]

@[simp] theorem saveDone_staged (s : State) : (saveDone s).trust.mbx.staged = s.trust.mbx.staged := by
  unfold saveDone
  split <;> simp

@[simp] theorem lockInstr_staged (s : State) : (lockInstr s).trust.mbx.staged = s.trust.mbx.staged := by
  unfold lockInstr
  dsimp only
  repeat' split
  all_goals simp [beginSave]

@[simp] theorem unlockOk_staged (s : State) (code : List Byte) : (unlockOk s code).trust.mbx.staged = s.trust.mbx.staged := by
  simp [unlockOk]

@[simp] theorem beginLockout_staged (s : State) (len : Nat) : (beginLockout s len).trust.mbx.staged = s.trust.mbx.staged := by
  simp [beginLockout]

@[simp] theorem unlockWrong_staged (s : State) : (unlockWrong s).trust.mbx.staged = s.trust.mbx.staged := by
  unfold unlockWrong
  dsimp only
  split <;> simp

@[simp] theorem revoke_staged (s : State) (n : Ch) : (revoke s n).trust.mbx.staged = s.trust.mbx.staged := by
  unfold revoke
  dsimp only
  repeat' split
  all_goals simp

@[simp] theorem removeSession_staged (s : State) (i : Fin 8) (how : Nat) :
    (removeSession s i how).trust.mbx.staged = s.trust.mbx.staged := by
  unfold removeSession
  dsimp only
  split
  · rfl
  · refine (forEach_staged _ (fun s n => ?_) _).trans (by simp)
    split <;> simp

@[simp] theorem removeSessions_staged (s : State) : (removeSessions s).trust.mbx.staged = s.trust.mbx.staged := by
  unfold removeSessions
  exact forEach_staged _ (fun s i => removeSession_staged s i 2) s

@[simp] theorem closeSession_staged (s : State) (id : W16) : (closeSession s id).trust.mbx.staged = s.trust.mbx.staged := by
  unfold closeSession
  split <;> simp

@[simp] theorem State.instructorCommand_staged (s : State) (p : Path) (code : Byte) :
    (s.instructorCommand p code).trust.mbx.staged = s.trust.mbx.staged := by
  unfold State.instructorCommand
  split <;> rfl

@[simp] theorem protViolation_staged (s : State) (addr : Nat) : (protViolation s addr).trust.mbx.staged = s.trust.mbx.staged := by
  unfold protViolation
  dsimp only
  split <;> simp

@[simp] theorem State.modMbx_staged (s : State) (f : Mailbox → Mailbox) :
    (s.modMbx f).trust.mbx.staged = (f s.trust.mbx).staged := rfl

@[simp] theorem sessCommand_staged (op : Nat) (id : W16) (s : State) :
    (sessCommand op id s).trust.mbx.staged = s.trust.mbx.staged := by
  unfold sessCommand
  dsimp only
  repeat' split
  all_goals simp [sessResult]

@[simp] theorem coreHeld_staged (s : State) : (coreHeld s).trust.mbx.staged = [] := rfl

@[simp] theorem coreReset_staged (s : State) : (coreReset s).trust.mbx.staged = [] := by simp [coreReset]

@[simp] theorem afterReset_staged (s : State) (aon : Bool) : (afterReset s aon).trust.mbx.staged = [] := rfl

@[simp] theorem enterReset_staged (s : State) (cause : W16) (aon : Bool) : (enterReset s cause aon).trust.mbx.staged = [] := by
  unfold enterReset
  dsimp only
  split <;> rfl

@[simp] theorem powerOn_staged (s : State) : (powerOn s).trust.mbx.staged = [] := rfl

section
variable {s : State} (h : s.trust.mbx.staged = [])
include h

@[simp] theorem enterHalt_staged (message : W64) (refFault : Bool) : (enterHalt s message refFault).trust.mbx.staged = [] := by
  unfold enterHalt
  dsimp only
  split
  · exact h
  · rw [show ∀ u, (setDevice u .halt).trust = u.trust from fun u => by simp]
    refine (forEach_staged _ (fun s n => ?_) _).trans (by simp)
    split <;> simp

@[simp] theorem wdtExpire_staged : (wdtExpire s).trust.mbx.staged = [] := by
  unfold wdtExpire
  split <;> simp [h]

@[simp] theorem haltNow_staged (src : BitVec 6) (kind : Byte) (detail : Nat) : (haltNow s src kind detail).trust.mbx.staged = [] := by
  simp [haltNow, h]

@[simp] theorem react_staged (m : Msg) (a : Level) : (react s m a).trust.mbx.staged = [] := by
  unfold react
  split <;> simp [h]

@[simp] theorem classify_staged (m : Msg) : (classify s m).trust.mbx.staged = [] := by
  unfold classify
  dsimp only
  exact react_staged (by split <;> simp [h]) _ _

@[simp] theorem clockFails_staged (m : Monitor) (count : Byte) : (clockFails m count s).trust.mbx.staged = [] := by
  unfold clockFails clockFails.react
  dsimp only
  repeat' split
  all_goals simp [h]

@[simp] theorem injectAt_staged (target arg value : Nat) : (injectAt s target arg value).trust.mbx.staged = [] := by
  unfold injectAt
  dsimp only
  repeat' split
  all_goals simp [h]

end
end Sys2Proof.Machine
end

section
namespace Sys2Proof.Machine

/-! ## What every step keeps (R6, R67, R151, R156, R157)

No command changes the identity, the time or the queue; a key slot once programmed keeps its hash and one once disabled stays so;
and the bounded parts stay within their sizes. Most operations leave all of this alone (`State.gist`); the relation `Safe` is
carried along the paths by which a write can reach the other operations: the objects, the registers, the groups, ROP, the tunnel
and the management port. None of these stages anything, and `Safe` says so too (R151); a command may, so that it is judged from
`State.marked`. -/

/-- What a key slot keeps (R156, R157). -/
def KeySlot.Keeps (a b : KeySlot) : Prop := (a.keyed = true → b.keyed = true ∧ b.hash = a.hash) ∧ (a.disabled = true → b.disabled = true)

theorem KeySlot.Keeps.refl (a : KeySlot) : a.Keeps a := ⟨fun h => ⟨h, rfl⟩, id⟩

theorem KeySlot.Keeps.trans {a b c : KeySlot} (h : a.Keeps b) (h' : b.Keeps c) : a.Keeps c := by
  obtain ⟨keyed, disabled⟩ := h
  obtain ⟨keyed', disabled'⟩ := h'
  exact ⟨fun k => ⟨(keyed' (keyed k).1).1, (keyed' (keyed k).1).2.trans (keyed k).2⟩, fun d => disabled' (disabled d)⟩

/-- What the OTP array keeps. -/
structure Otp.Keeps (a b : Otp) : Prop where
  uid : b.uid = a.uid
  slots : ∀ i (h : i < 4), (a.slots[i]).Keeps (b.slots[i])

theorem Otp.Keeps.refl (a : Otp) : a.Keeps a := ⟨rfl, fun _ _ => .refl _⟩

theorem Otp.Keeps.trans {a b c : Otp} (h : a.Keeps b) (h' : b.Keeps c) : a.Keeps c :=
  ⟨h'.uid.trans h.uid, fun i hi => (h.slots i hi).trans (h'.slots i hi)⟩

/-- A state that can follow another: see the introduction of this part. -/
structure Safe (o s : State) : Prop where
  unstaged : o.trust.mbx.staged = [] → s.trust.mbx.staged = []
  ident : s.ident = o.ident
  now : s.now = o.now
  pending : s.pending = o.pending
  otp : o.otp.Keeps s.otp
  sizes : WithinSizes o → WithinSizes s

theorem Safe.refl (s : State) : Safe s s := ⟨id, rfl, rfl, rfl, .refl _, id⟩

/-- What most operations leave alone of that which `Safe` speaks of. -/
def State.gist (s : State) :=
  (s.ident, s.now, s.pending, s.otp, s.clk.rate, s.events.fifo.length ≤ 64, s.badger.history.length, s.eth.arp.length,
    s.xip.lines.length, s.pool.reqs.length, s.link.reqs.length, s.bus.reqs.length)

@[simp] theorem gist_eq_iff {s t : State} : t.gist = s.gist ↔ t.ident = s.ident ∧ t.now = s.now ∧ t.pending = s.pending ∧
    t.otp = s.otp ∧ t.clk.rate = s.clk.rate ∧ (t.events.fifo.length ≤ 64 ↔ s.events.fifo.length ≤ 64) ∧
    t.badger.history.length = s.badger.history.length ∧ t.eth.arp.length = s.eth.arp.length ∧
    t.xip.lines.length = s.xip.lines.length ∧ t.pool.reqs.length = s.pool.reqs.length ∧
    t.link.reqs.length = s.link.reqs.length ∧ t.bus.reqs.length = s.bus.reqs.length := by
  simp only [State.gist, Prod.mk.injEq, eq_iff_iff]

theorem withinSizes_of_gist {s t : State} (h : t.gist = s.gist) (hs : WithinSizes s) : WithinSizes t := by
  obtain ⟨-, -, -, -, rate, fifo, history, arp, lines, pool, link, bus⟩ := gist_eq_iff.1 h
  unfold WithinSizes at hs ⊢
  rwa [rate, fifo, history, arp, lines, pool, link, bus]

/-- `State.gist` with the staged group. -/
def State.core (s : State) := (s.gist, s.trust.mbx.staged)

@[simp] theorem core_eq_iff {s t : State} : t.core = s.core ↔ t.gist = s.gist ∧ t.trust.mbx.staged = s.trust.mbx.staged := by
  simp only [State.core, Prod.mk.injEq]

theorem Safe.follow {o s t : State} (hs : Safe o s) (h : t.gist = s.gist) (staged : s.trust.mbx.staged = [] → t.trust.mbx.staged = []) :
    Safe o t := by
  obtain ⟨ident, now, pending, otp, -⟩ := gist_eq_iff.1 h
  exact ⟨fun ho => staged (hs.unstaged ho), ident.trans hs.ident, now.trans hs.now, pending.trans hs.pending, otp ▸ hs.otp,
    fun ho => withinSizes_of_gist h (hs.sizes ho)⟩

theorem Safe.congr {o s t : State} (hs : Safe o s) (h : t.core = s.core) : Safe o t := by
  obtain ⟨gist, staged⟩ := core_eq_iff.1 h
  exact hs.follow gist fun e => staged.trans e

/-- The state with something staged: what follows it may stage. -/
def State.marked (o : State) : State := o.modMbx fun m => { m with staged := [⟨⟨.loc, .mbx, none⟩, 0, 0, 0, []⟩] }

theorem Safe.congr_gist {o s t : State} (hs : Safe o.marked s) (h : t.gist = s.gist) : Safe o.marked t := by
  obtain ⟨ident, now, pending, otp, -⟩ := gist_eq_iff.1 h
  exact ⟨nofun, ident.trans hs.ident, now.trans hs.now, pending.trans hs.pending, otp ▸ hs.otp,
    fun ho => withinSizes_of_gist h (hs.sizes ho)⟩

theorem Safe.marked {o s : State} (hs : Safe o s) : Safe o.marked s := ⟨nofun, hs.ident, hs.now, hs.pending, hs.otp, hs.sizes⟩

theorem Safe.trans {a b c : State} (h : Safe a b) (h' : Safe b c) : Safe a c :=
  ⟨fun ha => h'.unstaged (h.unstaged ha), h'.ident.trans h.ident, h'.now.trans h.now, h'.pending.trans h.pending,
    h.otp.trans h'.otp, fun ha => h'.sizes (h.sizes ha)⟩

theorem Safe.ite {c : Prop} [Decidable c] {o s t : State} (hs : Safe o s) (ht : Safe o t) : Safe o (if c then s else t) := by
  split
  · exact hs
  · exact ht

/-- A change of the state after which it can still follow what it could follow before. -/
def KeepsSafe (orig : State) (f : State → State) : Prop := ∀ s, Safe orig s → Safe orig (f s)

theorem KeepsSafe.of_core {orig : State} {f : State → State} (h : ∀ s, (f s).core = s.core) : KeepsSafe orig f :=
  fun s hs => hs.congr (h s)

theorem KeepsSafe.id {orig : State} : KeepsSafe orig fun s => s := fun _ hs => hs

end Sys2Proof.Machine
end

section
namespace Sys2Proof.Machine

/-! ### Operations that reach a bounded part -/

section
variable {orig s : State}

/-- An operation that keeps what has no size, and the sizes. -/
theorem Safe.next {t : State} (hs : Safe orig s) (fixed : t.ident = s.ident ∧ t.now = s.now ∧ t.pending = s.pending ∧ t.otp = s.otp)
    (sizes : WithinSizes s → WithinSizes t) (staged : s.trust.mbx.staged = [] → t.trust.mbx.staged = []) : Safe orig t := by
  obtain ⟨ident, now, pending, otp⟩ := fixed
  exact hs.trans ⟨staged, ident, now, pending, otp ▸ .refl _, sizes⟩

theorem enterReset_safe (cause : W16) (aon : Bool) (hs : Safe orig s) : Safe orig (enterReset s cause aon) :=
  hs.next (by simp) (enterReset_withinSizes cause aon) fun _ => by simp

theorem powerOn_safe (hs : Safe orig s) : Safe orig (powerOn s) := 
  hs.next (by simp) (fun _ => powerOn_withinSizes s) fun _ => by simp

/-- The reset of DEVICE_RESET ends a SAVE that runs (R205). -/
theorem deviceReset_safe (hs : Safe orig s) : Safe orig (deviceReset s) := by
  refine enterReset_safe _ _ (hs.next (t := saveDone s) (by simp) (fun h => ?_) (by simp))
  obtain ⟨trim, fifo, history, arp, lines, reqs⟩ := withinSizes_iff.1 h
  simp [withinSizes_iff, trim, fifo, history, arp, lines, reqs]

/-- No line is held as the core starts (R551). -/
theorem enterRun_safe (hs : Safe orig s) : Safe orig (enterRun s) := by
  refine hs.next (by simp) (fun h => ?_) fun e => by simp [e]
  obtain ⟨trim, fifo, history, arp, -, reqs⟩ := withinSizes_iff.1 h
  simp [withinSizes_iff, trim, fifo, history, arp, reqs]

theorem classify_safe (m : Msg) (hs : Safe orig s) : Safe orig (classify s m) := by
  refine hs.next (by simp) (fun h => ?_) fun e => by simp [e]
  obtain ⟨trim, fifo, -, arp, lines, reqs⟩ := withinSizes_iff.1 h
  simp [withinSizes_iff, classify_sizes, trim, fifo, arp, lines, reqs]

theorem clockFails_safe (m : Monitor) (count : Byte) (hs : Safe orig s) : Safe orig (clockFails m count s) :=
  hs.follow (by simp) fun e => by simp [e]

/-- A change of the trim within its limits (R67). -/
theorem Safe.trim {c : Clocks} (hs : Safe orig s) (h : c.TrimFits) : Safe orig { s with clk := c } := by
  refine hs.next ⟨rfl, rfl, rfl, rfl⟩ (fun hw => ?_) id
  obtain ⟨-, rest⟩ := withinSizes_iff.1 hw
  exact withinSizes_iff.2 ⟨h, rest⟩

/-- Lines held for execution in place are dropped. -/
theorem Safe.dropLines {x : Xip} (hs : Safe orig s) (h : x.lines.length ≤ s.xip.lines.length) : Safe orig { s with xip := x } := by
  refine hs.next ⟨rfl, rfl, rfl, rfl⟩ (fun hw => ?_) id
  obtain ⟨trim, fifo, history, arp, lines, reqs⟩ := withinSizes_iff.1 hw
  exact withinSizes_iff.2 ⟨trim, fifo, history, arp, h.trans lines, reqs⟩

/-- A change that may drop the lines with the rest as it was. -/
theorem Safe.lines {t : State} (hs : Safe orig s) (rest : State.gist { t with xip := s.xip } = s.gist)
    (lines : s.xip.lines.length ≤ 4 → t.xip.lines.length ≤ 4) (staged : s.trust.mbx.staged = [] → t.trust.mbx.staged = []) :
    Safe orig t := by
  obtain ⟨ident, now, pending, otp, rate, fifo, history, arp, -, pool, link, bus⟩ := gist_eq_iff.1 rest
  refine hs.next ⟨ident, now, pending, otp⟩ (fun h => ?_) staged
  unfold WithinSizes at h ⊢
  simp_all

theorem Safe.lines_marked {t : State} (hs : Safe orig.marked s) (rest : State.gist { t with xip := s.xip } = s.gist)
    (lines : s.xip.lines.length ≤ 4 → t.xip.lines.length ≤ 4) : Safe orig.marked t :=
  (hs.congr_gist (t := s.marked) rfl).lines rest lines nofun

/-- The FIFO gives up records. -/
theorem Safe.dropEvents {v : Events} (hs : Safe orig s) (h : v.fifo.length ≤ s.events.fifo.length) :
    Safe orig { s with events := v } := by
  refine hs.next ⟨rfl, rfl, rfl, rfl⟩ (fun hw => ?_) id
  obtain ⟨trim, fifo, rest⟩ := withinSizes_iff.1 hw
  exact withinSizes_iff.2 ⟨trim, h.trans fifo, rest⟩

end
end Sys2Proof.Machine
end

section
namespace Sys2Proof.Machine
variable {orig : State}

/-! ### Objects

An object is safe if an accepted write of it keeps the relation, and what a refused one leaves does. The value and the state
before the write decide whether KEY_PROGRAM finds its slot unprogrammed, so a write of a safe object is one that step 5 admits. -/

structure Obj.KeepsSafe (orig : State) (o : Obj) : Prop where
  put : ∀ w post seq, Safe orig w.pre → o.range { w with post := post, seq := seq } = true → Machine.KeepsSafe orig (o.put w)
  onRefuse : ∀ w c, Machine.KeepsSafe orig (o.onRefuse w c)

/-- Whatever object a table gives is safe. -/
def TableKeepsSafe (orig : State) (o : Option Obj) : Prop := ∀ x, o = some x → x.KeepsSafe orig

/-- An object that keeps nothing of a refused write. -/
theorem Obj.KeepsSafe.of_put {o : Obj} (hp : ∀ w, Machine.KeepsSafe orig (o.put w)) (hr : ∀ w c s, o.onRefuse w c s = s) :
    o.KeepsSafe orig :=
  ⟨fun w _ _ _ _ => hp w, fun w c s hs => (hr w c s).symm ▸ hs⟩

/-- An object whose writes reach nothing that `Safe` speaks of. -/
theorem Obj.KeepsSafe.of_core {o : Obj} (hp : ∀ w s, (o.put w s).core = s.core) (hr : ∀ w c s, (o.onRefuse w c s).core = s.core) :
    o.KeepsSafe orig :=
  ⟨fun w _ _ _ _ => .of_core (hp w), fun w c => .of_core (hr w c)⟩

namespace TableKeepsSafe

theorem of_none : TableKeepsSafe orig none := fun _ e => nomatch e

theorem of_some {o : Obj} (h : o.KeepsSafe orig) : TableKeepsSafe orig (some o) := fun _ e => Option.some.inj e ▸ h

theorem of_core {o : Obj} (hp : ∀ w s, (o.put w s).core = s.core) (hr : ∀ w c s, (o.onRefuse w c s).core = s.core) :
    TableKeepsSafe orig (some o) :=
  of_some (.of_core hp hr)

theorem of_map {α : Type} {f : α → Obj} (h : ∀ a, (f a).KeepsSafe orig) (o : Option α) : TableKeepsSafe orig (o.map f) := by
  intro x e
  obtain ⟨a, -, rfl⟩ := Option.map_eq_some_iff.1 e
  exact h a

theorem of_bind {α : Type} {f : α → Option Obj} (h : ∀ a, TableKeepsSafe orig (f a)) (o : Option α) : TableKeepsSafe orig (o.bind f) := by
  intro x e
  obtain ⟨a, -, e⟩ := Option.bind_eq_some_iff.1 e
  exact h a x e

theorem of_ite {c : Prop} [Decidable c] {a b : Option Obj} (ha : TableKeepsSafe orig a) (hb : TableKeepsSafe orig b) :
    TableKeepsSafe orig (if c then a else b) := by
  split
  · exact ha
  · exact hb

end TableKeepsSafe

open TableKeepsSafe

/-! Rings and their bindings -/

theorem objTuneRing_keepsSafe (n : Ch) : (objTuneRing n).KeepsSafe orig := .of_core (by simp [objTuneRing, notTune]) fun _ _ _ => rfl

theorem objStreamRing_keepsSafe (n : Ch) : (objStreamRing n).KeepsSafe orig := .of_core (by simp [objStreamRing]) fun _ _ _ => rfl

theorem objCapRing_keepsSafe (n : Ch) : (objCapRing n).KeepsSafe orig := .of_core (by simp [objCapRing, capObj]) fun _ _ _ => rfl

theorem listRingObj_keepsSafe (n : Ch) (role : Nat) (form : Ring → Bool) (get : Sweep → Nat) (set : Nat → Sweep → Sweep) :
    (listRingObj n role form get set).KeepsSafe orig :=
  .of_core (by simp [listRingObj, listObj]) fun _ _ _ => rfl

theorem objAuxRing_keepsSafe : objAuxRing.KeepsSafe orig :=
  .of_core (fun w s => by dsimp only [objAuxRing]; split <;> simp) fun _ _ _ => rfl

theorem objRingConfig_keepsSafe : objRingConfig.KeepsSafe orig :=
  .of_core (fun w s => by dsimp only [objRingConfig]; split <;> simp) fun _ _ _ => rfl

theorem ringCmd_keepsSafe (act : Ring → Ring) : (ringCmd act).KeepsSafe orig :=
  .of_core (fun w s => by dsimp only [ringCmd]; split <;> simp) fun _ _ _ => rfl

/-! Channels and engines -/

theorem objMode_keepsSafe (n : Ch) : (objMode n).KeepsSafe orig :=
  .of_core (fun w s => by dsimp only [objMode]; split <;> simp) fun _ _ _ => rfl

theorem objListStop_keepsSafe (n : Ch) : (objListStop n).KeepsSafe orig := .of_core (by simp [objListStop, chCmd]) fun _ _ _ => rfl

theorem objSwpTrig_keepsSafe (n : Ch) : (objSwpTrig n).KeepsSafe orig := .of_core (by simp [objSwpTrig, chCmd]) fun _ _ _ => rfl

theorem loadObj_keepsSafe (n : Ch) (main : Bool) (inUse : Channel → Bool) (sel : ProgSel → ProgSel)
    (set : Program → ProgSel → ProgSel) : (loadObj n main inUse sel set).KeepsSafe orig :=
  .of_core (fun w s => by dsimp only [loadObj]; split <;> simp) fun _ _ _ => rfl

theorem objLoopN_keepsSafe (e : Eng) : (objLoopN e).KeepsSafe orig :=
  .of_core (fun w s => by dsimp only [objLoopN]; split <;> simp) fun _ _ _ => rfl

theorem objNotch_keepsSafe (n : Ch) (r el : Nat) : TableKeepsSafe orig (objNotch n r el) := by
  unfold objNotch
  split
  all_goals first | exact of_core (fun _ _ => rfl) fun _ _ _ => rfl | exact of_none

/-! Auxiliary measurements -/

theorem auxNat_keepsSafe (ty : Byte) (legal : Nat → Bool) (get : AuxCfg → Nat) (set : Nat → AuxCfg → AuxCfg) :
    (auxNat ty legal get set).KeepsSafe orig :=
  .of_core (by simp [auxNat, rwNat]) fun _ _ _ => rfl

theorem objAuxRec_keepsSafe : objAuxRec.KeepsSafe orig := .of_core (by simp [objAuxRec, auxNat, rwNat]) fun _ _ _ => rfl

theorem objScanSrc_keepsSafe : objScanSrc.KeepsSafe orig :=
  .of_core (fun w s => by dsimp only [objScanSrc, rwNat]; split <;> simp) fun _ _ _ => rfl

theorem objScanStart_keepsSafe : objScanStart.KeepsSafe orig := .of_core (by simp [objScanStart]) fun _ _ _ => rfl

theorem objScanStop_keepsSafe : objScanStop.KeepsSafe orig :=
  .of_core (fun w s => by dsimp only [objScanStop]; split <;> simp) fun _ _ _ => rfl

/-! Trust, ownership and device state -/

theorem objUnlock_keepsSafe : objUnlock.KeepsSafe orig :=
  .of_put (fun w s hs => by
    dsimp only [objUnlock]
    split
    · exact hs.lines (by simp) (fun h => by simp [h]) (by simp)
    · exact hs.lines (by simp) (fun h => by simp [h]) (by simp)) fun _ _ _ => rfl

theorem objLock_keepsSafe : objLock.KeepsSafe orig := .of_core (by simp [objLock]) fun _ _ _ => rfl

/-- A change of one slot that keeps what the slot was to keep. -/
theorem Safe.modSlot {s : State} (hs : Safe orig s) {k : Nat} {f : KeySlot → KeySlot}
    (h : ∀ hk : k < 4, ∀ x, (orig.otp.slots[k]).Keeps x → (orig.otp.slots[k]).Keeps (f x)) : Safe orig (s.modSlot k f) := by
  refine ⟨hs.unstaged, hs.ident, hs.now, hs.pending, ⟨hs.otp.uid, fun i hi => ?_⟩, hs.sizes⟩
  simp only [State.modSlot, Vector.getElem_setIfInBounds]
  split
  next e =>
    subst e
    simpa [hi] using h hi _ (hs.otp.slots k hi)
  next => exact hs.otp.slots i hi

theorem KeySlot.unprogrammed_iff {x : KeySlot} : x.state = 0 ↔ x.disabled = false ∧ x.keyed = false := by
  unfold KeySlot.state
  cases x.disabled <;> cases x.keyed <;> simp

/-- An unprogrammed slot was so before, and has nothing to keep. -/
theorem KeySlot.Keeps.of_unprogrammed {a b : KeySlot} (h : a.Keeps b) (hb : b.state = 0) (c : KeySlot) : a.Keeps c := by
  obtain ⟨disabled, keyed⟩ := KeySlot.unprogrammed_iff.1 hb
  exact ⟨fun k => absurd (h.1 k).1 (by simp [keyed]), fun d => absurd (h.2 d) (by simp [disabled])⟩

/-- KEY_PROGRAM takes an unprogrammed slot alone (R156). -/
theorem objKeyProgram_keepsSafe : objKeyProgram.KeepsSafe orig := by
  refine ⟨fun w post seq pre range s hs => ?_, fun _ _ _ hs => hs⟩
  dsimp only [objKeyProgram] at range ⊢
  split
  next k c hash e =>
    refine hs.modSlot fun hk x _ => ?_
    have free : (w.pre.otp.slots[k.toNat]).state = 0 := by
      simp only [e, Bool.and_eq_true, beq_iff_eq] at range
      simpa [hk] using range.2
    exact (pre.otp.slots _ hk).of_unprogrammed free _
  next => exact hs

theorem objKeyDisable_keepsSafe : objKeyDisable.KeepsSafe orig :=
  .of_put (fun w s hs => by
    dsimp only [objKeyDisable]
    split
    · exact hs.modSlot fun _ _ hx => ⟨hx.1, fun _ => rfl⟩
    · exact hs) fun _ _ _ => rfl

theorem limObj_keepsSafe (n : Ch) (ty : Byte) (legal : W → Bool) (get : Limits → Nat) (set : Nat → Limits → Limits) :
    (limObj n ty legal get set).KeepsSafe orig :=
  .of_core (by simp [limObj]) fun _ _ _ => rfl

theorem objLimit_keepsSafe (n : Ch) (el : Nat) : TableKeepsSafe orig (objLimit n el) := by
  unfold objLimit
  split
  all_goals first | exact of_some (limObj_keepsSafe n _ _ _ _) | exact of_none

theorem objClaim_keepsSafe (n : Ch) : (objClaim n).KeepsSafe orig := .of_core (by simp [objClaim]) fun _ _ _ => rfl

theorem objRelease_keepsSafe (n : Ch) : (objRelease n).KeepsSafe orig := .of_core (by simp [objRelease]) fun _ _ _ => rfl

/-- DEVICE_RESET only marks the reset that follows its reply (R205). -/
theorem objDeviceReset_keepsSafe : objDeviceReset.KeepsSafe orig := .of_put (fun _ _ hs => hs.congr rfl) fun _ _ _ => rfl

/-- APP_RESET goes from SAFE to VERIFY, and elsewhere resets the core alone (R190, R216). -/
theorem objAppReset_keepsSafe : objAppReset.KeepsSafe orig :=
  .of_put (fun _ _ hs => .ite (hs.congr (by simp)) (hs.follow (by simp) fun _ => by simp)) fun _ _ _ => rfl

/-! Badger, and what it is asked to do -/

theorem foldl_closeSlot_history_length (l : List Slot) (b : Badger) :
    (l.foldl (fun b x => b.closeSlot x.cls x.source) b).history.length = b.history.length := by
  induction l generalizing b with
  | nil => rfl
  | cons x l ih => simp [ih]

theorem objFaultAck_keepsSafe : objFaultAck.KeepsSafe orig :=
  .of_core (fun w s => by dsimp only [objFaultAck]; split <;> simp [foldl_closeSlot_history_length]) fun _ _ _ => rfl

theorem objForce_keepsSafe : objForce.KeepsSafe orig := .of_core (by simp [objForce]) fun _ _ _ => rfl

theorem objTestEnter_keepsSafe : objTestEnter.KeepsSafe orig :=
  .of_core (fun w s => by dsimp only [objTestEnter]; split <;> simp) fun _ _ _ => rfl

theorem objTestExit_keepsSafe : objTestExit.KeepsSafe orig := .of_core (by simp [objTestExit]) fun _ _ _ => rfl

/-- The detector of an injection reacts at once, at most with HALT (R606). -/
theorem objInject_keepsSafe : objInject.KeepsSafe orig :=
  .of_put (fun _ _ hs => hs.follow (by simp [objInject]) fun e => by simp [objInject, e]) fun _ _ _ => rfl

/-! Arbiter, link and front end -/

/-- A refused COMMIT shows in COMMIT_STATE (R474). -/
theorem objArbCommit_keepsSafe : objArbCommit.KeepsSafe orig :=
  .of_core (fun w s => by dsimp only [objArbCommit]; split <;> simp)
    fun w c s => by dsimp only [objArbCommit]; repeat' split <;> simp

theorem reqCfg_keepsSafe (res : Resource) (q : Nat) (ty : Byte) (legal : Nat → Bool) (get : ReqCfg → Nat)
    (set : Nat → ReqCfg → ReqCfg) : (reqCfg res q ty legal get set).KeepsSafe orig :=
  .of_core (by simp [reqCfg, rwNat]) fun _ _ _ => rfl

theorem objPortEn_keepsSafe (p : Port) : (objPortEn p).KeepsSafe orig :=
  .of_core (fun w s => by dsimp only [objPortEn, rwNat]; repeat' split <;> simp) fun _ _ _ => rfl

theorem objEnumRestart_keepsSafe : objEnumRestart.KeepsSafe orig := .of_core (by simp [objEnumRestart]) fun _ _ _ => rfl

theorem objSchedTrig_keepsSafe : objSchedTrig.KeepsSafe orig := .of_core (by simp [objSchedTrig]) fun _ _ _ => rfl

theorem objFspRelease_keepsSafe : objFspRelease.KeepsSafe orig :=
  .of_core (fun w s => by dsimp only [objFspRelease]; split <;> simp) fun _ _ _ => rfl

theorem objXipInvalidate_keepsSafe : objXipInvalidate.KeepsSafe orig :=
  .of_put (fun _ _ hs => hs.dropLines (Nat.zero_le _)) fun _ _ _ => rfl

/-! ### The object tables, chapter by chapter

An entry whose write is one update of another part of the state keeps what `Safe` speaks of by computation. -/

@[simp] theorem objsMode_keepsSafe (n : Ch) (j el : Nat) : TableKeepsSafe orig (objsMode n j el) := by
  dsimp only [objsMode]
  repeat' split
  all_goals first
    | exact of_core (fun _ _ => rfl) fun _ _ _ => rfl | exact of_none
    | exact of_some (objMode_keepsSafe n)

@[simp] theorem objsSignal_keepsSafe (n : Ch) (j el : Nat) : TableKeepsSafe orig (objsSignal n j el) := by
  dsimp only [objsSignal]
  repeat' split
  all_goals first | exact of_core (fun _ _ => rfl) fun _ _ _ => rfl | exact of_none

@[simp] theorem objsMotion_keepsSafe (n : Ch) (j el : Nat) : TableKeepsSafe orig (objsMotion n j el) := by
  dsimp only [objsMotion]
  repeat' split
  all_goals first | exact of_core (fun _ _ => rfl) fun _ _ _ => rfl | exact of_none

@[simp] theorem objsOutput_keepsSafe (n : Ch) (j el : Nat) : TableKeepsSafe orig (objsOutput n j el) := by
  dsimp only [objsOutput]
  repeat' split
  all_goals first | exact of_core (fun _ _ => rfl) fun _ _ _ => rfl | exact of_none

@[simp] theorem objsSweep_keepsSafe (n : Ch) (j el : Nat) : TableKeepsSafe orig (objsSweep n j el) := by
  dsimp only [objsSweep]
  repeat' split
  all_goals first
    | exact of_core (fun _ _ => rfl) fun _ _ _ => rfl | exact of_none
    | exact of_some (listRingObj_keepsSafe n _ _ _ _)
    | exact of_some (objListStop_keepsSafe n)
    | exact of_some (objSwpTrig_keepsSafe n)

@[simp] theorem objsLac_keepsSafe (n : Ch) (j el : Nat) : TableKeepsSafe orig (objsLac n j el) := by
  dsimp only [objsLac]
  repeat' split
  all_goals first
    | exact of_core (fun _ _ => rfl) fun _ _ _ => rfl | exact of_none
    | exact of_some (objTuneRing_keepsSafe n)

@[simp] theorem objsConv_keepsSafe (n : Ch) (j el : Nat) : TableKeepsSafe orig (objsConv n j el) := by
  dsimp only [objsConv]
  repeat' split
  all_goals first
    | exact of_core (fun _ _ => rfl) fun _ _ _ => rfl | exact of_none
    | exact of_some (objStreamRing_keepsSafe n)
    | exact of_some (objCapRing_keepsSafe n)

@[simp] theorem objsEngineCh_keepsSafe (n : Ch) (j el : Nat) : TableKeepsSafe orig (objsEngineCh n j el) := by
  dsimp only [objsEngineCh]
  repeat' split
  all_goals first
    | exact of_core (fun _ _ => rfl) fun _ _ _ => rfl | exact of_none
    | exact of_some (loadObj_keepsSafe n _ _ _ _)
    | exact objNotch_keepsSafe n _ _

@[simp] theorem objsEngine_keepsSafe (e : Eng) (idx el : Nat) : TableKeepsSafe orig (objsEngine e idx el) := by
  dsimp only [objsEngine]
  repeat' split
  all_goals first
    | exact of_core (fun _ _ => rfl) fun _ _ _ => rfl | exact of_none
    | exact objsEngineCh_keepsSafe _ _ _

@[simp] theorem objsEnv_keepsSafe (el : Nat) : TableKeepsSafe orig (objsEnv el) := by
  dsimp only [objsEnv]
  repeat' split
  all_goals first | exact of_core (fun _ _ => rfl) fun _ _ _ => rfl | exact of_none

@[simp] theorem objsAux_keepsSafe (idx el : Nat) : TableKeepsSafe orig (objsAux idx el) := by
  dsimp only [objsAux]
  repeat' split
  case h_2 => exact of_some objScanSrc_keepsSafe
  case h_9 => exact of_some objAuxRing_keepsSafe
  case h_10 => exact of_some objAuxRec_keepsSafe
  case h_14 => exact of_some objScanStart_keepsSafe
  case h_15 => exact of_some objScanStop_keepsSafe
  all_goals first
    | exact of_core (fun _ _ => rfl) fun _ _ _ => rfl | exact of_none
    | exact of_some (auxNat_keepsSafe _ _ _ _)

@[simp] theorem objsHamper_keepsSafe (idx el : Nat) : TableKeepsSafe orig (objsHamper idx el) := by
  dsimp only [objsHamper]
  repeat' split
  all_goals first
    | exact of_core (fun _ _ => rfl) fun _ _ _ => rfl | exact of_none
    | exact of_some objRingConfig_keepsSafe
    | exact of_some (ringCmd_keepsSafe _)
    | exact of_core (by simp) fun _ _ _ => rfl

@[simp] theorem objsReq_keepsSafe (res : Resource) (q el : Nat) : TableKeepsSafe orig (objsReq res q el) := by
  dsimp only [objsReq]
  repeat' split
  all_goals first
    | exact of_core (fun _ _ => rfl) fun _ _ _ => rfl | exact of_none
    | exact of_some (reqCfg_keepsSafe _ _ _ _ _ _)
    | exact of_core (by simp) fun _ _ _ => rfl

@[simp] theorem objsArbMain_keepsSafe (el : Nat) : TableKeepsSafe orig (objsArbMain el) := by
  dsimp only [objsArbMain]
  repeat' split
  all_goals first
    | exact of_core (fun _ _ => rfl) fun _ _ _ => rfl | exact of_none
    | exact of_some objArbCommit_keepsSafe
    | exact of_map (fun _ => .of_core (fun _ _ => rfl) fun _ _ _ => rfl) _
    | exact of_map (fun _ => .of_core (by simp [rwNat]) fun _ _ _ => rfl) _

@[simp] theorem objsArb_keepsSafe (idx el : Nat) : TableKeepsSafe orig (objsArb idx el) := by
  dsimp only [objsArb]
  repeat' split
  all_goals first
    | exact of_core (fun _ _ => rfl) fun _ _ _ => rfl | exact of_none
    | exact objsArbMain_keepsSafe _
    | exact objsReq_keepsSafe _ _ _

@[simp] theorem objsDevice_keepsSafe (idx el : Nat) : TableKeepsSafe orig (objsDevice idx el) := by
  dsimp only [objsDevice]
  repeat' split
  all_goals first
    | exact of_core (fun _ _ => rfl) fun _ _ _ => rfl | exact of_none

@[simp] theorem objsPeriod_keepsSafe (idx el : Nat) : TableKeepsSafe orig (objsPeriod idx el) := by
  dsimp only [objsPeriod]
  repeat' split
  all_goals first
    | exact of_core (fun _ _ => rfl) fun _ _ _ => rfl | exact of_none
    | exact of_map objLoopN_keepsSafe _
    | exact of_map (fun _ => .of_core (fun _ _ => rfl) fun _ _ _ => rfl) _

@[simp] theorem objsTrust_keepsSafe (idx el : Nat) : TableKeepsSafe orig (objsTrust idx el) := by
  dsimp only [objsTrust]
  repeat' split
  all_goals first
    | exact of_core (fun _ _ => rfl) fun _ _ _ => rfl | exact of_none
    | exact of_some objUnlock_keepsSafe
    | exact of_some objLock_keepsSafe
    | exact of_some objKeyProgram_keepsSafe
    | exact of_some objKeyDisable_keepsSafe
    | exact of_some objAppReset_keepsSafe
    | exact of_some (objClaim_keepsSafe _)
    | exact of_some (objRelease_keepsSafe _)
    | exact objLimit_keepsSafe _ _

@[simp] theorem objsLine_keepsSafe (x : Fin 4) (el : Nat) : TableKeepsSafe orig (objsLine x el) := by
  dsimp only [objsLine]
  repeat' split
  all_goals first | exact of_core (fun _ _ => rfl) fun _ _ _ => rfl | exact of_none

@[simp] theorem objsBadgerMain_keepsSafe (el : Nat) : TableKeepsSafe orig (objsBadgerMain el) := by
  dsimp only [objsBadgerMain]
  repeat' split
  all_goals first
    | exact of_core (fun _ _ => rfl) fun _ _ _ => rfl | exact of_none
    | exact of_some objFaultAck_keepsSafe
    | exact of_core (by simp) fun _ _ _ => rfl

@[simp] theorem objsBadger_keepsSafe (idx el : Nat) : TableKeepsSafe orig (objsBadger idx el) := by
  dsimp only [objsBadger]
  repeat' split
  all_goals first
    | exact of_core (fun _ _ => rfl) fun _ _ _ => rfl | exact of_none
    | exact objsLine_keepsSafe _ _
    | exact objsBadgerMain_keepsSafe _
    | exact of_some objForce_keepsSafe
    | exact of_some objTestEnter_keepsSafe
    | exact of_some objTestExit_keepsSafe
    | exact of_some objInject_keepsSafe

@[simp] theorem objsPort_keepsSafe (p : Port) (el : Nat) : TableKeepsSafe orig (objsPort p el) := by
  dsimp only [objsPort]
  repeat' split
  all_goals first
    | exact of_core (fun _ _ => rfl) fun _ _ _ => rfl | exact of_none
    | exact of_some (objPortEn_keepsSafe p)

@[simp] theorem objsNode_keepsSafe (el : Nat) : TableKeepsSafe orig (objsNode el) := by
  dsimp only [objsNode]
  repeat' split
  all_goals first
    | exact of_core (fun _ _ => rfl) fun _ _ _ => rfl | exact of_none
    | exact of_some objEnumRestart_keepsSafe

@[simp] theorem objsTime_keepsSafe (el : Nat) : TableKeepsSafe orig (objsTime el) := by
  dsimp only [objsTime]
  repeat' split
  all_goals first | exact of_core (fun _ _ => rfl) fun _ _ _ => rfl | exact of_none

@[simp] theorem objsTrigger_keepsSafe (el : Nat) : TableKeepsSafe orig (objsTrigger el) := by
  dsimp only [objsTrigger]
  repeat' split
  all_goals first
    | exact of_core (fun _ _ => rfl) fun _ _ _ => rfl | exact of_none
    | exact of_some objSchedTrig_keepsSafe

@[simp] theorem objsRonko_keepsSafe (idx el : Nat) : TableKeepsSafe orig (objsRonko idx el) := by
  dsimp only [objsRonko]
  repeat' split
  all_goals first
    | exact of_core (fun _ _ => rfl) fun _ _ _ => rfl | exact of_none
    | exact objsPort_keepsSafe _ _
    | exact objsNode_keepsSafe _
    | exact objsTime_keepsSafe _
    | exact objsTrigger_keepsSafe _

@[simp] theorem objsSelect_keepsSafe (c : Fin 4) (el : Nat) : TableKeepsSafe orig (objsSelect c el) := by
  dsimp only [objsSelect]
  repeat' split
  all_goals first | exact of_core (fun _ _ => rfl) fun _ _ _ => rfl | exact of_none

@[simp] theorem objsFsp_keepsSafe (idx el : Nat) : TableKeepsSafe orig (objsFsp idx el) := by
  dsimp only [objsFsp]
  repeat' split
  all_goals first
    | exact of_core (fun _ _ => rfl) fun _ _ _ => rfl | exact of_none
    | exact of_some objFspRelease_keepsSafe
    | exact of_some objXipInvalidate_keepsSafe
    | exact objsSelect_keepsSafe _ _

@[simp] theorem objsEth_keepsSafe (idx el : Nat) : TableKeepsSafe orig (objsEth idx el) := by
  dsimp only [objsEth]
  repeat' split
  all_goals first | exact of_core (fun _ _ => rfl) fun _ _ _ => rfl | exact of_none

@[simp] theorem objsRop_keepsSafe (idx el : Nat) : TableKeepsSafe orig (objsRop idx el) := by
  dsimp only [objsRop]
  repeat' split
  all_goals first
    | exact of_core (fun _ _ => rfl) fun _ _ _ => rfl | exact of_none
    | exact of_core (fun w s => by dsimp only [rwNat]; split <;> simp) fun _ _ _ => rfl
    | exact of_core (fun w s => by simp) fun _ _ _ => rfl

@[simp] theorem objsMgp_keepsSafe (el : Nat) : TableKeepsSafe orig (objsMgp el) := by
  dsimp only [objsMgp]
  repeat' split
  all_goals first | exact of_core (fun _ _ => rfl) fun _ _ _ => rfl | exact of_none

@[simp] theorem objsIdentity_keepsSafe (el : Nat) : TableKeepsSafe orig (objsIdentity el) := by
  dsimp only [objsIdentity]
  repeat' split
  all_goals first | exact of_core (fun _ _ => rfl) fun _ _ _ => rfl | exact of_none

end Sys2Proof.Machine
end

section
namespace Sys2Proof.Machine
variable {orig : State}

/-! ### Recoreers

A recoreer is safe if no write of it takes the device there, and no change of the event counter that it shows does. -/

def Field.KeepsSafe (orig : State) (f : Field) : Prop := ∀ g, f.set = some g → ∀ v, Machine.KeepsSafe orig (g v)

/-- A change of the counter does not reach the device state. -/
def CounterHome.KeepsSafe (orig : State) (h : CounterHome) : Prop := ∀ f, Machine.KeepsSafe orig (h.set f)

theorem CounterHome.KeepsSafe.of_core {h : CounterHome} (k : ∀ f s, (h.set f s).core = s.core) : h.KeepsSafe orig :=
  fun f => .of_core (k f)

structure Reg.KeepsSafe (orig : State) (r : Reg) : Prop where
  put : ∀ w, Machine.KeepsSafe orig (r.put w)
  counter : ∀ h, r.counter = some h → h.KeepsSafe orig
  status : ∀ h, r.status = some h → h.KeepsSafe orig

/-- Whatever recoreer a table gives is safe. -/
def RegsKeepSafe (orig : State) (o : Option Reg) : Prop := ∀ r, o = some r → r.KeepsSafe orig

/-! Fields -/

section
variable {lo width : Nat} {get : State → Nat}

theorem Field.KeepsSafe.of_set {g : Nat → State → State} (h : ∀ v, Machine.KeepsSafe orig (g v)) {code : Nat → W → Byte} :
    Field.KeepsSafe orig { lo := lo, width := width, get := get, set := some g, code := code } :=
  fun _ e => Option.some.inj e ▸ h

@[simp] theorem roF_keepsSafe : (roF lo width get).KeepsSafe orig := nofun

theorem rwF_keepsSafe_of {legal : Nat → Bool} {set : Nat → State → State} (h : ∀ v, KeepsSafe orig (set v)) :
    (rwF lo width get legal set).KeepsSafe orig :=
  .of_set fun v s hs => .ite (h v s hs) hs

@[simp] theorem rwF_keepsSafe {legal : Nat → Bool} {set : Nat → State → State} (h : ∀ v s, (set v s).core = s.core) :
    (rwF lo width get legal set).KeepsSafe orig :=
  rwF_keepsSafe_of fun v => .of_core (h v)

theorem goF_keepsSafe_of {act : State → State} (h : KeepsSafe orig act) : (goF lo act).KeepsSafe orig :=
  .of_set fun _ s hs => .ite (h s hs) hs

@[simp] theorem goF_keepsSafe {act : State → State} (h : ∀ s, (act s).core = s.core) : (goF lo act).KeepsSafe orig :=
  goF_keepsSafe_of (.of_core h)

theorem w1cF_keepsSafe_of {shown : State → Bool} {clear : State → State} (h : KeepsSafe orig clear) :
    (w1cF lo shown clear).KeepsSafe orig :=
  .of_set fun _ s hs => .ite (h s hs) hs

@[simp] theorem w1cF_keepsSafe {shown : State → Bool} {clear : State → State} (h : ∀ s, (clear s).core = s.core) :
    (w1cF lo shown clear).KeepsSafe orig :=
  w1cF_keepsSafe_of (.of_core h)

/-- A check that passes as a whole passes at its first step. -/
theorem eq_ok_of_firstCode_cons {c : Byte} {l : List Byte} (h : firstCode (c :: l) = eOk) : c = eOk ∧ firstCode l = eOk := by
  unfold firstCode at h
  split at h
  next e => exact ⟨by simpa using e, h⟩
  next e => exact absurd h (by simpa using e)

theorem range_of_valueCode {o : Obj} {env : Bool} {w : W} (h : o.valueCode env w = eOk) : o.range w = true := by
  have legal := (eq_ok_of_firstCode_cons h).1
  split at legal
  next e => exact (Bool.and_eq_true_iff.1 e).2
  next => exact absurd legal (by decide)

theorem Obj.KeepsSafe.regWrite_post {o : Obj} (h : o.KeepsSafe orig) {v : Nat} {env : Bool} {s : State} (hs : Safe orig s)
    (hc : o.valueCode env (o.regWrite v s) = eOk) : Safe orig (o.regWrite v s).post :=
  h.put ⟨⟨.loc, .mbx, none⟩, natBytes ((typeSize o.ty).getD 0) v, s, s, s⟩ _ _ hs (range_of_valueCode hc) s hs

/-- A value that a recoreer gives its object is written or refused as a request's is. -/
theorem Obj.KeepsSafe.poke {o : Obj} (h : o.KeepsSafe orig) (v : Nat) : Machine.KeepsSafe orig (o.poke v) := by
  intro s hs
  unfold Obj.poke
  dsimp only
  split
  next e => exact h.regWrite_post hs (beq_iff_eq.1 e)
  next => exact h.onRefuse _ _ s hs

section
variable {o : Option Obj}

@[simp] theorem objF_keepsSafe (h : TableKeepsSafe orig o) : (objF lo width o).KeepsSafe orig := by
  unfold objF
  split
  · exact roF_keepsSafe
  next x =>
    split
    · exact roF_keepsSafe
    · exact .of_set (h x rfl).poke

@[simp] theorem tableF_keepsSafe (h : TableKeepsSafe orig o) : (tableF lo width o).KeepsSafe orig := by
  unfold tableF
  split
  · exact roF_keepsSafe
  next x =>
    refine .of_set fun v s hs => ?_
    split
    next e => exact (h x rfl).regWrite_post hs (beq_iff_eq.1 e)
    next => exact hs

@[simp] theorem cmdF_keepsSafe {v : Nat} (h : TableKeepsSafe orig o) : (cmdF lo v o).KeepsSafe orig := by
  refine .of_set fun _ s hs => .ite ?_ hs
  cases o with
  | none => exact hs
  | some x => exact (h x rfl).poke v s hs

@[simp] theorem ringF_keepsSafe (h : TableKeepsSafe orig o) : (ringF lo o).KeepsSafe orig := by
  cases o with
  | none => exact nofun
  | some x => exact .of_set fun v => (h x rfl).poke _

end
end

/-! Forms of recoreers -/

section
variable {tsf : Bool} {fields : List Field} {pair : Pairing} {check : W → List Byte} {guard : State → Bool}

theorem fields_keepSafe {whole : Option (Word → State → State)} {counter status : Option CounterHome} (hw : whole = none)
    (h : ∀ f ∈ fields, f.KeepsSafe orig) (w : Word) :
    KeepsSafe orig (Reg.put ⟨fields, tsf, pair, whole, check, guard, counter, status⟩ w) := by
  subst hw
  unfold Reg.put
  dsimp only
  induction fields with
  | nil => exact .id
  | cons f fs ih =>
    intro s hs
    dsimp only [List.foldl_cons]
    refine ih (fun g hg => h g (List.mem_cons_of_mem f hg)) _ ?_
    split
    next g hg => exact h f List.mem_cons_self g hg _ s hs
    next => exact hs

@[simp] theorem Reg.KeepsSafe.of_fields (h : ∀ f ∈ fields, f.KeepsSafe orig) :
    Reg.KeepsSafe orig ⟨fields, tsf, pair, none, check, guard, none, none⟩ :=
  ⟨fields_keepSafe rfl h, nofun, nofun⟩

theorem Reg.KeepsSafe.of_whole {f : Word → State → State} (h : ∀ w, Machine.KeepsSafe orig (f w)) :
    Reg.KeepsSafe orig ⟨fields, tsf, pair, some f, check, guard, none, none⟩ :=
  ⟨h, nofun, nofun⟩

@[simp] theorem Reg.KeepsSafe.of_whole_core {f : Word → State → State} (h : ∀ w s, (f w s).core = s.core) :
    Reg.KeepsSafe orig ⟨fields, tsf, pair, some f, check, guard, none, none⟩ :=
  .of_whole fun w => .of_core (h w)

@[simp] theorem wordReg_keepsSafe {o : Option Obj} (h : TableKeepsSafe orig o) : (wordReg tsf o).KeepsSafe orig :=
  .of_fields (by simpa using objF_keepsSafe h)

@[simp] theorem roReg_keepsSafe {get : State → Nat} : (roReg get).KeepsSafe orig := .of_fields (by simp)

variable {h : CounterHome} (k : h.KeepsSafe orig)
include k

theorem counterReg_keepsSafe : (counterReg tsf h).KeepsSafe orig :=
  ⟨fields_keepSafe rfl (by simpa using rwF_keepsSafe_of fun _ => k _), fun _ e => Option.some.inj e ▸ k, nofun⟩

theorem statusReg_keepsSafe : (statusReg tsf h).KeepsSafe orig :=
  ⟨fun w s hs => by
    rw [put_statusReg]
    have wrap := Safe.ite (c := w.toNat / 2 ^ 0 % 2 ^ 1 = 1) (k (fun c => { c with wrap := false }) s hs) hs
    exact .ite (k _ _ wrap) wrap, nofun, fun _ e => Option.some.inj e ▸ k⟩

end

namespace RegsKeepSafe

theorem of_none : RegsKeepSafe orig none := fun _ e => nomatch e

theorem of_some {r : Reg} (h : r.KeepsSafe orig) : RegsKeepSafe orig (some r) := fun _ e => Option.some.inj e ▸ h

theorem of_bind {α : Type} {f : α → Option Reg} (h : ∀ a, RegsKeepSafe orig (f a)) (o : Option α) : RegsKeepSafe orig (o.bind f) := by
  intro x e
  obtain ⟨a, -, e⟩ := Option.bind_eq_some_iff.1 e
  exact h a x e

theorem of_ite {c : Prop} [Decidable c] {a b : Option Reg} (ha : RegsKeepSafe orig a) (hb : RegsKeepSafe orig b) :
    RegsKeepSafe orig (if c then a else b) := by
  split
  · exact ha
  · exact hb

theorem of_counterAt {tsf : Bool} {base off : Nat} {h : CounterHome} (k : h.KeepsSafe orig) :
    RegsKeepSafe orig (counterAt tsf base off h) :=
  of_ite (of_some (counterReg_keepsSafe k)) (of_ite (of_some (statusReg_keepsSafe k)) of_none)

theorem of_countersAt {tsf : Bool} {base off : Nat} {hs : List CounterHome} (k : hs.Forall (CounterHome.KeepsSafe orig)) :
    RegsKeepSafe orig (countersAt tsf base off hs) := by
  refine of_ite of_none ?_
  split
  next h e => exact of_counterAt (List.forall_iff_forall_mem.1 k h (List.mem_of_getElem? e))
  next => exact of_none

theorem of_homes {hs : List CounterHome} (k : hs.Forall (CounterHome.KeepsSafe orig)) {f : CounterHome → Reg}
    (hf : ∀ h, h.KeepsSafe orig → (f h).KeepsSafe orig) (i : Nat) : RegsKeepSafe orig ((hs[i]?).map f) := by
  intro r e
  obtain ⟨h, hh, rfl⟩ := Option.map_eq_some_iff.1 e
  exact hf h (List.forall_iff_forall_mem.1 k h (List.mem_of_getElem? hh))

theorem of_pairAt {tsf : Bool} {base off : Nat} {v : State → W64} : RegsKeepSafe orig (pairAt tsf base off v) :=
  of_ite (of_some (.of_fields (by simp))) (of_ite (of_some (.of_fields (by simp))) of_none)

end RegsKeepSafe

end Sys2Proof.Machine
end

section
namespace Sys2Proof.Machine
variable {orig : State}

/-! ### Recoreers that act as a command does -/

@[simp] theorem settled_execTbcLoad_core (w : Word) (s : State) : (settled s (execTbcLoad w s)).core = s.core := by
  unfold execTbcLoad
  rw [settled_next]
  split <;> rfl

@[simp] theorem settled_execPwgRun_core (p : Fin 4) (w : Word) (s : State) : (settled s (execPwgRun p w s)).core = s.core := by
  unfold execPwgRun
  dsimp only
  repeat' split
  all_goals simp

@[simp] theorem settled_execPeriodRegWrite_core (p : PeriodReg) (w : Word) (s : State) :
    (settled s (execPeriodRegWrite p w s)).core = s.core := by
  unfold execPeriodRegWrite
  repeat' split
  all_goals simp

@[simp] theorem settled_execRingPush_core (m : Master) (w : Word) (s : State) : (settled s (execRingPush m w s)).core = s.core := by
  unfold execRingPush
  rw [settled_next]
  repeat' split
  all_goals simp

@[simp] theorem settled_execRingPop_core (m : Master) (w : Word) (s : State) : (settled s (execRingPop m w s)).core = s.core := by
  unfold execRingPop
  rw [settled_next]
  repeat' split
  all_goals simp

@[simp] theorem settled_execSemWrite_core (m : Master) (i : Fin 32) (w : Word) (s : State) :
    (settled s (execSemWrite m i w s)).core = s.core := by
  unfold execSemWrite
  rw [settled_next]
  repeat' split
  all_goals rfl

@[simp] theorem settled_execAppPost_core (w : Word) (s : State) : (settled s (execAppPost w s)).core = s.core := by simp [execAppPost]

@[simp] theorem settled_execAppWdtCtrlWrite_core (w : Word) (s : State) : (settled s (execAppWdtCtrlWrite w s)).core = s.core := by
  unfold execAppWdtCtrlWrite
  dsimp only
  repeat' split
  all_goals rfl

/-- A wrong kick resets the core (R206). -/
theorem execAppWdtKick_keepsSafe (w : Word) : KeepsSafe orig fun s => settled s (execAppWdtKick w s) := by
  intro s hs
  unfold execAppWdtKick
  refine hs.follow ?_ fun e => ?_
  all_goals
    dsimp only
    repeat' split
    all_goals simp [*]

theorem execDeviceResetTimeout_keepsSafe : KeepsSafe orig fun s => settled s (execDeviceResetTimeout s) :=
  fun _ hs => .ite (deviceReset_safe hs) hs

/-- The limits of TBC_RATE hold of every write of it (R67). -/
theorem execTbcRateWrite_keepsSafe (w : Word) : KeepsSafe orig fun s => settled s (execTbcRateWrite w s) :=
  fun _ hs => hs.trim (clampInt_trimFits _)

theorem execFifoPop_keepsSafe : KeepsSafe orig fun s => settled s (execFifoPop s) :=
  fun _ hs => hs.dropEvents (by simp)

@[simp] theorem State.modClk_rate (s : State) (f : Clocks → Clocks) : (s.modClk f).clk.rate = (f s.clk).rate := rfl

@[simp] theorem State.modBadger_history (s : State) (f : Badger → Badger) : (s.modBadger f).badger.history = (f s.badger).history := rfl

@[simp] theorem State.modEth_arp (s : State) (f : Eth → Eth) : (s.modEth f).eth.arp = (f s.eth).arp := rfl

@[simp] theorem State.modLine_core (s : State) (x : Fin 4) (f : EventLine → EventLine) : (s.modLine x f).core = s.core := rfl

@[simp] theorem State.modHam_core (s : State) (f : Hamper → Hamper) : (s.modHam f).core = s.core := rfl

@[simp] theorem objRingConfig_put_core (w : W) (s : State) : (objRingConfig.put w s).core = s.core := by
  dsimp only [objRingConfig]
  split <;> simp

@[simp] theorem ringCmd_put_core (act : Ring → Ring) (w : W) (s : State) : ((ringCmd act).put w s).core = s.core := by
  dsimp only [ringCmd]
  split <;> simp

theorem cfgCommand_keepsSafe (w : Word) : KeepsSafe orig (cfgCommand w) := by
  intro s hs
  unfold cfgCommand
  dsimp only
  refine Safe.congr ?_ (State.modHam_core _ _)
  split
  · exact (Safe.ite (hs.congr (objRingConfig_put_core _ _)) hs).congr (State.modHam_core _ _)
  · exact (Safe.ite (hs.congr (ringCmd_put_core _ _ _)) hs).congr (State.modHam_core _ _)
  · exact (Safe.ite (hs.congr (ringCmd_put_core _ _ _)) hs).congr (State.modHam_core _ _)
  · exact hs

@[simp] theorem ackGo_core (w : Word) (s : State) : (ackGo w s).core = s.core := by
  unfold ackGo
  split <;> simp

@[simp] theorem caleCtrl_core (w : Word) (s : State) : (caleCtrl w s).core = s.core := by
  unfold caleCtrl
  dsimp only
  split <;> simp

@[simp] theorem trigCmd_core (w : Word) (s : State) : (trigCmd w s).core = s.core := by
  unfold trigCmd
  dsimp only
  repeat' split
  all_goals simp

@[simp] theorem forceGo_core (w : Word) (s : State) : (forceGo w s).core = s.core := by
  unfold forceGo
  dsimp only
  split <;> simp [objForce, State.modBadger_badger]

@[simp] theorem testCtrl_core (w : Word) (s : State) : (testCtrl w s).core = s.core := by
  unfold testCtrl
  dsimp only
  split <;> simp [State.modBadger_badger]

theorem testGo_keepsSafe (w : Word) : KeepsSafe orig (testGo w) := by
  intro s hs
  unfold testGo
  dsimp only
  split
  · exact hs.follow (by simp [objInject, State.modBadger_badger]) fun e => by simp [objInject, State.modBadger_badger, e]
  · exact hs.congr (by simp)

end Sys2Proof.Machine
end

section
namespace Sys2Proof.Machine
variable {orig : State}
open RegsKeepSafe

/-! ### Fields and homes of the chapters -/

theorem chHome_keepsSafe (n : Ch) (get : Channel → Counter) (set : Counter → Channel → Channel) : (chHome n get set).KeepsSafe orig :=
  .of_core fun _ _ => rfl

@[simp] theorem Field.KeepsSafe.of_core {lo width : Nat} {get : State → Nat} {g : Nat → State → State} {code : Nat → W → Byte}
    (h : ∀ v s, (g v s).core = s.core) : Field.KeepsSafe orig ⟨lo, width, get, some g, code⟩ :=
  .of_set fun v => .of_core (h v)

@[simp] theorem mbxF_keepsSafe (lo width : Nat) (get : Mailbox → Nat) (set : Nat → Mailbox → Mailbox)
    (hset : ∀ v m, (set v m).staged = m.staged) : (mbxF lo width get set).KeepsSafe orig :=
  rwF_keepsSafe fun v s => core_eq_iff.2 ⟨rfl, hset v s.trust.mbx⟩

@[simp] theorem chF_keepsSafe (n : Ch) (lo width : Nat) (get : Channel → Nat) (legal : Nat → Bool) (set : Nat → Channel → Channel) :
    (chF n lo width get legal set).KeepsSafe orig :=
  rwF_keepsSafe fun _ _ => rfl

@[simp] theorem areaF_keepsSafe (n : Ch) (x : ProgArea) (i lo width : Nat) : (areaF n x i lo width).KeepsSafe orig :=
  chF_keepsSafe n _ _ _ _ _

@[simp] theorem macF_keepsSafe (lo width : Nat) (get : Eth → Nat) (legal : State → Nat → Bool) (set : Nat → Eth → Eth)
    (hset : ∀ v e, (set v e).arp = e.arp) : (macF lo width get legal set).KeepsSafe orig :=
  .of_core fun _ _ => by split <;> simp [State.modEth_eth, hset]

/-- A field that writes its object with a number made of its own. -/
@[simp] theorem Field.KeepsSafe.of_map_poke {lo width : Nat} {get : State → Nat} {o : Option Obj} (h : TableKeepsSafe orig o)
    {f : Nat → Nat} {code : Nat → W → Byte} :
    Field.KeepsSafe orig ⟨lo, width, get, o.map fun o v s => o.poke (f v) s, code⟩ := by
  cases o with
  | none => exact nofun
  | some x => exact .of_set fun v => (h x rfl).poke _

@[simp] theorem goF_execFifoPop_keepsSafe (lo : Nat) : (goF lo fun s => settled s (execFifoPop s)).KeepsSafe orig :=
  goF_keepsSafe_of execFifoPop_keepsSafe

@[simp] theorem plainEntries_keepSafe :
    TableKeepsSafe orig (some objFspRelease) ∧ TableKeepsSafe orig (some objFspAcquire) ∧ TableKeepsSafe orig (some objXipInvalidate) ∧
      TableKeepsSafe orig (some objStream) :=
  ⟨.of_some objFspRelease_keepsSafe, .of_core (fun _ _ => rfl) fun _ _ _ => rfl, .of_some objXipInvalidate_keepsSafe,
    .of_core (fun _ _ => rfl) fun _ _ _ => rfl⟩

end Sys2Proof.Machine
end

section
namespace Sys2Proof.Machine
variable {orig : State}
open RegsKeepSafe

/-! ### The recoreer tables, block by block -/

theorem devReg_keepsSafe (off : Nat) : RegsKeepSafe orig (devReg off) := by
  dsimp only [devReg]
  repeat' split
  all_goals first
    | exact of_none
    | exact of_some (.of_fields (by simp))

/-- RESET_CTRL performs the reset of DEVICE_RESET, and the watchdog's recoreers at most the core's. -/
theorem rstReg_keepsSafe (off : Nat) : RegsKeepSafe orig (rstReg off) := by
  dsimp only [rstReg]
  repeat' split
  case h_3 => exact of_some ⟨fields_keepSafe rfl (List.forall_mem_singleton.2 (w1cF_keepsSafe fun _ => rfl)), nofun,
    fun _ e => Option.some.inj e ▸ .of_core fun _ _ => rfl⟩
  case h_6 => exact of_some (.of_whole_core settled_execAppWdtCtrlWrite_core)
  case h_7 => exact of_some (.of_whole execAppWdtKick_keepsSafe)
  case h_9 => exact of_some (.of_fields (List.forall_mem_singleton.2 (goF_keepsSafe_of execDeviceResetTimeout_keepsSafe)))
  all_goals first
    | exact of_pairAt
    | exact of_some (.of_fields (by simp))

theorem clkReg_keepsSafe (off : Nat) : RegsKeepSafe orig (clkReg off) := by
  dsimp only [clkReg]
  repeat' split
  all_goals first
    | exact of_pairAt
    | exact of_some (.of_fields (by simp))
    | exact of_some (.of_whole_core fun _ _ => rfl)
    | exact of_some (.of_whole execTbcRateWrite_keepsSafe)

theorem mbxReg_keepsSafe (off : Nat) : RegsKeepSafe orig (mbxReg off) := by
  dsimp only [mbxReg, mbxWord]
  repeat' split
  all_goals first
    | exact of_none
    | exact of_some (counterReg_keepsSafe (.of_core fun _ _ => rfl))
    | exact of_some (.of_fields (by simp))
    | exact of_some (.of_whole_core fun _ _ => rfl)

theorem limReg_keepsSafe (n : Ch) (k : Nat) : RegsKeepSafe orig (limReg n k) := by
  dsimp only [limReg, limF]
  repeat' split
  all_goals first
    | exact of_none
    | exact of_some (.of_fields (by simp))

theorem lockReg_keepsSafe (n : Ch) (k : Nat) : RegsKeepSafe orig (lockReg n k) := by
  dsimp only [lockReg]
  repeat' split
  all_goals first
    | exact of_none
    | exact of_some (.of_fields (by simp))

theorem limitReg_keepsSafe (off : Nat) : RegsKeepSafe orig (limitReg off) :=
  of_ite (of_bind (fun n => limReg_keepsSafe n _) _) (of_ite (of_bind (fun n => lockReg_keepsSafe n _) _) of_none)

theorem modeReg_keepsSafe (n : Ch) : (modeReg n).KeepsSafe orig := .of_whole_core fun w s => by split <;> rfl

theorem chModeReg_keepsSafe (n : Ch) (off : Nat) : RegsKeepSafe orig (chModeReg n off) := by
  dsimp only [chModeReg]
  repeat' split
  all_goals first
    | exact of_counterAt (.of_core fun _ _ => rfl)
    | exact of_some (modeReg_keepsSafe n)
    | exact of_some (.of_fields (by simp))

/-- The status recoreer of the overruns shows their run beside WRAP and COLLIDE (Table 7.15). -/
theorem engChReg_keepsSafe (n : Ch) (off : Nat) : RegsKeepSafe orig (engChReg n off) := by
  dsimp only [engChReg]
  repeat' split
  case h_10 =>
    have k := chHome_keepsSafe (orig := orig) n (·.loop.ovrCount) fun k c => { c with loop := { c.loop with ovrCount := k } }
    exact of_some ⟨(statusReg_keepsSafe (tsf := false) k).put, nofun, (statusReg_keepsSafe (tsf := false) k).status⟩
  all_goals first
    | exact of_none
    | exact of_some (counterReg_keepsSafe (.of_core fun _ _ => rfl))
    | exact of_some (.of_fields (by simp))

theorem engReg_keepsSafe (e : Eng) (off : Nat) : RegsKeepSafe orig (engReg e off) := by
  dsimp only [engReg]
  repeat' split
  all_goals first
    | exact engChReg_keepsSafe _ _
    | exact of_none
    | exact of_some (.of_fields (by simp))
    | exact of_some (.of_whole_core fun _ _ => rfl)

theorem vecReg_keepsSafe {k : Nat} (n : Ch) (i : Nat) (get : Channel → Vector Word k)
    (set : Vector Word k → Channel → Channel) : RegsKeepSafe orig (vecReg n i get set) :=
  of_ite (of_some (.of_fields (by simp))) of_none

theorem headReg_keepsSafe (n : Ch) (k : Nat) (x : ProgArea) : RegsKeepSafe orig (headReg n k x) := by
  dsimp only [headReg]
  repeat' split
  all_goals exact of_some (.of_fields (by simp))

theorem progMem_keepsSafe (n : Ch) (off : Nat) : RegsKeepSafe orig (progMem n off) := by
  dsimp only [progMem, progReg]
  repeat' refine of_ite ?_ ?_
  all_goals first | exact vecReg_keepsSafe _ _ _ _ | exact headReg_keepsSafe _ _ _ | exact of_some (.of_fields (by simp)) | exact of_none

theorem lacReg_keepsSafe (n : Ch) (off : Nat) : RegsKeepSafe orig (lacReg n off) := by
  dsimp only [lacReg, wordReg]
  repeat' split
  all_goals first
    | exact of_none
    | exact of_countersAt ⟨.of_core fun _ _ => rfl, .of_core fun _ _ => rfl⟩
    | exact of_some (.of_fields (by simp))

theorem lacBlock_keepsSafe (e : Eng) (off : Nat) : RegsKeepSafe orig (lacBlock e off) := by
  dsimp only [lacBlock]
  repeat' split
  all_goals first
    | exact lacReg_keepsSafe _ _
    | exact of_none
    | exact of_some (.of_fields (by simp))

theorem motionReg_keepsSafe (n : Ch) (off : Nat) : RegsKeepSafe orig (motionReg n off) := by
  dsimp only [motionReg]
  repeat' split
  all_goals first
    | exact of_counterAt (.of_core fun _ _ => rfl)
    | exact of_some (.of_fields (by simp))

theorem macRing_keepsSafe (role : Nat) (get : Eth → Nat) (set : Nat → Eth → Eth) (h : ∀ v e, (set v e).arp = e.arp) :
    (macRing role get set).KeepsSafe orig :=
  .of_fields (List.forall_mem_singleton.2 (.of_core fun v s => by dsimp only; repeat' split <;> simp [h]))

theorem macHomes_keepSafe : macHomes.Forall (CounterHome.KeepsSafe orig) := by
  unfold macHomes
  exact ⟨.of_core fun _ _ => rfl, .of_core fun _ _ => rfl, .of_core fun _ _ => rfl, .of_core fun _ _ => rfl⟩

theorem macReg_keepsSafe (off : Nat) : RegsKeepSafe orig (macReg off) := by
  dsimp only [macReg]
  repeat' split
  all_goals first
    | exact of_none
    | exact of_some (macRing_keepsSafe _ _ _ fun _ _ => rfl)
    | exact of_homes macHomes_keepSafe (fun _ k => counterReg_keepsSafe k) _
    | exact of_homes macHomes_keepSafe (fun _ k => statusReg_keepsSafe k) _
    | exact of_some (.of_fields (by simp))
    | exact of_some (.of_whole_core fun _ _ => rfl)

theorem calReg_keepsSafe (n : Ch) (k : Nat) (gain : Bool) : (calReg n k gain).KeepsSafe orig :=
  .of_fields (by cases gain <;> simp)

theorem convReg_keepsSafe (n : Ch) (off : Nat) : RegsKeepSafe orig (convReg n off) := by
  dsimp only [convReg]
  repeat' split
  all_goals first
    | exact of_counterAt (.of_core fun _ _ => rfl)
    | exact of_some roReg_keepsSafe
    | exact of_some (calReg_keepsSafe _ _ _)
    | exact of_some (.of_fields (by simp))

/-- GO performs the object HOST_URG (R358). -/
theorem urgReg_keepsSafe : urgReg.KeepsSafe orig :=
  .of_whole fun _ _ hs => .ite (hs.congr rfl) <|
    .ite (Obj.KeepsSafe.poke (.of_core (fun _ _ => rfl) fun _ _ _ => rfl) _ _ (hs.congr rfl)) (hs.congr rfl)

theorem auxReg_keepsSafe (off : Nat) : RegsKeepSafe orig (auxReg off) := by
  dsimp only [auxReg, auxHomes]
  repeat' split
  case h_7 =>
    refine of_some (.of_fields ?_)
    simp only [List.forall_mem_cons]
    exact ⟨ringF_keepsSafe (objsAux_keepsSafe _ _), objF_keepsSafe (objsAux_keepsSafe _ _),
      .of_set fun _ => objAuxRec_keepsSafe.poke _, nofun⟩
  all_goals first
    | exact of_some (wordReg_keepsSafe (objsAux_keepsSafe _ _))
    | exact of_some urgReg_keepsSafe
    | exact of_countersAt ⟨.of_core fun _ _ => rfl, .of_core fun _ _ => rfl, .of_core fun _ _ => rfl, .of_core fun _ _ => rfl⟩
    | exact of_none
    | exact of_some (.of_fields (by simp))

/-- REFBUF switches the reference buffer, with REF_READY (R221). -/
theorem refReg_keepsSafe (off : Nat) : RegsKeepSafe orig (refReg off) := by
  dsimp only [refReg]
  repeat' split
  case h_1 => exact of_some (.of_fields (List.forall_mem_singleton.2 (rwF_keepsSafe_of fun v s hs => by split <;> exact hs.congr (by simp))))
  all_goals first
    | exact of_none
    | exact of_some (.of_fields (by simp))
    | exact of_some (.of_whole_core fun _ _ => rfl)
    | exact of_some (.of_whole_core (by simp))

theorem objRangeReq_keepsSafe (n : Ch) : (objRangeReq n).KeepsSafe orig := .of_core (fun _ _ => rfl) fun _ _ _ => rfl

theorem outReg_keepsSafe (n : Ch) (off : Nat) : RegsKeepSafe orig (outReg n off) := by
  dsimp only [outReg]
  repeat' split
  case h_15 => exact of_some (.of_whole fun _ s hs => .ite ((objRangeReq_keepsSafe n).poke _ s hs) hs)
  all_goals first
    | exact of_counterAt (.of_core fun _ _ => rfl)
    | exact of_pairAt
    | exact of_some (.of_fields (by simp))

theorem clrReg_keepsSafe (off : Nat) : RegsKeepSafe orig (clrReg off) := by
  dsimp only [clrReg]
  repeat' split
  all_goals first
    | exact of_counterAt (.of_core fun _ _ => rfl)
    | exact of_some (.of_fields (by simp))

theorem pwgReg_keepsSafe (p : Fin 4) (off : Nat) : RegsKeepSafe orig (pwgReg p off) := by
  dsimp only [pwgReg]
  repeat' split
  all_goals first
    | exact of_none
    | exact of_some (.of_fields (by simp))
    | exact of_some (.of_whole_core (by simp))

theorem trigReg_keepsSafe (off : Nat) : RegsKeepSafe orig (trigReg off) :=
  of_ite (of_some (.of_fields (by simp))) <| of_ite (of_counterAt (.of_core fun _ _ => rfl)) <|
  of_ite (of_some (.of_whole_core fun _ _ => rfl)) <| of_ite (pwgReg_keepsSafe _ _) of_none

theorem hamReg_keepsSafe (m : Master) (off : Nat) : RegsKeepSafe orig (hamReg m off) := by
  dsimp only [hamReg]
  repeat' split
  all_goals first
    | exact of_none
    | exact of_pairAt
    | exact of_counterAt (.of_core fun _ _ => rfl)
    | exact of_countersAt ⟨.of_core fun _ _ => rfl, .of_core fun _ _ => rfl⟩
    | exact of_some roReg_keepsSafe
    | exact of_some (.of_whole cfgCommand_keepsSafe)
    | exact of_counterAt (.of_core fun f s => by dsimp only; split <;> rfl)
    | exact of_some (.of_fields (List.forall_mem_singleton.2 (rwF_keepsSafe fun _ _ => rfl)))
    | exact of_some (.of_fields (by simp))
    | exact of_some (.of_whole_core (by simp))

theorem sweepReg_keepsSafe (n : Ch) (off : Nat) : RegsKeepSafe orig (sweepReg n off) := by
  dsimp only [sweepReg]
  repeat' split
  all_goals first
    | exact of_countersAt ⟨.of_core fun _ _ => rfl, .of_core fun _ _ => rfl, .of_core fun _ _ => rfl⟩
    | exact of_some (.of_fields (by simp))

theorem semReg_keepsSafe (m : Master) (off : Nat) : RegsKeepSafe orig (semReg m off) := by
  dsimp only [semReg]
  repeat' split
  all_goals first
    | exact of_none
    | exact of_some roReg_keepsSafe
    | exact of_some (.of_whole_core (by simp))

theorem arbHome_keepsSafe (res : Resource) (q : Nat) (get : Requesting → Counter) (set : Counter → Requesting → Requesting) :
    (arbHome res q get set).KeepsSafe orig :=
  .of_core fun _ _ => by simp [arbHome]

theorem reqReg_keepsSafe (res : Resource) (q off : Nat) : RegsKeepSafe orig (reqReg res q off) := by
  dsimp only [reqReg]
  repeat' split
  all_goals first
    | exact of_none
    | exact of_countersAt ⟨arbHome_keepsSafe _ _ _ _, arbHome_keepsSafe _ _ _ _⟩
    | exact of_some (.of_fields (by simp))
    | exact of_some (.of_whole_core (by simp))

theorem resourceReg_keepsSafe (res : Resource) (k count off : Nat) : RegsKeepSafe orig (resourceReg res k count off) := by
  dsimp only [resourceReg]
  repeat' split
  case h_1 =>
    refine of_some (.of_fields ?_)
    simp only [List.forall_mem_cons]
    exact ⟨objF_keepsSafe (objsArbMain_keepsSafe _), goF_keepsSafe_of (objArbCommit_keepsSafe.poke _),
      objF_keepsSafe (objsArbMain_keepsSafe _), nofun⟩
  all_goals first
    | exact reqReg_keepsSafe _ _ _
    | exact of_none
    | exact of_some (.of_fields (by simp))

theorem portReg_keepsSafe (p : Port) (off : Nat) : RegsKeepSafe orig (portReg p off) := by
  dsimp only [portReg, portHomes]
  repeat' split
  all_goals first
    | exact of_countersAt ⟨.of_core fun _ _ => rfl, .of_core fun _ _ => rfl, .of_core fun _ _ => rfl, .of_core fun _ _ => rfl,
        .of_core fun _ _ => rfl, .of_core fun _ _ => rfl, .of_core fun _ _ => rfl⟩
    | exact of_some (.of_fields (by simp))

theorem templateReg_keepsSafe (k : Nat) : (templateReg k).KeepsSafe orig :=
  .of_fields (List.forall_mem_singleton.2 (.of_core fun v s => by dsimp only; split <;> rfl))

theorem txReg_keepsSafe (k : Fin 4) (off : Nat) : RegsKeepSafe orig (txReg k off) := by
  dsimp only [txReg, txWord]
  repeat' split
  all_goals first
    | exact of_none
    | exact of_some (.of_whole_core (by simp))

theorem treeReg_keepsSafe (off : Nat) : RegsKeepSafe orig (treeReg off) := by
  dsimp only [treeReg]
  repeat' split
  all_goals first
    | exact of_pairAt
    | exact of_some (templateReg_keepsSafe _)
    | exact txReg_keepsSafe _ _
    | exact of_countersAt ⟨.of_core fun _ _ => rfl, .of_core fun _ _ => rfl, .of_core fun _ _ => rfl, .of_core fun _ _ => rfl⟩
    | exact of_some (.of_fields (by simp))
    | exact of_some (.of_whole_core fun _ _ => rfl)
    | exact of_some (.of_whole_core (by simp))

theorem protReg_keepsSafe (k : Nat) : (protReg k).KeepsSafe orig := .of_whole_core fun w s => by split <;> rfl

theorem fspReg_keepsSafe (off : Nat) : RegsKeepSafe orig (fspReg off) := by
  dsimp only [fspReg, fspHomes]
  repeat' split
  all_goals first
    | exact of_none
    | exact of_some (protReg_keepsSafe _)
    | exact of_countersAt ⟨.of_core fun _ _ => rfl, .of_core fun _ _ => rfl, .of_core fun _ _ => rfl, .of_core fun _ _ => rfl,
        .of_core fun _ _ => rfl, .of_core fun _ _ => rfl, .of_core fun _ _ => rfl, .of_core fun _ _ => rfl⟩
    | exact of_some (.of_fields (by simp))
    | exact of_some (.of_whole_core fun _ _ => rfl)

theorem mgpReg_keepsSafe (off : Nat) : RegsKeepSafe orig (mgpReg off) := by
  dsimp only [mgpReg]
  repeat' split
  all_goals first
    | exact of_countersAt ⟨.of_core fun _ _ => rfl, .of_core fun _ _ => rfl, .of_core fun _ _ => rfl, .of_core fun _ _ => rfl,
        .of_core fun _ _ => rfl, .of_core fun _ _ => rfl⟩
    | exact of_some (.of_fields (by simp))

theorem lineReg_keepsSafe (x : Fin 4) (off : Nat) : RegsKeepSafe orig (lineReg x off) := by
  dsimp only [lineReg]
  repeat' split
  all_goals first
    | exact of_counterAt (.of_core fun _ _ => rfl)
    | exact of_some (.of_fields (List.forall_mem_singleton.2 (.of_core fun _ _ => rfl)))
    | exact of_some (.of_fields (by simp))

theorem evtReg_keepsSafe (off : Nat) : RegsKeepSafe orig (evtReg off) := by
  dsimp only [evtReg]
  repeat' split
  all_goals first
    | exact lineReg_keepsSafe _ _
    | exact of_counterAt (.of_core fun _ _ => rfl)
    | exact of_some roReg_keepsSafe
    | exact of_some (.of_fields (by simp))

theorem badgerReg_keepsSafe (off : Nat) : RegsKeepSafe orig (badgerReg off) := by
  dsimp only [badgerReg]
  repeat' split
  all_goals first
    | exact of_some roReg_keepsSafe
    | exact of_some (.of_whole testGo_keepsSafe)
    | exact of_some (statusReg_keepsSafe (.of_core fun _ _ => rfl))
    | exact of_countersAt ⟨.of_core fun _ _ => rfl, .of_core fun _ _ => rfl⟩
    | exact of_some (.of_fields (by simp))
    | exact of_some (.of_whole_core fun _ _ => rfl)
    | exact of_some (.of_whole_core (by simp))

theorem sweepBlock_keepsSafe (off : Nat) : RegsKeepSafe orig (sweepBlock off) := of_bind (fun n => sweepReg_keepsSafe n _) _

theorem arbReg_keepsSafe (off : Nat) : RegsKeepSafe orig (arbReg off) :=
  of_ite (resourceReg_keepsSafe _ _ _ _) (of_ite (resourceReg_keepsSafe _ _ _ _) (resourceReg_keepsSafe _ _ _ _))

theorem blockReg_keepsSafe (m : Master) (b off : Nat) : RegsKeepSafe orig (blockReg m b off) :=
  of_ite (devReg_keepsSafe _) <| of_ite (clkReg_keepsSafe _) <| of_ite (rstReg_keepsSafe _) <|
  of_ite (mbxReg_keepsSafe _) <| of_ite (limitReg_keepsSafe _) <| of_ite of_none <|
  of_ite (of_bind (fun _ => chModeReg_keepsSafe _ _) _) <| of_ite (of_bind (fun _ => engReg_keepsSafe _ _) _) <|
  of_ite (of_bind (fun _ => lacBlock_keepsSafe _ _) _) <| of_ite (of_bind (fun _ => motionReg_keepsSafe _ _) _) <|
  of_ite (of_bind (fun _ => progMem_keepsSafe _ _) _) <| of_ite (of_bind (fun _ => convReg_keepsSafe _ _) _) <|
  of_ite (auxReg_keepsSafe _) <| of_ite (refReg_keepsSafe _) <| of_ite (clrReg_keepsSafe _) <|
  of_ite (trigReg_keepsSafe _) <| of_ite of_none <| of_ite (of_bind (fun _ => outReg_keepsSafe _ _) _) <|
  of_ite (hamReg_keepsSafe _ _) <| of_ite (sweepBlock_keepsSafe _) <| of_ite (semReg_keepsSafe _ _) <|
  of_ite (arbReg_keepsSafe _) <| of_ite (portReg_keepsSafe _ _) <| of_ite (portReg_keepsSafe _ _) <|
  of_ite (portReg_keepsSafe _ _) <| of_ite (treeReg_keepsSafe _) <| of_ite (macReg_keepsSafe _) <|
  of_ite (fspReg_keepsSafe _) <| of_ite (mgpReg_keepsSafe _) <| of_ite (evtReg_keepsSafe _) <|
  of_ite (badgerReg_keepsSafe _) <| of_ite (of_some roReg_keepsSafe) <| of_ite (of_some roReg_keepsSafe) of_none

theorem regAt_keepsSafe (m : Master) (addr : Nat) : RegsKeepSafe orig (regAt m addr) := of_ite of_none (blockReg_keepsSafe _ _ _)

theorem busRegAt_keepsSafe (m : Master) (addr : Nat) : RegsKeepSafe orig (busRegAt m addr) := by
  unfold busRegAt
  split
  next r e => exact of_some (regAt_keepsSafe m addr r e)
  next => exact of_ite (of_some (.of_fields nofun)) of_none

end Sys2Proof.Machine
end

section
namespace Sys2Proof.Machine
variable {orig : State}
open TableKeepsSafe

/-! ### Every object of the dictionary -/

theorem objsChannel_keepsSafe (n : Ch) (j el : Nat) : TableKeepsSafe orig (objsChannel n j el) :=
  of_ite (objsMode_keepsSafe _ _ _) <| of_ite (objsSignal_keepsSafe _ _ _) <| of_ite (objsMotion_keepsSafe _ _ _) <|
  of_ite (objsOutput_keepsSafe _ _ _) <| of_ite (objsSweep_keepsSafe _ _ _) of_none

theorem objsAt_keepsSafe (idx el : Nat) : TableKeepsSafe orig (objsAt idx el) :=
  of_ite (objsIdentity_keepsSafe _) <| of_ite (objsDevice_keepsSafe _ _) <| of_ite (objsPeriod_keepsSafe _ _) <|
  of_ite (objsRop_keepsSafe _ _) <| of_ite (objsEth_keepsSafe _ _) <| of_ite (objsRonko_keepsSafe _ _) <|
  of_ite (objsMgp_keepsSafe _) <| of_ite (objsFsp_keepsSafe _ _) <|
  of_ite (of_bind (fun _ => objsChannel_keepsSafe _ _ _) _) <| of_ite of_none <|
  of_ite (of_bind (fun _ => objsEngine_keepsSafe _ _ _) _) <| of_ite (of_bind (fun _ => objsLac_keepsSafe _ _ _) _) <|
  of_ite (objsEnv_keepsSafe _) <| of_ite of_none <| of_ite (of_bind (fun _ => objsConv_keepsSafe _ _ _) _) <|
  of_ite (objsAux_keepsSafe _ _) <| of_ite (objsHamper_keepsSafe _ _) <| of_ite (objsArb_keepsSafe _ _) <|
  of_ite (objsBadger_keepsSafe _ _) <| of_ite (objsTrust_keepsSafe _ _) of_none

theorem rawObj_keepsSafe {r : Reg} (h : r.KeepsSafe orig) (b addr : Nat) : (rawObj b r addr).KeepsSafe orig :=
  .of_put (fun w => h.put w.word) fun _ _ _ => rfl

/-- Whatever object a request finds is safe, one of the raw window included (R90). -/
theorem objAt_keepsSafe {idx el : Nat} {o : Obj} (e : objAt idx el = .ok o) : o.KeepsSafe orig := by
  unfold objAt at e
  dsimp only at e
  split at e
  · cases e
  split at e
  · split at e
    · split at e
      next r hr =>
        cases e
        exact rawObj_keepsSafe (regAt_keepsSafe _ _ r hr) _ _
      next => cases e
    · cases e
  · split at e
    next o' ho =>
      cases e
      exact objsAt_keepsSafe _ _ o ho
    next =>
      split at e
      · cases e
      · split at e
        · cases e
          exact .of_core (fun _ _ => rfl) fun _ _ _ => rfl
        · cases e

/-! ### One request -/

section
variable {s : State}

theorem range_of_verdict {o : Obj} {ty : Byte} {w : W} (h : o.verdict ty w = eOk) : o.range w = true := by
  obtain ⟨-, rest⟩ := eq_ok_of_firstCode_cons h
  obtain ⟨-, rest⟩ := eq_ok_of_firstCode_cons rest
  obtain ⟨legal, -⟩ := eq_ok_of_firstCode_cons rest
  unfold Obj.rangeCode at legal
  split at legal
  next e => exact (Bool.and_eq_true_iff.1 e).2
  next => exact absurd legal (by decide)

theorem performOp_safe {o : Obj} (h : o.KeepsSafe orig) (r : Req) (ty : Byte) (data : List Byte) (hs : Safe orig s) :
    Safe orig (performOp o r ty data s) := by
  unfold performOp
  dsimp only
  split
  next e => exact (h.put ⟨r, data, s, s, s⟩ _ _ hs (range_of_verdict (beq_iff_eq.1 e)) s hs).congr (by simp)
  next => exact (h.onRefuse _ _ s hs).congr rfl

theorem perform_safe {o : Obj} (h : o.KeepsSafe orig) (r : Req) (ty : Byte) (data : List Byte) (hs : Safe orig s) :
    Safe orig (perform o r ty data s) := by
  have done := performOp_safe h r ty data hs
  unfold perform
  exact .ite done (done.congr (by simp))

@[simp] theorem afterObjRead_core (idx el : Nat) (s : State) : (afterObjRead idx el s).core = s.core := by
  unfold afterObjRead
  repeat' split
  all_goals simp

@[simp] theorem readAt_core (who : Requester) (idx : W16) (el ty : Byte) (s : State) : (readAt who idx el ty s).1.core = s.core := by
  unfold readAt
  dsimp only
  repeat' split
  all_goals simp

theorem writeAt_safe (g : StagedWrite) (hs : Safe orig s) : Safe orig (writeAt g s).1 := by
  unfold writeAt
  split
  · exact hs
  next o e => exact performOp_safe (objAt_keepsSafe e) _ _ _ hs

/-! ### Groups (R107 to R111) -/

/-- Step 5 admits the write, if there is an object to write. -/
def StagedWrite.InRange (s : State) (g : StagedWrite) : Prop :=
  ∀ o, objAt g.index.toNat g.element.toNat = .ok o → ∃ post seq, o.range ⟨g.req, g.data, s, post, seq⟩ = true

theorem groupPut_safe (hs : Safe orig s) {g : StagedWrite} (h : g.InRange s) {t : State} (ht : Safe orig t) :
    Safe orig (groupPut s t g) := by
  unfold groupPut
  split
  next o e =>
    obtain ⟨post, seq, range⟩ := h o e
    exact (objAt_keepsSafe e).put ⟨g.req, g.data, s, s, t⟩ post seq hs range t ht
  next => exact ht

theorem foldl_safe {α : Type} {f : State → α → State} (l : List α) (h : ∀ x ∈ l, ∀ t, Safe orig t → Safe orig (f t x))
    (hs : Safe orig s) : Safe orig (l.foldl f s) := by
  induction l generalizing s with
  | nil => exact hs
  | cons x l ih => exact ih (fun y hy => h y (List.mem_cons_of_mem x hy)) (h x List.mem_cons_self s hs)

theorem settleSides_safe (s : State) {t : State} (ht : Safe orig t) : Safe orig (settleSides s t) :=
  foldl_safe _ (fun _ _ _ hu => .ite hu (hu.congr (by simp))) ht

/-- The writes of a group that are all in range. -/
theorem groupPost_safe {gs : List StagedWrite} (h : ∀ g ∈ gs, g.InRange s) (hs : Safe orig s) : Safe orig (groupPost gs s) := by
  have put (p : StagedWrite → Bool) {t : State} (ht : Safe orig t) : Safe orig ((gs.filter p).foldl (groupPut s) t) :=
    foldl_safe _ (fun g hg _ hu => groupPut_safe hs (h g (List.mem_of_mem_filter hg)) hu) ht
  exact settleSides_safe s (put _ (put _ hs))

/-- Every write of a group has its step. -/
theorem exists_mem_groupSteps {g : StagedWrite} {gs : List StagedWrite} (hg : g ∈ gs) (s t m : State) :
    ∃ u, (g, u) ∈ groupSteps s t m gs := by
  induction gs generalizing t m with
  | nil => cases hg
  | cons x gs ih =>
    unfold groupSteps
    rcases List.mem_cons.1 hg with rfl | hg
    · split
      · exact ⟨m, List.mem_cons_self⟩
      · exact ⟨t, List.mem_cons_self⟩
    · split
      · obtain ⟨u, hu⟩ := ih hg t (groupPut s m x)
        exact ⟨u, List.mem_cons_of_mem _ hu⟩
      · obtain ⟨u, hu⟩ := ih hg (groupPut s t x) m
        exact ⟨u, List.mem_cons_of_mem _ hu⟩

theorem inRange_of_groupCode {post u : State} {g : StagedWrite} (h : groupCode post s (g, u) = eOk) : g.InRange s := by
  intro o e
  simp only [groupCode, e] at h
  exact ⟨post, u, range_of_verdict h⟩

/-- A group none of whose writes is refused has them all in range. -/
theorem inRange_of_applied {gs : List StagedWrite} (h : (groupParts gs s).findIdx? (fun x => groupCode (groupPost gs s) s x != eOk) = none) :
    ∀ g ∈ gs, g.InRange s := by
  intro g hg
  obtain ⟨u, hu⟩ := exists_mem_groupSteps hg s s (groupOthers gs s)
  exact inRange_of_groupCode (by simpa using List.findIdx?_eq_none_iff.1 h (g, u) hu)

theorem groupRefused_safe (post : State) (x : StagedWrite × State) (code : Byte) (hs : Safe orig s) :
    Safe orig (groupRefused post x code s) := by
  unfold groupRefused
  split
  · exact hs
  next o e => exact (objAt_keepsSafe e).onRefuse _ _ s hs

theorem getD_map_safe {α : Type} {f : α → State} (h : ∀ x, Safe orig (f x)) (o : Option α) (hs : Safe orig s) :
    Safe orig ((o.map f).getD s) := by
  cases o with
  | none => exact hs
  | some x => exact h x

theorem runGroup_safe (gs : List StagedWrite) (hs : Safe orig s) : Safe orig (runGroup gs s).1 := by
  unfold runGroup
  dsimp only
  split
  next e =>
    have applied := groupPost_safe (inRange_of_applied e) hs
    dsimp only
    exact applied
  next => exact getD_map_safe (fun x => groupRefused_safe _ x _ hs) _ hs

/-! ### The mailbox and the bus (R150 to R154) -/

theorem Safe.modMbx {f : Mailbox → Mailbox} (h : s.trust.mbx.staged = [] → (f s.trust.mbx).staged = []) (hs : Safe orig s) :
    Safe orig (s.modMbx f) :=
  hs.follow rfl h

theorem Safe.mbxResult (code : Byte) (pos : Nat) (epoch : W16) (hs : Safe orig s) : Safe orig (mbxResult s code pos epoch) :=
  hs.congr rfl

theorem mbxWrite_safe (hs : Safe orig s) : Safe orig (mbxWrite s) := by
  unfold mbxWrite
  dsimp only
  split
  · exact (hs.modMbx id).mbxResult _ _ _
  next g _ => exact (writeAt_safe g (hs.modMbx id)).mbxResult _ _ _

theorem mbxCommit_safe (hs : Safe orig s) : Safe orig (mbxCommit s) := by
  have done := runGroup_safe s.trust.mbx.staged (Safe.modMbx (f := fun m => { m with staged := [] }) (fun _ => rfl) hs)
  unfold mbxCommit
  dsimp only
  split
  · exact hs.mbxResult _ _ _
  · split
    · exact done.mbxResult _ _ _
    · exact done.mbxResult _ _ _

theorem mbxCommand_safe (cmd : Nat) (hs : Safe orig.marked s) : Safe orig.marked (mbxCommand cmd s) := by
  have begun : Safe orig.marked (s.modMbx fun m => { m with cmd := BitVec.ofNat 3 cmd }) := hs.modMbx id
  unfold mbxCommand
  dsimp only
  split
  · exact mbxWrite_safe begun
  · exact begun.congr_gist (by simp)
  · exact mbxCommit_safe begun
  · exact begun.congr_gist (by simp)
  · exact begun.congr_gist (by simp)
  · exact hs

theorem writeReg_safe {r : Reg} (h : r.KeepsSafe orig) (m : Master) (addr : Nat) (w : Word) (hs : Safe orig s) :
    Safe orig (writeReg r m addr w s) :=
  .ite (hs.congr (by simp)) (.ite hs (h.put w s hs))

theorem busWrite_safe {r : Reg} (h : r.KeepsSafe orig.marked) (m : Master) (addr : Nat) (w : Word) (hs : Safe orig.marked s) :
    Safe orig.marked (busWrite r m addr w s) :=
  have written := writeReg_safe h m addr w hs
  .ite (.ite (mbxCommand_safe _ hs) written) (.ite (.ite (hs.congr (by simp)) written) written)

end
end Sys2Proof.Machine
end

section
namespace Sys2Proof.Machine
variable {orig : State}

section
variable {s : State}

/-! ### The ROP server (R107 to R131) -/

theorem runOp_safe (who : Requester) (q : Request) (from_ : Origin) (o : Op) (hs : Safe orig s) :
    Safe orig (runOp who q from_ s o).1 := by
  have written := writeAt_safe (o.write who) hs
  unfold runOp
  dsimp only
  split
  · exact hs.congr (by simp)
  · split
    · repeat' split
      all_goals exact written.congr (by simp)
    · repeat' split
      all_goals exact hs.congr (by simp)

theorem runOps_safe (who : Requester) (q : Request) (from_ : Origin) (ops : List Op) (hs : Safe orig s) :
    Safe orig (runOps who q from_ ops s).1 := by
  induction ops generalizing s with
  | nil => exact hs
  | cons o ops ih => exact ih (runOp_safe who q from_ o hs)

@[simp] theorem groupReads_core (who : Requester) (ops : List Op) (done : List OpResult) (s : State) :
    (groupReads who ops done s).1.core = s.core := by
  induction ops generalizing done s with
  | nil => rfl
  | cons o ops ih =>
    unfold groupReads
    dsimp only
    repeat' split
    all_goals simp [ih]

theorem runGroupOps_safe (who : Requester) (q : Request) (hs : Safe orig s) : Safe orig (runGroupOps who q s).1 := by
  have written := runGroup_safe ((q.ops.filter (·.op == opWrite)).map (·.write who)) hs
  unfold runGroupOps
  split
  · exact hs
  · dsimp only
    split
    next e => rw [e] at written; exact written.congr (by simp)
    next e => rw [e] at written; exact written

theorem execute_safe (q : Request) (o : Origin) (hs : Safe orig s) : Safe orig (execute s q o).1 := by
  have grouped := runGroupOps_safe (requesterOf s q o) q hs
  have single := runOps_safe (requesterOf s q o) q o q.ops hs
  unfold execute
  dsimp only
  cases q.flags &&& fGroup != 0 with
  | true => exact .ite (grouped.congr (by simp)) (grouped.congr rfl)
  | false => exact .ite (single.congr (by simp)) (single.congr rfl)

theorem serveOne_safe (us : Nat) (hs : Safe orig s) : Safe orig (serveOne us s) := by
  unfold serveOne
  split
  · exact hs
  next q rest _ =>
    split
    · exact hs
    · have taken : Safe orig ((takeCommand s (datagramRecs q.bytes).length).1.modRop fun r =>
          { r with queue := rest, serviceUs := (us :: r.serviceUs).take 64 }) := hs.congr (by simp)
      dsimp only
      split
      · exact taken
      next x _ => exact .ite ((execute_safe x q.origin taken).congr (by simp)) taken

theorem serveMany_safe (n us : Nat) (hs : Safe orig s) : Safe orig (serveMany n us s) := by
  induction n generalizing s with
  | zero => exact hs
  | succ n ih => exact ih (serveOne_safe us hs)

/-! ### The tunnel (R522 to R524) -/

theorem takeRequest_safe (x : RxSlot) (hs : Safe orig s) : Safe orig (takeRequest s x) := by
  unfold takeRequest
  dsimp only
  refine serveMany_safe _ _ (Safe.congr (s := s) hs ?_)
  repeat' split
  all_goals simp

theorem takeWhole_safe (x : RxSlot) (hs : Safe orig s) : Safe orig (takeWhole s x) :=
  .ite (takeRequest_safe x hs) (.ite (hs.congr (by simp)) (hs.congr (by simp)))

/-- A segment joins its slot, and a datagram that it completes is handled. -/
theorem fill_safe (i : Fin 8) (g : Segment) (hs : Safe orig s) :
    Safe orig (if ((fillSlot s i g).ronko.tun.rx[i.val]).full then takeWhole (fillSlot s i g) ((fillSlot s i g).ronko.tun.rx[i.val])
      else fillSlot s i g) :=
  have filled : Safe orig (fillSlot s i g) := hs.congr (by simp)
  .ite (takeWhole_safe _ filled) filled

theorem beginSlot_safe {kind : Nat} {g : Segment} {t : State} {i : Option (Fin 8)} (e : beginSlot s kind g = (t, i))
    (hs : Safe orig s) : Safe orig t := by
  have begun : Safe orig (beginSlot s kind g).1 := hs.congr (by simp)
  rwa [e] at begun

theorem takeSegment_safe (kind : Nat) (g : Segment) (hs : Safe orig s) : Safe orig (takeSegment s kind g) := by
  unfold takeSegment
  dsimp only
  split
  · exact hs.congr (by simp)
  cases slotFilling s.ronko.tun kind g with
  | none =>
    dsimp only
    split
    · split
      next e => exact fill_safe _ _ (beginSlot_safe e hs)
      next e => exact beginSlot_safe e hs
    · exact hs
  | some i =>
    have dropped : Safe orig (dropSlot s i) := hs.congr (by simp)
    dsimp only
    split
    · split
      next e => exact fill_safe _ _ (beginSlot_safe e dropped)
      next e => exact beginSlot_safe e dropped
    · exact fill_safe _ _ hs

theorem deliver_safe (p : Port) (b : List Byte) (hs : Safe orig s) : Safe orig (deliver s p b) := by
  unfold deliver
  dsimp only
  split
  case h_6 => exact .ite (takeSegment_safe _ _ hs) hs
  all_goals
    repeat' split
    all_goals exact hs.congr (by simp)

theorem takeFrame_safe (p : Port) (b : List Byte) (hs : Safe orig s) : Safe orig (takeFrame s p b) := by
  have taken : Safe orig (if (frameRoute s p b).here then deliver s p b
      else if (frameRoute s p b).outs.isEmpty then nackFrame s b 4 else s) :=
    .ite (deliver_safe p b hs) (.ite (hs.congr (by simp)) hs)
  exact taken.congr (by simp [takeFrame])

end
end Sys2Proof.Machine
end

section
namespace Sys2Proof.Machine
variable {orig : State}

/-! ### Commands -/

/-- What the command leaves can follow what it found, but that it may stage. -/
abbrev CommandKeepsSafe (orig : State) (c : Instr) : Prop := KeepsSafe orig.marked fun s => settled s (exec c s)

section
variable {s : State}

theorem supplyFail_keepsSafe (sup : Supply) : CommandKeepsSafe orig (.supplyFail sup) := by
  intro s hs
  dsimp only [exec, execSupplyFail, settled_next]
  split
  · exact powerOn_safe (hs.congr_gist rfl)
  · exact .ite (hs.congr_gist rfl) (enterReset_safe _ _ (hs.congr_gist rfl))

/-- VERIFY ends in RUN or in SAFE (R213). -/
theorem verifyComplete_keepsSafe (img0 img1 : FlashImage) (record : RecordObs) :
    CommandKeepsSafe orig (.verifyComplete img0 img1 record) := by
  intro s hs
  dsimp only [exec, execVerifyComplete]
  repeat' split
  all_goals rw [settled_next]
  · exact enterRun_safe (hs.congr_gist (by simp))
  · exact hs.congr_gist (by simp)
  · exact hs

theorem appReverifyComplete_keepsSafe (img0 img1 : FlashImage) : CommandKeepsSafe orig (.appReverifyComplete img0 img1) := by
  intro s hs
  dsimp only [exec, execAppReverifyComplete]
  repeat' split
  all_goals rw [settled_next]
  · exact hs.lines_marked (by simp) fun _ => by simp
  · exact enterRun_safe (hs.congr_gist (by simp))
  · exact hs.congr_gist (by simp)
  · exact hs

/-! ### Commands that write a register or an object -/

theorem reg64LowWrite_keepsSafe (m : Master) (addr : Nat) (w : Word) : CommandKeepsSafe orig (.reg64LowWrite m addr w) := by
  intro s hs
  dsimp only [exec, execReg64LowWrite]
  split
  next => exact hs
  next r e => exact busWrite_safe (busRegAt_keepsSafe m addr r e) m addr w hs

theorem counterWrite_keepsSafe (m : Master) (addr : Nat) (w : Word) (event : Bool) :
    CommandKeepsSafe orig (.counterWrite m addr w event) := by
  intro s hs
  dsimp only [exec, execCounterWrite]
  split
  next => exact hs
  next r e =>
    have safe := busRegAt_keepsSafe (orig := orig.marked) m addr r e
    have written := busWrite_safe safe m addr w hs
    rw [settled_next]
    split
    next h e => exact .ite written (.ite (safe.counter h e _ _ written) (safe.counter h e _ _ written))
    next => exact written

theorem statusW1c_keepsSafe (m : Master) (addr : Nat) (w : Word) (wrapNow collideNow : Bool) :
    CommandKeepsSafe orig (.statusW1c m addr w wrapNow collideNow) := by
  intro s hs
  dsimp only [exec, execStatusW1c]
  split
  next => exact hs
  next r e =>
    have safe := busRegAt_keepsSafe (orig := orig.marked) m addr r e
    have written := busWrite_safe safe m addr w hs
    rw [settled_next]
    split
    next h e => exact safe.status h e _ _ written
    next => exact written

theorem registerWrite_keepsSafe (m : Master) (addr : Nat) (w : Word) : CommandKeepsSafe orig (.registerWrite m addr w) := by
  intro s hs
  dsimp only [exec, execRegisterWrite]
  split
  next =>
    split
    · exact hs.congr_gist rfl
    · exact hs
  next r e => exact busWrite_safe (busRegAt_keepsSafe m addr r e) m addr w hs

theorem ropWrite_keepsSafe (r : Req) (idx : W16) (el ty : Byte) (data : List Byte) :
    CommandKeepsSafe orig (.ropWrite r idx el ty data) := fun _ hs =>
  (writeAt_safe ⟨r, idx, el, ty, data⟩ hs).congr_gist (by simp [exec, execRopWrite])

theorem mgpWrite_keepsSafe (idx : W16) (el dtype : Byte) (epoch : Option W16) (data : List Byte) :
    CommandKeepsSafe orig (.mgpWrite idx el dtype epoch data) := by
  intro s hs
  dsimp only [exec, execMgpWrite]
  repeat' split
  · exact hs
  · exact hs.congr_gist (by simp)
  · exact hs.congr_gist (by simp)
  · exact (writeAt_safe ⟨⟨.mgmt, .mgp, epoch⟩, idx, el, dtype, data⟩ hs).congr_gist (by simp)

/-! ### Commands that carry datagrams and frames -/

theorem takeDatagram_safe (peer : Peer) (broadcast : Bool) (b : List Byte) (hs : Safe orig.marked s) :
    Safe orig.marked (takeDatagram s peer broadcast b) := hs.congr_gist (by simp)

theorem ropDatagram_keepsSafe (peer : Peer) (broadcast : Bool) (bytes : List Byte) (serve serviceUs : Nat) :
    CommandKeepsSafe orig (.ropDatagram peer broadcast bytes serve serviceUs) := fun _ hs =>
  .ite (serveMany_safe _ _ (.ite (takeDatagram_safe peer broadcast bytes hs) hs)) hs

theorem broadcastReply_keepsSafe : CommandKeepsSafe orig .broadcastReply := by
  intro s hs
  dsimp only [exec, execBroadcastReply]
  split
  · exact hs
  next peer bytes rest _ =>
    have taken : Safe orig.marked (s.modRop fun r => { r with discovery := rest }) := hs.congr_gist rfl
    split
    · exact hs
    split
    · exact taken
    next q _ =>
      split
      · exact taken.congr_gist (by simp)
      · exact (execute_safe q ⟨peer, ownEntry, none⟩ taken).congr_gist (by simp)

theorem normalFrameRx_keepsSafe (p : Port) (bytes : List Byte) (fin : FrameEnd) :
    CommandKeepsSafe orig (.normalFrameRx p bytes fin) := by
  intro s hs
  dsimp only [exec, execNormalFrameRx]
  repeat' split
  case h_4 => exact takeFrame_safe p _ (hs.congr_gist (by simp))
  all_goals exact hs.congr_gist (by simp)

theorem frameEnd_safe (b : List Byte) (hs : Safe orig.marked s) : Safe orig.marked (frameEnd b s) := by
  unfold frameEnd
  dsimp only
  refine .ite (deviceReset_safe (hs.congr_gist ?_)) (hs.congr_gist ?_)
  all_goals
    repeat' split
    all_goals simp

theorem mgpFrameEnd_keepsSafe (bytes : List Byte) : CommandKeepsSafe orig (.mgpFrameEnd bytes) := fun _ hs =>
  .ite (frameEnd_safe bytes hs) hs

theorem mgpPoll_keepsSafe (alive : BitVec 4) : CommandKeepsSafe orig (.mgpPoll alive) := by
  intro s hs
  dsimp only [exec, execMgpPoll]
  split
  · exact hs
  · exact frameEnd_safe _ (.ite (hs.congr_gist (by simp)) (hs.congr_gist (by simp)))

theorem badgerClassify_keepsSafe : CommandKeepsSafe orig .badgerClassify := by
  intro s hs
  dsimp only [exec, execBadgerClassify]
  split
  next m _ => exact classify_safe m (hs.congr_gist rfl)
  next => exact hs

theorem reg64LowRead_keepsSafe (m : Master) (addr : Nat) : CommandKeepsSafe orig (.reg64LowRead m addr) := by
  intro s hs
  dsimp only [exec, execReg64LowRead]
  split
  · exact hs
  · exact hs.congr_gist (by simp)

theorem stepStart_keepsSafe (n : Ch) : CommandKeepsSafe orig (.stepStart n) := by
  intro s hs
  have looked : Safe orig.marked (nextStep s n).1 := hs.congr_gist (by simp)
  dsimp only [exec, execStepStart]
  split
  · split
    all_goals
      next e =>
        rw [e] at looked
        exact looked.congr_gist (by simp)
  · exact hs

/-- A reset of the engine's neighbours apart, an exchange with the parent reaches the trim alone (R67). -/
theorem childExchange_safe (t1 t2 t3 t4 : W64) (parentLocked : Bool) (hs : Safe orig.marked s) :
    Safe orig.marked (childExchange s t1 t2 t3 t4 parentLocked) := by
  refine hs.next (by simp) (fun h => ?_) (by simp)
  obtain ⟨trim, fifo, history, arp, lines, reqs⟩ := withinSizes_iff.1 h
  simp [withinSizes_iff, childExchange_trimFits, trim, fifo, history, arp, lines, reqs]

theorem timeRsp_keepsSafe (p : Port) (stamps : W64 × W64) (reqNo : W16) (parentLocked : Bool) (ago : Nat) :
    CommandKeepsSafe orig (.timeRsp p stamps reqNo parentLocked ago) := by
  intro s hs
  dsimp only [exec, execTimeRsp, settled_next]
  repeat' split
  case h_1.isFalse => exact childExchange_safe _ _ _ _ _ hs
  all_goals exact hs.congr_gist (by simp)

/-- The cache holds sixteen addresses at most (Table 3.7). -/
theorem Safe.arp {e : Eth} (hs : Safe orig.marked s) (h : s.eth.arp.length ≤ 16 → e.arp.length ≤ 16) :
    Safe orig.marked { s with eth := e } := by
  refine hs.next ⟨rfl, rfl, rfl, rfl⟩ (fun hw => ?_) id
  obtain ⟨trim, fifo, history, arp, rest⟩ := withinSizes_iff.1 hw
  exact withinSizes_iff.2 ⟨trim, fifo, history, h arp, rest⟩

theorem arpRequest_keepsSafe (target sender : Word) (senderMac : BitVec 48) :
    CommandKeepsSafe orig (.arpRequest target sender senderMac) := by
  intro s hs
  dsimp only [exec, execArpRequest]
  split
  · exact (hs.arp (e := { s.eth with arp := (⟨sender, senderMac⟩ :: s.eth.arp.filter fun x => x.ip != sender).take 16 })
      fun _ => List.length_take_le _ _).congr_gist (by simp [State.modEth])
  · exact hs

theorem arpAge_keepsSafe (ip : Word) : CommandKeepsSafe orig (.arpAge ip) := fun s hs =>
  hs.arp (e := { s.eth with arp := s.eth.arp.filter fun x => x.ip != ip }) fun h => (List.length_filter_le _ _).trans h

theorem eventDatagramSend_keepsSafe : CommandKeepsSafe orig .eventDatagramSend := by
  intro s hs
  dsimp only [exec, execEventDatagramSend]
  split
  · exact hs
  next r rest e =>
    rw [settled_next]
    split
    · exact (hs.dropEvents (v := { s.events with fifo := rest }) (by simp [e])).congr_gist (by simp)
    · exact hs

/-- A line that is fetched again is the latest, and stays one of those held. -/
theorem xipHit_keepsSafe (addr : Word) : CommandKeepsSafe orig (.xipHit addr) := by
  intro s hs
  dsimp only [exec, execXipHit, settled_next]
  repeat' split
  next l _ h =>
    have held : l ∈ s.xip.lines := by simp_all
    exact hs.dropLines (by simp [List.length_erase_of_mem held, Nat.sub_add_cancel (List.length_pos_of_mem held)])
  all_goals exact hs

@[simp] theorem State.modLine_gist (s : State) (x : Fin 4) (f : EventLine → EventLine) : (s.modLine x f).gist = s.gist := rfl

@[simp] theorem drop_arp (e : Eth) : e.drop.arp = e.arp := rfl

@[simp] theorem force_reqs_length (a : Arb) (q : Nat) : (a.force q).reqs.length = a.reqs.length := foldl_force_reqs_length [q] a

@[simp] theorem apply_reqs_length (a : Arb) : a.apply.reqs.length = a.reqs.length := by
  unfold Arb.apply
  split <;> simp

theorem mgpRead_keepsSafe (idx : W16) (el dtype : Byte) : CommandKeepsSafe orig (.mgpRead idx el dtype) := by
  intro s hs
  have read := gist_eq_iff.1 (core_eq_iff.1 (readAt_core .mgmt idx el dtype s)).1
  dsimp only [exec, execMgpRead]
  repeat' split
  all_goals exact hs.congr_gist (by simp [read])

theorem saveComplete_keepsSafe : CommandKeepsSafe orig .saveComplete := by
  intro s hs
  dsimp only [exec, execSaveComplete, settled_next]
  split
  · exact hs.lines_marked (by simp) fun h => by simp [h]
  · exact hs

end

/-! ### Requests -/

theorem objLoadMain_keepsSafe (n : Ch) : (objLoadMain n).KeepsSafe orig := loadObj_keepsSafe n _ _ _ _

theorem objLoadOuter_keepsSafe (n : Ch) : (objLoadOuter n).KeepsSafe orig := loadObj_keepsSafe n _ _ _ _

theorem keepsSafe_of_requestOf {c : Instr} {q : DictWrite} (h : requestOf c = some q) : q.obj.KeepsSafe orig := by
  cases c
  case limitWrite r n el ty data =>
    obtain ⟨o, e, rfl⟩ := Option.map_eq_some_iff.mp h
    exact objLimit_keepsSafe n _ o e
  case notchDesign r n bank el v =>
    obtain ⟨o, e, rfl⟩ := Option.map_eq_some_iff.mp h
    exact objNotch_keepsSafe n _ _ o e
  all_goals cases h
  case ringConfig => exact objRingConfig_keepsSafe
  case ringFree => exact ringCmd_keepsSafe _
  case ringFlush => exact ringCmd_keepsSafe _
  case scanStart => exact objScanStart_keepsSafe
  case scanStop => exact objScanStop_keepsSafe
  case listStop r n v => exact objListStop_keepsSafe n
  case swpTrig r n v => exact objSwpTrig_keepsSafe n
  case modeRequest r n v => exact objMode_keepsSafe n
  case loopNRequest r e n => exact objLoopN_keepsSafe e
  case loadMain r n data => exact objLoadMain_keepsSafe n
  case loadOuter r n data => exact objLoadOuter_keepsSafe n
  case deviceReset => exact objDeviceReset_keepsSafe
  case appReset => exact objAppReset_keepsSafe
  case unlock => exact objUnlock_keepsSafe
  case lock => exact objLock_keepsSafe
  case keyProgram => exact objKeyProgram_keepsSafe
  case keyDisable => exact objKeyDisable_keepsSafe
  case claim r n v => exact objClaim_keepsSafe n
  case release r n v => exact objRelease_keepsSafe n
  case faultAck => exact objFaultAck_keepsSafe
  case force => exact objForce_keepsSafe
  case testEnter => exact objTestEnter_keepsSafe
  case testExit => exact objTestExit_keepsSafe
  case inject => exact objInject_keepsSafe
  case portEnWrite r p v => exact objPortEn_keepsSafe p
  case enumRestart => exact objEnumRestart_keepsSafe
  case schedTrig => exact objSchedTrig_keepsSafe
  case fspRelease => exact objFspRelease_keepsSafe
  case xipInvalidate => exact objXipInvalidate_keepsSafe
  case arbCommit => exact objArbCommit_keepsSafe
  all_goals exact .of_core (fun _ _ => rfl) fun _ _ _ => rfl

theorem request_keepsSafe {c : Instr} {q : DictWrite} (h : requestOf c = some q) : CommandKeepsSafe orig c := by
  intro s hs
  dsimp only
  rw [exec_of_requestOf h]
  exact perform_safe (keepsSafe_of_requestOf h) _ _ _ hs

/-! ### The other commands -/

/-- These commands reach what has a size, or go through registers, objects or datagrams. -/
theorem exec_keepsSafe_of_reaching {c : Instr} (hq : requestOf c = none) (hd : Part.dev ∈ touchesOf c) : CommandKeepsSafe orig c := by
  intro s hs
  cases c
  case supplyFail sup => exact supplyFail_keepsSafe sup s hs
  case aonPor => exact powerOn_safe (hs.congr_gist rfl)
  case rstNRecognised => exact enterReset_safe _ _ (hs.congr_gist rfl)
  case supWatchdogExpire => exact enterReset_safe _ _ hs
  case deviceResetTimeout => exact execDeviceResetTimeout_keepsSafe s hs
  case verifyComplete img0 img1 record => exact verifyComplete_keepsSafe img0 img1 record s hs
  case appReverifyComplete img0 img1 => exact appReverifyComplete_keepsSafe img0 img1 s hs
  case clockMonitorFail m count => exact clockFails_safe m count hs
  case appWdtCtrlWrite w => exact hs.congr (settled_execAppWdtCtrlWrite_core w s)
  case appWdtKick w => exact execAppWdtKick_keepsSafe w s hs
  case badgerClassify => exact badgerClassify_keepsSafe s hs
  case reg64LowWrite m addr w => exact reg64LowWrite_keepsSafe m addr w s hs
  case counterWrite m addr w event => exact counterWrite_keepsSafe m addr w event s hs
  case statusW1c m addr w wrapNow collideNow => exact statusW1c_keepsSafe m addr w wrapNow collideNow s hs
  case registerWrite m addr w => exact registerWrite_keepsSafe m addr w s hs
  case ropDatagram peer broadcast bytes serve us => exact ropDatagram_keepsSafe peer broadcast bytes serve us s hs
  case ropWrite r idx el ty data => exact ropWrite_keepsSafe r idx el ty data s hs
  case broadcastReply => exact broadcastReply_keepsSafe s hs
  case mbxWrite => exact mbxCommand_safe 1 hs
  case mbxCommit => exact mbxCommand_safe 3 hs
  case normalFrameRx p bytes fin => exact normalFrameRx_keepsSafe p bytes fin s hs
  case tunReq seg => exact .ite (takeSegment_safe _ seg hs) hs
  case tunRsp seg => exact .ite (takeSegment_safe _ seg hs) hs
  case tunEvt seg => exact .ite (takeSegment_safe _ seg hs) hs
  case mgpFrameEnd bytes => exact mgpFrameEnd_keepsSafe bytes s hs
  case mgpPoll alive => exact mgpPoll_keepsSafe alive s hs
  case mgpWrite idx el dtype epoch data => exact mgpWrite_keepsSafe idx el dtype epoch data s hs
  case bootEntry | pllLock | pllLockTimeout | refPresentTimeout | refReadySet | refWindowFail | refVoltsUpdate | appWdtExpire =>
    refine hs.congr_gist ?_
    dsimp only [exec, execBootEntry, execPllLock, execPllLockTimeout, execRefPresentTimeout, execRefReadySet,
      execRefWindowFail, execRefVoltsUpdate, execAppWdtExpire]
    repeat' split
    all_goals simp
  all_goals simp [requestOf, touchesOf] at hq hd

/-- The device state is no part that these commands reach, and the channels are one. Each keeps what `Safe` speaks of because the
operations it is made of do. -/
theorem exec_keepsSafe_of_channels {c : Instr} (hq : requestOf c = none) (hd : Part.dev ∉ touchesOf c)
    (hc : Part.ch ∈ touchesOf c) : CommandKeepsSafe orig c := by
  intro s hs
  cases c
  case limitWrite r n el ty data =>
    have e : objLimit n el.toNat = none := Option.map_eq_none_iff.mp hq
    exact hs.congr_gist (by simp [exec, execLimitWrite, e])
  case notchDesign r n bank el v =>
    have e : objNotch n bank.val el.toNat = none := Option.map_eq_none_iff.mp hq
    exact hs.congr_gist (by simp [exec, execNotchDesign, e])
  case cmdqEntry | frdyTimeout | fspAttemptFail | cmdqEntryComplete | modeFault =>
    dsimp only [exec, execCmdqEntry, execFrdyTimeout, execFspAttemptFail, execCmdqEntryComplete, execModeFault]
    repeat' split
    all_goals exact hs.lines_marked (by simp) fun h => by simp [h]
  case stepStart n => exact stepStart_keepsSafe n s hs
  case loopTick | sessCmdOpen | sessCmdTouch | sessCmdClose | captureStart | captureComplete | captureCopyDone | auxResult |
    calCaptureDone | phaseUpdate | hwRecordWrite =>
    refine hs.congr_gist ?_
    dsimp only [exec, execLoopTick, execSessCmdOpen, execSessCmdTouch, execSessCmdClose, execCaptureStart,
      execCaptureComplete, execCaptureCopyDone, execAuxResult, execCalCaptureDone, execPhaseUpdate, execHwRecordWrite]
    repeat' split
    all_goals simp
  case writeRing | ringPush | sessionClose | sessionExpire | unlockTimeout | mgmtAliveTimeout | modeChangeApply | enableStart
    | enableStageOn | enableLoopClose | enableModeEntry | safeRampEnd | overrunFallback | powerLimitExceeded =>
    refine hs.congr_gist ?_
    dsimp only [exec, execWriteRing, execRingPush, execSessionClose, execSessionExpire, execUnlockTimeout,
      execMgmtAliveTimeout, execModeChangeApply, execEnableStart, execEnableStageOn, execEnableLoopClose, execEnableModeEntry,
      execSafeRampEnd, execOverrunFallback, execPowerLimitExceeded]
    repeat' split
    all_goals simp
  case engineService | leEnd | leTunt | deadlineOverrun | outerStep | folEdge | folStandstill | followingErrorReport |
    oscillationReport | fastSpApply | tuneSegmentClose | tuneDone | lacFrameEnd | lacUpdate | clrNFall | clrNRise | clampTrip |
    clampRelease | fastFire | rangeMake | rangeSwitch | rangeBreakEnd | rangeHoldSwitch | rangeNoOverlap | triginEdge |
    triggerExecute | stepDwellEnd | stepMeasureEnd | stepAdvanceTrigger =>
    refine hs.congr_gist ?_
    dsimp only [exec, execEngineService, execLeEnd, execLeTunt, execDeadlineOverrun, execOuterStep, execFolEdge,
      execFolStandstill, execFollowingErrorReport, execOscillationReport, execFastSpApply, execTuneSegmentClose, execTuneDone,
      execLacFrameEnd, execLacUpdate, execClrNFall, execClrNRise, execClampTrip, execClampRelease, execFastFire, execRangeMake,
      execRangeSwitch, execRangeBreakEnd, execRangeHoldSwitch, execRangeNoOverlap, execTriginEdge, execTriggerExecute,
      execStepDwellEnd, execStepMeasureEnd, execStepAdvanceTrigger]
    repeat' split
    all_goals simp
  case grantEnd | injectionEnd =>
    refine hs.congr_gist ?_
    dsimp only [exec, execGrantEnd, execInjectionEnd]
    repeat' split
    all_goals simp
  all_goals simp [requestOf, touchesOf, Part.reset, Part.writable] at hq hd hc

/-- Neither the device state nor the channels are parts that these commands reach. -/
theorem exec_keepsSafe_of_apart {c : Instr} (hq : requestOf c = none) (hd : Part.dev ∉ touchesOf c)
    (hc : Part.ch ∉ touchesOf c) : CommandKeepsSafe orig c := by
  intro s hs
  cases c
  case reg64LowRead m addr => exact reg64LowRead_keepsSafe m addr s hs
  case mbxStage => exact mbxCommand_safe 2 hs
  case mbxAbort => exact mbxCommand_safe 4 hs
  case mbxAppend => exact mbxCommand_safe 5 hs
  case tbcRateWrite w => exact execTbcRateWrite_keepsSafe w s hs
  case fifoPop => exact execFifoPop_keepsSafe s hs
  case saveComplete => exact saveComplete_keepsSafe s hs
  case arpRequest target sender mac => exact arpRequest_keepsSafe target sender mac s hs
  case arpAge ip => exact arpAge_keepsSafe ip s hs
  case eventDatagramSend => exact eventDatagramSend_keepsSafe s hs
  case timeRsp p stamps no locked ago => exact timeRsp_keepsSafe p stamps no locked ago s hs
  case xipHit addr => exact xipHit_keepsSafe addr s hs
  case ropRead r idx el ty => exact (hs.congr (readAt_core r.who idx el ty s)).congr_gist rfl
  case mgpRead idx el dtype => exact mgpRead_keepsSafe idx el dtype s hs
  case lockoutEnd | arbGrant | flashStuck | mgpFlashWrite | mgpFlashErase | xipFillComplete =>
    dsimp only [exec, execLockoutEnd, execArbGrant, execFlashStuck, execMgpFlashWrite, execMgpFlashErase, execXipFillComplete]
    repeat' split
    all_goals exact hs.lines_marked (by simp) fun h => by simp [h]
  case aonResetRelease | refPresentSet | refReadyTimeout | tbcLoad | supplyRisingThreshold | rstNHigh | loopSyncRestart |
    periodRegWrite | scanTimerWrap | scanDelayEnd | auxSlotStart | scanEnd | pwgRun | pwgWrap | pwgWidthEnd =>
    refine hs.congr_gist ?_
    dsimp only [exec, execAonResetRelease, execRefPresentSet, execRefReadyTimeout, execTbcLoad, execSupplyRisingThreshold,
      execRstNHigh, execLoopSyncRestart, execPeriodRegWrite, execScanTimerWrap, execScanDelayEnd, execAuxSlotStart, execScanEnd,
      execPwgRun, execPwgWrap, execPwgWidthEnd]
    repeat' split
    all_goals simp
  case readRing | ringPop | lossRateUpdate | semWrite | sessionOpen | keepalive | busyPerSUpdate | transactionTimeout | linkUp
    | dhcpRetransmit | dhcpReply | dhcpRenew | dhcpRebind | leaseExpire | icmpEcho | macFrameRx | macFrameTx | mdioGo |
    mdioComplete | ethernetLinkLoss | rmiiPllLock | protViolation =>
    refine hs.congr_gist ?_
    dsimp only [exec, execReadRing, execRingPop, execLossRateUpdate, execSemWrite, execSessionOpen, execKeepalive,
      execBusyPerSUpdate, execTransactionTimeout, execLinkUp, execDhcpRetransmit, execDhcpReply, execDhcpRenew, execDhcpRebind,
      execLeaseExpire, execIcmpEcho, execMacFrameRx, execMacFrameTx, execMdioGo, execMdioComplete, execEthernetLinkLoss,
      execRmiiPllLock, execProtViolation]
    repeat' split
    all_goals simp
  case leNop | leMov | leAdd | leSub | leMul | leMac | leMsu | leClra | leLda | leSta | leMin | leMax | leLim | leAbs | leNeg
    | leShl | leShr | leDiv | leIntg | leBqd | leLdi | leBneg | leBpos | leBz | leBnz | leBfs | leJmp | clampHoldRepeat |
    trigoutPulseEnd | expressFrameRx | syncExchangeStart | timeReq | exchangeTimeout | trigFrame =>
    refine hs.congr_gist ?_
    dsimp only [exec, execLeNop, execLeMov, execLeAdd, execLeSub, execLeMul, execLeMac, execLeMsu, execLeClra, execLeLda,
      execLeSta, execLeMin, execLeMax, execLeLim, execLeAbs, execLeNeg, execLeShl, execLeShr, execLeDiv, execLeIntg, execLeBqd,
      execLeLdi, execLeBneg, execLeBpos, execLeBz, execLeBnz, execLeBfs, execLeJmp, execClampHoldRepeat, execTrigoutPulseEnd,
      execExpressFrameRx, execSyncExchangeStart, execTimeReq, execExchangeTimeout, execTrigFrame]
    repeat' split
    all_goals simp
  case arbWindowBoundary | arbWaitForce | signalDetect | trainComplete | alignComplete | portRestart | linkLoss | lcAck |
    lcNak | lcXack | lcXnak | lcCredit | lcXcredit | lcHello | lcLinkdown | retryTimeout | frameFail | enumStart | enumAssign |
    enumDone | enumReady | topoChange | rootlessTimeout | eqAdapt | eyeUpdate | tunNack | reassemblyTimeout | tunTxGo |
    tunTxCancel | tunRxFree | frdyReady | xipMiss | busyPoll | mfQuietReacquire | mgpFrameStart | mgpStream | mgpFlashRead |
    mgpReplyComplete | ackQuietClose | appPost | alertPulseEnd | evtPulseEnd =>
    refine hs.congr_gist ?_
    dsimp only [exec, execArbWindowBoundary, execArbWaitForce, execSignalDetect, execTrainComplete, execAlignComplete,
      execPortRestart, execLinkLoss, execLcAck, execLcNak, execLcXack, execLcXnak, execLcCredit, execLcXcredit, execLcHello,
      execLcLinkdown, execRetryTimeout, execFrameFail, execEnumStart, execEnumAssign, execEnumDone, execEnumReady,
      execTopoChange, execRootlessTimeout, execEqAdapt, execEyeUpdate, execTunNack, execReassemblyTimeout, execTunTxGo,
      execTunTxCancel, execTunRxFree, execFrdyReady, execXipMiss, execBusyPoll, execMfQuietReacquire, execMgpFrameStart,
      execMgpStream, execMgpFlashRead, execMgpReplyComplete, execAckQuietClose, execAppPost, execAlertPulseEnd, execEvtPulseEnd]
    repeat' split
    all_goals simp
  all_goals simp [requestOf, touchesOf, Part.reset, Part.writable] at hq hd hc

theorem exec_keepsSafe (c : Instr) : CommandKeepsSafe orig c := by
  cases hq : requestOf c with
  | some q => exact request_keepsSafe hq
  | none =>
    by_cases hd : Part.dev ∈ touchesOf c
    · exact exec_keepsSafe_of_reaching hq hd
    · by_cases hc : Part.ch ∈ touchesOf c
      · exact exec_keepsSafe_of_channels hq hd hc
      · exact exec_keepsSafe_of_apart hq hd hc

theorem exec_safe {c : Instr} {s t : State} (h : exec c s = .next t) : Safe s.marked t := by
  have kept : Safe s.marked (settled s (exec c s)) := exec_keepsSafe c s (Safe.refl s).marked
  rwa [h] at kept

end Sys2Proof.Machine
end

section
namespace Sys2Proof.Machine

/-! ### One step -/

theorem count_rate (c : Clocks) : c.count.rate = c.rate := by
  unfold Clocks.count
  split <;> rfl

/-- A period without a command moves the time and the timebase alone. -/
theorem tick_kept (s : State) : (tick s).ident = s.ident ∧ (tick s).otp = s.otp ∧ (tick s).pending = s.pending ∧
    (tick s).clk.rate = s.clk.rate := by
  refine ⟨rfl, rfl, rfl, ?_⟩
  unfold tick
  dsimp only
  split
  · rw [rootWindow_rate, count_rate]
  · rfl

theorem tick_withinSizes {s : State} (h : WithinSizes s) : WithinSizes (tick s) := by
  obtain ⟨trim, rest⟩ := withinSizes_iff.1 h
  obtain ⟨-, -, -, rate⟩ := tick_kept s
  exact withinSizes_iff.2 ⟨by simpa only [Clocks.TrimFits, rate] using trim, rest⟩

theorem step_of_pending {s : State} {c : Instr} {rest : List Instr} (h : s.pending = c :: rest) :
    step s = exec c { s with pending := rest } := by
  simp [step, h]

/-- Settles O53: every size and the trim of the reset state, by evaluation. -/
theorem invariantHoldsAtReset : Obligations.InvariantHoldsAtReset := by
  unfold Obligations.InvariantHoldsAtReset WithinSizes
  decide

/-- Settles O54: a period leaves the bounded parts alone, and every command is safe. -/
theorem everyStepKeepsTheInvariant : Obligations.EveryStepKeepsTheInvariant := by
  intro s t hs h
  cases hp : s.pending with
  | nil =>
    rw [step_of_idle hp] at h
    cases h
    exact tick_withinSizes hs
  | cons c rest =>
    rw [step_of_pending hp] at h
    exact (exec_safe h).sizes hs

/-- Settles O55: a period leaves identity, keys and the queue alone, and a command takes itself alone out of the queue. -/
theorem everyStepKeepsIdentityAndKeys : Obligations.EveryStepKeepsIdentityAndKeys := by
  intro s t h
  cases hp : s.pending with
  | nil =>
    rw [step_of_idle hp] at h
    cases h
    exact ⟨rfl, rfl, hp, fun i hi => KeySlot.Keeps.refl _⟩
  | cons c rest =>
    rw [step_of_pending hp] at h
    have kept := exec_safe h
    exact ⟨kept.ident, kept.otp.uid, kept.pending, kept.otp.slots⟩

end Sys2Proof.Machine
end

section
namespace Sys2Proof.Machine

/-! ## Session IDs (R114) -/

/-- The ID that is tried after another. -/
def idAfter (id : W16) : W16 := if id == 0xFFFE then 1 else id + 1

/-- An ID that a session may have. -/
def IsId (id : W16) : Prop := 1 ≤ id.toNat ∧ id.toNat ≤ 0xFFFE

theorem toNat_idAfter {id : W16} (h : IsId id) : (idAfter id).toNat = id.toNat % 65534 + 1 := by
  obtain ⟨low, high⟩ := h
  unfold idAfter
  split
  next e => simp_all
  next e =>
    have : id.toNat ≠ 65534 := fun k => e (by simp [← BitVec.toNat_inj, k])
    have one : (1 : W16).toNat = 1 := rfl
    rw [BitVec.toNat_add, one]
    omega

theorem isId_idAfter {id : W16} (h : IsId id) : IsId (idAfter id) := by
  have := toNat_idAfter h
  unfold IsId
  omega

/-- The IDs go round. -/
theorem toNat_iterate_idAfter {id : W16} (h : IsId id) (k : Nat) :
    IsId (idAfter^[k] id) ∧ (idAfter^[k] id).toNat = (id.toNat - 1 + k) % 65534 + 1 := by
  induction k with
  | zero =>
    refine ⟨h, ?_⟩
    obtain ⟨low, high⟩ := h
    simp only [Function.iterate_zero, id_eq]
    omega
  | succ k ih =>
    obtain ⟨isId, value⟩ := ih
    rw [Function.iterate_succ_apply']
    exact ⟨isId_idAfter isId, by rw [toNat_idAfter isId, value]; omega⟩

theorem iterate_idAfter_injOn {id : W16} (h : IsId id) : Set.InjOn (fun k => idAfter^[k] id) (Finset.range 8 : Set Nat) := by
  intro i hi j hj e
  have same := congrArg BitVec.toNat e
  simp only [Finset.coe_range, Set.mem_Iio, (toNat_iterate_idAfter h _).2] at hi hj same
  omega

/-- An open session has the ID. -/
def Rop.Taken (r : Rop) (id : W16) : Prop := id ∈ r.openSessions.map (·.id)

theorem any_openSessions_iff {r : Rop} {id : W16} : (r.openSessions.any fun x => x.id == id) = true ↔ r.Taken id := by
  simp [Rop.Taken]

/-- The search ends at an ID that no session has, or has tried as many as it may and found every one taken. -/
theorem searchId_spec (r : Rop) (n : Nat) (id : W16) :
    ∃ k, r.searchId n id = idAfter^[k] id ∧ (∀ i < k, r.Taken (idAfter^[i] id)) ∧ (k = n ∨ ¬ r.Taken (r.searchId n id)) := by
  induction n generalizing id with
  | zero => exact ⟨0, rfl, by simp, .inl rfl⟩
  | succ n ih =>
    unfold Rop.searchId
    split
    next taken =>
      obtain ⟨k, at_k, before, last⟩ := ih (idAfter id)
      refine ⟨k + 1, at_k, fun i hi => ?_, last.imp (congrArg (· + 1)) fun free => free⟩
      cases i with
      | zero => exact any_openSessions_iff.1 taken
      | succ i => exact before i (by omega)
    next free => exact ⟨0, rfl, by simp, .inr fun h => free (any_openSessions_iff.2 h)⟩

/-- A slot that is free leaves at most seven sessions. -/
theorem length_openSessions_lt {s : State} {i : Fin 8} (h : (s.session i).id = 0) : s.rop.openSessions.length < 8 := by
  have shorter : s.rop.openSessions.length < s.rop.sessions.toList.length := by
    unfold Rop.openSessions
    refine List.length_filter_lt_length_iff_exists.2 ⟨s.session i, ?_, by simp [h]⟩
    simp [State.session]
  simpa using shorter

/-- Eight IDs in a row cannot all be taken by seven sessions. -/
theorem not_taken_newId {s : State} {i : Fin 8} (h : (s.session i).id = 0) : IsId s.rop.newId ∧ ¬ s.rop.Taken s.rop.newId := by
  have first : IsId (if 0xFFFE ≤ s.rop.lastId.toNat then 1 else s.rop.lastId + 1) := by
    unfold IsId
    split
    · decide
    · rw [BitVec.toNat_add]
      simp
      omega
  unfold Rop.newId
  obtain ⟨k, at_k, before, last⟩ := searchId_spec s.rop 8 (if 0xFFFE ≤ s.rop.lastId.toNat then 1 else s.rop.lastId + 1)
  refine ⟨at_k ▸ (toNat_iterate_idAfter first k).1, ?_⟩
  rcases last with rfl | free
  · have tried := Finset.card_le_card_of_injOn (t := (s.rop.openSessions.map (·.id)).toFinset) _
      (fun j hj => by simpa [Rop.Taken] using before j (by simpa using hj)) (iterate_idAfter_injOn first)
    have few := (s.rop.openSessions.map (·.id)).toFinset_card_le
    have := length_openSessions_lt h
    simp at tried few
    omega
  · exact free

theorem taken_session {s : State} {j : Fin 8} (h : (s.session j).id ≠ 0) : s.rop.Taken (s.session j).id := by
  simp only [Rop.Taken, Rop.openSessions, List.mem_map, List.mem_filter]
  exact ⟨s.session j, ⟨by simp [State.session], by simpa using h⟩, rfl⟩

/-! ## Sessions (R113 to R117, R132) -/

theorem id_of_freeSession {s : State} {i : Fin 8} (h : freeSession s = some i) : (s.session i).id = 0 := by
  simpa using List.find?_some h

/-- The session that opens in a free slot. -/
def State.newSession (s : State) (ip : Word) (port entry : W16) (ms : Nat) : Session :=
  { id := s.rop.newId, entry := entry, ip := ip, port := port, timeoutMs := ms, deadline := s.now + msec ms,
    depth := s.rop.cmdDepth, rate := s.rop.rate, burst := s.rop.burst, level := secs s.rop.burst, levelAt := s.now }

/-- A time limit that an opening may ask for. -/
def LegalTimeout (timeout : W16) : Prop := timeout = 0 ∨ 100 ≤ timeout.toNat ∧ timeout.toNat ≤ 60000

theorem legalTimeout_iff {timeout : W16} :
    (timeout.toNat != 0 && !within 100 60000 timeout.toNat) = false ↔ LegalTimeout timeout := by
  simp only [LegalTimeout, within, ← BitVec.toNat_inj, bne, Bool.and_eq_false_iff, Bool.not_eq_false', beq_iff_eq]
  simp

theorem openSession_of_free {s : State} {i : Fin 8} {timeout : W16} (hf : freeSession s = some i) (hl : LegalTimeout timeout)
    (ip : Word) (port entry : W16) :
    openSession s ip port entry timeout.toNat =
      (raiseEvent ((s.modSession i fun _ => s.newSession ip port entry
          (if timeout = 0 then s.rop.sessionTimeoutDefault else timeout.toNat)).modRop fun r => { r with lastId := s.rop.newId })
        evMgmt 3 (s.rop.newId.toNat + 65536), eOk, s.rop.newId, 0) := by
  have zero : timeout.toNat = 0 ↔ timeout = 0 := by rw [← BitVec.toNat_inj]; rfl
  unfold openSession
  rw [legalTimeout_iff.2 hl]
  simp [hf, zero, State.newSession]

theorem session_congr {s t : State} (h : t.rop.sessions = s.rop.sessions) (j : Fin 8) : t.session j = s.session j := by
  simp [State.session, h]

@[simp] theorem session_countBusy (s : State) (p : Path) (c : Byte) (j : Fin 8) : (s.countBusy p c).session j = s.session j := by
  unfold State.countBusy
  split <;> rfl

@[simp] theorem session_raiseEvent (s : State) (line : Fin 4) (cause detail : Nat) (j : Fin 8) :
    (raiseEvent s line cause detail).session j = s.session j := session_congr (by simp) j

@[simp] theorem session_modRop_lastId (s : State) (id : W16) (j : Fin 8) :
    (s.modRop fun r => { r with lastId := id }).session j = s.session j := rfl

/-- An opening with a free slot changes that slot alone. -/
theorem session_openSession {s : State} {i : Fin 8} {timeout : W16} (hf : freeSession s = some i) (hl : LegalTimeout timeout)
    (ip : Word) (port entry : W16) (j : Fin 8) :
    (openSession s ip port entry timeout.toNat).1.session j = if j = i then s.newSession ip port entry
        (if timeout = 0 then s.rop.sessionTimeoutDefault else timeout.toNat) else s.session j := by
  rw [openSession_of_free hf hl]
  simp

/-- Settles O43: eight tries cannot all meet one of the seven sessions that can be open beside a free slot. -/
theorem sessionIdsAreFresh : Obligations.SessionIdsAreFresh := by
  intro s peer entry timeout i t runs hf hl h
  obtain ⟨⟨low, -⟩, free⟩ := not_taken_newId (id_of_freeSession hf)
  have opened (j : Fin 8) : t.session j = if j = i then s.newSession peer.ip peer.port entry
      (if timeout = 0 then s.rop.sessionTimeoutDefault else timeout.toNat) else s.session j := by
    rw [← session_openSession hf hl]
    simp only [exec, execSessionOpen, runs, if_true, Host.Outcome.next.injEq] at h
    rw [← h]
    exact session_countBusy _ _ _ j
  have new : (t.session i).id = s.rop.newId := by simp [opened, State.newSession]
  have nonzero : s.rop.newId ≠ 0 := fun e => by simp [e] at low
  refine ⟨new ▸ nonzero, fun j hj e => ?_⟩
  rw [new, opened, if_neg hj] at e
  exact free (e ▸ taken_session (e ▸ nonzero))

end Sys2Proof.Machine
end

section
namespace Sys2Proof.Machine

/-! ## What a refused write leaves (R95, R97, R99, R110, R231, R474)

Only MODE and COMMIT keep something of a write that a check refuses: LAST_REJECT and COMMIT_STATE. -/

/-- A state that a refused write may leave before it is answered. -/
def RefusalLeaves (s t : State) : Prop := RefusalKeeps s t ∧ t.rop = s.rop ∧ t.answer = s.answer

theorem RefusalKeeps.refl (s : State) : RefusalKeeps s s :=
  ⟨rfl, rfl, rfl, rfl, rfl, rfl, rfl, rfl, rfl, rfl, rfl, rfl, rfl, rfl, rfl, rfl, rfl, rfl, rfl, rfl, rfl, rfl, rfl, rfl, rfl, rfl, rfl,
    fun _ => rfl⟩

theorem RefusalLeaves.refl (s : State) : RefusalLeaves s s := ⟨.refl s, rfl, rfl⟩

/-- LAST_REJECT (R231). -/
theorem refusalLeaves_lastReject (s : State) (n : Ch) (code : Byte) :
    RefusalLeaves s (s.modCh n fun c => { c with mode := { c.mode with lastReject := code } }) := by
  refine ⟨⟨rfl, rfl, rfl, rfl, rfl, rfl, rfl, rfl, rfl, rfl, rfl, rfl, rfl, rfl, rfl, rfl, rfl, rfl, rfl, rfl, rfl, rfl, rfl, rfl, rfl, rfl,
    rfl, fun m => ?_⟩, rfl, rfl⟩
  rw [State.chan_modCh_if]
  split <;> rfl

/-- COMMIT_STATE (R474). -/
theorem refusalLeaves_commitState (s : State) (res : Resource) (x : Nat) :
    RefusalLeaves s (s.modArb res fun a => { a with commitState := x }) := by
  cases res
  all_goals exact ⟨⟨rfl, rfl, rfl, rfl, rfl, rfl, rfl, rfl, rfl, rfl, rfl, rfl, rfl, rfl, rfl, rfl, rfl, rfl, rfl, rfl, rfl, rfl, rfl, rfl,
    rfl, rfl, rfl, fun _ => rfl⟩, rfl, rfl⟩

/-! ### Every object of the dictionary -/

def Obj.RefusesQuietly (o : Obj) : Prop := ∀ w c s, RefusalLeaves s (o.onRefuse w c s)

/-- Whatever object a table gives refuses quietly. -/
def TableRefusesQuietly (t : Option Obj) : Prop := ∀ o, t = some o → o.RefusesQuietly

/-- An object that keeps nothing of a refused write. -/
theorem Obj.RefusesQuietly.of_plain {o : Obj} (h : ∀ w c s, o.onRefuse w c s = s) : o.RefusesQuietly :=
  fun w c s => (h w c s).symm ▸ .refl s

theorem objMode_refusesQuietly (n : Ch) : (objMode n).RefusesQuietly := fun _ c s => refusalLeaves_lastReject s n c

theorem objArbCommit_refusesQuietly : objArbCommit.RefusesQuietly := by
  intro w c s
  dsimp only [objArbCommit]
  repeat' split
  next res _ _ => exact refusalLeaves_commitState s res 3
  all_goals exact .refl s

namespace TableRefusesQuietly

theorem of_none : TableRefusesQuietly none := fun _ e => nomatch e

theorem of_some {o : Obj} (h : o.RefusesQuietly) : TableRefusesQuietly (some o) := fun _ e => Option.some.inj e ▸ h

theorem of_plain {o : Obj} (h : ∀ w c s, o.onRefuse w c s = s) : TableRefusesQuietly (some o) := of_some (.of_plain h)

theorem of_bind {α : Type} {f : α → Option Obj} (h : ∀ a, TableRefusesQuietly (f a)) (o : Option α) : TableRefusesQuietly (o.bind f) := by
  intro x e
  obtain ⟨a, -, e⟩ := Option.bind_eq_some_iff.1 e
  exact h a x e

theorem of_map {α : Type} {f : α → Obj} (h : ∀ a w c s, (f a).onRefuse w c s = s) (o : Option α) : TableRefusesQuietly (o.map f) := by
  intro x e
  obtain ⟨a, -, rfl⟩ := Option.map_eq_some_iff.1 e
  exact .of_plain (h a)

theorem of_ite {c : Prop} [Decidable c] {a b : Option Obj} (ha : TableRefusesQuietly a) (hb : TableRefusesQuietly b) :
    TableRefusesQuietly (if c then a else b) := by
  split
  · exact ha
  · exact hb

end TableRefusesQuietly

open TableRefusesQuietly

theorem objNotch_refusesQuietly (n : Ch) (r el : Nat) : TableRefusesQuietly (objNotch n r el) := by
  unfold objNotch
  split
  all_goals first | exact of_none | exact of_plain fun _ _ _ => rfl

theorem objLimit_refusesQuietly (n : Ch) (el : Nat) : TableRefusesQuietly (objLimit n el) := by
  unfold objLimit
  split
  all_goals first | exact of_none | exact of_plain fun _ _ _ => rfl

theorem objsMode_refusesQuietly (n : Ch) (j el : Nat) : TableRefusesQuietly (objsMode n j el) := by
  dsimp only [objsMode]
  repeat' split
  all_goals first
    | exact of_none | exact of_plain fun _ _ _ => rfl
    | exact of_some (objMode_refusesQuietly n)

theorem objsSignal_refusesQuietly (n : Ch) (j el : Nat) : TableRefusesQuietly (objsSignal n j el) := by
  dsimp only [objsSignal]
  repeat' split
  all_goals first | exact of_none | exact of_plain fun _ _ _ => rfl

theorem objsMotion_refusesQuietly (n : Ch) (j el : Nat) : TableRefusesQuietly (objsMotion n j el) := by
  dsimp only [objsMotion]
  repeat' split
  all_goals first | exact of_none | exact of_plain fun _ _ _ => rfl

theorem objsOutput_refusesQuietly (n : Ch) (j el : Nat) : TableRefusesQuietly (objsOutput n j el) := by
  dsimp only [objsOutput]
  repeat' split
  all_goals first | exact of_none | exact of_plain fun _ _ _ => rfl

theorem objsSweep_refusesQuietly (n : Ch) (j el : Nat) : TableRefusesQuietly (objsSweep n j el) := by
  dsimp only [objsSweep]
  repeat' split
  all_goals first | exact of_none | exact of_plain fun _ _ _ => rfl

theorem objsLac_refusesQuietly (n : Ch) (j el : Nat) : TableRefusesQuietly (objsLac n j el) := by
  dsimp only [objsLac]
  repeat' split
  all_goals first | exact of_none | exact of_plain fun _ _ _ => rfl

theorem objsConv_refusesQuietly (n : Ch) (j el : Nat) : TableRefusesQuietly (objsConv n j el) := by
  dsimp only [objsConv]
  repeat' split
  all_goals first | exact of_none | exact of_plain fun _ _ _ => rfl

theorem objsEngineCh_refusesQuietly (n : Ch) (j el : Nat) : TableRefusesQuietly (objsEngineCh n j el) := by
  dsimp only [objsEngineCh]
  repeat' split
  all_goals first
    | exact of_none | exact of_plain fun _ _ _ => rfl
    | exact objNotch_refusesQuietly n _ _

theorem objsEngine_refusesQuietly (e : Eng) (idx el : Nat) : TableRefusesQuietly (objsEngine e idx el) := by
  dsimp only [objsEngine]
  repeat' split
  all_goals first
    | exact of_none | exact of_plain fun _ _ _ => rfl
    | exact objsEngineCh_refusesQuietly _ _ _

theorem objsEnv_refusesQuietly (el : Nat) : TableRefusesQuietly (objsEnv el) := by
  dsimp only [objsEnv]
  repeat' split
  all_goals first | exact of_none | exact of_plain fun _ _ _ => rfl

theorem objsAux_refusesQuietly (idx el : Nat) : TableRefusesQuietly (objsAux idx el) := by
  dsimp only [objsAux]
  repeat' split
  all_goals first | exact of_none | exact of_plain fun _ _ _ => rfl

theorem objsHamper_refusesQuietly (idx el : Nat) : TableRefusesQuietly (objsHamper idx el) := by
  dsimp only [objsHamper]
  repeat' split
  all_goals first | exact of_none | exact of_plain fun _ _ _ => rfl

theorem objsReq_refusesQuietly (res : Resource) (q el : Nat) : TableRefusesQuietly (objsReq res q el) := by
  dsimp only [objsReq]
  repeat' split
  all_goals first | exact of_none | exact of_plain fun _ _ _ => rfl

theorem objsArbMain_refusesQuietly (el : Nat) : TableRefusesQuietly (objsArbMain el) := by
  dsimp only [objsArbMain]
  repeat' split
  all_goals first
    | exact of_none | exact of_plain fun _ _ _ => rfl
    | exact of_some objArbCommit_refusesQuietly
    | exact of_map (fun _ _ _ _ => rfl) _

theorem objsArb_refusesQuietly (idx el : Nat) : TableRefusesQuietly (objsArb idx el) := by
  dsimp only [objsArb]
  repeat' split
  all_goals first
    | exact of_none | exact of_plain fun _ _ _ => rfl
    | exact objsArbMain_refusesQuietly _
    | exact objsReq_refusesQuietly _ _ _

theorem objsDevice_refusesQuietly (idx el : Nat) : TableRefusesQuietly (objsDevice idx el) := by
  dsimp only [objsDevice]
  repeat' split
  all_goals first | exact of_none | exact of_plain fun _ _ _ => rfl

theorem objsPeriod_refusesQuietly (idx el : Nat) : TableRefusesQuietly (objsPeriod idx el) := by
  dsimp only [objsPeriod]
  repeat' split
  all_goals first
    | exact of_none | exact of_plain fun _ _ _ => rfl
    | exact of_map (fun _ _ _ _ => rfl) _

theorem objsTrust_refusesQuietly (idx el : Nat) : TableRefusesQuietly (objsTrust idx el) := by
  dsimp only [objsTrust]
  repeat' split
  all_goals first
    | exact of_none | exact of_plain fun _ _ _ => rfl
    | exact objLimit_refusesQuietly _ _

theorem objsLine_refusesQuietly (x : Fin 4) (el : Nat) : TableRefusesQuietly (objsLine x el) := by
  dsimp only [objsLine]
  repeat' split
  all_goals first | exact of_none | exact of_plain fun _ _ _ => rfl

theorem objsBadgerMain_refusesQuietly (el : Nat) : TableRefusesQuietly (objsBadgerMain el) := by
  dsimp only [objsBadgerMain]
  repeat' split
  all_goals first | exact of_none | exact of_plain fun _ _ _ => rfl

theorem objsBadger_refusesQuietly (idx el : Nat) : TableRefusesQuietly (objsBadger idx el) := by
  dsimp only [objsBadger]
  repeat' split
  all_goals first
    | exact of_none | exact of_plain fun _ _ _ => rfl
    | exact objsLine_refusesQuietly _ _
    | exact objsBadgerMain_refusesQuietly _

theorem objsPort_refusesQuietly (p : Port) (el : Nat) : TableRefusesQuietly (objsPort p el) := by
  dsimp only [objsPort]
  repeat' split
  all_goals first | exact of_none | exact of_plain fun _ _ _ => rfl

theorem objsNode_refusesQuietly (el : Nat) : TableRefusesQuietly (objsNode el) := by
  dsimp only [objsNode]
  repeat' split
  all_goals first | exact of_none | exact of_plain fun _ _ _ => rfl

theorem objsTime_refusesQuietly (el : Nat) : TableRefusesQuietly (objsTime el) := by
  dsimp only [objsTime]
  repeat' split
  all_goals first | exact of_none | exact of_plain fun _ _ _ => rfl

theorem objsTrigger_refusesQuietly (el : Nat) : TableRefusesQuietly (objsTrigger el) := by
  dsimp only [objsTrigger]
  repeat' split
  all_goals first | exact of_none | exact of_plain fun _ _ _ => rfl

theorem objsRonko_refusesQuietly (idx el : Nat) : TableRefusesQuietly (objsRonko idx el) := by
  dsimp only [objsRonko]
  repeat' split
  all_goals first
    | exact of_none | exact of_plain fun _ _ _ => rfl
    | exact objsPort_refusesQuietly _ _
    | exact objsNode_refusesQuietly _
    | exact objsTime_refusesQuietly _
    | exact objsTrigger_refusesQuietly _

theorem objsSelect_refusesQuietly (c : Fin 4) (el : Nat) : TableRefusesQuietly (objsSelect c el) := by
  dsimp only [objsSelect]
  repeat' split
  all_goals first | exact of_none | exact of_plain fun _ _ _ => rfl

theorem objsFsp_refusesQuietly (idx el : Nat) : TableRefusesQuietly (objsFsp idx el) := by
  dsimp only [objsFsp]
  repeat' split
  all_goals first
    | exact of_none | exact of_plain fun _ _ _ => rfl
    | exact objsSelect_refusesQuietly _ _

theorem objsEth_refusesQuietly (idx el : Nat) : TableRefusesQuietly (objsEth idx el) := by
  dsimp only [objsEth]
  repeat' split
  all_goals first | exact of_none | exact of_plain fun _ _ _ => rfl

theorem objsRop_refusesQuietly (idx el : Nat) : TableRefusesQuietly (objsRop idx el) := by
  dsimp only [objsRop]
  repeat' split
  all_goals first | exact of_none | exact of_plain fun _ _ _ => rfl

theorem objsMgp_refusesQuietly (el : Nat) : TableRefusesQuietly (objsMgp el) := by
  dsimp only [objsMgp]
  repeat' split
  all_goals first | exact of_none | exact of_plain fun _ _ _ => rfl

theorem objsIdentity_refusesQuietly (el : Nat) : TableRefusesQuietly (objsIdentity el) := by
  dsimp only [objsIdentity]
  repeat' split
  all_goals first | exact of_none | exact of_plain fun _ _ _ => rfl

theorem objsChannel_refusesQuietly (n : Ch) (j el : Nat) : TableRefusesQuietly (objsChannel n j el) :=
  of_ite (objsMode_refusesQuietly _ _ _) <| of_ite (objsSignal_refusesQuietly _ _ _) <| of_ite (objsMotion_refusesQuietly _ _ _) <|
  of_ite (objsOutput_refusesQuietly _ _ _) <| of_ite (objsSweep_refusesQuietly _ _ _) of_none

theorem objsAt_refusesQuietly (idx el : Nat) : TableRefusesQuietly (objsAt idx el) :=
  of_ite (objsIdentity_refusesQuietly _) <| of_ite (objsDevice_refusesQuietly _ _) <| of_ite (objsPeriod_refusesQuietly _ _) <|
  of_ite (objsRop_refusesQuietly _ _) <| of_ite (objsEth_refusesQuietly _ _) <| of_ite (objsRonko_refusesQuietly _ _) <|
  of_ite (objsMgp_refusesQuietly _) <| of_ite (objsFsp_refusesQuietly _ _) <|
  of_ite (of_bind (fun _ => objsChannel_refusesQuietly _ _ _) _) <| of_ite of_none <|
  of_ite (of_bind (fun _ => objsEngine_refusesQuietly _ _ _) _) <| of_ite (of_bind (fun _ => objsLac_refusesQuietly _ _ _) _) <|
  of_ite (objsEnv_refusesQuietly _) <| of_ite of_none <| of_ite (of_bind (fun _ => objsConv_refusesQuietly _ _ _) _) <|
  of_ite (objsAux_refusesQuietly _ _) <| of_ite (objsHamper_refusesQuietly _ _) <| of_ite (objsArb_refusesQuietly _ _) <|
  of_ite (objsBadger_refusesQuietly _ _) <| of_ite (objsTrust_refusesQuietly _ _) of_none

/-- Whatever object a request finds refuses quietly. -/
theorem objAt_refusesQuietly {idx el : Nat} {o : Obj} (e : objAt idx el = .ok o) : o.RefusesQuietly := by
  unfold objAt at e
  dsimp only at e
  split at e
  · cases e
  split at e
  · split at e
    · split at e
      · cases e
        exact .of_plain fun _ _ _ => rfl
      · cases e
    · cases e
  · split at e
    next o' ho =>
      cases e
      exact objsAt_refusesQuietly _ _ o ho
    next =>
      split at e
      · cases e
      · split at e
        · cases e
          exact .of_plain fun _ _ _ => rfl
        · cases e

theorem refusesQuietly_of_requestOf {c : Instr} {q : DictWrite} (h : requestOf c = some q) : q.obj.RefusesQuietly := by
  cases c
  case limitWrite r n el ty data =>
    obtain ⟨o, e, rfl⟩ := Option.map_eq_some_iff.mp h
    exact objLimit_refusesQuietly n _ o e
  case notchDesign r n bank el v =>
    obtain ⟨o, e, rfl⟩ := Option.map_eq_some_iff.mp h
    exact objNotch_refusesQuietly n _ _ o e
  all_goals cases h
  case modeRequest r n v => exact objMode_refusesQuietly n
  case arbCommit => exact objArbCommit_refusesQuietly
  all_goals exact .of_plain fun _ _ _ => rfl

/-! ### Groups -/

/-- Settles O41: a group with a refused write ends in what that write's object keeps of refused writes. -/
theorem groupsAreAtomic : Obligations.GroupsAreAtomic := by
  intro gs s ⟨x, hx, refused⟩
  have leaves : RefusalLeaves s (runGroup gs s).1 := by
    unfold runGroup
    dsimp only
    split
    next e => exact absurd (by simpa using List.findIdx?_eq_none_iff.1 e x hx) refused
    next k _ =>
      dsimp only
      cases (groupParts gs s)[k]? with
      | none => exact .refl s
      | some y =>
        simp only [Option.map_some, Option.getD_some, groupRefused]
        split
        · exact .refl s
        next o e => exact objAt_refusesQuietly e _ _ s
  exact leaves

/-! ### Requests -/

/-- The answer and the count of E_BUSY are all that a refused request adds. -/
theorem RefusalLeaves.answered {s u : State} (h : RefusalLeaves s u) (c ty : Byte) (e : W16) (p : Path) :
    RefusalKeeps s ((u.reply c ty e []).countBusy p c) := by
  obtain ⟨⟨otp, ident, power, dev, clk, eng, trust, -, eth, badger, events, hamper, aux, trig, ronko, fsp, xip, mgp, now, lockoutRec,
    refMon, pool, link, bus, emit, free, pending, chan⟩, rop, -⟩ := h
  unfold State.countBusy
  split
  · exact ⟨otp, ident, power, dev, clk, eng, trust, by simp [State.reply, rop], eth, badger, events, hamper, aux, trig, ronko, fsp, xip,
      mgp, now, lockoutRec, refMon, pool, link, bus, emit, free, pending, chan⟩
  · exact ⟨otp, ident, power, dev, clk, eng, trust, by simp [State.reply, rop], eth, badger, events, hamper, aux, trig, ronko, fsp, xip,
      mgp, now, lockoutRec, refMon, pool, link, bus, emit, free, pending, chan⟩

theorem perform_of_refused {o : Obj} {r : Req} {ty : Byte} {data : List Byte} {s : State} (h : ¬ o.Admits r ty data s) :
    perform o r ty data s = ((o.onRefuse (o.judged r data s) (o.verdict ty (o.judged r data s)) s).reply
      (o.verdict ty (o.judged r data s)) ty (o.epochAfter (o.judged r data s) s) []).countBusy r.path
        (o.verdict ty (o.judged r data s)) := by
  unfold perform performOp
  dsimp only
  rw [if_neg (by simpa [Obj.Admits] using h), if_neg (by simpa [Obj.Admits] using h)]
  rfl

theorem refusalKeeps_perform {o : Obj} (h : o.RefusesQuietly) {r : Req} {ty : Byte} {data : List Byte} {s : State}
    (refused : ¬ o.Admits r ty data s) :
    (perform o r ty data s).answer.code ≠ eOk ∧ RefusalKeeps s (perform o r ty data s)
      ∧ (perform o r ty data s).answer.code = o.verdict ty ⟨r, data, s, o.put ⟨r, data, s, s, s⟩ s, s⟩ := by
  rw [perform_of_refused refused]
  exact ⟨by rw [countBusy_answer]; exact refused, (h _ _ s).answered _ _ _ _, by rw [countBusy_answer]; rfl⟩

/-- Settles O49: an admitted request is its object's write with the answer, and a refused one leaves what its object keeps. -/
theorem requestsAreDictionaryWrites : Obligations.RequestsAreDictionaryWrites := by
  intro c q s hq
  rw [exec_of_requestOf hq]
  refine ⟨fun admitted => ⟨_, rfl, ?_, ?_⟩, fun refused => ⟨_, rfl, refusalKeeps_perform (refusesQuietly_of_requestOf hq) refused⟩⟩
  · rw [perform_admitted admitted]
    rfl
  · rw [perform_admitted admitted]
    rfl

end Sys2Proof.Machine
end

section
namespace Sys2Proof.Machine

/-! ## Locks (R97, R98, R109, R117, R183)

No request but CLAIM and RELEASE changes a channel's lock, so that a channel's request is judged with the lock as it stands. -/

/-! ### Operations that keep a channel's lock -/

section
variable (c : Channel)

@[simp] theorem takeSettings_lock : c.takeSettings.lock = c.lock := rfl

@[simp] theorem loadThr_lock : c.loadThr.lock = c.lock := rfl

@[simp] theorem disarm_lock : c.disarm.lock = c.lock := by
  unfold Channel.disarm
  split <;> rfl

@[simp] theorem acceptRange_lock (v : Nat) : (c.acceptRange v).lock = c.lock := by
  unfold Channel.acceptRange
  split <;> simp

@[simp] theorem calApply_lock (method : Nat) (ds : F64 × F64) : (c.calApply method ds).lock = c.lock := by
  unfold Channel.calApply
  repeat' split
  all_goals rfl

@[simp] theorem setLacBank_lock (r : Nat) (b : LacBank) : (c.setLacBank r b).lock = c.lock := rfl

@[simp] theorem setBankK_lock (r j : Nat) (w : Word) : (c.setBankK r j w).lock = c.lock := rfl

@[simp] theorem designBank_lock (n r : Nat) : (c.designBank n r).lock = c.lock := rfl

@[simp] theorem setFactors_lock (n r : Nat) (fP fI fF : F64) : (c.setFactors n r fP fI fF).lock = c.lock := by
  unfold Channel.setFactors
  dsimp only
  repeat' split
  all_goals simp

@[simp] theorem revertFactors_lock (n : Nat) : (c.revertFactors n).lock = c.lock := by
  unfold Channel.revertFactors
  generalize List.range 4 = rs
  induction rs generalizing c with
  | nil => rfl
  | cons r rs ih => simp [ih]

end

/-- Every channel's lock is the same in both states. -/
def SameLocks (s t : State) : Prop := ∀ k, (t.chan k).lock = (s.chan k).lock

namespace SameLocks

variable {s t u : State}

theorem refl (s : State) : SameLocks s s := fun _ => rfl

theorem trans (h : SameLocks s t) (h' : SameLocks t u) : SameLocks s u := fun k => (h' k).trans (h k)

theorem of_ch (h : t.ch = s.ch) : SameLocks s t := fun k => by rw [State.chan_congr h k]

theorem modCh (s : State) (n : Ch) {f : Channel → Channel} (h : ∀ c, (f c).lock = c.lock) : SameLocks s (s.modCh n f) := by
  intro k
  rw [State.chan_modCh_if]
  split
  · exact h _
  · rfl

theorem setCh (s : State) (n : Ch) {f : Channel → Channel} (h : ∀ c, (f c).lock = c.lock) : SameLocks s (s.setCh n f) :=
  modCh s n fun c => by split <;> simp [h]

theorem ite {c : Prop} [Decidable c] (ht : SameLocks s t) (hu : SameLocks s u) : SameLocks s (if c then t else u) := by
  split
  · exact ht
  · exact hu

end SameLocks

open SameLocks

theorem modSweep_sameLocks (s : State) (n : Ch) (f : Sweep → Sweep) : SameLocks s (s.modSweep n f) := .modCh s n fun _ => rfl

theorem listBegin_sameLocks (s : State) (n : Ch) : SameLocks s (listBegin s n) := modSweep_sameLocks s n _

theorem raiseEvent_sameLocks (s : State) (line : Fin 4) (cause detail : Nat) : SameLocks s (raiseEvent s line cause detail) :=
  .of_ch (by simp)

theorem stageWords_sameLocks (s : State) (src : HwSource) (ws : List Word) : SameLocks s (stageWords s src ws) := .of_ch (by simp)

theorem missTrigger_sameLocks (s : State) (n : Ch) : SameLocks s (missTrigger s n) :=
  (modSweep_sameLocks s n _).trans (.ite (raiseEvent_sameLocks _ _ _ _) (.refl _))

theorem advance_sameLocks (s : State) (n : Ch) : SameLocks s (advance s n) := by
  unfold advance
  dsimp only
  repeat' split
  all_goals first
    | exact .refl s
    | exact missTrigger_sameLocks s n
    | exact modSweep_sameLocks s n _

theorem listEnd_sameLocks (s : State) (n : Ch) (reason : Nat) (code : Byte) : SameLocks s (listEnd s n reason code) :=
  (modSweep_sameLocks s n _).trans (raiseEvent_sameLocks _ _ _ _)

theorem writeResult_sameLocks (s : State) (n : Ch) (short : Bool) : SameLocks s (writeResult s n short) := by
  unfold writeResult
  dsimp only
  repeat' split
  all_goals first
    | exact .refl s
    | exact (modSweep_sameLocks s n _).trans (stageWords_sameLocks _ _ _)

theorem listCut_sameLocks (s : State) (n : Ch) (reason : Nat) : SameLocks s (listCut s n reason) := by
  unfold listCut
  dsimp only
  refine .ite (.refl s) (.trans ?_ (listEnd_sameLocks _ n reason 0))
  have written := SameLocks.ite (c := (s.chan n).sweep.window.samples = 0) (.refl s) (writeResult_sameLocks s n true)
  split
  · exact written.trans (.ite (raiseEvent_sameLocks _ _ _ _) (.refl _))
  · exact written

theorem admitSet_sameLocks (s : State) (e : Eng) : SameLocks s (admitSet s e) := .of_ch (by simp)

theorem acceptMode_sameLocks (s : State) (n : Ch) (m : Mode) : SameLocks s (acceptMode s n m) := by
  unfold acceptMode
  dsimp only
  repeat' refine .ite ?_ ?_
  · exact .refl s
  · exact .modCh s n fun _ => rfl
  · refine .trans ?_ (admitSet_sameLocks _ _)
    exact .modCh s n fun _ => rfl

/-! ### Requests that belong to a channel -/

/-- Where an object belongs to a channel, its writes keep every lock. -/
def Obj.JudgedAsItStands (o : Obj) : Prop := ∀ w n, o.scope w = .chan n → ∀ w s, SameLocks s (o.put w s)

/-- An object that belongs to no channel. -/
theorem Obj.JudgedAsItStands.of_scope {o : Obj} (h : ∀ w n, o.scope w ≠ .chan n) : o.JudgedAsItStands :=
  fun w n e => absurd e (h w n)

theorem Obj.JudgedAsItStands.of_put {o : Obj} (h : ∀ w s, SameLocks s (o.put w s)) : o.JudgedAsItStands := fun _ _ _ => h

theorem loadObj_judgedAsItStands (n : Ch) (main : Bool) (inUse : Channel → Bool) (sel : ProgSel → ProgSel)
    (set : Program → ProgSel → ProgSel) : (loadObj n main inUse sel set).JudgedAsItStands := by
  refine .of_put fun w s => ?_
  dsimp only [loadObj]
  split
  · refine .trans ?_ (admitSet_sameLocks _ _)
    exact .setCh s n fun _ => rfl
  · exact .refl s

theorem objNotch_judgedAsItStands (n : Ch) (r el : Nat) {o : Obj} (e : objNotch n r el = some o) : o.JudgedAsItStands := by
  unfold objNotch at e
  split at e
  all_goals cases e
  case h_4 => exact .of_put fun _ s => .refl s
  all_goals exact .of_put fun w s => .setCh s n fun c => by dsimp only; split <;> rfl

theorem objLimit_judgedAsItStands (n : Ch) (el : Nat) {o : Obj} (e : objLimit n el = some o) : o.JudgedAsItStands := by
  unfold objLimit at e
  split at e
  all_goals cases e
  all_goals exact .of_scope fun _ _ => nofun

theorem objMode_judgedAsItStands (n : Ch) : (objMode n).JudgedAsItStands := by
  refine .of_put fun w s => ?_
  dsimp only [objMode]
  split
  · exact acceptMode_sameLocks _ _ _
  · exact .refl s

/-- A command object of a channel, by what its command does. -/
theorem chCmd_judgedAsItStands {n : Ch} {ty : Byte} {legal : W → Bool} {act : W → State → State} (h : ∀ w s, SameLocks s (act w s)) :
    (chCmd n ty legal act).JudgedAsItStands := .of_put h

theorem objLacRevert_judgedAsItStands (n : Ch) : (objLacRevert n).JudgedAsItStands := by
  refine chCmd_judgedAsItStands fun w s => .setCh s n fun c => ?_
  split
  · rfl
  · exact revertFactors_lock c _

theorem objLacResume_judgedAsItStands (n : Ch) : (objLacResume n).JudgedAsItStands := by
  refine chCmd_judgedAsItStands fun w s => .modCh s n fun c => ?_
  split <;> rfl

theorem objOffNow_judgedAsItStands (n : Ch) : (objOffNow n).JudgedAsItStands := by
  refine chCmd_judgedAsItStands fun w s => .modCh s n fun c => ?_
  split <;> rfl

theorem objFaultAck_judgedAsItStands : objFaultAck.JudgedAsItStands := by
  refine .of_put fun w s => .of_ch ?_
  dsimp only [objFaultAck]
  split <;> rfl

theorem objCalPoint_judgedAsItStands (n : Ch) : (objCalPoint n).JudgedAsItStands := .of_put fun w s => by
  dsimp only [objCalPoint, chCmd, startPoint]
  exact .trans (.of_ch rfl) (.modCh _ n fun _ => rfl)

theorem objCalCompute_judgedAsItStands (n : Ch) : (objCalCompute n).JudgedAsItStands := .of_put fun w s => by
  dsimp only [objCalCompute, chCmd, computeWith]
  exact .trans (.of_ch rfl) (.modCh _ n fun c => calApply_lock c _ _)

theorem objUnload_judgedAsItStands (n : Ch) : (objUnload n).JudgedAsItStands := .of_put fun w s => by
  dsimp only [objUnload, chCmd]
  exact .setCh s n fun _ => rfl

theorem objListStart_judgedAsItStands (n : Ch) : (objListStart n).JudgedAsItStands := .of_put fun w s => by
  dsimp only [objListStart, chCmd]
  exact listBegin_sameLocks s n

theorem objSwpTrig_judgedAsItStands (n : Ch) : (objSwpTrig n).JudgedAsItStands := .of_put fun w s => by
  dsimp only [objSwpTrig, chCmd]
  exact advance_sameLocks s n

theorem objLoadMain_judgedAsItStands (n : Ch) : (objLoadMain n).JudgedAsItStands := loadObj_judgedAsItStands n _ _ _ _

theorem objLoadOuter_judgedAsItStands (n : Ch) : (objLoadOuter n).JudgedAsItStands := loadObj_judgedAsItStands n _ _ _ _

theorem judgedAsItStands_of_requestOf {c : Instr} {q : DictWrite} (h : requestOf c = some q) : q.obj.JudgedAsItStands := by
  cases c
  case limitWrite r n el ty data =>
    obtain ⟨o, e, rfl⟩ := Option.map_eq_some_iff.mp h
    exact objLimit_judgedAsItStands n _ e
  case notchDesign r n bank el v =>
    obtain ⟨o, e, rfl⟩ := Option.map_eq_some_iff.mp h
    exact objNotch_judgedAsItStands n _ _ e
  all_goals cases h
  case rangeReq r n v => exact .of_put fun w s => .modCh s n fun c => acceptRange_lock c _
  case fastArm r n v => exact .of_put fun w s => .modCh s n fun _ => rfl
  case srcResume r n v => exact .of_put fun w s => .modCh s n fun _ => rfl
  case lacRevert r n v => exact objLacRevert_judgedAsItStands n
  case lacResume r n v => exact objLacResume_judgedAsItStands n
  case capArm r n v => exact .of_put fun w s => .modCh s n fun _ => rfl
  case calPoint r n v => exact objCalPoint_judgedAsItStands n
  case calCompute r n v => exact objCalCompute_judgedAsItStands n
  case listStart r n v => exact objListStart_judgedAsItStands n
  case listStop r n v => exact chCmd_judgedAsItStands fun w s => listCut_sameLocks s n 6
  case swpTrig r n v => exact objSwpTrig_judgedAsItStands n
  case modeRequest r n v => exact objMode_judgedAsItStands n
  case offNow r n v => exact objOffNow_judgedAsItStands n
  case loadMain r n data => exact objLoadMain_judgedAsItStands n
  case loadOuter r n data => exact objLoadOuter_judgedAsItStands n
  case unload r n v => exact objUnload_judgedAsItStands n
  case faultAck => exact objFaultAck_judgedAsItStands
  case force => exact .of_put fun w s => .of_ch (by simp [objForce])
  all_goals exact .of_scope fun _ _ => nofun

/-! ### Who may write -/

section
variable {o : Obj} {r : Req} {ty : Byte} {data : List Byte} {s : State}

/-- An admitted write has passed steps 6 and 7. -/
theorem Obj.Admits.passes (h : o.Admits r ty data s) : o.epochCode (o.judged r data s) = eOk ∧ o.ownCode (o.judged r data s) = eOk := by
  obtain ⟨-, rest⟩ := eq_ok_of_firstCode_cons h
  obtain ⟨-, rest⟩ := eq_ok_of_firstCode_cons rest
  obtain ⟨-, rest⟩ := eq_ok_of_firstCode_cons rest
  obtain ⟨epoch, rest⟩ := eq_ok_of_firstCode_cons rest
  exact ⟨epoch, (eq_ok_of_firstCode_cons rest).1⟩

theorem ownCode_of_sessionless {w : W} {named : Bool} (h : w.req.who = .sessionless named) : o.ownCode w = eNotOwner := by
  simp [Obj.ownCode, h, hasSession, normReq]

theorem ownCode_of_notHeld {w : W} {n : Ch} (scope : o.scope w = .chan n) (h : holds (w.post.chan n).lock w.req.who = false) :
    o.ownCode w = eNotOwner := by
  simp [Obj.ownCode, scope, h]

theorem epochCode_of_stale {w : W} {n : Ch} (scope : o.scope w = .chan n) (h : w.req.epoch ≠ some (w.post.chan n).lock.epoch) :
    o.epochCode w = eStaleEpoch := by
  simp [Obj.epochCode, scope, epochOk, h]

theorem not_admits_of_sessionless {named : Bool} (h : r.who = .sessionless named) : ¬ o.Admits r ty data s := fun admitted => by
  have code := admitted.passes.2
  rw [ownCode_of_sessionless h] at code
  exact absurd code (by decide)

theorem not_admits_of_notHeld {n : Ch} (scope : o.scope (o.judged r data s) = .chan n)
    (h : holds ((o.judged r data s).post.chan n).lock r.who = false) : ¬ o.Admits r ty data s := fun admitted => by
  have code := admitted.passes.2
  rw [ownCode_of_notHeld scope h] at code
  exact absurd code (by decide)

theorem not_admits_of_stale {n : Ch} (scope : o.scope (o.judged r data s) = .chan n)
    (h : r.epoch ≠ some ((o.judged r data s).post.chan n).lock.epoch) : ¬ o.Admits r ty data s := fun admitted => by
  have code := admitted.passes.1
  rw [epochCode_of_stale scope h] at code
  exact absurd code (by decide)

/-- RELEASE is judged with the lock that it finds (R109). -/
theorem not_admits_release {n : Ch} (h : holds (s.chan n).lock r.who = false ∨ r.epoch ≠ some (s.chan n).lock.epoch) :
    ¬ (objRelease n).Admits r ty data s := fun admitted => by
  obtain ⟨epoch, own⟩ := admitted.passes
  rcases h with notHeld | stale
  · have code : (objRelease n).ownCode ((objRelease n).judged r data s) = eNotOwner := by
      simp [Obj.ownCode, objRelease, Obj.judged, notHeld]
    rw [code] at own
    exact absurd own (by decide)
  · have code : (objRelease n).epochCode ((objRelease n).judged r data s) = eStaleEpoch := by
      simp [Obj.epochCode, objRelease, Obj.judged, epochOk, stale]
    rw [code] at epoch
    exact absurd epoch (by decide)

end

/-- A refused request is answered with a code and leaves what its object keeps. -/
theorem exec_refused {c : Instr} {q : DictWrite} (hq : requestOf c = some q) {s : State} (h : ¬ q.obj.Admits q.req q.ty q.data s) :
    ∃ t, exec c s = .next t ∧ t.answer.code ≠ eOk ∧ RefusalKeeps s t := by
  obtain ⟨code, keeps, -⟩ := refusalKeeps_perform (refusesQuietly_of_requestOf hq) h
  exact ⟨_, exec_of_requestOf hq s, code, keeps⟩

/-- Settles O50: steps 6 and 7 stop whoever has no session, no epoch or no lock, and a request's own write keeps the lock. -/
theorem ownersAlone : Obligations.OwnersAlone := by
  refine ⟨fun o r ty data s named h => not_admits_of_sessionless h, fun o r ty data s n scope h => not_admits_of_notHeld scope h,
    fun o r ty data s n scope h => not_admits_of_stale scope h, fun c q s n hq scope h => exec_refused hq ?_,
    fun s r n v h => exec_refused (c := .release r n v) rfl (not_admits_release h)⟩
  have same : (((q.obj.judged q.req q.data s).post).chan n).lock = (s.chan n).lock :=
    judgedAsItStands_of_requestOf hq _ n scope _ s n
  rcases h with notHeld | stale
  · exact not_admits_of_notHeld scope (by rw [same]; exact notHeld)
  · exact not_admits_of_stale scope (by rw [same]; exact stale)

end Sys2Proof.Machine
end

section
/-! PROOFS. The frames of the commands (R98): a read of a 64-bit register's low word that falls on a ring's descriptor carries
out the injection waiting for that descriptor (R418), which is more than its row names. -/

namespace Sys2Proof.Machine

/-- A device in factory test mode with ring 0 configured and an injection of a descriptor error waiting for it. -/
def descriptorInjected : State :=
  { State.reset with
    badger := { testActive := true, injections := [{ target := 3, arg := 0, value := 0, ends := 0 }] }
    hamper := { rings := [{ num := 0 }] } }

/-- The command reads the descriptor's first word. -/
def descriptorRead : Instr := .reg64LowRead .app 0x40040000

/-- The outcome is a next state in which no injection waits. -/
def noneWaits : Host.Outcome State Fault Refusal → Bool
  | .next t => t.badger.injections.isEmpty
  | _ => false

theorem next_of_noneWaits {o : Host.Outcome State Fault Refusal} (h : noneWaits o = true) :
    ∃ t, o = .next t ∧ t.badger.injections = [] := by
  cases o with
  | next t => exact ⟨t, rfl, List.isEmpty_iff.mp h⟩
  | fault r => cases h
  | refused r => cases h

/-- The read of the descriptor uses the injection up (R418). -/
theorem noneWaits_descriptorRead : noneWaits (exec descriptorRead descriptorInjected) = true := by
  decide

/-- Refutes O56: the row of REG64_LOW_READ names the clocks and the answer alone, but a read whose address is a ring's
descriptor carries out the injected descriptor error (R418), which uses the injection up, a part of Badger. -/
theorem not_commandsKeepTheirFrames : ¬ Obligations.CommandsKeepTheirFrames := by
  unfold Obligations.CommandsKeepTheirFrames
  intro h
  obtain ⟨t, hexec, hnone⟩ := next_of_noneWaits noneWaits_descriptorRead
  have hkept : t.badger = descriptorInjected.badger := h _ _ _ .badger hexec (by decide)
  rw [hkept] at hnone
  cases hnone

end Sys2Proof.Machine
end

section
/-! PROOFS. The queue's front command, the state after reset, and control-law words written out. -/

namespace Sys2Proof.Machine

/-- Settles O47. -/
theorem frontCommandRuns : Obligations.FrontCommandRuns := by
  unfold Obligations.FrontCommandRuns
  refine ⟨fun s c rest hp => step_of_pending hp, fun s c => ?_⟩
  exact step_of_pending (s := { s with pending := c :: s.pending }) rfl

/-- Settles O48. -/
theorem resetState : Obligations.ResetState := by
  unfold Obligations.ResetState
  refine ⟨rfl, rfl, rfl, rfl, rfl, rfl, ?_, ?_, rfl, rfl, rfl, rfl, rfl, rfl⟩
  · decide
  · decide

/-- Settles O51, by evaluating the decoder on each word. -/
theorem loopWords : Obligations.LoopWords := by
  unfold Obligations.LoopWords
  decide

end Sys2Proof.Machine
end

section
/-! PROOFS. The clock monitors and the reference (chapters 2 and 5), and the writes of counters, periods and semaphores. -/

namespace Sys2Proof.Machine

/-! ### Clock monitors and the reference -/

/-- A monitor that fails in RUN turns every channel off and halts the device (R51, R78). -/
theorem clockFails_in_run {m : Monitor} {k : Byte} {s : State} (hm : s.clk.monitorsOn = true) (hd : s.dev.state = .run) :
    clockFails m k s = clockFails.react m k { s with clk := s.clk.fail m } := by
  simp [clockFails, hm, hd]

theorem clockFails_react_clk (m : Monitor) (k : Byte) (s : State) :
    (clockFails.react m k s).clk = { s.clk with clockLost := true } := by
  simp [clockFails.react, haltNow]

theorem clockFails_react_state (m : Monitor) (k : Byte) {s : State} (hd : s.dev.state = .run) :
    (clockFails.react m k s).dev.state = .halt := by
  simp [clockFails.react, haltNow, enterHalt_state, hd]

/-- A reference that leaves its window is not ready, and its voltages are those measured (R222). -/
theorem refFails_of_ready {s : State} (mon : W16) (h : s.dev.refReady = true) :
    refFails mon s = sendMsg { setRefReady s false with
      dev := { s.dev with refReady := false, refVolts := refVoltsOf mon }, refMon := { s.refMon with mon := mon } }
      srcRef 0x21 .halt mon.toNat := by
  simp [refFails, h, setRefReady]

theorem chan_setRefReady (s : State) (on : Bool) (n : Ch) :
    (setRefReady s on).chan n = { s.chan n with cap := ((setRefReady s on).chan n).cap } := by
  simp [State.chan, setRefReady]

/-- Settles O4: a failing monitor halts the device from RUN, and of the reference's commands each is one update. -/
theorem clockAndReferenceCommands : Obligations.ClockAndReferenceCommands := by
  unfold Obligations.ClockAndReferenceCommands
  refine ⟨fun s m k hm hd => ⟨_, rfl, ?_, ?_⟩, fun s hon hinj => ⟨setRefReady s true, ?_, rfl, rfl⟩,
    fun s hon hready => ⟨_, ?_, rfl⟩, fun s mon hready => ⟨_, rfl, ?_, ?_, fun n => ?_⟩, fun s mon hon => ?_⟩
  · rw [clockFails_in_run hm hd, clockFails_react_clk]
  · rw [clockFails_in_run hm hd, clockFails_react_state]
    exact hd
  · simp [exec, execRefReadySet, hon, hinj]
  · simp [exec, execRefReadyTimeout, hon, hready]
  · rw [refFails_of_ready mon hready]; simp
  · rw [refFails_of_ready mon hready]; simp
  · rw [refFails_of_ready mon hready]
    simpa [State.chan] using chan_setRefReady s false n
  · simp [exec, execRefVoltsUpdate, hon]

/-! ### Counters, periods and semaphores -/

/-- CLR_COUNT, the counter of the clear input (Table 10.8). -/
def clrHome : CounterHome :=
  ⟨(·.trig.clrCount), fun f s => s.modTrigs fun t => { t with clrCount := f t.clrCount }⟩

theorem busRegAt_clrCount (m : Master) : busRegAt m 0x40012804 = some (counterReg false clrHome) := by
  cases m <;> rfl

theorem busRegAt_clrStatus (m : Master) : busRegAt m 0x40012808 = some (statusReg false clrHome) := by
  cases m <;> rfl

/-- A one-bit field takes its bit of the word. -/
theorem field_bit (w : Word) (i : Nat) : w.toNat / 2 ^ i % 2 = 1 ↔ w.getLsbD i = true := by
  rw [BitVec.getLsbD, Nat.testBit_eq_decide_div_mod_eq, decide_eq_true_eq]

/-- A written 1 clears the status bit of its place (R74). -/
theorem writeReg_clrStatus (m : Master) (addr : Nat) (w : Word) (s : State) :
    (writeReg (statusReg false clrHome) m addr w s).trig.clrCount =
      { s.trig.clrCount with wrap := s.trig.clrCount.wrap && !w.getLsbD 0
                             collide := s.trig.clrCount.collide && !w.getLsbD 1 } := by
  have hput : writeReg (statusReg false clrHome) m addr w s = (statusReg false clrHome).put w s := by
    cases m <;> rfl
  have h0 := field_bit w 0
  have h1 := field_bit w 1
  rw [hput]
  cases hb0 : w.getLsbD 0 <;> cases hb1 : w.getLsbD 1 <;>
    simp_all [statusReg, Reg.put, w1cF, Field.of, clrHome, State.modTrigs]

/-- Who asks for a semaphore that is open to it has it (R456). -/
theorem exec_semWrite_open {s : State} {m : Master} {i : Fin 32} {w : Word} (hrun : s.clk.pllLock = true)
    (hset : w.getLsbD 0 = true) (hopen : semOpen s m i = true) :
    exec (.semWrite m i w) s = .next { s with hamper := { s.hamper with
      sems := s.hamper.sems.set i.val (some m), semAt := s.hamper.semAt.set i.val s.now } } := by
  simp [exec, execSemWrite, State.clocksRun, hrun, hset, hopen]

/-- A semaphore is given back by its holder alone (R456). -/
theorem exec_semWrite_clear (s : State) (m : Master) (i : Fin 32) {w : Word} (hclear : w.getLsbD 0 = false) :
    exec (.semWrite m i w) s = .next
      (if s.clk.pllLock = true ∧ s.hamper.sems[i.val] = some m then
        { s with hamper := { s.hamper with sems := s.hamper.sems.set i.val none } }
      else s) := by
  have hbit : w[0] = false := hclear
  cases hrun : s.clk.pllLock <;> simp [exec, execSemWrite, State.clocksRun, hrun, hbit]

theorem semOpen_of_free {s : State} {m : Master} {i : Fin 32} (h : s.hamper.sems[i.val] = none) :
    semOpen s m i = true := by
  simp [semOpen, h]

/-- Settles O7: the counter and its status are registers of one home, and the periods and semaphores are single updates. -/
theorem counterRegisterCommands : Obligations.CounterRegisterCommands := by
  unfold Obligations.CounterRegisterCommands
  have hclr (m : Master) (w : Word) (event : Bool) (s : State) :=
    exec_counterWrite (busRegAt_clrCount m) rfl rfl w event s
  refine ⟨fun s m w => hclr m w false s, fun s m w => ⟨_, hclr m w true s, rfl, rfl⟩, fun s m w wrapNow collideNow => ?_,
    fun s w hw => ⟨_, rfl, ?_, ?_⟩, fun s p w hw => ⟨_, rfl, ?_, ?_⟩, fun s p w => ⟨_, rfl, ?_, rfl⟩,
    fun s m i w hrun hset hfree => ?_, fun s m o i w hset howner hclosed => ?_, fun s i w hrun hset happ hnow => ?_,
    fun s m i w hrun hclear hmine => ?_, fun s m o i w hclear howner hother => ?_⟩
  · refine ⟨_, exec_statusW1c (busRegAt_clrStatus m) rfl w wrapNow collideNow s, ?_⟩
    have hcleared := writeReg_clrStatus m 0x40012808 w s
    simp only [clrHome, State.modTrigs] at hcleared ⊢
    simp only [hcleared]
    trivial
  · simp [hw, Aux.setPeriod]
  · simp [hw]
  · simp [hw, State.modPwg]
  · simp [hw]
  · simp [State.modPwg]
  · refine ⟨_, exec_semWrite_open hrun hset (semOpen_of_free hfree), by simp, fun j hj => ?_⟩
    simp [Vector.getElem_set_ne, Fin.val_ne_of_ne hj.symm]
  · simp [exec, execSemWrite, hset, hclosed]
  · have hopen : semOpen s .sup i = true := by simp [semOpen, happ, hnow]
    exact ⟨_, exec_semWrite_open hrun hset hopen, rfl⟩
  · have hgiven := exec_semWrite_clear s m i hclear
    rw [if_pos ⟨hrun, hmine⟩] at hgiven
    exact ⟨_, hgiven, by simp⟩
  · have hkept := exec_semWrite_clear s m i hclear
    rw [if_neg fun h => hother (Option.some.inj (howner.symm.trans h.2))] at hkept
    exact ⟨_, hkept, rfl⟩

end Sys2Proof.Machine
end

section
/-! PROOFS. The sources of a reset and the way from the AON reset to VERIFY (chapter 5). -/

namespace Sys2Proof.Machine

/-! ### Sources of a reset -/

/-- A failing supply other than AON's takes the device into RESET (R199). -/
theorem exec_supplyFail {s : State} {sup : Supply} (hsup : sup ≠ .aon) (hd : s.dev.state ≠ .reset) :
    exec (.supplyFail sup) s = .next (enterReset
      { s with power := { s.power with good := s.power.good &&& ~~~(BitVec.twoPow 6 (supplyBit sup)) } } 0 false) := by
  cases sup with
  | aon => exact absurd rfl hsup
  | core | link | io | ioB | avdd => simp [exec, execSupplyFail, hd]

@[simp] theorem saveDone_dev (s : State) : (saveDone s).dev = s.dev := by
  unfold saveDone; split <;> simp

theorem saveDone_saved {s : State} {x : SavedRecord} (h : s.trust.instr.saving = some x) :
    (saveDone s).trust.instr.saved = some x := by
  simp [saveDone, h, State.modInstr]

theorem enterReset_saved (s : State) (cause : W16) (aon : Bool) :
    (enterReset s cause aon).trust.instr.saved = s.trust.instr.saved := by
  unfold enterReset afterReset; split <;> rfl

/-- Settles O1: each source enters RESET with its cause, and AON's power-on resets beyond it. -/
theorem resetSourcesEnterReset : Obligations.ResetSourcesEnterReset := by
  unfold Obligations.ResetSourcesEnterReset
  refine ⟨fun s sup hsup hd => ⟨_, exec_supplyFail hsup hd, enterReset_enters rfl 0 false hd, by simp⟩,
    fun s => ⟨_, rfl, powerOn_poweredOn _, ?_⟩, fun s => ⟨_, rfl, powerOn_poweredOn _, by simp⟩, fun s sup => rfl,
    fun s hd => ⟨_, rfl, enterReset_enters rfl _ true hd, by simp, by simp⟩, fun s => rfl,
    fun s hd => ⟨_, rfl, enterReset_enters rfl _ true hd, by simp⟩, fun s hpend hd => ⟨deviceReset s, ?_, ?_, ?_, ?_⟩,
    fun s r v h => ?_⟩
  · simp [supplyBit]; rfl
  · simp [exec, execDeviceResetTimeout, hpend]
  · exact enterReset_enters (saveDone_dev s) _ true hd
  · simp [deviceReset]
  · intro x hx
    rw [deviceReset, enterReset_saved, saveDone_saved hx]
  · refine ⟨_, congrArg Host.Outcome.next (perform_admitted h), ?_, rfl⟩
    simp [objDeviceReset]

/-! ### Messages sent -/

/-- A source sends its message into whatever queue Badger had before the command (R584). -/
theorem sends_sendMsg {s u : State} (hu : u.badger = s.badger) (src : BitVec 6) (kind : Byte) (base : Level) (detail : Nat) :
    Sends s (sendMsg u src kind base detail) src kind base detail := by
  intro hroom
  rw [← hu] at hroom ⊢
  exact ⟨_, sendMsg_queue_of_room hroom kind base detail, rfl, rfl, rfl, rfl⟩

theorem Sends.congr {s t u : State} {src : BitVec 6} {kind : Byte} {base : Level} {detail : Nat}
    (h : Sends s t src kind base detail) (hq : u.badger.queue = t.badger.queue) : Sends s u src kind base detail := by
  intro hroom
  rw [hq]
  exact h hroom

/-! ### From the AON reset to BOOT -/

/-- The state in which the AON reset's release judges the lockout record (R177, R207). -/
def released (s : State) (straps : BitVec 4) (found : Option LockoutRecord) : State :=
  let x := found.getD ⟨0, 0, false⟩
  { s with
    power := { s.power with aonHeld := false, straps := straps, strapsLive := straps, strapsAt := some s.now }
    lockoutRec := found
    trust := { s.trust with instr := { s.trust.instr with failedStreak := x.streak, lastLockout := x.lastLen, state := .locked } } }

theorem lockoutFound_congr {s u : State} (hrec : u.lockoutRec = s.lockoutRec) (hotp : u.otp = s.otp) (lock : LockoutObs) :
    lockoutFound u lock = lockoutFound s lock := by
  simp [lockoutFound, hrec, hotp]

theorem exec_aonResetRelease {s : State} {straps : BitVec 4} {lock : LockoutObs} (hheld : s.power.aonHeld = true)
    (hgood : s.power.good.getLsbD 0 = true) (hrst : s.power.rstLow = false) :
    exec (.aonResetRelease straps lock) s = .next
      (if ((lockoutFound s lock).getD ⟨0, 0, false⟩).running then beginLockout (released s straps (lockoutFound s lock)) 60
       else lockoutDefault (released s straps (lockoutFound s lock))) := by
  simp [exec, execAonResetRelease, hheld, hgood, hrst, released, lockoutFound_congr (s := s)]

/-- What a lockout that begins leaves in the Instructor (R175). -/
theorem beginLockout_instr (s : State) (len : Nat) :
    (beginLockout s len).trust.instr = { s.trust.instr with state := .lockout, lockoutEnd := s.now + secs len } := by
  simp [beginLockout]

end Sys2Proof.Machine
end

section
/-! PROOFS. The lockout record found at the AON reset's release, the entry into BOOT, and the PLL's lock (chapters 4 and 5). -/

namespace Sys2Proof.Machine

section
variable {s : State} {straps : BitVec 4}

/-- The device as the AON reset's release leaves it, whatever it finds of a lockout. -/
theorem beginLockout_released (found : Option LockoutRecord) :
    (beginLockout (released s straps found) 60).power.aonHeld = false ∧
      (beginLockout (released s straps found) 60).power.straps = straps ∧
      (beginLockout (released s straps found) 60).dev = s.dev ∧
      (beginLockout (released s straps found) 60).lockoutRec = found := by
  simp [beginLockout, released]

theorem lockoutDefault_released (found : Option LockoutRecord) :
    (lockoutDefault (released s straps found)).power.aonHeld = false ∧
      (lockoutDefault (released s straps found)).power.straps = straps ∧
      (lockoutDefault (released s straps found)).dev = s.dev ∧
      (lockoutDefault (released s straps found)).lockoutRec = found := by
  simp [released]

/-- A record that was found stands; no lockout runs that it does not name. -/
theorem lockoutDefault_released_some (x : LockoutRecord) :
    lockoutDefault (released s straps (some x)) = released s straps (some x) := by
  simp [lockoutDefault, released]

/-- Without a record, nothing is held against a device that never had a record (R177). -/
theorem lockoutDefault_released_none (h : s.trust.instr.saved = none) :
    (lockoutDefault (released s straps none)).trust.instr.failedStreak = 0 ∧
      (lockoutDefault (released s straps none)).trust.instr.state = .locked := by
  simp [lockoutDefault, released, h, State.modInstr]

/-- Without a record where there was one, the streak is at its limit and a lockout runs (R177). -/
theorem lockoutDefault_released_lost (h : s.trust.instr.saved ≠ none) :
    (lockoutDefault (released s straps none)).trust.instr.failedStreak = 5 ∧
      (lockoutDefault (released s straps none)).trust.instr.state = .lockout ∧
      (lockoutDefault (released s straps none)).trust.instr.lockoutEnd = s.now + secs 60 := by
  have hsaved : s.trust.instr.saved.isSome = true := Option.isSome_iff_ne_none.mpr h
  simp [lockoutDefault, released, hsaved, State.modInstr, beginLockout]

end

/-- The probe leaves the flash in continuous reading where both of its reads show one state other than erased (R550). -/
theorem probeFlash_cont (s : State) (a b : List Byte) :
    (probeFlash s a b).xip.cont = (a == b && a.length == 16 && a.any (· != 0xFF)) ∧
      (probeFlash s a b).fsp.contRead = (probeFlash s a b).xip.cont ∧
      (probeFlash s a b).fsp.inCont = (probeFlash s a b).xip.cont := by
  cases hread : a == b && a.length == 16 && a.any (· != 0xFF) <;>
    simp only [probeFlash, hread, Bool.false_eq_true, if_false, if_true]
  · simp [State.modFsp, State.modXip, exitNow, State.fss0, State.send]
  · simp [State.modFsp, State.modXip]

/-- The parts that BOOT's entry sets beside its messages (R211, R550). -/
def BootIsEntered (s t : State) (a b : List Byte) : Prop :=
  t.dev.state = .boot ∧ t.dev.refbufOn = true ∧ t.dev.refbufAt = s.now ∧ t.clk.pllEn = s.clk.refPresent
    ∧ t.xip.cont = (a == b && a.length == 16 && a.any (· != 0xFF)) ∧ t.fsp.contRead = t.xip.cont ∧ t.fsp.inCont = t.xip.cont

theorem bootIsEntered_bootEntered (s : State) (a b : List Byte) : BootIsEntered s (bootEntered s (a, b)) a b := by
  obtain ⟨hcont, hread, hin⟩ := probeFlash_cont
    { s with dev := { s.dev with state := .boot, refbufOn := true, refbufAt := s.now }
             mgp := s.mgp.defaults
             clk := { s.clk with pllEn := s.clk.refPresent } } a b
  exact ⟨by simp [bootEntered], by simp [bootEntered], by simp [bootEntered], by simp [bootEntered], hcont, hread, hin⟩

/-- A message changes nothing that BOOT's entry sets. -/
theorem BootIsEntered.sendMsg {s t : State} {a b : List Byte} (h : BootIsEntered s t a b) (src : BitVec 6) (kind : Byte)
    (base : Level) (detail : Nat) : BootIsEntered s (sendMsg t src kind base detail) a b := by
  simpa [BootIsEntered] using h

theorem bootEntered_badger (s : State) (reads : List Byte × List Byte) : (bootEntered s reads).badger = s.badger := by
  simp [bootEntered]

/-- With strap 3 the second message follows BOOT's into the empty queue. -/
theorem bootReported_second_queue {s : State} (hq : s.badger.queue = []) (reads : List Byte × List Byte) :
    ∃ m', (sendMsg (bootReported s reads) srcTsf 0x02 .warn 0).badger.queue = [bootMsg s reads, m'] ∧ m'.source = srcTsf
      ∧ m'.kind = 0x02 ∧ m'.base = .warn := by
  have reported := bootReported_queue hq reads
  have room : (bootReported s reads).badger.queue.countP (fun m => m.source == srcTsf) < 8 := by
    rw [reported]
    exact Nat.lt_of_le_of_lt List.countP_le_length (by simp)
  exact ⟨_, by rw [sendMsg_queue_of_room room, reported]; rfl, rfl, rfl, rfl⟩

/-- The lock of the PLL starts the TBC, takes the patch's level and enters VERIFY (R79, R65, R166). -/
theorem exec_pllLock_state {s : State} (hd : s.dev.state = .boot) (hen : s.clk.pllEn = true) (hlock : s.clk.pllLock = false)
    (x : FlashImage) : ∃ t, exec (.pllLock x) s = .next t ∧ t.clk.pllLock = true ∧ t.clk.monitorsOn = true ∧ t.clk.tbc = 0
      ∧ t.dev.state = .verify ∧ t.trust.image.patchLevel = (patchVerdict x).1 := by
  simp only [exec, execPllLock, hd, hen, hlock, beq_self_eq_true, Bool.not_false, Bool.and_self, if_true]
  refine ⟨_, rfl, ?_⟩
  cases (patchVerdict x).2 <;> simp

/-- Settles O2: the lockout record found decides between a lockout and its default, the entry into BOOT sends one message or
two, and each of the clocks' commands is one case of its guard. -/
theorem bootSequenceCommands : Obligations.BootSequenceCommands := by
  unfold Obligations.BootSequenceCommands
  refine ⟨fun s straps lock hheld hgood hrst => ?_, fun s a b hd hheld hgood => ?_, fun s hheld => ?_,
    fun s x hd hen hlock => exec_pllLock_state hd hen hlock x, fun s hd hen hlock hfails => ?_,
    fun s hd hen hlock hfails => ?_, fun s hd href => ?_⟩
  · have hexec := exec_aonResetRelease (straps := straps) (lock := lock) hheld hgood hrst
    rcases hfound : lockoutFound s lock with _ | ⟨k, l, _ | _⟩ <;> rw [hfound] at hexec
    · obtain ⟨hpow, hstraps, hdev, hrec⟩ := lockoutDefault_released (s := s) (straps := straps) none
      refine ⟨_, hexec, hpow, hstraps, hdev, hrec, nofun, nofun, fun _ => lockoutDefault_released_none,
        fun _ => lockoutDefault_released_lost⟩
    · rw [lockoutDefault_released_some] at hexec
      refine ⟨_, hexec, rfl, rfl, rfl, rfl, nofun, ?_, nofun, nofun⟩
      rintro _ _ ⟨⟩
      exact ⟨rfl, rfl⟩
    · obtain ⟨hpow, hstraps, hdev, hrec⟩ := beginLockout_released (s := s) (straps := straps) (some ⟨k, l, true⟩)
      refine ⟨_, hexec, hpow, hstraps, hdev, hrec, ?_, nofun, nofun, nofun⟩
      rintro _ _ ⟨⟩
      simp [beginLockout_instr, released]
  · have hexec := exec_bootEntry hd hheld hgood (a, b)
    have hentered : BootIsEntered s (bootReported s (a, b)) a b := (bootIsEntered_bootEntered s a b).sendMsg ..
    cases hstrap : s.power.straps.getLsbD 3 <;> rw [hstrap] at hexec
    · obtain ⟨hstate, hon, hat, hen, hcont, hread, hin⟩ := hentered
      refine ⟨_, hexec, hstate, hon, hat, hen, hcont, hread, hin, fun _ => ?_, nofun⟩
      exact sends_sendMsg (bootEntered_badger s (a, b)) srcTsf 0x00 .note s.dev.resetCause.toNat
    · obtain ⟨hstate, hon, hat, hen, hcont, hread, hin⟩ := hentered.sendMsg srcTsf 0x02 .warn 0
      refine ⟨_, hexec, hstate, hon, hat, hen, hcont, hread, hin, nofun, fun _ hq => ?_⟩
      obtain ⟨m', hqueue, hsrc, hkind, hbase⟩ := bootReported_second_queue hq (a, b)
      exact ⟨_, m', hqueue, rfl, BitVec.eq_of_toNat_eq (by simp [bootMsg, newMsg]), hsrc, hkind, hbase⟩
  · exact ⟨_, if_neg (by simp [hheld]), rfl, rfl, rfl, rfl, rfl⟩
  · simp only [exec, execPllLockTimeout, hd, hen, hlock, beq_self_eq_true, Bool.not_false, Bool.and_self, if_true]
    rw [if_pos (show s.clk.pllFails + 1 < 3 by omega)]
  · simp only [exec, execPllLockTimeout, hd, hen, hlock, beq_self_eq_true, Bool.not_false, Bool.and_self, if_true]
    rw [if_neg (show ¬ s.clk.pllFails + 1 < 3 by omega)]
    exact ⟨_, rfl, by simp [haltNow, enterHalt_state, hd], by simp [haltNow]⟩
  · simp only [exec, execRefPresentTimeout, hd, href, beq_self_eq_true, Bool.not_false, Bool.and_self, if_true]
    exact ⟨_, rfl, by simp [haltNow, enterHalt_state, hd], by simp [haltNow]⟩

end Sys2Proof.Machine
end

section
/-! PROOFS. The end of a verification (R162 to R164, R209) and the application core's reset and watchdog (R190, R206). -/

namespace Sys2Proof.Machine

/-! ### What a verification leaves -/

@[simp] theorem modInstr_image (s : State) (f : Instructor → Instructor) : (s.modInstr f).trust.image = s.trust.image := rfl

@[simp] theorem beginLockout_image (s : State) (len : Nat) : (beginLockout s len).trust.image = s.trust.image := by
  simp [beginLockout]

@[simp] theorem lockoutDefault_image (s : State) : (lockoutDefault s).trust.image = s.trust.image := by
  unfold lockoutDefault
  split_ifs <;> simp

@[simp] theorem noRecord_image (s : State) (st : RecordState) : (noRecord s st).trust.image = s.trust.image := by
  simp only [noRecord]
  split_ifs <;> simp

@[simp] theorem applyRecord_image (s : State) (r : RecordObs) : (applyRecord s r).trust.image = s.trust.image := by
  unfold applyRecord
  split
  · simp
  · simp only []
    split_ifs <;> simp

/-- The two locations' results are those of their images (R162). -/
theorem recordImages_results (s : State) (x0 x1 : FlashImage) :
    (recordImages s x0 x1).trust.image.result0 = verifyImage s.otp x0 ∧
      (recordImages s x0 x1).trust.image.result1 = verifyImage s.otp x1 := by
  simp only [recordImages]
  cases admitted s.otp x0 x1 <;> exact ⟨rfl, rfl⟩

/-- What VERIFY's end knows before the device enters RUN or SAFE. -/
def verified (s : State) (x0 x1 : FlashImage) (rec : RecordObs) : State :=
  lockoutDefault (applyRecord (recordImages (sendExit s) x0 x1) rec)

theorem exec_verifyComplete {s : State} {x0 x1 : FlashImage} (rec : RecordObs) (hd : s.dev.state = .verify)
    (hre : s.dev.reverify = false) (hmay : verifyMay s x0 x1 = true) :
    exec (.verifyComplete x0 x1 rec) s = .next
      (if ((admitted s.otp x0 x1).isSome && !s.power.straps.getLsbD 2) = true then enterRun (verified s x0 x1 rec)
       else enterQuiet (verified s x0 x1 rec) .safe) := by
  simp only [exec, execVerifyComplete, hd, hre, hmay, beq_self_eq_true, Bool.not_false, Bool.and_self, if_true]
  split_ifs <;> simp_all [verified]

theorem verified_results (s : State) (x0 x1 : FlashImage) (rec : RecordObs) :
    (verified s x0 x1 rec).trust.image.result0 = verifyImage s.otp x0 ∧
      (verified s x0 x1 rec).trust.image.result1 = verifyImage s.otp x1 := by
  simpa [verified] using recordImages_results (sendExit s) x0 x1

/-- What the verification that follows a core's reset leaves, before the device's state is judged (R164, R209). -/
def reverified (s : State) (x0 x1 : FlashImage) : State :=
  recordImages { sendExit s with dev := { s.dev with reverify := false } } x0 x1

theorem reverified_dev (s : State) (x0 x1 : FlashImage) :
    (reverified s x0 x1).dev = { s.dev with reverify := false } := rfl

theorem exec_appReverifyComplete {s : State} {x0 x1 : FlashImage} (hre : s.dev.reverify = true)
    (hmay : verifyMay s x0 x1 = true) :
    exec (.appReverifyComplete x0 x1) s = .next
      (if (admitted s.otp x0 x1).isSome then
        if s.dev.state = .run then coreReleased (reverified s x0 x1) else enterRun (reverified s x0 x1)
       else enterQuiet (reverified s x0 x1) .safe) := by
  have hotp : (reverified s x0 x1).otp = s.otp := by simp [reverified]
  have hexec : exec (.appReverifyComplete x0 x1) s =
      if (admitted (reverified s x0 x1).otp x0 x1).isSome then .next
        (if (reverified s x0 x1).dev.state == .run then coreReleased (reverified s x0 x1) else enterRun (reverified s x0 x1))
      else .next (enterQuiet (reverified s x0 x1) .safe) := by
    simp only [exec, execAppReverifyComplete, hre, hmay, Bool.and_self, if_true]
    rfl
  rw [hexec, hotp, reverified_dev]
  simp only [beq_iff_eq]
  split_ifs <;> rfl

/-! ### The core's reset -/

/-- An expiry of the watchdog in RUN resets the core and reports it (R206). -/
theorem wdtExpire_dev {s : State} (hon : s.dev.wdt.on = true) (hrun : s.dev.state = .run) (hre : s.dev.reverify = false) :
    (wdtExpire s).dev = { s.dev with appResets := s.dev.appResets.inc, reverify := true, wdt := {} } := by
  simp [wdtExpire, hon, hre, State.running, hrun]

/-- What an admitted APP_RESET leaves (R190, R216). -/
theorem objAppReset_put_dev (w : W) (s : State) :
    (objAppReset.put w s).dev.reverify = true ∧
      (objAppReset.put w s).dev.state = if s.dev.state = .safe then .verify else s.dev.state := by
  by_cases hsafe : s.dev.state = .safe <;> simp [objAppReset, hsafe]

/-- Settles O3: a verification ends in RUN or SAFE as its images are admitted, and the watchdog's expiry is the core's reset. -/
theorem applicationCoreCommands : Obligations.ApplicationCoreCommands := by
  unfold Obligations.ApplicationCoreCommands
  refine ⟨⟨fun s x0 x1 rec hd hre hmay => ?_, fun s x0 x1 hre hmay => ?_, fun s r v h => ?_⟩,
    fun s w hoff hbit hlo hhi => ?_, fun s w hon => by simp [exec, execAppWdtCtrlWrite, hon],
    fun s hon => by simp [exec, execAppWdtKick, hon], fun s w hon hw hrun hre => ?_, fun s hon hrun hre => ?_⟩
  · refine ⟨_, exec_verifyComplete rec hd hre hmay, ?_⟩
    obtain ⟨h0, h1⟩ := verified_results s x0 x1 rec
    split_ifs <;> simp [h0, h1]
  · refine ⟨_, exec_appReverifyComplete hre hmay, ?_⟩
    split_ifs with hadm hrun
    · simp [reverified_dev, hrun]
    · simp [reverified_dev]
    · simp [reverified_dev]
  · obtain ⟨hre, hstate⟩ := objAppReset_put_dev ⟨r, [v], s, s, s⟩ s
    refine ⟨_, congrArg Host.Outcome.next (perform_admitted h), rfl, ?_⟩
    simp [hre, hstate]
  · have hwithin : within 1 10000 (w.extractLsb' 0 14).toNat = true := by
      simp only [within, hlo, hhi, decide_true, Bool.and_self]
    simp only [exec, execAppWdtCtrlWrite, hoff, hbit, hwithin, Bool.false_eq_true, if_false, if_true]
  · refine ⟨wdtExpire s, ?_, ?_⟩
    · have hother : (w == 0x000000A5) = false := beq_eq_false_iff_ne.mpr hw
      simp only [exec, execAppWdtKick, hon, hother, Bool.not_true, Bool.false_eq_true, if_false]
    · rw [wdtExpire_dev hon hrun hre]
      exact ⟨rfl, rfl, rfl⟩
  · refine ⟨_, rfl, ?_⟩
    rw [wdtExpire_dev hon hrun hre]
    exact ⟨rfl, rfl, rfl⟩

end Sys2Proof.Machine
end

section
/-! PROOFS. Tick boundaries, loop periods, and their synchronisation (R58 to R64, R259). -/

namespace Sys2Proof.Machine

/-! ### One change for each of a list -/

/-- Where a step for an element changes what is its own alone, by a rule that no step upsets, every element of the list is
changed once by its rule, and no other. -/
theorem get_forEach {ι β : Type} [DecidableEq ι] (get : State → ι → β) (f : State → ι → State) (P : State → Prop)
    (F : ι → β → β) (hP : ∀ s e, P s → P (f s e)) (hown : ∀ s e, P s → get (f s e) e = F e (get s e))
    (hother : ∀ s e d, P s → d ≠ e → get (f s e) d = get s d) {l : List ι} (hl : l.Nodup) {s : State} (hs : P s) (d : ι) :
    get (forEach l s f) d = if d ∈ l then F d (get s d) else get s d := by
  induction l generalizing s with
  | nil => simp [forEach]
  | cons e l ih =>
    obtain ⟨hnot, hl⟩ := List.nodup_cons.mp hl
    have hrest : get (forEach l (f s e) f) d = if d ∈ l then F d (get (f s e) d) else get (f s e) d := ih hl (hP s e hs)
    change get (forEach l (f s e) f) d = _
    by_cases hd : d = e
    · subst hd
      simp [hrest, hnot, hown s d hs]
    · simp [hrest, hd, hother s e d hs hd]

theorem nodup_allEng : allEng.Nodup := by decide

theorem mem_allEng (e : Eng) : e ∈ allEng := by fin_cases e <;> decide

theorem nodup_allCh : allCh.Nodup := by decide

theorem mem_allCh (n : Ch) : n ∈ allCh := by fin_cases n <;> decide

theorem nodup_allSlots : allSlots.Nodup := by decide

theorem mem_allSlots (i : Fin 8) : i ∈ allSlots := by fin_cases i <;> decide

/-! ### A tick boundary -/

/-- A boundary begins its engine's tick anew with the period written last, and no other engine's (R58, R60). -/
theorem loopTick_engine {s : State} {e : Eng} {w0 w1 : ChanWin} (hrun : s.clk.pllLock = true)
    (h0 : winFits (s.engine e) (s.chan e.slot0) w0 = true) (h1 : winFits (s.engine e) (s.chan e.slot1) w1 = true) :
    ∃ t, exec (.loopTick e w0 w1) s = .next t ∧ t.clk = s.clk ∧
      ∀ d, t.engine d = if d = e then { (s.engine e).nextTick s with nActive := (s.engine e).nShadow } else s.engine d := by
  simp only [exec, execLoopTick, State.clocksRun, hrun, h0, h1, Bool.and_self, if_true]
  refine ⟨_, rfl, by simp, fun d => ?_⟩
  rw [State.engine_congr (s := activatePeriod (s.modEng e fun g => g.nextTick s) e) (by simp)]
  split_ifs with hd
  · subst hd
    simp [Engine.nextTick]
  · simp [hd]

/-! ### Loop periods -/

theorem admitSet_periods (s : State) (e d : Eng) :
    ((admitSet s e).engine d).nShadow = (s.engine d).nShadow ∧ ((admitSet s e).engine d).nActive = (s.engine d).nActive := by
  by_cases hd : d = e <;> simp [admitSet, hd]

/-- An admitted N stands in the shadow, and in force only where no boundary can take it over (R59). -/
theorem objLoopN_put_engine (e : Eng) (w : W) (s : State) :
    (((objLoopN e).put w s).engine e).nShadow = w.v ∧
      (s.clk.pllLock = true → (((objLoopN e).put w s).engine e).nActive = (s.engine e).nActive) := by
  constructor
  · simp only [objLoopN, admitSet_periods]
    split_ifs <;> simp
  · intro hrun
    simp [objLoopN, admitSet_periods, State.clocksRun, hrun]

/-! ### Synchronisation -/

/-- The engine that a synchronisation restarts begins a period now (R61). -/
def Engine.restartedAt (g : Engine) (now : Nat) : Engine :=
  { g with base := now, extra := g.extra + (now - g.base) / 6 }

/-- The restart of one engine where the mask selects it. -/
def restartSelected (s : State) (e : Eng) : State :=
  if s.clk.syncMask.getLsbD e.val then s.modEng e fun g => g.restartedAt s.now else s

theorem restartSelected_clk_now (s : State) (e : Eng) :
    (restartSelected s e).clk = s.clk ∧ (restartSelected s e).now = s.now := by
  unfold restartSelected
  split_ifs <;> simp

theorem restartSelected_engine (s : State) (e d : Eng) :
    (restartSelected s e).engine d =
      if d = e ∧ s.clk.syncMask.getLsbD d.val = true then (s.engine d).restartedAt s.now else s.engine d := by
  unfold restartSelected
  by_cases hd : d = e
  · subst hd
    split_ifs with hsel <;> simp_all
  · split_ifs <;> simp_all

/-- Each engine that the mask selects is restarted, and no other (R61). -/
theorem engine_forEach_restartSelected (s : State) (d : Eng) :
    (forEach allEng s restartSelected).engine d =
      if s.clk.syncMask.getLsbD d.val then (s.engine d).restartedAt s.now else s.engine d := by
  rw [get_forEach State.engine restartSelected (fun t => t.clk = s.clk ∧ t.now = s.now)
    (fun e g => if s.clk.syncMask.getLsbD e.val then g.restartedAt s.now else g)
    ?_ ?_ ?_ nodup_allEng ⟨rfl, rfl⟩ d, if_pos (mem_allEng d)]
  · rintro t e ⟨hclk, hnow⟩
    rw [(restartSelected_clk_now t e).1, (restartSelected_clk_now t e).2]
    exact ⟨hclk, hnow⟩
  · rintro t e ⟨hclk, hnow⟩
    simp [restartSelected_engine, hclk, hnow]
  · intro t e d _ hd
    simp [restartSelected_engine, hd]

theorem exec_loopSyncRestart {s : State} (harmed : s.clk.syncArmed = true) (hrun : s.clk.pllLock = true)
    (hreached : s.clk.syncTarget.toNat ≤ s.clk.tbc.toNat) :
    exec .loopSyncRestart s = .next (forEach allEng { s with clk := { s.clk with syncArmed := false } } restartSelected) := by
  simp only [exec, execLoopSyncRestart, harmed, State.clocksRun, hrun, hreached, decide_true, Bool.and_self, if_true]
  rfl

/-- Settles O9: a boundary, an accepted period and a synchronisation each change the engines they name. -/
theorem loopTimingCommands : Obligations.LoopTimingCommands := by
  unfold Obligations.LoopTimingCommands
  refine ⟨fun s e w0 w1 hrun h0 h1 => ?_, fun s r e n h => ?_, fun s r v h => ?_, fun s harmed hrun hreached => ?_, fun s r e v h => ?_⟩
  · obtain ⟨t, hexec, hclk, heng⟩ := loopTick_engine hrun h0 h1
    exact ⟨t, hexec, by simp [heng, Engine.nextTick], by simp [heng, Engine.nextTick], by simp [heng], hclk,
      fun d hd => by simp [heng, hd]⟩
  · obtain ⟨hshadow, hactive⟩ := objLoopN_put_engine e ⟨r, natBytes 2 n.toNat, s, s, s⟩ s
    refine ⟨_, congrArg Host.Outcome.next (perform_admitted h), rfl, ?_, fun hrun => ?_⟩
    · rw [reply_engine, instructorCommand_engine, hshadow, W.v, beNat_natBytes]
      omega
    · rw [reply_engine, instructorCommand_engine, hactive hrun]
  · refine ⟨_, congrArg Host.Outcome.next (perform_admitted h), rfl, ?_, ?_⟩ <;> simp [objSyncArm, W.v, BitVec.toNat_eq]
  · refine ⟨_, exec_loopSyncRestart harmed hrun hreached, ?_, fun e => ?_⟩
    · rw [forEach_clk _ _ fun s e => (restartSelected_clk_now s e).1]
    · rw [engine_forEach_restartSelected]
      rfl
  · refine ⟨_, congrArg Host.Outcome.next (perform_admitted h), rfl, ?_, ?_⟩ <;> simp [objPeakClear]

end Sys2Proof.Machine
end

section
/-! PROOFS. The Instructor's limits (R168 to R173) where the clocks are stopped: a MIN_PERIOD that raises N brings its change of
period at once (R59), and that ends a LAC frame of the pair's other channel (R329). -/

namespace Sys2Proof.Machine

/-- A device whose root clocks do not run, with the Instructor unlocked and a LAC frame begun on channel 1. -/
def stoppedAdapting : State :=
  ({ State.reset with trust := { instr := { state := .unlocked } } }).modCh 1 fun c =>
    { c with lac := { state := .adapting, frameTick := 1 } }

/-- The Instructor. -/
def byInstructor : Req := { who := .mgmt, path := .mgp, epoch := none }

/-- MIN_PERIOD of channel 0 as 1 ms. -/
def oneMs : List Byte := natBytes 4 0x3A83126F

/-- The object of MIN_PERIOD of channel 0. -/
def minPeriodLimit : Obj :=
  limObj 0 tF32 (fun w => fWithin ⟨1, 1000000⟩ ⟨1638375, 1000000000⟩ w.f) (fun l => l.minPeriod.toNat)
    fun v l => { l with minPeriod := BitVec.ofNat 32 v }

theorem admits_oneMs : minPeriodLimit.Admits byInstructor tF32 oneMs stoppedAdapting := by
  decide

/-- The frames that channel 1 has discarded, in the outcome's state. -/
def discardsOf : Host.Outcome State Fault Refusal → Option Word
  | .next t => some (t.chan 1).lac.discards.value
  | _ => none

theorem discardsOf_oneMs : discardsOf (exec (.limitWrite byInstructor 0 0x05 tF32 oneMs) stoppedAdapting) = some 1 := by
  decide

/-- Refutes O10: a limit's write changes another channel. Without the root clocks, the MIN_PERIOD of 1 ms raises the engine's N
and the period in force with it, and the LAC frame of channel 1, which the new period ends, is discarded. -/
theorem not_ownershipAndLimits : ¬ Obligations.OwnershipAndLimits := by
  unfold Obligations.OwnershipAndLimits
  rintro ⟨-, hlimit, -⟩
  obtain ⟨t, hexec, -, -, hothers, -⟩ :=
    hlimit stoppedAdapting byInstructor 0 0x05 tF32 oneMs minPeriodLimit rfl admits_oneMs
  have hdiscards := discardsOf_oneMs
  rw [hexec, discardsOf, hothers 1 (by decide)] at hdiscards
  exact absurd hdiscards (by decide)

end Sys2Proof.Machine
end

section
/-! PROOFS. Requests for a change of mode (R236 to R241, R250): what an accepted one sets, and which are not admitted. -/

namespace Sys2Proof.Machine

/-! ### Checks behind the owner's -/

section
variable {o : Obj} {r : Req} {ty : Byte} {data : List Byte} {s : State}

theorem of_code_eq_ok {b : Bool} {c : Byte} (hc : c ≠ eOk) (h : (if b then eOk else c) = eOk) : b = true := by
  cases b
  · exact absurd h hc
  · rfl

/-- An admitted write passes the checks of the mode and of the state (R97). -/
theorem Obj.Admits.passes_mode_state (h : o.Admits r ty data s) :
    o.mode (o.judged r data s) = true ∧ o.state (o.judged r data s) = eOk := by
  obtain ⟨-, rest⟩ := eq_ok_of_firstCode_cons h
  obtain ⟨-, rest⟩ := eq_ok_of_firstCode_cons rest
  obtain ⟨-, rest⟩ := eq_ok_of_firstCode_cons rest
  obtain ⟨-, rest⟩ := eq_ok_of_firstCode_cons rest
  obtain ⟨-, rest⟩ := eq_ok_of_firstCode_cons rest
  obtain ⟨mode, rest⟩ := eq_ok_of_firstCode_cons rest
  refine ⟨?_, (eq_ok_of_firstCode_cons rest).1⟩
  exact of_code_eq_ok (by decide) mode

end

/-! ### Numbers of the modes -/

theorem modeOf_eq_some {k : Nat} {m : Mode} (h : modeOf k = some m) : m.toNat = k := by
  have hk : k < 12 := (List.getElem?_eq_some_iff.mp h).1
  interval_cases k <;> (cases h; rfl)

@[simp] theorem countBusy_chan (s : State) (p : Path) (c : Byte) (n : Ch) : (s.countBusy p c).chan n = s.chan n :=
  State.chan_congr (by simp) n

theorem admitSet_chan (s : State) (e : Eng) (n : Ch) : (admitSet s e).chan n = s.chan n :=
  State.chan_congr (by simp) n

/-! ### What an accepted request sets -/

theorem acceptMode_of_already {s : State} {n : Ch} {m : Mode} (h : (s.chan n).already m.toNat = true) : acceptMode s n m = s := by
  simp [acceptMode, h]

/-- During a safe ramp a request for OFF turns the ramp's target alone (R250). -/
theorem acceptMode_of_ramp {s : State} {n : Ch} {m : Mode} (h : (s.chan n).mode.status = .safeRamp) :
    acceptMode s n m =
      s.modCh n fun c => { c with mode := { c.mode with target := .off, rampReason := .modeRequest } } := by
  simp [acceptMode, h, Channel.already]

/-- A request waits for its boundary (R238). -/
theorem acceptMode_waits {s : State} {n : Ch} {m : Mode} (halready : (s.chan n).already m.toNat = false)
    (hramp : (s.chan n).mode.status ≠ .safeRamp) :
    ((acceptMode s n m).chan n).mode.mode = (s.chan n).mode.mode ∧ ((acceptMode s n m).chan n).mode.pending = some m ∧
      OthersKept n s (acceptMode s n m) := by
  have hstatus : ((s.chan n).mode.status == .safeRamp) = false := beq_eq_false_iff_ne.mpr hramp
  simp only [acceptMode, halready, hstatus, Bool.false_eq_true, if_false, admitSet_chan]
  exact ⟨by simp, by simp, fun k hk => by simp [admitSet_chan, hk]⟩

theorem objMode_put {n : Ch} {r : Req} {v : Byte} {m : Mode} (hm : modeOf v.toNat = some m) (pre post seq s : State) :
    (objMode n).put ⟨r, [v], pre, post, seq⟩ s = acceptMode s n m := by
  simp [objMode, W.v, hm]

/-! ### Requests that are not admitted -/

theorem modeStateCode_of_not_running {s : State} (h : s.dev.state ≠ .run) (n : Ch) (v : Nat) : modeStateCode s n v = eState := by
  simp [modeStateCode, State.running, h]

/-- During a safe ramp OFF alone is admitted (R250). -/
theorem modeStateCode_of_ramp {s : State} {n : Ch} {v : Nat} (h : (s.chan n).mode.status = .safeRamp) (hv : v ≠ 0) :
    modeStateCode s n v ≠ eOk := by
  simp only [modeStateCode, h]
  split_ifs <;> simp_all <;> decide

theorem modeOf_zero_eq_off {m : Mode} (h : modeOf 0 = some m) : m = .off := by
  cases h
  rfl

/-- A step of modes that Table 6.1 does not permit fails the check of the mode, or during a safe ramp that of the state. -/
theorem not_admits_of_not_permitted {n : Ch} {r : Req} {v : Byte} {m : Mode} {s : State} (hm : modeOf v.toNat = some m)
    (halready : (s.chan n).already v.toNat = false) (hperm : permitted (s.chan n).mode.mode m = false)
    (henabling : (s.chan n).mode.status ≠ .enabling) (hramp : (s.chan n).mode.status ≠ .safeRamp ∨ m ≠ .off) :
    ¬ (objMode n).Admits r tU8 [v] s := by
  intro h
  obtain ⟨hmode, hstate⟩ := h.passes_mode_state
  by_cases hsafe : (s.chan n).mode.status = .safeRamp
  · have hv : v.toNat ≠ 0 := fun hv => by
      rw [hv] at hm
      exact hramp.elim (absurd hsafe) (absurd (modeOf_zero_eq_off hm))
    refine absurd hstate (modeStateCode_of_ramp hsafe ?_)
    simpa [W.v, Obj.judged] using hv
  · have hgo : (s.chan n).mode.mayGo m = false := by simp [ModeSt.mayGo, hperm, henabling, hsafe]
    have hno : (objMode n).mode ((objMode n).judged r [v] s) = false := by
      simp [objMode, Obj.judged, W.v, hm, halready, hgo]
    rw [hno] at hmode
    cases hmode

theorem admits_objMode_modeOf {n : Ch} {r : Req} {v : Byte} {s : State} (h : (objMode n).Admits r tU8 [v] s) :
    ∃ m, modeOf v.toNat = some m := by
  have hmode := h.passes_mode_state.1
  simp only [objMode, Obj.judged, W.v, beNat_one] at hmode
  cases hm : modeOf v.toNat with
  | some m => exact ⟨m, rfl⟩
  | none => simp [hm] at hmode

/-- Settles O11: an accepted request is one update of the channel's mode, and each refusal is one check that fails. -/
theorem modeRequestsAreChecked : Obligations.ModeRequestsAreChecked := by
  unfold Obligations.ModeRequestsAreChecked
  refine ⟨⟨fun s r n v m h hm halready hramp => ?_, fun s r n v h halready => ?_, fun s r n v h hramp => ?_,
    fun s r n v h hoff => ?_⟩, fun s r n v hd h => ?_, fun s r n v m hm halready hperm henabling hramp =>
      not_admits_of_not_permitted hm halready hperm henabling hramp, fun s r n v h => ?_⟩
  · rw [← modeOf_eq_some hm] at halready
    obtain ⟨hmode, hpending, hothers⟩ := acceptMode_waits halready hramp
    refine ⟨_, congrArg Host.Outcome.next (perform_admitted h), rfl, ?_⟩
    rw [objMode_put hm]
    refine ⟨by simpa using hmode, by simpa using hpending, fun k hk => by simpa using hothers k hk⟩
  · obtain ⟨m, hm⟩ := admits_objMode_modeOf h
    rw [← modeOf_eq_some hm] at halready
    have hdone := perform_done h fun _ => rfl
    rwa [objMode_put hm, acceptMode_of_already halready] at hdone
  · obtain ⟨m, hm⟩ := admits_objMode_modeOf h
    have hdone := perform_done h fun _ => rfl
    rwa [objMode_put hm, acceptMode_of_ramp hramp] at hdone
  · have hdone := perform_done h fun _ => rfl
    have hput : (objOffNow n).put ⟨r, [v], s, s, s⟩ s =
        s.modCh n fun c => { c with mode := { c.mode with offNow := true } } := by
      simp [objOffNow, chCmd, State.modCh, State.chan] at hoff ⊢
      simp [hoff]
    rwa [hput] at hdone
  · refine absurd h.passes_mode_state.2 ?_
    simp [objMode, Obj.judged, modeStateCode_of_not_running hd]
    decide
  · obtain ⟨w, c, e, hc, hperform⟩ := perform_refused h
    refine ⟨_, congrArg Host.Outcome.next hperform, ?_, ?_, fun k hk => ?_⟩
    · simpa using hc
    · simp [objMode]
    · simp [objMode, hk]

end Sys2Proof.Machine
end

section
/-! PROOFS. Mode changes at a tick boundary (R238): one that waits for a range change is held by the switch it has not had. -/

namespace Sys2Proof.Machine

/-- Channel 0 in IDLE with OFF accepted and waiting for the switch tick of a range change that no longer runs. -/
def awaitingSwitch : State :=
  State.reset.modCh 0 fun c => { c with mode := { mode := .idle, pending := some .off, status := .waitRange, switched := false } }

theorem not_waitsAtBoundary_awaitingSwitch : ¬ WaitsAtBoundary (awaitingSwitch.chan 0) := by
  unfold WaitsAtBoundary
  decide

/-- The boundary leaves such a channel as it is. -/
theorem exec_modeChangeApply_awaitingSwitch : exec (.modeChangeApply 0) awaitingSwitch = .next awaitingSwitch := by
  rfl

/-- Refutes O12: a channel whose WAIT_RANGE has not had its switch tick keeps its mode at the boundary, though neither a range
change runs nor RSW is set. -/
theorem not_modeChangesAtABoundary : ¬ Obligations.ModeChangesAtABoundary := by
  unfold Obligations.ModeChangesAtABoundary
  rintro ⟨-, hoff, -⟩
  obtain ⟨t, hexec, hmode, -⟩ := hoff awaitingSwitch 0 rfl rfl rfl not_waitsAtBoundary_awaitingSwitch
  rw [exec_modeChangeApply_awaitingSwitch] at hexec
  cases hexec
  cases hmode

end Sys2Proof.Machine
end

section
/-! SUPPORT. What the operations on one channel do to its mode, its lock and its outputs, once for each; and that they leave the
other channels alone. -/

namespace Sys2Proof.Machine

/-! ### Channel functions that keep the mode, the lock and the rest -/

section
variable (c : Channel) (n : Ch)

/-- Nothing of a channel but its LAC differs. -/
def LacOnly (c d : Channel) : Prop := d = { c with lac := d.lac }

theorem LacOnly.refl : LacOnly c c := rfl

theorem LacOnly.trans {c d e : Channel} (h : LacOnly c d) (h' : LacOnly d e) : LacOnly c e := by
  unfold LacOnly at *
  rw [h', h]

theorem setLacBank_lacOnly (r : Nat) (b : LacBank) : LacOnly c (c.setLacBank r b) := rfl

theorem foldl_lacOnly {f : Channel → Nat → Channel} (h : ∀ c r, LacOnly c (f c r)) (l : List Nat) : LacOnly c (l.foldl f c) := by
  induction l generalizing c with
  | nil => exact .refl c
  | cons r l ih => exact (h c r).trans (ih (f c r))

theorem takeBases_lacOnly : LacOnly c c.takeBases := foldl_lacOnly c (fun c r => setLacBank_lacOnly c r _) _

theorem lacStateTick_lacOnly : LacOnly c (c.lacStateTick n) := by
  have bases := takeBases_lacOnly c
  unfold Channel.lacStateTick
  dsimp only
  split_ifs
  · unfold LacOnly at bases ⊢
    rw [bases]
  · rfl
  · rfl
  · unfold LacOnly at bases ⊢
    rw [bases]
  · rfl
  · rfl

/-- What every change of mode ends is none of these (R238, R320, R329, R369, R410). -/
@[simp] theorem Channel.modeLeft_fields : (c.modeLeft n).mode = c.mode ∧ (c.modeLeft n).lock = c.lock ∧
    (c.modeLeft n).sp = c.sp ∧ (c.modeLeft n).out = c.out ∧ (c.modeLeft n).clamp = c.clamp ∧ (c.modeLeft n).loop = c.loop ∧
    (c.modeLeft n).slots = c.slots ∧ (c.modeLeft n).lim = c.lim := by
  have hd : ∀ c : Channel, c.disarm = { c with fast := c.disarm.fast } := fun c => by
    unfold Channel.disarm
    split_ifs <;> rfl
  unfold Channel.modeLeft
  dsimp only
  rw [lacStateTick_lacOnly, hd c]
  exact ⟨rfl, rfl, rfl, rfl, rfl, rfl, rfl, rfl⟩

@[simp] theorem Channel.lacStateTick_fields : (c.lacStateTick n).mode = c.mode ∧ (c.lacStateTick n).lock = c.lock ∧
    (c.lacStateTick n).sp = c.sp ∧ (c.lacStateTick n).out = c.out ∧ (c.lacStateTick n).clamp = c.clamp ∧
    (c.lacStateTick n).loop = c.loop ∧ (c.lacStateTick n).slots = c.slots ∧ (c.lacStateTick n).lim = c.lim := by
  rw [lacStateTick_lacOnly]
  exact ⟨rfl, rfl, rfl, rfl, rfl, rfl, rfl, rfl⟩

@[simp] theorem Channel.silence_fields : c.silence.mode = c.mode ∧ c.silence.lock = c.lock ∧ c.silence.lim = c.lim :=
  ⟨rfl, rfl, rfl⟩

@[simp] theorem Channel.clearSlots_fields : c.clearSlots.mode = c.mode ∧ c.clearSlots.lock = c.lock ∧ c.clearSlots.sp = c.sp ∧
    c.clearSlots.out = c.out ∧ c.clearSlots.clamp = c.clamp ∧ c.clearSlots.loop = c.loop ∧ c.clearSlots.lim = c.lim :=
  ⟨rfl, rfl, rfl, rfl, rfl, rfl, rfl⟩

theorem Channel.rateTick_fields (k : Nat) : (c.rateTick k).mode = c.mode ∧ (c.rateTick k).lock = c.lock ∧
    (c.rateTick k).lim = c.lim ∧ (c.rateTick k).out = c.out := ⟨rfl, rfl, rfl, rfl⟩

theorem Channel.feTick_fields : c.feTick.mode = c.mode ∧ c.feTick.lock = c.lock ∧ c.feTick.lim = c.lim ∧
    c.feTick.out = c.out := by
  unfold Channel.feTick
  split_ifs <;> exact ⟨rfl, rfl, rfl, rfl⟩

@[simp] theorem Channel.superviseAgain_fields (k : Nat) : (c.superviseAgain k).mode = c.mode ∧
    (c.superviseAgain k).lock = c.lock ∧ (c.superviseAgain k).lim = c.lim ∧ (c.superviseAgain k).out = c.out := by
  simp only [Channel.superviseAgain, Channel.feTick_fields, Channel.rateTick_fields, and_self]

@[simp] theorem Channel.entrySp_fields (x : F32) : (c.entrySp x).mode = c.mode ∧ (c.entrySp x).lock = c.lock ∧
    (c.entrySp x).lim = c.lim ∧ (c.entrySp x).out = c.out := by
  unfold Channel.entrySp
  (repeat' split) <;> exact ⟨rfl, rfl, rfl, rfl⟩

end

/-! ### The list's end at a channel -/

/-- Nothing of the channels differs but channel n's sweep. -/
def SweepOnly (n : Ch) (s t : State) : Prop := ∃ w, ∀ m, t.chan m = (s.modCh n fun c => { c with sweep := w }).chan m

section
variable {n : Ch} {s t u : State}

theorem SweepOnly.of_ch (h : t.ch = s.ch) : SweepOnly n s t :=
  ⟨(s.chan n).sweep, fun m => by by_cases hm : m = n <;> simp [State.chan_congr h, hm]⟩

theorem SweepOnly.refl (n : Ch) (s : State) : SweepOnly n s s := .of_ch rfl

theorem SweepOnly.trans (h : SweepOnly n s t) (h' : SweepOnly n t u) : SweepOnly n s u := by
  obtain ⟨w, hw⟩ := h
  obtain ⟨w', hw'⟩ := h'
  exact ⟨w', fun m => by by_cases hm : m = n <;> simp [hw', hw, hm]⟩

theorem SweepOnly.ite {p : Prop} [Decidable p] (h : SweepOnly n s t) (h' : SweepOnly n s u) :
    SweepOnly n s (if p then t else u) := by
  split_ifs
  · exact h
  · exact h'

end

section
variable {n : Ch} {s t : State}

theorem SweepOnly.mode (h : SweepOnly n s t) (k : Ch) : (t.chan k).mode = (s.chan k).mode := by
  obtain ⟨w, hw⟩ := h
  by_cases hk : k = n <;> simp [hw, hk]

theorem SweepOnly.lock (h : SweepOnly n s t) (k : Ch) : (t.chan k).lock = (s.chan k).lock := by
  obtain ⟨w, hw⟩ := h
  by_cases hk : k = n <;> simp [hw, hk]

theorem SweepOnly.others (h : SweepOnly n s t) : OthersKept n s t := by
  obtain ⟨w, hw⟩ := h
  intro k hk
  simp [hw, hk]

end

theorem modSweep_sweepOnly (s : State) (n : Ch) (f : Sweep → Sweep) : SweepOnly n s (s.modSweep n f) :=
  ⟨f (s.chan n).sweep, fun m => by by_cases hm : m = n <;> simp [State.modSweep, hm]⟩

theorem raiseEvent_sweepOnly (n : Ch) (s : State) (line : Fin 4) (cause detail : Nat) :
    SweepOnly n s (raiseEvent s line cause detail) := .of_ch (by simp)

theorem stageWords_sweepOnly (n : Ch) (s : State) (src : HwSource) (ws : List Word) : SweepOnly n s (stageWords s src ws) :=
  .of_ch (by simp)

theorem listEnd_sweepOnly (s : State) (n : Ch) (reason : Nat) (code : Byte) : SweepOnly n s (listEnd s n reason code) :=
  (modSweep_sweepOnly s n _).trans (raiseEvent_sweepOnly ..)

theorem writeResult_sweepOnly (s : State) (n : Ch) (short : Bool) : SweepOnly n s (writeResult s n short) := by
  unfold writeResult
  dsimp only
  split
  · exact .refl n s
  · exact .ite (.refl n s) ((modSweep_sweepOnly s n _).trans (stageWords_sweepOnly ..))

theorem listCut_sweepOnly (s : State) (n : Ch) (reason : Nat) : SweepOnly n s (listCut s n reason) := by
  unfold listCut
  dsimp only
  refine .ite (.refl n s) (.trans ?_ (listEnd_sweepOnly _ n reason 0))
  have written : SweepOnly n s (if (s.chan n).sweep.window.samples = 0 then s else writeResult s n true) :=
    .ite (.refl n s) (writeResult_sweepOnly s n true)
  split
  · exact written.trans (.ite (raiseEvent_sweepOnly ..) (.refl ..))
  · exact written

theorem listBegin_sweepOnly (s : State) (n : Ch) : SweepOnly n s (listBegin s n) := modSweep_sweepOnly s n _

/-! ### Entering OFF, modes and ramps -/

@[simp] theorem raiseEvent_chan (s : State) (line : Fin 4) (cause detail : Nat) (n : Ch) :
    (raiseEvent s line cause detail).chan n = s.chan n := State.chan_congr (by simp) n

theorem setMode_chan (s : State) (n : Ch) (m : Mode) (k : Ch) :
    (setMode s n m).chan k = if k = n ∧ (s.chan n).mode.mode ≠ m then
      { s.chan k with mode := { (s.chan k).mode with mode := m, changes := (s.chan k).mode.changes.inc } } else s.chan k := by
  unfold setMode
  by_cases hm : (s.chan n).mode.mode = m <;> by_cases hk : k = n <;> simp [hm, hk]

theorem freeLock_chan (s : State) (n k : Ch) :
    (freeLock s n).chan k = if k = n ∧ (s.chan n).lock.state = .ramping then
      { s.chan k with lock := { (s.chan k).lock with state := .free } } else s.chan k := by
  unfold freeLock
  by_cases hl : (s.chan n).lock.state = .ramping <;> by_cases hk : k = n <;> simp [hl, hk]

/-- The lock that the end of a revocation leaves (R187). -/
def Lock.freed (l : Lock) : Lock := if l.state = .ramping then { l with state := .free } else l

/-- The mode of a channel that has entered OFF (R241, R252, R253). -/
def ModeSt.enteredOff (m : ModeSt) (why : OffReason) : ModeSt :=
  { m with mode := .off, target := .off, status := .stable, pending := none, offNow := false, overrunDue := false
           limitRampDue := false, enable := none, romPi := false
           offReason := if m.mode == .off then m.offReason else why
           changes := if m.mode == .off then m.changes else m.changes.inc }

/-- The state in which a channel enters OFF: its list has ended (R453). -/
def leaveList (s : State) (n : Ch) : State := if (s.chan n).mode.mode == .off then s else listCut s n 7

theorem leaveList_sweepOnly (s : State) (n : Ch) : SweepOnly n s (leaveList s n) :=
  .ite (.refl n s) (listCut_sweepOnly s n 7)

/-- What entering OFF does to the channel itself. -/
def Channel.intoOff (c : Channel) (n : Ch) (was : Mode) (why : OffReason) (run : Bool) : Channel :=
  let c : Channel :=
    ({ c with mode := { c.mode with target := .off, status := .stable, pending := none, offNow := false, overrunDue := false,
                                    limitRampDue := false, enable := none, romPi := false,
                                    offReason := if was == .off then c.mode.offReason else why } } : Channel).silence
  let c := if was == .off then c else c.modeLeft n
  if run then c else c.setMeterIl false

theorem enterOff_eq (s : State) (n : Ch) (why : OffReason) :
    enterOff s n why = freeLock ((setMode (leaveList s n) n .off).modCh n fun c =>
      c.intoOff n (s.chan n).mode.mode why (setMode (leaveList s n) n .off).clocksRun) n := rfl

@[simp] theorem Channel.setMeterIl_fields (c : Channel) (on : Bool) : (c.setMeterIl on).mode = c.mode ∧
    (c.setMeterIl on).lock = c.lock ∧ (c.setMeterIl on).lim = c.lim := ⟨rfl, rfl, rfl⟩

theorem Channel.intoOff_fields (c : Channel) (n : Ch) (was : Mode) (why : OffReason) (run : Bool) :
    (c.intoOff n was why run).mode = { c.mode with
      target := .off, status := .stable, pending := none, offNow := false, overrunDue := false, limitRampDue := false
      enable := none, romPi := false, offReason := if was == .off then c.mode.offReason else why } ∧
      (c.intoOff n was why run).lock = c.lock ∧ (c.intoOff n was why run).lim = c.lim := by
  unfold Channel.intoOff
  dsimp only
  split_ifs <;> simp [*]

theorem enterOff_othersKept (s : State) (n : Ch) (why : OffReason) : OthersKept n s (enterOff s n why) := by
  obtain ⟨w, hw⟩ := leaveList_sweepOnly s n
  intro k hk
  simp [enterOff_eq, freeLock_chan, setMode_chan, hk, hw]

theorem enterOff_mode (s : State) (n : Ch) (why : OffReason) :
    ((enterOff s n why).chan n).mode = (s.chan n).mode.enteredOff why := by
  obtain ⟨w, hw⟩ := leaveList_sweepOnly s n
  by_cases hm : (s.chan n).mode.mode = .off
  · simp [enterOff_eq, freeLock_chan, setMode_chan, hw, Channel.intoOff_fields, ModeSt.enteredOff, hm, apply_ite Channel.mode]
  · simp [enterOff_eq, freeLock_chan, setMode_chan, hw, Channel.intoOff_fields, ModeSt.enteredOff, hm, apply_ite Channel.mode]

theorem enterOff_lock (s : State) (n : Ch) (why : OffReason) :
    ((enterOff s n why).chan n).lock = (s.chan n).lock.freed := by
  obtain ⟨w, hw⟩ := leaveList_sweepOnly s n
  simp [enterOff_eq, freeLock_chan, setMode_chan, hw, Channel.intoOff_fields, Lock.freed, apply_ite Channel.lock]

/-- The mode of a channel that has settled in IDLE (R187, R249). -/
def ModeSt.settled (m : ModeSt) : ModeSt := { m with status := .stable, target := .idle, enable := none }

theorem settleIdle_of_permitted {s : State} {n : Ch} (why : OffReason) (ht : (s.chan n).mode.target ≠ .off)
    (hp : (s.chan n).permits .idle = true) :
    ((settleIdle s n why).chan n).mode = (s.chan n).mode.settled ∧
      ((settleIdle s n why).chan n).lock = (s.chan n).lock.freed := by
  have hstay : settleIdle s n why = freeLock (s.modCh n fun c =>
      ({ c with mode := c.mode.settled } : Channel).lacStateTick n) n := by
    simp [settleIdle, ht, hp, ModeSt.settled]
  simp [hstay, freeLock_chan, Lock.freed, apply_ite Channel.mode, apply_ite Channel.lock]

theorem settleIdle_of_off {s : State} {n : Ch} (why : OffReason)
    (h : (s.chan n).mode.target = .off ∨ (s.chan n).permits .idle = false) : settleIdle s n why = enterOff s n why := by
  simp [settleIdle, h]

theorem settleIdle_othersKept (s : State) (n : Ch) (why : OffReason) : OthersKept n s (settleIdle s n why) := by
  unfold settleIdle
  dsimp only
  split_ifs
  · exact enterOff_othersKept s n why
  · intro k hk
    simp [freeLock_chan, hk]

/-- The mode of a channel whose safe ramp starts (R247). -/
def ModeSt.ramping (m : ModeSt) (target : Mode) (why : OffReason) (base : F64) : ModeSt :=
  { m with status := .safeRamp, target := target, rampReason := why, pending := none, rampBase := base, rampTicks := 0
           rampRate := 0, rampPer := 0 }

theorem startRamp_chan (s : State) (n : Ch) (target : Mode) (why : OffReason) :
    ((startRamp s n target why).chan n).mode = (s.chan n).mode.ramping target why (s.chan n).sp.ramp ∧
      ((startRamp s n target why).chan n).lock = (s.chan n).lock ∧ OthersKept n s (startRamp s n target why) := by
  obtain ⟨w, hw⟩ := listCut_sweepOnly s n 7
  refine ⟨by simp [startRamp, hw, ModeSt.ramping], by simp [startRamp, hw], fun k hk => by simp [startRamp, hk, hw]⟩

theorem superviseAgain_chan (s : State) (n : Ch) :
    ((superviseAgain s n).chan n).mode = (s.chan n).mode ∧ ((superviseAgain s n).chan n).lock = (s.chan n).lock ∧
      ((superviseAgain s n).chan n).out = (s.chan n).out ∧ OthersKept n s (superviseAgain s n) :=
  ⟨by simp [superviseAgain], by simp [superviseAgain], by simp [superviseAgain], fun k hk => by simp [superviseAgain, hk]⟩

theorem auxEntry_chan (s : State) (n : Ch) :
    ((auxEntry s n).chan n).mode = (s.chan n).mode ∧ ((auxEntry s n).chan n).lock = (s.chan n).lock ∧
      OthersKept n s (auxEntry s n) := by
  unfold auxEntry
  dsimp only
  split_ifs
  · refine ⟨by rw [State.chan_modCh]; rfl, by rw [State.chan_modCh]; rfl, fun k hk => ?_⟩
    rw [State.chan_modCh_ne _ _ _ _ hk]
    exact State.chan_congr rfl k
  · exact ⟨rfl, rfl, fun _ _ => rfl⟩

/-! ### Entering a mode -/

/-- The mode of a channel that has entered a mode (R242). -/
def ModeSt.entered (m : ModeSt) (x : Mode) : ModeSt :=
  { m with mode := x, target := x, status := .stable, pending := none, enable := none, romPi := false
           changes := if m.mode = x then m.changes else m.changes.inc }

/-- The state in which a channel enters a mode: a list of the old one has ended (R453). -/
def leaveListMode (s : State) (n : Ch) : State := if (s.chan n).mode.mode.lists then listCut s n 7 else s

theorem leaveListMode_sweepOnly (s : State) (n : Ch) : SweepOnly n s (leaveListMode s n) :=
  .ite (listCut_sweepOnly s n 7) (.refl n s)

theorem enterMode_chan (s : State) (n : Ch) (m : Mode) :
    ((enterMode s n m).chan n).mode = (s.chan n).mode.entered m ∧ ((enterMode s n m).chan n).lock = (s.chan n).lock ∧
      OthersKept n s (enterMode s n m) := by
  obtain ⟨w, hw⟩ := leaveListMode_sweepOnly s n
  unfold leaveListMode at hw
  unfold enterMode
  extract_lets old left set entered supervised sweep
  have hset (k : Ch) := setMode_chan left n m k
  have hleft : left.chan n = { s.chan n with sweep := w } := (hw n).trans (State.chan_modCh ..)
  have hsetMode : (set.chan n).mode = { (s.chan n).mode with
      mode := m, changes := if (s.chan n).mode.mode = m then (s.chan n).mode.changes else (s.chan n).mode.changes.inc } := by
    rw [hset n, hleft]
    by_cases hm : (s.chan n).mode.mode = m <;> simp [hm]
    simp [← hm]
  have hsetLock : (set.chan n).lock = (s.chan n).lock := by
    rw [hset n, hleft]
    split_ifs <;> rfl
  have hmode : (entered.chan n).mode = (s.chan n).mode.entered m := by
    simp only [entered, State.chan_modCh, Channel.modeLeft_fields, Channel.entrySp_fields, apply_ite Channel.mode,
      Channel.clearSlots_fields, ite_self, hsetMode, ModeSt.entered]
  have hlock : (entered.chan n).lock = (s.chan n).lock := by
    simp only [entered, State.chan_modCh, Channel.modeLeft_fields, Channel.entrySp_fields, apply_ite Channel.lock,
      Channel.clearSlots_fields, ite_self, hsetLock]
  have hothers : OthersKept n s entered := fun k hk => by
    rw [State.chan_modCh_ne _ _ _ _ hk, hset, if_neg (fun h => hk h.1)]
    exact (hw k).trans (State.chan_modCh_ne _ _ _ _ hk)
  clear_value entered
  obtain ⟨amode, alock, aothers⟩ := auxEntry_chan entered n
  obtain ⟨vmode, vlock, -, vothers⟩ := superviseAgain_chan (auxEntry entered n) n
  have hlast : SweepOnly n supervised
      (if (m.lists && sweep.listAuto && sweep.listRing != 0xFFFF) = true then listBegin supervised n else supervised) :=
    .ite (listBegin_sweepOnly _ n) (.refl n _)
  exact ⟨(hlast.mode n).trans (vmode.trans (amode.trans hmode)), (hlast.lock n).trans (vlock.trans (alock.trans hlock)),
    fun k hk => (hlast.others k hk).trans ((vothers k hk).trans ((aothers k hk).trans (hothers k hk)))⟩

end Sys2Proof.Machine
end

section
/-! PROOFS. The phases of enabling (R244 to R246), the end of a safe ramp (R247 to R251) and the power limit (R170). -/

namespace Sys2Proof.Machine

section
variable {s : State} {n : Ch}

/-! ### Enabling -/

/-- What the start of enabling does to the channel itself, IDLE being set (R244). -/
def Channel.enableStarted (c : Channel) (n : Ch) (m : Mode) (clrN : Bool) : Channel :=
  let c : Channel :=
    { c with
      mode := { c.mode with status := .enabling, target := m, pending := none, enable := some .started, rampReason := .instructor }
      out := { c.out with queue := [], queueLevel := 0, enabling := true, faultHold := false, code := c.zeroCode,
                          clrHeld := c.actSp.clrEn && !clrN }
      clamp := { c.clamp with armed := true }
      osc := c.osc.restart c.actSp
      fe := { c.fe with count := 0 }
      powerCount := 0 }
  ((c.rateFromOff.setSp 0).loadThr.modeLeft n).show

theorem Channel.enableStarted_fields (c : Channel) (m : Mode) (clrN : Bool) :
    (c.enableStarted n m clrN).mode = { c.mode with
      status := .enabling, target := m, pending := none, enable := some .started, rampReason := .instructor } ∧
      (c.enableStarted n m clrN).out.enabling = true ∧ (c.enableStarted n m clrN).out.code = c.zeroCode ∧
      (c.enableStarted n m clrN).clamp.armed = true ∧ (c.enableStarted n m clrN).sp.active = f64To32 0 := by
  simp only [Channel.enableStarted, Channel.show, Channel.modeLeft_fields]
  exact ⟨rfl, rfl, rfl, rfl, rfl⟩

theorem exec_enableStart {m : Mode} (hoff : (s.chan n).mode.mode = .off) (hpend : (s.chan n).mode.pending = some m)
    (hm : m ≠ .off) (hm' : m ≠ .meter) (hrun : s.dev.state = .run) :
    exec (.enableStart n) s = .next ((setMode s n .idle).modCh n fun c =>
      c.enableStarted n m (setMode s n .idle).trig.clrN) := by
  simp only [exec, execEnableStart, hoff, hpend]
  rw [if_neg (by simp [hm, hm', State.running, hrun])]
  rfl

/-- The zero code does not depend on the mode. -/
theorem zeroCode_setMode (c : Channel) (m : ModeSt) : ({ c with mode := m } : Channel).zeroCode = c.zeroCode := rfl

theorem exec_enableStageOn (h : (s.chan n).mode.enable = some .started) :
    exec (.enableStageOn n) s = .next (s.modCh n fun c => { c with mode := { c.mode with enable := some .stageOn } }) := by
  have hif : (if (s.chan n).mode.enable == some .started then
      { s.chan n with mode := { (s.chan n).mode with enable := some EnablePhase.stageOn } } else s.chan n) =
      { s.chan n with mode := { (s.chan n).mode with enable := some .stageOn } } := by simp [h]
  simp only [exec, execEnableStageOn, State.modCh]
  exact congrArg (fun c => Host.Outcome.next { s with ch := s.ch.set n.val c }) hif

/-- The state in which the loop has closed (R245). -/
def loopClosed (s : State) (n : Ch) : State :=
  s.modCh n fun c =>
    ({ c with mode := { c.mode with enable := some .loopClosed }, out := { c.out with enabling := false },
              loop := { c.loop with first := true } } : Channel).clearSlots.show

theorem exec_enableLoopClose (h : (s.chan n).mode.enable = some .stageOn) :
    exec (.enableLoopClose n) s = .next
      (if (s.chan n).mode.target = .idle ∨ (s.chan n).mode.target = .off then
        settleIdle (loopClosed s n) n (s.chan n).mode.rampReason else loopClosed s n) := by
  simp [exec, execEnableLoopClose, h, loopClosed]

theorem loopClosed_chan : ((loopClosed s n).chan n).mode = { (s.chan n).mode with enable := some .loopClosed } ∧
    ((loopClosed s n).chan n).lim = (s.chan n).lim ∧ OthersKept n s (loopClosed s n) :=
  ⟨by simp [loopClosed, Channel.show], by simp [loopClosed, Channel.show], fun k hk => by simp [loopClosed, hk]⟩

theorem Mode.ne_of_works {m : Mode} (h : m.works = true) : m ≠ .idle ∧ m ≠ .off := by
  constructor <;> (rintro rfl; cases h)

theorem exec_enableModeEntry (h : (s.chan n).mode.enable = some .loopClosed) (hw : (s.chan n).mode.target.works = true) :
    exec (.enableModeEntry n) s = .next (enterMode s n (s.chan n).mode.target) := by
  simp [exec, execEnableModeEntry, h, hw]

/-! ### The end of a safe ramp, and the fallback -/

theorem exec_safeRampEnd (hs : (s.chan n).mode.status = .safeRamp) (hm : (s.chan n).mode.mode = .idle)
    (hz : isZero64 (s.chan n).sp.ramp = true) :
    exec (.safeRampEnd n) s = .next (settleIdle s n (s.chan n).mode.rampReason) := by
  simp [exec, execSafeRampEnd, hs, hm, hz]

/-- The state in which the overrun's fallback starts its ramp, ROM PI in place of the program (R251). -/
def fallenBack (s : State) (n : Ch) : State :=
  (s.modCh n fun c => { c with mode := { c.mode with overrunDue := false } }).modCh n fun c =>
    let c' : Channel := { c with mode := { c.mode with romPi := true }, loop := { c.loop with first := true } }
    if c.runsNow != 0x01 then c'.clearSlots else c'

theorem fallenBack_chan :
    ((fallenBack s n).chan n).mode = { (s.chan n).mode with overrunDue := false, romPi := true } ∧
      OthersKept n s (fallenBack s n) := by
  refine ⟨?_, fun k hk => by simp [fallenBack, hk]⟩
  simp [fallenBack, apply_ite Channel.mode]

theorem exec_overrunFallback (hdue : (s.chan n).mode.overrunDue = true) (hw : (s.chan n).mode.mode.works = true)
    (hs : (s.chan n).mode.status = .stable) :
    exec (.overrunFallback n) s = .next (superviseAgain (startRamp (fallenBack s n) n .idle .instructor) n) := by
  have hramp : ((s.chan n).mode.status == .safeRamp) = false := by rw [hs]; rfl
  simp only [exec, execOverrunFallback, hdue, hw, hramp, if_true, Bool.not_true, Bool.false_eq_true, if_false]
  rfl

/-! ### The power limit -/

@[simp] theorem sendMsg_chan (s : State) (src : BitVec 6) (kind : Byte) (base : Level) (detail : Nat) (k : Ch) :
    (sendMsg s src kind base detail).chan k = s.chan k := State.chan_congr (by simp) k

/-- A message opens no slot before Badger takes it (R584). -/
@[simp] theorem sendMsg_slots (s : State) (src : BitVec 6) (kind : Byte) (base : Level) (detail : Nat) :
    (sendMsg s src kind base detail).badger.slots = s.badger.slots := by
  unfold sendMsg sendFull
  extract_lets
  split <;> rfl

theorem exec_powerLimitExceeded (h : 16 ≤ (s.chan n).powerCount) :
    exec (.powerLimitExceeded n) s = .next (sendMsg (s.modCh n fun c => { c with powerCount := 0 }) (srcCh n) 0x60 .trip
      (Nat.min (((f32Val (s.chan n).last.v).mul (f32Val (s.chan n).last.i)).abs.mul (Q.ofNat 100)).floor.toNat 0xFFFFFF)) := by
  simp only [exec, execPowerLimitExceeded, h, if_true]

end

/-- Settles O13: each phase of enabling is a function of the channel, a ramp's end settles the channel or takes it to OFF. -/
theorem enablingAndSafeRamp : Obligations.EnablingAndSafeRamp := by
  unfold Obligations.EnablingAndSafeRamp
  refine ⟨⟨fun s n m hoff hpend hm hm' hrun => ?_, fun s n h => exec_enableStageOn h, fun s n h hw => ?_, fun s n h ht => ?_,
    fun s n h ht hp => ?_, fun s n h hw => ?_⟩, fun s n hs hm hz ht => ?_, fun s n hs hm hz ht hp => ?_,
    fun s n hdue hw hs => ?_, fun s n h => ?_, fun s n h => ?_⟩
  · obtain ⟨hmode, hen, hcode, harmed, hsp⟩ :=
      Channel.enableStarted_fields (n := n) ((setMode s n .idle).chan n) m (setMode s n .idle).trig.clrN
    have hset := setMode_chan s n .idle n
    rw [if_pos ⟨rfl, by rw [hoff]; decide⟩] at hset
    refine ⟨_, exec_enableStart hoff hpend hm hm' hrun, ?_⟩
    rw [State.chan_modCh, hmode, hen, hcode, harmed, hsp, hset]
    exact ⟨rfl, rfl, rfl, rfl, rfl, rfl, rfl, rfl, fun k hk => by simp [hk, setMode_chan]⟩
  · obtain ⟨hne, hne'⟩ := Mode.ne_of_works hw
    refine ⟨_, exec_enableLoopClose h, ?_⟩
    rw [if_neg (not_or.mpr ⟨hne, hne'⟩), loopClosed, State.chan_modCh]
    exact ⟨rfl, rfl, rfl, rfl, fun k hk => by simp [hk]⟩
  · refine ⟨_, exec_enableLoopClose h, ?_⟩
    obtain ⟨hmode, hlim, hothers⟩ := loopClosed_chan (s := s) (n := n)
    rw [if_pos (.inr ht), settleIdle_of_off _ (.inl (by rw [hmode, ht])), enterOff_mode]
    exact ⟨rfl, rfl, fun k hk => (enterOff_othersKept _ n _ k hk).trans (hothers k hk)⟩
  · refine ⟨_, exec_enableLoopClose h, ?_⟩
    obtain ⟨hmode, hlim, hothers⟩ := loopClosed_chan (s := s) (n := n)
    have hsettled := settleIdle_of_permitted (s := loopClosed s n) (s.chan n).mode.rampReason (by rw [hmode, ht]; decide)
      (by rwa [Channel.permits, hlim])
    rw [if_pos (.inl ht), hsettled.1, hmode]
    exact ⟨rfl, rfl, rfl, fun k hk => (settleIdle_othersKept _ n _ k hk).trans (hothers k hk)⟩
  · obtain ⟨hmode, -, hothers⟩ := enterMode_chan s n (s.chan n).mode.target
    refine ⟨_, exec_enableModeEntry h hw, ?_⟩
    rw [hmode]
    exact ⟨rfl, rfl, rfl, hothers⟩
  · refine ⟨_, exec_safeRampEnd hs hm hz, ?_⟩
    rw [settleIdle_of_off _ (.inl ht), enterOff_mode]
    exact ⟨rfl, by simp [ModeSt.enteredOff, hm], enterOff_othersKept s n _⟩
  · refine ⟨_, exec_safeRampEnd hs hm hz, ?_⟩
    rw [(settleIdle_of_permitted _ (by rw [ht]; decide) hp).1]
    exact ⟨hm, rfl, rfl, settleIdle_othersKept s n _⟩
  · obtain ⟨hmode, hothers⟩ := fallenBack_chan (s := s) (n := n)
    obtain ⟨rmode, -, rothers⟩ := startRamp_chan (fallenBack s n) n .idle .instructor
    obtain ⟨vmode, -, -, vothers⟩ := superviseAgain_chan (startRamp (fallenBack s n) n .idle .instructor) n
    refine ⟨_, exec_overrunFallback hdue hw hs, ?_⟩
    rw [vmode, rmode, hmode]
    exact ⟨rfl, rfl, rfl, rfl, fun k hk => (vothers k hk).trans ((rothers k hk).trans (hothers k hk))⟩
  · refine ⟨_, exec_powerLimitExceeded h, ?_, sends_sendMsg (by simp) _ _ _ _, by simp, ?_, fun k hk => ?_⟩
    · simp
    · simp
    · simp [hk]
  · simp only [exec, execPowerLimitExceeded]
    rw [if_neg (by omega)]

end Sys2Proof.Machine
end

section
/-! PROOFS. Key slots of the OTP array (R156 to R158) and barred accesses (R146). -/

namespace Sys2Proof.Machine

section
variable {s : State}

/-- An admitted write's value is legal (R97). -/
theorem Obj.Admits.rangeCode_ok {o : Obj} {r : Req} {ty : Byte} {data : List Byte} (h : o.Admits r ty data s) :
    o.rangeCode (o.judged r data s) = eOk := by
  obtain ⟨-, rest⟩ := eq_ok_of_firstCode_cons h
  obtain ⟨-, rest⟩ := eq_ok_of_firstCode_cons rest
  exact (eq_ok_of_firstCode_cons rest).1

theorem Obj.Admits.accessCode_ok {o : Obj} {r : Req} {ty : Byte} {data : List Byte} (h : o.Admits r ty data s) :
    o.accessCode (o.judged r data s) = eOk := (eq_ok_of_firstCode_cons h).1

theorem Obj.rangeCode_eq_ok {o : Obj} {w : W} (h : o.rangeCode w = eOk) : o.range w = true := by
  have hall := of_code_eq_ok (by decide) h
  exact (Bool.and_eq_true_iff.mp hall).2

/-! ### Key slots -/

theorem slots_modSlot_same (s : State) (k : Nat) (f : KeySlot → KeySlot) {x : KeySlot} (h : s.otp.slots[k]? = some x) :
    (s.modSlot k f).otp.slots[k]? = some (f x) := by
  obtain ⟨hk, hx⟩ := Vector.getElem?_eq_some_iff.mp h
  simp [State.modSlot, hx, hk]

theorem slots_modSlot_ne (s : State) {k j : Nat} (f : KeySlot → KeySlot) (h : j ≠ k) :
    (s.modSlot k f).otp.slots[j]? = s.otp.slots[j]? := by
  simp [State.modSlot, Vector.getElem?_setIfInBounds_ne h.symm]

theorem objKeyProgram_put (k c : Byte) (hash : List Byte) (r : Req) (pre post seq s : State) :
    objKeyProgram.put ⟨r, k :: c :: hash, pre, post, seq⟩ s =
      s.modSlot k.toNat fun x => { x with keyed := true, hash := hash } := rfl

theorem objKeyDisable_put (k c : Byte) (r : Req) (pre post seq s : State) :
    objKeyDisable.put ⟨r, [k, c], pre, post, seq⟩ s = s.modSlot k.toNat fun x => { x with disabled := true } := rfl

/-- Only a slot that was never programmed takes a hash (R156). -/
theorem keyed_of_admits {r : Req} {k c : Byte} {hash : List Byte} (h : objKeyProgram.Admits r tBlob (k :: c :: hash) s)
    {x : KeySlot} (hx : s.otp.slots[k.toNat]? = some x) : x.keyed = false := by
  have hrange := Obj.rangeCode_eq_ok h.rangeCode_ok
  simp only [objKeyProgram, Obj.judged, hx, Option.map_some, Bool.and_eq_true] at hrange
  have hstate : x.state = 0 := by simpa using hrange.2
  unfold KeySlot.state at hstate
  split_ifs at hstate with _ hkeyed
  exact Bool.eq_false_iff.mpr hkeyed

/-! ### Barred accesses -/

/-- The count and the address of a barred access (R146), before its message. -/
def protCounted (s : State) (a : Nat) : State :=
  ({ s with trust := { s.trust with protViol := s.trust.protViol.inc, protLastAddr := BitVec.ofNat 32 a } } : State).send
    (.storeFault (BitVec.ofNat 32 a))

theorem protCounted_spec (s : State) (a : Nat) : (protCounted s a).trust.protViol = s.trust.protViol.inc ∧
    (protCounted s a).trust.protLastAddr = BitVec.ofNat 32 a ∧ (protCounted s a).ch = s.ch ∧
    (protCounted s a).badger = s.badger := by
  simp [protCounted]

theorem protViolation_eq (s : State) (a : Nat) :
    protViolation s a =
      if ((s.badger.slot 3 srcProt).isSome || s.badger.queue.any (fun m => m.source == srcProt)) = true then protCounted s a
      else sendMsg (protCounted s a) srcProt 0x30 .note ((a - 0x40000000) / 4) := by
  simp [protViolation, protCounted]

end

/-- Settles O14: programming and disabling are one update of one slot, and a barred access counts before it is reported. -/
theorem keySlotsAndProtection : Obligations.KeySlotsAndProtection := by
  unfold Obligations.KeySlotsAndProtection
  refine ⟨⟨fun s r k c hash h => ?_, fun s r k c h => ?_⟩, fun s a => ⟨_, rfl, ?_⟩, fun s a hopen => ⟨_, rfl, ?_⟩,
    fun s a hslot hqueue => ⟨_, rfl, ?_⟩⟩
  · refine ⟨_, congrArg Host.Outcome.next (perform_admitted h), rfl, fun x hx => ⟨keyed_of_admits h hx, ?_⟩, fun j hj => ?_, ?_, ?_⟩
    · rw [objKeyProgram_put]
      simpa using slots_modSlot_same s k.toNat (fun x => { x with keyed := true, hash := hash }) hx
    · rw [objKeyProgram_put]
      simpa using slots_modSlot_ne s (fun x => { x with keyed := true, hash := hash }) hj
    · simp [objKeyProgram_put]
    · simp [objKeyProgram_put]
  · refine ⟨_, congrArg Host.Outcome.next (perform_admitted h), rfl, fun x hx => ?_, fun j hj => ?_, ?_, ?_⟩
    · rw [objKeyDisable_put]
      simpa using slots_modSlot_same s k.toNat (fun x => { x with disabled := true }) hx
    · rw [objKeyDisable_put]
      simpa using slots_modSlot_ne s (fun x => { x with disabled := true }) hj
    · simp [objKeyDisable_put]
    · simp [objKeyDisable_put]
  · obtain ⟨hviol, haddr, hch, -⟩ := protCounted_spec s a
    rw [protViolation_eq]
    split_ifs <;> simp [hviol, haddr, hch]
  · rw [protViolation_eq, if_pos (by rw [hopen, Bool.true_or])]
    exact (protCounted_spec s a).2.2.2
  · rw [protViolation_eq, if_neg (by rw [hslot, hqueue]; decide)]
    exact sends_sendMsg (protCounted_spec s a).2.2.2 _ _ _ _

end Sys2Proof.Machine
end

section
/-! PROOFS. The Instructor's unlock, lockout and commands (R175 to R180). -/

namespace Sys2Proof.Machine

section
variable {s : State}

/-! ### What the Instructor's operations leave -/

@[simp] theorem writeLockout_trust (s : State) : (writeLockout s).trust = s.trust := by
  simp [writeLockout]

theorem writeLockout_lockoutRec (s : State) :
    (writeLockout s).lockoutRec = some ⟨s.trust.instr.failedStreak, s.trust.instr.lastLockout, s.trust.instr.state == .lockout⟩ :=
  rfl

theorem unlockOk_spec (s : State) (code : List Byte) :
    (unlockOk s code).trust.instr.state = .unlocked ∧ (unlockOk s code).trust.instr.unlockEnd = s.now + secs 600 ∧
      (unlockOk s code).trust.instr.failedStreak = 0 ∧ (unlockOk s code).trust.instr.verifier = some (verifierOf s code) ∧
      (unlockOk s code).lockoutRec = some ⟨0, 0, false⟩ := by
  simp [unlockOk, writeLockout_lockoutRec, State.modInstr]

/-- A wrong code below the limit is counted (R177). -/
theorem unlockWrong_counts (h : s.trust.instr.failedStreak < 4) :
    (unlockWrong s).trust.instr = { s.trust.instr with failedStreak := s.trust.instr.failedStreak + 1 } := by
  have hmin : Nat.min (s.trust.instr.failedStreak + 1) 255 = s.trust.instr.failedStreak + 1 := Nat.min_eq_left (by omega)
  simp only [unlockWrong, hmin]
  rw [if_pos (by omega)]
  simp [State.modInstr]

/-- From the fifth wrong code on a lockout begins, twice as long as the last (R177). -/
theorem unlockWrong_locks (h : 4 ≤ s.trust.instr.failedStreak) :
    (unlockWrong s).trust.instr.state = .lockout ∧
      (unlockWrong s).trust.instr.lockoutEnd = s.now + secs (unlockWrong s).trust.instr.lastLockout ∧
      (unlockWrong s).trust.instr.lastLockout =
        if s.trust.instr.lastLockout = 0 then 60 else Nat.min 3600 (2 * s.trust.instr.lastLockout) := by
  have hmin : ¬ Nat.min (s.trust.instr.failedStreak + 1) 255 < 5 := by
    have := Nat.le_min.mpr ⟨show 5 ≤ s.trust.instr.failedStreak + 1 by omega, show 5 ≤ 255 by decide⟩
    exact Nat.not_lt.mpr this
  simp only [unlockWrong]
  rw [if_neg hmin]
  simp [beginLockout_instr, State.modInstr]

/-- An admitted write passes the check of what the Instructor's state allows (R97). -/
theorem Obj.Admits.passes_instr {o : Obj} {r : Req} {ty : Byte} {data : List Byte} (h : o.Admits r ty data s) :
    o.instr (o.judged r data s) = true := by
  obtain ⟨-, rest⟩ := eq_ok_of_firstCode_cons h
  obtain ⟨-, rest⟩ := eq_ok_of_firstCode_cons rest
  obtain ⟨-, rest⟩ := eq_ok_of_firstCode_cons rest
  obtain ⟨-, rest⟩ := eq_ok_of_firstCode_cons rest
  obtain ⟨-, rest⟩ := eq_ok_of_firstCode_cons rest
  obtain ⟨-, rest⟩ := eq_ok_of_firstCode_cons rest
  obtain ⟨-, rest⟩ := eq_ok_of_firstCode_cons rest
  exact of_code_eq_ok (by decide) (eq_ok_of_firstCode_cons rest).1

/-- An object that the Instructor alone may write finds the unlock in force (R179). -/
theorem Obj.Admits.unlocked {o : Obj} {r : Req} {ty : Byte} {data : List Byte} (h : o.Admits r ty data s)
    (hmgp : o.mgp = .unlocked) : s.trust.instr.state = .unlocked := by
  have hacc := h.accessCode_ok
  unfold Obj.accessCode at hacc
  rw [hmgp] at hacc
  split at hacc
  · cases hacc
  · have hboth := of_code_eq_ok (by decide) hacc
    exact beq_iff_eq.mp (Bool.and_eq_true_iff.mp hboth).2

/-- A lock in force ends the unlock and begins the save that is due (R178, R180). -/
theorem lockInstr_spec (h : s.trust.instr.state = .unlocked) :
    (lockInstr s).trust.instr.state = .locked ∧
      (s.trust.instr.record = .unsaved → (lockInstr s).trust.instr.saving = some (recordNow s)) := by
  by_cases hr : s.trust.instr.record = .unsaved <;> simp [lockInstr, h, hr, beginSave, State.modInstr]

theorem endTest_of_inactive (h : s.badger.testActive = false) : endTest s = s := by
  simp [endTest, h]

/-- The end of test mode changes the clamps' injections alone of the channels (R607). -/
theorem endTest_lim (s : State) (n : Ch) : ((endTest s).chan n).lim = (s.chan n).lim := by
  unfold endTest
  split_ifs
  · simp only [State.chan_modAllCh]
    rfl
  · rfl

/-- The Instructor's state when the lock takes force, test mode still standing (R178). -/
def locking (s : State) : State :=
  (if s.trust.instr.record == .unsaved then beginSave s else s).modInstr fun t => { t with state := .locked }

theorem lockInstr_eq (h : s.trust.instr.state = .unlocked) : lockInstr s = raiseEvent (endTest (locking s)) evMgmt 1 2 := by
  simp only [lockInstr, h, beq_self_eq_true, if_true]
  rfl

theorem locking_ch_badger (s : State) : (locking s).ch = s.ch ∧ (locking s).badger = s.badger := by
  unfold locking beginSave
  split_ifs <;> exact ⟨rfl, rfl⟩

theorem lockInstr_lim (h : s.trust.instr.state = .unlocked) (n : Ch) : ((lockInstr s).chan n).lim = (s.chan n).lim := by
  rw [lockInstr_eq h, raiseEvent_chan, endTest_lim, State.chan_congr (locking_ch_badger s).1]

theorem lockInstr_ch (h : s.trust.instr.state = .unlocked) (ht : s.badger.testActive = false) : (lockInstr s).ch = s.ch := by
  obtain ⟨hch, hbadger⟩ := locking_ch_badger s
  have hraise : (raiseEvent (endTest (locking s)) evMgmt 1 2).ch = (endTest (locking s)).ch := by simp
  rw [lockInstr_eq h, hraise, endTest_of_inactive (by rw [hbadger, ht]), hch]

theorem map_lim_congr {s t : State} (h : ∀ n, (t.chan n).lim = (s.chan n).lim) : t.ch.map (·.lim) = s.ch.map (·.lim) := by
  ext i hi
  simpa [State.chan] using h ⟨i, hi⟩

/-! ### The ten minutes of an unlock -/

/-- A command of the Instructor's renews his ten minutes and changes nothing else of his state (R179). -/
theorem instructorCommand_instr (s : State) (p : Path) (c : Byte) :
    ∃ e, (s.instructorCommand p c).trust.instr = { s.trust.instr with unlockEnd := e } ∧
      (s.trust.instr.unlockEnd = s.now + secs 600 → e = s.now + secs 600) := by
  unfold State.instructorCommand
  split_ifs
  · exact ⟨_, rfl, fun _ => rfl⟩
  · exact ⟨_, rfl, id⟩

end

/-- Settles O15: each command is one update of the Instructor's state, and its answer renews his ten minutes alone. -/
theorem instructorAccess : Obligations.InstructorAccess := by
  unfold Obligations.InstructorAccess
  refine ⟨⟨fun s r code h hright => ?_, fun s r code h hwrong hfew => ?_, fun s r code h hwrong hmany => ?_⟩,
    fun s r v h => ?_, fun s r code h => ?_, fun s r v h => ?_, fun s x hsaving hmay => ?_, fun s hunl htest => ?_, fun s hlock => ?_⟩
  · obtain ⟨hstate, hend, hstreak, hver, hrec⟩ := unlockOk_spec s code
    have hput : objUnlock.put ⟨r, code, s, s, s⟩ s = unlockOk s code := by simp [objUnlock, hright]
    obtain ⟨e, hinstr, he⟩ := instructorCommand_instr (unlockOk s code) r.path (objUnlock.after ⟨r, code, s, s, s⟩)
    refine ⟨_, congrArg Host.Outcome.next (perform_admitted h), by simp [objUnlock, hright], ?_⟩
    simp only [hput, State.reply_frame, hinstr, State.instructorCommand_frame]
    exact ⟨hstate, (he (by rw [hend]; simp)).trans (by simp), hstreak, hver, hrec⟩
  · have hput : objUnlock.put ⟨r, code, s, s, s⟩ s = unlockWrong s := by simp [objUnlock, hwrong]
    have hlocked : s.trust.instr.state = .locked := beq_iff_eq.mp h.passes_instr
    obtain ⟨e, hinstr, -⟩ := instructorCommand_instr (unlockWrong s) r.path (objUnlock.after ⟨r, code, s, s, s⟩)
    refine ⟨_, congrArg Host.Outcome.next (perform_admitted h), by simp [objUnlock, hwrong], ?_⟩
    simp only [hput, State.reply_frame, hinstr, unlockWrong_counts hfew]
    exact ⟨hlocked, trivial⟩
  · have hput : objUnlock.put ⟨r, code, s, s, s⟩ s = unlockWrong s := by simp [objUnlock, hwrong]
    obtain ⟨e, hinstr, -⟩ := instructorCommand_instr (unlockWrong s) r.path (objUnlock.after ⟨r, code, s, s, s⟩)
    refine ⟨_, congrArg Host.Outcome.next (perform_admitted h), by simp [objUnlock, hwrong], ?_⟩
    simp only [hput, State.reply_frame, hinstr]
    exact unlockWrong_locks hmany
  · have hunl := h.unlocked rfl
    have hput : objLock.put ⟨r, [v], s, s, s⟩ s = lockInstr s := rfl
    obtain ⟨e, hinstr, -⟩ := instructorCommand_instr (lockInstr s) r.path (objLock.after ⟨r, [v], s, s, s⟩)
    refine ⟨_, congrArg Host.Outcome.next (perform_admitted h), rfl, ?_, map_lim_congr fun n => ?_⟩
    · simpa only [hput, State.reply_frame, hinstr] using (lockInstr_spec hunl).1
    · rw [reply_chan, instructorCommand_chan, hput, lockInstr_lim hunl]
  · have hput : objSetCode.put ⟨r, code, s, s, s⟩ s =
      unsaved (s.modInstr fun t => { t with verifier := some (verifierOf s code) }) := rfl
    obtain ⟨e, hinstr, -⟩ := instructorCommand_instr
      (unsaved (s.modInstr fun t => { t with verifier := some (verifierOf s code) })) r.path
      (objSetCode.after ⟨r, code, s, s, s⟩)
    refine ⟨_, congrArg Host.Outcome.next (perform_admitted h), rfl, ?_⟩
    simp only [hput, State.reply_frame, hinstr, State.instructorCommand_frame]
    exact ⟨rfl, rfl, rfl⟩
  · have hput : objSave.put ⟨r, [v], s, s, s⟩ s = beginSave s := rfl
    obtain ⟨e, hinstr, -⟩ := instructorCommand_instr (beginSave s) r.path (objSave.after ⟨r, [v], s, s, s⟩)
    refine ⟨_, congrArg Host.Outcome.next (perform_admitted h), rfl, ?_⟩
    simp only [hput, State.reply_frame, hinstr, State.instructorCommand_frame]
    exact ⟨rfl, rfl⟩
  · refine ⟨saveDone s, by simp [exec, execSaveComplete, hmay], saveDone_saved hsaving, ?_, ?_, by simp⟩
    · simp [saveDone, hsaving, State.modInstr]
    · simp [saveDone, hsaving, State.modInstr]
  · exact ⟨_, rfl, (lockInstr_spec hunl).1, lockInstr_ch hunl htest, (lockInstr_spec hunl).2⟩
  · refine ⟨writeLockout (s.modInstr fun t => { t with state := .locked }), ?_, ?_⟩
    · simp [exec, execLockoutEnd, hlock]
    · simp [writeLockout_lockoutRec, State.modInstr]

end Sys2Proof.Machine
end

section
/-! PROOFS. Badger's slots: which message is taken, what its slot and the history show, and the closing of slots (R584 to R596). -/

namespace Sys2Proof.Machine

/-! ### The list of slots -/

/-- The slot put is the one found under its class and source (R585). -/
theorem find_putSlot (x : Slot) (l : List Slot) :
    (putSlot x l).find? (fun y => y.cls == x.cls && y.source == x.source) = some x := by
  induction l with
  | nil => simp [putSlot]
  | cons y ys ih =>
    unfold putSlot
    split_ifs with hkey hbefore
    · simp
    · simp
    · simp only [List.find?_cons, Bool.eq_false_iff.mpr hkey]
      exact ih

/-! ### Closing a slot -/

section
variable {b : Badger} {c : BitVec 4} {src : BitVec 6}

theorem closeSlot_of_closed (h : b.slot c src = none) : b.closeSlot c src = b := by
  simp [Badger.closeSlot, h]

/-- A history entry as the closing of a slot leaves it (R587). -/
def HistEntry.closedBy (h : HistEntry) (c : BitVec 4) (src : BitVec 6) : HistEntry :=
  if classOf h.msg.kind = c ∧ h.msg.source = src then { h with acked := true } else h

theorem closeSlot_of_open (h : b.slot c src ≠ none) :
    b.closeSlot c src = { b with
      slots := b.slots.filter fun x => !(x.cls == c && x.source == src)
      history := b.history.map fun x => x.closedBy c src } := by
  have hopen : (b.slot c src).isSome = true := Option.isSome_iff_ne_none.mpr h
  simp [Badger.closeSlot, hopen, HistEntry.closedBy]

theorem slot_closeSlot_same : (b.closeSlot c src).slot c src = none := by
  by_cases h : b.slot c src = none
  · rw [closeSlot_of_closed h, h]
  · rw [closeSlot_of_open h, Badger.slot, List.find?_eq_none]
    intro x hx
    simpa [imp_iff_not_or] using (List.mem_filter.mp hx).2

theorem slot_closeSlot_ne {c' : BitVec 4} {src' : BitVec 6} (hne : (c', src') ≠ (c, src)) :
    (b.closeSlot c src).slot c' src' = b.slot c' src' := by
  by_cases h : b.slot c src = none
  · rw [closeSlot_of_closed h]
  · rw [closeSlot_of_open h, Badger.slot, Badger.slot, List.find?_filter]
    congr 1
    funext x
    by_cases hx : x.cls = c' ∧ x.source = src'
    · obtain ⟨rfl, rfl⟩ := hx
      have hkept : ¬ (x.cls = c ∧ x.source = src) := fun h => hne (by rw [h.1, h.2])
      simpa [imp_iff_not_or] using hkept
    · have hno : (x.cls == c' && x.source == src') = false := by simpa using hx
      simp [hno]

theorem closeSlot_history : (b.closeSlot c src).history =
    if b.slot c src = none then b.history else b.history.map fun x => x.closedBy c src := by
  split_ifs with h
  · rw [closeSlot_of_closed h]
  · rw [closeSlot_of_open h]

theorem closeSlot_queue : (b.closeSlot c src).queue = b.queue := by
  by_cases h : b.slot c src = none
  · rw [closeSlot_of_closed h]
  · rw [closeSlot_of_open h]

/-- A closed slot is on no entry of the list: closing takes away its entries and leaves the others. -/
theorem mem_closeSlot {x : Slot} :
    x ∈ (b.closeSlot c src).slots ↔ x ∈ b.slots ∧ ¬ (x.cls = c ∧ x.source = src) := by
  by_cases h : b.slot c src = none
  · rw [closeSlot_of_closed h, iff_self_and]
    rintro hx ⟨rfl, rfl⟩
    exact absurd (List.find?_eq_none.mp h x hx) (by simp)
  · rw [closeSlot_of_open h, List.mem_filter]
    simp [imp_iff_not_or]

/-! ### Closing the slots of a list -/

/-- The class and source of a slot are those of a history entry's message. -/
def Slot.names (x : Slot) (h : HistEntry) : Bool := decide (classOf h.msg.kind = x.cls ∧ h.msg.source = x.source)

/-- An entry that a slot of the list names is marked, and no other. -/
def HistEntry.markedBy (h : HistEntry) (l : List Slot) : HistEntry :=
  if l.any fun x => x.names h then { h with acked := true } else h

/-- The closing of each slot of a list in turn (R595). -/
def Badger.closeAllOf (b : Badger) (l : List Slot) : Badger := l.foldl (fun b x => b.closeSlot x.cls x.source) b

theorem mem_closeAllOf (l : List Slot) (b : Badger) (y : Slot) :
    y ∈ (b.closeAllOf l).slots ↔ y ∈ b.slots ∧ ∀ x ∈ l, ¬ (y.cls = x.cls ∧ y.source = x.source) := by
  induction l generalizing b with
  | nil => simp [Badger.closeAllOf]
  | cons x l ih =>
    have hcons : b.closeAllOf (x :: l) = (b.closeSlot x.cls x.source).closeAllOf l := rfl
    rw [hcons, ih, mem_closeSlot, List.forall_mem_cons, and_assoc]

/-- Every entry that a listed slot names is either still to be marked, its slot being open, or marked already. -/
def Badger.Covers (b : Badger) (l : List Slot) : Prop :=
  ∀ x ∈ l, b.slot x.cls x.source ≠ none ∨ ∀ h ∈ b.history, x.names h = true → h.acked = true

theorem names_closedBy {x : Slot} {h : HistEntry} {c : BitVec 4} {src : BitVec 6} :
    x.names (h.closedBy c src) = x.names h := by
  unfold HistEntry.closedBy
  split_ifs <;> rfl

theorem closedBy_acked {h : HistEntry} {c : BitVec 4} {src : BitVec 6} (hacked : h.acked = true) :
    (h.closedBy c src).acked = true := by
  unfold HistEntry.closedBy
  split_ifs
  · rfl
  · exact hacked

theorem closedBy_of_acked {h : HistEntry} {c : BitVec 4} {src : BitVec 6} (hacked : h.acked = true) :
    h.closedBy c src = h := by
  unfold HistEntry.closedBy
  split_ifs
  · rw [← hacked]
  · rfl

theorem Badger.Covers.closeSlot {b : Badger} {l : List Slot} (h : b.Covers l) (x : Slot) :
    (b.closeSlot x.cls x.source).Covers l := by
  intro y hy
  by_cases hkey : (y.cls, y.source) = (x.cls, x.source)
  · obtain ⟨hc, hs⟩ := Prod.mk.inj hkey
    right
    intro e he hnames
    rw [closeSlot_history] at he
    split_ifs at he with hclosed
    · rw [← hc, ← hs] at hclosed
      exact (h y hy).elim (absurd hclosed) fun hall => hall e he hnames
    · obtain ⟨e, -, rfl⟩ := List.mem_map.mp he
      rw [names_closedBy, Slot.names, decide_eq_true_eq, hc, hs] at hnames
      rw [HistEntry.closedBy, if_pos hnames]
  · refine (h y hy).imp (fun hopen => by rwa [slot_closeSlot_ne hkey]) fun hall e he hnames => ?_
    rw [closeSlot_history] at he
    split_ifs at he
    · exact hall e he hnames
    · obtain ⟨e₀, he₀, rfl⟩ := List.mem_map.mp he
      rw [names_closedBy] at hnames
      exact closedBy_acked (hall e₀ he₀ hnames)

/-- Marking for the first slot and then for the rest is marking for all. -/
theorem markedBy_closedBy (e : HistEntry) (x : Slot) (l : List Slot) :
    (e.closedBy x.cls x.source).markedBy l = e.markedBy (x :: l) := by
  by_cases hx : classOf e.msg.kind = x.cls ∧ e.msg.source = x.source
  · have hnames : x.names e = true := decide_eq_true hx
    have hclosed : e.closedBy x.cls x.source = { e with acked := true } := if_pos hx
    simp [HistEntry.markedBy, hnames, hclosed]
  · have hnames : x.names e = false := decide_eq_false hx
    have hclosed : e.closedBy x.cls x.source = e := if_neg hx
    simp [HistEntry.markedBy, hnames, hclosed]

theorem history_closeAllOf {l : List Slot} {b : Badger} (h : b.Covers l) :
    (b.closeAllOf l).history = b.history.map fun e => e.markedBy l := by
  induction l generalizing b with
  | nil => simp [Badger.closeAllOf, HistEntry.markedBy]
  | cons x l ih =>
    have hcons : b.closeAllOf (x :: l) = (b.closeSlot x.cls x.source).closeAllOf l := rfl
    have hfirst : (b.closeSlot x.cls x.source).history = b.history.map fun e => e.closedBy x.cls x.source := by
      rw [closeSlot_history]
      split_ifs with hclosed
      · have hacked : ∀ e ∈ b.history, e.closedBy x.cls x.source = e := fun e he => by
          by_cases hx : classOf e.msg.kind = x.cls ∧ e.msg.source = x.source
          · exact closedBy_of_acked ((h x List.mem_cons_self).elim (absurd hclosed)
              fun hall => hall e he (decide_eq_true hx))
          · exact if_neg hx
        rw [List.map_congr_left hacked, List.map_id']
      · rfl
    have htail : b.Covers l := fun y hy => h y (List.mem_cons_of_mem x hy)
    rw [hcons, ih (htail.closeSlot x), hfirst, List.map_map]
    exact List.map_congr_left fun e _ => markedBy_closedBy e x l

end

end Sys2Proof.Machine
end

section
/-! SUPPORT. What a revocation does to its channel, once (R187): its lock loses the owner with a new epoch, and no other channel
changes. -/

namespace Sys2Proof.Machine

/-- A channel whose owner is gone, with the next epoch. -/
def Channel.unowned (c : Channel) : Channel :=
  { c with lock := { kind := .none, session := 0, epoch := c.lock.epoch + 1, state := .ramping } }

section
variable (s : State) (n : Ch)

/-- The state in which a revocation looks at the mode: the owner is gone and the epoch has risen. -/
def revoking : State :=
  let s := s.modCh n Channel.unowned
  let s := { s with trust := { s.trust with revocations := s.trust.revocations.inc } }
  raiseEvent s evMgmt 0 (n.val + 65536 * (s.chan n).lock.epoch.toNat)

/-- A revocation by the mode and the status that it finds. -/
theorem revoke_eq : revoke s n =
    let s := revoking s n
    let c := s.chan n
    match c.mode.mode with
    | .off => freeLock (s.modCh n fun c => { c with mode := { c.mode with pending := none } }) n
    | .meter => enterOff s n .revocation
    | m =>
      match c.mode.status with
      | .enabling =>
        let s := s.modCh n fun c =>
          { c with mode := { c.mode with target := .idle, pending := none, rampReason := .revocation } }
        if c.mode.enable == some .loopClosed then settleIdle s n .revocation else s
      | .safeRamp => s.modCh n fun c => { c with mode := { c.mode with target := .idle, rampReason := .revocation } }
      | _ =>
        if m == .idle then
          settleIdle (s.modCh n fun c => { c with mode := { c.mode with target := .idle, pending := none, status := .stable } })
            n .revocation
        else startRamp s n .idle .revocation := rfl

theorem revoking_chan (k : Ch) : (revoking s n).chan k = if k = n then (s.chan k).unowned else s.chan k := by
  unfold revoking
  dsimp only
  rw [raiseEvent_chan]
  exact (State.chan_congr (s := s.modCh n Channel.unowned) rfl k).trans (State.chan_modCh_if ..)

/-- The owner of a lock is gone, and its epoch is the one after a given one. -/
def Lock.RevokedFrom (l old : Lock) : Prop := l.kind = .none ∧ l.epoch = old.epoch + 1

theorem Lock.RevokedFrom.freed {l old : Lock} (h : l.RevokedFrom old) : l.freed.RevokedFrom old := by
  unfold Lock.freed
  split_ifs
  · exact h
  · exact h

variable {s n}

/-- A change that leaves the other channels and the lock, or frees it. -/
def FreesAtMost (n : Ch) (s t : State) : Prop :=
  ((t.chan n).lock = (s.chan n).lock ∨ (t.chan n).lock = (s.chan n).lock.freed) ∧ OthersKept n s t

theorem FreesAtMost.trans_modCh {t : State} {f : Channel → Channel} (h : FreesAtMost n (s.modCh n f) t)
    (hf : ∀ c, (f c).lock = c.lock) : FreesAtMost n s t := by
  obtain ⟨hlock, hothers⟩ := h
  rw [State.chan_modCh, hf] at hlock
  exact ⟨hlock, fun k hk => (hothers k hk).trans (State.chan_modCh_ne s n k f hk)⟩

theorem modCh_freesAtMost {f : Channel → Channel} (hf : ∀ c, (f c).lock = c.lock) : FreesAtMost n s (s.modCh n f) :=
  ⟨.inl (by rw [State.chan_modCh, hf]), fun k hk => State.chan_modCh_ne s n k f hk⟩

theorem freeLock_freesAtMost (s : State) (n : Ch) : FreesAtMost n s (freeLock s n) := by
  refine ⟨.inr ?_, fun k hk => by simp [freeLock_chan, hk]⟩
  simp [freeLock_chan, Lock.freed, apply_ite Channel.lock]

theorem enterOff_freesAtMost (s : State) (n : Ch) (why : OffReason) : FreesAtMost n s (enterOff s n why) :=
  ⟨.inr (enterOff_lock s n why), enterOff_othersKept s n why⟩

theorem settleIdle_freesAtMost (s : State) (n : Ch) (why : OffReason) : FreesAtMost n s (settleIdle s n why) := by
  unfold settleIdle
  dsimp only
  split_ifs
  · exact enterOff_freesAtMost s n why
  · exact .trans_modCh (freeLock_freesAtMost _ n) fun c => (Channel.lacStateTick_fields _ n).2.1

theorem startRamp_freesAtMost (s : State) (n : Ch) (m : Mode) (why : OffReason) : FreesAtMost n s (startRamp s n m why) :=
  ⟨.inl (startRamp_chan s n m why).2.1, (startRamp_chan s n m why).2.2⟩

theorem revoke_freesAtMost (s : State) (n : Ch) : FreesAtMost n (revoking s n) (revoke s n) := by
  rw [revoke_eq]
  generalize revoking s n = s
  dsimp only
  split
  · exact .trans_modCh (freeLock_freesAtMost _ n) fun _ => rfl
  · exact enterOff_freesAtMost s n _
  · split
    · split_ifs
      · exact .trans_modCh (settleIdle_freesAtMost _ n _) fun _ => rfl
      · exact modCh_freesAtMost fun _ => rfl
    · exact modCh_freesAtMost fun _ => rfl
    · split_ifs
      · exact .trans_modCh (settleIdle_freesAtMost _ n _) fun _ => rfl
      · exact startRamp_freesAtMost s n _ _

theorem revoke_othersKept (s : State) (n : Ch) : OthersKept n s (revoke s n) := fun k hk => by
  rw [(revoke_freesAtMost s n).2 k hk, revoking_chan, if_neg hk]

/-- The lock after a revocation has no owner and the next epoch (R187). -/
theorem revoke_lock (s : State) (n : Ch) : ((revoke s n).chan n).lock.RevokedFrom (s.chan n).lock := by
  have hrev : ((revoking s n).chan n).lock.RevokedFrom (s.chan n).lock := by
    rw [revoking_chan, if_pos rfl]
    exact ⟨rfl, rfl⟩
  rcases (revoke_freesAtMost s n).1 with h | h <;> rw [h]
  · exact hrev
  · exact hrev.freed

end

end Sys2Proof.Machine
end

section
/-! PROOFS. What the classification of a message does (R584 to R586, R592), and the settling theorem of Badger's slots. -/

namespace Sys2Proof.Machine

/-! ### A HALT turns every channel off -/

/-- Every channel is in OFF. -/
def AllOff (s : State) : Prop := ∀ n, (s.chan n).mode.mode = .off

section
variable {s : State}

theorem AllOff.of_modes {t : State} (hs : AllOff s) (h : ∀ n, (t.chan n).mode.mode = (s.chan n).mode.mode) : AllOff t :=
  fun n => (h n).trans (hs n)

theorem AllOff.of_ch {t : State} (hs : AllOff s) (h : t.ch = s.ch) : AllOff t :=
  hs.of_modes fun n => by rw [State.chan_congr h]

theorem AllOff.forEach {α : Type} {f : State → α → State} (hf : ∀ s a, AllOff s → AllOff (f s a)) (l : List α) :
    ∀ {s}, AllOff s → AllOff (forEach l s f) := by
  induction l with
  | nil => exact fun hs => hs
  | cons a l ih => exact fun hs => ih (hf _ a hs)

theorem AllOff.modCh (hs : AllOff s) (n : Ch) {f : Channel → Channel} (h : ∀ c, (f c).mode.mode = c.mode.mode) :
    AllOff (s.modCh n f) :=
  hs.of_modes fun k => by by_cases hk : k = n <;> simp [hk, h]

theorem AllOff.freeLock (hs : AllOff s) (n : Ch) : AllOff (freeLock s n) := hs.modCh n fun c => by split_ifs <;> rfl

/-- A revocation in OFF leaves the channel in OFF (R187). -/
theorem AllOff.revoke (hs : AllOff s) (n : Ch) : AllOff (revoke s n) := by
  have hrev : AllOff (revoking s n) := hs.of_modes fun k => by
    rw [revoking_chan]
    split_ifs <;> rfl
  rw [revoke_eq]
  dsimp only
  rw [hrev n]
  refine AllOff.freeLock (AllOff.modCh hrev n ?_) n
  exact fun _ => rfl

theorem AllOff.setRefReady (hs : AllOff s) (on : Bool) : AllOff (setRefReady s on) :=
  hs.of_modes fun n => by rw [chan_setRefReady]

theorem AllOff.coreHeld (hs : AllOff s) : AllOff (coreHeld s) := hs.of_ch rfl

theorem AllOff.ite_revoke {p : Prop} [Decidable p] (hs : AllOff s) (n : Ch) : AllOff (if p then Machine.revoke s n else s) := by
  split_ifs
  · exact hs.revoke n
  · exact hs

theorem AllOff.removeSession (hs : AllOff s) (i : Fin 8) (how : Nat) : AllOff (removeSession s i how) := by
  unfold Machine.removeSession
  extract_lets id freed told
  split_ifs
  · exact hs
  · have htold : AllOff told := hs.of_ch (by simp [told, freed])
    exact AllOff.forEach (fun s n hs => hs.ite_revoke n) _ htold

theorem AllOff.removeSessions (hs : AllOff s) : AllOff (removeSessions s) :=
  AllOff.forEach (fun _ i hs => hs.removeSession i 2) _ hs

/-- One channel's part of turning all off (R253, R389). -/
def offByDevice (fault : Bool) (s : State) (n : Ch) : State :=
  let s := enterOff s n .deviceState
  if fault then s.modCh n Channel.faultAction else s

theorem offByDevice_same (fault : Bool) (s : State) (n : Ch) : ((offByDevice fault s n).chan n).mode.mode = .off := by
  unfold offByDevice
  cases fault <;> simp [enterOff_mode, ModeSt.enteredOff, Channel.faultAction, Channel.present]

theorem offByDevice_othersKept (fault : Bool) (s : State) (n : Ch) : OthersKept n s (offByDevice fault s n) := by
  intro k hk
  unfold offByDevice
  cases fault <;> simp [hk, enterOff_othersKept s n _ k hk]

theorem allOff_allOff (s : State) (fault : Bool) : AllOff (allOff s fault) := by
  intro n
  have hall := get_forEach (fun s n => (s.chan n).mode.mode) (offByDevice fault) (fun _ => True) (fun _ _ => .off)
    (fun _ _ _ => trivial) (fun s n _ => offByDevice_same fault s n)
    (fun s n k _ hk => by rw [offByDevice_othersKept fault s n k hk]) nodup_allCh (s := s) trivial n
  exact hall.trans (if_pos (mem_allCh n))

/-- The state in which a HALT has ended the sessions and holds the core. -/
def haltReleased (s : State) (m : W64) (f : Bool) : State :=
  let s := allOff s true
  let s := { s with dev := { s.dev with lastHalt := m, reverify := false, refFault := f, refbufOn := s.dev.refbufOn && !f } }
  removeSessions (coreHeld (if f then setRefReady s false else s))

theorem enterHalt_eq (m : W64) (f : Bool) (hr : s.dev.state ≠ .reset) (hh : s.dev.state ≠ .halt) :
    enterHalt s m f = setDevice (forEach allCh (haltReleased s m f) fun s n =>
      if (s.chan n).lock.state == .held then revoke s n else s) .halt := by
  unfold enterHalt
  rw [if_neg (by simp [hr, hh])]
  rfl

theorem haltReleased_allOff (s : State) (m : W64) (f : Bool) : AllOff (haltReleased s m f) := by
  unfold haltReleased
  extract_lets off was marked
  have hmarked : AllOff marked := (allOff_allOff s true).of_ch rfl
  clear_value marked
  refine AllOff.removeSessions (AllOff.coreHeld ?_)
  split_ifs
  · exact hmarked.setRefReady false
  · exact hmarked

/-- A HALT leaves every channel in OFF (R253). -/
theorem enterHalt_allOff (m : W64) (f : Bool) (hr : s.dev.state ≠ .reset) (hh : s.dev.state ≠ .halt) :
    AllOff (enterHalt s m f) := by
  rw [enterHalt_eq m f hr hh]
  refine AllOff.of_ch ?_ (setDevice_frame _ _).2.2.2.2.2.1
  exact AllOff.forEach (fun s n hs => hs.ite_revoke n) _ (haltReleased_allOff s m f)

end

end Sys2Proof.Machine
end

section
/-! PROOFS. What the classification of a message does (R584 to R586, R592), and the settling theorem of Badger's slots. -/

namespace Sys2Proof.Machine

section
variable {s : State} {m : Msg}

/-- The count that a message brings its slot to (R585). -/
def countAfter (old : Option Slot) : Nat := Nat.min 255 ((old.map (·.count)).getD 0 + 1)

/-- The level that a message of an applied level leaves its slot at (R586). -/
def levelAfter (a : Level) (old : Option Slot) : Level :=
  match old with
  | none => a
  | some x => x.level.max a

/-- Slot, history and event of a message, ahead of what its level brings (R585, R592, R598). -/
def recorded (s : State) (m : Msg) : State :=
  let b := s.badger
  let cls := classOf m.kind
  let old := b.slot cls m.source
  let a := appliedLevel m old
  let b := { b with slots := putSlot ⟨cls, m.source, levelAfter a old, countAfter old⟩ b.slots,
                    alertPulsing := b.alertPulsing || decide (b.alertLevel ≤ a.toNat) }
  let s := { s with badger := b.store m a (countAfter old) }
  if b.faultMin ≤ a.toNat then raiseWith s evFault cls.toNat (faultDetail m a (countAfter old)) m.word else s

theorem classify_eq (s : State) (m : Msg) :
    classify s m = react (recorded s m) m (appliedLevel m (s.badger.slot (classOf m.kind) m.source)) := rfl

theorem recorded_frame (s : State) (m : Msg) : (recorded s m).ch = s.ch ∧ (recorded s m).dev = s.dev ∧
    (recorded s m).badger.queue = s.badger.queue ∧ (recorded s m).badger.histSeq = s.badger.histSeq.inc ∧
    ((recorded s m).badger.history.head?).map (·.msg) = some m ∧
    (recorded s m).badger.slot (classOf m.kind) m.source = some ⟨classOf m.kind, m.source,
      levelAfter (appliedLevel m (s.badger.slot (classOf m.kind) m.source)) (s.badger.slot (classOf m.kind) m.source),
      countAfter (s.badger.slot (classOf m.kind) m.source)⟩ := by
  have hslot := find_putSlot ⟨classOf m.kind, m.source,
    levelAfter (appliedLevel m (s.badger.slot (classOf m.kind) m.source)) (s.badger.slot (classOf m.kind) m.source),
    countAfter (s.badger.slot (classOf m.kind) m.source)⟩ s.badger.slots
  unfold recorded
  dsimp only
  split_ifs
  · refine ⟨by simp, by simp, by simp [Badger.store], by simp [Badger.store], by simp [Badger.store], ?_⟩
    rw [(raiseWith_frame ..).2.2.2.2.2.2.2.2.2.2.2.1]
    exact hslot
  · exact ⟨rfl, rfl, rfl, rfl, rfl, hslot⟩

/-- The state in which the message taken next is classified. -/
def taken (s : State) (m : Msg) : State := { s with badger := { s.badger with queue := s.badger.queue.erase m } }

/-- Where the level asks for nothing, the message is recorded and no channel changes (R586). -/
theorem classify_of_quiet (h : appliedLevel m (s.badger.slot (classOf m.kind) m.source) = .note ∨
    appliedLevel m (s.badger.slot (classOf m.kind) m.source) = .warn) : classify s m = recorded s m := by
  rw [classify_eq]
  rcases h with h | h <;> rw [h] <;> rfl

theorem classify_of_error {n : Ch} (hn : chOfSource m.source = some n)
    (h : appliedLevel m (s.badger.slot (classOf m.kind) m.source) = .error) :
    classify s m = (recorded s m).modCh n fun c => c.errorAction (classOf m.kind) := by
  rw [classify_eq, h]
  simp only [react, hn]

theorem classify_of_trip {n : Ch} (hn : chOfSource m.source = some n)
    (h : appliedLevel m (s.badger.slot (classOf m.kind) m.source) = .trip) :
    classify s m = tripChannel (recorded s m) n := by
  rw [classify_eq, h]
  simp only [react, hn]

theorem classify_of_halt (h : appliedLevel m (s.badger.slot (classOf m.kind) m.source) = .halt) :
    classify s m = enterHalt (recorded s m) m.word (classOf m.kind == 2) := by
  rw [classify_eq, h]
  rfl

/-- A TRIP takes its channel to OFF and no other (R252). -/
theorem tripChannel_chan (s : State) (n : Ch) : ((tripChannel s n).chan n).mode.mode = .off ∧
    ((tripChannel s n).chan n).mode.offReason = .trip ∧ OthersKept n s (tripChannel s n) := by
  refine ⟨?_, ?_, fun k hk => by simp [tripChannel, hk, enterOff_othersKept s n _ k hk]⟩
  · simp [tripChannel, Channel.faultAction, Channel.present, enterOff_mode, ModeSt.enteredOff]
  · simp [tripChannel, Channel.faultAction, Channel.present]

theorem exec_badgerClassify_taken (h : nextMsg s.badger.queue = some m) :
    exec .badgerClassify s = .next (classify (taken s m) m) := exec_badgerClassify_of_nextMsg h

theorem taken_slot (s : State) (m : Msg) (c : BitVec 4) (src : BitVec 6) : (taken s m).badger.slot c src = s.badger.slot c src :=
  rfl

theorem recorded_taken_chan (s : State) (m : Msg) (n : Ch) : (recorded (taken s m) m).chan n = s.chan n :=
  State.chan_congr (recorded_frame (taken s m) m).1 n

/-! ### Acknowledgements -/

/-- What FAULT_ACK with 0xFFFF closes: the slots on which its sender may act, HALT ones over MGP alone (R595). -/
def mineOf (s : State) (r : Req) : List Slot :=
  s.badger.slots.filter fun x => (r.path == .mgp || x.level != .halt) && mayActOn s r.who x.source

theorem mem_mineOf {r : Req} {x : Slot} : x ∈ mineOf s r ↔
    x ∈ s.badger.slots ∧ (r.path = .mgp ∨ x.level ≠ .halt) ∧ mayActOn s r.who x.source = true := by
  simp [mineOf]

/-- The slots that are to be closed are open. -/
theorem covers_mineOf (s : State) (r : Req) : s.badger.Covers (mineOf s r) := by
  intro x hx
  left
  rw [Badger.slot, ne_eq, List.find?_eq_none]
  intro hall
  exact absurd (hall x (mem_mineOf.mp hx).1) (by simp)

theorem objFaultAck_put_all (r : Req) (pre post seq s : State) :
    objFaultAck.put ⟨r, natBytes 2 0xFFFF, pre, post, seq⟩ s = { s with badger := s.badger.closeAllOf (mineOf s r) } := by
  have hval : (⟨r, natBytes 2 0xFFFF, pre, post, seq⟩ : W).v = 0xFFFF := by
    rw [W.v, beNat_natBytes]
    norm_num
  simp only [objFaultAck, hval, if_true]
  rfl

theorem objFaultAck_put_one {v : W16} (hv : v ≠ 0xFFFF) (r : Req) (pre post seq s : State) :
    objFaultAck.put ⟨r, natBytes 2 v.toNat, pre, post, seq⟩ s =
      { s with badger := s.badger.closeSlot (ackClass v.toNat) (ackSource v.toNat) } := by
  have hval : (⟨r, natBytes 2 v.toNat, pre, post, seq⟩ : W).v = v.toNat := by
    rw [W.v, beNat_natBytes]
    omega
  have hne : v.toNat ≠ 0xFFFF := fun h => hv (BitVec.eq_of_toNat_eq h)
  simp only [objFaultAck, hval, hne, if_false]

end

theorem markedBy_of_exists {h : HistEntry} {l : List Slot} (hx : ∃ x ∈ l, x.cls = classOf h.msg.kind ∧ x.source = h.msg.source) :
    h.markedBy l = { h with acked := true } := by
  obtain ⟨x, hx, hc, hs⟩ := hx
  exact if_pos (List.any_eq_true.mpr ⟨x, hx, decide_eq_true ⟨hc.symm, hs.symm⟩⟩)

theorem markedBy_of_not_exists {h : HistEntry} {l : List Slot}
    (hx : ¬ ∃ x ∈ l, x.cls = classOf h.msg.kind ∧ x.source = h.msg.source) : h.markedBy l = h := by
  refine if_neg fun hany => hx ?_
  obtain ⟨x, hx, hnames⟩ := List.any_eq_true.mp hany
  obtain ⟨hc, hs⟩ := of_decide_eq_true hnames
  exact ⟨x, hx, hc.symm, hs.symm⟩

theorem slot_of_quietCloses {s : State} {c : BitVec 4} {src : BitVec 6} (h : quietCloses s c src = true) :
    s.badger.slot c src ≠ none := fun hnone => by
  simp [quietCloses, hnone] at h

theorem exec_faultAck_all (r : Req) (s : State) :
    exec (.faultAck r 0xFFFF) s = .next (perform objFaultAck r tU16 (natBytes 2 0xFFFF) s) :=
  congrArg (fun k => Host.Outcome.next (perform objFaultAck r tU16 (natBytes 2 k) s)) (by decide : (0xFFFF : W16).toNat = 0xFFFF)

/-- Settles O16: a message is recorded before its level acts, and closing a list of slots takes away their entries and marks the
history entries that they name. -/
theorem badgerSlots : Obligations.BadgerSlots := by
  unfold Obligations.BadgerSlots
  refine ⟨⟨fun s m hq hbase hslot => ?_, fun s m hnext => ?_, fun s m n hnext hn ha => ?_, fun s m n hnext hn hoff ha => ?_,
    fun s m hnext hr hh ha => ?_, fun s hq => ?_⟩, fun s cls src hquiet => ?_, fun s r v hv h => ?_, fun s r h => ?_,
    fun s c src hopen => ?_, fun s c src hclosed => closeSlot_of_closed hclosed⟩
  · have hnext : nextMsg s.badger.queue = some m := by
      rw [hq]
      exact nextMsg_cons_of_source nofun
    have ha : appliedLevel m ((taken s m).badger.slot (classOf m.kind) m.source) = .note := appliedLevel_of_note hbase _
    obtain ⟨hch, -, hqueue, hseq, hhead, hfound⟩ := recorded_frame (taken s m) m
    refine ⟨_, exec_badgerClassify_taken hnext, ?_⟩
    rw [classify_of_quiet (.inl ha)]
    rw [ha, taken_slot, hslot] at hfound
    exact ⟨hqueue.trans (by simp [taken, hq]), hfound, hhead, hseq, hch⟩
  · intro old a ha
    obtain ⟨hch, -, hqueue, hseq, hhead, hfound⟩ := recorded_frame (taken s m) m
    refine ⟨_, exec_badgerClassify_taken hnext, ?_⟩
    rw [classify_of_quiet (s := taken s m) ha]
    exact ⟨hqueue, hfound, hhead, hseq, hch⟩
  · refine ⟨_, exec_badgerClassify_taken hnext, ?_⟩
    rw [classify_of_error (s := taken s m) hn ha, State.chan_modCh, recorded_taken_chan]
    exact ⟨rfl, fun k hk => by rw [State.chan_modCh_ne _ _ _ _ hk, recorded_taken_chan]⟩
  · obtain ⟨hmode, hwhy, hothers⟩ := tripChannel_chan (recorded (taken s m) m) n
    refine ⟨_, exec_badgerClassify_taken hnext, ?_⟩
    rw [classify_of_trip (s := taken s m) hn ha]
    exact ⟨hmode, hwhy, fun k hk => (hothers k hk).trans (recorded_taken_chan s m k)⟩
  · have hdev : (recorded (taken s m) m).dev = s.dev := (recorded_frame (taken s m) m).2.1
    refine ⟨_, exec_badgerClassify_taken hnext, ?_⟩
    rw [classify_of_halt (s := taken s m) ha]
    rw [← hdev] at hr hh
    exact ⟨enterHalt_state _ _ _ hr, enterHalt_lastHalt _ _ _ hr hh, enterHalt_allOff _ _ hr hh⟩
  · simp [exec, execBadgerClassify, hq, nextMsg, heads]
  · have hopen := slot_of_quietCloses hquiet
    refine ⟨{ s with badger := s.badger.closeSlot (BitVec.ofNat 4 cls.val) src }, congrArg _ (if_pos hquiet), ?_,
      slot_closeSlot_same, ?_, fun c' s' hne => slot_closeSlot_ne hne⟩
    · rw [closeSlot_of_open hopen]
    · rw [closeSlot_history, if_neg hopen]
      rfl
  · have hdone := perform_done h fun _ => rfl
    rwa [objFaultAck_put_one hv] at hdone
  · have hslots : ∀ x, x ∈ (s.badger.closeAllOf (mineOf s r)).slots ↔ _ := mem_closeAllOf (mineOf s r) s.badger
    refine ⟨_, (exec_faultAck_all r s).trans (congrArg Host.Outcome.next (perform_admitted h)), rfl, ?_⟩
    rw [objFaultAck_put_all]
    simp only [State.reply_frame, State.instructorCommand_frame]
    refine ⟨trivial, fun x hx => ?_, fun x hx hno huniq => ?_, ?_⟩
    · obtain ⟨hmem, hfree⟩ := (hslots x).mp hx
      exact ⟨hmem, fun hmine => hfree x (mem_mineOf.mpr ⟨hmem, hmine⟩) ⟨rfl, rfl⟩⟩
    · refine (hslots x).mpr ⟨hx, fun y hy hkey => ?_⟩
      obtain ⟨hmem, hmine⟩ := mem_mineOf.mp hy
      rw [huniq y hmem hkey.1.symm hkey.2.symm] at hmine
      exact hno hmine
    · rw [history_closeAllOf (covers_mineOf s r)]
      refine List.map_congr_left fun e _ => ?_
      by_cases hx : ∃ x ∈ mineOf s r, x.cls = classOf e.msg.kind ∧ x.source = e.msg.source
      · rw [markedBy_of_exists hx, if_pos]
        obtain ⟨x, hx, hkey⟩ := hx
        obtain ⟨hmem, hmine⟩ := mem_mineOf.mp hx
        exact ⟨x, hmem, hmine, hkey⟩
      · rw [markedBy_of_not_exists hx, if_neg]
        rintro ⟨x, hmem, hmine, hkey⟩
        exact hx ⟨x, mem_mineOf.mpr ⟨hmem, hmine⟩, hkey⟩
  · exact ⟨slot_closeSlot_same, fun c' src' hne => slot_closeSlot_ne hne, by rw [closeSlot_history, if_neg hopen]; rfl,
      closeSlot_queue⟩

end Sys2Proof.Machine
end

section
/-! PROOFS. Posted and forced messages, factory test mode and its injections, and the event lines (R598 to R607). -/

namespace Sys2Proof.Machine

section
variable {s : State}

/-! ### Messages -/

@[simp] theorem sendMsg_injections (s : State) (src : BitVec 6) (kind : Byte) (base : Level) (detail : Nat) :
    (sendMsg s src kind base detail).badger.injections = s.badger.injections ∧
      (sendMsg s src kind base detail).badger.testActive = s.badger.testActive := by
  unfold sendMsg sendFull
  extract_lets
  split <;> exact ⟨rfl, rfl⟩

theorem sends_sendMsg_of_queue {u : State} (hu : u.badger.queue = s.badger.queue) (src : BitVec 6) (kind : Byte) (base : Level)
    (detail : Nat) : Sends s (sendMsg u src kind base detail) src kind base detail := by
  intro hroom
  rw [← hu] at hroom ⊢
  exact ⟨_, sendMsg_queue_of_room hroom kind base detail, rfl, rfl, rfl, rfl⟩

/-- A forced message joins its source's queue marked as forced (R603), where there is room. -/
theorem sendFull_queue (s : State) (src : BitVec 6) (kind : Byte) (base : Level) (detail : BitVec 24) (forced : Bool) :
    (sendFull s src kind base detail forced).badger.queue =
      if 8 ≤ s.badger.queue.countP (fun m => m.source == src) then s.badger.queue
      else s.badger.queue ++ [newMsg s src kind base detail forced] := by
  unfold sendFull
  extract_lets
  split <;> rfl

theorem sendMsg_badger_only (s : State) (src : BitVec 6) (kind : Byte) (base : Level) (detail : Nat) :
    sendMsg s src kind base detail = { s with badger := (sendMsg s src kind base detail).badger } := by
  unfold sendMsg sendFull
  extract_lets
  split <;> rfl

/-! ### Test mode and injections -/

theorem endTest_badger (s : State) : (endTest s).badger.testActive = false ∧
    (s.badger.testActive = true → (endTest s).badger.injections = []) := by
  unfold endTest
  split_ifs with h
  · exact ⟨rfl, fun _ => rfl⟩
  · exact ⟨Bool.eq_false_iff.mpr h, fun h' => absurd h' h⟩

@[simp] theorem holdComparator_badger (s : State) (arg : Nat) (on : Bool) : (holdComparator s arg on).badger = s.badger := by
  unfold holdComparator
  split <;> simp

@[simp] theorem clampTrip_injections (s : State) (n : Ch) (p : ClampPath) :
    (clampTrip s n p).badger.injections = s.badger.injections := by
  unfold clampTrip
  dsimp only
  split_ifs <;> simp

@[simp] theorem refFails_injections (mon : W16) (s : State) : (refFails mon s).badger.injections = s.badger.injections ∧
    (refFails mon s).badger.testActive = s.badger.testActive := by
  unfold refFails
  split_ifs
  · simp [setRefReady]
  · exact ⟨rfl, rfl⟩

/-- An injection that acts within its command stays listed, but one of the clock monitor (R604, R606). -/
theorem injectAt_injections (s : State) {target : Nat} (arg value : Nat) (h : target ≠ 5) :
    (injectAt s target arg value).badger.injections = s.badger.injections := by
  unfold injectAt
  split
  · split <;> simp
  · split_ifs <;> simp
  · exact absurd rfl h
  · split_ifs <;> simp
  · rfl

/-- The injection that a command of INJECT adds (R604). -/
def injectionOf (s : State) (data : List Byte) : Injection :=
  let target := beNat (slice data 0 1)
  ⟨target, beNat (slice data 1 2), beNat (slice data 3 2),
    s.now + (if target = 1 ∨ target = 4 then usec (beNat (slice data 3 2)) else 0)⟩

/-- The state with the injection listed, before it acts. -/
def withInjection (s : State) (data : List Byte) : State :=
  { s with badger := { s.badger with injections := s.badger.injections ++ [injectionOf s data] } }

theorem objInject_put (r : Req) (data : List Byte) (pre post seq s : State) :
    objInject.put ⟨r, data, pre, post, seq⟩ s =
      injectAt (withInjection s data) (beNat (slice data 0 1)) (beNat (slice data 1 2)) (beNat (slice data 3 2)) := rfl

theorem testActive_of_admits {r : Req} {data : List Byte} (h : objInject.Admits r tBlob data s) : s.badger.testActive = true :=
  of_code_eq_ok (by decide) h.passes_mode_state.2

theorem objForce_put (r : Req) (data : List Byte) (pre post seq s : State) :
    objForce.put ⟨r, data, pre, post, seq⟩ s =
      sendFull s (forceSource data) (BitVec.ofNat 8 (beNat (slice data 1 1))) (levelOf (beNat (slice data 2 1)))
        (BitVec.ofNat 24 (beNat (slice data 3 3))) true := rfl

theorem sends_sendFull (s : State) (src : BitVec 6) (kind : Byte) (base : Level) (detail : Nat) (forced : Bool) :
    Sends s (sendFull s src kind base (BitVec.ofNat 24 detail) forced) src kind base detail := by
  intro hroom
  exact ⟨_, by rw [sendFull_queue, if_neg (Nat.not_le.mpr hroom)], rfl, rfl, rfl, rfl⟩

theorem mem_sendFull {src : BitVec 6} {kind : Byte} {base : Level} {detail : BitVec 24} {m : Msg}
    (h : m ∈ (sendFull s src kind base detail true).badger.queue) : m ∈ s.badger.queue ∨ m.forced = true := by
  rw [sendFull_queue] at h
  split_ifs at h
  · exact .inl h
  · refine (List.mem_append.mp h).imp_right fun hlast => ?_
    rw [List.mem_singleton.mp hlast]
    rfl

/-- TEST_ENTER leaves test mode active and every channel as it is (R605). -/
theorem objTestEnter_put (w : W) (s : State) : (objTestEnter.put w s).badger.testActive = true ∧ (objTestEnter.put w s).ch = s.ch := by
  simp only [objTestEnter]
  split_ifs with h
  · exact ⟨h, rfl⟩
  · simp

/-- An injection of the clock monitor stops the reference at once, and in RUN the device (R51, R606). -/
theorem injectAt_clock (s : State) (arg value : Nat) :
    (injectAt s 5 arg value).clk.refPresent = false ∧ (injectAt s 5 arg value).clk.aonOnRc = true ∧
      (∀ x ∈ (injectAt s 5 arg value).badger.injections, x.target ≠ 5) ∧
      (s.dev.state = .run → (injectAt s 5 arg value).dev.state = .halt ∧ (injectAt s 5 arg value).clk.clockLost = true) := by
  have hclk : (clockFails .refclk 0 s).clk.refPresent = false ∧ (clockFails .refclk 0 s).clk.aonOnRc = true := by
    simp only [clockFails]
    rw [if_neg (by simp)]
    split
    · exact ⟨rfl, rfl⟩
    · exact ⟨rfl, rfl⟩
    · split_ifs
      · rw [clockFails_react_clk]
        exact ⟨rfl, rfl⟩
      · exact ⟨rfl, rfl⟩
    · rw [clockFails_react_clk]
      exact ⟨rfl, rfl⟩
  refine ⟨hclk.1, hclk.2, fun x hx => by simpa using (List.mem_filter.mp hx).2, fun hrun => ?_⟩
  have hfails : clockFails .refclk 0 s = clockFails.react .refclk 0 { s with clk := s.clk.fail .refclk } := by
    simp [clockFails, hrun]
  change (clockFails .refclk 0 s).dev.state = .halt ∧ (clockFails .refclk 0 s).clk.clockLost = true
  rw [hfails, clockFails_react_clk]
  exact ⟨clockFails_react_state _ _ hrun, rfl⟩

/-- An injection of the reference monitor beyond its 10 µs takes REF_READY away (R222, R606). -/
theorem injectAt_reference {value : Nat} (arg : Nat) (hv : 10 < value) : injectAt s 4 arg value = refFails s.refMon.mon s := by
  simp [injectAt, hv]

theorem refFails_withInjection {data : List Byte} (hready : s.dev.refReady = true) :
    let u := refFails (withInjection s data).refMon.mon (withInjection s data)
    u.dev.refReady = false ∧ Sends s u srcRef 0x21 .halt s.refMon.mon.toNat := by
  have hfails := refFails_of_ready (s := withInjection s data) (withInjection s data).refMon.mon hready
  refine ⟨by rw [hfails]; simp, ?_⟩
  rw [hfails]
  refine sends_sendMsg_of_queue (s := s) ?_ _ _ _ _
  rfl

/-- An injection of errors goes out to its port's receiver (R606). -/
theorem injectAt_errors {arg : Nat} {p : Port} (hp : arg % 3 = p.val) (hlink : s.linkOn = true) (value : Nat) :
    injectAt s 6 arg value = s.send (.codeErrors p value) := by
  have hport : (⟨arg % 3, Nat.mod_lt _ (by decide)⟩ : Port) = p := Fin.ext hp
  simp [injectAt, hlink, hport]

/-! ### Event lines -/

theorem objEvtClear_put (x : Fin 4) (mask : Word) (r : Req) (pre post seq s : State) :
    (objEvtClear x).put ⟨r, natBytes 4 mask.toNat, pre, post, seq⟩ s = s.modLine x fun l => l.clear mask := by
  have hword : (⟨r, natBytes 4 mask.toNat, pre, post, seq⟩ : W).word = mask := by
    rw [W.word, W.v, beNat_natBytes]
    exact BitVec.eq_of_toNat_eq (by simp [mask.isLt])
  simp only [objEvtClear, hword]

theorem lines_modLine_same (s : State) (x : Fin 4) (f : EventLine → EventLine) :
    (s.modLine x f).events.lines[x.val] = f s.events.lines[x.val] := by
  simp [State.modLine]

theorem lines_modLine_ne (s : State) {x y : Fin 4} (f : EventLine → EventLine) (h : y ≠ x) :
    (s.modLine x f).events.lines[y.val] = s.events.lines[y.val] := by
  simp [State.modLine, Vector.getElem_set_ne, Fin.val_ne_of_ne h.symm]

end

/-- Settles O17: each command is one object's action, and its answer changes neither messages nor channels. -/
theorem messagesTestModeAndEvents : Obligations.MessagesTestModeAndEvents := by
  unfold Obligations.MessagesTestModeAndEvents
  refine ⟨⟨fun s w => ⟨_, rfl, sendMsg_badger_only .., sends_sendMsg rfl _ _ _ _⟩, fun s r data h => ?_, fun s r v h => ?_,
    fun s r v h => ?_, fun s r data h ht => ?_, fun s r data h ht => ?_, fun s r data h ht hv hready => ?_,
    fun s r data p h ht hp hlink => ?_, fun s j hj => ?_⟩, fun s => rfl, fun s x => ?_, fun s r x mask h => ?_, fun s x rest hf => ?_⟩
  · refine ⟨_, congrArg Host.Outcome.next (perform_admitted h), rfl, ?_⟩
    rw [objForce_put]
    refine ⟨by simp, (sends_sendFull s _ _ _ _ true).congr (by simp), fun m hm => ?_⟩
    simp only [State.reply_frame, State.instructorCommand_frame] at hm
    exact mem_sendFull hm
  · obtain ⟨hactive, hch⟩ := objTestEnter_put ⟨r, [v], s, s, s⟩ s
    refine ⟨_, congrArg Host.Outcome.next (perform_admitted h), rfl, ?_⟩
    simp only [State.reply_frame, State.instructorCommand_frame]
    exact ⟨hactive, hch⟩
  · refine ⟨_, congrArg Host.Outcome.next (perform_admitted h), rfl, ?_⟩
    simp only [State.reply_frame, State.instructorCommand_frame]
    exact endTest_badger s
  · refine ⟨_, injectionOf s data, congrArg Host.Outcome.next (perform_admitted h), rfl, ?_, rfl, rfl, rfl⟩
    simp only [State.reply_frame, State.instructorCommand_frame, objInject_put]
    exact injectAt_injections _ _ _ ht
  · refine ⟨_, congrArg Host.Outcome.next (perform_admitted h), rfl, ?_⟩
    simp only [State.reply_frame, State.instructorCommand_frame, objInject_put, ht]
    exact injectAt_clock (withInjection s data) _ _
  · refine ⟨_, congrArg Host.Outcome.next (perform_admitted h), rfl, ?_⟩
    simp only [State.reply_frame, State.instructorCommand_frame, objInject_put, ht, injectAt_reference _ hv]
    obtain ⟨hdev, hsends⟩ := refFails_withInjection (data := data) hready
    refine ⟨hdev, ?_, hsends.congr (by simp)⟩
    simp [Badger.refInjected, withInjection, testActive_of_admits h, injectionOf, ht]
  · refine ⟨_, congrArg Host.Outcome.next (perform_admitted h), rfl, ?_⟩
    simp only [State.reply_frame, State.instructorCommand_frame, objInject_put, ht]
    rw [injectAt_errors (s := withInjection s data) hp hlink]
    exact ⟨rfl, rfl, rfl⟩
  · refine ⟨_, by simp only [exec, execInjectionEnd, hj]; rfl, ?_⟩
    split_ifs
    · rw [holdComparator_badger]
      exact ⟨rfl, rfl⟩
    · exact ⟨rfl, rfl⟩
  · exact ⟨_, rfl, lines_modLine_same s x _, fun y hy => lines_modLine_ne s _ hy, rfl, rfl⟩
  · refine ⟨_, congrArg Host.Outcome.next (perform_admitted h), rfl, ?_⟩
    simp only [State.reply_frame, State.instructorCommand_frame, objEvtClear_put]
    exact ⟨lines_modLine_same s x _, fun y hy => lines_modLine_ne s _ hy, rfl, rfl⟩
  · simp [exec, execFifoPop, hf]

end Sys2Proof.Machine
end

section
/-! PROOFS. Opening, keeping alive and ending a session (R113 to R117, R132). -/

namespace Sys2Proof.Machine

/-- Where each step touches its own channel alone, what becomes of a channel is one step's doing, on a state that holds the
channel as it was. -/
theorem chan_forEach_own {f : State → Ch → State} (hf : ∀ s n, OthersKept n s (f s n)) {l : List Ch} (hl : l.Nodup) {n : Ch}
    (hn : n ∈ l) (s : State) : ∃ u, u.chan n = s.chan n ∧ (forEach l s f).chan n = (f u n).chan n := by
  induction l generalizing s with
  | nil => cases hn
  | cons m l ih =>
    obtain ⟨hm, hl⟩ := List.nodup_cons.mp hl
    have hrest : ∀ l : List Ch, n ∉ l → ∀ s, (forEach l s f).chan n = s.chan n := fun l hnot => by
      induction l with
      | nil => exact fun _ => rfl
      | cons k l ih =>
        obtain ⟨hk, hnot⟩ := not_or.mp (List.mem_cons.not.mp hnot)
        exact fun s => (ih hnot (f s k)).trans (hf s k n hk)
    rcases List.mem_cons.mp hn with rfl | hn
    · exact ⟨s, rfl, hrest l hm (f s n)⟩
    · obtain ⟨u, hu, hlast⟩ := ih hl hn (f s m)
      exact ⟨u, hu.trans (hf s m n fun h => hm (h ▸ hn)), hlast⟩

section
variable {s : State}

/-! ### The end of a session -/

/-- What the end of a session takes from a channel that it held (R117). -/
def dropHeld (id : W16) (s : State) (n : Ch) : State :=
  let l := (s.chan n).lock
  if l.state == .held && l.kind == .host && l.session == id then revoke s n else s

theorem dropHeld_othersKept (id : W16) (s : State) (n : Ch) : OthersKept n s (dropHeld id s n) := by
  unfold dropHeld
  dsimp only
  split_ifs
  · exact revoke_othersKept s n
  · exact fun _ _ => rfl

theorem dropHeld_rop (id : W16) (s : State) (n : Ch) : (dropHeld id s n).rop = s.rop := by
  unfold dropHeld
  dsimp only
  split_ifs <;> simp

theorem dropHeld_of_held {id : W16} {n : Ch} (h : holds (s.chan n).lock (.host id) = true) : dropHeld id s n = revoke s n := if_pos h

/-- The state in which the end of a session takes its channels from it. -/
def slotFreed (s : State) (i : Fin 8) (how : Nat) : State :=
  raiseEvent (s.modSession i fun _ => {}) evMgmt 3 ((s.session i).id.toNat + 65536 * how)

theorem removeSession_of_open {i : Fin 8} (how : Nat) (h : (s.session i).id ≠ 0) :
    removeSession s i how = forEach allCh (slotFreed s i how) (dropHeld (s.session i).id) := by
  unfold removeSession
  dsimp only
  rw [if_neg (by simpa using h)]
  rfl

theorem removeSession_sessions {i : Fin 8} (how : Nat) (h : (s.session i).id ≠ 0) (j : Fin 8) :
    (removeSession s i how).session j = if j = i then {} else s.session j := by
  have hrop : (forEach allCh (slotFreed s i how) (dropHeld (s.session i).id)).rop = (slotFreed s i how).rop :=
    forEach_rop allCh _ (dropHeld_rop _) _
  rw [removeSession_of_open how h, session_congr (congrArg Rop.sessions hrop), slotFreed, session_raiseEvent,
    State.session_modSession_if]

/-- A session's end revokes every lock that it held (R117, R187). -/
theorem removeSession_locks {i : Fin 8} (how : Nat) (h : (s.session i).id ≠ 0) {n : Ch}
    (hn : holds (s.chan n).lock (.host (s.session i).id) = true) :
    ((removeSession s i how).chan n).lock.RevokedFrom (s.chan n).lock := by
  obtain ⟨u, hu, hlast⟩ := chan_forEach_own (dropHeld_othersKept (s.session i).id) nodup_allCh (mem_allCh n) (slotFreed s i how)
  have hsame : u.chan n = s.chan n := hu.trans (State.chan_congr (by simp [slotFreed]) n)
  have hheld := (congrArg (fun c => holds c.lock (.host (s.session i).id)) hsame).trans hn
  have hrevoked := revoke_lock u n
  rw [hsame] at hrevoked
  rw [removeSession_of_open how h, hlast, dropHeld_of_held hheld]
  exact hrevoked

/-! ### Naming a session -/

theorem slotOf_spec {sid : W16} {i : Fin 8} (h : slotOf s sid = some i) : sid ≠ 0 ∧ (s.session i).id = sid := by
  unfold slotOf at h
  split_ifs at h with hzero
  exact ⟨by simpa using hzero, by simpa using List.find?_some h⟩

theorem sessionCode_of_slot {sid : W16} {i : Fin 8} (h : slotOf s sid = some i) : sessionCode s sid = eOk := by
  have hz : (sid == 0) = false := beq_eq_false_iff_ne.mpr (slotOf_spec h).1
  simp only [sessionCode, hz, h, Bool.false_eq_true, if_false, Option.isSome_some, if_true]

theorem sessionCode_of_stale {sid : W16} (hz : sid ≠ 0) (h : slotOf s sid = none) : sessionCode s sid = eStaleEpoch := by
  have hz : (sid == 0) = false := beq_eq_false_iff_ne.mpr hz
  simp only [sessionCode, hz, h, Bool.false_eq_true, if_false, Option.isSome_none]

@[simp] theorem session_reply (s : State) (c ty : Byte) (e : W16) (d : List Byte) (j : Fin 8) :
    (s.reply c ty e d).session j = s.session j := rfl

/-- An opening without a free slot is answered E_BUSY and changes no session (R113, R132). -/
theorem openSession_of_full {timeout : W16} (hf : freeSession s = none) (hl : LegalTimeout timeout) (ip : Word) (port entry : W16) :
    openSession s ip port entry timeout.toNat = (s, eBusy, 0, soonestExpiry s) := by
  unfold openSession
  rw [legalTimeout_iff.2 hl]
  simp [hf]

theorem openSession_of_illegal {timeout : W16} (hl : ¬ LegalTimeout timeout) (ip : Word) (port entry : W16) :
    openSession s ip port entry timeout.toNat = (s, eRange, 0, 0) := by
  unfold openSession
  rw [if_pos (by simpa using mt legalTimeout_iff.1 hl)]

theorem exec_sessionOpen (hruns : s.coreRuns = true) (peer : Peer) (entry timeout : W16) :
    exec (.sessionOpen peer entry timeout) s =
      let x := openSession s peer.ip peer.port entry timeout.toNat
      .next { x.1.countBusy .rop x.2.1 with answer :=
        { code := x.2.1, ty := tU16, data := if x.2.1 == eOk then natBytes 2 x.2.2.1.toNat else [], retry := x.2.2.2 } } := by
  simp only [exec, execSessionOpen, hruns, if_true]

end

/-- Settles O42: an opening takes a free slot or none, and a session's end frees its slot and revokes what it held. -/
theorem sessionCommands : Obligations.SessionCommands := by
  unfold Obligations.SessionCommands
  refine ⟨fun s peer entry timeout i hruns hf hl => ?_, fun s peer entry timeout hruns hf hl => ?_,
    fun s peer entry timeout hruns hz hbad => ?_, fun s sid i hslot => ?_, fun s sid i hslot => ?_, fun s i hid => ?_,
    fun s sid hz hslot => ⟨⟨_, rfl, ?_, ?_⟩, _, rfl, ?_, ?_⟩, fun s => rfl⟩
  · intro ms
    have hopened (j : Fin 8) := session_openSession hf hl peer.ip peer.port entry j
    have hexec := exec_sessionOpen hruns peer entry timeout
    simp only [openSession_of_free hf hl] at hopened hexec
    rw [countBusy_of_ne (by decide)] at hexec
    have hi := (hopened i).trans (if_pos rfl)
    refine ⟨_, hexec, rfl, ?_, ?_, ?_, ?_, ?_, ?_, fun j hj => (hopened j).trans (if_neg hj), by simp⟩
    · exact congrArg (fun x : Session => natBytes 2 x.id.toNat) hi.symm
    · exact congrArg Session.ip hi
    · exact congrArg Session.port hi
    · exact congrArg Session.entry hi
    · exact congrArg Session.timeoutMs hi
    · exact congrArg Session.deadline hi
  · refine ⟨_, exec_sessionOpen hruns peer entry timeout, ?_⟩
    rw [openSession_of_full hf hl]
    exact ⟨rfl, rfl⟩
  · have hill : ¬ LegalTimeout timeout := by
      rintro (h | h)
      · exact hz h
      · omega
    refine ⟨_, exec_sessionOpen hruns peer entry timeout, ?_⟩
    rw [openSession_of_illegal hill]
    exact ⟨rfl, rfl⟩
  · obtain ⟨hz, hid⟩ := slotOf_spec hslot
    have hopen : (s.session i).id ≠ 0 := by rwa [hid]
    refine ⟨_, rfl, ?_, ?_, fun j hj => ?_, fun n hn => ?_⟩
    · rw [reply_answer, sessionCode_of_slot hslot]
    · simp [closeSession, hslot, removeSession_sessions 2 hopen]
    · simp [closeSession, hslot, removeSession_sessions 2 hopen, hj]
    · rw [reply_chan, closeSession, hslot]
      exact removeSession_locks 2 hopen (by rwa [hid])
  · refine ⟨_, rfl, ?_, ?_, fun j hj => ?_, ?_⟩
    · rw [reply_answer, sessionCode_of_slot hslot]
    · simp [touchSession, hslot]
    · simp [touchSession, hslot, hj]
    · simp [touchSession, hslot]
  · refine ⟨_, rfl, ?_, fun j hj => ?_⟩
    · rw [removeSession_sessions 3 hid, if_pos rfl]
    · rw [removeSession_sessions 3 hid, if_neg hj]
  · rw [reply_answer, sessionCode_of_stale hz hslot]
  · simp [closeSession, hslot, State.reply]
  · rw [reply_answer, sessionCode_of_stale hz hslot]
  · simp [touchSession, hslot, State.reply]

end Sys2Proof.Machine
end

section
/-! PROOFS. A register write under the protection unit (R15, R145): one of the application core that the TSF's check behind the
register refuses changes nothing, though no protection bars it (R340; log entry 107). -/

namespace Sys2Proof.Machine

/-- The register of LAC_ALPHA of channel 0, which R340 keeps for the owner of the channel. -/
def lacAlphaReg : Reg :=
  { wordReg false (objsLac 0 0 3) with guard := fun s => holds (s.chan 0).lock .loc }

/-- The address of that register. -/
def addrLacAlpha : Nat := 0x40005004

/-- The write of 0.5 by the application core. -/
def alphaHalf : Instr := .registerWrite .app addrLacAlpha 0x3F000000

theorem busRegAt_lacAlpha : busRegAt .app addrLacAlpha = some lacAlphaReg := rfl

/-- LAC_ALPHA of channel 0, in the outcome's state. -/
def alphaOf : Host.Outcome State Fault Refusal → Option Word
  | .next t => some (BitVec.ofNat 32 ((objsLac 0 0 3).map fun o => o.peek t).get!)
  | _ => none

/-- After reset nobody owns the channel, and the write is ignored. -/
theorem alphaOf_exec : alphaOf (exec alphaHalf State.reset) ≠ some 0x3F000000 := by
  decide

theorem alphaOf_put : alphaOf (.next (lacAlphaReg.put 0x3F000000 State.reset)) = some 0x3F000000 := by
  decide

/-- Refutes O8: not every write that the protection does not bar changes its register. After reset the application core's write
of LAC_ALPHA of a channel that it does not own is ignored (R340), where the statement has the register take it. -/
theorem not_busAccessStopsOutsideTheBlocks : ¬ Obligations.BusAccessStopsOutsideTheBlocks := by
  unfold Obligations.BusAccessStopsOutsideTheBlocks
  rintro ⟨-, -, hwrite, -⟩
  obtain ⟨hexec, -⟩ := hwrite State.reset .app addrLacAlpha 0x3F000000 lacAlphaReg busRegAt_lacAlpha rfl
    (by decide) (by decide)
  exact alphaOf_exec ((congrArg alphaOf hexec).trans alphaOf_put)

end Sys2Proof.Machine
end

section
/-! PROOFS. A capture's copy (R349) and the pool write port (R469): a record of the copy is written under the grant of its
requester alone. -/

namespace Sys2Proof.Machine

/-- The code that is left to copy. -/
def lastCode : CapCode := { code := 0, adcB := false, meter := false, refNr := false }

/-- A device with its clocks running whose capture of channel 0 has one code left to copy, while nobody holds the pool write
port. -/
def copyingUngranted : State :=
  ({ State.reset with clk := { pllLock := true }, hamper := { bulk := [.capture 0] } } : State).modCh 0 fun c =>
    { c with cap := { c.cap with state := .copying, codes := [lastCode] } }

theorem copyingUngranted_owner : copyingUngranted.pool.owner = none := rfl

/-- Without the grant HW_RECORD_WRITE writes nothing (R469). -/
theorem hwRecordWrite_of_noOwner {s : State} (h : s.pool.owner = none) (src : HwSource) :
    exec (.hwRecordWrite src) s = .next s := by
  simp [exec, execHwRecordWrite, h]

/-- Refutes O24: the record of a capture's copy is not written while its requester does not hold the pool write port, which the
statement does not ask for. -/
theorem not_captureCalibrationAndScans : ¬ Obligations.CaptureCalibrationAndScans := by
  unfold Obligations.CaptureCalibrationAndScans
  rintro ⟨⟨-, -, -, -, -, -, -, hcopy⟩, -⟩
  obtain ⟨t, hexec, hcap, -⟩ := hcopy copyingUngranted 0 lastCode [] rfl (by decide) rfl
  rw [hwRecordWrite_of_noOwner copyingUngranted_owner] at hexec
  cases hexec
  exact absurd (congrArg Capture.index hcap) (by decide)

end Sys2Proof.Machine
end

section
/-! PROOFS. RING_FREE (R420) of a ring with room reserved for a bundle: the room is given up with the ring (R467). -/

namespace Sys2Proof.Machine

/-- Ring 0 with a slot reserved for a bundle, and no hardware role bound to it any more. -/
def reservedRing : Ring := { num := 0, reserved := 1 }

/-- The device with that ring alone. -/
def ringReserved : State := { State.reset with hamper := { rings := [reservedRing] } }

/-- A request of the device's own core. -/
def byOwnCore : Req := { who := .loc, path := .mbx, epoch := none }

theorem admits_ringFree_reserved : objRingFree.Admits byOwnCore tU16 (natBytes 2 0) ringReserved := by
  decide

/-- The reservations of the rings in the outcome's state. -/
def reservedOf : Host.Outcome State Fault Refusal → List Nat
  | .next t => t.hamper.rings.map (·.reserved)
  | _ => []

theorem reservedOf_ringFree : reservedOf (exec (.ringFree byOwnCore 0) ringReserved) = [0] := by
  decide

/-- Refutes O28: a freed ring keeps no reservation for a bundle, where the statement has it stay with the ring. -/
theorem not_ringsAndHardwareRecords : ¬ Obligations.RingsAndHardwareRecords := by
  unfold Obligations.RingsAndHardwareRecords
  rintro ⟨⟨-, hfree, -⟩, -⟩
  obtain ⟨t, hexec, -, -, hmem, -⟩ := hfree ringReserved byOwnCore 0 reservedRing admits_ringFree_reserved rfl
  have hreserved := reservedOf_ringFree
  rw [hexec, reservedOf] at hreserved
  have hmem' : (1 : Nat) ∈ t.hamper.rings.map (·.reserved) := List.mem_map_of_mem hmem
  rw [hreserved] at hmem'
  exact absurd hmem' (by decide)

end Sys2Proof.Machine
end

section
/-! PROOFS. SRC_RESUME (R320) of a channel that holds its set-point while a second cause of a hold waits: the waiting cause is
given up together with the hold. -/

namespace Sys2Proof.Machine

/-- A device whose channel 0, owned by its own core, holds its set-point for one cause while another is due, neither of which has a
message open. -/
def heldTwice : State :=
  State.reset.modCh 0 fun c => { c with lock := { state := .held, kind := .loc }, hold := { c.hold with held := 1, due := 1 } }

/-- The owner of that channel. -/
def byOwner : Req := { who := .loc, path := .mbx, epoch := some 0 }

theorem admits_srcResume_heldTwice : (objSrcResume 0).Admits byOwner tU8 [1] heldTwice := by
  decide

/-- The cause of a hold that is due on channel 0, in the outcome's state. -/
def dueOf : Host.Outcome State Fault Refusal → Option Nat
  | .next t => some (t.chan 0).hold.due
  | _ => none

theorem dueOf_srcResume : dueOf (exec (.srcResume byOwner 0 1) heldTwice) = some 0 := by
  decide

/-- An admitted request that sets other fields of the hold alone keeps the cause that is due. -/
theorem dueOf_of_done {r : Req} {s : State} {f : Channel → Channel} {o : Host.Outcome State Fault Refusal}
    (h : Done r (s.modCh 0 f) o) (hf : (f (s.chan 0)).hold.due = (s.chan 0).hold.due) :
    dueOf o = some (s.chan 0).hold.due := by
  obtain ⟨t, rfl, -, ht⟩ := h
  have hchan : t.chan 0 = f (s.chan 0) := by
    rw [ht]
    exact (instructorCommand_chan ..).trans (State.chan_modCh ..)
  simp only [dueOf, hchan, hf]

/-- Refutes O22: SRC_RESUME also clears the cause that waits to hold the channel, where the statement has it asking for the
release of the hold alone. -/
theorem not_motionAndSupervision : ¬ Obligations.MotionAndSupervision := by
  unfold Obligations.MotionAndSupervision
  rintro ⟨-, -, -, -, hresume, -⟩
  have hdue := dueOf_of_done (hresume heldTwice byOwner 0 1 admits_srcResume_heldTwice (by decide)) rfl
  rw [dueOf_srcResume] at hdue
  exact absurd hdue (by decide)

end Sys2Proof.Machine
end

section
/-! PROOFS. The end of a prefetch fill (R549) while a release of the bus waits: the release leaves the flash's mode unknown
(R554). -/

namespace Sys2Proof.Machine

/-- A device with a fill on the bus, no grant noted any more, and a release that waits for the bus. -/
def releasingFill : State :=
  { State.reset with
    clk := { pllLock := true }, xip := { filling := some 0, cont := false }, fsp := { releaseDue := true } }

/-- The FSP takes the flash to be in continuous read, in the outcome's state. -/
def contReadOf : Host.Outcome State Fault Refusal → Option Bool
  | .next t => some t.fsp.contRead
  | _ => none

theorem contReadOf_fillComplete : contReadOf (exec .xipFillComplete releasingFill) = some true := by
  decide

/-- Refutes O38: the fill's end carries out a release that is due, behind which the flash may be in continuous read whatever the
fill's own mode was. -/
theorem not_flashAccessAndBusMaster : ¬ Obligations.FlashAccessAndBusMaster := by
  unfold Obligations.FlashAccessAndBusMaster
  rintro ⟨⟨-, -, hfill, -⟩, -⟩
  obtain ⟨t, hexec, -, -, -, -, -, hcont⟩ := hfill releasingFill 0 rfl rfl rfl
  have h := contReadOf_fillComplete
  rw [hexec, contReadOf, hcont] at h
  exact absurd h (by decide)

end Sys2Proof.Machine
end

section
/-! PROOFS. The timeout of a forwarded transaction (R122 to R125) frees its transmit slot for a datagram that waits for one (R522):
where that datagram has no route, the transaction that it belongs to is answered in the same command (R500, R524). -/

namespace Sys2Proof.Machine

/-- The host of both transactions. -/
def someHost : Peer := ⟨1, 1⟩

/-- A transaction forwarded for session k under a tag. -/
def forwardedAs (k tag : W16) : Forwarded :=
  { session := k, seq := 1, dest := 5, timeout := 0, peer := someHost, tag := tag, deadline := 0 }

/-- A transmit slot of a request to node 5 with a tag, for this unit as the entry unit, node 7. -/
def slotTo (tag : W16) (state : Nat) : TxSlot := { d0 := 5, d1 := tag.setWidth 32, d3 := 0x70000, state := state }

/-- An enumerated unit without a route to node 5, whose four transmit slots are sending; the first holds the request of session 1,
and that of session 2 waits for a slot. -/
def slotsBusy : State :=
  { State.reset with
    dev := { state := .run }
    clk := { pllLock := true }
    eth := { macAddr := 1, ip := 1, refOut := false }
    rop := { forwarded := [forwardedAs 1 10, forwardedAs 2 11] }
    ronko := {
      node := { id := some 7, enum := .ready }
      tun := { tx := #v[slotTo 10 1, slotTo 12 1, slotTo 13 1, slotTo 14 1], waiting := [(slotTo 11 0, [])] } } }

/-- The sessions of the transactions that are still forwarded, in the outcome's state. -/
def forwardedOf : Host.Outcome State Fault Refusal → List W16
  | .next t => t.rop.forwarded.map (·.session)
  | _ => []

/-- The timeout of session 1's transaction ends that of session 2 too. -/
theorem forwardedOf_timeout : forwardedOf (exec (.transactionTimeout 1 1) slotsBusy) = [] := by
  decide

/-- Refutes O44: a transaction's timeout may end another forwarded transaction, whose waiting request takes the freed slot and finds
no route, where the statement has the timed-out transaction alone erased. -/
theorem not_datagramCommands : ¬ Obligations.DatagramCommands := by
  unfold Obligations.DatagramCommands
  rintro ⟨-, -, -, -, -, -, -, -, -, -, -, -, -, -, -, -, htimeout, -⟩
  obtain ⟨t, hexec, herased, -⟩ := htimeout slotsBusy 1 1 (forwardedAs 1 10) (by decide) (by decide) (by decide)
  have h := forwardedOf_timeout
  rw [hexec, forwardedOf, herased] at h
  exact absurd h (by decide)

end Sys2Proof.Machine
end

section
/-! PROOFS. The rings of Hamper (R417 to R443): what a ring's number finds after a ring was put in its place, what storing and
removing leave, and the turns at the pool write port while nobody else requests it (R462, R469). -/

namespace Sys2Proof.Machine

/-! ### A ring in its place -/

theorem Hamper.ring_spec {h : Hamper} {k : Nat} {r : Ring} (e : h.ring k = some r) : r.num = k ∧ r.enabled = true := by
  have := List.find?_some e
  simpa using this

/-- A ring put among others is the one that its number finds. -/
theorem find_putRing_self (x : Ring) (hx : x.enabled = true) (l : List Ring) :
    (putRing x l).find? (fun r => r.num == x.num && r.enabled) = some x := by
  induction l with
  | nil => simp [putRing, hx]
  | cons y ys ih =>
    unfold putRing
    by_cases h1 : (y.num == x.num) = true
    · simp [h1, hx]
    · by_cases h2 : x.num < y.num
      · simp [h1, h2, hx]
      · simp [h1, h2, ih]

/-- A ring put among others leaves what the other numbers find. -/
theorem find_putRing_ne (x : Ring) {k : Nat} (hk : k ≠ x.num) (l : List Ring) :
    (putRing x l).find? (fun r => r.num == k && r.enabled) = l.find? fun r => r.num == k && r.enabled := by
  have hx : (x.num == k) = false := by simpa using Ne.symm hk
  induction l with
  | nil => simp [putRing, hx]
  | cons y ys ih =>
    unfold putRing
    by_cases h1 : (y.num == x.num) = true
    · have hy : (y.num == k) = false := by rw [beq_iff_eq] at h1; rw [h1, hx]
      simp [h1, hx, hy]
    · by_cases h2 : x.num < y.num
      · simp [h1, h2, hx]
      · simp only [h1, h2, Bool.false_eq_true, if_false, List.find?_cons, ih]

@[simp] theorem Hamper.ring_settle (h' h : Hamper) (k : Nat) : (h'.settle h).ring k = h'.ring k := rfl

theorem Hamper.ring_setRing_self (h : Hamper) {x : Ring} (hx : x.enabled = true) : (h.setRing x).ring x.num = some x :=
  find_putRing_self x hx h.rings

theorem Hamper.ring_setRing_ne (h : Hamper) (x : Ring) {k : Nat} (hk : k ≠ x.num) : (h.setRing x).ring k = h.ring k :=
  find_putRing_ne x hk h.rings

@[simp] theorem State.setRing_hamper (s : State) (x : Ring) : (s.setRing x).hamper = s.hamper.setRing x := rfl

@[simp] theorem Hamper.portOf_setRing (h : Hamper) (x : Ring) (m : Master) : (h.setRing x).portOf m = h.portOf m := by
  cases m <;> rfl

/-! ### The registers of a core -/

theorem portOf_modRingPort (s : State) (m : Master) (f : RingPort → RingPort) :
    (s.modRingPort m f).hamper.portOf m = f (s.hamper.portOf m) := by
  cases m <;> rfl

theorem portOf_modRingPort_ne {m m' : Master} (s : State) (f : RingPort → RingPort) (h : m' ≠ m) :
    (s.modRingPort m f).hamper.portOf m' = s.hamper.portOf m' :=
  match m, m', h with
  | .app, .sup, _ => rfl
  | .sup, .app, _ => rfl

@[simp] theorem modRingPort_ring (s : State) (m : Master) (f : RingPort → RingPort) (k : Nat) :
    (s.modRingPort m f).hamper.ring k = s.hamper.ring k := by
  cases m <;> rfl

/-! ### Storing where there is room -/

theorem checkDesc_of_noTest {s : State} (h : s.badger.testActive = false) (num : Nat) : checkDesc s num = s := by
  simp [checkDesc, h]

theorem faultBits_of_noTest {b : Badger} (h : b.testActive = false) (num : Nat) (x : Rec) : faultBits b num x = x := by
  have hnone : b.injections.find? (fun j => b.testActive && j.target == 2 && j.arg == num && j.value != 0) = none :=
    List.find?_eq_none.mpr fun j _ => by simp [h]
  rw [faultBits, hnone]

theorem faultFirst_of_noTest {b : Badger} (h : b.testActive = false) (num : Nat) (xs : List Rec) : faultFirst b num xs = xs := by
  induction xs with
  | nil => rfl
  | cons x rest ih => rw [faultFirst, faultBits_of_noTest h, ih, ite_self]

/-- The ring behind which slots were appended. -/
def Ring.appended (r : Ring) (xs : List Rec) : Ring :=
  { r.hold (r.pagesFor xs.length) with
    recs := r.recs ++ xs
    lossArmed := true
    wmArmed := r.wmArmed && !(r.wmArmed && r.highWm != 0 && decide (r.count < r.highWm)
      && decide (r.highWm ≤ (r.recs ++ xs).length)) }

@[simp] theorem Ring.appended_num (r : Ring) (xs : List Rec) : (r.appended xs).num = r.num := rfl
@[simp] theorem Ring.appended_enabled (r : Ring) (xs : List Rec) : (r.appended xs).enabled = r.enabled := rfl
@[simp] theorem Ring.appended_recs (r : Ring) (xs : List Rec) : (r.appended xs).recs = r.recs ++ xs := rfl

theorem raiseEvent_hamper (s : State) (line : Fin 4) (cause detail : Nat) :
    (raiseEvent s line cause detail).hamper = s.hamper ∧ (raiseEvent s line cause detail).badger = s.badger := by
  simp

theorem appendSlots_hamper {s : State} (h : s.badger.testActive = false) (r : Ring) (xs : List Rec) :
    (appendSlots s r xs).hamper = s.hamper.setRing (r.appended xs) := by
  unfold appendSlots
  simp only [faultFirst_of_noTest h]
  simp [Ring.appended]

theorem appendSlots_testActive (s : State) (r : Ring) (xs : List Rec) :
    (appendSlots s r xs).badger.testActive = s.badger.testActive := by
  unfold appendSlots
  extract_lets xs' recs rises held r' stored flipped told
  have hflipped : flipped.badger.testActive = s.badger.testActive := by
    simp only [flipped]
    split <;> rfl
  have htold : told.badger = flipped.badger := by
    simp only [told]
    split
    · exact (raiseEvent_hamper ..).2
    · rfl
  rw [ite_badger, ite_self, htold, hflipped]

/-- The slots that a record or bundle takes in a ring without a pending loss. -/
theorem storeNow_of_noLoss {r : Ring} (h : r.pendLoss = 0) (s : State) (recs : List (List Byte)) :
    storeNow s r recs = appendSlots s r (bundleRecs recs) := if_pos h

theorem slotsFor_of_noLoss {r : Ring} (h : r.pendLoss = 0) (recs : List (List Byte)) : r.slotsFor recs = recs.length := by
  simp [Ring.slotsFor, h, bNat]

theorem putRecords_of_fits {s : State} {r : Ring} {recs : List (List Byte)} (h : s.hamper.fits r (r.slotsFor recs) = true) :
    putRecords s r recs = (storeNow s r recs, .stored) := by
  simp [putRecords, makeFit, h]

theorem bundleRecs_bytes (recs : List (List Byte)) : (bundleRecs recs).map (·.bytes) = recs := by
  unfold bundleRecs
  rw [List.map_map]
  exact (List.map_congr_left fun _ _ => rfl).trans (List.zipIdx_map_fst 0 recs)

/-! ### The pool write port while nobody else requests it -/

theorem poolRequesting_eq_nil {s : State} : poolRequesting s [] = [] ↔ ∀ q < s.pool.reqs.length, poolRequests s q = false := by
  constructor
  · intro h q hq
    have hmem : (q, s.pool.reqs[q]) ∈ s.pool.reqs.zipIdx.map fun (r, q) => (q, r) :=
      List.mem_map.mpr ⟨(s.pool.reqs[q], q), List.mk_mem_zipIdx_iff_getElem?.mpr (List.getElem?_eq_getElem hq), rfl⟩
    simpa using List.filter_eq_nil_iff.mp h _ hmem
  · intro h
    refine List.filter_eq_nil_iff.mpr fun x hx => ?_
    obtain ⟨⟨r, q⟩, hq, rfl⟩ := List.mem_map.mp hx
    have hlt := (List.getElem?_eq_some_iff.mp (List.mk_mem_zipIdx_iff_getElem?.mp hq)).1
    simp [h q hlt]

theorem foldl_pick_mem (parked : Option Nat) (xs : List (Nat × Requesting)) (best : Option (Nat × Requesting)) {y : Nat × Requesting}
    (h : xs.foldl (fun best x => match best with
      | none => some x
      | some b => if goesFirst parked x b then some x else some b) best = some y) : y ∈ xs ∨ best = some y := by
  induction xs generalizing best with
  | nil => exact Or.inr h
  | cons x xs ih =>
    rcases ih _ h with hmem | hbest
    · exact Or.inl (List.mem_cons_of_mem _ hmem)
    · cases best with
      | none => cases hbest; exact Or.inl List.mem_cons_self
      | some b =>
        simp only at hbest
        split at hbest
        · cases hbest; exact Or.inl List.mem_cons_self
        · exact Or.inr hbest

/-- The winner is one of the requesters. -/
theorem pick_mem {parked : Option Nat} {xs : List (Nat × Requesting)} {y : Nat × Requesting} (h : pick parked xs = some y) : y ∈ xs := by
  rcases foldl_pick_mem parked xs none h with hmem | hnone
  · exact hmem
  · cases hnone

/-- A requester that is alone at the port has its turn at once. -/
theorem portTurn_of_quiet {s : State} (h : poolRequesting s [] = []) (q n : Nat) : portTurn q n s = s := by
  cases n with
  | zero => rfl
  | succ n =>
    unfold portTurn
    cases hpick : pick s.pool.parked (poolRequesting s [q]) with
    | none => rfl
    | some x =>
      obtain ⟨hmem, hreq⟩ := List.mem_filter.mp (pick_mem hpick)
      obtain ⟨⟨r, w⟩, hw, rfl⟩ := List.mem_map.mp hmem
      have hlt := (List.getElem?_eq_some_iff.mp (List.mk_mem_zipIdx_iff_getElem?.mp hw)).1
      have hwq : w = q := by simpa [poolRequesting_eq_nil.mp h w hlt] using hreq
      exact if_pos hwq

/-- Nothing but the port and the free values differs between two states. -/
def PortOnly (s t : State) : Prop := t = { s with pool := t.pool, free := t.free }

theorem PortOnly.refl (s : State) : PortOnly s s := rfl

theorem PortOnly.trans {s t u : State} (h : PortOnly s t) (k : PortOnly t u) : PortOnly s u := by
  unfold PortOnly at *
  rw [k, h]

theorem PortOnly.hamper {s t : State} (h : PortOnly s t) : t.hamper = s.hamper := by rw [h]

theorem PortOnly.ch {s t : State} (h : PortOnly s t) : t.ch = s.ch := by rw [h]

/-- What the requesters of the port ask for does not depend on the port. -/
theorem PortOnly.poolRequests {s t : State} (h : PortOnly s t) (q : Nat) : poolRequests t q = poolRequests s q := by
  rw [h]
  rfl

theorem Arb.grant_reqs_length (a : Arb) (pool : Bool) (q cost : Nat) (others : List Nat) :
    (a.grant pool q cost others).reqs.length = a.reqs.length := by
  simp [Arb.grant, Arb.modReq]

theorem Arb.endGrant_pool (a : Arb) (atEnd : List Nat) (free : Nat) :
    (a.endGrant true atEnd free).owner = none ∧ (a.endGrant true atEnd free).reqs.length = a.reqs.length := by
  simp [Arb.endGrant]

/-- A grant for a requester that is alone at the port passes and leaves the port as quiet. -/
theorem portGrant_of_quiet {s : State} (h : PortQuiet s) (q cost : Nat) :
    PortOnly s (portGrant q cost s) ∧ PortQuiet (portGrant q cost s) := by
  obtain ⟨howner, hquiet⟩ := h
  have hfinish : finishPort s [q] = s := by rw [finishPort, howner]
  have hgranted : portGrant q cost s = (grantPort s q cost [q]).endGrant .pool ((poolRequesting (grantPort s q cost [q]) []).map (·.1)) := by
    unfold portGrant
    rw [hfinish, portTurn_of_quiet hquiet]
  have hends : portGrant q cost s = { s with
      pool := ((grantPort s q cost [q]).pool).endGrant true ((poolRequesting (grantPort s q cost [q]) []).map (·.1)) s.free
      free := s.free + (grantPort s q cost [q]).pool.reqs.length } := hgranted
  have honly : PortOnly s (portGrant q cost s) := by rw [hends]; rfl
  have hends' := Arb.endGrant_pool (grantPort s q cost [q]).pool ((poolRequesting (grantPort s q cost [q]) []).map (·.1)) s.free
  refine ⟨honly, by rw [hends]; exact hends'.1, poolRequesting_eq_nil.mpr fun k hk => ?_⟩
  rw [honly.poolRequests]
  refine poolRequesting_eq_nil.mp hquiet k ?_
  rw [hends] at hk
  exact hk.trans_eq (hends'.2.trans (Arb.grant_reqs_length ..))

theorem forEach_portGrant_of_quiet {α : Type} {s : State} (h : PortQuiet s) (q : Nat) (l : List α) :
    PortOnly s (forEach l s fun s _ => portGrant q 1 s) := by
  induction l generalizing s with
  | nil => exact .refl s
  | cons x l ih =>
    obtain ⟨honly, hquiet⟩ := portGrant_of_quiet h q 1
    exact honly.trans (ih hquiet)

/-- The grants of a bundle's other records pass. -/
theorem portRest_of_quiet {s : State} (h : PortQuiet s) (q k : Nat) : PortOnly s (portRest q k s) :=
  forEach_portGrant_of_quiet h q _

/-! ### Storing leaves the port quiet -/

/-- A ring that takes the place of the one its number found holds no fewer pages than that: the pool has none more. -/
theorem pagesHeld_putRing {r r' : Ring} (hnum : r'.num = r.num) (hen : r'.enabled = true) (hp : r.pagesHeld ≤ r'.pagesHeld)
    (l : List Ring) (hf : l.find? (fun x => x.num == r.num && x.enabled) = some r) :
    ((l.filter (·.enabled)).map (·.pagesHeld)).sum ≤ (((putRing r' l).filter (·.enabled)).map (·.pagesHeld)).sum := by
  induction l with
  | nil => cases hf
  | cons y ys ih =>
    unfold putRing
    by_cases hy : (y.num == r'.num) = true
    · rw [if_pos hy, List.filter_cons_of_pos hen]
      rw [beq_iff_eq, hnum] at hy
      by_cases hye : y.enabled = true
      · have hyr : y = r := by simpa [List.find?_cons, hy, hye] using hf
        simp [hyr, hyr ▸ hye, hp]
      · simp [hye]
    · rw [if_neg hy]
      by_cases hlt : r'.num < y.num
      · rw [if_pos hlt, List.filter_cons_of_pos hen]
        simp
      · have hf' : ys.find? (fun x => x.num == r.num && x.enabled) = some r := by
          rw [hnum] at hy
          simpa [List.find?_cons, hy] using hf
        have hrest := ih hf'
        rw [if_neg hlt]
        by_cases hye : y.enabled = true <;> simp [hye, hrest]

theorem poolFree_setRing_le {h : Hamper} {r r' : Ring} (hr : h.ring r.num = some r) (hnum : r'.num = r.num)
    (hen : r'.enabled = true) (hp : r.pagesHeld ≤ r'.pagesHeld) : (h.setRing r').poolFree ≤ h.poolFree := by
  have hpages : h.pagesUsed ≤ (h.setRing r').pagesUsed := pagesHeld_putRing hnum hen hp h.rings hr
  have hready : (h.setRing r').ready = h.ready := rfl
  unfold Hamper.poolFree
  rw [hready]
  split <;> omega

theorem fits_of_poolFree_le {h h' : Hamper} (hle : h'.poolFree ≤ h.poolFree) {r : Ring} {k : Nat} (hfits : h'.fits r k = true) :
    h.fits r k = true := by
  simp only [Hamper.fits, Bool.and_eq_true, decide_eq_true_eq] at hfits ⊢
  exact ⟨hfits.1, hfits.2.trans hle⟩

/-- The source that a requester presents hangs on the staging buffers, on BULK's order and on the captures. -/
theorem headSource_congr {s t : State} (hst : t.hamper.staging = s.hamper.staging) (hb : t.hamper.bulk = s.hamper.bulk)
    (hch : t.ch = s.ch) (q : Nat) : headSource t q = headSource s q := by
  have hhas : bulkHas t = bulkHas s := by
    funext src
    cases src <;> simp [bulkHas, State.chan, hch, hst]
  simp [headSource, hst, hb, hhas]

/-- A ring of another producer than the FSP that grew leaves the port quiet. -/
theorem PortQuiet.of_setRing {s t : State} (h : PortQuiet s) {r r' : Ring} (hr : s.hamper.ring r.num = some r)
    (hnum : r'.num = r.num) (hen : r'.enabled = true) (hp : r.pagesHeld ≤ r'.pagesHeld) (hfsp : r'.producer ≠ roleFsp)
    (hpool : t.pool = s.pool) (hch : t.ch = s.ch) (hf : t.fsp = s.fsp) (hh : t.hamper = s.hamper.setRing r') : PortQuiet t := by
  obtain ⟨howner, hquiet⟩ := h
  refine ⟨hpool ▸ howner, poolRequesting_eq_nil.mpr fun q hq => ?_⟩
  have hno := poolRequesting_eq_nil.mp hquiet q (hpool ▸ hq)
  simp only [poolRequests, Bool.or_eq_false_iff] at hno ⊢
  refine ⟨by rw [headSource_congr (by rw [hh]; rfl) (by rw [hh]; rfl) hch]; exact hno.1, ?_⟩
  have hkept : (keptResponse t).isSome = true → (keptResponse s).isSome = true := by
    unfold keptResponse
    rw [hf, hh]
    by_cases hemp : s.fsp.response.isEmpty = true
    · simp [hemp]
    · by_cases hk : s.fsp.respRing = r'.num
      · rw [hk, Hamper.ring_setRing_self _ hen]
        simp [hemp, hfsp]
      · rw [Hamper.ring_setRing_ne _ _ hk]
        cases s.hamper.ring s.fsp.respRing with
        | none => simp [hemp]
        | some x =>
          by_cases hfits : (s.hamper.setRing r').fits x (x.slotsFor s.fsp.response) = true
          · have := fits_of_poolFree_le (poolFree_setRing_le hr hnum hen hp) hfits
            simp [hemp, hfits, this]
          · simp [hemp, hfits]
  cases ht : (keptResponse t).isSome with
  | false => exact Bool.and_false _
  | true => simpa [hkept ht] using hno.2

theorem PortQuiet.storeNow {s : State} (h : PortQuiet s) (htest : s.badger.testActive = false) {r : Ring}
    (hr : s.hamper.ring r.num = some r) (hfsp : r.producer ≠ roleFsp) (hloss : r.pendLoss = 0) (recs : List (List Byte)) :
    PortQuiet (storeNow s r recs) := by
  rw [storeNow_of_noLoss hloss]
  exact h.of_setRing (r' := r.appended (bundleRecs recs)) hr rfl (Hamper.ring_spec hr).2 (Nat.le_max_left ..) hfsp (by simp) (by simp) (by simp)
    (appendSlots_hamper htest r _)

end Sys2Proof.Machine
end

section
/-! PROOFS. What a core pushes and what a core pops (R418, R422, R438, R439). -/

namespace Sys2Proof.Machine

/-! ### Words and their bytes (R12) -/

theorem be32_toNat (a b c d : Byte) : (be32 a b c d).toNat = ((a.toNat * 256 + b.toNat) * 256 + c.toNat) * 256 + d.toNat := by
  have := a.isLt; have := b.isLt; have := c.isLt; have := d.isLt
  simp only [be32, BitVec.toNat_append]
  rw [← Nat.shiftLeft_add_eq_or_of_lt (by omega), ← Nat.shiftLeft_add_eq_or_of_lt (by omega),
    ← Nat.shiftLeft_add_eq_or_of_lt (by omega)]
  simp only [Nat.shiftLeft_eq]

theorem natBytes_be32 (a b c d : Byte) : natBytes 4 (be32 a b c d).toNat = [a, b, c, d] := by
  have := a.isLt; have := b.isLt; have := c.isLt; have := d.isLt
  simp only [natBytes, be32_toNat, List.cons.injEq, and_true]
  refine ⟨?_, ?_, ?_, ?_⟩ <;> exact BitVec.eq_of_toNat_eq (by rw [BitVec.toNat_ofNat]; omega)

theorem be32_natBytes {w : Word} {a b c d : Byte} (h : natBytes 4 w.toNat = [a, b, c, d]) : be32 a b c d = w := by
  refine BitVec.eq_of_toNat_eq ?_
  have hw := beNat_natBytes 4 w.toNat
  have hbytes := beNat_natBytes 4 (be32 a b c d).toNat
  rw [natBytes_be32, ← h, hw] at hbytes
  have := w.isLt
  have := (be32 a b c d).isLt
  omega

/-- Groups of four bytes are cut as they were put together. -/
theorem beWords_flatMap {f : Word → List Byte} {g : Word → Word}
    (h : ∀ w, ∃ a b c d, f w = [a, b, c, d] ∧ be32 a b c d = g w) (ws : List Word) : beWords (ws.flatMap f) = ws.map g := by
  induction ws with
  | nil => rfl
  | cons w ws ih =>
    obtain ⟨a, b, c, d, hf, hg⟩ := h w
    rw [List.flatMap_cons, hf, List.map_cons, ← hg, ← ih]
    rfl

theorem natBytes_four (n : Nat) : ∃ a b c d, natBytes 4 n = [a, b, c, d] := ⟨_, _, _, _, rfl⟩

/-- A word with its bytes in the opposite order. -/
def swapBytes (w : Word) : Word := BitVec.ofNat 32 (beNat (natBytes 4 w.toNat).reverse)

theorem swapped_of_natBytes {w : Word} {a b c d : Byte} (h : natBytes 4 w.toNat = [a, b, c, d]) : swapBytes w = be32 d c b a := by
  refine BitVec.eq_of_toNat_eq ?_
  have := a.isLt; have := b.isLt; have := c.isLt; have := d.isLt
  simp only [swapBytes, h, be32_toNat, List.reverse_cons, List.reverse_nil, List.nil_append, List.cons_append, beNat,
    List.length_cons, List.length_nil, BitVec.toNat_ofNat]
  omega

theorem swapped_swapped (w : Word) : swapBytes (swapBytes w) = w := by
  obtain ⟨a, b, c, d, h⟩ := natBytes_four w.toNat
  rw [swapped_of_natBytes h, swapped_of_natBytes (natBytes_be32 d c b a), be32_natBytes h]

/-- The words of a record are those of which its bytes were made. -/
theorem recWords_wireBytes (byteRecs : Bool) (ws : List Word) : recWords byteRecs (wireBytes byteRecs ws) = ws := by
  cases byteRecs with
  | false =>
    refine (beWords_flatMap (g := id) (fun w => ?_) ws).trans (List.map_id ws)
    obtain ⟨a, b, c, d, h⟩ := natBytes_four w.toNat
    exact ⟨a, b, c, d, h, be32_natBytes h⟩
  | true =>
    have hcut : beWords (wireBytes true ws) = ws.map swapBytes := beWords_flatMap (fun w => by
      obtain ⟨a, b, c, d, h⟩ := natBytes_four w.toNat
      exact ⟨d, c, b, a, by rw [h]; rfl, (swapped_of_natBytes h).symm⟩) ws
    change (beWords (wireBytes true ws)).map swapBytes = ws
    rw [hcut, List.map_map]
    exact (List.map_congr_left fun w _ => swapped_swapped w).trans (List.map_id ws)

/-! ### A push -/

/-- What a push with GO leaves in the registers of its core, where it stored its record. -/
def RingPort.pushed (p : RingPort) (asHost : Bool) : RingPort :=
  { p with pushCont := false, pushAsHost := asHost, pushResult := 0, bundle := [] }

section
variable {s : State} {m : Master} {r : Ring} {recs : List (List Byte)}

/-- The records of a core are stored in a ring that has room for them, after the core's turn at the pool write port. -/
def corePut (m : Master) (s : State) (r : Ring) (recs : List (List Byte)) : State :=
  match m with
  | .sup => storeNow s r recs
  | .app => portRest reqApp recs.length (storeNow (portGrant reqApp (if r.pendLoss = 0 then 1 else 2) s) r recs)

/-- What storing the records of a core leaves. -/
structure StoredBy (s t : State) (r : Ring) (recs : List (List Byte)) : Prop where
  hamper : t.hamper = s.hamper.setRing (r.appended (bundleRecs recs))
  test : t.badger.testActive = false
  ch : t.ch = s.ch
  clk : t.clk = s.clk

theorem storeNow_storedBy (htest : s.badger.testActive = false) (hloss : r.pendLoss = 0) (recs : List (List Byte)) :
    StoredBy s (storeNow s r recs) r recs := by
  rw [storeNow_of_noLoss hloss]
  exact ⟨appendSlots_hamper htest r _, (appendSlots_testActive ..).trans htest, by simp, by simp⟩

theorem StoredBy.of_portOnly {s u t v : State} (hsu : PortOnly s u) (h : StoredBy u t r recs) (htv : PortOnly t v) :
    StoredBy s v r recs where
  hamper := by rw [htv.hamper, h.hamper, hsu.hamper]
  test := by rw [htv]; exact h.test
  ch := by rw [htv.ch, h.ch, hsu.ch]
  clk := by rw [htv, ← show u.clk = s.clk by rw [hsu]]; exact h.clk

theorem corePut_storedBy (htest : s.badger.testActive = false) (hring : s.hamper.ring r.num = some r) (hloss : r.pendLoss = 0)
    (hfsp : r.producer ≠ roleFsp) (hquiet : PortQuiet s ∨ m = .sup) (recs : List (List Byte)) :
    StoredBy s (corePut m s r recs) r recs := by
  cases m with
  | sup => exact storeNow_storedBy htest hloss recs
  | app =>
    have hquiet : PortQuiet s := hquiet.resolve_right nofun
    obtain ⟨honly, hstill⟩ := portGrant_of_quiet hquiet reqApp (if r.pendLoss = 0 then 1 else 2)
    have htest' : (portGrant reqApp (if r.pendLoss = 0 then 1 else 2) s).badger.testActive = false := by rw [honly]; exact htest
    have hstored := hstill.storeNow htest' (by rw [honly.hamper]; exact hring) hfsp hloss recs
    exact (storeNow_storedBy htest' hloss recs).of_portOnly honly (portRest_of_quiet hstored _ _)

/-- A push with GO of the last record of a bundle, into a ring of its core that has room for the whole bundle (R426, R432). -/
theorem exec_ringPush_stores {w : Word} (hclk : s.clk.pllLock = true) (hgo : w.getLsbD 0 = true) (hlast : w.getLsbD 1 = false)
    (htest : s.badger.testActive = false) (hring : s.hamper.ring (s.hamper.portOf m).pushRing = some r)
    (hprod : r.producer = coreRole (w.getLsbD 2)) (hlen : (s.hamper.portOf m).bundle.length < 64) (hloss : r.pendLoss = 0)
    (hfits : s.hamper.fits r ((s.hamper.portOf m).bundle.length + 1) = true) (hquiet : PortQuiet s ∨ m = .sup) :
    exec (.ringPush m w) s = .next ((corePut m s r ((s.hamper.portOf m).bundle
      ++ [wireBytes r.byteRecs ((s.hamper.portOf m).pushData.toList.take (r.recSize / 4))])).modRingPort m
        fun p => p.pushed (w.getLsbD 2)) := by
  have hnum := (Hamper.ring_spec hring).1
  have hslots : ∀ recs : List (List Byte), recs.length = (s.hamper.portOf m).bundle.length + 1 →
      s.hamper.fits r (r.slotsFor recs) = true := fun recs h => by rw [slotsFor_of_noLoss hloss, h]; exact hfits
  have hring' : s.hamper.ring r.num = some r := hnum ▸ hring
  have hput : ∀ (u : State) (x : List Byte), u.hamper = s.hamper →
      putRecords u r ((s.hamper.portOf m).bundle ++ [x]) = (storeNow u r ((s.hamper.portOf m).bundle ++ [x]), .stored) := fun u x hu =>
    putRecords_of_fits (by rw [hu]; exact hslots _ List.length_append)
  have hback : ¬ (64 ≤ (s.hamper.portOf m).bundle.length) := by omega
  change Host.Outcome.next _ = Host.Outcome.next _
  congr 1
  simp only [State.clocksRun, hclk, hgo, Bool.not_true, Bool.false_eq_true, if_false, if_true]
  unfold pushGo
  simp only [checkDesc_of_noTest htest, hring, hprod, hlast, hback, bne_self_eq_false, decide_false, Bool.or_false,
    Bool.false_eq_true, if_false]
  cases m with
  | sup =>
    simp only [show (Master.sup == Master.app) = false from rfl, Bool.false_eq_true, if_false, hring',
      hput s _ rfl, putCode, corePut, RingPort.pushed]
  | app =>
    have hgrant := (portGrant_of_quiet (hquiet.resolve_right nofun) reqApp (if r.pendLoss = 0 then 1 else 2)).1.hamper
    simp only [BEq.rfl, if_true, hgrant, hring', hput _ _ hgrant, putCode, corePut, RingPort.pushed,
      List.length_append, List.length_singleton]

end

/-- What a pop with GO shows of a whole record at the head of a ring (R438, R439). -/
theorem exec_ringPop_shows {s : State} {m : Master} {w : Word} {r : Ring} {x : Rec} {rest : List Rec} (hclk : s.clk.pllLock = true)
    (hgo : w.getLsbD 0 = true) (htest : s.badger.testActive = false) (hring : s.hamper.ring (s.hamper.portOf m).popRing = some r)
    (hcons : r.consumer = coreRole (w.getLsbD 1)) (hrecs : r.recs = x :: rest) (hgap : r.headGap = 0) (hbad : x.bad = false)
    (hmark : x.mark = false) : ∃ u, exec (.ringPop m w) s = .next u ∧ (u.hamper.portOf m).popValid = true
      ∧ (u.hamper.portOf m).popData = eightWords (recWords r.byteRecs x.bytes) := by
  refine ⟨_, rfl, ?_⟩
  simp only [State.clocksRun, hclk, hgo, Bool.not_true, Bool.false_eq_true, if_false, if_true]
  unfold popGo
  simp only [checkDesc_of_noTest htest, hring, hcons, bne_self_eq_false, Bool.false_eq_true, if_false]
  have hhead : popHead s r = ((eccRead s x).setRing r.freeHead, .record { x with soft := false }) := by
    simp [popHead, hgap, hrecs, hmark, hbad]
  rw [hhead]
  simp only [portOf_modRingPort, and_self]

theorem eightWords_toList (v : Vector Word 8) : eightWords v.toList = v := by
  refine Vector.ext fun i hi => ?_
  simp [eightWords]

theorem modRingPort_pushed_popRing (s : State) (m m' : Master) (b : Bool) :
    ((s.modRingPort m fun p => p.pushed b).hamper.portOf m').popRing = (s.hamper.portOf m').popRing := by
  cases m <;> cases m' <;> rfl

theorem modRingPort_clk (s : State) (m : Master) (f : RingPort → RingPort) : (s.modRingPort m f).clk = s.clk := by
  cases m <;> rfl

theorem modRingPort_badger (s : State) (m : Master) (f : RingPort → RingPort) : (s.modRingPort m f).badger = s.badger := by
  cases m <;> rfl

/-- Settles O30: the record is stored as the bytes of the pushed words, and the pop shows the words of those bytes. -/
theorem ringRoundTrip : Obligations.RingRoundTrip := by
  unfold Obligations.RingRoundTrip
  intro s t m m' w w' r hclk hgo hlast hgo' htest hring hpop hprod hcons hbundle hrecs hgap hloss hsize hfits hquiet hpush
  have hstored := exec_ringPush_stores hclk hgo hlast htest hring hprod (by simp [hbundle]) hloss (by simpa [hbundle] using hfits) hquiet
  obtain rfl := Host.Outcome.next.inj (hpush.symm.trans hstored)
  obtain ⟨hnum, hen⟩ := Hamper.ring_spec hring
  have hfsp : r.producer ≠ roleFsp := by
    rw [hprod]
    cases w.getLsbD 2 <;> decide
  obtain ⟨hham, htest', -, hclk'⟩ := corePut_storedBy (m := m) htest (hnum ▸ hring) hloss hfsp hquiet
    ((s.hamper.portOf m).bundle ++ [wireBytes r.byteRecs ((s.hamper.portOf m).pushData.toList.take (r.recSize / 4))])
  generalize corePut m s r _ = t at hham htest' hclk' ⊢
  have hwords : ((s.hamper.portOf m).bundle ++ [wireBytes r.byteRecs ((s.hamper.portOf m).pushData.toList.take (r.recSize / 4))])
      = [wireBytes r.byteRecs (s.hamper.portOf m).pushData.toList] := by
    rw [hbundle, hsize, List.take_of_length_le (by simp), List.nil_append]
  rw [hwords] at hham
  have hfound : (t.modRingPort m fun p => p.pushed (w.getLsbD 2)).hamper.ring r.num
      = some (r.appended (bundleRecs [wireBytes r.byteRecs (s.hamper.portOf m).pushData.toList])) := by
    rw [modRingPort_ring, hham]
    exact Hamper.ring_setRing_self _ hen
  have hpop' : ((t.modRingPort m fun p => p.pushed (w.getLsbD 2)).hamper.portOf m').popRing = r.num := by
    rw [modRingPort_pushed_popRing, hham, Hamper.portOf_setRing, hpop]
  obtain ⟨u, hu, hvalid, hdata⟩ := exec_ringPop_shows
    (s := t.modRingPort m fun p => p.pushed (w.getLsbD 2)) (m := m') (w := w')
    (r := r.appended (bundleRecs [wireBytes r.byteRecs (s.hamper.portOf m).pushData.toList])) ((congrArg (·.pllLock) ((modRingPort_clk ..).trans hclk')).trans hclk) hgo'
    ((congrArg (·.testActive) (modRingPort_badger ..)).trans htest') (by rw [hpop']; exact hfound) hcons (congrArg (· ++ _) hrecs) hgap rfl rfl
  refine ⟨u, hu, hvalid, hdata.trans ?_⟩
  exact (congrArg eightWords (recWords_wireBytes ..)).trans (eightWords_toList _)

end Sys2Proof.Machine
end

section
/-! PROOFS. The clear input and the clamps (R387, R388, R393 to R396). -/

namespace Sys2Proof.Machine

section
variable {s : State}

/-! ### The clear input -/

theorem running_of_run (h : s.dev.state = .run) : s.running = true := by simp [State.running, h]

theorem not_running_of_ne (h : s.dev.state ≠ .run) : s.running = false := by simpa [State.running] using h

theorem Channel.clrRelease_clrHeld (c : Channel) : c.clrRelease.out.clrHeld = false := by
  unfold Channel.clrRelease
  split_ifs with hheld
  · rfl
  · rfl
  · exact Bool.eq_false_iff.mpr hheld

theorem Channel.clrRelease_of_free {c : Channel} (h : c.out.clrHeld = false) : c.clrRelease = c := by
  simp [Channel.clrRelease, h]

/-- What CLR_n's fall makes of a channel in RUN. -/
def Channel.clrFallen (c : Channel) : Channel :=
  if c.actSp.clrEn && c.sources then ({ c with out := { c.out with clrHeld := true } } : Channel).present else c

theorem exec_clrNFall (h : s.dev.state = .run) : exec .clrNFall s = .next ({ s with
    trig := { s.trig with clrN := false, clrCount := s.trig.clrCount.inc } }.modAllCh fun _ c => c.clrFallen) :=
  if_pos (running_of_run h)

/-! ### The clamps -/

/-- A channel whose clamp trips on a path that was not tripped: the code is latched at the first of the paths. -/
def Channel.clampTripped (c : Channel) (p : ClampPath) : Channel :=
  ({ c with
    clamp := { c.clamp with
      trippedV := c.clamp.trippedV || p == .v
      trippedI := c.clamp.trippedI || p == .i
      seen := true
      code := if c.clamp.tripped then c.clamp.code else c.tripCode
      pstDropped := c.clamp.pstDropped || c.out.dropsOn p
      trips := c.clamp.trips.inc }
    fe := { c.fe with clampSeen := true } } : Channel).present

theorem clampTrip_of_untripped {n : Ch} {p : ClampPath} (hoff : (s.chan n).mode.mode ≠ .off) (hp : (s.chan n).clamp.trippedOn p = false) :
    clampTrip s n p = sendMsg (s.modCh n fun _ => (s.chan n).clampTripped p) (srcCh n) (clampKind p) .warn ((s.chan n).clamp.thr p) := by
  unfold clampTrip
  simp only [hp, beq_eq_false_iff_ne.mpr hoff, Bool.or_self, Bool.false_eq_true, if_false]
  rfl

theorem clampTrip_of_tripped {n : Ch} {p : ClampPath} (hp : (s.chan n).clamp.trippedOn p = true) : clampTrip s n p = s := by
  unfold clampTrip
  simp [hp]

theorem Clamp.trippedOn_tripped {k : Clamp} {p : ClampPath} (h : k.trippedOn p = true) : k.tripped = true := by
  cases p <;> simp_all [Clamp.tripped, Clamp.trippedOn]

theorem Channel.clampTripped_trippedOn (c : Channel) (p : ClampPath) : (c.clampTripped p).clamp.trippedOn p = true := by
  cases p <;> exact Bool.or_true _

/-- On a channel that sources a tripped clamp's code is presented (Table 10.2). -/
theorem Channel.presented_of_tripped {c : Channel} (hsrc : c.sources = true) (hclr : c.out.clrHeld = false)
    (htrip : c.clamp.tripped = true) : c.presented = c.clamp.code := by
  simp [Channel.presented, hsrc, Channel.driveCode, hclr, htrip]

theorem Channel.clampTripped_presented {c : Channel} (hsrc : c.sources = true) (hclr : c.out.clrHeld = false) (p : ClampPath) :
    (c.clampTripped p).presented = (c.clampTripped p).clamp.code ∧ (c.clampTripped p).last.code = (c.clampTripped p).clamp.code := by
  have htrip := Clamp.trippedOn_tripped (c.clampTripped_trippedOn p)
  exact ⟨Channel.presented_of_tripped hsrc hclr htrip, Channel.presented_of_tripped (c := { c with
    clamp := (c.clampTripped p).clamp, fe := { c.fe with clampSeen := true } }) hsrc hclr htrip⟩

end

/-- Settles O25. -/
theorem clearAndClampCommands : Obligations.ClearAndClampCommands := by
  unfold Obligations.ClearAndClampCommands
  refine ⟨⟨?_, ?_, ?_⟩, ?_, ?_, ?_, ?_, ?_⟩
  · intro s hrun
    refine ⟨_, exec_clrNFall hrun, by simp, by simp, fun n hen hsrc => ?_, fun n hen => ?_⟩
    · rw [State.chan_modAllCh]
      change (s.chan n).clrFallen.out.clrHeld = true
      simp [Channel.clrFallen, hen, hsrc, Channel.present]
    · rw [State.chan_modAllCh]
      change (s.chan n).clrFallen = s.chan n
      simp [Channel.clrFallen, hen]
  · intro s hrun
    exact if_neg (Bool.eq_false_iff.mp (not_running_of_ne hrun))
  · intro s
    refine ⟨_, rfl, by simp, fun n => ?_, fun n hn => ?_⟩
    · rw [State.chan_modAllCh]
      exact Channel.clrRelease_clrHeld _
    · rw [State.chan_modAllCh]
      exact Channel.clrRelease_of_free hn
  · intro s n p hoff hp
    refine ⟨_, congrArg Host.Outcome.next (clampTrip_of_untripped hoff hp), ?_⟩
    simp only [sendMsg_chan, State.chan_modCh]
    refine ⟨Channel.clampTripped_trippedOn _ p, rfl, rfl, fun h => if_pos h, fun h hmode => ?_, fun h hmode => ?_,
      fun hsrc hclr => ?_, sends_sendMsg (by simp) _ _ _ _, fun m hm => by simp [hm]⟩
    · exact (if_neg (by simp [h])).trans (if_pos hmode)
    · exact (if_neg (by simp [h])).trans (if_neg hmode)
    · exact Channel.clampTripped_presented hsrc hclr p
  · intro s n p hp
    exact congrArg Host.Outcome.next (clampTrip_of_tripped hp)
  · intro s n hmay
    refine ⟨_, congrArg Host.Outcome.next (if_pos hmay), ?_⟩
    simp only [State.chan_modCh]
    exact ⟨rfl, rfl, rfl, fun m hm => State.chan_modCh_ne _ _ _ _ hm⟩
  · intro s n hmay
    exact congrArg Host.Outcome.next (if_neg (Bool.eq_false_iff.mp hmay))
  · intro s n p hp
    refine ⟨_, congrArg Host.Outcome.next (if_pos hp), sendMsg_badger_only .., sends_sendMsg rfl _ _ _ _⟩

end Sys2Proof.Machine
end

section
/-! PROOFS. Range requests and the sequences of a range change (R397 to R406). -/

namespace Sys2Proof.Machine

section
variable {s : State} {n : Ch}

theorem State.modCh_congr {f g : Channel → Channel} (h : f (s.chan n) = g (s.chan n)) : s.modCh n f = s.modCh n g :=
  congrArg (fun c => { s with ch := s.ch.set n.val c }) h

theorem W.v_byte (r : Req) (v : Byte) (a b c : State) : (⟨r, [v], a, b, c⟩ : W).v = v.toNat := Nat.zero_add _ 

/-! ### Steps of one channel that leave its range change alone -/

theorem Channel.acceptRange_active {c : Channel} {v : Nat} (h : c.range = v) (hrun : c.rng.running = false) :
    c.acceptRange v = { c with rng := { c.rng with req := some v } } := by
  simp [Channel.acceptRange, h, hrun]

theorem Channel.disarm_fields (c : Channel) : c.disarm.rng = c.rng ∧ c.disarm.out = c.out ∧ c.disarm.mode = c.mode
    ∧ c.disarm.sp = c.sp ∧ c.disarm.last = c.last ∧ c.disarm.decl = c.decl := by
  unfold Channel.disarm
  split_ifs <;> exact ⟨rfl, rfl, rfl, rfl, rfl, rfl⟩

theorem Channel.acceptRange_other {c : Channel} {v : Nat} (h : c.range ≠ v) : (c.acceptRange v).rng =
    { c.rng with req := some v, target := some v, changing := true, method := c.rangeMethod } := by
  simp [Channel.acceptRange, h, Channel.disarm_fields]

theorem Channel.feedForward_fields (c : Channel) (ra rb : Q) : (c.feedForward ra rb).rng = c.rng ∧ (c.feedForward ra rb).out = c.out
    ∧ (c.feedForward ra rb).loop = c.loop ∧ (c.feedForward ra rb).mode = c.mode := by
  unfold Channel.feedForward
  split_ifs <;> exact ⟨rfl, rfl, rfl, rfl⟩

theorem Channel.switchBank_fields (c : Channel) (old new : Nat) : (c.switchBank old new).rng = c.rng ∧ (c.switchBank old new).out = c.out
    ∧ (c.switchBank old new).loop.rsw = c.loop.rsw := by
  unfold Channel.switchBank
  split_ifs <;> exact ⟨rfl, rfl, rfl⟩

/-- The range changes of two states and their hold ticks are the same. -/
structure RangesKept (n : Ch) (s t : State) : Prop where
  rng : (t.chan n).rng = (s.chan n).rng
  out : (t.chan n).out = (s.chan n).out
  others : OthersKept n s t

theorem RangesKept.refl (n : Ch) (s : State) : RangesKept n s s := ⟨rfl, rfl, fun _ _ => rfl⟩

theorem RangesKept.trans {s t u : State} (h : RangesKept n s t) (h' : RangesKept n t u) : RangesKept n s u :=
  ⟨h'.rng.trans h.rng, h'.out.trans h.out, fun m hm => (h'.others m hm).trans (h.others m hm)⟩

theorem SweepOnly.rangesKept {t : State} (h : SweepOnly n s t) : RangesKept n s t := by
  obtain ⟨w, hw⟩ := h
  exact ⟨by simp [hw], by simp [hw], fun m hm => by simp [hw, hm]⟩

theorem Channel.feTick_rng (c : Channel) : c.feTick.rng = c.rng := by
  unfold Channel.feTick
  split_ifs <;> rfl

theorem Channel.superviseAgain_rng (c : Channel) (k : Nat) : (c.superviseAgain k).rng = c.rng := Channel.feTick_rng _

theorem stepSp_rangesKept (s : State) (n : Ch) (r : StepRec) : RangesKept n s (stepSp s n r) := by
  unfold stepSp superviseAgain
  refine ⟨?_, ?_, fun m hm => by simp [hm]⟩
  · simp [Channel.superviseAgain_rng, Channel.setSp]
  · simp [Channel.setSp]

/-- The end of a range change at a channel that no step waits for goes on with its sweep alone (R450). -/
theorem rangeFollowUp_rangesKept (h : (s.chan n).rng.stepReq = none) : RangesKept n s (rangeFollowUp s n) := by
  have hdone : rangeFollowUp s n = rangingDone s n := by
    unfold rangeFollowUp
    simp only [h]
  rw [hdone]
  unfold rangingDone
  dsimp only
  split
  · rename_i r _ _
    have hset : RangesKept n s (if r.order then s else stepSp s n r) := by
      split
      · exact .refl n s
      · exact stepSp_rangesKept s n r
    exact hset.trans (modSweep_sweepOnly _ n _).rangesKept
  · exact .refl n s

/-- The end of a range change counts it. -/
def Ranging.ended (r : Ranging) : Ranging :=
  { r with phase := .idle, target := none, changing := false, bridge := false, left := 0, changes := r.changes.inc }

theorem rangeEnd_chan (s : State) (n : Ch) : ((rangeEnd s n).chan n).rng = (s.chan n).rng.ended ∧
    ((rangeEnd s n).chan n).out.holdTick = false ∧ OthersKept n s (rangeEnd s n) := by
  refine ⟨by simp [rangeEnd, Ranging.ended], by simp [rangeEnd], fun m hm => by simp [rangeEnd, hm]⟩

end

/-- A channel whose range change begins with its make (R399, R401). -/
def Channel.rangeMade (c : Channel) (hold : Bool) (settle k : Nat) : Channel :=
  let c' : Channel :=
    { c.disarm with
      rng := { c.rng with
        phase := (if hold then .hold else .make)
        left := (if hold then 1 else settle)
        lastEdge := c.last.tick, iBr := c.last.i, vBr := c.last.v, bridge := !hold && c.forcesI },
      out := { c.out with holdTick := hold } }
  (if hold then c' else c'.feedForward (c'.ohms c'.range) (parallel (c'.ohms c'.range) (c'.ohms k))).loadThr.show

theorem Channel.rangeMade_fields (c : Channel) (hold : Bool) (settle k : Nat) : (c.rangeMade hold settle k).rng = { c.rng with
      phase := (if hold then .hold else .make)
      left := (if hold then 1 else settle)
      lastEdge := c.last.tick, iBr := c.last.i, vBr := c.last.v, bridge := !hold && c.forcesI }
    ∧ (c.rangeMade hold settle k).out.holdTick = hold := by
  cases hold with
  | true => exact ⟨rfl, rfl⟩
  | false =>
    exact ⟨(Channel.feedForward_fields ..).1, congrArg Out.holdTick (Channel.feedForward_fields ..).2.1⟩

theorem exec_rangeMake {s : State} {n : Ch} {k : Nat} (htarget : (s.chan n).rng.target = some k) (hphase : (s.chan n).rng.phase = .idle)
    (hmethod : (s.chan n).rng.method ≠ 2) (hrun : s.dev.state = .run) : exec (.rangeMake n) s = .next (s.modCh n fun c =>
      c.rangeMade ((s.chan n).rng.method = 1) (settleTicks (s.engine n.engine).nActive c.decl.rngSettle) k) := by
  simp only [exec, execRangeMake, htarget, hphase, hmethod, running_of_run hrun, decide_false, Bool.not_true, Bool.or_self,
    Bool.false_eq_true, if_false]
  refine congrArg Host.Outcome.next (State.modCh_congr ?_)
  by_cases hold : (s.chan n).rng.method = 1 <;> simp [hold, Channel.rangeMade]

/-- A channel at the switch tick of its range change (R399, R401). -/
def Channel.rangeSwitched (c : Channel) (k left : Nat) (ra : Q) (phase : RngPhase) : Channel :=
  let c' : Channel :=
    { c with rng := { c.rng with active := some k, changing := false, phase := phase, lastEdge := c.last.tick, left := left },
             mode := { c.mode with switched := true },
             loop := { c.loop with rsw := true },
             conv := c.conv.abort }
  (((c'.switchBank c.range k).feedForward ra (c'.ohms k)).loadThr).dropUpdate

theorem Channel.rangeSwitched_fields (c : Channel) (k left : Nat) (ra : Q) (phase : RngPhase) :
    (c.rangeSwitched k left ra phase).rng =
        { c.rng with active := some k, changing := false, phase := phase, lastEdge := c.last.tick, left := left }
      ∧ (c.rangeSwitched k left ra phase).loop.rsw = true := by
  refine ⟨?_, ?_⟩
  · exact (Channel.feedForward_fields ..).1.trans (Channel.switchBank_fields ..).1
  · exact (congrArg (·.rsw) (Channel.feedForward_fields ..).2.2.1).trans (Channel.switchBank_fields ..).2.2

theorem switchRange_chan (s : State) (n : Ch) (k : Nat) (ra : Q) (phase : RngPhase) : ∃ left,
    ((switchRange s n k ra phase).chan n).rng = { (s.chan n).rng with
        active := some k, changing := false, phase := phase, lastEdge := (s.chan n).last.tick, left := left }
      ∧ ((switchRange s n k ra phase).chan n).loop.rsw = true ∧ OthersKept n s (switchRange s n k ra phase) := by
  let left (c : Channel) := if phase == .break_ then settleTicks (s.engine n.engine).nActive c.decl.rngSettle else 0
  have hch : (switchRange s n k ra phase).ch = (s.modCh n fun c => c.rangeSwitched k (left c) ra phase).ch :=
    show (firePulse (s.modCh n fun c => c.rangeSwitched k (left c) ra phase) 5 n.val).ch = _ by simp
  obtain ⟨hrng, hrsw⟩ := Channel.rangeSwitched_fields (s.chan n) k (left (s.chan n)) ra phase
  refine ⟨left (s.chan n), ?_, ?_, fun m hm => ?_⟩
  · rw [State.chan_congr hch, State.chan_modCh]
    exact hrng
  · rw [State.chan_congr hch, State.chan_modCh]
    exact hrsw
  · rw [State.chan_congr hch, State.chan_modCh_ne _ _ _ _ hm]

/-- The current error of a bridge, read at its end (R402). -/
def Channel.bridgeRead (c : Channel) : Channel :=
  if c.rng.bridge then { c with rng := { c.rng with bridgeErr := (c.currQ.sub c.bridgeAmps).toF32 } } else c

theorem Channel.bridgeRead_rng (c : Channel) : c.bridgeRead.rng = { c.rng with bridgeErr := c.bridgeRead.rng.bridgeErr } := by
  unfold Channel.bridgeRead
  split_ifs <;> rfl

theorem exec_rangeBreakEnd {s : State} {n : Ch} (hphase : (s.chan n).rng.phase = .break_) (hleft : (s.chan n).rng.left = 0) :
    exec (.rangeBreakEnd n) s = .next (rangeFollowUp (rangeEnd (s.modCh n Channel.bridgeRead) n) n) := by
  refine if_pos ?_
  simp [hphase, hleft]

/-- The end of a range change for which no step waits. -/
theorem rangeEnded_chan {s : State} {n : Ch} (hstep : (s.chan n).rng.stepReq = none) :
    ((rangeFollowUp (rangeEnd s n) n).chan n).rng = (s.chan n).rng.ended ∧
      ((rangeFollowUp (rangeEnd s n) n).chan n).out.holdTick = false ∧ OthersKept n s (rangeFollowUp (rangeEnd s n) n) := by
  obtain ⟨hrng, hhold, hothers⟩ := rangeEnd_chan s n
  have hkept : RangesKept n (rangeEnd s n) (rangeFollowUp (rangeEnd s n) n) :=
    rangeFollowUp_rangesKept (by rw [hrng]; exact hstep)
  exact ⟨hkept.rng.trans hrng, (congrArg Out.holdTick hkept.out).trans hhold, fun m hm => (hkept.others m hm).trans (hothers m hm)⟩

/-- A channel in METER whose range is connected at once (R400). -/
def Channel.rangeConnected (c : Channel) (k : Nat) : Channel :=
  ({ c with rng := { c.rng with active := some k, lastEdge := c.last.tick }, conv := c.conv.abort,
            loop := { c.loop with rsw := true } } : Channel).loadThr

theorem exec_rangeNoOverlap {s : State} {n : Ch} {k : Nat} (htarget : (s.chan n).rng.target = some k)
    (hmethod : (s.chan n).rng.method = 2) (hmode : (s.chan n).mode.mode = .meter) : exec (.rangeNoOverlap n) s =
      .next (rangeEnd (firePulse (s.modCh n fun c => c.rangeConnected k) 5 n.val) n) := by
  simp only [exec, execRangeNoOverlap, htarget]
  refine if_pos ?_
  simp [hmethod, hmode]

/-- Settles O26: each command is one update of the channel's range change. -/
theorem rangeChanges : Obligations.RangeChanges := by
  unfold Obligations.RangeChanges
  refine ⟨⟨?_, ?_⟩, ?_, ?_, ?_, ?_, ?_, ?_⟩
  · intro s r n v h hactive hrun
    have hdone := perform_done h fun _ => rfl
    have hput : (objRangeReq n).put ⟨r, [v], s, s, s⟩ s = s.modCh n fun c => { c with rng := { c.rng with req := some v.toNat } } := by
      simp only [objRangeReq, W.v_byte]
      exact State.modCh_congr (Channel.acceptRange_active hactive hrun)
    rwa [hput] at hdone
  · intro s r n v h hother
    refine ⟨_, congrArg Host.Outcome.next (perform_admitted h), rfl, ?_⟩
    have hrng := Channel.acceptRange_other hother
    simp only [reply_chan, instructorCommand_chan, objRangeReq, W.v_byte, State.chan_modCh, hrng, true_and]
    exact fun m hm => by simp [hm]
  · intro s n k htarget hphase hmethod hrun
    refine ⟨_, exec_rangeMake htarget hphase (by rw [hmethod]; decide) hrun, ?_⟩
    simp only [State.chan_modCh, Channel.rangeMade_fields, hmethod]
    exact ⟨rfl, htarget, rfl, rfl, fun m hm => by simp [hm]⟩
  · intro s n k htarget hphase hmethod hrun
    refine ⟨_, exec_rangeMake htarget hphase (by rw [hmethod]; decide) hrun, ?_⟩
    simp only [State.chan_modCh, Channel.rangeMade_fields, hmethod, decide_true, if_true, true_and]
    exact fun m hm => by simp [hm]
  · intro s n k htarget hphase hleft
    obtain ⟨left, hrng, hrsw, hothers⟩ := switchRange_chan s n k (parallel ((s.chan n).ohms (s.chan n).range) ((s.chan n).ohms k)) .break_
    refine ⟨switchRange s n k (parallel ((s.chan n).ohms (s.chan n).range) ((s.chan n).ohms k)) .break_, ?_, ?_⟩
    · simp only [exec, execRangeSwitch, htarget, hphase, hleft, if_true]
    · simp only [hrng, true_and]
      exact ⟨hrsw, hothers⟩
  · intro s n hphase hleft hstep
    refine ⟨_, exec_rangeBreakEnd hphase hleft, ?_⟩
    have hread := (s.chan n).bridgeRead_rng
    obtain ⟨hrng, -, hothers⟩ := rangeEnded_chan (s := s.modCh n Channel.bridgeRead) (by rw [State.chan_modCh, hread]; exact hstep)
    rw [State.chan_modCh, hread] at hrng
    rw [hrng]
    exact ⟨rfl, rfl, rfl, rfl, fun m hm => (hothers m hm).trans (State.chan_modCh_ne _ _ _ _ hm)⟩
  · intro s n k htarget hphase hleft hstep
    obtain ⟨left, hswitched, -, hkept⟩ := switchRange_chan s n k ((s.chan n).ohms (s.chan n).range) .idle
    refine ⟨rangeFollowUp (rangeEnd (switchRange s n k ((s.chan n).ohms (s.chan n).range) .idle) n) n, ?_, ?_⟩
    · simp only [exec, execRangeHoldSwitch, htarget, hphase, hleft, if_true]
    · obtain ⟨hrng, hhold, hothers⟩ := rangeEnded_chan (s := switchRange s n k ((s.chan n).ohms (s.chan n).range) .idle)
        (by rw [hswitched]; exact hstep)
      rw [hrng, hswitched]
      exact ⟨rfl, rfl, hhold, rfl, fun m hm => (hothers m hm).trans (hkept m hm)⟩
  · intro s n k htarget hmethod hmode
    refine ⟨_, exec_rangeNoOverlap htarget hmethod hmode, ?_⟩
    obtain ⟨hrng, -, hothers⟩ := rangeEnd_chan (firePulse (s.modCh n fun c => c.rangeConnected k) 5 n.val) n
    have hch : (firePulse (s.modCh n fun c => c.rangeConnected k) 5 n.val).ch = (s.modCh n fun c => c.rangeConnected k).ch := by simp
    rw [State.chan_congr hch, State.chan_modCh] at hrng
    rw [hrng]
    refine ⟨rfl, rfl, rfl, fun m hm => ?_⟩
    rw [hothers m hm, State.chan_congr hch, State.chan_modCh_ne _ _ _ _ hm]

end Sys2Proof.Machine
end

section
/-! PROOFS. Tuning segments, and LAC's frames, updates and requests (R321 to R336). -/

namespace Sys2Proof.Machine

section
variable {s t u : State} {n : Ch}

theorem State.modCh_of_fixed {f : Channel → Channel} (h : f (s.chan n) = s.chan n) : s.modCh n f = s := by
  refine (congrArg (fun c => { s with ch := s.ch.set n.val c }) h).trans ?_
  change { s with ch := s.ch.set n.val s.ch[n.val] } = s
  rw [Vector.set_getElem_self]

/-! ### Closing a segment -/

/-- Nothing of the channels differs but the count of channel n's lost tuning records. -/
def LostOnly (n : Ch) (s t : State) : Prop :=
  ∃ k, ∀ m, t.chan m = (s.modCh n fun c => { c with tune := { c.tune with lost := k } }).chan m

theorem LostOnly.of_ch (h : t.ch = s.ch) : LostOnly n s t :=
  ⟨(s.chan n).tune.lost, fun m => by by_cases hm : m = n <;> simp [State.chan_congr h, hm]⟩

theorem LostOnly.trans (h : LostOnly n s t) (h' : LostOnly n t u) : LostOnly n s u := by
  obtain ⟨k, hk⟩ := h
  obtain ⟨k', hk'⟩ := h'
  exact ⟨k', fun m => by by_cases hm : m = n <;> simp [hk', hk, hm]⟩

theorem loseTune_lostOnly (s : State) (n : Ch) (k : Nat) : LostOnly n s (loseTune s n k) :=
  ⟨(s.chan n).tune.lost.add k, fun m => by by_cases hm : m = n <;> simp [loseTune, hm]⟩

/-- The records of the segment before that wait in their stage are lost (R326). -/
theorem LostOnly.dropStaged (rest : List Staged) (k num : Nat) :
    LostOnly n s (dropReserve (loseTune { s with hamper := { s.hamper with staging := rest } } n k) num) :=
  .trans (t := { s with hamper := { s.hamper with staging := rest } }) (.of_ch rfl) (.trans (loseTune_lostOnly _ n k) (.of_ch (by simp)))

theorem pendLoss_keeps_ch (s : State) (r : Ring) (k : Nat) : (pendLoss s r k).ch = s.ch := by simp

theorem closeSegment_lostOnly (s : State) (n : Ch) : LostOnly n (s.modCh n fun c =>
    { c with tune := { c.tune with segsDone := c.tune.segsDone.inc }, loop := { c.loop with tuneDue := false } }) (closeSegment s n) := by
  unfold closeSegment
  extract_lets half opened src ham staged
  have hstaged : LostOnly n opened staged := by
    simp only [staged]
    split
    · exact .of_ch rfl
    · rename_i x rest _
      have hdropped : LostOnly n opened _ := .dropStaged rest x.recs.length x.ring
      split
      · exact hdropped.trans (.of_ch (pendLoss_keeps_ch ..))
      · exact hdropped
  refine hstaged.trans ?_
  split
  · exact loseTune_lostOnly ..
  · exact .of_ch (by simp)

/-! ### The update of the gains -/

theorem Channel.update_fields (c : Channel) (per r : Nat) : (((c.writeGains r).designBank per r).takeGains r).loop = c.loop ∧
    (((c.writeGains r).designBank per r).takeGains r).lac = c.lac := ⟨rfl, rfl⟩

theorem Channel.lacUpdate_loop (c : Channel) (per : Nat) : (c.lacUpdate per).loop = { c.loop with lacDue := false } := by
  unfold Channel.lacUpdate
  split
  · rfl
  · dsimp only
    split_ifs
    · rfl
    · rfl

theorem Channel.lacUpdate_targets (c : Channel) (per : Nat) : (c.lacUpdate per).lac.targets = none := by
  unfold Channel.lacUpdate
  split
  · assumption
  · dsimp only
    split_ifs
    · rfl
    · rfl

theorem Channel.lacUpdate_banks {c : Channel} (per : Nat) (h : c.lac.state ≠ .adapting) : (c.lacUpdate per).lac.banks = c.lac.banks := by
  unfold Channel.lacUpdate
  split
  · rfl
  · simp [h]

theorem objLacRevert_put {r : Req} {v : Byte} (hclk : s.clk.pllLock = true) : (objLacRevert n).put ⟨r, [v], s, s, s⟩ s =
    s.modCh n fun c => { c with lac := { c.lac with revertDue := true } } := by
  simp only [objLacRevert, chCmd, State.setCh, State.clocksRun, hclk, if_true]

/-- LAC_RESUME on a channel: out of FROZEN it is HELD, and the next boundary's work makes the entry to ADAPTING. -/
def Channel.lacResumed (c : Channel) : Channel :=
  if c.lac.state == .frozen then { c with lac := { c.lac with state := .held } } else c

theorem objLacResume_put (r : Req) (v : Byte) : (objLacResume n).put ⟨r, [v], s, s, s⟩ s = s.modCh n Channel.lacResumed := rfl

theorem Channel.lacResumed_of_frozen {c : Channel} (h : c.lac.state = .frozen) :
    c.lacResumed = { c with lac := { c.lac with state := .held } } := if_pos (by simpa using h)

theorem Channel.lacResumed_of_ne {c : Channel} (h : c.lac.state ≠ .frozen) : c.lacResumed = c := if_neg (by simpa using h)

end

/-- Settles O23: every command is one update of the channel, but for the records that a closed segment stages or loses. -/
theorem tuneAndLacCommands : Obligations.TuneAndLacCommands := by
  unfold Obligations.TuneAndLacCommands
  refine ⟨⟨?_, ?_, ?_⟩, ?_, ?_, ?_, ?_, ?_⟩
  · intro s n hclk hdue
    refine ⟨_, congrArg Host.Outcome.next (if_pos (by simp [State.clocksRun, hclk, hdue])), ?_⟩
    obtain ⟨k, hk⟩ := closeSegment_lostOnly s n
    simp only [State.chan_modCh, hk, true_and]
    exact ⟨fun m hm => by simp [hk, hm], by simp⟩
  · intro s n hmode hover hdone
    refine ⟨_, if_pos (by simp [hmode, hover, hdone]), by simp, by simp, fun m hm => by simp [hm]⟩
  · intro s n hdue
    exact congrArg Host.Outcome.next (if_neg (by simp [hdue]))
  · intro s n hstate htick
    simp only [exec, execLacFrameEnd, hstate, htick, BEq.rfl, Bool.and_self, if_true]
    split_ifs with hwhy
    · refine ⟨_, rfl, ?_⟩
      simp only [State.chan_modCh]
      exact ⟨rfl, rfl, fun m hm => State.chan_modCh_ne _ _ _ _ hm, .inl ⟨hstate, rfl, trivial, Option.some_ne_none _⟩⟩
    · refine ⟨_, rfl, ?_⟩
      simp only [sendMsg_chan, State.chan_modCh]
      exact ⟨rfl, rfl, fun m hm => (sendMsg_chan ..).trans (State.chan_modCh_ne _ _ _ _ hm), 
        .inr ⟨trivial, hwhy, rfl, sends_sendMsg (by simp) _ _ _ _⟩⟩
  · intro s n hclk hdue
    refine ⟨_, congrArg Host.Outcome.next (if_pos (by simp [State.clocksRun, hclk, hdue])), ?_⟩
    simp only [State.chan_modCh, Channel.lacUpdate_loop, Channel.lacUpdate_targets, true_and]
    exact ⟨fun m hm => by simp [hm], fun h => Channel.lacUpdate_banks _ h⟩
  · intro s r n v hclk h
    have hdone := perform_done h fun _ => rfl
    rwa [objLacRevert_put hclk] at hdone
  · intro s r n v h hfrozen
    have hdone := perform_done h fun _ => rfl
    rwa [objLacResume_put, State.modCh_congr (g := fun c => { c with lac := { c.lac with state := .held } })
      (Channel.lacResumed_of_frozen hfrozen)] at hdone
  · intro s r n v h hfrozen
    have hdone := perform_done h fun _ => rfl
    rwa [objLacResume_put, State.modCh_of_fixed (Channel.lacResumed_of_ne hfrozen)] at hdone

end Sys2Proof.Machine
end

section
/-! PROOFS. The credit arbiter: grants and their ends, window boundaries, commits and forced requesters (R468 to R475). -/

namespace Sys2Proof.Machine

section
variable {s : State} {res : Resource}

/-! ### The arbiters -/

@[simp] theorem State.arb_modArb (s : State) (res : Resource) (f : Arb → Arb) : (s.modArb res f).arb res = f (s.arb res) := by
  cases res <;> rfl

theorem State.arb_modArb_ne {k : Resource} (s : State) (f : Arb → Arb) (h : k ≠ res) : (s.modArb res f).arb k = s.arb k := by
  cases res <;> cases k <;> simp_all [State.arb, State.modArb]

theorem State.arb_congr {t : State} (hp : t.pool = s.pool) (hl : t.link = s.link) (hb : t.bus = s.bus) (k : Resource) :
    t.arb k = s.arb k := by
  cases k
  · exact hp
  · exact hl
  · exact hb

/-- A requester of a list with its number stands there. -/
theorem getElem?_of_winner {q : Nat} {x : Requesting} (h : winner s res = some (q, x)) : (s.arb res).reqs[q]? = some x := by
  obtain ⟨hmem, -⟩ := List.mem_filter.mp (pick_mem h)
  obtain ⟨⟨y, k⟩, hk, heq⟩ := List.mem_map.mp hmem
  cases heq
  exact List.mk_mem_zipIdx_iff_getElem?.mp hk

/-! ### A grant and its end -/

theorem Arb.grant_fields (a : Arb) (pool : Bool) (q cost : Nat) (others : List Nat) : (a.grant pool q cost others).owner = some q ∧
    (a.grant pool q cost others).parked = some q ∧ (a.grant pool q cost others).cost = cost := ⟨rfl, rfl, rfl⟩

theorem Arb.grant_won {a : Arb} {q : Nat} {x : Requesting} (h : a.reqs[q]? = some x) (pool : Bool) (cost : Nat) (others : List Nat) :
    (a.grant pool q cost others).reqs[q]? = some { x.won pool cost with counted := 0 } := by
  simp [Arb.grant, Arb.modReq, h]

/-- Forcing requesters numbers them and leaves the rest of the arbiter. -/
theorem Arb.foldl_force_fields (l : List Nat) (a : Arb) : (l.foldl Arb.force a).owner = a.owner ∧ (l.foldl Arb.force a).parked = a.parked
    ∧ ∀ k : Nat, ((l.foldl Arb.force a).reqs[k]?).map Requesting.wait = (a.reqs[k]?).map Requesting.wait := by
  induction l generalizing a with
  | nil => exact ⟨rfl, rfl, fun _ => rfl⟩
  | cons q l ih =>
    obtain ⟨howner, hparked, hwait⟩ := ih (a.force q)
    refine ⟨howner, hparked, fun k => (hwait k).trans ?_⟩
    simp only [Arb.force, Arb.modReq, List.getElem?_modify]
    split_ifs
    · cases a.reqs[k]? <;> rfl
    · simp

theorem Arb.endGrant_fields (a : Arb) (pool : Bool) (atEnd : List Nat) (free : Nat) : (a.endGrant pool atEnd free).owner = none
    ∧ (a.endGrant pool atEnd free).parked = a.parked ∧ ∀ k : Nat, ((a.endGrant pool atEnd free).reqs[k]?).map Requesting.wait =
      (a.reqs[k]?).map fun x => Nat.min 65535 (x.wait + a.waitCycles k atEnd (free + k)) := by
  have hwaited : ∀ k : Nat, ((a.reqs.zipIdx.map fun (r, k) => r.waited (a.waitCycles k atEnd (free + k)))[k]?).map Requesting.wait =
      (a.reqs[k]?).map fun x => Nat.min 65535 (x.wait + a.waitCycles k atEnd (free + k)) := by
    intro k
    simp only [List.getElem?_map, List.getElem?_zipIdx, Option.map_map]
    cases a.reqs[k]? <;> simp [Requesting.waited]
  unfold Arb.endGrant
  dsimp only
  split_ifs
  · exact ⟨rfl, rfl, hwaited⟩
  · obtain ⟨howner, hparked, hwait⟩ := Arb.foldl_force_fields (a.due fun k => a.waitCycles k atEnd (free + k))
      { a with owner := none, cost := 0, waiters := []
               reqs := a.reqs.zipIdx.map fun (r, k) => r.waited (a.waitCycles k atEnd (free + k)) }
    exact ⟨howner, hparked, fun k => (hwait k).trans (hwaited k)⟩

/-- One that requested throughout the grant has waited its cycles that its counter had not counted (R472). -/
theorem Arb.waitCycles_of_throughout {a : Arb} {k : Nat} {atEnd : List Nat} {x : Requesting} (hx : a.reqs[k]? = some x)
    (howner : a.owner ≠ some k) (hwaits : k ∈ a.waiters) (hends : k ∈ atEnd) (free : Nat) :
    a.waitCycles k atEnd free = a.cost - x.counted := by
  simp [Arb.waitCycles, hx, howner, hwaits, hends]

theorem mem_requesting {k : Nat} {x : Requesting} (hx : (s.arb res).reqs[k]? = some x) (h : requests s res k = true) :
    k ∈ (requesting s res).map (·.1) :=
  List.mem_map.mpr ⟨(k, x), List.mem_filter.mpr ⟨List.mem_map.mpr ⟨(x, k), List.mk_mem_zipIdx_iff_getElem?.mpr hx, rfl⟩, h⟩, rfl⟩

/-! ### The window's boundary -/

theorem Arb.apply_of_none {a : Arb} (h : a.pending = none) : a.apply = a := by
  unfold Arb.apply
  rw [h]

theorem Arb.apply_of_some {a : Arb} {p : Snapshot} (h : a.pending = some p) : a.apply =
    { a with windowActive := p.window, pending := none, commitState := 2
             reqs := a.reqs.zipIdx.map fun (r, i) => { r with active := p.cfgs[i]?.getD r.active } } := by
  unfold Arb.apply
  rw [h]

theorem Requesting.refill_eq (r : Requesting) : r.refill =
    { r with credit := min r.active.weight (r.credit + r.active.weight), granted := 0, masked := false } := by
  have hcredit : (if r.credit + (r.active.weight : Int) < r.active.weight then r.credit + (r.active.weight : Int) else r.active.weight)
      = min (r.active.weight : Int) (r.credit + r.active.weight) := by
    omega
  simp only [Requesting.refill, hcredit]

/-- A requester whose wait counter reaches its limit within the grant in progress (R472). -/
def Requesting.waitedOut (r : Requesting) : Requesting :=
  { r.waited (r.active.limit - r.wait) with counted := r.counted + (r.active.limit - r.wait) }

/-! ### The commands -/

theorem sendHead_arb (s : State) (q : Nat) (k : Resource) : (sendHead s q).arb k = s.arb k :=
  State.arb_congr (by simp) (by simp) (by simp) k

theorem beginBus_arb (s : State) (q : Nat) (k : Resource) : (beginBus (clockIdle s q) q).arb k = s.arb k :=
  State.arb_congr (by simp) (by simp) (by simp) k

theorem releaseIfDue_arb (s : State) (k : Resource) : (releaseIfDue s).arb k = s.arb k :=
  State.arb_congr (by simp) (by simp) (by simp) k

/-- What follows a grant of a resource leaves the arbiters as they are. -/
theorem exec_arbGrant {q cost : Nat} {x : Requesting} (howner : (s.arb res).owner = none) (hclk : s.clk.pllLock = true)
    (hwin : winner s res = some (q, x)) : ∃ t, exec (.arbGrant res cost) s = .next t ∧ t.arb res =
      (s.arb res).grant (res == .pool) q (grantCost s res q cost) ((requesting s res).map (·.1)) := by
  simp only [exec, execArbGrant, howner, State.clocksRun, hclk, hwin, Option.isSome_none, Bool.not_true, Bool.or_self, Bool.false_eq_true,
    if_false]
  cases res with
  | pool => exact ⟨_, rfl, State.arb_modArb ..⟩
  | ronko => exact ⟨_, rfl, (sendHead_arb ..).trans (State.arb_modArb ..)⟩
  | fsp => exact ⟨_, rfl, (beginBus_arb ..).trans (State.arb_modArb ..)⟩

theorem exec_arbGrant_none {cost : Nat} (h : (s.arb res).owner ≠ none ∨ s.clk.pllLock = false ∨ winner s res = none) :
    exec (.arbGrant res cost) s = .next s := by
  simp only [exec, execArbGrant]
  split_ifs with hfree
  · rfl
  · simp only [Bool.or_eq_true, Bool.not_eq_true', State.clocksRun, not_or, Bool.not_eq_false] at hfree
    have hnone : winner s res = none := by
      refine (h.resolve_left ?_).resolve_left ?_
      · simpa using hfree.1
      · simpa using hfree.2
    simp only [hnone]

/-- An arbiter's window boundary on the FSP while it is not bus master (R466). -/
def Arb.held (a : Arb) : Arb := { a with reqs := a.reqs.map fun r => { r with granted := 0 } }

def Arb.refilled (a : Arb) : Arb := { a with reqs := a.reqs.map (·.refill) }

theorem exec_arbWindowBoundary (hclk : s.clk.pllLock = true) (res : Resource) : exec (.arbWindowBoundary res) s = .next (s.modArb res fun a =>
    if res == .fsp && s.fsp.master != .master then a.apply.held else a.apply.refilled) :=
  congrArg Host.Outcome.next (if_pos hclk)

theorem exec_grantEnd_of_stopped (hclk : s.clk.pllLock = false) (res : Resource) : exec (.grantEnd res) s = .next s :=
  congrArg Host.Outcome.next (if_pos (by simp [State.clocksRun, hclk]))

theorem exec_grantEnd (hclk : s.clk.pllLock = true) (res : Resource) : exec (.grantEnd res) s = .next (match res with
    | .pool => finishPort s []
    | .ronko => s.endGrant .ronko ((requesting s .ronko).map (·.1))
    | .fsp => if s.fsp.entry.isSome || s.xip.filling.isSome then s
        else releaseIfDue (s.endGrant .fsp ((requesting s .fsp).map (·.1)))) :=
  congrArg Host.Outcome.next (if_neg (by simp [State.clocksRun, hclk]))

theorem endGrant_of_owned {q : Nat} (h : (s.arb res).owner = some q) (atEnd : List Nat) : s.endGrant res atEnd =
    { s.modArb res fun a => a.endGrant (res == .pool) atEnd s.free with free := s.free + (s.arb res).reqs.length } :=
  if_neg (by simp [h])

theorem endGrant_of_free (h : (s.arb res).owner = none) (atEnd : List Nat) : s.endGrant res atEnd = s :=
  if_pos (by simp [h])

theorem endGrant_owner (s : State) (res : Resource) (atEnd : List Nat) : ((s.endGrant res atEnd).arb res).owner = none := by
  cases h : (s.arb res).owner with
  | none => rw [endGrant_of_free h, h]
  | some q =>
    rw [endGrant_of_owned h]
    exact (congrArg Arb.owner (State.arb_modArb ..)).trans (Arb.endGrant_fields ..).1

theorem endGrant_parked (s : State) (res : Resource) (atEnd : List Nat) : ((s.endGrant res atEnd).arb res).parked = (s.arb res).parked := by
  cases h : (s.arb res).owner with
  | none => rw [endGrant_of_free h]
  | some q =>
    rw [endGrant_of_owned h]
    exact (congrArg Arb.parked (State.arb_modArb ..)).trans (Arb.endGrant_fields ..).2.1

theorem objArbCommit_put {r : Req} {v : Byte} (h : resourceOf v.toNat = some res) : objArbCommit.put ⟨r, [v], s, s, s⟩ s =
    s.modArb res fun a => { a with pending := some a.snapshot, commitState := 1 } := by
  simp only [objArbCommit, W.v_byte, h]

theorem reply_arb (s : State) (p : Path) (code code' ty : Byte) (e : BitVec 16) (data : List Byte) (k : Resource) :
    ((s.instructorCommand p code).reply code' ty e data).arb k = s.arb k :=
  State.arb_congr (by simp) (by simp) (by simp) k

end

/-- Settles O31: a grant and its end change the arbiter of the resource as `Arb.grant` and `Arb.endGrant` do, whatever else the
granted transfer does. -/
theorem arbiterCommands : Obligations.ArbiterCommands := by
  unfold Obligations.ArbiterCommands
  refine ⟨?_, ?_, ?_, ?_, ?_, ?_, ?_, ?_, ?_, ?_, ?_, ?_, ?_, ?_⟩
  · intro s res cost q x howner hclk hwin
    obtain ⟨t, hexec, harb⟩ := exec_arbGrant (cost := cost) howner hclk hwin
    refine ⟨t, hexec, ?_⟩
    rw [harb]
    exact ⟨rfl, rfl, rfl, _, Arb.grant_won (getElem?_of_winner hwin) .., rfl, rfl, rfl, rfl, rfl, rfl, rfl⟩
  · intro s res cost h
    exact exec_arbGrant_none h
  · intro s q hclk howner
    refine ⟨_, exec_grantEnd hclk .ronko, endGrant_owner s .ronko _, endGrant_parked s .ronko _, by simp, by simp, fun k x hx hk hwaits hreq => ?_⟩
    have hends := mem_requesting (res := .ronko) hx hreq
    have howner' : s.link.owner ≠ some k := by rw [howner]; simpa using Ne.symm hk
    rw [endGrant_of_owned (res := .ronko) howner]
    refine ((Arb.endGrant_fields s.link false _ s.free).2.2 k).trans ?_
    rw [hx, Option.map_some, Arb.waitCycles_of_throughout hx howner' hwaits hends]
  · intro s src q hclk howner hhead hq
    rw [exec_grantEnd hclk]
    refine congrArg Host.Outcome.next (if_pos ?_).symm
    simp [State.clocksRun, hclk, howner, hhead, hq]
  · intro s q hclk howner
    refine ⟨_, exec_grantEnd hclk .pool, ?_⟩
    have hfinish : finishPort s [] = (servePort s q).endGrant .pool ((poolRequesting (servePort s q) []).map (·.1)) := by
      rw [finishPort, howner]
    simp only [hfinish]
    exact ⟨endGrant_owner _ .pool _, (endGrant_parked _ .pool _).trans (by simp [State.arb])⟩
  · intro s res hres howner
    cases hclk : s.clk.pllLock with
    | false => exact exec_grantEnd_of_stopped hclk res
    | true =>
      rw [exec_grantEnd hclk]
      cases res with
      | pool => exact congrArg Host.Outcome.next (by rw [finishPort, show s.pool.owner = none from howner])
      | ronko => exact congrArg Host.Outcome.next (endGrant_of_free howner _)
      | fsp => exact absurd rfl hres
  · intro s res hclk
    exact ⟨exec_grantEnd_of_stopped hclk res, congrArg Host.Outcome.next (if_neg (by simp [State.clocksRun, hclk]))⟩
  · intro s h
    cases hclk : s.clk.pllLock with
    | false => exact exec_grantEnd_of_stopped hclk .fsp
    | true =>
      rw [exec_grantEnd hclk]
      refine congrArg Host.Outcome.next (if_pos ?_)
      simpa [Option.isSome_iff_ne_none] using h
  · intro s hclk hentry hfill
    refine ⟨_, exec_grantEnd hclk .fsp, ?_⟩
    simp only [hentry, hfill, Option.isSome_none, Bool.or_self, Bool.false_eq_true, if_false]
    exact (congrArg Arb.owner (releaseIfDue_arb _ .fsp)).trans (endGrant_owner s .fsp _)
  · intro s res p hclk hp
    refine ⟨_, exec_arbWindowBoundary hclk res, ?_⟩
    rw [State.arb_modArb, Arb.apply_of_some hp]
    have hreq : ∀ (x : Requesting) (q : Nat) (c : ReqCfg), (s.arb res).reqs[q]? = some x → p.cfgs[q]? = some c →
      ((s.arb res).reqs.zipIdx.map fun (r, i) => { r with active := p.cfgs[i]?.getD r.active })[q]? = some { x with active := c } := by
      intro x q c hx hc
      simp [List.getElem?_map, List.getElem?_zipIdx, hx, hc]
    split_ifs
    · exact ⟨rfl, rfl, rfl, fun q x c hx hc => by simp only [Arb.held, List.getElem?_map, hreq x q c hx hc, Option.map_some]⟩
    · exact ⟨rfl, rfl, rfl, fun q x c hx hc => by
        simp only [Arb.refilled, List.getElem?_map, hreq x q c hx hc, Option.map_some, Requesting.refill]⟩
  · intro s res q x hclk hp hmaster hx
    refine ⟨_, exec_arbWindowBoundary hclk res, ?_⟩
    have hrefills : (res == .fsp && s.fsp.master != .master) = false := by
      cases res <;> simp_all
    rw [State.arb_modArb, Arb.apply_of_none hp, hrefills, if_neg Bool.false_ne_true, Arb.refilled, List.getElem?_map, hx, Option.map_some,
      Requesting.refill_eq]
  · intro s q x hclk hp hmaster hx
    refine ⟨_, exec_arbWindowBoundary hclk .fsp, ?_⟩
    change ((if Resource.fsp == .fsp && s.fsp.master != .master then s.bus.apply.held else s.bus.apply.refilled).reqs)[q]? = _
    rw [if_pos (by simpa using hmaster), Arb.apply_of_none hp, Arb.held, List.getElem?_map, hx, Option.map_some]
  · intro s r v res h hres
    refine ⟨_, congrArg Host.Outcome.next (perform_admitted h), rfl, ?_⟩
    simp only [objArbCommit_put hres, reply_arb, State.arb_modArb, true_and]
    exact ⟨fun k hk => State.arb_modArb_ne s _ hk, by simp⟩
  · intro s res q x hx hres hclk hforced hreq
    refine ⟨s.modArb res fun a => (a.modReq q Requesting.waitedOut).force q, ?_, fun k hk => State.arb_modArb_ne s _ hk, ?_⟩
    · simp only [exec, execArbWaitForce, hx]
      refine congrArg Host.Outcome.next (if_pos ?_)
      simp [hres, State.clocksRun, hclk, hforced, hreq]
    · rw [State.arb_modArb]
      refine ⟨rfl, ?_, ?_⟩
      · simp [Arb.force, Arb.modReq, hx]
      · simp only [Arb.force, Arb.modReq, List.getElem?_modify, hx, if_true, Option.map_some, Requesting.waitedOut, Requesting.waited,
          Option.some.injEq, Option.map_eq_map]
        exact congrArg (Nat.min 65535) (show x.wait + (x.active.limit - x.wait) = max x.wait x.active.limit by omega)

end Sys2Proof.Machine
end

section
/-! PROOFS. Fast steps, trigger inputs and outputs, and pulse generators (R408 to R413). -/

namespace Sys2Proof.Machine

section
variable {s : State} {n : Ch}

/-! ### Supervision taken again -/

theorem Channel.feTick_eq (c : Channel) : c.feTick = { c with fe := c.feTick.fe } := by
  unfold Channel.feTick
  split_ifs <;> rfl

/-- The supervision of a tick writes its own two parts of a channel. -/
theorem Channel.superviseAgain_eq (c : Channel) (k : Nat) : ∃ r f, c.superviseAgain k = { c with rate := r, fe := f } :=
  ⟨_, _, Channel.feTick_eq _⟩

theorem superviseAgain_chan_eq (s : State) (n : Ch) :
    ∃ r f, (superviseAgain s n).chan n = { s.chan n with rate := r, fe := f } := by
  obtain ⟨r, f, h⟩ := Channel.superviseAgain_eq (s.chan n) (s.engine n.engine).nActive
  exact ⟨r, f, by rw [superviseAgain, State.chan_modCh, h]⟩

/-! ### Fast steps -/

theorem Channel.fireFast_of_armed {c : Channel} (h : c.fast.state = .armed) : c.fireFast =
    ({ c with out := { c.out with fastHeld := true, code := c.fastCode, queue := [], queueLevel := 0 },
              fast := { c.fast with state := .fired, held := c.fastCode, due := (c.fast.sp, c.mode.mode == .fi) :: c.fast.due } }
      : Channel).present := if_pos (by simpa using h)

theorem Channel.fireFast_of_ne {c : Channel} (h : c.fast.state ≠ .armed) : c.fireFast = c := if_neg (by simpa using h)

theorem Channel.fireFast_cap (c : Channel) : c.fireFast.cap = c.cap := by
  unfold Channel.fireFast
  split_ifs <;> rfl

/-- A channel that takes over the set-point of its one fired step. -/
def Channel.fastTaken (c : Channel) (x : F32) (current : Bool) (fires : Nat) : Channel :=
  let c' : Channel :=
    { c with sp := if current then { c.sp with i := x } else { c.sp with v := x }
             loop := { c.loop with first := true }
             fast := { c.fast with due := [], fires := c.fast.fires.add fires
                                   state := if c.fast.state == .fired then .idle else c.fast.state } }
  if c'.mode.mode == (if current then .fi else .fv) then
    { c' with sp := { c'.sp with active := x, ramp := f32To64 x } }
  else c'

theorem Channel.fastTaken_of_mode {c : Channel} {x : F32} {current : Bool} (h : c.mode.mode = (if current then .fi else .fv))
    (fires : Nat) : (c.fastTaken x current fires).sp.active = x ∧ (c.fastTaken x current fires).loop.first = true ∧
      (c.fastTaken x current fires).fast =
        { c.fast with due := [], fires := c.fast.fires.add fires, state := if c.fast.state == .fired then .idle else c.fast.state } := by
  unfold Channel.fastTaken
  dsimp only
  rw [if_pos (by simpa using h)]
  exact ⟨rfl, rfl, rfl⟩

theorem exec_fastSpApply {x : F32} {current : Bool} (h : (s.chan n).fast.due = [(x, current)]) :
    exec (.fastSpApply n) s = .next (superviseAgain (s.modCh n fun c => c.fastTaken x current 1) n) := by
  simp only [exec, execFastSpApply, h]
  rfl

/-! ### Trigger inputs -/

/-- Nothing of channel n's captures, and of its fast step, differs. -/
structure TrigKept (n : Ch) (s t : State) : Prop where
  cap : (t.chan n).cap = (s.chan n).cap
  fast : (t.chan n).fast = (s.chan n).fast
  others : OthersKept n s t

theorem SweepOnly.trigKept {t : State} (h : SweepOnly n s t) : TrigKept n s t := by
  obtain ⟨w, hw⟩ := h
  exact ⟨by simp [hw], by simp [hw], fun m hm => by simp [hw, hm]⟩

theorem missTrigger_sweepOnly (s : State) (n : Ch) : SweepOnly n s (missTrigger s n) :=
  .ite ((modSweep_sweepOnly s n _).trans (raiseEvent_sweepOnly ..)) (modSweep_sweepOnly s n _)

theorem advance_sweepOnly (s : State) (n : Ch) : SweepOnly n s (advance s n) := by
  unfold advance
  dsimp only
  refine .ite (.refl n s) ?_
  split
  · exact .refl n s
  · exact .refl n s
  · exact missTrigger_sweepOnly s n
  · exact modSweep_sweepOnly s n _
  · split
    · exact .refl n s
    · exact modSweep_sweepOnly s n _
    · exact .ite (modSweep_sweepOnly s n _) (.ite (modSweep_sweepOnly s n _) (missTrigger_sweepOnly s n))

/-- A source's trigger at one channel: its fast step, and its list. -/
theorem fireChannel_trig (s : State) (n : Ch) (src : Nat) : ((fireChannel s n src).chan n).cap = (s.chan n).cap ∧
    ((s.chan n).fast.src = src → (s.chan n).fast.state = .armed → ((fireChannel s n src).chan n).fast.state = .fired) ∧
    OthersKept n s (fireChannel s n src) := by
  unfold fireChannel
  extract_lets fired
  have hcap : (fired.chan n).cap = (s.chan n).cap := by
    simp only [fired]
    split_ifs
    · rw [State.chan_modCh, Channel.fireFast_cap]
    · rfl
  have hfired : (s.chan n).fast.src = src → (s.chan n).fast.state = .armed → (fired.chan n).fast.state = .fired := fun hsrc harm => by
    simp only [fired, hsrc, if_true, State.chan_modCh, Channel.fireFast_of_armed harm]
    rfl
  have hothers : OthersKept n s fired := fun m hm => by
    simp only [fired]
    split_ifs
    · exact State.chan_modCh_ne _ _ _ _ hm
    · rfl
  have hkept : TrigKept n fired (if (fired.chan n).sweep.advSrc = src then advance fired n else fired) :=
    (SweepOnly.ite (advance_sweepOnly fired n) (.refl n fired)).trigKept
  exact ⟨hkept.cap.trans hcap, fun hsrc harm => by rw [hkept.fast]; exact hfired hsrc harm, fun m hm => (hkept.others m hm).trans (hothers m hm)⟩

/-- What an edge of a trigger input does at one channel. -/
def edgeAt (k : Nat) (s : State) (n : Ch) : State :=
  if ((fireChannel s n k).chan n).cap.src = k then (fireChannel s n k).modCh n Channel.captureTrigger else fireChannel s n k

theorem Channel.captureTrigger_fast (c : Channel) : c.captureTrigger.fast = c.fast := by
  unfold Channel.captureTrigger
  split <;> rfl

theorem edgeAt_trig (k : Nat) (s : State) (n : Ch) :
    ((s.chan n).cap.src = k → (s.chan n).cap.state = .armed → ((edgeAt k s n).chan n).cap.triggered = true) ∧
    ((s.chan n).fast.src = k → (s.chan n).fast.state = .armed → ((edgeAt k s n).chan n).fast.state = .fired) ∧
    OthersKept n s (edgeAt k s n) := by
  obtain ⟨hcap, hfast, hothers⟩ := fireChannel_trig s n k
  unfold edgeAt
  rw [hcap]
  split_ifs with hsrc
  · refine ⟨fun _ harm => ?_, fun hf harm => ?_, fun m hm => (State.chan_modCh_ne _ _ _ _ hm).trans (hothers m hm)⟩
    · rw [State.chan_modCh, Channel.captureTrigger, hcap, harm]
    · rw [State.chan_modCh, Channel.captureTrigger_fast]
      exact hfast hf harm
  · exact ⟨fun h => absurd h hsrc, hfast, hothers⟩

/-- A state in which an edge of a trigger input in RUN has been noted. -/
def State.edgeNoted (s : State) (i : Fin 4) : State :=
  { s with trig := { s.trig with ins := s.trig.ins.set i.val { s.trig.ins[i.val] with
      count := (s.trig.ins[i.val]).count.inc, live := !(s.trig.ins[i.val]).pol, edgeAt := some s.now } } }

/-- A state in which an edge of a trigger input in RUN has done its work on the channels and the outputs. -/
def State.edgeDone (s : State) (i : Fin 4) : State :=
  firePulse (forEach allCh (s.edgeNoted i) (edgeAt (i.val + 1))) 3 i.val

theorem exec_triginEdge (h : s.dev.state = .run) (i : Fin 4) : exec (.triginEdge i) s = .next
    (if (s.edgeDone i).ronko.trig.triginIssue = i.val + 1 then issueTemplate (s.edgeDone i) else s.edgeDone i) := by
  have hat : edgeAt (i.val + 1) = fun s n =>
      if ((fireChannel s n (i.val + 1)).chan n).cap.src = i.val + 1 then (fireChannel s n (i.val + 1)).modCh n Channel.captureTrigger
      else fireChannel s n (i.val + 1) := rfl
  simp only [exec, execTriginEdge, running_of_run h, if_true, State.edgeDone, State.edgeNoted, hat]

/-- The trigger inputs stand as they were noted. -/
theorem edgeAt_trig_frame (k : Nat) (s : State) (n : Ch) : (edgeAt k s n).trig = s.trig := by
  unfold edgeAt
  split_ifs <;> simp

/-! ### Pulse generators -/

theorem pwgEvent_pwgs (s : State) (p : Fin 4) : (pwgEvent s p).trig = s.trig ∧ (pwgEvent s p).ch = s.ch := by simp

theorem State.modPwg_pwgs (s : State) (p : Fin 4) (f : Pwg → Pwg) : (s.modPwg p f).trig.pwgs[p.val] = f s.trig.pwgs[p.val] := by
  simp [State.modPwg]

end

end Sys2Proof.Machine
end

section
/-! PROOFS. Sweep lists: their ends, a step's end, and a step's start (R446 to R454). -/

namespace Sys2Proof.Machine

section
variable {s t u : State} {n : Ch}

/-- Channel n's sweep has become that of `f`, and nothing else of the channels differs. -/
def SweepIs (n : Ch) (f : Sweep → Sweep) (s t : State) : Prop := ∀ m, t.chan m = (s.modSweep n f).chan m

theorem SweepIs.sweep {f : Sweep → Sweep} (h : SweepIs n f s t) : (t.chan n).sweep = f (s.chan n).sweep := by
  rw [h n, State.modSweep, State.chan_modCh]

theorem SweepIs.mode {f : Sweep → Sweep} (h : SweepIs n f s t) : (t.chan n).mode = (s.chan n).mode := by
  rw [h n, State.modSweep, State.chan_modCh]

theorem SweepIs.others {f : Sweep → Sweep} (h : SweepIs n f s t) : OthersKept n s t := fun m hm => by
  rw [h m, State.modSweep, State.chan_modCh_ne _ _ _ _ hm]

theorem SweepIs.of_ch (h : t.ch = s.ch) : SweepIs n id s t := fun m => by
  by_cases hm : m = n
  · subst hm
    rw [State.modSweep, State.chan_modCh, State.chan_congr h]
    rfl
  · rw [State.modSweep, State.chan_modCh_ne _ _ _ _ hm, State.chan_congr h]

theorem SweepIs.trans {f g : Sweep → Sweep} (h : SweepIs n f s t) (h' : SweepIs n g t u) : SweepIs n (g ∘ f) s u := fun m => by
  by_cases hm : m = n
  · subst hm
    simp only [h' m, State.modSweep, State.chan_modCh, h m, Function.comp_apply]
  · simp only [h' m, State.modSweep, State.chan_modCh_ne _ _ _ _ hm, h m]

theorem modSweep_sweepIs (s : State) (n : Ch) (f : Sweep → Sweep) : SweepIs n f s (s.modSweep n f) := fun _ => rfl

/-! ### The list's end -/

/-- A sweep whose list has ended. -/
def Sweep.endedBy (w : Sweep) (reason : Nat) (code : Byte) : Sweep :=
  { w with listState := .ended, phase := .none, endReason := reason, endCode := code, cur := none, window := {}, left := 0,
           startDue := false, abortDue := false, trigPending := false, reopen := false }

theorem listEnd_sweepIs (s : State) (n : Ch) (reason : Nat) (code : Byte) :
    SweepIs n (·.endedBy reason code) s (listEnd s n reason code) := fun m => by
  rw [listEnd, raiseEvent_chan]
  rfl

theorem markEvent_ch (s : State) (n : Ch) (r : StepRec) : (markEvent s n r).ch = s.ch := by simp

theorem SweepIs.congr {f g : Sweep → Sweep} (h : SweepIs n f s t) (hfg : f (s.chan n).sweep = g (s.chan n).sweep) :
    SweepIs n g s t := fun m => by
  by_cases hm : m = n
  · subst hm
    rw [h m, State.modSweep, State.modSweep, State.chan_modCh, State.chan_modCh, hfg]
  · rw [h.others m hm, State.modSweep, State.chan_modCh_ne _ _ _ _ hm]

theorem markEvent_sweepIs (s : State) (n : Ch) (r : StepRec) : SweepIs n id s (markEvent s n r) := .of_ch (markEvent_ch s n r)

/-- A sweep whose count of short results has become k. -/
def Sweep.withShort (k : Counter) (w : Sweep) : Sweep := { w with short := k }

theorem SweepIs.withShort_self (h : t.ch = s.ch) : SweepIs n (Sweep.withShort (s.chan n).sweep.short) s t :=
  (SweepIs.of_ch h).congr rfl

theorem stageWords_ch (s : State) (src : HwSource) (ws : List Word) : (stageWords s src ws).ch = s.ch := by simp

/-- Of the channels a result that is written changes the count of short ones alone. -/
theorem writeResult_sweepIs (s : State) (n : Ch) (short : Bool) : ∃ k, SweepIs n (Sweep.withShort k) s (writeResult s n short) ∧
    ((s.chan n).sweep.cur ≠ none → (s.chan n).sweep.resultRing ≠ 0xFFFF → short = true → k = (s.chan n).sweep.short.inc) := by
  unfold writeResult
  dsimp only
  split
  · exact ⟨_, .withShort_self rfl, fun h => by simp_all⟩
  · by_cases hring : (s.chan n).sweep.resultRing = 0xFFFF
    · rw [if_pos hring]
      exact ⟨_, .withShort_self rfl, fun _ h => absurd hring h⟩
    · rw [if_neg hring]
      refine ⟨if short then (s.chan n).sweep.short.inc else (s.chan n).sweep.short, ?_, fun _ _ h => if_pos h⟩
      exact ((modSweep_sweepIs s n _).trans (.of_ch (stageWords_ch _ _ _))).congr rfl

theorem writeResult_if_sweepIs (s : State) (n : Ch) (write short : Bool) : ∃ k,
    SweepIs n (Sweep.withShort k) s (if write then writeResult s n short else s) ∧
    (write = true → (s.chan n).sweep.cur ≠ none → (s.chan n).sweep.resultRing ≠ 0xFFFF → short = true →
      k = (s.chan n).sweep.short.inc) := by
  cases write with
  | true =>
    obtain ⟨k, hk, hshort⟩ := writeResult_sweepIs s n short
    exact ⟨k, hk, fun _ => hshort⟩
  | false => exact ⟨_, .withShort_self rfl, nofun⟩

/-- A list that runs ends with its reason, whatever of the step in progress is written. -/
theorem listCut_sweepIs {reason : Nat} (h : (s.chan n).sweep.active = true) :
    ∃ k, SweepIs n (fun w => (w.withShort k).endedBy reason 0) s (listCut s n reason) := by
  have hwritten : ∃ k, SweepIs n (Sweep.withShort k) s (if (s.chan n).sweep.window.samples = 0 then s else writeResult s n true) := by
    split_ifs
    · exact ⟨_, .withShort_self rfl⟩
    · obtain ⟨k, hk, -⟩ := writeResult_sweepIs s n true
      exact ⟨k, hk⟩
  obtain ⟨k, hk⟩ := hwritten
  refine ⟨k, ?_⟩
  unfold listCut
  simp only [h, Bool.not_true, Bool.false_eq_true, if_false]
  split
  · exact (hk.trans (markEvent_sweepIs _ n _)).trans (listEnd_sweepIs _ n _ _)
  · exact hk.trans (listEnd_sweepIs _ n _ _)

/-! ### A step's end -/

/-- A sweep whose step has ended and whose list goes on. -/
def Sweep.stepped (w : Sweep) : Sweep :=
  let go := w.advSrc == 0 || w.trigPending || w.abortDue
  { w with cur := none, window := {}, left := 0, phase := if go then .none else .waitTrig, startDue := go,
           trigPending := false, abortDue := false, reopen := false }

/-- The sweep after a step's end: the list ends with a step that says so, and else goes on. -/
def Sweep.after (w : Sweep) (r : StepRec) (k : Counter) : Sweep :=
  if r.endStep then (w.withShort k).endedBy 1 0 else (w.withShort k).stepped

theorem stepEnd_sweepIs {r : StepRec} (hcur : (s.chan n).sweep.cur = some r)
    (hgoes : r.endStep = true ∨ (s.chan n).sweep.replay = false) (write short : Bool) : ∃ k,
    SweepIs n (·.after r k) s (stepEnd s n write short) ∧
    (write = true → (s.chan n).sweep.resultRing ≠ 0xFFFF → short = true → k = (s.chan n).sweep.short.inc) := by
  obtain ⟨k, hk, hshort⟩ := writeResult_if_sweepIs s n write short
  refine ⟨k, ?_, fun hw => hshort hw (by rw [hcur]; exact nofun)⟩
  have hmarked := hk.trans (markEvent_sweepIs _ n r)
  unfold stepEnd
  simp only [hcur]
  cases hend : r.endStep with
  | true =>
    simp only [if_true]
    exact (hmarked.trans (listEnd_sweepIs _ n _ _)).congr (by simp [Sweep.after, hend])
  | false =>
    have hreplay : (s.chan n).sweep.replay = false := by simpa [hend] using hgoes
    simp only [hreplay, Bool.false_and, Bool.false_eq_true, if_false]
    exact (hmarked.trans (modSweep_sweepIs _ n _)).congr (by simp [Sweep.after, hend, Sweep.stepped])

/-! ### A step's start -/

/-- The channels and the count of steps stand. -/
def StepsKept (s t : State) : Prop := t.ch = s.ch ∧ t.hamper.stepsTotal = s.hamper.stepsTotal

theorem StepsKept.trans (h : StepsKept s t) (h' : StepsKept t u) : StepsKept s u := ⟨h'.1.trans h.1, h'.2.trans h.2⟩

@[simp] theorem Hamper.setRing_stepsTotal (h : Hamper) (r : Ring) : (h.setRing r).stepsTotal = h.stepsTotal := rfl

theorem checkDesc_stepsKept (s : State) (num : Nat) : StepsKept s (checkDesc s num) := by
  refine ⟨by simp, ?_⟩
  unfold checkDesc
  split
  · split <;> simp
  · rfl

theorem eccTurn_stepsKept (s : State) (r : Ring) (k : Nat) : StepsKept s (eccTurn s r k) := by
  refine ⟨by simp, ?_⟩
  simp [eccTurn]

theorem eccRead_stepsKept (s : State) (x : Rec) : StepsKept s (eccRead s x) := by
  unfold eccRead
  split_ifs <;> exact ⟨rfl, rfl⟩

theorem setRing_stepsKept (s : State) (r : Ring) : StepsKept s (s.setRing r) := ⟨rfl, rfl⟩

theorem stepAt_stepsKept (s : State) (r : Ring) (k : Nat) : StepsKept s (stepAt s r k).1 := by
  unfold stepAt
  split
  · exact ⟨rfl, rfl⟩
  · split
    · exact eccTurn_stepsKept s r k
    · exact eccRead_stepsKept s _

/-- A sweep whose pass has gone on. -/
def Sweep.passed (at_ len loop : Nat) (w : Sweep) : Sweep := { w with passAt := at_, passLen := len, loopNow := loop }

/-- Of the channels a step record that is read changes the pass of a replayed list alone. -/
structure PassOnly (n : Ch) (s t : State) : Prop where
  stepSeq : (t.chan n).sweep.stepSeq = (s.chan n).sweep.stepSeq
  total : t.hamper.stepsTotal = s.hamper.stepsTotal
  others : OthersKept n s t

theorem StepsKept.passOnly (h : StepsKept s t) : PassOnly n s t :=
  ⟨by rw [State.chan_congr h.1], h.2, fun m _ => State.chan_congr h.1 m⟩

theorem PassOnly.trans (h : PassOnly n s t) (h' : PassOnly n t u) : PassOnly n s u :=
  ⟨h'.stepSeq.trans h.stepSeq, h'.total.trans h.total, fun m hm => (h'.others m hm).trans (h.others m hm)⟩

theorem modSweep_passOnly (s : State) (n : Ch) {f : Sweep → Sweep} (hf : ∀ w, ∃ p l k, f w = w.passed p l k) :
    PassOnly n s (s.modSweep n f) := by
  obtain ⟨p, l, k, h⟩ := hf (s.chan n).sweep
  exact ⟨by rw [(modSweep_sweepIs s n f).sweep, h]; rfl, rfl, (modSweep_sweepIs s n f).others⟩

theorem nextStep_passOnly (s : State) (n : Ch) : PassOnly n s (nextStep s n).1 := by
  have hdesc := checkDesc_stepsKept s (s.chan n).sweep.listRing
  unfold nextStep
  dsimp only
  split
  · exact hdesc.passOnly
  · rename_i r _
    split
    · exact hdesc.passOnly
    · split
      · exact (hdesc.passOnly.trans (modSweep_passOnly _ n fun _ => ⟨_, _, _, rfl⟩)).trans (stepAt_stepsKept ..).passOnly
      · split
        · rename_i hstep
          have hat := stepAt_stepsKept (checkDesc s (s.chan n).sweep.listRing) r 0
          rw [hstep] at hat
          exact ((hdesc.trans hat).trans (setRing_stepsKept ..)).passOnly
        · exact (hdesc.trans (stepAt_stepsKept ..)).passOnly

/-- Of a channel's sweep a step that has been begun changes the phase and its ticks alone, and nothing of the other channels. -/
structure PhaseOnly (n : Ch) (s t : State) : Prop where
  cur : (t.chan n).sweep.cur = (s.chan n).sweep.cur
  listState : (t.chan n).sweep.listState = (s.chan n).sweep.listState
  stepId : (t.chan n).sweep.stepId = (s.chan n).sweep.stepId
  stepSeq : (t.chan n).sweep.stepSeq = (s.chan n).sweep.stepSeq
  total : t.hamper.stepsTotal = s.hamper.stepsTotal
  others : OthersKept n s t

theorem PhaseOnly.refl (n : Ch) (s : State) : PhaseOnly n s s := ⟨rfl, rfl, rfl, rfl, rfl, fun _ _ => rfl⟩

theorem PhaseOnly.trans (h : PhaseOnly n s t) (h' : PhaseOnly n t u) : PhaseOnly n s u :=
  ⟨h'.cur.trans h.cur, h'.listState.trans h.listState, h'.stepId.trans h.stepId, h'.stepSeq.trans h.stepSeq, h'.total.trans h.total,
    fun m hm => (h'.others m hm).trans (h.others m hm)⟩

theorem modCh_phaseOnly {f : Channel → Channel} (h : (f (s.chan n)).sweep = (s.chan n).sweep) : PhaseOnly n s (s.modCh n f) := by
  refine ⟨?_, ?_, ?_, ?_, rfl, fun m hm => State.chan_modCh_ne _ _ _ _ hm⟩ <;> rw [State.chan_modCh, h]

theorem modSweep_phaseOnly (s : State) (n : Ch) {f : Sweep → Sweep} (hf : ∀ w, ∃ p l, f w = { w with phase := p, left := l }) :
    PhaseOnly n s (s.modSweep n f) := by
  obtain ⟨p, l, h⟩ := hf (s.chan n).sweep
  refine ⟨?_, ?_, ?_, ?_, rfl, fun m hm => State.chan_modCh_ne _ _ _ _ hm⟩ <;> rw [State.modSweep, State.chan_modCh, h]

theorem dwellStart_phaseOnly (s : State) (n : Ch) (r : StepRec) : PhaseOnly n s (dwellStart s n r) :=
  modSweep_phaseOnly s n fun _ => ⟨.dwell, r.dwell, rfl⟩

theorem modSweep_ranging_phaseOnly (s : State) (n : Ch) : PhaseOnly n s (s.modSweep n fun w => { w with phase := .ranging }) :=
  modSweep_phaseOnly s n fun w => ⟨.ranging, w.left, rfl⟩

theorem stepSp_phaseOnly (s : State) (n : Ch) (r : StepRec) : PhaseOnly n s (stepSp s n r) := by
  obtain ⟨x, f, h⟩ := superviseAgain_chan_eq (s.modCh n fun c => c.setSp (f32To64 r.sp)) n
  have hsweep : ((stepSp s n r).chan n).sweep = (s.chan n).sweep := by
    rw [stepSp, h, State.chan_modCh]
    rfl
  exact ⟨by rw [hsweep], by rw [hsweep], by rw [hsweep], by rw [hsweep], by simp [stepSp], (stepSp_rangesKept s n r).others⟩

theorem Channel.acceptRange_sweep (c : Channel) (v : Nat) : (c.acceptRange v).sweep = c.sweep := by
  unfold Channel.acceptRange Channel.disarm
  split_ifs <;> rfl

/-- A sweep that begins a step. -/
def Sweep.begun (w : Sweep) (r : StepRec) : Sweep :=
  { w with listState := .running, stepSeq := w.stepSeq.inc, stepId := r.stepId, cur := some r, window := {},
           startDue := false, abortDue := false, trigPending := false, missedOnce := false, reopen := false }

/-- A step that starts is the one in progress, or its range request has ended the list. -/
structure StepRan (n : Ch) (r : StepRec) (s t : State) : Prop where
  stepId : (t.chan n).sweep.stepId = r.stepId
  stepSeq : (t.chan n).sweep.stepSeq = (s.chan n).sweep.stepSeq.inc
  total : t.hamper.stepsTotal = s.hamper.stepsTotal + 1
  runs : (t.chan n).sweep.cur = some r ∧ (t.chan n).sweep.listState = .running ∨
    r.rngEn = true ∧ (t.chan n).sweep.listState = .ended ∧ (t.chan n).sweep.endReason = 5
  others : OthersKept n s t

/-- The state in which a step has been begun, before its range request and its set-point. -/
def stepBegun (s : State) (n : Ch) (r : StepRec) : State :=
  { s with hamper := { s.hamper with stepsTotal := s.hamper.stepsTotal + 1 } }.modSweep n (·.begun r)

theorem stepBegun_sweepIs (s : State) (n : Ch) (r : StepRec) : SweepIs n (·.begun r) s (stepBegun s n r) := fun _ => rfl

theorem PhaseOnly.stepRan {r : StepRec} (h : PhaseOnly n (stepBegun s n r) t) : StepRan n r s t := by
  have hbegun := (stepBegun_sweepIs s n r).sweep
  refine ⟨by rw [h.stepId, hbegun]; rfl, by rw [h.stepSeq, hbegun]; rfl, h.total, Or.inl ⟨by rw [h.cur, hbegun]; rfl, by rw [h.listState, hbegun]; rfl⟩,
    fun m hm => (h.others m hm).trans ((stepBegun_sweepIs s n r).others m hm)⟩

theorem listEnd_stepRan {r : StepRec} (h : PhaseOnly n (stepBegun s n r) t) (hen : r.rngEn = true) (code : Byte) :
    StepRan n r s (listEnd t n 5 code) := by
  have hran := h.stepRan
  have hend := listEnd_sweepIs t n 5 code
  refine ⟨by rw [hend.sweep]; exact hran.stepId, by rw [hend.sweep]; exact hran.stepSeq, by simpa [listEnd, State.modSweep] using hran.total,
    Or.inr ⟨hen, by rw [hend.sweep]; rfl, by rw [hend.sweep]; rfl⟩, fun m hm => (hend.others m hm).trans (hran.others m hm)⟩

/-- A begun step with a range request: the request ends the list, waits, or is accepted. -/
def rangedStep (u : State) (n : Ch) (r : StepRec) : State :=
  let code := rangeCode u n r.range true
  let waits := code == eNotReady && (u.chan n).rng.running
  if code != eOk && !waits then listEnd u n 5 code
  else if waits then
    (u.modCh n fun c => { c with rng := { c.rng with stepReq := some r.range } }).modSweep n fun w => { w with phase := .ranging }
  else if (u.chan n).range = r.range then dwellStart (stepSp (u.modCh n fun c => c.acceptRange r.range) n r) n r
  else (u.modCh n fun c => c.acceptRange r.range).modSweep n fun w => { w with phase := .ranging }

theorem runStep_eq (s : State) (n : Ch) (r : StepRec) : runStep s n r =
    if r.rngEn then rangedStep (if r.order then stepSp (stepBegun s n r) n r else stepBegun s n r) n r
    else dwellStart (stepSp (stepBegun s n r) n r) n r := rfl

theorem runStep_of_noRange {r : StepRec} (h : r.rngEn = false) : PhaseOnly n (stepBegun s n r) (runStep s n r) := by
  rw [runStep_eq, h]
  exact (stepSp_phaseOnly ..).trans (dwellStart_phaseOnly ..)

theorem rangedStep_stepRan {r : StepRec} (h : PhaseOnly n (stepBegun s n r) u) (hen : r.rngEn = true) :
    StepRan n r s (rangedStep u n r) := by
  have haccepted : PhaseOnly n (stepBegun s n r) (u.modCh n fun c => c.acceptRange r.range) :=
    h.trans (modCh_phaseOnly (Channel.acceptRange_sweep ..))
  unfold rangedStep
  dsimp only
  split_ifs
  · exact listEnd_stepRan h hen _
  · exact ((h.trans (modCh_phaseOnly rfl)).trans (modSweep_ranging_phaseOnly ..)).stepRan
  · exact ((haccepted.trans (stepSp_phaseOnly ..)).trans (dwellStart_phaseOnly ..)).stepRan
  · exact (haccepted.trans (modSweep_ranging_phaseOnly ..)).stepRan

theorem runStep_stepRan (s : State) (n : Ch) (r : StepRec) : StepRan n r s (runStep s n r) := by
  cases hen : r.rngEn with
  | false => exact (runStep_of_noRange hen).stepRan
  | true =>
    rw [runStep_eq, hen, if_pos rfl]
    refine rangedStep_stepRan ?_ hen
    split_ifs
    · exact stepSp_phaseOnly ..
    · exact .refl ..

end

end Sys2Proof.Machine
end

section
/-! PROOFS. The commands of fast steps, triggers and sweeps (R408 to R413, R446 to R454). -/

namespace Sys2Proof.Machine

section
variable {s : State} {n : Ch}

/-! ### The edge of a trigger input -/

theorem forEach_edgeAt_trig (k : Nat) (s : State) : (forEach allCh s (edgeAt k)).trig = s.trig :=
  forEach_trig _ _ (fun s n => edgeAt_trig_frame k s n) s

theorem firePulse_ins (s : State) (src arg : Nat) : (firePulse s src arg).trig.ins = s.trig.ins ∧ (firePulse s src arg).ch = s.ch := by
  unfold firePulse
  split_ifs <;> exact ⟨rfl, rfl⟩

theorem State.edgeNoted_count (s : State) (i : Fin 4) : ((s.edgeNoted i).trig.ins[i.val]).count = (s.trig.ins[i.val]).count.inc := by
  simp [State.edgeNoted]

/-- The edge's work on the channels and inputs is done before the pulses and the link's frame. -/
theorem exec_triginEdge_parts (h : s.dev.state = .run) (i : Fin 4) : ∃ t, exec (.triginEdge i) s = .next t ∧
    t.ch = (forEach allCh (s.edgeNoted i) (edgeAt (i.val + 1))).ch ∧ t.trig.ins = (s.edgeNoted i).trig.ins := by
  have hdone : (s.edgeDone i).trig.ins = (s.edgeNoted i).trig.ins := by
    rw [State.edgeDone, (firePulse_ins ..).1, forEach_edgeAt_trig]
  have hch : (s.edgeDone i).ch = (forEach allCh (s.edgeNoted i) (edgeAt (i.val + 1))).ch := (firePulse_ins ..).2
  refine ⟨_, exec_triginEdge h i, ?_, ?_⟩
  · simp [hch]
  · simp [hdone]

theorem edgeDone_chan (s : State) (i : Fin 4) (n : Ch) : ∃ u, u.chan n = s.chan n ∧
    (forEach allCh (s.edgeNoted i) (edgeAt (i.val + 1))).chan n = (edgeAt (i.val + 1) u n).chan n :=
  chan_forEach_own (fun s n => (edgeAt_trig (i.val + 1) s n).2.2) nodup_allCh (mem_allCh n) (s.edgeNoted i)

/-! ### Advance triggers -/

theorem advance_of_waitStart (hsrc : (s.chan n).sweep.advSrc ≠ 0) (h : (s.chan n).sweep.listState = .waitStart) :
    advance s n = s.modSweep n fun w => { w with startDue := true } := by
  simp only [advance, hsrc, if_false, h]

theorem advance_of_waitTrig (hsrc : (s.chan n).sweep.advSrc ≠ 0) (h : (s.chan n).sweep.listState = .running)
    (hphase : (s.chan n).sweep.phase = .waitTrig) : advance s n = s.modSweep n fun w => { w with startDue := true } := by
  simp only [advance, hsrc, if_false, h, hphase]

/-- A trigger that comes within a step does what the policy says (R450). -/
theorem advance_of_busy (hsrc : (s.chan n).sweep.advSrc ≠ 0) (h : (s.chan n).sweep.listState = .running)
    (hphase : (s.chan n).sweep.phase = .dwell ∨ (s.chan n).sweep.phase = .measure ∨ (s.chan n).sweep.phase = .ranging) : advance s n =
      if (s.chan n).sweep.stepPolicy = 1 && !(s.chan n).sweep.trigPending then s.modSweep n fun w => { w with trigPending := true }
      else if (s.chan n).sweep.stepPolicy = 2 && !(s.chan n).sweep.abortDue then s.modSweep n fun w => { w with abortDue := true }
      else missTrigger s n := by
  rcases hphase with hphase | hphase | hphase <;> simp only [advance, hsrc, if_false, h, hphase]

theorem missTrigger_missed (s : State) (n : Ch) : ((missTrigger s n).chan n).sweep.missed = (s.chan n).sweep.missed.inc := by
  unfold missTrigger
  dsimp only
  split_ifs <;> simp [State.modSweep]

/-! ### Steps -/

theorem exec_stepStart (hclk : s.clk.pllLock = true) (hsweeps : (s.chan n).sweeps = true) (hmay : (s.chan n).sweep.mayStart = true) :
    exec (.stepStart n) s = match nextStep s n with
      | (s, .empty) => .next (listEnd s n 3 0)
      | (s, .bad id) => .next (listEnd (sendMsg s (srcCh n) 0xB0 .warn id) n 4 0)
      | (s, .step r) => .next (runStep s n r) := by
  refine if_pos ?_
  simp [State.clocksRun, hclk, hsweeps, hmay]

theorem exec_stepStart_step {u : State} {r : StepRec} (hclk : s.clk.pllLock = true) (hsweeps : (s.chan n).sweeps = true)
    (hmay : (s.chan n).sweep.mayStart = true) (hnext : nextStep s n = (u, .step r)) :
    exec (.stepStart n) s = .next (runStep u n r) ∧ PassOnly n s u := by
  refine ⟨by rw [exec_stepStart hclk hsweeps hmay, hnext], ?_⟩
  have hpass := nextStep_passOnly s n
  rwa [hnext] at hpass

/-- A list that ends in some state after its start leaves the other channels. -/
theorem listEnd_ends {u : State} (hothers : OthersKept n s u) (reason : Nat) (code : Byte) :
    ((listEnd u n reason code).chan n).sweep.listState = .ended ∧ ((listEnd u n reason code).chan n).sweep.endReason = reason ∧
      OthersKept n s (listEnd u n reason code) := by
  have hend := listEnd_sweepIs u n reason code
  exact ⟨by rw [hend.sweep]; rfl, by rw [hend.sweep]; rfl, fun m hm => (hend.others m hm).trans (hothers m hm)⟩

theorem exec_stepMeasureEnd_full (hclk : s.clk.pllLock = true) (hphase : (s.chan n).sweep.phase = .measure)
    (hleft : (s.chan n).sweep.left = 0) (hstate : (s.chan n).sweep.listState = .running) (hopen : (s.chan n).sweep.window.opened = true) :
    exec (.stepMeasureEnd n) s = .next (stepEnd s n true false) := by
  simp [exec, execStepMeasureEnd, State.clocksRun, hclk, hphase, hleft, hstate, hopen]

theorem exec_stepMeasureEnd_abort (hclk : s.clk.pllLock = true)
    (hphase : (s.chan n).sweep.phase = .dwell ∨ (s.chan n).sweep.phase = .measure) (hleft : (s.chan n).sweep.left ≠ 0)
    (hstate : (s.chan n).sweep.listState = .running) (habort : (s.chan n).sweep.abortDue = true) :
    exec (.stepMeasureEnd n) s = .next (stepEnd s n true true) := by
  simp [exec, execStepMeasureEnd, State.clocksRun, hclk, hphase, hleft, hstate, habort]

/-- A sweep whose window opens. -/
def Sweep.opened (r : StepRec) (tick : W64) (w : Sweep) : Sweep :=
  { w with phase := .measure, left := r.meas, window := { w.window with opened := true, openTbc := tick } }

theorem exec_stepDwellEnd {r : StepRec} (hclk : s.clk.pllLock = true) (hcur : (s.chan n).sweep.cur = some r)
    (hphase : (s.chan n).sweep.phase = .dwell) (hleft : (s.chan n).sweep.left = 0) (hstate : (s.chan n).sweep.listState = .running) :
    exec (.stepDwellEnd n) s = .next (if r.meas = 0
      then stepEnd (s.modSweep n (·.opened r (s.chan n).last.tick)) n ((s.chan n).sweep.stepPolicy == 2) false
      else s.modSweep n (·.opened r (s.chan n).last.tick)) := by
  simp only [exec, execStepDwellEnd, hcur]
  refine if_pos ?_
  simp [State.clocksRun, hclk, hphase, hleft, hstate]

end

/-! ### The list's requests -/

theorem listStart_perform {r : Req} {v : Byte} {s : State} {n : Ch} (h : (objListStart n).Admits r tU8 [v] s) : ∃ t,
    exec (.listStart r n v) s = .next t ∧ t.answer.code = eOk ∧ t.ch = (listBegin s n).ch :=
  ⟨_, congrArg Host.Outcome.next (perform_admitted h), rfl, by simp [objListStart, chCmd]⟩

theorem listStop_perform {r : Req} {v : Byte} {s : State} {n : Ch} (h : (objListStop n).Admits r tU8 [v] s) : ∃ t,
    exec (.listStop r n v) s = .next t ∧ t.answer.code = eOk ∧ t.ch = (listCut s n 6).ch :=
  ⟨_, congrArg Host.Outcome.next (perform_admitted h), rfl, by simp [objListStop, chCmd]⟩

theorem swpTrig_perform {r : Req} {v : Byte} {s : State} {n : Ch} (h : (objSwpTrig n).Admits r tU8 [v] s) : ∃ t,
    exec (.swpTrig r n v) s = .next t ∧ t.answer.code = eOk ∧ t.ch = (advance s n).ch :=
  ⟨_, congrArg Host.Outcome.next (perform_admitted h), rfl, by simp [objSwpTrig, chCmd]⟩

/-- Settles O27: the fast steps and the trigger inputs are updates channel by channel, the generators of their own registers, and the
list's commands of the channel's sweep. -/
theorem fastStepsTriggersAndSweeps : Obligations.FastStepsTriggersAndSweeps := by
  unfold Obligations.FastStepsTriggersAndSweeps
  refine ⟨⟨?_, ?_, ?_, ?_, ?_⟩, ⟨?_, ?_, ?_, ?_, ?_, ?_, ?_⟩, ?_, ?_, ?_, ?_, ?_, ?_, ?_, ?_, ?_, ?_, ?_, ?_, ?_, ?_, ?_, ?_, ?_⟩
  · intro s r n v h
    exact perform_done h fun _ => rfl
  · intro s n harm
    refine ⟨_, rfl, ?_⟩
    simp only [State.chan_modCh, Channel.fireFast_of_armed harm]
    exact ⟨rfl, rfl, rfl, rfl, rfl, rfl, fun m hm => State.chan_modCh_ne _ _ _ _ hm⟩
  · intro s n harm
    exact congrArg Host.Outcome.next (State.modCh_of_fixed (Channel.fireFast_of_ne harm))
  · intro s n x current hfired hdue hmode
    refine ⟨_, exec_fastSpApply hdue, ?_⟩
    obtain ⟨y, f, hsup⟩ := superviseAgain_chan_eq (s.modCh n fun c => c.fastTaken x current 1) n
    obtain ⟨hsp, hfirst, hfast⟩ := Channel.fastTaken_of_mode (x := x) hmode 1
    rw [hsup, State.chan_modCh]
    refine ⟨?_, ?_, ?_, hsp, hfirst, fun m hm => ?_⟩
    · rw [hfast, hfired]
      rfl
    · rw [hfast]
    · rw [hfast]
    · exact ((superviseAgain_chan _ n).2.2.2 m hm).trans (State.chan_modCh_ne _ _ _ _ hm)
  · intro s n hdue
    simp only [exec, execFastSpApply, hdue]
  · intro s i hrun
    obtain ⟨t, hexec, hch, hins⟩ := exec_triginEdge_parts hrun i
    refine ⟨t, hexec, by rw [hins, State.edgeNoted_count], fun n hsrc harm => ?_, fun n hsrc harm => ?_⟩
    · obtain ⟨u, hu, hedge⟩ := edgeDone_chan s i n
      rw [State.chan_congr hch, hedge]
      exact (edgeAt_trig (i.val + 1) u n).1 (by rw [hu]; exact hsrc) (by rw [hu]; exact harm)
    · obtain ⟨u, hu, hedge⟩ := edgeDone_chan s i n
      rw [State.chan_congr hch, hedge]
      exact (edgeAt_trig (i.val + 1) u n).2.1 (by rw [hu]; exact hsrc) (by rw [hu]; exact harm)
  · intro s i hrun
    exact if_neg (Bool.eq_false_iff.mp (not_running_of_ne hrun))
  · intro s j
    refine ⟨_, rfl, by simp, fun k hk => ?_, rfl⟩
    exact Vector.getElem_set_ne j.isLt k.isLt (fun h => hk (Fin.ext h.symm))
  · intro s p w hw hrun
    refine ⟨pwgEvent (s.modPwg p Pwg.wrap) p, ?_, ?_, by simp⟩
    · simp only [exec, execPwgRun, hw, hrun, if_true, Bool.false_eq_true, if_false]
    · rw [(pwgEvent_pwgs _ p).1, State.modPwg_pwgs]
  · intro s p w hw
    refine ⟨_, if_neg (Bool.eq_false_iff.mp hw), State.modPwg_pwgs s p _, rfl⟩
  · intro s p hclk hrun
    refine ⟨pwgEvent (s.modPwg p Pwg.wrap) p, if_pos (by simp [State.clocksRun, hclk, hrun]), ?_⟩
    rw [(pwgEvent_pwgs _ p).1, State.modPwg_pwgs]
    exact ⟨rfl, rfl, by simp⟩
  · intro s p hclk hwidth
    refine ⟨_, congrArg Host.Outcome.next (if_pos hclk), ?_, rfl⟩
    rw [State.modPwg_pwgs, if_pos hwidth]
  · intro s r n v h
    obtain ⟨t, hexec, hcode, hch⟩ := listStart_perform h
    refine ⟨t, hexec, hcode, ?_⟩
    simp only [State.chan_congr hch, listBegin, State.modSweep, State.chan_modCh, true_and]
    exact fun m hm => (State.chan_congr hch m).trans (State.chan_modCh_ne _ _ _ _ hm)
  · intro s r n v h hactive
    obtain ⟨t, hexec, hcode, hch⟩ := listStop_perform h
    obtain ⟨k, hk⟩ := listCut_sweepIs (reason := 6) hactive
    refine ⟨t, hexec, hcode, ?_⟩
    rw [State.chan_congr hch, hk.sweep, hk.mode]
    exact ⟨rfl, rfl, rfl, fun m hm => (State.chan_congr hch m).trans (hk.others m hm)⟩
  · intro s r n v h hstate hphase
    obtain ⟨t, hexec, hcode, hch⟩ := swpTrig_perform h
    have hsrc : (s.chan n).sweep.advSrc ≠ 0 := by
      have hmode : ((s.chan n).sweep.advSrc == 6) = true := h.passes_mode_state.1
      rw [beq_iff_eq.mp hmode]
      decide
    have hk := modSweep_sweepIs s n fun w => { w with startDue := true }
    rw [advance_of_waitTrig hsrc hstate hphase] at hch
    refine ⟨t, hexec, hcode, ?_, fun m hm => (State.chan_congr hch m).trans (hk.others m hm)⟩
    rw [State.chan_congr hch, hk.sweep]
  · intro s r n v h
    exact perform_done h fun _ => rfl
  · intro s n hsrc hstate
    exact congrArg Host.Outcome.next (advance_of_waitStart hsrc hstate)
  · intro s n hsrc hstate hphase
    have hbusy := advance_of_busy hsrc hstate hphase
    refine ⟨fun hp hpend => congrArg Host.Outcome.next (hbusy.trans (if_pos (by simp [hp, hpend]))), fun hp hpend => ?_, fun hp => ?_⟩
    · exact congrArg Host.Outcome.next ((hbusy.trans (if_neg (by simp [hp]))).trans (if_pos (by simp [hp, hpend])))
    · have hmiss : advance s n = missTrigger s n := (hbusy.trans (if_neg (by simp [hp]))).trans (if_neg (by simp [hp]))
      exact ⟨_, congrArg Host.Outcome.next hmiss, missTrigger_missed s n, (missTrigger_sweepOnly s n).others⟩
  · intro s n u q hclk hsweeps hmay hnext
    obtain ⟨hexec, hpass⟩ := exec_stepStart_step hclk hsweeps hmay hnext
    obtain ⟨hid, hseq, htotal, hruns, hothers⟩ := runStep_stepRan u n q
    exact ⟨_, hexec, hid, hseq.trans (congrArg Counter.inc hpass.stepSeq), htotal.trans (congrArg (· + 1) hpass.total), hruns,
      fun m hm => (hothers m hm).trans (hpass.others m hm)⟩
  · intro s n u k hclk hsweeps hmay hnext
    have hpass := nextStep_passOnly s n
    rw [hnext] at hpass
    exact ⟨_, (exec_stepStart hclk hsweeps hmay).trans (by rw [hnext]),
      listEnd_ends (u := sendMsg u (srcCh n) 0xB0 .warn k) (fun m hm => (sendMsg_chan ..).trans (hpass.others m hm)) 4 0⟩
  · intro s n u hclk hsweeps hmay hnext
    have hpass := nextStep_passOnly s n
    rw [hnext] at hpass
    exact ⟨_, (exec_stepStart hclk hsweeps hmay).trans (by rw [hnext]), listEnd_ends hpass.others 3 0⟩
  · intro s n r hclk hcur hphase hleft hstate hopen hend hreplay
    obtain ⟨k, hk, -⟩ := stepEnd_sweepIs hcur (.inr hreplay) true false
    refine ⟨_, exec_stepMeasureEnd_full hclk hphase hleft hstate hopen, ?_⟩
    rw [hk.sweep, Sweep.after, if_neg (Bool.eq_false_iff.mp hend)]
    exact ⟨hstate, rfl, rfl, rfl, hk.others⟩
  · intro s n r hclk hcur hphase hleft hstate habort hend hreplay
    obtain ⟨k, hk, hshort⟩ := stepEnd_sweepIs hcur (.inr hreplay) true true
    refine ⟨_, exec_stepMeasureEnd_abort hclk hphase hleft hstate habort, ?_⟩
    rw [hk.sweep, Sweep.after, if_neg (Bool.eq_false_iff.mp hend)]
    refine ⟨rfl, ?_, fun hring => hshort rfl hring rfl, hk.others⟩
    simp [Sweep.stepped, Sweep.withShort, habort]
  · intro s n r hclk hcur hphase hleft hstate hmeas hend
    have hopened := modSweep_sweepIs s n (·.opened r (s.chan n).last.tick)
    obtain ⟨k, hk, -⟩ := stepEnd_sweepIs (s := s.modSweep n (·.opened r (s.chan n).last.tick)) (n := n) (r := r)
      (by rw [hopened.sweep]; exact hcur) (.inl hend) ((s.chan n).sweep.stepPolicy == 2) false
    refine ⟨_, (exec_stepDwellEnd hclk hcur hphase hleft hstate).trans (congrArg Host.Outcome.next (if_pos hmeas)), ?_⟩
    rw [hk.sweep, Sweep.after, if_pos hend]
    exact ⟨rfl, rfl, fun m hm => (hk.others m hm).trans (hopened.others m hm)⟩
  · intro s n hsrc hstate hphase
    exact congrArg Host.Outcome.next (advance_of_waitTrig hsrc hstate hphase)
  · intro s n u q hclk hsweeps hmay hnext hen
    obtain ⟨hexec, hpass⟩ := exec_stepStart_step hclk hsweeps hmay hnext
    obtain ⟨hid, hseq, htotal, hruns, hothers⟩ := runStep_stepRan u n q
    exact ⟨_, hexec, (hruns.resolve_right fun h => by simp [hen] at h).1, hid, hseq.trans (congrArg Counter.inc hpass.stepSeq),
      htotal.trans (congrArg (· + 1) hpass.total), fun m hm => (hothers m hm).trans (hpass.others m hm)⟩
  · intro s n hclk hsweeps hmay htest hring
    have hnext : nextStep s n = (s, .empty) := by
      simp only [nextStep, checkDesc_of_noTest htest, hring]
    exact ⟨_, (exec_stepStart hclk hsweeps hmay).trans (by rw [hnext]), listEnd_ends (fun _ _ => rfl) 3 0⟩
  · intro s n r hclk hcur hphase hleft hstate hmeas
    have hopened := modSweep_sweepIs s n (·.opened r (s.chan n).last.tick)
    refine ⟨_, (exec_stepDwellEnd hclk hcur hphase hleft hstate).trans (congrArg Host.Outcome.next (if_neg hmeas)), ?_⟩
    rw [hopened.sweep]
    exact ⟨rfl, rfl, rfl, hopened.others⟩
  · intro s n r hclk hcur hphase hleft hstate hopen hend
    obtain ⟨k, hk, -⟩ := stepEnd_sweepIs hcur (.inl hend) true false
    refine ⟨_, exec_stepMeasureEnd_full hclk hphase hleft hstate hopen, ?_⟩
    rw [hk.sweep, Sweep.after, if_pos hend]
    exact ⟨rfl, rfl, rfl, hk.others⟩

end Sys2Proof.Machine
end

section
/-! PROOFS. The Ethernet link, its address, ARP and echo, and the MAC's frames and management bus (R135 to R143). -/

namespace Sys2Proof.Machine

section
variable {s : State}

/-! ### What leaves over Ethernet -/

/-- What is sent leaves all of the state but the emissions. -/
theorem State.sendEth_eq (s : State) (e : Emission) : s.sendEth e = { s with emit := if s.macLives then e :: s.emit else s.emit } := by
  unfold State.sendEth
  split_ifs <;> rfl

theorem State.macLives_modEth {f : Eth → Eth} (haddr : (f s.eth).macAddr = s.eth.macAddr) (hout : (f s.eth).refOut = s.eth.refOut) :
    (s.modEth f).macLives = s.macLives := by
  simp only [State.macLives, State.macReady, State.clocksRun, State.modEth, haddr, hout]

/-- What is sent after a step that leaves the MAC's address and clock as they are. -/
theorem State.sendEth_modEth {f : Eth → Eth} (haddr : (f s.eth).macAddr = s.eth.macAddr) (hout : (f s.eth).refOut = s.eth.refOut)
    (e : Emission) : (s.modEth f).sendEth e = { s with eth := f s.eth, emit := if s.macLives then e :: s.emit else s.emit } := by
  rw [State.sendEth_eq, State.macLives_modEth haddr hout]
  rfl

theorem announce_fields (s : State) : (announce s).eth = s.eth ∧ (announce s).ch = s.ch := by
  unfold announce
  split_ifs
  · exact ⟨rfl, rfl⟩
  · rw [State.sendEth_eq]
    exact ⟨rfl, rfl⟩

/-! ### The link and its address -/

theorem exec_linkUp_dhcp {a b : Bool} (hrun : s.coreRuns = true) (hen : s.eth.dhcpEn = true) : exec (.linkUp a b) s = .next
    (State.sendEth { s with eth := { s.eth with linkUp := true, linkSpeed := if a then 2 else 1, linkFull := b, dhcpInUse := true,
                                                ip := 0, mask := 0, router := 0, leaseEnd := 0, dhcp := .discovering 1 } }
      (.dhcp .discover)) := by
  simp only [exec, execLinkUp, hrun, hen, Bool.not_true, Bool.false_eq_true, if_false, if_true]

theorem exec_linkUp_static {a b : Bool} (hrun : s.coreRuns = true) (hen : s.eth.dhcpEn = false) : exec (.linkUp a b) s = .next
    (announce { s with eth := { s.eth with linkUp := true, linkSpeed := if a then 2 else 1, linkFull := b, dhcpInUse := false,
                                           ip := s.eth.staticIp, mask := s.eth.staticMask, router := s.eth.staticGw, dhcp := .idle } }) := by
  simp only [exec, execLinkUp, hrun, hen, Bool.not_true, Bool.false_eq_true, if_false]

theorem macReady_of_lives (h : s.macLives = true) : s.macReady = true := by
  simp only [State.macLives, Bool.and_eq_true] at h
  exact h.1

/-! ### The MAC's frames -/

theorem frameToRing_fields (s : State) (bytes : List Byte) : (frameToRing s bytes).1.eth = s.eth ∧ (frameToRing s bytes).1.ch = s.ch := by
  unfold frameToRing
  split
  · exact ⟨rfl, rfl⟩
  · dsimp only
    split_ifs
    · exact ⟨rfl, rfl⟩
    · simp

/-- What Myvex makes of a frame after the MAC, and whether the receive ring has taken it. -/
def rxDone (bytes : List Byte) (x : State × Bool) : State :=
  let s := if x.1.coreRuns && isFragment bytes then x.1.modEth fun e => { e with ipFragDrop := e.ipFragDrop + 1 } else x.1
  if !x.2 || (s.coreRuns && (isFragment bytes || !s.eth.useful bytes)) then s.modEth Eth.drop else s

theorem rxDone_fields (bytes : List Byte) (x : State × Bool) : (rxDone bytes x).eth.rxFrames = x.1.eth.rxFrames ∧
    (rxDone bytes x).eth.rxFcsErr = x.1.eth.rxFcsErr ∧ (rxDone bytes x).ch = x.1.ch := by
  unfold rxDone
  dsimp only
  split_ifs <;> exact ⟨rfl, rfl, rfl⟩

theorem exec_macFrameRx {bytes : List Byte} {good : Bool} (hready : s.macReady = true) (hen : s.eth.rxEn = true) :
    exec (.macFrameRx bytes good) s =
      if !good then .next (s.modEth fun e => { e with rxFcsErr := e.rxFcsErr.inc })
      else if !s.eth.admits bytes then .next (s.modEth Eth.drop)
      else .next (rxDone bytes (frameToRing (s.modEth fun e => { e with rxFrames := e.rxFrames.inc }) bytes)) :=
  if_neg (by simp [hready, hen])

/-- The frame at the head of the transmit ring, one record long, goes out and leaves its ring (R143). -/
theorem exec_macFrameTx_sends {r : Ring} {x : Rec} {rest : List Rec} (hon : s.txOn = true) (htest : s.badger.testActive = false)
    (hring : s.hamper.ring s.eth.txRing = some r) (hcons : r.consumer = roleMacTx) (hgap : r.headGap = 0) (hrecs : r.recs = x :: rest)
    (hmark : x.mark = false) (hbad : x.bad = false) (hone : headBundle r.recs = [x]) : exec .macFrameTx s = .next
      ((((eccRead s x).setRing r.freeHead).modEth fun e => { e with txFrames := e.txFrames.inc }).send (.ethernet (frameOf r [x]))) := by
  have hgap' : (r.headGap != 0) = false := by simp [hgap]
  simp only [exec, execMacFrameTx, hon, checkDesc_of_noTest htest, hring, hcons, hgap', bne_self_eq_false, Bool.not_true, Bool.false_eq_true,
    if_false]
  rw [hone]
  simp only [hrecs, hmark, hbad, Bool.or_self, Bool.false_eq_true, if_false, List.length_singleton, takeHeads]

theorem eccRead_ch (s : State) (x : Rec) : (eccRead s x).ch = s.ch := by
  unfold eccRead
  split_ifs <;> rfl

end

/-- Settles O45: each command is one update of the Ethernet state, and what it sends leaves with it. -/
theorem ethernetAndMacCommands : Obligations.EthernetAndMacCommands := by
  unfold Obligations.EthernetAndMacCommands
  refine ⟨⟨?_, ?_, ?_, ?_, ?_, ?_, ?_, ?_, ?_, ?_, ?_, ?_⟩, ?_, ?_, ?_, ?_, ?_, ?_, ?_, ?_⟩
  · intro s a b hrun hen
    refine ⟨_, exec_linkUp_dhcp hrun hen, ?_⟩
    rw [State.sendEth_eq]
    exact ⟨rfl, rfl, rfl, rfl, rfl, rfl, rfl, rfl⟩
  · intro s a b hrun hen
    refine ⟨_, exec_linkUp_static hrun hen, ?_⟩
    rw [(announce_fields _).1, (announce_fields _).2]
    exact ⟨rfl, rfl, rfl, rfl, rfl, rfl⟩
  · intro s
    rfl
  · intro s k hrun hlink hdhcp
    have hon : (s.coreRuns && s.eth.linkUp) = true := by simp [hrun, hlink]
    simp only [exec, execDhcpRetransmit, hdhcp]
    rw [if_pos hon, State.sendEth_modEth rfl rfl]
  · intro s ip mask router k hrun hready hlink hasks
    have hon : (s.coreRuns && s.macReady && s.eth.linkUp && s.eth.dhcp.asks) = true := by simp [hrun, hready, hlink, hasks]
    refine ⟨_, if_pos hon, ?_⟩
    split_ifs
    · exact ⟨rfl, rfl⟩
    · exact announce_fields _
  · intro s hrun hdhcp
    simp only [exec, execDhcpRenew, hdhcp, hrun, BEq.rfl, Bool.and_self, if_true]
    rw [State.sendEth_modEth rfl rfl]
  · intro s hrun hdhcp
    have hasks : (s.eth.dhcp == .bound || s.eth.dhcp == .renewing) = true := by simpa using hdhcp
    simp only [exec, execDhcpRebind, hasks, hrun, Bool.and_self, if_true]
    rw [State.sendEth_modEth rfl rfl]
  · intro s hrun hdhcp
    have hheld : (s.eth.dhcp == .bound || s.eth.dhcp == .renewing || s.eth.dhcp == .rebinding) = true := by
      simpa [or_assoc] using hdhcp
    simp only [exec, execLeaseExpire, hheld, hrun, Bool.and_self, if_true]
    rfl
  · intro s sender mac hrun hlives hip
    simp only [exec, execArpRequest, hrun, macReady_of_lives hlives, bne_iff_ne.mpr hip, BEq.rfl, Bool.and_self, if_true]
    refine ⟨_, rfl, ?_⟩
    rw [State.sendEth_modEth rfl rfl, if_pos hlives]
    exact ⟨rfl, List.length_take_le .., rfl, rfl⟩
  · intro s ip
    rfl
  · intro s src payload hrun hlives hip hsent
    simp only [exec, execIcmpEcho, hrun, hlives, bne_iff_ne.mpr hip, BEq.rfl, Bool.and_self, if_true, hsent]
    rw [State.sendEth_modEth rfl rfl, if_pos hlives]
  · intro s src payload hrun hlives hip hsent
    simp only [exec, execIcmpEcho, hrun, hlives, bne_iff_ne.mpr hip, BEq.rfl, Bool.and_self, if_true, not_lt.mpr hsent, if_false]
    rfl
  · intro s bytes hready hen
    exact (exec_macFrameRx hready hen).trans (if_pos rfl)
  · intro s bytes hready hen hadm
    exact (exec_macFrameRx hready hen).trans ((if_neg (by decide)).trans (if_pos (by simp [hadm])))
  · intro s bytes hready hen hadm
    refine ⟨_, (exec_macFrameRx hready hen).trans ((if_neg (by decide)).trans (if_neg (by simp [hadm]))), ?_⟩
    obtain ⟨heth, hch⟩ := frameToRing_fields (s.modEth fun e => { e with rxFrames := e.rxFrames.inc }) bytes
    obtain ⟨hframes, hfcs, hch'⟩ := rxDone_fields bytes (frameToRing (s.modEth fun e => { e with rxFrames := e.rxFrames.inc }) bytes)
    exact ⟨by rw [hframes, heth]; rfl, by rw [hfcs, heth]; rfl, hch'.trans hch⟩
  · intro s bytes good hen
    exact if_pos (by simp [hen])
  · intro s r x rest hon htest hring hcons hgap hrecs hmark hbad hone
    refine ⟨_, r.freeHead, exec_macFrameTx_sends hon htest hring hcons hgap hrecs hmark hbad hone, ?_⟩
    have hch := eccRead_ch s x
    refine ⟨?_, ?_, congrArg List.tail hrecs, ?_, hch⟩
    · simp [State.modEth, State.send]
    · change ((eccRead s x).hamper.setRing r.freeHead).ring r.freeHead.num = some r.freeHead
      exact Hamper.ring_setRing_self _ (Hamper.ring_spec hring).2
    · simp [State.modEth, State.send]
  · intro s w hgo
    refine congrArg (fun m => Host.Outcome.next { s with eth := { s.eth with mdio := m } }) ?_
    simp [Mdio.write, hgo]
  · intro s d hgo
    exact if_pos hgo
  · intro s hen hout hpresent
    exact if_pos (by simp [hen, hout, hpresent])

end Sys2Proof.Machine
end

section
/-! PROOFS. The Ronko ports: what sending, forwarding and what follows a port's change leave of the ports (R485 to R502). -/

namespace Sys2Proof.Machine

section
variable {s t u : State} {a b c : PortSt}

/-! ### What the outputs change -/

/-- What an output's sending changes of its port: its numbers, credits, stores, queues and counts of what it has sent. -/
structure OutOnly (a b : PortSt) : Prop where
  eq : b = { a with
    txSeq := b.txSeq, txXseq := b.txXseq, credits := b.credits, xcredits := b.xcredits, txFrames := b.txFrames, kept := b.kept,
    xkept := b.xkept, outX := b.outX, outFwd := b.outFwd, lastIn := b.lastIn, fwdRow := b.fwdRow, retries := b.retries }

theorem OutOnly.refl (a : PortSt) : OutOnly a a := ⟨rfl⟩

theorem OutOnly.trans (h : OutOnly a b) (h' : OutOnly b c) : OutOnly a c := ⟨by rw [h'.eq, h.eq]⟩

theorem OutOnly.link (h : OutOnly a b) : b.link = a.link := by rw [h.eq]
theorem OutOnly.rxSeq (h : OutOnly a b) : b.rxSeq = a.rxSeq := by rw [h.eq]
theorem OutOnly.nakSent (h : OutOnly a b) : b.nakSent = a.nakSent := by rw [h.eq]
theorem OutOnly.rxFrames (h : OutOnly a b) : b.rxFrames = a.rxFrames := by rw [h.eq]

/-- Nothing of the state but the ports' outputs and the emissions differs. -/
structure Outputs (s t : State) : Prop where
  eq : t = { s with ronko := { s.ronko with ports := t.ronko.ports }, emit := t.emit }
  port : ∀ q, OutOnly (s.port q) (t.port q)

namespace Outputs

theorem refl (s : State) : Outputs s s := ⟨rfl, fun _ => .refl _⟩

theorem trans (h : Outputs s t) (h' : Outputs t u) : Outputs s u :=
  ⟨by rw [h'.eq, h.eq], fun q => (h.port q).trans (h'.port q)⟩

theorem modPort (s : State) (p : Port) {f : PortSt → PortSt} (hf : ∀ a, OutOnly a (f a)) : Outputs s (s.modPort p f) :=
  ⟨rfl, fun q => by
    rw [State.port_modPort_if]
    split_ifs
    · exact hf _
    · exact .refl _⟩

theorem send (s : State) (e : Emission) : Outputs s (s.send e) := ⟨rfl, fun _ => .refl _⟩

theorem ite {p : Prop} [Decidable p] (h : Outputs s t) (h' : Outputs s u) : Outputs s (if p then t else u) := by
  split_ifs
  · exact h
  · exact h'

theorem forEach {α : Type} {f : State → α → State} (hf : ∀ s a, Outputs s (f s a)) (l : List α) (s : State) :
    Outputs s (Machine.forEach l s f) := by
  induction l generalizing s with
  | nil => exact .refl s
  | cons a l ih => exact (hf s a).trans (ih (f s a))

theorem ch (h : Outputs s t) : t.ch = s.ch := by rw [h.eq]
theorem trig (h : Outputs s t) : t.ronko.trig = s.ronko.trig := by rw [h.eq]

end Outputs

theorem sendLc_outputs (s : State) (p : Port) (type value : Byte) : Outputs s (sendLc s p type value) := .send s _

theorem freeBuffer_outputs (s : State) (p : Port) (bytes : List Byte) (express : Bool) : Outputs s (freeBuffer s p bytes express) :=
  .ite (.refl s) (sendLc_outputs ..)

theorem sendFrame_outputs (s : State) (p : Port) (bytes : List Byte) : Outputs s (s.sendFrame p bytes) := ⟨rfl, fun _ => .refl _⟩

theorem sendNormal_outputs (s : State) (p : Port) (bytes : List Byte) : Outputs s (sendNormal s p bytes) :=
  (Outputs.modPort s p fun _ => ⟨rfl⟩).trans (sendFrame_outputs ..)

theorem sendExpress_outputs (s : State) (p : Port) (bytes : List Byte) : Outputs s (sendExpress s p bytes) :=
  (Outputs.modPort s p fun _ => ⟨rfl⟩).trans (.send ..)

theorem resendX_outputs (s : State) (p : Port) (k : Kept) : Outputs s (resendX s p k) :=
  (Outputs.modPort s p fun _ => ⟨rfl⟩).trans (.send ..)

theorem resendN_outputs (s : State) (p : Port) (k : Kept) : Outputs s (resendN s p k) :=
  (Outputs.modPort s p fun _ => ⟨rfl⟩).trans (sendFrame_outputs ..)

theorem pumpNormal_outputs (s : State) (p : Port) : Outputs s (pumpNormal s p) := by
  unfold pumpNormal
  dsimp only
  split
  · exact .ite (resendN_outputs ..) (.refl s)
  · split
    · exact .ite (((Outputs.modPort s p fun _ => ⟨rfl⟩).trans (sendNormal_outputs ..)).trans (freeBuffer_outputs ..)) (.refl s)
    · exact .refl s

theorem pumpOne_outputs (s : State) (p : Port) : Outputs s (pumpOne s p) := by
  unfold pumpOne
  dsimp only
  split
  · exact .ite (resendX_outputs ..) (pumpNormal_outputs s p)
  · exact .ite (((Outputs.modPort s p fun _ => ⟨rfl⟩).trans (sendExpress_outputs ..)).trans (freeBuffer_outputs ..)) (pumpNormal_outputs s p)
  · exact pumpNormal_outputs s p

theorem pump_outputs (s : State) (p : Port) : Outputs s (pump s p) := .forEach (fun s _ => pumpOne_outputs s p) _ s

theorem forward_outputs (s : State) (p : Port) (outs : List Port) (bytes : List Byte) (express : Bool) :
    Outputs s (forward s p outs bytes express) := by
  have hjoined : Outputs s (forEach outs s fun s o => s.modPort o fun q =>
      if express then { q with outX := q.outX ++ [(p, bytes)] } else { q with outFwd := q.outFwd ++ [(p, bytes)] }) := by
    refine .forEach (fun s o => .modPort s o fun a => ?_) _ s
    split_ifs <;> exact ⟨rfl⟩
  exact hjoined.trans (.ite (freeBuffer_outputs ..) (.forEach pump_outputs _ _))

/-! ### What leaves the ports alone -/

theorem queueSup_ports (s : State) (p : Port) (kind : Byte) (dest : W16) (payload : List Byte) :
    (queueSup s p kind dest payload).ronko.ports = s.ronko.ports := by
  unfold queueSup
  split_ifs <;> rfl

theorem forEach_ports {α : Type} {f : State → α → State} (hf : ∀ s a, (f s a).ronko.ports = s.ronko.ports) (l : List α) (s : State) :
    (forEach l s f).ronko.ports = s.ronko.ports := forEach_keeps (·.ronko.ports) l f hf s

theorem ite_ports {p : Prop} [Decidable p] (ht : t.ronko.ports = s.ronko.ports) (hu : u.ronko.ports = s.ronko.ports) :
    (if p then t else u).ronko.ports = s.ronko.ports := by
  split_ifs
  · exact ht
  · exact hu

theorem answerForwarded_ronko (s : State) (f : Forwarded) (code : Byte) (retry : Nat) : (answerForwarded s f code retry).ronko = s.ronko := by
  simp

theorem takeNack_ports (s : State) (src tag entry : W16) (reason : Byte) : (takeNack s src tag entry reason).ronko.ports = s.ronko.ports := by
  unfold takeNack
  extract_lets counted filled
  have hfilled : filled.ronko.ports = s.ronko.ports := rfl
  refine ite_ports rfl ?_
  split
  · exact (congrArg Ronko.ports (answerForwarded_ronko ..)).trans hfilled
  · exact hfilled

theorem sendNack_ports (s : State) (entry tag : W16) (reason : Byte) : (sendNack s entry tag reason).ronko.ports = s.ronko.ports := by
  unfold sendNack
  extract_lets r counted
  have hcounted : counted.ronko.ports = s.ronko.ports := ite_ports rfl rfl
  exact ite_ports ((takeNack_ports ..).trans hcounted) ((forEach_ports (fun s p => queueSup_ports ..) _ _).trans hcounted)

theorem nackFrame_ports (s : State) (bytes : List Byte) (reason : Byte) : (nackFrame s bytes reason).ronko.ports = s.ronko.ports := by
  unfold nackFrame
  split
  · exact sendNack_ports ..
  · rfl

theorem startTx_ports (s : State) (k : Fin 4) (x : TxSlot) (data : List Byte) : (startTx s k x data).ronko.ports = s.ronko.ports :=
  ite_ports (sendNack_ports ..) rfl

theorem serveTx_ports (n : Nat) (s : State) : (serveTx n s).ronko.ports = s.ronko.ports := by
  induction n generalizing s with
  | zero => rfl
  | succ n ih =>
    unfold serveTx
    split
    · exact (ih _).trans (startTx_ports ..)
    · rfl

theorem refillTx_ports (s : State) : (refillTx s).ronko.ports = s.ronko.ports := serveTx_ports ..

theorem sendMsg_ronko (s : State) (src : BitVec 6) (kind : Byte) (base : Level) (detail : Nat) :
    (sendMsg s src kind base detail).ronko = s.ronko := by simp

theorem leaveLocked_ports (s : State) (next : TimeState) : (leaveLocked s next).ronko.ports = s.ronko.ports := by
  unfold leaveLocked
  dsimp only
  exact ite_ports ((congrArg Ronko.ports (sendMsg_ronko ..)).trans rfl) rfl

theorem activeChanged_ports (s : State) (p : Port) : (activeChanged s p).ronko.ports = s.ronko.ports := by
  unfold activeChanged
  refine ite_ports (ite_ports ?_ ?_) (ite_ports rfl (queueSup_ports ..))
  · exact leaveLocked_ports ..
  · exact ite_ports (leaveLocked_ports ..) rfl

/-! ### A port that goes down -/

/-- A port whose link has gone down (R488, R498). -/
def PortSt.fallen (q : PortSt) : PortSt :=
  { q with link := if q.en then .down else .disabled, linkDowns := q.linkDowns.inc, signal := false, kept := [], xkept := [],
           outX := [], outFwd := [] }

theorem State.port_of_ports (h : t.ronko.ports = s.ronko.ports) (p : Port) : t.port p = s.port p := by
  simp only [State.port, h]

theorem freeBuffer_ports (s : State) (p : Port) (bytes : List Byte) (express : Bool) :
    (freeBuffer s p bytes express).ronko.ports = s.ronko.ports :=
  ite_ports rfl rfl

/-- What follows a port's fall leaves the ports as they are. -/
theorem portDown_ports (s : State) (p : Port) (cause : Nat) : (portDown s p cause).ronko.ports = (s.modPort p PortSt.fallen).ronko.ports := by
  unfold portDown
  dsimp only
  refine (refillTx_ports _).trans ((forEach_ports (fun s x => sendNack_ports ..) _ _).trans ((forEach_ports (fun s x => nackFrame_ports ..) _ _).trans
    ((forEach_ports (fun s k => nackFrame_ports ..) _ _).trans ((activeChanged_ports ..).trans ((forEach_ports (fun s x => freeBuffer_ports ..) _ _).trans
      ((forEach_ports (fun s x => freeBuffer_ports ..) _ _).trans ((congrArg Ronko.ports (sendMsg_ronko ..)).trans ?_)))))))
  rfl

theorem portDown_port (s : State) (p : Port) (cause : Nat) : (portDown s p cause).port p = (s.port p).fallen := by
  rw [State.port_of_ports (portDown_ports s p cause), State.port_modPort_if, if_pos rfl]

end

end Sys2Proof.Machine
end

section
/-! PROOFS. Link controls, credits and repeated sendings (R496 to R499). -/

namespace Sys2Proof.Machine

/-! ### The two classes of frames -/

/-- The retry store of a class of frames, its credits, and what one of them puts on the link. -/
def PortSt.store (q : PortSt) (express : Bool) : List Kept := if express then q.xkept else q.kept

def PortSt.funds (q : PortSt) (express : Bool) : Nat := if express then q.xcredits else q.credits

def State.resent (s : State) (p : Port) (express : Bool) (k : Kept) : State := if express then resendX s p k else resendN s p k

def emissionsOf (express : Bool) : Nat := if express then 1 else 2

/-- No frame of a store waits to be sent again. -/
def Settled (ks : List Kept) : Prop := ks.any (·.again) = false

theorem Settled.find {ks : List Kept} (h : Settled ks) : ks.find? (·.again) = none :=
  List.find?_eq_none.mpr fun k hk => by simpa using List.any_eq_false.mp h k hk

theorem Settled.of_subset {ks js : List Kept} (h : Settled ks) (hsub : ∀ k ∈ js, k ∈ ks) : Settled js :=
  List.any_eq_false.mpr fun k hk => List.any_eq_false.mp h k (hsub k hk)

section
variable {s : State} {p : Port}

/-- An output with nothing to forward and no frame of the other class to repeat: one that is to be sent again goes, if it has a credit. -/
theorem pumpOne_of_resending {express : Bool} (hx : (s.port p).outX = []) (hfwd : (s.port p).outFwd = [])
    (hother : Settled ((s.port p).store !express)) : pumpOne s p = match ((s.port p).store express).find? (·.again) with
      | some k => if 0 < (s.port p).funds express then s.resent p express k else s
      | none => s := by
  have hforward : nextForward (s.port p) = none := by simp [nextForward, hfwd]
  cases express with
  | false =>
    have hx' : (s.port p).xkept.find? (·.again) = none := hother.find
    simp only [pumpOne, hx', hx, pumpNormal, hforward, PortSt.store, PortSt.funds, State.resent, Bool.false_eq_true, if_false]
      <;> cases (s.port p).kept.find? (·.again) <;> rfl
  | true =>
    have hn : (s.port p).kept.find? (·.again) = none := hother.find
    simp only [pumpOne, hx, pumpNormal, hn, hforward, PortSt.store, PortSt.funds, State.resent, if_true]
      <;> cases (s.port p).xkept.find? (·.again) <;> rfl

theorem forEach_fixed {α : Type} {f : State → State} (h : f s = s) (l : List α) : forEach l s (fun s _ => f s) = s := by
  induction l with
  | nil => rfl
  | cons a l ih => exact (congrArg (fun s => forEach l s fun s _ => f s) h).trans ih

/-- An output at rest sends nothing. -/
theorem pump_of_quiet (h : OutputQuiet (s.port p)) : pump s p = s := by
  obtain ⟨hx, hfwd, hkept, hxkept⟩ := h
  refine forEach_fixed (f := fun s => pumpOne s p) ?_ _
  have hnone : ((s.port p).store false).find? (·.again) = none := Settled.find hkept
  exact (pumpOne_of_resending (express := false) hx hfwd hxkept).trans (by rw [hnone])

/-! ### Frames that are sent again -/

theorem markSent_again {ds : List Kept} (h : Settled ds) (k : Kept) (ks : List Kept) :
    markSent (ds ++ { k with again := true } :: ks) = ds ++ { k with again := false, attempts := k.attempts + 1 } :: ks := by
  induction ds with
  | nil => rfl
  | cons d ds ih =>
    have hd : d.again = false := by simpa using List.any_eq_false.mp h d List.mem_cons_self
    rw [List.cons_append, markSent, hd, ih (h.of_subset fun k hk => List.mem_cons_of_mem d hk)]
    rfl

/-- The port whose next repeated frame has gone. -/
def PortSt.resent (q : PortSt) (express : Bool) : PortSt :=
  if express then { q with xkept := markSent q.xkept, xcredits := q.xcredits - 1, retries := q.retries.inc }
  else { q with kept := markSent q.kept, credits := q.credits - 1, retries := q.retries.inc }

theorem resent_port (s : State) (p : Port) (express : Bool) (k : Kept) :
    (s.resent p express k).port p = (s.port p).resent express := by
  cases express
  · exact (State.port_modPort_if s p p fun q => q.resent false).trans (if_pos rfl)
  · exact (State.port_modPort_if s p p fun q => q.resent true).trans (if_pos rfl)

theorem resent_emit (s : State) (p : Port) (express : Bool) (k : Kept) :
    (s.resent p express k).emit.length = s.emit.length + emissionsOf express := by
  cases express <;> rfl

/-- An output in the midst of its repeated sendings: those of `ds` have gone, those of `ks` wait. -/
structure Resending (q : PortSt) (express : Bool) (ds ks : List Kept) : Prop where
  outX : q.outX = []
  outFwd : q.outFwd = []
  other : Settled (q.store !express)
  store : q.store express = ds ++ ks.map fun k => { k with again := true }
  gone : Settled ds
  wait : Settled ks

theorem Resending.find {q : PortSt} {express : Bool} {ds ks : List Kept} (h : Resending q express ds ks) :
    (q.store express).find? (·.again) = ks.head?.map fun k => { k with again := true } := by
  rw [h.store, List.find?_append, h.gone.find]
  cases ks <;> rfl

theorem Resending.resent {q : PortSt} {express : Bool} {ds ks : List Kept} {k : Kept} (h : Resending q express ds (k :: ks)) :
    Resending (q.resent express) express (ds ++ [{ k with attempts := k.attempts + 1 }]) ks := by
  have hk : k.again = false := by simpa using List.any_eq_false.mp h.wait k List.mem_cons_self
  have hstore : (q.resent express).store express = markSent (q.store express) := by cases express <;> rfl
  have hmarked : markSent (q.store express) = (ds ++ [{ k with attempts := k.attempts + 1 }]) ++ ks.map fun k => { k with again := true } := by
    rw [h.store, List.map_cons, markSent_again h.gone, ← hk, List.append_assoc]
    rfl
  refine ⟨?_, ?_, ?_, hstore.trans hmarked, ?_, h.wait.of_subset fun j hj => List.mem_cons_of_mem k hj⟩
  · cases express <;> exact h.outX
  · cases express <;> exact h.outFwd
  · cases express <;> exact h.other
  · have hgone := h.gone
    simp only [Settled] at hgone ⊢
    rw [List.any_append, hgone]
    simpa using hk

theorem resent_funds (q : PortSt) (express : Bool) : (q.resent express).funds express = q.funds express - 1 := by
  cases express <;> rfl

theorem resent_link (q : PortSt) (express : Bool) : (q.resent express).link = q.link := by cases express <;> rfl

theorem resent_retries (q : PortSt) (express : Bool) : (q.resent express).retries = q.retries.inc := by cases express <;> rfl

theorem SentAgain_cons (c : Nat) (k : Kept) (ks : List Kept) : SentAgain (c + 1) (k :: ks) =
    { k with attempts := k.attempts + 1 } :: SentAgain c ks := rfl

theorem SentAgain_zero (ks : List Kept) : SentAgain 0 ks = ks.map fun k => { k with again := true } := rfl

/-- The outcome of `c` repeated sendings of a class of frames. -/
structure Repeated (s : State) (p : Port) (express : Bool) (c : Nat) (ks : List Kept) (t : State) : Prop where
  store : (t.port p).store express = ks
  funds : (t.port p).funds express = (s.port p).funds express - c
  link : (t.port p).link = (s.port p).link
  retries : (t.port p).retries.value = (s.port p).retries.value + BitVec.ofNat 32 c
  emit : t.emit.length = s.emit.length + emissionsOf express * c

theorem Repeated.none {express : Bool} : Repeated s p express 0 ((s.port p).store express) s :=
  ⟨rfl, rfl, rfl, (BitVec.add_zero _).symm, rfl⟩

theorem Repeated.after {express : Bool} {c : Nat} {k : Kept} {ks : List Kept} {t : State}
    (h : Repeated (s.resent p express k) p express c ks t) : Repeated s p express (c + 1) ks t := by
  obtain ⟨hstore, hfunds, hlink, hretries, hemit⟩ := h
  rw [resent_port] at hfunds hlink hretries
  rw [resent_emit] at hemit
  refine ⟨hstore, ?_, hlink.trans (resent_link ..), ?_, ?_⟩
  · rw [hfunds, resent_funds]
    omega
  · rw [hretries, resent_retries]
    simp only [Counter.inc, BitVec.ofNat_add]
    rw [BitVec.add_assoc, BitVec.add_comm 1]
    rfl
  · rw [hemit, Nat.mul_add]
    omega

theorem Repeated.idle {α : Type} {express : Bool} (l : List α) {ds ks : List Kept} (h : Resending (s.port p) express ds ks)
    (hfix : pumpOne s p = s) {c : Nat} (hc : c = 0) :
    Repeated s p express c (ds ++ SentAgain c ks) (forEach l s fun s _ => pumpOne s p) := by
  rw [forEach_fixed (f := fun s => pumpOne s p) hfix, hc, SentAgain_zero, ← h.store]
  exact .none

/-- As many repeated sendings go out as the output has credits for. -/
theorem forEach_pumpOne_resends {α : Type} {express : Bool} (l : List α) {s : State} {ds ks : List Kept}
    (h : Resending (s.port p) express ds ks) (hl : ks.length ≤ l.length) :
    Repeated s p express (Nat.min ((s.port p).funds express) ks.length)
      (ds ++ SentAgain (Nat.min ((s.port p).funds express) ks.length) ks) (forEach l s fun s _ => pumpOne s p) := by
  induction l generalizing s ds ks with
  | nil =>
    obtain rfl : ks = [] := List.length_eq_zero_iff.mp (Nat.le_zero.mp hl)
    have hone := pumpOne_of_resending h.outX h.outFwd h.other
    rw [h.find] at hone
    exact .idle [] h hone (Nat.min_zero _)
  | cons a l ih =>
    have hone := pumpOne_of_resending h.outX h.outFwd h.other
    rw [h.find] at hone
    cases ks with
    | nil => exact .idle (a :: l) h hone (Nat.min_zero _)
    | cons k ks =>
      by_cases hfunds : 0 < (s.port p).funds express
      · replace hone := hone.trans (if_pos hfunds)
        have hnext := resent_port s p express { k with again := true }
        have hrest := ih (hnext ▸ h.resent) (Nat.le_of_succ_le_succ hl)
        have hcount : Nat.min ((s.port p).funds express) (k :: ks).length =
            Nat.min (((s.resent p express { k with again := true }).port p).funds express) ks.length + 1 := by
          rw [hnext, resent_funds, List.length_cons]
          simp only [Nat.min_def]
          split <;> split <;> omega
        rw [hcount, SentAgain_cons, show forEach (a :: l) s (fun s _ => pumpOne s p) = forEach l (pumpOne s p) (fun s _ => pumpOne s p) from rfl, hone]
        rw [List.append_assoc] at hrest
        exact hrest.after
      · exact .idle (a :: l) h (hone.trans (if_neg hfunds)) (by simp only [Nat.min_def]; split <;> omega)

/-! ### A refusal, a time-out and a failed frame (R498, R499) -/

/-- Every frame of a store is to be sent again. -/
def PortSt.allAgain (q : PortSt) (express : Bool) : PortSt :=
  if express then { q with xkept := q.xkept.map fun k => { k with again := true } }
  else { q with kept := q.kept.map fun k => { k with again := true } }

theorem State.modPort_congr {f g : PortSt → PortSt} (h : f (s.port p) = g (s.port p)) : s.modPort p f = s.modPort p g := by
  simp only [State.modPort, State.port] at h ⊢
  rw [h]

theorem resend_of_few {express : Bool} {k : Kept} {rest : List Kept} (hkept : (s.port p).store express = k :: rest) (hk : k.attempts < 3) :
    resend s p express = pump (s.modPort p fun q => q.allAgain express) p := by
  unfold resend
  extract_lets q kept again
  have hkept' : kept = k :: rest := hkept
  have hagain : s.modPort p (fun q => if express then { q with xkept := again } else { q with kept := again })
      = s.modPort p fun q => q.allAgain express := State.modPort_congr (by cases express <;> rfl)
  rw [hagain]
  simp only [hkept', if_neg (Nat.not_le.mpr hk)]

theorem resend_of_many {express : Bool} {k : Kept} {rest : List Kept} (hkept : (s.port p).store express = k :: rest) (hk : 3 ≤ k.attempts) :
    resend s p express = failFrame s p := by
  unfold resend
  extract_lets q kept again
  have hkept' : kept = k :: rest := hkept
  simp only [hkept', if_pos hk]

theorem resend_of_none {express : Bool} (hkept : (s.port p).store express = []) : resend s p express = s := by
  unfold resend
  extract_lets q kept again
  have hkept' : kept = [] := hkept
  simp only [hkept']

/-- A quiet output sends a whole store again, as far as its credits go. -/
theorem resend_repeats (express : Bool) {k : Kept} {rest : List Kept} (hq : OutputQuiet (s.port p))
    (hkept : (s.port p).store express = k :: rest) (hk : k.attempts < 3) :
    Repeated s p express (Nat.min ((s.port p).funds express) (k :: rest).length)
      (SentAgain (Nat.min ((s.port p).funds express) (k :: rest).length) (k :: rest)) (resend s p express) := by
  rw [resend_of_few hkept hk]
  obtain ⟨hx, hfwd, hsettled, hxsettled⟩ := hq
  have hport : (s.modPort p fun q => q.allAgain express).port p = (s.port p).allAgain express :=
    (State.port_modPort_if s p p _).trans (if_pos rfl)
  have hresending : Resending ((s.port p).allAgain express) express [] (k :: rest) := by
    refine ⟨?_, ?_, ?_, ?_, rfl, ?_⟩
    · cases express <;> exact hx
    · cases express <;> exact hfwd
    · cases express
      · exact hxsettled
      · exact hsettled
    · rw [← hkept]
      cases express <;> rfl
    · rw [← hkept]
      cases express
      · exact hsettled
      · exact hxsettled
  have hroom : (k :: rest).length ≤ (List.range (((s.port p).allAgain express).outX.length + ((s.port p).allAgain express).outFwd.length
      + ((s.port p).allAgain express).xkept.length + ((s.port p).allAgain express).kept.length)).length := by
    rw [← hkept, List.length_range]
    cases express
    · simp [PortSt.store, PortSt.allAgain]
    · simp [PortSt.store, PortSt.allAgain]
      omega
  have hrep := forEach_pumpOne_resends _ (hport ▸ hresending) hroom
  obtain ⟨hstore, hfunds, hlink, hretries, hemit⟩ := hrep
  have hfunds' : ((s.port p).allAgain express).funds express = (s.port p).funds express := by cases express <;> rfl
  rw [hport] at hstore hfunds hretries hlink hemit
  rw [hfunds'] at hstore hfunds hretries hemit
  unfold pump
  dsimp only
  rw [hport]
  refine ⟨hstore, hfunds, hlink.trans (by cases express <;> rfl), hretries.trans ?_, hemit⟩
  cases express <;> rfl

/-- The link of a frame that cannot be sent fails (R498). -/
theorem failFrame_port (s : State) (p : Port) : (failFrame s p).port p = { (s.port p).fallen with linkFails := (s.port p).linkFails.inc } := by
  rw [failFrame, portDown_port, State.port_modPort_if, if_pos rfl]
  rfl

theorem failFrame_fields (s : State) {p : Port} (hen : (s.port p).en = true) : ((failFrame s p).port p).link = .down
    ∧ ((failFrame s p).port p).kept = [] ∧ ((failFrame s p).port p).xkept = []
    ∧ ((failFrame s p).port p).linkFails = (s.port p).linkFails.inc ∧ ((failFrame s p).port p).linkDowns = (s.port p).linkDowns.inc := by
  rw [failFrame_port]
  exact ⟨if_pos hen, rfl, rfl, rfl, rfl⟩

/-! ### The link controls -/

theorem freeKept_subset (ks : List Kept) (v : Byte) : ∀ k ∈ freeKept ks v, k ∈ ks := by
  intro k hk
  unfold freeKept at hk
  split at hk
  · exact (List.dropWhile_sublist _).mem (List.mem_of_mem_drop hk)
  · exact hk

section
variable {v : Byte}

theorem exec_lcAck_heard (hon : s.linkOn = true) (hact : s.active p = true) : exec (.lcAck p v (crc8 [0x01, v])) s =
    .next (pump (s.modPort p fun q => { q with kept := freeKept q.kept v }) p) :=
  congrArg Host.Outcome.next (if_pos (by simp [hon, hact, lcGood]))

theorem exec_lcXack_heard (hon : s.linkOn = true) (hact : s.active p = true) : exec (.lcXack p v (crc8 [0x03, v])) s =
    .next (pump (s.modPort p fun q => { q with xkept := freeKept q.xkept v }) p) :=
  congrArg Host.Outcome.next (if_pos (by simp [hon, hact, lcGood]))

theorem exec_lcNak_heard (hon : s.linkOn = true) (hact : s.active p = true) : exec (.lcNak p v (crc8 [0x02, v])) s =
    .next (resend s p false) :=
  congrArg Host.Outcome.next (if_pos (by simp [hon, hact, lcGood]))

theorem exec_lcXnak_heard (hon : s.linkOn = true) (hact : s.active p = true) : exec (.lcXnak p v (crc8 [0x04, v])) s =
    .next (resend s p true) :=
  congrArg Host.Outcome.next (if_pos (by simp [hon, hact, lcGood]))

theorem exec_lcCredit_heard (hon : s.linkOn = true) (hact : s.active p = true) (h1 : 1 ≤ v.toNat) (h8 : v.toNat ≤ 8) :
    exec (.lcCredit p v (crc8 [0x05, v])) s = .next (pump (s.modPort p fun q => { q with credits := Nat.min 8 (q.credits + v.toNat) }) p) :=
  congrArg Host.Outcome.next (if_pos (by simp [hon, hact, lcGood, within, h1, h8]))

theorem exec_lcXcredit_heard (hon : s.linkOn = true) (hact : s.active p = true) (h1 : 1 ≤ v.toNat) (h4 : v.toNat ≤ 4) :
    exec (.lcXcredit p v (crc8 [0x06, v])) s = .next (pump (s.modPort p fun q => { q with xcredits := Nat.min 4 (q.xcredits + v.toNat) }) p) :=
  congrArg Host.Outcome.next (if_pos (by simp [hon, hact, lcGood, within, h1, h4]))

theorem exec_lcHello_heard (hon : s.linkOn = true) (hlink : (s.port p).link = .align) (hv : v.toNat = 0x41 ∨ v.toNat = 0x81) :
    exec (.lcHello p v (crc8 [0x07, v])) s = .next (s.modPort p fun q => { q with peerRole := v.toNat / 64 }) :=
  congrArg Host.Outcome.next (if_pos (by rcases hv with hv | hv <;> simp [hon, hlink, lcGood, within, hv]))

theorem exec_lcLinkdown_heard (hon : s.linkOn = true) (hact : s.active p = true) : exec (.lcLinkdown p v (crc8 [0x08, v])) s =
    .next (portDown s p 4) :=
  congrArg Host.Outcome.next (if_pos (by simp [hon, hact, lcGood]))

theorem exec_retryTimeout_live (express : Bool) (hon : s.linkOn = true) (hact : s.active p = true) :
    exec (.retryTimeout p express) s = .next (resend s p express) :=
  congrArg Host.Outcome.next (if_pos (by simp [hon, hact]))

theorem exec_frameFail_kept {express : Bool} {k : Kept} {rest : List Kept} (hon : s.linkOn = true) (hact : s.active p = true)
    (hkept : (s.port p).store express = k :: rest) : exec (.frameFail p express) s = .next (failFrame s p) :=
  congrArg Host.Outcome.next (if_pos (by
    have hstore : (if express = true then (s.port p).xkept else (s.port p).kept) = k :: rest := hkept
    simp [hon, hact, hstore]))

theorem exec_frameFail_idle {express : Bool} (h : s.active p = false ∨ (s.port p).store express = []) :
    exec (.frameFail p express) s = .next s :=
  congrArg Host.Outcome.next (if_neg (by
    intro hall
    simp only [Bool.and_eq_true] at hall
    obtain ⟨⟨-, hact⟩, hkept⟩ := hall
    obtain hoff | hnone := h
    · simp [hoff] at hact
    · have hstore : (if express = true then (s.port p).xkept else (s.port p).kept) = [] := hnone
      simp [hstore] at hkept))

theorem exec_retryTimeout_idle {express : Bool} (h : s.active p = false ∨ (s.port p).store express = []) :
    exec (.retryTimeout p express) s = .next s := by
  refine congrArg Host.Outcome.next ?_
  obtain hoff | hnone := h
  · exact if_neg (by simp [hoff])
  · split
    · exact resend_of_none hnone
    · rfl

end

theorem active_link (h : s.active p = true) : (s.port p).link = .active := by simpa [State.active] using h

theorem quiet_modPort {f : PortSt → PortSt} (h : OutputQuiet (f (s.port p))) : pump (s.modPort p f) p = s.modPort p f :=
  pump_of_quiet (by rw [State.port_modPort_if, if_pos rfl]; exact h)

end

section
variable (s : State) (p : Port)

/-- Acknowledgements (R496). -/
theorem acks_quiet (v : Byte) (hon : s.linkOn = true) (hact : s.active p = true) (hq : OutputQuiet (s.port p)) :
    exec (.lcAck p v (crc8 [0x01, v])) s = .next (s.modPort p fun q => { q with kept := freeKept q.kept v })
    ∧ exec (.lcXack p v (crc8 [0x03, v])) s = .next (s.modPort p fun q => { q with xkept := freeKept q.xkept v }) := by
  obtain ⟨hx, hfwd, hkept, hxkept⟩ := hq
  rw [exec_lcAck_heard hon hact, exec_lcXack_heard hon hact]
  exact ⟨congrArg _ (quiet_modPort ⟨hx, hfwd, Settled.of_subset hkept (freeKept_subset _ v), hxkept⟩),
    congrArg _ (quiet_modPort ⟨hx, hfwd, hkept, Settled.of_subset hxkept (freeKept_subset _ v)⟩)⟩

/-- Added credits (R497). -/
theorem credits_quiet (v : Byte) (hon : s.linkOn = true) (hact : s.active p = true) (h1 : 1 ≤ v.toNat) (h8 : v.toNat ≤ 8)
    (hq : OutputQuiet (s.port p)) : exec (.lcCredit p v (crc8 [0x05, v])) s =
      .next (s.modPort p fun q => { q with credits := Nat.min 8 (q.credits + v.toNat) }) :=
  (exec_lcCredit_heard hon hact h1 h8).trans (congrArg _ (quiet_modPort hq))

theorem xcredits_quiet (v : Byte) (hon : s.linkOn = true) (hact : s.active p = true) (h1 : 1 ≤ v.toNat) (h4 : v.toNat ≤ 4)
    (hq : OutputQuiet (s.port p)) : exec (.lcXcredit p v (crc8 [0x06, v])) s =
      .next (s.modPort p fun q => { q with xcredits := Nat.min 4 (q.xcredits + v.toNat) }) :=
  (exec_lcXcredit_heard hon hact h1 h4).trans (congrArg _ (quiet_modPort hq))

/-- A refused or timed-out store whose output is quiet is sent again (R498, R499). -/
theorem resend_active {express : Bool} {k : Kept} {rest : List Kept} (hact : s.active p = true) (hq : OutputQuiet (s.port p))
    (hkept : (s.port p).store express = k :: rest) (hk : k.attempts < 3) :
    let c := Nat.min ((s.port p).funds express) (k :: rest).length
    let t := resend s p express
    (t.port p).link = .active ∧ (t.port p).store express = SentAgain c (k :: rest)
      ∧ (t.port p).funds express = (s.port p).funds express - c
      ∧ (t.port p).retries.value = (s.port p).retries.value + BitVec.ofNat 32 c
      ∧ t.emit.length = s.emit.length + emissionsOf express * c := by
  obtain ⟨hstore, hfunds, hlink, hretries, hemit⟩ := resend_repeats express hq hkept hk
  exact ⟨hlink.trans (active_link hact), hstore, hfunds, hretries, hemit⟩

/-- After the third sending of its oldest frame the link fails (R498, R499). -/
theorem resend_fails {express : Bool} {k : Kept} {rest : List Kept} (hen : (s.port p).en = true)
    (hkept : (s.port p).store express = k :: rest) (hk : 3 ≤ k.attempts) :
    ((resend s p express).port p).link = .down ∧ ((resend s p express).port p).store express = []
      ∧ ((resend s p express).port p).linkFails = (s.port p).linkFails.inc := by
  obtain ⟨hlink, hnone, hxnone, hfails, -⟩ := failFrame_fields s hen
  rw [resend_of_many hkept hk]
  refine ⟨hlink, ?_, hfails⟩
  cases express
  · exact hnone
  · exact hxnone

end

/-- Settles O33: a quiet output sends nothing more, a store to be repeated is sent frame by frame as far as its credits go, and a
frame sent three times brings its port down. -/
theorem linkControlAndRetry : Obligations.LinkControlAndRetry := by
  unfold Obligations.LinkControlAndRetry
  refine ⟨⟨fun s p v hon hact hq => (acks_quiet s p v hon hact hq).1, fun s p v hon hact hq => (acks_quiet s p v hon hact hq).2,
    fun s p v hon hact => ⟨exec_lcAck_heard hon hact, exec_lcXack_heard hon hact⟩,
    fun s p v hon hact h1 h8 => exec_lcCredit_heard hon hact h1 h8, fun s p v hon hact h1 h4 => exec_lcXcredit_heard hon hact h1 h4,
    ?_, ?_, fun s p v hon hlink hv => exec_lcHello_heard hon hlink hv, ?_, ?_, ?_, ?_,
    credits_quiet, xcredits_quiet, fun s p hon hlink => exec_lcHello_heard hon hlink (.inl rfl), ?_, ?_, ?_⟩,
    ?_, ?_, ?_, ?_, ?_, ?_, ?_, ?_⟩
  case refine_1 =>
    intro s p v k rest hon hact hen hkept hk
    exact ⟨_, exec_lcNak_heard hon hact, resend_fails s p (express := false) hen hkept hk⟩
  case refine_2 =>
    intro s p v k rest hon hact hen hkept hk
    exact ⟨_, exec_lcXnak_heard hon hact, resend_fails s p (express := true) hen hkept hk⟩
  case refine_3 =>
    intro s p v k rest hon hact hkept hk hq
    obtain ⟨hlink, hstore, hfunds, -, hemit⟩ := resend_active s p (express := false) hact hq hkept hk
    exact ⟨_, exec_lcNak_heard hon hact, hlink, hstore, hfunds, hemit⟩
  case refine_4 =>
    intro s p v k rest hon hact hkept hk hq
    obtain ⟨hlink, hstore, hfunds, -, hemit⟩ := resend_active s p (express := true) hact hq hkept hk
    exact ⟨_, exec_lcXnak_heard hon hact, hlink, hstore, hfunds, hemit.trans (congrArg (s.emit.length + ·) (Nat.one_mul _))⟩
  case refine_5 =>
    intro s p v k rest hon hact hkept hk
    exact (exec_lcNak_heard hon hact).trans (congrArg _ (resend_of_few (express := false) hkept hk))
  case refine_6 =>
    intro s p v k rest hon hact hkept hk
    exact (exec_lcXnak_heard hon hact).trans (congrArg _ (resend_of_few (express := true) hkept hk))
  case refine_7 =>
    intro s p v hon hact hen
    refine ⟨_, exec_lcLinkdown_heard hon hact, ?_⟩
    rw [portDown_port]
    exact ⟨if_pos hen, rfl⟩
  case refine_8 =>
    intro s p v hon hact hen
    refine ⟨_, exec_lcLinkdown_heard hon hact, ?_⟩
    rw [portDown_port]
    exact ⟨if_neg (by simp [hen]), rfl⟩
  case refine_9 =>
    intro s p v c hc
    have hbad : lcGood 0x01 v c = false := beq_eq_false_iff_ne.mpr hc
    exact congrArg Host.Outcome.next (if_neg (by rw [hbad, Bool.and_false]; exact Bool.false_ne_true))
  case refine_10 =>
    intro s p k rest hon hact hkept hk hq
    obtain ⟨hlink, hstore, hfunds, hretries, -⟩ := resend_active s p (express := true) hact hq hkept hk
    exact ⟨_, exec_retryTimeout_live true hon hact, hlink, hstore, hfunds, hretries⟩
  case refine_11 =>
    intro s p k rest hon hact hen hkept hk
    exact ⟨_, exec_retryTimeout_live true hon hact, resend_fails s p (express := true) hen hkept hk⟩
  case refine_12 =>
    intro s p k rest hon hact hen hkept
    obtain ⟨hlink, -, -, hfails, hdowns⟩ := failFrame_fields s hen
    exact ⟨_, exec_frameFail_kept (express := true) hon hact hkept, hlink, hfails, hdowns⟩
  case refine_13 =>
    intro s p hkept
    exact ⟨exec_retryTimeout_idle (.inr hkept), exec_frameFail_idle (.inr hkept)⟩
  case refine_14 =>
    intro s p k rest hon hact hkept hk hq
    obtain ⟨hlink, hstore, hfunds, hretries, -⟩ := resend_active s p (express := false) hact hq hkept hk
    exact ⟨_, exec_retryTimeout_live false hon hact, hlink, hstore, hfunds, hretries⟩
  case refine_15 =>
    intro s p k rest hon hact hen hkept hk
    exact ⟨_, exec_retryTimeout_live false hon hact, resend_fails s p (express := false) hen hkept hk⟩
  case refine_16 =>
    intro s p k rest hon hact hen hkept
    obtain ⟨hlink, -, -, hfails, hdowns⟩ := failFrame_fields s hen
    exact ⟨_, exec_frameFail_kept (express := false) hon hact hkept, hlink, hfails, hdowns⟩
  case refine_17 =>
    intro s p hoff
    exact ⟨exec_retryTimeout_idle (.inl hoff), exec_frameFail_idle (.inl hoff)⟩

end Sys2Proof.Machine
end

section
/-! PROOFS. Received frames: bad ones, cut copies, and those that go on to another node (R485, R493 to R497, R501). -/

namespace Sys2Proof.Machine

theorem OutOnly.rxXseq {a b : PortSt} (h : OutOnly a b) : b.rxXseq = a.rxXseq := by rw [h.eq]
theorem OutOnly.codeErrors {a b : PortSt} (h : OutOnly a b) : b.codeErrors = a.codeErrors := by rw [h.eq]
theorem OutOnly.crcErrors {a b : PortSt} (h : OutOnly a b) : b.crcErrors = a.crcErrors := by rw [h.eq]

section
variable {s t u : State} {p : Port}

theorem State.port_modPort_self (s : State) (p : Port) (f : PortSt → PortSt) : (s.modPort p f).port p = f (s.port p) :=
  (State.port_modPort_if s p p f).trans (if_pos rfl)

theorem State.port_modPort_ne (s : State) {p q : Port} (h : q ≠ p) (f : PortSt → PortSt) : (s.modPort p f).port q = s.port q :=
  (State.port_modPort_if s p q f).trans (if_neg h)

theorem sendLc_port (s : State) (p : Port) (type value : Byte) (q : Port) : (sendLc s p type value).port q = s.port q := rfl

/-! ### Copies that are cut -/

/-- What the end of cut copies leaves of a port (log entry 59): where the copy had begun, a credit is used and EOA is sent. -/
structure Cut (express : Bool) (bytes : List Byte) (s t : State) (q : Port) : Prop where
  port : t.port q = if express then { s.port q with xcredits := (t.port q).xcredits } else { s.port q with credits := (t.port q).credits }
  few : (s.port q).funds express - 1 ≤ (t.port q).funds express
  told : (t.port q).funds express = (s.port q).funds express ∨ .aborted q bytes ∈ t.emit

theorem Cut.of_eq {express : Bool} {bytes : List Byte} {q : Port} (h : t.port q = s.port q) : Cut express bytes s t q := by
  refine ⟨?_, ?_, .inl (by rw [h])⟩
  · rw [h]
    cases express <;> rfl
  · rw [h]
    exact Nat.sub_le _ _

/-- The end of the copy on one output. -/
def cutCopy (bytes : List Byte) (express : Bool) (s : State) (o : Port) : State :=
  if !(s.port o).begins express then s
  else if express then (s.modPort o fun q => { q with xcredits := q.xcredits - 1 }).send (.aborted o bytes)
  else ((s.modPort o fun q => { q with credits := q.credits - 1 }).send (.aborted o bytes)).send (.idlePair o)

theorem cutCopy_outputs (bytes : List Byte) (express : Bool) (s : State) (o : Port) : Outputs s (cutCopy bytes express s o) :=
  .ite (.refl s) (.ite ((Outputs.modPort s o fun _ => ⟨rfl⟩).trans (.send _ _))
    (((Outputs.modPort s o fun _ => ⟨rfl⟩).trans (.send _ _)).trans (.send _ _)))

theorem cutCopy_cut (bytes : List Byte) (express : Bool) (s : State) (o : Port) : Cut express bytes s (cutCopy bytes express s o) o := by
  unfold cutCopy
  split
  · exact .of_eq rfl
  · cases express with
    | false =>
      have hport : (s.modPort o fun q => { q with credits := q.credits - 1 }).port o = { s.port o with credits := (s.port o).credits - 1 } :=
        State.port_modPort_self ..
      refine ⟨hport.trans ?_, (congrArg PortSt.credits hport).ge, .inr (.tail _ (.head _))⟩
      exact congrArg (fun c => { s.port o with credits := c }) (congrArg PortSt.credits hport).symm
    | true =>
      have hport : (s.modPort o fun q => { q with xcredits := q.xcredits - 1 }).port o = { s.port o with xcredits := (s.port o).xcredits - 1 } :=
        State.port_modPort_self ..
      refine ⟨hport.trans ?_, (congrArg PortSt.xcredits hport).ge, .inr (.head _)⟩
      exact congrArg (fun c => { s.port o with xcredits := c }) (congrArg PortSt.xcredits hport).symm

theorem cutCopy_port_ne (bytes : List Byte) (express : Bool) (s : State) {o q : Port} (h : q ≠ o) :
    (cutCopy bytes express s o).port q = s.port q := by
  unfold cutCopy
  split
  · rfl
  · cases express
    · exact State.port_modPort_ne s h fun q => { q with credits := q.credits - 1 }
    · exact State.port_modPort_ne s h fun q => { q with xcredits := q.xcredits - 1 }

theorem cutCopy_emit (bytes : List Byte) (express : Bool) (s : State) (o : Port) : s.emit ⊆ (cutCopy bytes express s o).emit := by
  unfold cutCopy
  split
  · exact fun _ h => h
  · cases express
    · exact fun _ h => .tail _ (.tail _ h)
    · exact fun _ h => .tail _ h

theorem abortCopies_outputs (s : State) (outs : List Port) (bytes : List Byte) (express : Bool) :
    Outputs s (abortCopies s outs bytes express) :=
  .forEach (fun s o => cutCopy_outputs bytes express s o) outs s

theorem abortCopies_emit (s : State) (outs : List Port) (bytes : List Byte) (express : Bool) :
    s.emit ⊆ (abortCopies s outs bytes express).emit := by
  induction outs generalizing s with
  | nil => exact fun _ h => h
  | cons o outs ih => exact fun _ h => ih _ (cutCopy_emit bytes express s o h)

theorem abortCopies_port_not_mem {outs : List Port} {bytes : List Byte} {express : Bool} {q : Port} (h : q ∉ outs) (s : State) :
    (abortCopies s outs bytes express).port q = s.port q := by
  induction outs generalizing s with
  | nil => rfl
  | cons o outs ih =>
    rw [List.mem_cons, not_or] at h
    exact (ih h.2 _).trans (cutCopy_port_ne bytes express s h.1)

/-- Each output's copy is cut once. -/
theorem abortCopies_cut {outs : List Port} (hnd : outs.Nodup) (s : State) (bytes : List Byte) (express : Bool) (q : Port) :
    Cut express bytes s (abortCopies s outs bytes express) q := by
  induction outs generalizing s with
  | nil => exact .of_eq rfl
  | cons o outs ih =>
    obtain ⟨hno, hnd⟩ := List.nodup_cons.mp hnd
    by_cases hq : q = o
    · subst hq
      obtain ⟨hport, hfew, htold⟩ := cutCopy_cut bytes express s q
      have hrest : (abortCopies s (q :: outs) bytes express).port q = (cutCopy bytes express s q).port q := abortCopies_port_not_mem hno _
      refine ⟨by rw [hrest]; exact hport, by rw [hrest]; exact hfew, ?_⟩
      rw [hrest]
      exact htold.imp_right fun h => abortCopies_emit _ outs bytes express h
    · obtain ⟨hport, hfew, htold⟩ := ih hnd (cutCopy bytes express s o)
      rw [cutCopy_port_ne bytes express s hq] at hport hfew htold
      exact ⟨hport, hfew, htold⟩

theorem routeOf_outs_nodup (s : State) (from_ : Option Port) (dest : W16) (topo : Bool) : (routeOf s from_ dest topo).outs.Nodup := by
  have hflood : (floodPorts s from_).Nodup := List.Nodup.filter _ (by decide)
  unfold routeOf
  dsimp only
  repeat' split
  all_goals simp [hflood]

/-! ### Bad frames -/

/-- A port that has refused a frame (R496). -/
def PortSt.refusing (q : PortSt) (express : Bool) : PortSt :=
  if express then { q with crcErrors := q.crcErrors.inc, xnakSent := true } else { q with crcErrors := q.crcErrors.inc, nakSent := true }

theorem badFrame_port (s : State) (p : Port) (express : Bool) : (badFrame s p express).port p = (s.port p).refusing express := by
  unfold badFrame
  extract_lets q counted told
  refine (State.port_of_ports (freeBuffer_ports told p [] express) p).trans ?_
  have hcounted : counted.port p = { s.port p with crcErrors := (s.port p).crcErrors.inc } := State.port_modPort_self ..
  cases express with
  | false =>
    by_cases hsent : q.nakSent = true
    · have htold : told = counted := if_pos hsent
      have hsent' : (s.port p).nakSent = true := hsent
      rw [htold, hcounted]
      exact congrArg (fun b => { s.port p with crcErrors := (s.port p).crcErrors.inc, nakSent := b }) hsent'
    · have htold : told = sendLc (counted.modPort p fun q => { q with nakSent := true }) p 0x02 q.rxSeq := if_neg hsent
      rw [htold]
      refine (State.port_modPort_self counted p fun q => { q with nakSent := true }).trans ?_
      rw [hcounted]
      rfl
  | true =>
    by_cases hsent : q.xnakSent = true
    · have htold : told = counted := if_pos hsent
      have hsent' : (s.port p).xnakSent = true := hsent
      rw [htold, hcounted]
      exact congrArg (fun b => { s.port p with crcErrors := (s.port p).crcErrors.inc, xnakSent := b }) hsent'
    · have htold : told = sendLc (counted.modPort p fun q => { q with xnakSent := true }) p 0x04 q.rxXseq := if_neg hsent
      rw [htold]
      refine (State.port_modPort_self counted p fun q => { q with xnakSent := true }).trans ?_
      rw [hcounted]
      rfl

theorem refusing_fields (q : PortSt) (express : Bool) : (q.refusing express).crcErrors = q.crcErrors.inc
    ∧ (q.refusing express).codeErrors = q.codeErrors ∧ (q.refusing express).rxSeq = q.rxSeq
    ∧ (q.refusing express).rxXseq = q.rxXseq ∧ (q.refusing express).rxFrames = q.rxFrames
    ∧ (if express then (q.refusing express).xnakSent else (q.refusing express).nakSent) = true := by
  cases express <;> exact ⟨rfl, rfl, rfl, rfl, rfl, rfl⟩

theorem countErrors_none (s : State) (p : Port) (eoa : Bool) : countErrors s p ⟨eoa, 0, 0⟩ = s := rfl

theorem countErrors_port {k : Nat} (hk : 0 < k) (s : State) (p : Port) (eoa : Bool) (x : Nat) :
    (countErrors s p ⟨eoa, k, x⟩).port p = { s.port p with codeErrors := (s.port p).codeErrors.add (k + x) } := by
  unfold countErrors
  rw [if_neg (by simp only; omega)]
  exact State.port_modPort_self ..

/-- A refused frame leaves on its port the counts and the sent refusal alone. -/
theorem refused_frame (h : Outputs s t) (p : Port) (express : Bool) :
    ((badFrame t p express).port p).crcErrors = (s.port p).crcErrors.inc
    ∧ ((badFrame t p express).port p).codeErrors = (s.port p).codeErrors
    ∧ ((badFrame t p express).port p).rxSeq = (s.port p).rxSeq ∧ ((badFrame t p express).port p).rxXseq = (s.port p).rxXseq
    ∧ ((badFrame t p express).port p).rxFrames = (s.port p).rxFrames
    ∧ (if express then ((badFrame t p express).port p).xnakSent else ((badFrame t p express).port p).nakSent) = true := by
  obtain ⟨hcrc, hcode, hseq, hxseq, hframes, hnak⟩ := refusing_fields (t.port p) express
  have hout := h.port p
  rw [badFrame_port]
  exact ⟨hcrc.trans (by rw [hout.crcErrors]), hcode.trans hout.codeErrors, hseq.trans hout.rxSeq, hxseq.trans hout.rxXseq,
    hframes.trans hout.rxFrames, hnak⟩

/-! ### The two receptions -/

section
variable {bytes : List Byte}

/-- The outputs on which a normal frame's copy may have begun. -/
def normalOuts (s : State) (p : Port) (bytes : List Byte) : List Port :=
  if normalForm bytes then (frameRoute s p (bytes.take (bytes.length - 4))).outs else []

/-- Those of an express frame. -/
def expressOuts (s : State) (p : Port) (bytes : List Byte) : List Port :=
  if beNat (slice bytes 0 1) == 1 then (routeOf s (some p) (trigOfFrame (bytes.take (bytes.length - 4))).addr false).outs else []

theorem normalOuts_nodup (s : State) (p : Port) (bytes : List Byte) : (normalOuts s p bytes).Nodup := by
  unfold normalOuts
  split
  · exact routeOf_outs_nodup ..
  · exact List.nodup_nil

theorem expressOuts_nodup (s : State) (p : Port) (bytes : List Byte) : (expressOuts s p bytes).Nodup := by
  unfold expressOuts
  split
  · exact routeOf_outs_nodup ..
  · exact List.nodup_nil

/-- A frame that nothing of its reception speaks against. -/
structure Clean (form : List Byte → Bool) (s : State) (p : Port) (bytes : List Byte) : Prop where
  on : s.linkOn = true
  active : s.active p = true
  crc : crcGood bytes = true
  form : form bytes = true

theorem exec_normalFrameRx_cut (hon : s.linkOn = true) (hact : s.active p = true) :
    exec (.normalFrameRx p bytes ⟨true, 0, 0⟩) s =
      .next (freeBuffer (abortCopies s (normalOuts s p bytes) (bytes.take (bytes.length - 4)) false) p [] false) :=
  (if_neg (by simp [hon, hact])).trans rfl

theorem exec_expressFrameRx_cut (hon : s.linkOn = true) (hact : s.active p = true) :
    exec (.expressFrameRx p bytes ⟨true, 0, 0⟩) s =
      .next (freeBuffer (abortCopies s (expressOuts s p bytes) (bytes.take (bytes.length - 4)) true) p [] true) :=
  (if_neg (by simp [hon, hact])).trans rfl

theorem exec_normalFrameRx_bad {k x : Nat} (hon : s.linkOn = true) (hact : s.active p = true) (hbad : 0 < k ∨ crcGood bytes = false) :
    exec (.normalFrameRx p bytes ⟨false, k, x⟩) s = .next (badFrame
      (abortCopies (countErrors s p ⟨false, k, x⟩) (normalOuts (countErrors s p ⟨false, k, x⟩) p bytes)
        (bytes.take (bytes.length - 4)) false) p false) := by
  refine (if_neg (by simp [hon, hact])).trans ((if_neg Bool.false_ne_true).trans (if_pos ?_))
  obtain hk | hcrc := hbad
  · simp [hk.ne']
  · simp [hcrc]

theorem exec_expressFrameRx_bad {k x : Nat} (hon : s.linkOn = true) (hact : s.active p = true) (hbad : 0 < k ∨ crcGood bytes = false) :
    exec (.expressFrameRx p bytes ⟨false, k, x⟩) s = .next (badFrame (if expressForm bytes then
      abortCopies (countErrors s p ⟨false, k, x⟩) (expressOuts (countErrors s p ⟨false, k, x⟩) p bytes)
        (bytes.take (bytes.length - 4)) true else countErrors s p ⟨false, k, x⟩) p true) := by
  refine (if_neg (by simp [hon, hact])).trans ((if_neg Bool.false_ne_true).trans (if_pos ?_))
  obtain hk | hcrc := hbad
  · simp [hk.ne']
  · simp [hcrc]

theorem exec_normalFrameRx_inOrder (h : Clean normalForm s p bytes) (hseq : byteAt bytes 1 = (s.port p).rxSeq) :
    exec (.normalFrameRx p bytes ⟨false, 0, 0⟩) s = .next (takeFrame
      (sendLc (s.modPort p fun q => { q with rxSeq := q.rxSeq + 1, nakSent := false, rxFrames := q.rxFrames.inc })
        p 0x01 (s.port p).rxSeq) p (bytes.take (bytes.length - 4))) := by
  obtain ⟨hon, hact, hcrc, hform⟩ := h
  have hplace : seqPlace (byteAt bytes 1) (s.port p).rxSeq 8 = .inOrder := by simp [seqPlace, hseq]
  rw [show exec (.normalFrameRx p bytes ⟨false, 0, 0⟩) s = execNormalFrameRx p bytes ⟨false, 0, 0⟩ s from rfl]
  unfold execNormalFrameRx
  rw [if_neg (by simp [hon, hact])]
  dsimp only
  rw [countErrors_none, hplace, hseq, if_neg Bool.false_ne_true, if_neg (by simp [hcrc, hform])]

theorem exec_normalFrameRx_ahead (h : Clean normalForm s p bytes) (hplace : seqPlace (byteAt bytes 1) (s.port p).rxSeq 8 = .ahead)
    (hsent : (s.port p).nakSent = false) :
    exec (.normalFrameRx p bytes ⟨false, 0, 0⟩) s =
      .next (freeBuffer (sendLc (s.modPort p fun q => { q with nakSent := true }) p 0x02 (s.port p).rxSeq) p [] false) := by
  obtain ⟨hon, hact, hcrc, hform⟩ := h
  rw [show exec (.normalFrameRx p bytes ⟨false, 0, 0⟩) s = execNormalFrameRx p bytes ⟨false, 0, 0⟩ s from rfl]
  unfold execNormalFrameRx
  rw [if_neg (by simp [hon, hact])]
  dsimp only
  rw [countErrors_none, hplace, if_neg Bool.false_ne_true, if_neg (by simp [hcrc, hform])]
  dsimp only
  rw [hsent, if_neg Bool.false_ne_true]

theorem exec_normalFrameRx_behind (h : Clean normalForm s p bytes) (hplace : seqPlace (byteAt bytes 1) (s.port p).rxSeq 8 = .behind) :
    exec (.normalFrameRx p bytes ⟨false, 0, 0⟩) s = .next (freeBuffer (sendLc s p 0x01 ((s.port p).rxSeq - 1)) p [] false) := by
  obtain ⟨hon, hact, hcrc, hform⟩ := h
  rw [show exec (.normalFrameRx p bytes ⟨false, 0, 0⟩) s = execNormalFrameRx p bytes ⟨false, 0, 0⟩ s from rfl]
  unfold execNormalFrameRx
  rw [if_neg (by simp [hon, hact])]
  dsimp only
  rw [countErrors_none, hplace, if_neg Bool.false_ne_true, if_neg (by simp [hcrc, hform])]

/-- The port that has taken an express frame in order. -/
def PortSt.xtaken (q : PortSt) : PortSt := { q with rxXseq := q.rxXseq + 1, xnakSent := false, rxFrames := q.rxFrames.inc }

theorem exec_expressFrameRx_inOrder (h : Clean expressForm s p bytes) (hseq : BitVec.ofNat 8 (beNat (slice bytes 1 1)) = (s.port p).rxXseq) :
    exec (.expressFrameRx p bytes ⟨false, 0, 0⟩) s = .next (if beNat (slice bytes 0 1) == 1 then
      takeTrig (sendLc (s.modPort p PortSt.xtaken) p 0x03 (s.port p).rxXseq) p (trigOfFrame (bytes.take (bytes.length - 4)))
        (bytes.take (bytes.length - 4)) else freeBuffer (sendLc (s.modPort p PortSt.xtaken) p 0x03 (s.port p).rxXseq) p [] true) := by
  obtain ⟨hon, hact, hcrc, hform⟩ := h
  have hplace : seqPlace (BitVec.ofNat 8 (beNat (slice bytes 1 1))) (s.port p).rxXseq 4 = .inOrder := by simp [seqPlace, hseq]
  rw [show exec (.expressFrameRx p bytes ⟨false, 0, 0⟩) s = execExpressFrameRx p bytes ⟨false, 0, 0⟩ s from rfl]
  unfold execExpressFrameRx
  rw [if_neg (by simp [hon, hact])]
  dsimp only
  rw [countErrors_none, hplace, hseq, if_neg Bool.false_ne_true, if_neg (by simp [hcrc, hform])]
  rfl

end

/-! ### Frames that go on -/

theorem takeFrame_onward {b : List Byte} (h : (frameRoute s p b).here = false) :
    ∀ q, OutOnly (s.port q) ((takeFrame s p b).port q) := by
  intro q
  have hhandled : ∀ t : State, t.ronko.ports = s.ronko.ports → OutOnly (s.port q) ((forward t p (frameRoute s p b).outs b false).port q) :=
    fun t ht => State.port_of_ports ht q ▸ (forward_outputs t p (frameRoute s p b).outs b false).port q
  unfold takeFrame
  dsimp only
  rw [h, if_neg Bool.false_ne_true]
  exact hhandled _ (ite_ports (nackFrame_ports ..) rfl)

/-- A route depends on the node, on which ports are ACTIVE and on the ports' subtrees. -/
theorem routeOf_modPort {f : PortSt → PortSt} (hlink : ∀ q, (f q).link = q.link) (hfirst : ∀ q, (f q).subFirst = q.subFirst)
    (hcount : ∀ q, (f q).subCount = q.subCount) (from_ : Option Port) (dest : W16) (topo : Bool) :
    routeOf (s.modPort p f) from_ dest topo = routeOf s from_ dest topo := by
  have hactive : ∀ q, (s.modPort p f).active q = s.active q := fun q => by
    simp only [State.active, State.port_modPort_if]
    split_ifs with hq
    · rw [hlink, hq]
    · rfl
  have hsub : ∀ q, inSubtree ((s.modPort p f).port q) dest = inSubtree (s.port q) dest := fun q => by
    simp only [inSubtree, State.port_modPort_if]
    split_ifs with hq
    · rw [hfirst, hcount, hq]
    · rfl
  have hflood : floodPorts (s.modPort p f) from_ = floodPorts s from_ := by simp only [floodPorts, hactive]
  have hroot : (s.modPort p f).isRoot = s.isRoot := by simp only [State.isRoot, hactive]
  have hfor : portFor (s.modPort p f) dest = portFor s dest := by simp only [portFor, hsub]
  simp only [routeOf, hactive, hflood, hroot, hfor]
  rfl

/-! ### The clauses -/

section
variable {bytes : List Byte} (hon : s.linkOn = true) (hact : s.active p = true)
include hon hact

theorem badNormal_fields {k : Nat} (hk : 0 < k) (x : Nat) : ∃ t, exec (.normalFrameRx p bytes ⟨false, k, x⟩) s = .next t
    ∧ (t.port p).codeErrors = (s.port p).codeErrors.add (k + x) ∧ (t.port p).crcErrors = (s.port p).crcErrors.inc
    ∧ (t.port p).rxSeq = (s.port p).rxSeq ∧ (t.port p).rxFrames = (s.port p).rxFrames := by
  obtain ⟨hcrc, hcode, hseq, -, hframes, -⟩ := refused_frame (abortCopies_outputs (countErrors s p ⟨false, k, x⟩)
    (normalOuts (countErrors s p ⟨false, k, x⟩) p bytes) (bytes.take (bytes.length - 4)) false) p false
  rw [countErrors_port hk] at hcrc hcode hseq hframes
  exact ⟨_, exec_normalFrameRx_bad hon hact (.inl hk), hcode, hcrc, hseq, hframes⟩

theorem badExpress_fields {k : Nat} (hk : 0 < k) (x : Nat) : ∃ t, exec (.expressFrameRx p bytes ⟨false, k, x⟩) s = .next t
    ∧ (t.port p).codeErrors = (s.port p).codeErrors.add (k + x) ∧ (t.port p).crcErrors = (s.port p).crcErrors.inc
    ∧ (t.port p).rxXseq = (s.port p).rxXseq ∧ (t.port p).rxFrames = (s.port p).rxFrames := by
  obtain ⟨hcrc, hcode, -, hxseq, hframes, -⟩ := refused_frame
    (.ite (p := expressForm bytes = true) (abortCopies_outputs (countErrors s p ⟨false, k, x⟩) (expressOuts (countErrors s p ⟨false, k, x⟩) p bytes)
      (bytes.take (bytes.length - 4)) true) (.refl _)) p true
  rw [countErrors_port hk] at hcrc hcode hxseq hframes
  exact ⟨_, exec_expressFrameRx_bad hon hact (.inl hk), hcode, hcrc, hxseq, hframes⟩

theorem crcNormal_fields (hbad : crcGood bytes = false) : ∃ t, exec (.normalFrameRx p bytes ⟨false, 0, 0⟩) s = .next t
    ∧ (t.port p).crcErrors = (s.port p).crcErrors.inc ∧ (t.port p).rxSeq = (s.port p).rxSeq
    ∧ (t.port p).rxFrames = (s.port p).rxFrames ∧ (t.port p).nakSent = true := by
  obtain ⟨hcrc, -, hseq, -, hframes, hnak⟩ := refused_frame (abortCopies_outputs s (normalOuts s p bytes) (bytes.take (bytes.length - 4)) false) p false
  exact ⟨_, exec_normalFrameRx_bad hon hact (.inr hbad), hcrc, hseq, hframes, hnak⟩

theorem crcExpress_fields (hbad : crcGood bytes = false) : ∃ t, exec (.expressFrameRx p bytes ⟨false, 0, 0⟩) s = .next t
    ∧ (t.port p).crcErrors = (s.port p).crcErrors.inc ∧ (t.port p).rxXseq = (s.port p).rxXseq ∧ (t.port p).xnakSent = true := by
  obtain ⟨hcrc, -, -, hxseq, -, hnak⟩ := refused_frame
    (.ite (p := expressForm bytes = true) (abortCopies_outputs s (expressOuts s p bytes) (bytes.take (bytes.length - 4)) true) (.refl _)) p true
  exact ⟨_, exec_expressFrameRx_bad hon hact (.inr hbad), hcrc, hxseq, hnak⟩

omit hon hact in
theorem Cut.freeBuffer {express : Bool} {cut : List Byte} {q : Port} (h : Cut express cut s t q) (p : Port) (b : List Byte) (x : Bool) :
    Cut express cut s (Machine.freeBuffer t p b x) q := by
  obtain ⟨hport, hfew, htold⟩ := h
  rw [← State.port_of_ports (freeBuffer_ports t p b x) q] at hport hfew htold
  refine ⟨hport, hfew, htold.imp_right fun h => ?_⟩
  unfold Machine.freeBuffer
  split
  · exact h
  · exact .tail _ h

/-- EOA ends what the outputs have begun to copy, and nothing else changes (R501, log entry 59). -/
theorem cutShort : (∃ t, exec (.normalFrameRx p bytes ⟨true, 0, 0⟩) s = .next t
      ∧ t = { s with ronko := { s.ronko with ports := t.ronko.ports }, emit := t.emit }
      ∧ ∀ q, Cut false (bytes.take (bytes.length - 4)) s t q)
    ∧ ∃ t, exec (.expressFrameRx p bytes ⟨true, 0, 0⟩) s = .next t
      ∧ t = { s with ronko := { s.ronko with ports := t.ronko.ports }, emit := t.emit }
      ∧ ∀ q, Cut true (bytes.take (bytes.length - 4)) s t q :=
  ⟨⟨_, exec_normalFrameRx_cut hon hact, ((abortCopies_outputs ..).trans (freeBuffer_outputs ..)).eq,
      fun _ => (abortCopies_cut (normalOuts_nodup ..) ..).freeBuffer ..⟩,
    ⟨_, exec_expressFrameRx_cut hon hact, ((abortCopies_outputs ..).trans (freeBuffer_outputs ..)).eq,
      fun _ => (abortCopies_cut (expressOuts_nodup ..) ..).freeBuffer ..⟩⟩

end

end

/-- The port that has taken a normal frame in order. -/
def PortSt.taken (q : PortSt) : PortSt := { q with rxSeq := q.rxSeq + 1, nakSent := false, rxFrames := q.rxFrames.inc }

/-- Settles O34: the reception of each frame by its form, CRC and number, with the outputs' copies apart from the port's own counts. -/
theorem frameReception : Obligations.FrameReception := by
  unfold Obligations.FrameReception
  refine ⟨fun s p bytes hon hact hcrc hform hseq => exec_normalFrameRx_inOrder ⟨hon, hact, hcrc, hform⟩ hseq, ?_, ?_,
    fun s p bytes k x hon hact hk => badNormal_fields hon hact hk x, fun s p bytes k x hon hact hk => badExpress_fields hon hact hk x,
    ?_, ?_, fun s p bytes hon hact hbad => crcNormal_fields hon hact hbad, ?_,
    fun s p bytes hon hact hbad => crcExpress_fields hon hact hbad, ?_, ?_⟩
  case refine_1 =>
    intro s p bytes hon hact hcrc hform hplace hsent
    refine ⟨_, exec_normalFrameRx_ahead ⟨hon, hact, hcrc, hform⟩ hplace hsent, ?_⟩
    rw [State.port_of_ports (freeBuffer_ports ..), sendLc_port, State.port_modPort_self]
    exact ⟨rfl, rfl, rfl⟩
  case refine_2 =>
    intro s p bytes hon hact hcrc hform hplace
    refine ⟨_, exec_normalFrameRx_behind ⟨hon, hact, hcrc, hform⟩ hplace, ?_, ?_⟩
    · unfold freeBuffer
      split <;> rfl
    · unfold freeBuffer
      split
      · exact .head _
      · exact .tail _ (.head _)
  case refine_3 =>
    intro s p bytes hon hact
    obtain ⟨⟨t, ht, hrest, hcut⟩, t', ht', hrest', hcut'⟩ := cutShort (bytes := bytes) hon hact
    exact ⟨⟨t, ht, hrest, fun q => ⟨(hcut q).port, (hcut q).few, (hcut q).told⟩⟩,
      t', ht', hrest', fun q => ⟨(hcut' q).port, (hcut' q).few, (hcut' q).told⟩⟩
  case refine_4 =>
    intro s p bytes hon hact hcrc hform hseq htrig
    exact (exec_expressFrameRx_inOrder ⟨hon, hact, hcrc, hform⟩ hseq).trans (congrArg Host.Outcome.next (if_pos (beq_iff_eq.mpr htrig)))
  case refine_5 =>
    intro s p bytes hon hact hcrc hform hseq hhere
    have hroute : frameRoute (sendLc (s.modPort p PortSt.taken) p 0x01 (s.port p).rxSeq) p (bytes.take (bytes.length - 4))
        = frameRoute s p (bytes.take (bytes.length - 4)) :=
      routeOf_modPort (f := PortSt.taken) (fun _ => rfl) (fun _ => rfl) (fun _ => rfl) _ _ _
    have hout := takeFrame_onward (s := sendLc (s.modPort p PortSt.taken) p 0x01 (s.port p).rxSeq) (hroute ▸ hhere) p
    have hport : (sendLc (s.modPort p PortSt.taken) p 0x01 (s.port p).rxSeq).port p = (s.port p).taken := State.port_modPort_self ..
    rw [hport] at hout
    exact ⟨_, exec_normalFrameRx_inOrder ⟨hon, hact, hcrc, hform⟩ hseq, hout.rxSeq, hout.rxFrames, hout.nakSent⟩
  case refine_6 =>
    intro s p bytes hon hact hcrc hform hseq htrig
    refine ⟨_, (exec_expressFrameRx_inOrder ⟨hon, hact, hcrc, hform⟩ hseq).trans
      (congrArg Host.Outcome.next (if_neg (by simpa using htrig))), ?_⟩
    rw [State.port_of_ports (freeBuffer_ports ..), sendLc_port, State.port_modPort_self]
    exact ⟨rfl, rfl⟩
  case refine_7 =>
    intro s p bytes fin hact
    exact ⟨if_pos (by simp [hact]), if_pos (by simp [hact])⟩

end Sys2Proof.Machine
end

section
/-! PROOFS. Time exchanges, and triggers that the TBC schedules (R508 to R520). -/

namespace Sys2Proof.Machine

section
variable {s t u : State} {p : Port}

/-! ### The servo of a child's exchange -/

/-- What the servo and the state of the time (R510, R511) leave as it is. -/
structure ServoKeeps (s t : State) : Prop where
  ch : t.ch = s.ch
  ports : t.ronko.ports = s.ronko.ports
  time : t.ronko.time = { s.ronko.time with
    freq := t.ronko.time.freq, steps := t.ronko.time.steps, state := t.ronko.time.state, good := t.ronko.time.good,
    lockLosses := t.ronko.time.lockLosses }

namespace ServoKeeps

theorem refl (s : State) : ServoKeeps s s := ⟨rfl, rfl, rfl⟩

theorem trans (h : ServoKeeps s t) (h' : ServoKeeps t u) : ServoKeeps s u :=
  ⟨h'.ch.trans h.ch, h'.ports.trans h.ports, by rw [h'.time, h.time]⟩

theorem ite {c : Prop} [Decidable c] (h : ServoKeeps s t) (h' : ServoKeeps s u) : ServoKeeps s (if c then t else u) := by
  split_ifs
  · exact h
  · exact h'

theorem of_ronko (hch : t.ch = s.ch) (hronko : t.ronko = s.ronko) : ServoKeeps s t := ⟨hch, by rw [hronko], by rw [hronko]⟩

theorem sendMsg (s : State) (src : BitVec 6) (kind : Byte) (base : Level) (detail : Nat) :
    ServoKeeps s (Machine.sendMsg s src kind base detail) :=
  .of_ronko (by simp) (sendMsg_ronko ..)

theorem modTime (s : State) {f : TimeSt → TimeSt} (hf : ∀ t, f t = { t with
    freq := (f t).freq, steps := (f t).steps, state := (f t).state, good := (f t).good, lockLosses := (f t).lockLosses }) :
    ServoKeeps s (s.modTime f) :=
  ⟨rfl, rfl, hf _⟩

theorem open_ (h : ServoKeeps s t) : t.ronko.time.open_ = s.ronko.time.open_ := by rw [h.time]
theorem exchanges (h : ServoKeeps s t) : t.ronko.time.exchanges = s.ronko.time.exchanges := by rw [h.time]
theorem parentLocked (h : ServoKeeps s t) : t.ronko.time.parentLocked = s.ronko.time.parentLocked := by rw [h.time]
theorem offset (h : ServoKeeps s t) : t.ronko.time.offset = s.ronko.time.offset := by rw [h.time]
theorem delay (h : ServoKeeps s t) : t.ronko.time.delay = s.ronko.time.delay := by rw [h.time]

end ServoKeeps

theorem leaveLocked_servo (s : State) (next : TimeState) : ServoKeeps s (leaveLocked s next) := by
  unfold leaveLocked
  extract_lets was left
  have hleft : ServoKeeps s left := .modTime s fun _ => rfl
  exact hleft.trans (.ite ((ServoKeeps.modTime left fun _ => rfl).trans (.sendMsg ..)) (.refl _))

theorem setRate_servo (s : State) (x : Int) : ServoKeeps s (setRate s x) := by
  unfold setRate
  extract_lets y clk set
  have hset : ServoKeeps s set := .of_ronko rfl rfl
  exact hset.trans (.ite (.sendMsg ..) (.refl _))

theorem slewTime_servo (s : State) (o : Q) : ServoKeeps s (slewTime s o) := by
  unfold slewTime
  extract_lets p f r
  exact (ServoKeeps.modTime s fun _ => rfl).trans (setRate_servo ..)

theorem stepTime_servo (s : State) (offset : Int) : ServoKeeps s (stepTime s offset) := by
  unfold stepTime
  extract_lets whole clk loaded st stepped
  have hloaded : ServoKeeps s loaded := .of_ronko rfl rfl
  have hstepped : ServoKeeps s stepped := hloaded.trans (.modTime loaded fun _ => rfl)
  exact hstepped.trans (.ite (.sendMsg ..) (.refl _))

/-- The state in which a child's exchange has been noted. -/
def State.exchanged (s : State) (t1 t2 t3 t4 : W64) (lock : Bool) : State :=
  (s.modTime fun t => { t with
      open_ := none, exchanges := t.exchanges.inc, offset := exchangeOffset s rku t1 t2 t3 t4,
      delay := exchangeDelay s rku t1 t2 t3 t4, parentLocked := lock }).modPort rku fun q =>
    { q with delay := exchangeDelay s rku t1 t2 t3 t4 }

theorem childExchange_servo (s : State) (t1 t2 t3 t4 : W64) (lock : Bool) :
    ServoKeeps (s.exchanged t1 t2 t3 t4 lock) (childExchange s t1 t2 t3 t4 lock) := by
  unfold childExchange
  extract_lets delay offset o noted served
  refine (ServoKeeps.trans (t := served) (.ite (stepTime_servo ..) (slewTime_servo ..)) ?_)
  exact (leaveLocked_servo ..).trans (.modTime _ fun _ => rfl)

/-! ### The oldest exchange of ALIGN -/

theorem alignAge_isSome (s : State) (p : Port) : (alignAge s p).isSome = (s.port p).alignOpen.isSome := by
  simp [alignAge]

theorem mem_allPort (p : Port) : p ∈ ([0, 1, 2] : List Port) := by
  revert p
  decide

/-- The ports with an exchange of ALIGN open. -/
def alignPorts (s : State) : List Port := ([0, 1, 2] : List Port).filter fun p => (alignAge s p).isSome

theorem mem_alignPorts : p ∈ alignPorts s ↔ (s.port p).alignOpen ≠ none := by
  rw [alignPorts, List.mem_filter, alignAge_isSome, and_iff_right (mem_allPort p), Option.isSome_iff_ne_none]

theorem oldestAlign_eq (s : State) : oldestAlign s =
    (alignPorts s).find? fun p => (alignPorts s).all fun q => decide ((alignAge s q).getD 0 ≤ (alignAge s p).getD 0) := rfl

theorem oldestAlign_some (h : oldestAlign s = some p) :
    (s.port p).alignOpen ≠ none ∧ ∀ q, (alignAge s q).getD 0 ≤ (alignAge s p).getD 0 := by
  rw [oldestAlign_eq] at h
  have hmem := List.mem_of_find?_eq_some h
  have hall := List.find?_some h
  refine ⟨mem_alignPorts.mp hmem, fun q => ?_⟩
  by_cases hq : (s.port q).alignOpen = none
  · rw [show alignAge s q = none by rw [alignAge, hq]; rfl]
    exact Nat.zero_le _
  · simpa using List.all_eq_true.mp hall q (mem_alignPorts.mpr hq)

theorem oldestAlign_none : oldestAlign s = none ↔ ∀ p, (s.port p).alignOpen = none := by
  rw [oldestAlign_eq, List.find?_eq_none]
  constructor
  · intro h p
    by_contra hp
    cases hmax : List.argmax (fun p => (alignAge s p).getD 0) (alignPorts s) with
    | none => exact List.ne_nil_of_mem (mem_alignPorts.mpr hp) (List.argmax_eq_none.mp hmax)
    | some q => exact h q (List.argmax_mem hmax) (List.all_eq_true.mpr fun x hx => decide_eq_true (List.le_of_mem_argmax hx hmax))
  · intro h p hp
    exact absurd (h p) (mem_alignPorts.mp hp)

/-! ### Exchanges -/

theorem alignedStamp_eq (s : State) :
    alignedStamp s = BitVec.ofNat 64 ((s.clk.tbc.toNat * 2 ^ 32 + s.clk.frac.toNat) / 2 ^ 25) :=
  congrArg (BitVec.ofNat 64) (by omega)

theorem not_align_of_active (h : s.active p = true) : ((s.port p).link == .align) = false := by
  rw [active_link h]
  rfl

/-- The state in which the child's exchange has ended without an answer (R509). -/
theorem skipExchange_open (h : s.ronko.time.open_ ≠ none) :
    skipExchange s = s.modTime fun t => { t with open_ := none, fails := t.fails.inc } := by
  have hsome : s.ronko.time.open_.isSome = true := Option.isSome_iff_ne_none.mpr h
  simp only [skipExchange, State.modTime, hsome, if_true]

theorem skipExchange_closed (h : s.ronko.time.open_ = none) : skipExchange s = s := by
  have hnone : s.ronko.time.open_.isSome = false := by rw [h]; rfl
  simp only [skipExchange, State.modTime, hnone, Bool.false_eq_true, if_false]
  rw [← h]

theorem syncExchangeStart_child (hon : s.linkOn = true) (hact : s.active rku = true) : exec (.syncExchangeStart rku) s =
    .next (queueTime ((skipExchange s).modTime fun t => { t with
      reqNo := s.ronko.time.reqNo + 1, periodNow := t.syncPeriod, open_ := some (s.ronko.time.reqNo + 1, none) }) rku (timeReqBytes (s.ronko.time.reqNo + 1))) :=
  congrArg Host.Outcome.next ((if_neg (by simp [hon])).trans ((if_neg (by simp [not_align_of_active hact])).trans
    (if_pos (by simp [hact]))))

theorem syncExchangeStart_align (hon : s.linkOn = true) (hlink : (s.port p).link = .align) : exec (.syncExchangeStart p) s =
    .next (((s.modTime fun t => { t with
        reqNo := s.ronko.time.reqNo + 1, fails := if (s.port p).alignOpen.isSome then t.fails.inc else t.fails }).modPort p fun q =>
      { q with alignOpen := some (s.ronko.time.reqNo + 1, alignedStamp s) }).send
        (.express p (withCrc (timeReqBytes (s.ronko.time.reqNo + 1))))) :=
  congrArg Host.Outcome.next ((if_neg (by simp [hon])).trans (if_pos (by simp [hlink])))

theorem timeReq_parent (no : W16) (ago lead : Nat) (hon : s.linkOn = true) (hp : p ≠ rku) (hact : s.active p = true) :
    exec (.timeReq p no ago lead) s = .next (queueTime s p (timeRspBytes s (receiveStamp s p ago) 0 no)) :=
  congrArg Host.Outcome.next ((if_neg (by simp [hon])).trans ((if_neg (by simp [not_align_of_active hact])).trans
    (if_pos (by simp [hact, hp]))))

theorem timeReq_align (no : W16) (ago : Nat) {lead : Nat} (hon : s.linkOn = true) (hlink : (s.port p).link = .align) (hlead : lead ≤ 61440) :
    exec (.timeReq p no ago lead) s = .next (s.send (.express p (withCrc (timeRspBytes s (receiveStamp s p ago)
      (alignedStamp s + BitVec.ofNat 64 lead) no)))) := by
  refine congrArg Host.Outcome.next ((if_neg (by simp [hon])).trans ((if_pos (by simp [hlink])).trans ?_))
  rw [show Nat.min lead 61440 = lead from Nat.min_eq_left hlead]

theorem timeRsp_align (stamps : W64 × W64) (no : W16) (lock : Bool) (ago : Nat) (hon : s.linkOn = true) (hlink : (s.port p).link = .align) :
    exec (.timeRsp p stamps no lock ago) s = .next (alignExchange s p stamps.1 stamps.2 no (receiveStamp s p ago)) :=
  congrArg Host.Outcome.next ((if_neg (by simp [hon])).trans (if_pos (by simp [hlink])))

theorem timeRsp_child {no : W16} {t1 : W64} (stamps : W64 × W64) (no' : W16) (lock : Bool) (ago : Nat) (hon : s.linkOn = true)
    (hact : s.active rku = true) (hopen : s.ronko.time.open_ = some (no, some t1)) :
    exec (.timeRsp rku stamps no' lock ago) s = .next (if no' != no then skipExchange s
      else childExchange s t1 stamps.1 stamps.2 (receiveStamp s rku ago) lock) := by
  refine congrArg Host.Outcome.next ((if_neg (by simp [hon])).trans ((if_neg (by simp [not_align_of_active hact])).trans
    ((if_pos (by simp [hact])).trans ?_)))
  rw [hopen]

/-- An exchange of ALIGN whose number is not the open one is skipped (R487, R509). -/
theorem alignExchange_skipped {no no' : W16} {t1 : W64} (t2 t3 t4 : W64) (hopen : (s.port p).alignOpen = some (no, t1)) (hno : no' ≠ no) :
    alignExchange s p t2 t3 no' t4 =
      (s.modTime fun t => { t with fails := t.fails.inc }).modPort p fun q => { q with alignOpen := none } := by
  simp only [alignExchange, hopen]
  exact if_pos (by simpa using hno)

theorem alignExchange_made {no : W16} {t1 : W64} (t2 t3 t4 : W64) (hopen : (s.port p).alignOpen = some (no, t1)) :
    alignExchange s p t2 t3 no t4 =
      (s.modTime fun t => { t with exchanges := t.exchanges.inc }).modPort p fun q =>
        { q with alignOpen := none, aligned := q.aligned + 1, delay := exchangeDelay s p t1 t2 t3 t4 } := by
  simp only [alignExchange, hopen]
  exact if_neg (by simp)

theorem modTime_port (s : State) (f : TimeSt → TimeSt) (p : Port) : (s.modTime f).port p = s.port p := rfl

theorem exec_exchangeTimeout_none (h : oldestAlign s = none) : exec .exchangeTimeout s = .next (skipExchange s) := by
  simp only [exec, execExchangeTimeout, h]

theorem exec_exchangeTimeout_some (h : oldestAlign s = some p) : exec .exchangeTimeout s =
    .next (if (alignAge s p).getD 0 < (childAge s).getD 0 then skipExchange s
      else (s.modTime fun t => { t with fails := t.fails.inc }).modPort p fun q => { q with alignOpen := none }) := by
  simp only [exec, execExchangeTimeout, h]

theorem open_of_childAge {k : Nat} (h : k < (childAge s).getD 0) : s.ronko.time.open_ ≠ none := by
  intro hnone
  simp [childAge, hnone] at h

/-! ### Scheduled triggers -/

theorem storeTrig_waits {t : SchedTrig} (hrun : s.dev.state = .run) (haddr : addressed s t = true) (hlater : s.clk.tbc.toNat < t.target.toNat)
    (hroom : s.ronko.trig.pending.length < 16) : storeTrig s t = s.modTrig fun x => { x with pending := insertTrig t x.pending } := by
  have hreached : ¬ reached s t.target = true := by simpa [reached] using hlater
  unfold storeTrig
  rw [if_neg (by simp [running_of_run hrun, haddr]), if_neg hreached, if_neg (by omega)]

theorem issueTrig_pending (s : State) (t : SchedTrig) : (issueTrig s t).ronko.trig.pending = (storeTrig s t).ronko.trig.pending := by
  unfold issueTrig
  dsimp only
  split <;> rfl

/-- A trigger taken from a port is forwarded besides being stored here. -/
theorem takeTrig_here {t : SchedTrig} (h : (routeOf s (some p) t.addr false).here = true) (bytes : List Byte) :
    (takeTrig s p t bytes).ch = (storeTrig s t).ch ∧ (takeTrig s p t bytes).ronko.trig = (storeTrig s t).ronko.trig := by
  unfold takeTrig
  dsimp only
  rw [if_pos h]
  exact ⟨(forward_outputs ..).ch, (forward_outputs ..).trig⟩

theorem reply_ronko (s : State) (r : Path) (c c' ty : Byte) (e : W16) (d : List Byte) :
    ((s.instructorCommand r c).reply c' ty e d).ronko = s.ronko := by
  simp

/-- What a pending trigger's execution does before it reaches the channels. -/
def State.trigTaken (s : State) (x : SchedTrig) (rest : List SchedTrig) : State :=
  s.modTrig fun y => { y with
    pending := rest, exec := y.exec.inc, lastId := x.id, lastTbc := x.target
    unaligned := if s.reportsLocked then y.unaligned else y.unaligned.inc }

/-- A scheduled trigger at one channel. -/
def trigAt (x : SchedTrig) (s : State) (n : Ch) : State := if x.chmask.getLsbD n.val then fireChannel s n 5 else s

theorem trigAt_othersKept (x : SchedTrig) (s : State) (n : Ch) : OthersKept n s (trigAt x s n) := by
  unfold trigAt
  split_ifs
  · exact (fireChannel_trig s n 5).2.2
  · exact fun _ _ => rfl

theorem exec_triggerExecute_reached {x : SchedTrig} {rest : List SchedTrig} (hpend : s.ronko.trig.pending = x :: rest) (hrun : s.dev.state = .run)
    (henum : s.ronko.node.enum ≠ .unadmitted) (hreached : x.target.toNat ≤ s.clk.tbc.toNat) :
    exec .triggerExecute s = .next (firePulse (forEach allCh (s.trigTaken x rest) (trigAt x)) 2 0) := by
  have hgo : ¬ (!s.running || s.ronko.node.enum == .unadmitted || !reached s x.target) = true := by
    simp [running_of_run hrun, henum, reached, hreached]
  simp only [exec, execTriggerExecute, hpend]
  exact if_neg hgo

theorem exec_triggerExecute_early {x : SchedTrig} {rest : List SchedTrig} (hpend : s.ronko.trig.pending = x :: rest)
    (hlater : s.clk.tbc.toNat < x.target.toNat) : exec .triggerExecute s = .next s := by
  have hwait : (!s.running || s.ronko.node.enum == .unadmitted || !reached s x.target) = true := by
    simp [reached, hlater]
  simp only [exec, execTriggerExecute, hpend]
  exact if_pos hwait

theorem trigAt_ronko (x : SchedTrig) (s : State) (n : Ch) : (trigAt x s n).ronko = s.ronko := by
  unfold trigAt
  split_ifs <;> simp

/-- A scheduled trigger reaches each channel once. -/
theorem trigAt_chan (x : SchedTrig) (s : State) (n : Ch) : ∃ u, u.chan n = s.chan n ∧
    (forEach allCh s (trigAt x)).chan n = (trigAt x u n).chan n :=
  chan_forEach_own (trigAt_othersKept x) nodup_allCh (mem_allCh n) s

/-! ### The clauses -/

theorem childExchange_result (t1 t2 t3 t4 : W64) (lock : Bool) :
    let t := childExchange s t1 t2 t3 t4 lock
    t.ronko.time.open_ = none ∧ t.ronko.time.exchanges = s.ronko.time.exchanges.inc ∧ t.ronko.time.parentLocked = lock
      ∧ t.ronko.time.offset = exchangeOffset s rku t1 t2 t3 t4 ∧ t.ronko.time.delay = exchangeDelay s rku t1 t2 t3 t4
      ∧ (t.port rku).delay = t.ronko.time.delay ∧ t.ch = s.ch := by
  have h := childExchange_servo s t1 t2 t3 t4 lock
  have hport : (s.exchanged t1 t2 t3 t4 lock).port rku = { s.port rku with delay := exchangeDelay s rku t1 t2 t3 t4 } :=
    State.port_modPort_self ..
  refine ⟨h.open_, h.exchanges, h.parentLocked, h.offset, h.delay, ?_, h.ch⟩
  rw [State.port_of_ports h.ports, hport]
  exact h.delay.symm

theorem alignExchange_result {no : W16} {t1 : W64} (t2 t3 t4 : W64) (hopen : (s.port p).alignOpen = some (no, t1)) :
    let t := alignExchange s p t2 t3 no t4
    (t.port p).alignOpen = none ∧ (t.port p).aligned = (s.port p).aligned + 1
      ∧ t.ronko.time.exchanges = s.ronko.time.exchanges.inc ∧ (t.port p).delay = exchangeDelay s p t1 t2 t3 t4
      ∧ t.clk = s.clk ∧ ∀ q, q ≠ p → t.port q = s.port q := by
  rw [alignExchange_made t2 t3 t4 hopen]
  refine ⟨?_, ?_, rfl, ?_, rfl, fun q hq => State.port_modPort_ne _ hq _⟩ <;>
    rw [State.port_modPort_self]
  rfl

theorem trigger_executes {x : SchedTrig} {rest : List SchedTrig} :
    let t := firePulse (forEach allCh (s.trigTaken x rest) (trigAt x)) 2 0
    t.ronko.trig.pending = rest ∧ t.ronko.trig.exec = s.ronko.trig.exec.inc
      ∧ t.ronko.trig.lastId = x.id ∧ t.ronko.trig.lastTbc = x.target
      ∧ (∀ n, (s.chan n).fast.src = 5 → (s.chan n).fast.state = .armed → x.chmask.getLsbD n.val = true → (t.chan n).fast.state = .fired)
      ∧ ∀ n, x.chmask.getLsbD n.val = false → t.chan n = s.chan n := by
  intro t
  have hronko : t.ronko = (s.trigTaken x rest).ronko := by
    rw [show t.ronko = (forEach allCh (s.trigTaken x rest) (trigAt x)).ronko by simp [t]]
    exact forEach_keeps State.ronko allCh (trigAt x) (trigAt_ronko x) _
  have hchan : ∀ n, ∃ u, u.chan n = s.chan n ∧ t.chan n = (trigAt x u n).chan n := fun n => by
    obtain ⟨u, hu, hlast⟩ := trigAt_chan x (s.trigTaken x rest) n
    exact ⟨u, hu, (State.chan_congr (firePulse_ins ..).2 n).trans hlast⟩
  refine ⟨?_, ?_, ?_, ?_, fun n hsrc harm hbit => ?_, fun n hbit => ?_⟩
  · rw [hronko]; rfl
  · rw [hronko]; rfl
  · rw [hronko]; rfl
  · rw [hronko]; rfl
  · obtain ⟨u, hu, hlast⟩ := hchan n
    rw [hlast, trigAt, if_pos hbit]
    exact (fireChannel_trig u n 5).2.1 (by rw [hu]; exact hsrc) (by rw [hu]; exact harm)
  · obtain ⟨u, hu, hlast⟩ := hchan n
    rw [hlast, trigAt, hbit, if_neg Bool.false_ne_true, hu]

end

/-- The exchanges of time (R465, R487, R492, R508 to R513). -/
theorem syncExchangeStart_clause (s : State) (hon : s.linkOn = true) (hact : s.active rku = true) :
    ∃ t, exec (.syncExchangeStart rku) s = .next t
      ∧ t.ronko.time.open_ = some (s.ronko.time.reqNo + 1, none) ∧ t.ronko.time.reqNo = s.ronko.time.reqNo + 1
      ∧ t.ronko.time.fails = (if s.ronko.time.open_ = none then s.ronko.time.fails else s.ronko.time.fails.inc)
      ∧ t.ronko.time.periodNow = s.ronko.time.syncPeriod
      ∧ (∃ x, t.ronko.sup = s.ronko.sup ++ [x] ∧ x.port = rku ∧ x.express = true
          ∧ slice x.bytes 0 6 = [0x02, 0, 0xFF, 0xFE] ++ natBytes 2 (s.ronko.time.reqNo + 1).toNat)
      ∧ t = { s with ronko := t.ronko } ∧ ∀ q, t.port q = s.port q := by
  refine ⟨_, syncExchangeStart_child hon hact, rfl, rfl, ?_, rfl, ⟨_, rfl, rfl, rfl, rfl⟩, rfl, fun _ => rfl⟩
  show (if s.ronko.time.open_.isSome then s.ronko.time.fails.inc else s.ronko.time.fails) = _
  cases s.ronko.time.open_ <;> rfl

/-- Settles O35: exchanges of ALIGN and of a child by their branches, the oldest of them as a maximum over the ports, and a trigger's
execution channel by channel. -/
theorem timeAndScheduledTriggers : Obligations.TimeAndScheduledTriggers := by
  unfold Obligations.TimeAndScheduledTriggers
  refine ⟨⟨alignedStamp_eq, syncExchangeStart_clause, ?_, ?_,
    fun s p no ago lead hon hlink hlead => timeReq_align no ago hon hlink hlead, ?_, ?_, ?_, ?_,
    fun s p h => oldestAlign_some h, fun s => oldestAlign_none, ?_, ?_, ?_, ?_⟩, ?_, ?_, ?_,
    fun s x rest hpend hlater => exec_triggerExecute_early hpend hlater⟩
  case refine_1 =>
    intro s p hon hlink
    refine ⟨_, syncExchangeStart_align hon hlink, ?_, rfl, rfl, rfl, fun q hq => State.port_modPort_ne (s.modTime _) hq fun q =>
      { q with alignOpen := some (s.ronko.time.reqNo + 1, alignedStamp s) }⟩
    exact congrArg PortSt.alignOpen (State.port_modPort_self (s.modTime _) p fun q =>
      { q with alignOpen := some (s.ronko.time.reqNo + 1, alignedStamp s) })
  case refine_2 =>
    intro s p no ago lead hon hp hact
    exact ⟨_, timeReq_parent no ago lead hon hp hact, ⟨_, rfl, rfl, rfl, rfl, rfl⟩, rfl, fun _ => rfl⟩
  case refine_3 =>
    intro s t1 t2 t3 no lock ago hopen hact hon t4
    exact ⟨_, (timeRsp_child (t2, t3) no lock ago hon hact hopen).trans (congrArg _ (if_neg (by simp))), childExchange_result ..⟩
  case refine_4 =>
    intro s p t1 t2 t3 no lock ago hopen hlink hon t4
    exact ⟨_, timeRsp_align (t2, t3) no lock ago hon hlink, alignExchange_result _ _ _ hopen⟩
  case refine_5 =>
    intro s t1 t2 t3 no no' lock ago hopen hact hon hno
    refine (timeRsp_child (t2, t3) no' lock ago hon hact hopen).trans (congrArg _ ((if_pos (by simpa using hno)).trans ?_))
    exact skipExchange_open (by rw [hopen]; exact Option.some_ne_none _)
  case refine_6 =>
    intro s p t1 t2 t3 no no' lock ago hopen hlink hon hno
    refine ⟨_, timeRsp_align (t2, t3) no' lock ago hon hlink, ?_⟩
    rw [alignExchange_skipped t2 t3 _ hopen hno]
    refine ⟨?_, ?_, rfl⟩ <;> rw [State.port_modPort_self]
    rfl
  case refine_7 =>
    intro s hopen hold
    exact (exec_exchangeTimeout_none hold).trans (congrArg _ (skipExchange_open hopen))
  case refine_8 =>
    intro s p hold hage
    exact (exec_exchangeTimeout_some hold).trans (congrArg _ ((if_pos hage).trans (skipExchange_open (open_of_childAge hage))))
  case refine_9 =>
    intro s hclosed hold
    exact (exec_exchangeTimeout_none hold).trans (congrArg _ (skipExchange_closed hclosed))
  case refine_10 =>
    intro s p hold hage
    refine ⟨_, (exec_exchangeTimeout_some hold).trans (congrArg _ (if_neg (Nat.not_lt.mpr hage))), ?_, ?_, rfl, rfl⟩ <;>
      rw [State.port_modPort_self]
    rfl
  case refine_11 =>
    intro s r data h hrun haddr hlater hroom
    refine ⟨_, congrArg Host.Outcome.next (perform_admitted h), rfl, ?_, ?_⟩
    · rw [reply_ronko]
      show (issueTrig s (trigOfBlob data s.srcId)).ronko.trig.pending = _
      rw [issueTrig_pending, storeTrig_waits hrun haddr hlater hroom]
      rfl
    · simp [objSchedTrig]
  case refine_12 =>
    intro s p addr target id origin g c hon hact hrun hhere haddr hlater hroom
    refine ⟨_, congrArg Host.Outcome.next (if_pos (by simp [hon, hact])), ?_⟩
    have hstored := storeTrig_waits hrun haddr hlater hroom
    obtain ⟨hch, htrig⟩ := takeTrig_here (p := p) (t := ⟨target, id, origin, addr, g, c⟩) hhere
      (trigBytes ⟨target, id, origin, addr, g, c⟩)
    rw [hstored] at hch htrig
    exact ⟨hch, congrArg Triggers.pending htrig⟩
  case refine_13 =>
    intro s x rest hpend hrun henum hreached
    exact ⟨_, exec_triggerExecute_reached hpend hrun henum hreached, trigger_executes⟩

end Sys2Proof.Machine
end

section
/-! PROOFS. The states of a Ronko port, its equaliser and its eye, and the enumeration of the tree (R487 to R492, R500 to R507). -/

namespace Sys2Proof.Machine

section
variable {s t : State} {p : Port}

/-! ### The way to ACTIVE and away from it -/

theorem State.modPort_modPort (s : State) (p : Port) (f g : PortSt → PortSt) :
    (s.modPort p f).modPort p g = s.modPort p fun q => g (f q) := by
  simp only [State.modPort, Vector.getElem_set_self, Vector.set_set]

theorem portActive_port (s : State) (p : Port) : (portActive s p).port p = { s.port p with
    link := .active, alignOpen := none, txSeq := 0, txXseq := 0, rxSeq := 0, rxXseq := 0, nakSent := false, xnakSent := false
    credits := 8, xcredits := 4, kept := [], xkept := [], outX := [], outFwd := [], lastIn := none, fwdRow := 0 } := by
  rw [portActive, State.port_of_ports (activeChanged_ports ..), State.port_modPort_self]

theorem exec_alignComplete_waits (d : Int) (hrole : (s.port p).peerRole ≠ roleOfPort p) (h : (s.port p).aligned < 8 ∨ (s.port p).delay ≠ d) :
    exec (.alignComplete p d) s = .next s := by
  have hwait : ((s.port p).aligned < 8 || (s.port p).delay != d) = true := by simpa using h
  simp only [exec, execAlignComplete, if_neg hrole, if_pos hwait]
  exact ite_self _

/-- A measured exchange of ALIGN ends in a port of its own role, in one that is too far away, or in ACTIVE (R487). -/
theorem exec_alignComplete_judged (d : Int) (hon : s.linkOn = true) (hlink : (s.port p).link = .align) (hpeer : (s.port p).peerRole ≠ 0) :
    exec (.alignComplete p d) s = if (s.port p).peerRole = roleOfPort p then
        .next (sendMsg (s.modPort p fun q => { q with link := .miswired, alignOpen := none }) (srcPort p) 0xD0 .warn 0)
      else if (s.port p).aligned < 8 || (s.port p).delay != d then .next s
      else if 2 * (longestDelay : Int) < (s.port p).delay then
        .next (sendMsg (s.modPort p fun q => { q with link := .tooLong, alignOpen := none }) (srcPort p) 0xD1 .warn 0)
      else .next (portActive s p) :=
  if_pos (by simp [hon, hlink, hpeer])

theorem exec_linkLoss_active (why : LossCause) (hon : s.linkOn = true) (hact : s.active p = true) : exec (.linkLoss p why) s =
    .next (portDown (s.modPort p fun q => { q with codeErrors := q.codeErrors.add (lossErrors why) }) p (lossCode why)) :=
  congrArg Host.Outcome.next (if_pos (by simp [hon, hact]))

/-! ### The equaliser -/

/-- The equaliser's port with new settings; those that move are stamped. -/
def PortSt.adapted (q : PortSt) (now : Nat) (pk : BitVec 4) (a b c d : Byte) : PortSt :=
  { q with
    eqPeak := pk, dfe1 := a, dfe2 := b, dfe3 := c, eqDelayPs := d, eqTrained := true
    peakAt := if q.eqPeak != pk then now else q.peakAt
    tapAt := #v[if q.dfe1 != a then now else q.tapAt[0], if q.dfe2 != b then now else q.tapAt[1], if q.dfe3 != c then now else q.tapAt[2]] }

theorem exec_eqAdapt_taken {pk : BitVec 4} {a b c d : Byte} (hon : s.linkOn = true) (hfreeze : (s.port p).freeze = false)
    (hen : (s.port p).link ≠ .disabled) (hup : (s.port p).link ≠ .down) (hmay : eqMay (s.port p) s.now pk [a, b, c] d = true) :
    exec (.eqAdapt p pk a b c d) s = .next (s.modPort p fun q => q.adapted s.now pk a b c d) := by
  refine congrArg Host.Outcome.next ((if_neg (by simp [hon, hfreeze, hen, hup, hmay])).trans ?_)
  exact State.modPort_congr rfl

theorem exec_eqAdapt_held {pk : BitVec 4} {a b c d : Byte} (h : (s.port p).freeze = true ∨ eqMay (s.port p) s.now pk [a, b, c] d = false) :
    exec (.eqAdapt p pk a b c d) s = .next s :=
  congrArg Host.Outcome.next (if_pos (by rcases h with h | h <;> simp [h]))

theorem not_tapLegal {x : Byte} (h : 63 < x.toInt ∨ x.toInt < -64) : tapLegal x = false := by
  simp only [tapLegal, Bool.and_eq_false_iff, decide_eq_false_iff_not]
  omega

theorem eqMay_of_range {q : PortSt} {now : Nat} {pk : BitVec 4} {a b c d : Byte} (h : 63 < a.toInt ∨ 63 < b.toInt ∨ 63 < c.toInt
    ∨ a.toInt < -64 ∨ b.toInt < -64 ∨ c.toInt < -64 ∨ 200 < d.toNat) : eqMay q now pk [a, b, c] d = false := by
  have hranges : ([a, b, c].all tapLegal && decide (d.toNat ≤ 200)) = false := by
    rcases h with h | h | h | h | h | h | h
    · simp [not_tapLegal (.inl h)]
    · simp [not_tapLegal (.inl h)]
    · simp [not_tapLegal (.inl h)]
    · simp [not_tapLegal (.inr h)]
    · simp [not_tapLegal (.inr h)]
    · simp [not_tapLegal (.inr h)]
    · simp [Nat.not_le.mpr h]
  simp only [eqMay, hranges, Bool.false_and]

theorem stepOk_far {old new : Int} (h : 1 < (new - old).natAbs) (since pace : Nat) : stepOk old new since pace = false := by
  have hfar : stepsBetween old new = (new - old).natAbs := by
    unfold stepsBetween
    omega
  have hne : ¬ stepsBetween old new = 0 ∧ ¬ stepsBetween old new = 1 := by omega
  simp [stepOk, hne.1, hne.2]

theorem eqMay_of_steps {q : PortSt} {now : Nat} {pk : BitVec 4} {a b c d : Byte} (hlink : q.link ≠ .train)
    (h : 1 < (a.toInt - q.dfe1.toInt).natAbs ∨ 1 < (b.toInt - q.dfe2.toInt).natAbs ∨ 1 < (c.toInt - q.dfe3.toInt).natAbs
      ∨ 1 < ((pk.toNat : Int) - q.eqPeak.toNat).natAbs) : eqMay q now pk [a, b, c] d = false := by
  have hsteps : (stepOk q.eqPeak.toNat pk.toNat (now - q.peakAt) (usec 100) &&
      ((q.taps.zip [a, b, c]).zip q.tapAt.toList).all fun x => stepOk x.1.1.toInt x.1.2.toInt (now - x.2) (usec 1)) = false := by
    obtain ⟨x, y, z, htimes⟩ := List.length_eq_three.mp (show q.tapAt.toList.length = 3 by simp)
    rw [htimes]
    rcases h with h | h | h | h <;> simp [PortSt.taps, stepOk_far h]
  have htrain : (q.link == LinkState.train) = false := by simpa using hlink
  simp only [eqMay, htrain, hsteps, Bool.or_false, Bool.and_false]

theorem eqMay_of_delay {q : PortSt} {now : Nat} {pk : BitVec 4} {a b c d : Byte} (htrained : q.eqTrained = true) (hpk : pk = q.eqPeak)
    (hd : d ≠ q.eqDelayPs) : eqMay q now pk [a, b, c] d = false := by
  have hmoved : stepsBetween q.eqPeak.toNat pk.toNat = 0 := by simp [stepsBetween, hpk]
  have hdelay : decide (stepsBetween q.eqDelayPs.toNat d.toNat ≤ 12 * stepsBetween q.eqPeak.toNat pk.toNat) = false := by
    have hne : d.toNat ≠ q.eqDelayPs.toNat := fun h => hd (BitVec.eq_of_toNat_eq h)
    rw [hmoved]
    refine decide_eq_false ?_
    unfold stepsBetween
    omega
  simp only [eqMay, htrained, hdelay, Bool.not_true, Bool.false_or, Bool.and_false, Bool.false_and]

/-! ### The eye -/

/-- A port that has seen its eye (R492). -/
def PortSt.seen (q : PortSt) (h w : W16) : PortSt :=
  { q with
    eyeMv := h, eyeWidth := w
    marginLow := (q.marginLow || (decide (h.toNat < 40) || decide (w.toNat ≤ 307))) && !(decide (40 < h.toNat) && decide (308 ≤ w.toNat)) }

theorem exec_eyeUpdate_seen (h w : W16) (hon : s.linkOn = true) (hen : (s.port p).link ≠ .disabled) (hup : (s.port p).link ≠ .down) :
    exec (.eyeUpdate p h w) s = .next (if (decide (h.toNat < 40) || decide (w.toNat ≤ 307)) && !(s.port p).marginLow then
      sendMsg (s.modPort p fun q => q.seen h w) (srcPort p) 0xD3 .note h.toNat else s.modPort p fun q => q.seen h w) :=
  congrArg Host.Outcome.next (if_neg (by simp [hon, hen, hup]))

/-! ### The enumeration -/

/-- What the offer to the next child, or the end of the enumeration, leaves as it is (R504, R505). -/
structure Enumerated (s t : State) : Prop where
  ports : t.ronko.ports = s.ronko.ports
  ch : t.ch = s.ch
  gen : t.ronko.node.gen = s.ronko.node.gen
  level : t.ronko.node.level = s.ronko.node.level
  nextId : t.ronko.node.nextId = s.ronko.node.nextId
  total : t.ronko.node.total = s.ronko.node.total
  assigned : t.ronko.node.assigned = s.ronko.node.assigned
  below : s.isRoot = false → t.ronko.node.id = s.ronko.node.id ∧ t.ronko.node.enum = s.ronko.node.enum

theorem queueSup_node (s : State) (p : Port) (kind : Byte) (dest : W16) (payload : List Byte) :
    (queueSup s p kind dest payload).ronko.node = s.ronko.node := by
  unfold queueSup
  split <;> rfl

theorem Enumerated.of_node (hports : t.ronko.ports = s.ronko.ports) (hch : t.ch = s.ch)
    (hnode : t.ronko.node = { s.ronko.node with todo := t.ronko.node.todo, waiting := t.ronko.node.waiting }) : Enumerated s t := by
  refine ⟨hports, hch, ?_, ?_, ?_, ?_, ?_, fun _ => ⟨?_, ?_⟩⟩ <;> rw [hnode]

theorem enumFinish_ports (s : State) : (enumFinish s).ronko.ports = s.ronko.ports := by
  unfold enumFinish
  extract_lets n ended offered own
  have hoffered : offered.ronko.ports = s.ronko.ports := forEach_ports (fun s p => queueSup_ports ..) _ _
  refine ite_ports (ite_ports hoffered ((congrArg Ronko.ports (sendMsg_ronko ..)).trans hoffered)) (queueSup_ports ..)

theorem enumFinish_node_root (h : s.isRoot = true) : (enumFinish s).ronko.node = { s.ronko.node with
    id := some 0, enum := .ready, nodeCount := s.ronko.node.nextId, unadmitted := s.ronko.node.total, waiting := none } := by
  unfold enumFinish
  extract_lets n ended offered own
  have hoffered : offered.ronko.node = ended.ronko.node :=
    forEach_keeps (fun s => s.ronko.node) _ _ (fun s p => queueSup_node ..) _
  rw [if_pos h]
  split
  · exact hoffered
  · exact (congrArg Ronko.node (sendMsg_ronko ..)).trans hoffered

theorem enumFinish_node_below (h : s.isRoot = false) : (enumFinish s).ronko.node = { s.ronko.node with waiting := none } := by
  unfold enumFinish
  rw [h, if_neg Bool.false_ne_true]
  exact queueSup_node ..

theorem enumFinish_enumerated (s : State) : Enumerated s (enumFinish s) := by
  have hch : (enumFinish s).ch = s.ch := by simp
  cases hroot : s.isRoot with
  | true =>
    have hnode := enumFinish_node_root hroot
    refine ⟨enumFinish_ports s, hch, ?_, ?_, ?_, ?_, ?_, fun h => absurd (hroot.symm.trans h) (by decide)⟩ <;> rw [hnode]
  | false =>
    exact .of_node (enumFinish_ports s) hch (by rw [enumFinish_node_below hroot])

theorem enumNext_node {q : Port} {rest : List Port} (h : s.ronko.node.todo = q :: rest) :
    (enumNext s).ronko.node = { s.ronko.node with todo := rest, waiting := some q } := by
  simp only [enumNext, h]
  exact queueSup_node ..

theorem enumNext_enumerated (s : State) : Enumerated s (enumNext s) := by
  cases htodo : s.ronko.node.todo with
  | nil =>
    have hnext : enumNext s = enumFinish s := by simp only [enumNext, htodo]
    rw [hnext]
    exact enumFinish_enumerated s
  | cons q rest =>
    refine .of_node ?_ (by simp) (by rw [enumNext_node htodo])
    simp only [enumNext, htodo]
    exact queueSup_ports ..

/-- The state from which a unit offers its first child an ID (R504, R506). -/
def State.enumerating (s : State) (offered level : Nat) (admitIt : Bool) (gen : W16) : State :=
  let u := ((answerAll s).modPort rkl fun q => { q with subFirst := 0, subCount := 0 }).modPort rkm fun q => { q with subFirst := 0, subCount := 0 }
  u.modNode fun n => { n with
    offered := offered, level := level, admitIt := admitIt, gen := gen, total := 0
    enum := if admitIt then .running else .unadmitted
    nextId := if admitIt then offered + 1 else offered
    todo := [rkl, rkm].filter u.active, waiting := none }

theorem enumBegin_eq (s : State) (offered level : Nat) (admitIt : Bool) (gen : W16) :
    enumBegin s offered level admitIt gen = enumNext (s.enumerating offered level admitIt gen) := rfl

theorem answerAll_ronko (s : State) : (answerAll s).ronko = s.ronko := by simp

theorem enumerating_active (s : State) (offered level : Nat) (admitIt : Bool) (gen : W16) (p : Port) :
    (s.enumerating offered level admitIt gen).active p = s.active p := by
  have hport : ∀ u : State, ∀ q, ((u.modPort q fun x => { x with subFirst := 0, subCount := 0 }).port p).link = (u.port p).link := fun u q => by
    rw [State.port_modPort_if]
    split_ifs with h
    · rw [h]
    · rfl
  have hall : (answerAll s).port p = s.port p := State.port_of_ports (congrArg Ronko.ports (answerAll_ronko s)) p
  have hlink : ((s.enumerating offered level admitIt gen).port p).link = (s.port p).link :=
    (hport _ rkm).trans ((hport _ rkl).trans (congrArg PortSt.link hall))
  exact congrArg (· == LinkState.active) hlink

section
variable (offered level : Nat) (admitIt : Bool) (gen : W16)

theorem enumBegin_enumerated (s : State) : Enumerated (s.enumerating offered level admitIt gen) (enumBegin s offered level admitIt gen) :=
  enumNext_enumerated _

theorem enumerating_ch (s : State) : (s.enumerating offered level admitIt gen).ch = s.ch :=
  show (answerAll s).ch = s.ch by simp

theorem enumerating_node (s : State) : (s.enumerating offered level admitIt gen).ronko.node = { s.ronko.node with
    offered := offered, level := level, admitIt := admitIt, gen := gen, total := 0
    enum := if admitIt then .running else .unadmitted
    nextId := if admitIt then offered + 1 else offered
    todo := (s.enumerating offered level admitIt gen).ronko.node.todo, waiting := none } := by
  have hnode : (answerAll s).ronko.node = s.ronko.node := congrArg Ronko.node (answerAll_ronko s)
  rw [← hnode]
  rfl

theorem enumerating_todo (h : s.active rkl = true) :
    ∃ rest, (s.enumerating offered level admitIt gen).ronko.node.todo = rkl :: rest := by
  have hact : (s.enumerating offered level admitIt gen).active rkl = true := (enumerating_active ..).trans h
  exact ⟨_, List.filter_cons_of_pos hact⟩

theorem enumBegin_ch (s : State) : (enumBegin s offered level admitIt gen).ch = s.ch :=
  (enumBegin_enumerated ..).ch.trans (enumerating_ch ..)

/-- What an enumeration's beginning sets, whatever ports there are (R504). -/
theorem enumBegin_begun (s : State) : let n := (enumBegin s offered level admitIt gen).ronko.node
    n.gen = gen ∧ n.level = level ∧ n.nextId = (if admitIt then offered + 1 else offered) ∧ n.assigned = s.ronko.node.assigned := by
  have h := enumBegin_enumerated offered level admitIt gen s
  have hnode := enumerating_node offered level admitIt gen s
  exact ⟨h.gen.trans (by rw [hnode]), h.level.trans (by rw [hnode]), h.nextId.trans (by rw [hnode]), h.assigned.trans (by rw [hnode])⟩

theorem enumBegin_below (hroot : s.isRoot = false) : let n := (enumBegin s offered level admitIt gen).ronko.node
    n.id = s.ronko.node.id ∧ n.enum = if admitIt then .running else .unadmitted := by
  have hroot' : (s.enumerating offered level admitIt gen).isRoot = false := by
    rw [State.isRoot, enumerating_active]
    exact hroot
  obtain ⟨hid, henum⟩ := (enumBegin_enumerated offered level admitIt gen s).below hroot'
  have hnode := enumerating_node offered level admitIt gen s
  exact ⟨hid.trans (by rw [hnode]), henum.trans (by rw [hnode])⟩

/-- With RKL ACTIVE its child is offered an ID first. -/
theorem enumBegin_offers (h : s.active rkl = true) : let n := (enumBegin s offered level admitIt gen).ronko.node
    n.waiting = some rkl ∧ (n.enum = if admitIt then .running else .unadmitted) ∧ n.id = s.ronko.node.id := by
  obtain ⟨rest, htodo⟩ := enumerating_todo offered level admitIt gen h
  have hnode := enumerating_node offered level admitIt gen s
  rw [enumBegin_eq, enumNext_node htodo]
  exact ⟨rfl, by rw [hnode], by rw [hnode]⟩

end

theorem enumRoot_of_root (hroot : s.isRoot = true) (hon : s.linkOn = true) : enumRoot s = enumBegin s 0 0 true (s.ronko.node.gen + 1) :=
  if_pos (by simp [hroot, hon])

/-- A child that has been assigned an ID, or refused one (R504). -/
def State.assignedTo (s : State) (id : W16) (admitIt : Bool) : State :=
  s.modNode fun n => { n with assigned := true, rootlessDue := false, id := if admitIt then some id else none }

theorem exec_enumAssign_below (id : W16) (level : Byte) (a : Bool) (gen : W16) (hroot : s.isRoot = false) (hon : s.linkOn = true) :
    exec (.enumAssign id level a gen) s = .next (enumBegin (s.assignedTo id a) id.toNat level.toNat a gen) :=
  congrArg Host.Outcome.next (if_neg (by simp [hroot, hon]))

/-- The state in which a child's subtree has been taken over (R504). -/
def State.subtreeTaken (s : State) (p : Port) (next un : W16) : State :=
  (s.modPort p fun q => { q with subFirst := s.ronko.node.nextId, subCount := next.toNat - s.ronko.node.nextId }).modNode fun n =>
    { n with nextId := next.toNat, total := n.total + un.toNat, waiting := none }

theorem exec_enumDone_awaited (next un : W16) (hwait : s.ronko.node.waiting = some p) (hact : s.active p = true) :
    exec (.enumDone p next un) s = .next (enumNext (s.subtreeTaken p next un)) :=
  congrArg Host.Outcome.next (if_pos (by simp [hwait, hact]))

theorem subtreeTaken_result (p : Port) (next un : W16) : let t := enumNext (s.subtreeTaken p next un)
    (t.port p).subFirst = s.ronko.node.nextId ∧ (t.port p).subCount = next.toNat - s.ronko.node.nextId
      ∧ t.ronko.node.nextId = next.toNat ∧ t.ronko.node.total = s.ronko.node.total + un.toNat ∧ t.ch = s.ch := by
  have h := enumNext_enumerated (s.subtreeTaken p next un)
  have hport : (s.subtreeTaken p next un).port p =
      { s.port p with subFirst := s.ronko.node.nextId, subCount := next.toNat - s.ronko.node.nextId } :=
    State.port_modPort_self s p fun q => { q with subFirst := s.ronko.node.nextId, subCount := next.toNat - s.ronko.node.nextId }
  have hkept := (State.port_of_ports h.ports p).trans hport
  exact ⟨congrArg PortSt.subFirst hkept, congrArg PortSt.subCount hkept, h.nextId, h.total, h.ch⟩

end

/-! ### The clauses -/

/-- The states of a port (R487, R488, Table 13.2). -/
theorem alignComplete_active (s : State) (p : Port) (hon : s.linkOn = true) (hlink : (s.port p).link = .align)
    (hpeer : (s.port p).peerRole ≠ 0) (hrole : (s.port p).peerRole ≠ roleOfPort p) (hmade : 8 ≤ (s.port p).aligned)
    (hnear : (s.port p).delay ≤ 2 * (longestDelay : Int)) : exec (.alignComplete p (s.port p).delay) s = .next (portActive s p) := by
  rw [exec_alignComplete_judged _ hon hlink hpeer, if_neg hrole, if_neg (by simpa using hmade), if_neg (Int.not_lt.mpr hnear)]

theorem eyeUpdate_clause (s : State) (p : Port) (h w : W16) (hon : s.linkOn = true) (hen : (s.port p).link ≠ .disabled)
    (hup : (s.port p).link ≠ .down) : ∃ t, exec (.eyeUpdate p h w) s = .next t ∧ (t.port p).eyeMv = h ∧ (t.port p).eyeWidth = w
      ∧ (t.port p).link = (s.port p).link ∧ (∀ q, q ≠ p → t.port q = s.port q)
      ∧ (h.toNat < 40 → (s.port p).marginLow = false → Sends s t (srcPort p) 0xD3 .note h.toNat) := by
  refine ⟨_, exec_eyeUpdate_seen h w hon hen hup, ?_⟩
  have hports : ∀ c : Prop, [Decidable c] → (if c then sendMsg (s.modPort p fun q => q.seen h w) (srcPort p) 0xD3 .note h.toNat
      else s.modPort p fun q => q.seen h w).ronko.ports = (s.modPort p fun q => q.seen h w).ronko.ports := fun c _ =>
    ite_ports (congrArg Ronko.ports (sendMsg_ronko ..)) rfl
  rw [State.port_of_ports (hports _), State.port_modPort_self]
  refine ⟨rfl, rfl, rfl, fun q hq => (State.port_of_ports (hports _) q).trans (State.port_modPort_ne s hq _), fun hlow hmargin => ?_⟩
  rw [if_pos (by simp [hlow, hmargin])]
  exact sends_sendMsg (by simp) _ _ _ _

theorem eqAdapt_clause (s : State) (p : Port) (pk : BitVec 4) (a b c d : Byte) (hon : s.linkOn = true) (hfreeze : (s.port p).freeze = false)
    (hen : (s.port p).link ≠ .disabled) (hup : (s.port p).link ≠ .down) (hmay : eqMay (s.port p) s.now pk [a, b, c] d = true) :
    ∃ t, exec (.eqAdapt p pk a b c d) s = .next t
      ∧ t = s.modPort p (fun q => { q with eqPeak := pk, dfe1 := a, dfe2 := b, dfe3 := c, eqDelayPs := d, eqTrained := true
                                           peakAt := (t.port p).peakAt, tapAt := (t.port p).tapAt })
      ∧ (pk ≠ (s.port p).eqPeak → (t.port p).peakAt = s.now) ∧ (pk = (s.port p).eqPeak → (t.port p).peakAt = (s.port p).peakAt)
      ∧ (a ≠ (s.port p).dfe1 → (t.port p).tapAt[0] = s.now) := by
  refine ⟨_, exec_eqAdapt_taken hon hfreeze hen hup hmay, ?_⟩
  rw [State.port_modPort_self]
  exact ⟨State.modPort_congr rfl, fun h => if_pos (bne_iff_ne.mpr h.symm), fun h => if_neg (by simp [h]), fun h => if_pos (bne_iff_ne.mpr h.symm)⟩

/-- Settles O32: a port's states by the branches of its commands, the equaliser's limits by `eqMay`, and the enumeration by what the
offer of an ID leaves as it is. -/
theorem portsAndEnumeration : Obligations.PortsAndEnumeration := by
  unfold Obligations.PortsAndEnumeration
  refine ⟨⟨?_, ?_, ?_, ?_, ?_, fun s p d hrole h => exec_alignComplete_waits d hrole h, ?_, ?_, ?_, ?_, ?_, eqAdapt_clause,
    fun s p pk a b c d h => exec_eqAdapt_held h, fun s p pk a b c d h => exec_eqAdapt_held (.inr (eqMay_of_range h)),
    fun s p pk a b c d hlink h => exec_eqAdapt_held (.inr (eqMay_of_steps hlink h)),
    fun s p pk a b c d htrained hpk hd => exec_eqAdapt_held (.inr (eqMay_of_delay htrained hpk hd)), eyeUpdate_clause, ?_⟩,
    ?_, ?_, ?_, ?_, ?_, ?_, ?_, ?_, ?_, ?_, ?_, ?_⟩
  case refine_1 =>
    intro s p hon hlink
    exact congrArg Host.Outcome.next (if_pos (by simp [hon, hlink]))
  case refine_2 =>
    intro s p hon hlink
    refine ⟨_, congrArg Host.Outcome.next (if_pos (by simp [hon, hlink])), ?_⟩
    rw [sendLc_port, State.port_modPort_self]
    refine ⟨rfl, rfl, ?_, fun q hq => (sendLc_port ..).trans (State.port_modPort_ne s hq _)⟩
    unfold roleOfPort rku
    split <;> rfl
  case refine_3 =>
    intro s p hon hlink hpeer hrole hmade hnear
    refine ⟨_, alignComplete_active s p hon hlink hpeer hrole hmade hnear, ?_⟩
    rw [portActive_port]
    exact ⟨rfl, rfl, rfl, rfl, rfl, rfl⟩
  case refine_4 =>
    intro s p d hon hlink hpeer hrole
    refine ⟨_, (exec_alignComplete_judged d hon hlink hpeer).trans (if_pos hrole), ?_, sends_sendMsg (by simp) _ _ _ _⟩
    rw [State.port_of_ports (congrArg Ronko.ports (sendMsg_ronko ..)), State.port_modPort_self]
  case refine_5 =>
    intro s p hon hlink hpeer hrole hmade hfar
    refine ⟨_, (exec_alignComplete_judged _ hon hlink hpeer).trans ((if_neg hrole).trans ((if_neg (by simpa using hmade)).trans
      (if_pos hfar))), ?_, sends_sendMsg (by simp) _ _ _ _⟩
    rw [State.port_of_ports (congrArg Ronko.ports (sendMsg_ronko ..)), State.port_modPort_self]
  case refine_6 =>
    intro s p hon hlink
    exact congrArg Host.Outcome.next (if_pos (by simpa [hon] using hlink))
  case refine_7 =>
    intro s p why hon hact hen
    refine ⟨_, exec_linkLoss_active why hon hact, ?_⟩
    rw [portDown_port, State.port_modPort_self]
    refine ⟨if_pos hen, rfl, rfl, fun k hk => ?_⟩
    rw [hk]
    rfl
  case refine_8 =>
    intro s p why hact
    exact congrArg Host.Outcome.next (if_neg (by simp [hact]))
  case refine_9 =>
    intro s r p h hon hlink
    have hdone := perform_done h fun _ => rfl
    have hput : (objPortEn p).put ⟨r, [1], s, s, s⟩ s = s.modPort p fun q => { q with en := true, link := .down } :=
      State.modPort_congr (f := fun q => { q with en := true, link := if q.link == .disabled && s.linkOn then .down else q.link })
        (congrArg (fun l => { s.port p with en := true, link := l }) (if_pos (by rw [hlink, hon]; rfl)))
    rwa [hput] at hdone
  case refine_10 =>
    intro s r p h hact
    have hdone := perform_done h fun _ => rfl
    have hput : (objPortEn p).put ⟨r, [0], s, s, s⟩ s = s.modPort p fun q => { q with en := false, link := .disabled, signal := false } := by
      show (if s.active p = true then _ else ((if s.active p && s.linkOn then _ else s).modPort p _).modPort p _) = _
      rw [hact, if_neg Bool.false_ne_true, Bool.false_and, if_neg Bool.false_ne_true, State.modPort_modPort]
    rwa [hput] at hdone
  case refine_11 =>
    intro s p h w hdown
    exact congrArg Host.Outcome.next (if_pos (by rcases hdown with hdown | hdown <;> simp [hdown]))
  case refine_12 =>
    intro s hroot hon hact
    obtain ⟨hgen, hlevel, hnext, -⟩ := enumBegin_begun 0 0 true (s.ronko.node.gen + 1) s
    obtain ⟨hwait, henum, -⟩ := enumBegin_offers 0 0 true (s.ronko.node.gen + 1) hact
    exact ⟨_, congrArg Host.Outcome.next (enumRoot_of_root hroot hon), hgen, hwait, henum, hnext, hlevel, enumBegin_ch ..⟩
  case refine_13 =>
    intro s r v h hon hact
    have hroot : s.isRoot = true := of_code_eq_ok (by decide) h.passes_mode_state.2
    obtain ⟨hgen, -⟩ := enumBegin_begun 0 0 true (s.ronko.node.gen + 1) s
    obtain ⟨hwait, -⟩ := enumBegin_offers 0 0 true (s.ronko.node.gen + 1) hact
    have hput : objEnumRestart.put ⟨r, [v], s, s, s⟩ s = enumBegin s 0 0 true (s.ronko.node.gen + 1) := enumRoot_of_root hroot hon
    refine ⟨_, congrArg Host.Outcome.next (perform_admitted h), rfl, ?_⟩
    rw [reply_ronko, hput]
    exact ⟨hgen, hwait, by simp⟩
  case refine_14 =>
    intro s id level gen a hroot hon
    obtain ⟨hgen, hlevel, -, hassigned⟩ := enumBegin_begun id.toNat level.toNat a gen (s.assignedTo id a)
    obtain ⟨hid, henum⟩ := enumBegin_below (s := s.assignedTo id a) id.toNat level.toNat a gen hroot
    exact ⟨_, exec_enumAssign_below id level a gen hroot hon, hid, hlevel, hgen, hassigned, henum, enumBegin_ch ..⟩
  case refine_15 =>
    intro s p next un hwait hact
    exact ⟨_, exec_enumDone_awaited next un hwait hact, subtreeTaken_result ..⟩
  case refine_16 =>
    intro s hroot hon
    obtain ⟨hgen, hlevel, hnext, -⟩ := enumBegin_begun 0 0 true (s.ronko.node.gen + 1) s
    exact ⟨_, congrArg Host.Outcome.next (enumRoot_of_root hroot hon), hgen, hlevel, hnext, enumBegin_ch ..⟩
  case refine_17 =>
    intro s id level gen hroot hon hact
    obtain ⟨hgen, hlevel, hnext, hassigned⟩ := enumBegin_begun id.toNat level.toNat true gen (s.assignedTo id true)
    obtain ⟨hid, -⟩ := enumBegin_below (s := s.assignedTo id true) id.toNat level.toNat true gen hroot
    exact ⟨_, exec_enumAssign_below id level true gen hroot hon, hid, hlevel, hgen, hassigned, hnext, enumBegin_ch ..⟩
  case refine_18 =>
    intro s id level gen hroot hon hact
    obtain ⟨-, -, hnext, -⟩ := enumBegin_begun id.toNat level.toNat false gen (s.assignedTo id false)
    obtain ⟨hid, -⟩ := enumBegin_below (s := s.assignedTo id false) id.toNat level.toNat false gen hroot
    exact ⟨_, exec_enumAssign_below id level false gen hroot hon, hid, hnext⟩
  case refine_19 =>
    intro s next un hwait hact htodo
    obtain ⟨hfirst, hcount, hnext, htotal, -⟩ := subtreeTaken_result (s := s) rkl next un
    have hnode := enumNext_node (s := s.subtreeTaken rkl next un) htodo
    exact ⟨_, exec_enumDone_awaited next un hwait hact, hfirst, hcount, congrArg Node.waiting hnode, hnext, htotal⟩
  case refine_20 =>
    intro s gen count hroot henum
    exact congrArg Host.Outcome.next (if_pos (by simpa [hroot] using henum))
  case refine_21 =>
    intro s hroot hon
    exact congrArg Host.Outcome.next (if_pos (by simp [hroot, hon]))
  case refine_22 =>
    intro s hon hroot hdue
    refine ⟨_, congrArg Host.Outcome.next (if_pos (by simp [hroot, hon, hdue])), ?_, ?_, sends_sendMsg (by simp [State.modNode]) _ _ _ _⟩
    · rw [sendMsg_ronko]
      rfl
    · rw [sendMsg_ronko]
      rfl
  case refine_23 =>
    intro s hdue
    exact congrArg Host.Outcome.next (if_neg (by simp [hdue]))

end Sys2Proof.Machine
end

section
/-! PROOFS. The tunnel's endpoint: reassembly, refusals and transmit slots (R522 to R527). -/

namespace Sys2Proof.Machine

section
variable {s t u : State} {g : Segment} {i : Fin 8} {kind : Nat}

/-! ### Receive slots -/

theorem setRx_self (t : Tunnel) (i : Fin 8) (x : RxSlot) : (t.setRx i x).rx[i.val] = x := Vector.getElem_set_self ..

theorem setRx_ne (t : Tunnel) {i j : Fin 8} (h : j ≠ i) (x : RxSlot) : (t.setRx i x).rx[j.val] = t.rx[j.val] :=
  Vector.getElem_set_ne i.isLt _ fun hij => h (Fin.ext hij.symm)

theorem setTx_self (t : Tunnel) (k : Fin 4) (x : TxSlot) : (t.setTx k x).tx[k.val] = x := Vector.getElem_set_self ..

theorem setTx_ne (t : Tunnel) {k j : Fin 4} (h : j ≠ k) (x : TxSlot) : (t.setTx k x).tx[j.val] = t.tx[j.val] :=
  Vector.getElem_set_ne k.isLt _ fun hkj => h (Fin.ext hkj.symm)

/-- A segment of the tunnel that has come to this unit: the command and the kind of its slot (Table 13.13). -/
def IsSegment (c : Instr) (g : Segment) (kind : Nat) : Prop :=
  (c = .tunReq g ∧ kind = 0) ∨ (c = .tunRsp g ∧ kind = 1) ∨ (c = .tunEvt g ∧ kind = 2)

theorem exec_segment {c : Instr} (hc : IsSegment c g kind) (hon : s.linkOn = true) : exec c s = .next (takeSegment s kind g) := by
  obtain ⟨rfl, rfl⟩ | ⟨rfl, rfl⟩ | ⟨rfl, rfl⟩ := hc <;> exact congrArg Host.Outcome.next (if_pos hon)

/-- A slot with a reassembly that has just begun (R523). -/
def RxSlot.begun (kind : Nat) (g : Segment) : RxSlot :=
  { filling := true, kind := kind, src := g.src, tag := g.tag, entry := g.entry, hostIp := g.hostIp, hostPort := g.hostPort
    segCount := g.segCount.toNat, totalLen := g.totalLen.toNat }

def State.rxBegun (s : State) (i : Fin 8) (kind : Nat) (g : Segment) : State := s.modTun fun t => t.setRx i (.begun kind g)

/-- A segment joins its slot, and a whole datagram is handled. -/
def joinSlot (s : State) (i : Fin 8) (g : Segment) : State :=
  if ((fillSlot s i g).ronko.tun.rx[i.val]).full then takeWhole (fillSlot s i g) ((fillSlot s i g).ronko.tun.rx[i.val]) else fillSlot s i g

section
variable (hcore : s.coreRuns = true) (hrx : s.ronko.tun.rxEn = true)
include hcore hrx

theorem takeSegment_first (hfree : freeSlot s.ronko.tun = some i) (hold : slotFilling s.ronko.tun kind g = none) (hseg : g.seg = 0) :
    takeSegment s kind g = joinSlot (s.rxBegun i kind g) i g := by
  have hend : ¬ (!s.coreRuns || !s.ronko.tun.rxEn) = true := by simp [hcore, hrx]
  unfold takeSegment
  dsimp only
  rw [if_neg hend, if_pos (beq_iff_eq.mpr hseg), hold]
  simp only [beginSlot, hfree]
  rfl

theorem takeSegment_next (hold : slotFilling s.ronko.tun kind g = some i) (hseg : g.seg ≠ 0) :
    takeSegment s kind g = joinSlot s i g := by
  have hend : ¬ (!s.coreRuns || !s.ronko.tun.rxEn) = true := by simp [hcore, hrx]
  unfold takeSegment
  dsimp only
  rw [if_neg hend, if_neg (by simpa using hseg), hold]
  rfl

end

theorem takeSegment_noEndpoint (h : s.coreRuns = false ∨ s.ronko.tun.rxEn = false) (kind : Nat) (g : Segment) :
    takeSegment s kind g = noEndpoint s kind g := by
  unfold takeSegment
  exact if_pos (by rcases h with h | h <;> simp [h])

/-- The slot that a segment has joined (R523). -/
def RxSlot.joined (x : RxSlot) (g : Segment) : RxSlot :=
  { x with segs := x.segs + 1, data := x.data ++ g.data, filling := !decide (x.segs + 1 = x.segCount), full := decide (x.segs + 1 = x.segCount) }

/-- The state in which a segment has joined its slot; the last one counts. -/
def State.slotJoined (s : State) (i : Fin 8) (g : Segment) : State :=
  s.modTun fun t => { t.setRx i ((s.ronko.tun.rx[i.val]).joined g) with
    rxCount := if (s.ronko.tun.rx[i.val]).segs + 1 = (s.ronko.tun.rx[i.val]).segCount then t.rxCount.inc else t.rxCount }

theorem slotJoined_rx (s : State) (i : Fin 8) (g : Segment) :
    (s.slotJoined i g).ronko.tun.rx[i.val] = (s.ronko.tun.rx[i.val]).joined g := setRx_self ..

theorem slotJoined_count (s : State) (i : Fin 8) (g : Segment) : (s.slotJoined i g).ronko.tun.rxCount =
    if (s.ronko.tun.rx[i.val]).segs + 1 = (s.ronko.tun.rx[i.val]).segCount then s.ronko.tun.rxCount.inc else s.ronko.tun.rxCount := rfl

theorem fillSlot_joins (hsegs : (s.ronko.tun.rx[i.val]).segs = g.seg.toNat) (hcount : (s.ronko.tun.rx[i.val]).segCount = g.segCount.toNat)
    (htotal : (s.ronko.tun.rx[i.val]).totalLen = g.totalLen.toNat) (hfits : segFits g = true) : fillSlot s i g = s.slotJoined i g := by
  unfold fillSlot
  dsimp only
  rw [if_neg (by simp [hsegs, hcount, htotal, hfits])]
  simp only [State.slotJoined, RxSlot.joined, decide_eq_true_eq]

theorem fillSlot_stray (h : (s.ronko.tun.rx[i.val]).segs ≠ g.seg.toNat) : fillSlot s i g = dropSlot s i :=
  if_pos (by simp [h])

theorem dropSlot_rx (s : State) (i : Fin 8) : (dropSlot s i).ronko.tun.rx[i.val] = {} := setRx_self ..

/-- A joined segment that is not the last leaves its slot filling. -/
theorem joinSlot_more {v : State} (hfill : fillSlot s i g = v) (h : (v.ronko.tun.rx[i.val]).full = false) : joinSlot s i g = v := by
  rw [joinSlot, hfill, h, if_neg Bool.false_ne_true]

theorem joinSlot_whole {v : State} (hfill : fillSlot s i g = v) (h : (v.ronko.tun.rx[i.val]).full = true) :
    joinSlot s i g = takeWhole v (v.ronko.tun.rx[i.val]) := by
  rw [joinSlot, hfill, if_pos h]

/-! ### The tunnel's own parts -/

/-- Nothing but the link, the open transactions and the emissions differs. -/
structure TunnelOnly (s t : State) : Prop where
  eq : t = { s with ronko := t.ronko, rop := t.rop, emit := t.emit }

namespace TunnelOnly

theorem refl (s : State) : TunnelOnly s s := ⟨rfl⟩

theorem trans (h : TunnelOnly s t) (h' : TunnelOnly t u) : TunnelOnly s u := ⟨by rw [h'.eq, h.eq]⟩

theorem ite {c : Prop} [Decidable c] (h : TunnelOnly s t) (h' : TunnelOnly s u) : TunnelOnly s (if c then t else u) := by
  split_ifs
  · exact h
  · exact h'

theorem forEach {α : Type} {f : State → α → State} (hf : ∀ s a, TunnelOnly s (f s a)) (l : List α) (s : State) :
    TunnelOnly s (Machine.forEach l s f) := by
  induction l generalizing s with
  | nil => exact .refl s
  | cons a l ih => exact (hf s a).trans (ih (f s a))

end TunnelOnly

/-- What a TUN_NACK, sent or taken, leaves of the link: the transmit slots and the datagrams that wait. -/
structure SlotsKept (s t : State) : Prop extends TunnelOnly s t where
  tx : t.ronko.tun.tx = s.ronko.tun.tx
  waiting : t.ronko.tun.waiting = s.ronko.tun.waiting

namespace SlotsKept

theorem refl (s : State) : SlotsKept s s := ⟨.refl s, rfl, rfl⟩

theorem trans (h : SlotsKept s t) (h' : SlotsKept t u) : SlotsKept s u :=
  ⟨h.toTunnelOnly.trans h'.toTunnelOnly, h'.tx.trans h.tx, h'.waiting.trans h.waiting⟩

theorem ite {c : Prop} [Decidable c] (h : SlotsKept s t) (h' : SlotsKept s u) : SlotsKept s (if c then t else u) := by
  split_ifs
  · exact h
  · exact h'

theorem forEach {α : Type} {f : State → α → State} (hf : ∀ s a, SlotsKept s (f s a)) (l : List α) (s : State) :
    SlotsKept s (Machine.forEach l s f) := by
  induction l generalizing s with
  | nil => exact .refl s
  | cons a l ih => exact (hf s a).trans (ih (f s a))

end SlotsKept

theorem sendUdp_slots (s : State) (ip : Word) (port : W16) (bytes : List Byte) : SlotsKept s (s.sendUdp ip port bytes) :=
  .ite (.ite ⟨⟨rfl⟩, rfl, rfl⟩ (.refl s)) (.refl s)

/-- A forwarded transaction that is answered is open no longer (R524). -/
def State.relayEnded (s : State) (f : Forwarded) (code : Byte) : State :=
  { s with rop := ({ s.rop with forwarded := s.rop.forwarded.erase f } : Rop).countAnswer code }

theorem answerForwarded_eq (s : State) (f : Forwarded) (code : Byte) (retry : Nat) : answerForwarded s f code retry =
    (s.relayEnded f code).sendUdp f.peer.ip f.peer.port (ropHeader 0x80 f.session f.seq f.dest f.timeout 0 code retry) := rfl

theorem answerForwarded_slots (s : State) (f : Forwarded) (code : Byte) (retry : Nat) : SlotsKept s (answerForwarded s f code retry) :=
  (SlotsKept.mk (t := s.relayEnded f code) ⟨rfl⟩ rfl rfl).trans (sendUdp_slots ..)

theorem countAnswer_forwarded (r : Rop) (code : Byte) : (r.countAnswer code).forwarded = r.forwarded := by
  unfold Rop.countAnswer
  split_ifs <;> rfl

theorem answerForwarded_forwarded (s : State) (f : Forwarded) (code : Byte) (retry : Nat) :
    (answerForwarded s f code retry).rop.forwarded = s.rop.forwarded.erase f := by
  have hsent : ((s.relayEnded f code).sendUdp f.peer.ip f.peer.port (ropHeader 0x80 f.session f.seq f.dest f.timeout 0 code retry)).rop
      = (s.relayEnded f code).rop := by simp
  rw [answerForwarded_eq, hsent]
  exact countAnswer_forwarded ..

theorem modTun_slots (s : State) {f : Tunnel → Tunnel} (htx : ∀ t, (f t).tx = t.tx) (hwait : ∀ t, (f t).waiting = t.waiting) :
    SlotsKept s (s.modTun f) := ⟨⟨rfl⟩, htx _, hwait _⟩

theorem takeNack_slots (s : State) (src tag entry : W16) (reason : Byte) : SlotsKept s (takeNack s src tag entry reason) := by
  unfold takeNack
  extract_lets counted filled
  have hcounted : SlotsKept s counted := modTun_slots s (fun _ => rfl) (fun _ => rfl)
  have hfilled : SlotsKept s filled := hcounted.trans (modTun_slots counted (fun t => by split <;> rfl) (fun t => by split <;> rfl))
  refine .ite hcounted ?_
  split
  · exact hfilled.trans (answerForwarded_slots ..)
  · exact hfilled

theorem queueSup_slots (s : State) (p : Port) (kind : Byte) (dest : W16) (payload : List Byte) :
    SlotsKept s (queueSup s p kind dest payload) := .ite ⟨⟨rfl⟩, rfl, rfl⟩ (.refl s)

theorem sendNack_slots (s : State) (entry tag : W16) (reason : Byte) : SlotsKept s (sendNack s entry tag reason) := by
  unfold sendNack
  extract_lets r counted
  have hcounted : SlotsKept s counted := .ite (modTun_slots s (fun _ => rfl) (fun _ => rfl)) (.refl s)
  exact hcounted.trans (.ite (takeNack_slots ..) (.forEach (fun s p => queueSup_slots ..) _ _))

theorem modTun_only (s : State) (f : Tunnel → Tunnel) : TunnelOnly s (s.modTun f) := ⟨rfl⟩

theorem startTx_only (s : State) (k : Fin 4) (x : TxSlot) (data : List Byte) : TunnelOnly s (startTx s k x data) :=
  .ite ((modTun_only s _).trans (sendNack_slots ..).toTunnelOnly) (modTun_only s _)

theorem serveTx_only (n : Nat) (s : State) : TunnelOnly s (serveTx n s) := by
  induction n generalizing s with
  | zero => exact .refl s
  | succ n ih =>
    unfold serveTx
    split
    · exact (modTun_only s _).trans ((startTx_only ..).trans (ih _))
    · exact .refl s

theorem dropKept_only (s : State) (entry tag : W16) : TunnelOnly s (dropKept s entry tag) := .forEach (fun _ _ => ⟨rfl⟩) allPort s

theorem dropKept_tun (s : State) (entry tag : W16) : (dropKept s entry tag).ronko.tun = s.ronko.tun :=
  forEach_keeps (fun s => s.ronko.tun) allPort _ (fun _ _ => rfl) s

theorem cancelTx_only (s : State) (k : Fin 4) : TunnelOnly s (cancelTx s k) :=
  ((dropKept_only s _ _).trans (modTun_only _ _)).trans (serveTx_only ..)

/-- With no datagram waiting a cancelled slot stays free (R525). -/
theorem cancelTx_of_none_waiting (k : Fin 4) (h : s.ronko.tun.waiting = []) :
    (cancelTx s k).ronko.tun = s.ronko.tun.setTx k { s.ronko.tun.tx[k.val] with state := 0, segs := [] } := by
  have hrefill : ∀ t : State, t.ronko.tun.waiting = [] → refillTx t = t := fun t ht => by
    rw [refillTx, ht]
    rfl
  unfold cancelTx
  dsimp only
  have hwait : ∀ u : State, u.ronko.tun = s.ronko.tun → ∀ x, (u.modTun fun t => t.setTx k x).ronko.tun.waiting = [] := fun u hu x => by
    show u.ronko.tun.waiting = []
    rw [hu, h]
  rw [hrefill _ (hwait _ (dropKept_tun ..) _)]
  exact congrArg (fun t : Tunnel => t.setTx k { s.ronko.tun.tx[k.val] with state := 0, segs := [] }) (dropKept_tun ..)

/-! ### Transmit slots -/

/-- The slot with the DEST and KIND of a write. -/
def TxSlot.addressed (x : TxSlot) (w : Word) : TxSlot := { x with d0 := w.extractLsb' 0 18 }

/-- A write of a slot that does not send and that is not cancelled (R522). -/
theorem writeTx_idle {k : Fin 4} {w : Word} (data : List Byte) (hidle : (s.ronko.tun.tx[k.val]).state ≠ 1) (hcancel : w.getLsbD 30 = false) :
    writeTx s k w data = (let x := (s.ronko.tun.tx[k.val]).addressed w
      let u := s.modTun fun t => t.setTx k x
      if !w.getLsbD 31 then u
      else if within 1 1472 x.len && x.kind != 3 then startTx u k x ((data ++ List.replicate (x.len - data.length) 0).take x.len)
      else u.modTun fun t => t.setTx k { x with state := 3 }) := by
  unfold writeTx
  rw [hcancel, if_neg Bool.false_ne_true]
  dsimp only
  rw [if_neg hidle, if_neg hidle]
  rfl

theorem startTx_tx (s : State) (k : Fin 4) (x : TxSlot) (data : List Byte) : (startTx s k x data).ronko.tun.tx =
    (s.ronko.tun.setTx k (if (routeOf s none x.dest false).outs.isEmpty then { x with state := 3, segs := [] }
      else { x with state := 1, segs := x.payloads data })).tx := by
  unfold startTx
  split
  · exact (sendNack_slots ..).tx
  · rfl

/-! ### The clauses of a segment -/

section
variable {c : Instr} (hc : IsSegment c g kind) (hon : s.linkOn = true) (hcore : s.coreRuns = true) (hrx : s.ronko.tun.rxEn = true)
include hc hon hcore hrx

section
variable (hfree : freeSlot s.ronko.tun = some i) (hold : slotFilling s.ronko.tun kind g = none) (hseg : g.seg = 0) (hfits : segFits g = true)
include hfree hold hseg hfits

omit hc hon hcore hrx hfree hold in
theorem fillSlot_begun : fillSlot (s.rxBegun i kind g) i g = (s.rxBegun i kind g).slotJoined i g := by
  have hslot : (s.rxBegun i kind g).ronko.tun.rx[i.val] = .begun kind g := setRx_self ..
  exact fillSlot_joins (by rw [hslot, hseg]; rfl) (by rw [hslot]; rfl) (by rw [hslot]; rfl) hfits

omit hc hon hcore hrx hfree hold hseg hfits in
theorem rxBegun_joined : ((s.rxBegun i kind g).slotJoined i g).ronko.tun.rx[i.val] = (RxSlot.begun kind g).joined g :=
  (slotJoined_rx ..).trans (congrArg (fun x => x.joined g) (setRx_self ..))

theorem segment_begins (hmany : 2 ≤ g.segCount.toNat) : ∃ t, exec c s = .next t ∧ (t.ronko.tun.rx[i.val]).filling = true
    ∧ (t.ronko.tun.rx[i.val]).kind = kind ∧ (t.ronko.tun.rx[i.val]).data = g.data ∧ (t.ronko.tun.rx[i.val]).segs = 1 ∧ t.ch = s.ch := by
  have hmore : decide (1 = g.segCount.toNat) = false := decide_eq_false (by omega)
  have hjoin := joinSlot_more (fillSlot_begun (s := s) (i := i) (kind := kind) hseg hfits) ((congrArg RxSlot.full rxBegun_joined).trans hmore)
  refine ⟨_, (exec_segment hc hon).trans (congrArg _ ((takeSegment_first hcore hrx hfree hold hseg).trans hjoin)), ?_⟩
  rw [rxBegun_joined]
  exact ⟨congrArg not hmore, rfl, rfl, rfl, rfl⟩

theorem segment_alone (hone : g.segCount = 1) : ∃ u, exec c s = .next (takeWhole u (u.ronko.tun.rx[i.val]))
    ∧ u = { s with ronko := u.ronko } ∧ (u.ronko.tun.rx[i.val]).full = true ∧ (u.ronko.tun.rx[i.val]).kind = kind
    ∧ (u.ronko.tun.rx[i.val]).data = g.data ∧ u.ronko.tun.rxCount = s.ronko.tun.rxCount.inc := by
  have hlast : 1 = g.segCount.toNat := by rw [hone]; rfl
  have hfull : ((RxSlot.begun kind g).joined g).full = true := decide_eq_true hlast
  have hjoin := joinSlot_whole (fillSlot_begun (s := s) (i := i) (kind := kind) hseg hfits) ((congrArg RxSlot.full rxBegun_joined).trans hfull)
  refine ⟨_, (exec_segment hc hon).trans (congrArg _ ((takeSegment_first hcore hrx hfree hold hseg).trans hjoin)), rfl, ?_⟩
  have hcount := slotJoined_count (s.rxBegun i kind g) i g
  rw [show (s.rxBegun i kind g).ronko.tun.rx[i.val] = .begun kind g from setRx_self ..] at hcount
  rw [rxBegun_joined]
  exact ⟨hfull, rfl, rfl, hcount.trans (if_pos hlast)⟩

end

section
variable (hold : slotFilling s.ronko.tun kind g = some i) (hseg : g.seg ≠ 0)
include hold hseg

theorem segment_strays (hsegs : (s.ronko.tun.rx[i.val]).segs ≠ g.seg.toNat) : ∃ t, exec c s = .next t ∧ t = { s with ronko := t.ronko }
    ∧ t.ronko.tun.rx[i.val] = {} ∧ t.ronko.tun.reasmDrops = s.ronko.tun.reasmDrops.inc := by
  have hjoin : joinSlot s i g = dropSlot s i := joinSlot_more (fillSlot_stray hsegs) (by rw [dropSlot_rx])
  exact ⟨_, (exec_segment hc hon).trans (congrArg _ ((takeSegment_next hcore hrx hold hseg).trans hjoin)), rfl, dropSlot_rx s i, rfl⟩

section
variable (hfits : segFits g = true) (hsegs : (s.ronko.tun.rx[i.val]).segs = g.seg.toNat)
  (hcount : (s.ronko.tun.rx[i.val]).segCount = g.segCount.toNat) (htotal : (s.ronko.tun.rx[i.val]).totalLen = g.totalLen.toNat)
include hfits hsegs hcount htotal

theorem segment_joins (hmore : (s.ronko.tun.rx[i.val]).segs + 1 < (s.ronko.tun.rx[i.val]).segCount) (hfull : (s.ronko.tun.rx[i.val]).full = false) :
    ∃ t, exec c s = .next t ∧ t = { s with ronko := t.ronko } ∧ t.ronko.tun.rx[i.val] = { s.ronko.tun.rx[i.val] with
        segs := (s.ronko.tun.rx[i.val]).segs + 1, data := (s.ronko.tun.rx[i.val]).data ++ g.data, filling := true }
      ∧ t.ronko.tun.rxCount = s.ronko.tun.rxCount := by
  have hfill := fillSlot_joins (s := s) (i := i) (g := g) hsegs hcount htotal hfits
  have hne : ¬ (s.ronko.tun.rx[i.val]).segs + 1 = (s.ronko.tun.rx[i.val]).segCount := by omega
  have hpart : ((s.ronko.tun.rx[i.val]).joined g).full = false := decide_eq_false hne
  have hjoin := joinSlot_more hfill (slotJoined_rx s i g ▸ hpart)
  refine ⟨_, (exec_segment hc hon).trans (congrArg _ ((takeSegment_next hcore hrx hold hseg).trans hjoin)), rfl, ?_,
    (slotJoined_count s i g).trans (if_neg hne)⟩
  rw [slotJoined_rx, RxSlot.joined, decide_eq_false hne, Bool.not_false]
  exact congrArg (fun b => { s.ronko.tun.rx[i.val] with
    segs := (s.ronko.tun.rx[i.val]).segs + 1, data := (s.ronko.tun.rx[i.val]).data ++ g.data, filling := true, full := b }) hfull.symm

theorem segment_completes (hlast : (s.ronko.tun.rx[i.val]).segs + 1 = (s.ronko.tun.rx[i.val]).segCount) :
    ∃ u, exec c s = .next (takeWhole u (u.ronko.tun.rx[i.val])) ∧ u = { s with ronko := u.ronko }
      ∧ u.ronko.tun.rxCount = s.ronko.tun.rxCount.inc ∧ u.ronko.tun.rx[i.val] = { s.ronko.tun.rx[i.val] with
        segs := (s.ronko.tun.rx[i.val]).segs + 1, data := (s.ronko.tun.rx[i.val]).data ++ g.data, filling := false, full := true } := by
  have hfill := fillSlot_joins (s := s) (i := i) (g := g) hsegs hcount htotal hfits
  have hwhole : ((s.ronko.tun.rx[i.val]).joined g).full = true := decide_eq_true hlast
  have hjoin := joinSlot_whole hfill (slotJoined_rx s i g ▸ hwhole)
  refine ⟨_, (exec_segment hc hon).trans (congrArg _ ((takeSegment_next hcore hrx hold hseg).trans hjoin)), rfl,
    (slotJoined_count s i g).trans (if_pos hlast), ?_⟩
  rw [slotJoined_rx, RxSlot.joined, decide_eq_true hlast, Bool.not_true]

end

end

end

/-! ### Refusals -/

theorem noEndpoint_request_begun (h : slotFilling s.ronko.tun 0 g = some i) :
    noEndpoint s 0 g = sendNack (dropSlot s i) g.entry g.tag 2 := by
  simp [noEndpoint, kReq, h]

theorem noEndpoint_request_first (h : slotFilling s.ronko.tun 0 g = none) (hseg : g.seg = 0) :
    noEndpoint s 0 g = sendNack s g.entry g.tag 2 := by
  simp [noEndpoint, kReq, h, hseg]

theorem noEndpoint_other (hkind : kind ≠ 0) (h : slotFilling s.ronko.tun kind g = some i) : noEndpoint s kind g = dropSlot s i := by
  simp [noEndpoint, kReq, h, hkind]

/-- The slot that a TUN_NACK fills (R524). -/
def RxSlot.refused (src tag entry : W16) (reason : Byte) : RxSlot :=
  { full := true, kind := 3, src := src, tag := tag, entry := entry, reason := reason }

/-- The state in which a running core has taken a TUN_NACK. -/
def State.nackTaken (s : State) (src tag entry : W16) (reason : Byte) : State :=
  (s.modTun fun t => { t with nackRx := t.nackRx.inc }).modTun fun t =>
    match (if t.rxEn then freeSlot t else none) with
    | some i => t.setRx i (.refused src tag entry reason)
    | none => { t with reasmDrops := t.reasmDrops.inc }

theorem takeNack_ronko_nackRx (s : State) (src tag entry : W16) (reason : Byte) :
    (takeNack s src tag entry reason).ronko.tun.nackRx = s.ronko.tun.nackRx.inc := by
  unfold takeNack
  extract_lets counted filled
  have hfilled : filled.ronko.tun.nackRx = s.ronko.tun.nackRx.inc := by
    simp only [filled, State.modTun]
    split <;> rfl
  split
  · rfl
  · split
    · rw [answerForwarded_ronko]
      exact hfilled
    · exact hfilled

theorem takeNack_answers {tag : W16} {reason code : Byte} {retry : Nat} {f : Forwarded} (src entry : W16) (hcore : s.coreRuns = true)
    (hcode : nackCode reason = some (code, retry)) (hfind : (s.rop.forwarded.find? fun f => f.tag == tag) = some f) :
    takeNack s src tag entry reason = answerForwarded (s.nackTaken src tag entry reason) f code retry := by
  unfold takeNack
  extract_lets counted filled
  have hrun : ¬ (!counted.coreRuns) = true := by
    rw [show counted.coreRuns = s.coreRuns from rfl, hcore]
    decide
  have hfind' : (filled.rop.forwarded.find? fun f => f.tag == tag) = some f := hfind
  rw [if_neg hrun, hcode, hfind']
  rfl

theorem takeNack_unasked {i : Fin 8} (src tag entry : W16) (reason : Byte) (hcore : s.coreRuns = true) (hrx : s.ronko.tun.rxEn = true)
    (hfree : freeSlot s.ronko.tun = some i) (hnone : s.rop.forwarded = []) : takeNack s src tag entry reason =
      s.modTun fun t => { t.setRx i (.refused src tag entry reason) with nackRx := t.nackRx.inc } := by
  unfold takeNack
  extract_lets counted filled
  have hrun : ¬ (!counted.coreRuns) = true := by
    rw [show counted.coreRuns = s.coreRuns from rfl, hcore]
    decide
  have hfree' : (if counted.ronko.tun.rxEn then freeSlot counted.ronko.tun else none) = some i := (if_pos hrx).trans hfree
  have hfilled : filled = counted.modTun fun t => t.setRx i (.refused src tag entry reason) := by
    simp only [filled, State.modTun, hfree']
    rfl
  have hnone' : filled.rop.forwarded.find? (fun f => f.tag == tag) = none := by
    rw [show filled.rop.forwarded = s.rop.forwarded from rfl, hnone]
    rfl
  rw [if_neg hrun, hnone', hfilled]
  split
  · contradiction
  · rfl

/-! ### Writes of transmit slots -/

section
variable {k : Fin 4} {w : Word} (hidle : (s.ronko.tun.tx[k.val]).state ≠ 1) (hcancel : w.getLsbD 30 = false)
include hidle hcancel

theorem writeTx_sends {data : List Byte} (hgo : w.getLsbD 31 = true) (hlo : 1 ≤ ((s.ronko.tun.tx[k.val]).addressed w).len)
    (hhi : ((s.ronko.tun.tx[k.val]).addressed w).len ≤ 1472) (hkind : ((s.ronko.tun.tx[k.val]).addressed w).kind ≠ 3)
    (hroute : (routeOf s none ((s.ronko.tun.tx[k.val]).addressed w).dest false).outs ≠ [])
    (hdata : data.length = ((s.ronko.tun.tx[k.val]).addressed w).len) :
    writeTx s k w data = (s.modTun fun t => t.setTx k ((s.ronko.tun.tx[k.val]).addressed w)).modTun fun t =>
      t.setTx k { (s.ronko.tun.tx[k.val]).addressed w with state := 1, segs := ((s.ronko.tun.tx[k.val]).addressed w).payloads data } := by
  rw [writeTx_idle data hidle hcancel]
  dsimp only
  rw [hgo, if_neg (by decide), if_pos (by simp [within, hlo, hhi, hkind]), startTx]
  have hopen : ¬ (routeOf s none ((s.ronko.tun.tx[k.val]).addressed w).dest false).outs.isEmpty = true := by simpa using hroute
  have hwhole : (data ++ List.replicate (((s.ronko.tun.tx[k.val]).addressed w).len - data.length) 0).take
      ((s.ronko.tun.tx[k.val]).addressed w).len = data := by
    rw [← hdata]
    exact List.take_left ..
  rw [hwhole]
  exact if_neg hopen

theorem writeTx_fails (data : List Byte) (hgo : w.getLsbD 31 = true)
    (hbad : ((s.ronko.tun.tx[k.val]).addressed w).len = 0 ∨ 1472 < ((s.ronko.tun.tx[k.val]).addressed w).len
      ∨ ((s.ronko.tun.tx[k.val]).addressed w).kind = 3 ∨ (routeOf s none ((s.ronko.tun.tx[k.val]).addressed w).dest false).outs = []) :
    ∃ x : TxSlot, x.state = 3 ∧ (writeTx s k w data).ronko.tun.tx = (s.ronko.tun.tx.set k.val ((s.ronko.tun.tx[k.val]).addressed w)).set k.val x := by
  rw [writeTx_idle data hidle hcancel]
  dsimp only
  rw [hgo, if_neg (by decide)]
  split
  · next hlegal =>
    have hclosed : (routeOf s none ((s.ronko.tun.tx[k.val]).addressed w).dest false).outs = [] := by
      simp only [within, Bool.and_eq_true, decide_eq_true_eq, bne_iff_ne, ne_eq] at hlegal
      obtain ⟨⟨hlo, hhi⟩, hkind⟩ := hlegal
      obtain h | h | h | h := hbad
      · omega
      · omega
      · exact absurd h hkind
      · exact h
    refine ⟨_, rfl, (startTx_tx ..).trans (congrArg (fun x => Tunnel.tx (Tunnel.setTx _ k x)) (if_pos ?_))⟩
    exact List.isEmpty_iff.mpr hclosed
  · exact ⟨_, rfl, rfl⟩

theorem writeTx_addresses (data : List Byte) (hgo : w.getLsbD 31 = false) :
    writeTx s k w data = s.modTun fun t => t.setTx k ((s.ronko.tun.tx[k.val]).addressed w) := by
  rw [writeTx_idle data hidle hcancel]
  exact if_pos (by rw [hgo]; rfl)

end

end

/-- Settles O36: a segment joins the slot it belongs to or finds no endpoint, a TUN_NACK fills a slot and answers its transaction, and
the transmit slots' registers act on their slot alone. -/
theorem tunnelCommands : Obligations.TunnelCommands := by
  unfold Obligations.TunnelCommands
  refine ⟨fun s g i hon hcore hrx hfree hold hseg hfits hmany => segment_begins (.inl ⟨rfl, rfl⟩) hon hcore hrx hfree hold hseg hfits hmany,
    fun s g i hon hcore hrx hfree hold hseg hfits hmany => segment_begins (.inr (.inl ⟨rfl, rfl⟩)) hon hcore hrx hfree hold hseg hfits hmany,
    fun s g i hon hcore hrx hfree hold hseg hfits hmany => segment_begins (.inr (.inr ⟨rfl, rfl⟩)) hon hcore hrx hfree hold hseg hfits hmany,
    fun s g i c k hc hon hcore hrx hfree hold hseg hfits hone => segment_alone hc hon hcore hrx hfree hold hseg hfits hone, ?_, ?_,
    fun s g i c k hc hon hcore hrx hold hseg hsegs => segment_strays hc hon hcore hrx hold hseg hsegs, ?_, ?_, ?_, ?_, ?_, ?_, ?_, ?_, ?_, ?_,
    ?_, ?_, ?_⟩
  case refine_1 =>
    intro s g i c k x hc hon hcore hrx hold hx hseg hfits hsegs hcount htotal hfull hmore
    subst hx
    exact segment_joins hc hon hcore hrx hold hseg hfits hsegs hcount htotal hmore hfull
  case refine_2 =>
    intro s g i c k x hc hon hcore hrx hold hx hseg hfits hsegs hcount htotal hlast
    subst hx
    exact segment_completes hc hon hcore hrx hold hseg hfits hsegs hcount htotal hlast
  case refine_3 =>
    intro s k w data hidle hcancel hgo x hlo hhi hkind hroute hdata
    exact ⟨_, congrArg Host.Outcome.next (writeTx_sends hidle hcancel hgo hlo hhi hkind hroute hdata), setTx_self .., rfl,
      fun j hj => (setTx_ne _ hj _).trans (setTx_ne _ hj _)⟩
  case refine_4 =>
    intro s k w data hidle hcancel hgo x hbad
    obtain ⟨y, hy, htx⟩ := writeTx_fails hidle hcancel data hgo hbad
    refine ⟨_, rfl, ?_, fun j hj => ?_⟩
    · rw [htx, Vector.getElem_set_self, hy]
    · have hkj : k.val ≠ j.val := fun h => hj (Fin.ext h.symm)
      rw [htx, Vector.getElem_set_ne _ _ hkj, Vector.getElem_set_ne _ _ hkj]
  case refine_5 =>
    intro s tag entry reason hon
    exact ⟨_, congrArg Host.Outcome.next (if_pos hon), takeNack_ronko_nackRx ..⟩
  case refine_6 =>
    intro s tag entry reason code retry f hon hcore hcode hfind
    refine ⟨_, congrArg Host.Outcome.next ((if_pos hon).trans (takeNack_answers _ entry hcore hcode hfind)),
      answerForwarded_forwarded .., ?_⟩
    rw [(answerForwarded_slots ..).eq]
    rfl
  case refine_7 =>
    intro s tag entry reason i hon hcore hrx hfree hnone
    refine ⟨_, congrArg Host.Outcome.next ((if_pos hon).trans
      (takeNack_unasked (s := s.used) _ tag entry reason hcore hrx hfree hnone)), ?_⟩
    have hslot : (s.used.modTun fun t => { t.setRx i (.refused (s.freeWord.extractLsb' 0 16) tag entry reason) with
        nackRx := t.nackRx.inc }).ronko.tun.rx[i.val] = .refused (s.freeWord.extractLsb' 0 16) tag entry reason := setRx_self ..
    rw [hslot]
    exact ⟨rfl, rfl, rfl, rfl, rfl, rfl, rfl⟩
  case refine_8 =>
    intro s i hfilling
    exact ⟨_, congrArg Host.Outcome.next (if_pos hfilling), dropSlot_rx s i, rfl, fun j hj => setRx_ne _ hj _⟩
  case refine_9 =>
    intro s k w data hidle hcancel hgo
    exact ⟨_, congrArg Host.Outcome.next (writeTx_addresses hidle hcancel data hgo), setTx_self .., fun j hj => setTx_ne _ hj _⟩
  case refine_10 =>
    intro s g i hon hend hold
    exact (exec_segment (.inl ⟨rfl, rfl⟩) hon).trans (congrArg _ ((takeSegment_noEndpoint hend 0 g).trans (noEndpoint_request_begun hold)))
  case refine_11 =>
    intro s g hon hend hold hseg
    exact (exec_segment (.inl ⟨rfl, rfl⟩) hon).trans (congrArg _ ((takeSegment_noEndpoint hend 0 g).trans (noEndpoint_request_first hold hseg)))
  case refine_12 =>
    intro s g i c k hc hon hend hold
    have hkind : k ≠ 0 := by
      obtain ⟨-, rfl⟩ | ⟨-, rfl⟩ := hc <;> decide
    exact (exec_segment (.inr hc) hon).trans (congrArg _ ((takeSegment_noEndpoint hend k g).trans (noEndpoint_other hkind hold)))
  case refine_13 =>
    intro s k
    exact ⟨_, rfl, (cancelTx_only s k).eq⟩
  case refine_14 =>
    intro s k hwait
    have htun := cancelTx_of_none_waiting k hwait
    refine ⟨_, rfl, ?_, ?_, fun j hj => ?_⟩ <;> rw [htun]
    · rw [setTx_self]
    · rw [setTx_self]
    · exact setTx_ne _ hj _
  case refine_15 =>
    intro s mask
    exact ⟨_, rfl, fun i => Vector.getElem_ofFn ..⟩

end Sys2Proof.Machine
end

section
/-! PROOFS. Pushes and pops of a core's ports, and ring operations in datagrams (R418, R426, R427, R432, R438 to R441). -/

namespace Sys2Proof.Machine

section
variable {s t u : State} {m : Master} {w : Word} {r : Ring} {num : Nat}

/-! ### A push that is not stored -/

theorem ring_ch_of_modRingPort (s : State) (m : Master) (f : RingPort → RingPort) : (s.modRingPort m f).ch = s.ch := by
  cases m <;> rfl

/-- What a push without room leaves of its ring, by the ring's policy (R418). -/
structure Lost (s t : State) (r : Ring) (res : Put) : Prop where
  ring : ∃ r', t.hamper.ring r.num = some r' ∧ r'.recs = r.recs
    ∧ (r.policy = .stall → res = .full ∧ r'.pendLoss = 0) ∧ (r.policy = .dropNewest → res = .dropped ∧ r'.pendLoss = 1)
  ch : t.ch = s.ch

theorem poolRefusal_rings (s : State) (r : Ring) (k : Nat) : (poolRefusal s r k).hamper.rings = s.hamper.rings := by
  unfold poolRefusal
  split
  · simp
  · rfl

theorem poolRefusal_ring (s : State) (r : Ring) (k num : Nat) : (poolRefusal s r k).hamper.ring num = s.hamper.ring num := by
  simp only [Hamper.ring, poolRefusal_rings]

theorem pendLoss_ring (s : State) {r : Ring} (hen : r.enabled = true) (k : Nat) :
    ∃ r', (pendLoss s r k).hamper.ring r.num = some r' ∧ r'.recs = r.recs ∧ r'.pendLoss = r.pendLoss + k := by
  refine ⟨_, Hamper.ring_setRing_self (x := { (countLoss s r k (r.pendLoss == 0)).2 with pendLoss := r.pendLoss + k }) _ hen, rfl, rfl⟩

theorem putRecords_lost {x : List Byte} (hring : s.hamper.ring r.num = some r) (hloss : r.pendLoss = 0) (hfits : s.hamper.fits r 1 = false)
    (hpolicy : r.policy ≠ .dropOldest) : Lost s (putRecords s r [x]).1 r (putRecords s r [x]).2 := by
  have hslots : r.slotsFor [x] = 1 := slotsFor_of_noLoss hloss _
  have hput : putRecords s r [x] = match r.policy with
      | .dropNewest => (pendLoss (poolRefusal s r 1) r 1, .dropped)
      | .stall => (poolRefusal s r 1, .full)
      | .dropOldest => putRecords s r [x] := by
    cases hp : r.policy with
    | dropOldest => exact absurd hp hpolicy
    | dropNewest => simp [putRecords, makeFit, hslots, hfits, hp]
    | stall => simp [putRecords, makeFit, hslots, hfits, hp]
  rw [hput]
  cases hp : r.policy with
  | dropOldest => exact absurd hp hpolicy
  | dropNewest =>
    obtain ⟨r', hr', hrecs, hpend⟩ := pendLoss_ring (poolRefusal s r 1) (Hamper.ring_spec hring).2 1
    exact ⟨⟨r', hr', hrecs, by simp [hp], fun _ => ⟨rfl, by rw [hpend, hloss]⟩⟩, by simp⟩
  | stall =>
    exact ⟨⟨r, (poolRefusal_ring ..).trans hring, rfl, fun _ => ⟨rfl, hloss⟩, by simp [hp]⟩, by simp⟩

/-- The state in which the core's turn at the pool write port has come (R462). -/
def coreTurn (m : Master) (s : State) (r : Ring) : State :=
  match m with
  | .sup => s
  | .app => portGrant reqApp (if r.pendLoss = 0 then 1 else 2) s

theorem coreTurn_only (hquiet : PortQuiet s ∨ m = .sup) (r : Ring) : PortOnly s (coreTurn m s r) := by
  cases m with
  | sup => exact .refl s
  | app => exact (portGrant_of_quiet (hquiet.resolve_right nofun) reqApp _).1

/-- A push with GO of a single record ends in what `putRecords` makes of it, in its core's turn. -/
theorem exec_ringPush_single (hclk : s.clk.pllLock = true) (hgo : w.getLsbD 0 = true) (hlast : w.getLsbD 1 = false)
    (htest : s.badger.testActive = false) (hring : s.hamper.ring (s.hamper.portOf m).pushRing = some r)
    (hprod : r.producer = coreRole (w.getLsbD 2)) (hbundle : (s.hamper.portOf m).bundle = []) (hquiet : PortQuiet s ∨ m = .sup) :
    exec (.ringPush m w) s = .next ((putRecords (coreTurn m s r) r
        [wireBytes r.byteRecs ((s.hamper.portOf m).pushData.toList.take (r.recSize / 4))]).1.modRingPort m fun p =>
      { p with pushCont := false, pushAsHost := w.getLsbD 2, bundle := []
               pushResult := putCode (putRecords (coreTurn m s r) r
                 [wireBytes r.byteRecs ((s.hamper.portOf m).pushData.toList.take (r.recSize / 4))]).2 }) := by
  have hturn := (coreTurn_only hquiet r).hamper
  have hring' : (coreTurn m s r).hamper.ring r.num = some r := by
    rw [hturn, (Hamper.ring_spec hring).1]
    exact hring
  change Host.Outcome.next _ = Host.Outcome.next _
  congr 1
  simp only [State.clocksRun, hclk, hgo, Bool.not_true, Bool.false_eq_true, if_false, if_true]
  unfold pushGo
  simp only [checkDesc_of_noTest htest, hring, hprod, hlast, hbundle, bne_self_eq_false, List.length_nil, Bool.or_false,
    Bool.false_eq_true, if_false, List.nil_append, show decide (64 ≤ 0) = false from rfl]
  cases m with
  | sup =>
    simp only [show (Master.sup == Master.app) = false from rfl, Bool.false_eq_true, if_false]
    rw [show s.hamper.ring r.num = some r from hring']
    rfl
  | app =>
    simp only [BEq.rfl, if_true]
    rw [show (portGrant reqApp (if r.pendLoss = 0 then 1 else 2) s).hamper.ring r.num = some r from hring']
    rfl

/-- A push that nobody may make, or into a full bundle, is refused (R426). -/
theorem exec_ringPush_refused (hclk : s.clk.pllLock = true) (hgo : w.getLsbD 0 = true) (htest : s.badger.testActive = false)
    (h : ∀ r, s.hamper.ring (s.hamper.portOf m).pushRing = some r →
      r.producer ≠ coreRole (w.getLsbD 2) ∨ 64 ≤ (s.hamper.portOf m).bundle.length) :
    exec (.ringPush m w) s = .next (s.modRingPort m fun p => { p with
      pushCont := w.getLsbD 1, pushAsHost := w.getLsbD 2, pushResult := 3, bundle := [] }) := by
  refine congrArg Host.Outcome.next ((if_neg (by simp [State.clocksRun, hclk])).trans ((if_pos hgo).trans ?_))
  unfold pushGo
  simp only [checkDesc_of_noTest htest]
  split
  · rfl
  · next r hring => exact if_pos (by simpa using h r hring)

/-- One more record of a bundle waits for the last (R432). -/
theorem exec_ringPush_joins (hclk : s.clk.pllLock = true) (hgo : w.getLsbD 0 = true) (hmore : w.getLsbD 1 = true)
    (htest : s.badger.testActive = false) (hring : s.hamper.ring (s.hamper.portOf m).pushRing = some r)
    (hprod : r.producer = coreRole (w.getLsbD 2)) (hroom : (s.hamper.portOf m).bundle.length < 64) :
    exec (.ringPush m w) s = .next (s.modRingPort m fun p => { p with
      pushCont := true, pushAsHost := w.getLsbD 2, pushResult := 0
      bundle := p.bundle ++ [wireBytes r.byteRecs (p.pushData.toList.take (r.recSize / 4))] }) := by
  refine congrArg Host.Outcome.next ((if_neg (by simp [State.clocksRun, hclk])).trans ((if_pos hgo).trans ?_))
  unfold pushGo
  simp only [checkDesc_of_noTest htest, hring]
  rw [if_neg (by simp [hprod, Nat.not_le.mpr hroom]), if_pos hmore]
  cases m <;> rfl

/-- A push with GO that has room leaves its records in the ring and its registers cleared (R418, R426). -/
theorem ringPush_stored (hclk : s.clk.pllLock = true) (hgo : w.getLsbD 0 = true) (hlast : w.getLsbD 1 = false)
    (htest : s.badger.testActive = false) (hring : s.hamper.ring (s.hamper.portOf m).pushRing = some r)
    (hprod : r.producer = coreRole (w.getLsbD 2)) (hlen : (s.hamper.portOf m).bundle.length < 64) (hloss : r.pendLoss = 0)
    (hfits : s.hamper.fits r ((s.hamper.portOf m).bundle.length + 1) = true) (hquiet : PortQuiet s ∨ m = .sup) :
    ∃ t, exec (.ringPush m w) s = .next t ∧ (t.hamper.portOf m).pushResult = 0 ∧ (t.hamper.portOf m).bundle = []
      ∧ t.hamper.ring r.num = some (r.appended (bundleRecs ((s.hamper.portOf m).bundle
          ++ [wireBytes r.byteRecs ((s.hamper.portOf m).pushData.toList.take (r.recSize / 4))])))
      ∧ t.ch = s.ch ∧ ∀ k, k ≠ r.num → t.hamper.ring k = s.hamper.ring k := by
  obtain ⟨hnum, hen⟩ := Hamper.ring_spec hring
  have hfsp : r.producer ≠ roleFsp := by
    rw [hprod]
    cases w.getLsbD 2 <;> decide
  obtain ⟨hham, -, hch, -⟩ := corePut_storedBy (m := m) htest (hnum ▸ hring) hloss hfsp hquiet
    ((s.hamper.portOf m).bundle ++ [wireBytes r.byteRecs ((s.hamper.portOf m).pushData.toList.take (r.recSize / 4))])
  refine ⟨_, exec_ringPush_stores hclk hgo hlast htest hring hprod hlen hloss hfits hquiet, ?_, ?_, ?_, ?_, fun k hk => ?_⟩
  · rw [portOf_modRingPort]
    rfl
  · rw [portOf_modRingPort]
    rfl
  · rw [modRingPort_ring, hham]
    exact Hamper.ring_setRing_self (x := r.appended _) _ hen
  · exact (ring_ch_of_modRingPort ..).trans hch
  · rw [modRingPort_ring, hham]
    exact Hamper.ring_setRing_ne _ (r.appended _) hk

/-! ### A pop -/

theorem eccRead_ring (s : State) (x : Rec) (k : Nat) : (eccRead s x).hamper.ring k = s.hamper.ring k := by
  unfold eccRead
  split <;> rfl

theorem eccRead_test (s : State) (x : Rec) : (eccRead s x).badger = s.badger := by
  unfold eccRead
  split <;> rfl

theorem setRing_ring_self (s : State) {x : Ring} (hx : x.enabled = true) : (s.setRing x).hamper.ring x.num = some x :=
  Hamper.ring_setRing_self _ hx

/-- The oldest record, taken (R438). -/
theorem exec_ringPop_takes {x : Rec} {rest : List Rec} (hclk : s.clk.pllLock = true)
    (hgo : w.getLsbD 0 = true) (htest : s.badger.testActive = false) (hring : s.hamper.ring (s.hamper.portOf m).popRing = some r)
    (hcons : r.consumer = coreRole (w.getLsbD 1)) (hgap : r.headGap = 0) (hrecs : r.recs = x :: rest) (hmark : x.mark = false)
    (hbad : x.bad = false) : exec (.ringPop m w) s = .next (((eccRead s x).setRing r.freeHead).modRingPort m fun p => { p with
      popAsHost := w.getLsbD 1, popValid := true, popMark := false, popCont := x.cont, popRefused := false
      popData := eightWords (recWords r.byteRecs x.bytes) }) := by
  have hhead : popHead s r = ((eccRead s x).setRing r.freeHead, .record { x with soft := false }) := by
    simp [popHead, hgap, hrecs, hmark, hbad]
  refine congrArg Host.Outcome.next ((if_neg (by simp [State.clocksRun, hclk])).trans ((if_pos hgo).trans ?_))
  unfold popGo
  simp only [checkDesc_of_noTest htest, hring]
  rw [if_neg (by simp [hcons]), hhead]

theorem exec_ringPop_none (hclk : s.clk.pllLock = true) (hgo : w.getLsbD 0 = true) (htest : s.badger.testActive = false)
    (hring : s.hamper.ring (s.hamper.portOf m).popRing = none) : exec (.ringPop m w) s = .next (s.modRingPort m fun p => { p with
      popAsHost := w.getLsbD 1, popValid := false, popMark := false, popCont := false, popRefused := true }) := by
  refine congrArg Host.Outcome.next ((if_neg (by simp [State.clocksRun, hclk])).trans ((if_pos hgo).trans ?_))
  unfold popGo
  simp only [checkDesc_of_noTest htest, hring]

/-! ### A read of a ring -/

/-- A record that a read takes as it is: no marker, good, and no continuation (R432, R439). -/
def Rec.plain (x : Rec) : Prop := x.mark = false ∧ x.bad = false ∧ x.cont = false

theorem takeHeads_one {x : Rec} {rest : List Rec} (s : State) (h : r.recs = x :: rest) :
    takeHeads 1 s r = ((eccRead s x).setRing r.freeHead, r.freeHead) := by
  simp only [takeHeads, h]

/-- One bundle of a single record is taken from the head. -/
theorem readBundles_one {fuel n : Nat} {x : Rec} {rest : List Rec} {acc : List (List Byte)} (hn : 1 ≤ n)
    (hring : s.hamper.ring num = some r) (hrecs : r.recs = x :: rest) (hmark : x.mark = false) (hbad : x.bad = false)
    (hhead : headBundle r.recs = [x]) (hlo : 1 ≤ r.recSize) (hhi : r.recSize ≤ 1446) :
    readBundles (fuel + 1) s num n acc = readBundles fuel ((eccRead s x).setRing r.freeHead) num (n - 1) (acc ++ [x.bytes]) := by
  have hroom : ¬ 1446 / r.recSize < ([x] : List Rec).length := by
    have := Nat.div_pos hhi hlo
    simp only [List.length_singleton]
    omega
  have hone : ¬ n < ([x] : List Rec).length := by
    simp only [List.length_singleton]
    omega
  rw [readBundles, if_neg (by omega), hring]
  simp only [hhead]
  rw [hrecs]
  simp only [hmark, hbad, Bool.false_eq_true, if_false, if_neg hroom, if_neg hone]
  rw [show ([x] : List Rec).length = 1 from rfl, takeHeads_one s hrecs]
  rfl

theorem headBundle_of_plain {x : Rec} {rest : List Rec} (h : ∀ y ∈ rest, y.cont = false) : headBundle (x :: rest) = [x] := by
  cases rest with
  | nil => rfl
  | cons y ys => simp [headBundle, h y List.mem_cons_self]

/-- The outcome of a read of `k` records (R440). -/
structure ReadOff (s t : State) (r : Ring) (k : Nat) : Prop where
  ring : ∃ r', t.hamper.ring r.num = some r' ∧ r'.recs = r.recs.drop k
  ch : t.ch = s.ch

/-- Records that stand alone are read one by one, as many as are asked for and stored. -/
theorem readBundles_plain {fuel n : Nat} {s : State} {r : Ring} {acc : List (List Byte)} (hfuel : n < fuel)
    (hring : s.hamper.ring r.num = some r) (hplain : ∀ x ∈ r.recs, x.plain) (hlo : 1 ≤ r.recSize) (hhi : r.recSize ≤ 1446) :
    ReadOff s (readBundles fuel s r.num n acc).1 r n
      ∧ (readBundles fuel s r.num n acc).2 = acc ++ (r.recs.take n).map (·.bytes) := by
  induction n generalizing fuel s r acc with
  | zero =>
    obtain ⟨fuel, rfl⟩ := Nat.exists_eq_add_of_lt hfuel
    rw [Nat.zero_add, readBundles, if_pos rfl]
    exact ⟨⟨⟨r, hring, rfl⟩, rfl⟩, by simp⟩
  | succ n ih =>
    obtain ⟨fuel, rfl⟩ : ∃ f, fuel = f + 1 := ⟨fuel - 1, by omega⟩
    cases hrecs : r.recs with
    | nil =>
      rw [readBundles, if_neg (Nat.succ_ne_zero n), hring]
      simp only [hrecs]
      exact ⟨⟨⟨r, hring, by simp [hrecs]⟩, rfl⟩, by simp⟩
    | cons x rest =>
      obtain ⟨hmark, hbad, -⟩ := hplain x (by simp [hrecs])
      have hhead : headBundle r.recs = [x] := by
        rw [hrecs]
        exact headBundle_of_plain fun y hy => (hplain y (by simp [hrecs, hy])).2.2
      rw [readBundles_one (Nat.le_add_left 1 n) hring hrecs hmark hbad hhead hlo hhi, Nat.add_sub_cancel]
      have hfree : r.freeHead.recs = rest := by simp [Ring.freeHead, hrecs]
      have hnext : ((eccRead s x).setRing r.freeHead).hamper.ring r.freeHead.num = some r.freeHead :=
        setRing_ring_self _ (Hamper.ring_spec hring).2
      obtain ⟨⟨⟨r', hr', hrecs'⟩, hch⟩, hdata⟩ := ih (fuel := fuel) (s := (eccRead s x).setRing r.freeHead) (r := r.freeHead) (acc := acc ++ [x.bytes])
        (by omega) hnext (fun y hy => hplain y (by rw [hfree] at hy; simp [hrecs, hy])) hlo hhi
      rw [hfree] at hrecs' hdata
      exact ⟨⟨⟨r', hr', by rw [hrecs', hrecs]; rfl⟩, hch.trans (eccRead_ch s x)⟩, hdata.trans (by simp)⟩

/-- A ring without markers at its head leaves the session's last gap at 0 (R439). -/
theorem readMarker_none (who : Requester) (hgap : r.headGap = 0) (hhead : ∀ x ∈ r.recs.head?, x.mark = false ∧ x.bad = false) :
    readMarker s who r = s.modRelative who fun x => { x with lastReadGap := 0 } := by
  unfold readMarker
  extract_lets clear atHead
  refine if_neg ?_
  simp only [atHead, hgap]
  cases hrecs : r.recs with
  | nil => simp
  | cons x rest =>
    obtain ⟨hmark, hbad⟩ := hhead x (by simp [hrecs])
    simp [hmark, hbad]

theorem modRelative_ring (s : State) (who : Requester) (f : Relative → Relative) (k : Nat) :
    (s.modRelative who f).hamper.ring k = s.hamper.ring k := by simp

/-- An admitted read is answered with what `readBundles` takes (R427, R440). -/
theorem exec_readRing_ok (q : Req) {num n : W16} (hclk : s.clk.pllLock = true) (htest : s.badger.testActive = false)
    (hn : 1 ≤ n.toNat) (hn' : n.toNat ≤ 1024)
    (hcode : ringOpCode s q.who num.toNat (fun _ => eOk) (·.consumer) eWriteOnly = eOk) (hring : s.hamper.ring num.toNat = some r)
    (hgap : r.headGap = 0) (hhead : ∀ x ∈ r.recs.head?, x.mark = false ∧ x.bad = false) :
    exec (.readRing q num tBlob (natBytes 2 n.toNat)) s = .next
      ((readBundles (n.toNat + 1) (s.modRelative q.who fun x => { x with lastReadGap := 0 }) num.toNat (Nat.min n.toNat (1446 / r.recSize)) []).1.reply
        eOk tBlob 0 (readBundles (n.toNat + 1) (s.modRelative q.who fun x => { x with lastReadGap := 0 }) num.toNat
          (Nat.min n.toNat (1446 / r.recSize)) []).2.flatten) := by
  have hcount : beNat (natBytes 2 n.toNat) = n.toNat := (beNat_natBytes 2 n.toNat).trans (Nat.mod_eq_of_lt n.isLt)
  refine congrArg Host.Outcome.next ((if_pos hclk).trans ?_)
  unfold doReadRing
  simp only [checkDesc_of_noTest htest, hcount]
  have hasked : (fun _ : Ring => if (tBlob != tBlob || (natBytes 2 n.toNat).length != 2) = true then eType
      else if (decide (1 ≤ n.toNat) && decide (n.toNat ≤ 1024)) = true then eOk else eRange) = fun _ => eOk := by
    funext _
    rw [if_neg (by simp [natBytes]), if_pos (by simp [hn, hn'])]
  rw [hasked, hcode, if_neg (by decide), hring]
  simp only [readMarker_none q.who hgap hhead]
  rfl

/-- A read of a ring of records that stand alone (R440). -/
theorem readRing_plain (q : Req) {num n : W16} (hclk : s.clk.pllLock = true) (htest : s.badger.testActive = false)
    (hn : 1 ≤ n.toNat) (hn' : n.toNat ≤ 1024)
    (hcode : ringOpCode s q.who num.toNat (fun _ => eOk) (·.consumer) eWriteOnly = eOk) (hring : s.hamper.ring num.toNat = some r)
    (hgap : r.headGap = 0) (hplain : ∀ x ∈ r.recs, x.mark = false ∧ x.bad = false ∧ x.cont = false)
    (hlo : 1 ≤ r.recSize) (hhi : r.recSize ≤ 1446) : let k := Nat.min n.toNat (1446 / r.recSize)
    ∃ t r', exec (.readRing q num tBlob (natBytes 2 n.toNat)) s = .next t ∧ t.answer.code = eOk
      ∧ t.answer.data = (r.recs.take k).flatMap (·.bytes) ∧ t.hamper.ring r.num = some r' ∧ r'.recs = r.recs.drop k ∧ t.ch = s.ch := by
  intro k
  have hhead : ∀ x ∈ r.recs.head?, x.mark = false ∧ x.bad = false := fun x hx => by
    obtain ⟨hmark, hbad, -⟩ := hplain x (List.mem_of_mem_head? hx)
    exact ⟨hmark, hbad⟩
  have hnum := (Hamper.ring_spec hring).1
  have hring' : (s.modRelative q.who fun x => { x with lastReadGap := 0 }).hamper.ring r.num = some r := by
    rw [modRelative_ring, hnum]
    exact hring
  obtain ⟨⟨⟨r', hr', hrecs⟩, hch⟩, hdata⟩ := readBundles_plain (fuel := n.toNat + 1) (n := k) (acc := [])
    (Nat.lt_succ_of_le (Nat.min_le_left ..)) hring' hplain hlo hhi
  have hexec := exec_readRing_ok q hclk htest hn hn' hcode hring hgap hhead
  rw [← hnum] at hexec
  refine ⟨_, r', hexec, rfl, ?_, hr', hrecs, ?_⟩
  · exact (congrArg List.flatten hdata).trans (by rw [List.nil_append, List.flatMap_def])
  · exact hch.trans (by simp)

/-- A read of one record whose bundle is itself alone (R440). -/
theorem readRing_one (q : Req) {num : W16} {x : Rec} {rest : List Rec} (hclk : s.clk.pllLock = true) (htest : s.badger.testActive = false)
    (hcode : ringOpCode s q.who num.toNat (fun _ => eOk) (·.consumer) eWriteOnly = eOk) (hring : s.hamper.ring num.toNat = some r)
    (hgap : r.headGap = 0) (hrecs : r.recs = x :: rest) (hmark : x.mark = false) (hbad : x.bad = false)
    (hbundle : headBundle r.recs = [x]) (hlo : 1 ≤ r.recSize) (hhi : r.recSize ≤ 1446) :
    ∃ t r', exec (.readRing q num tBlob (natBytes 2 1)) s = .next t ∧ t.answer.code = eOk
      ∧ t.answer.data = x.bytes ∧ t.hamper.ring r.num = some r' ∧ r'.recs = rest ∧ t.ch = s.ch := by
  obtain ⟨hnum, hen⟩ := Hamper.ring_spec hring
  have hexec := exec_readRing_ok q (n := 1) hclk htest (by decide) (by decide) hcode hring hgap fun y hy => by
    obtain rfl : x = y := by simpa [hrecs] using hy
    exact ⟨hmark, hbad⟩
  have hcount : Nat.min (1 : W16).toNat (1446 / r.recSize) = 1 := Nat.min_eq_left (Nat.div_pos hhi hlo)
  have hring' : (s.modRelative q.who fun x => { x with lastReadGap := 0 }).hamper.ring num.toNat = some r := by
    rw [modRelative_ring]
    exact hring
  rw [hcount, readBundles_one (le_refl 1) hring' hrecs hmark hbad hbundle hlo hhi] at hexec
  have hfree : r.freeHead.recs = rest := by simp [Ring.freeHead, hrecs]
  refine ⟨_, r.freeHead, hexec, rfl, ?_, setRing_ring_self (x := r.freeHead) _ hen, hfree, ?_⟩
  · exact List.append_nil x.bytes
  · exact (eccRead_ch _ x).trans (by simp)

/-! ### A write of a ring -/

/-- A ring into which the application core's records can go while nobody else requests the pool write port. -/
structure StoreReady (s : State) (r : Ring) : Prop where
  ring : s.hamper.ring r.num = some r
  test : s.badger.testActive = false
  loss : r.pendLoss = 0
  producer : r.producer ≠ roleFsp
  quiet : PortQuiet s

theorem StoreReady.stored (h : StoreReady s r) (recs : List (List Byte)) :
    StoreReady (storeNow s r recs) (r.appended (bundleRecs recs)) ∧ (storeNow s r recs).ch = s.ch := by
  obtain ⟨hring, htest, hloss, hprod, hquiet⟩ := h
  obtain ⟨hham, htest', hch, -⟩ := storeNow_storedBy (s := s) htest hloss recs
  refine ⟨⟨?_, htest', hloss, hprod, hquiet.storeNow htest hring hprod hloss recs⟩, hch⟩
  rw [hham]
  exact Hamper.ring_setRing_self (x := r.appended _) _ (Hamper.ring_spec hring).2

theorem appended_bytes (r : Ring) (recs : List (List Byte)) :
    (r.appended (bundleRecs recs)).recs.map (·.bytes) = r.recs.map (·.bytes) ++ recs := by
  rw [Ring.appended_recs, List.map_append, bundleRecs_bytes]

/-- Records are stored in bundles of at most 64, in their order (R432). -/
theorem storeBundles_stores {fuel : Nat} {s : State} {r : Ring} {recs : List (List Byte)} (h : StoreReady s r) (hfuel : recs.length ≤ fuel) :
    ∃ r', r'.num = r.num ∧ StoreReady (storeBundles fuel s r.num recs) r'
      ∧ r'.recs.map (·.bytes) = r.recs.map (·.bytes) ++ recs ∧ (storeBundles fuel s r.num recs).ch = s.ch := by
  induction fuel generalizing s r recs with
  | zero =>
    obtain rfl := List.length_eq_zero_iff.mp (Nat.le_zero.mp hfuel)
    exact ⟨r, rfl, h, (List.append_nil _).symm, rfl⟩
  | succ fuel ih =>
    cases hrecs : recs with
    | nil => exact ⟨r, rfl, h, (List.append_nil _).symm, rfl⟩
    | cons d ds =>
      obtain ⟨hready, hch⟩ := h.stored (recs.take 64)
      have hrest : (recs.drop 64).length ≤ fuel := by
        rw [List.length_drop]
        rw [hrecs, List.length_cons] at hfuel ⊢
        omega
      obtain ⟨r', hnum, hready', hbytes, hch'⟩ := ih hready hrest
      have hstep : storeBundles (fuel + 1) s r.num recs = storeBundles fuel (storeNow s r (recs.take 64)) r.num (recs.drop 64) := by
        rw [storeBundles, if_neg (by simp [hrecs]), h.ring]
      rw [← hrecs, hstep]
      refine ⟨r', hnum, hready', ?_, hch'.trans hch⟩
      rw [hbytes, appended_bytes, List.append_assoc, List.take_append_drop]

theorem cutRecs_length (size k : Nat) (d : List Byte) : (cutRecs size k d).length = k := by
  induction k generalizing d with
  | zero => rfl
  | succ k ih => exact congrArg (· + 1) (ih _)

theorem appTurn_ready {recs : List (List Byte)} (h : StoreReady s r) (hfits : s.hamper.fits r recs.length = true) :
    ∃ u, appTurn s r recs = (u, some r) ∧ StoreReady u r ∧ u.ch = s.ch := by
  have hslots := slotsFor_of_noLoss h.loss recs
  obtain ⟨honly, hquiet⟩ := portGrant_of_quiet h.quiet reqApp (if r.pendLoss = 0 then 1 else 2)
  refine ⟨_, ?_, ⟨by rw [honly.hamper]; exact h.ring, by rw [honly]; exact h.test, h.loss, h.producer, hquiet⟩, honly.ch⟩
  unfold appTurn
  simp only [hslots, hfits, if_true, honly.hamper, h.ring]

theorem ringOpCode_role {who : Requester} {role : Ring → Nat} {denied : Byte} (hdenied : denied ≠ eOk)
    (hcode : ringOpCode s who num (fun _ => eOk) role denied = eOk) (hring : s.hamper.ring num = some r) : role r = roleHost := by
  unfold ringOpCode at hcode
  rw [hring] at hcode
  split at hcode
  · exact absurd hcode (by decide)
  · have hlast := (eq_ok_of_firstCode_cons (eq_ok_of_firstCode_cons (eq_ok_of_firstCode_cons (eq_ok_of_firstCode_cons hcode).2).2).2).1
    by_contra hne
    exact hdenied ((if_neg hne).symm.trans hlast)

/-- What a write does after its turn at the pool write port: its records are stored, or refused where they no longer fit. -/
def writeTurned (k : Nat) (recs : List (List Byte)) (turn : State × Option Ring) : State :=
  match turn with
  | (s, some r) => (portRest reqApp k (storeBundles k s r.num recs)).reply eOk tBlob 0 []
  | (s, none) => s.reply eRingFull tBlob 0 []

section
variable (q : Req) {num : W16} {k : Nat} {data : List Byte} (hclk : s.clk.pllLock = true) (htest : s.badger.testActive = false)
  (hk : 1 ≤ k) (hcode : ringOpCode s q.who num.toNat (fun _ => eOk) (·.producer) eReadOnly = eOk)
  (hring : s.hamper.ring num.toNat = some r) (hlo : 1 ≤ r.recSize) (hdata : data.length = k * r.recSize)
include hclk htest hk hcode hring hlo hdata

/-- An admitted write is answered by whether its records still fit in the core's turn (R106, R427). -/
theorem exec_writeRing_ok : exec (.writeRing q num tBlob data) s =
    .next (writeTurned k (cutRecs r.recSize k data) (appTurn s r (cutRecs r.recSize k data))) := by
  have hcount : data.length / r.recSize = k := by rw [hdata, Nat.mul_div_cancel _ hlo]
  have hmult : data.length % r.recSize = 0 := by rw [hdata, Nat.mul_mod_left]
  have hcode' : ringOpCode s q.who num.toNat (fun r => if tBlob = tBlob && data.length % r.recSize = 0 then eOk else eType)
      (·.producer) eReadOnly = eOk := by
    refine Eq.trans ?_ hcode
    unfold ringOpCode
    rw [hring]
    simp [hmult]
  have hsome : ¬ (cutRecs r.recSize k data).isEmpty = true := by
    rw [List.isEmpty_iff_length_eq_zero, cutRecs_length]
    omega
  refine congrArg Host.Outcome.next ((if_pos hclk).trans ?_)
  unfold doWriteRing
  dsimp only
  rw [checkDesc_of_noTest htest, hcode', if_neg (by decide), hring]
  dsimp only
  rw [hcount, if_neg hsome, cutRecs_length]
  rfl

theorem writeRing_stores (hquiet : PortQuiet s) (hloss : r.pendLoss = 0) (hfits : s.hamper.fits r k = true) :
    ∃ u, StoreReady u r ∧ u.ch = s.ch ∧ exec (.writeRing q num tBlob data) s = .next
      ((portRest reqApp k (storeBundles k u r.num (cutRecs r.recSize k data))).reply eOk tBlob 0 []) := by
  have hhost := ringOpCode_role (by decide) hcode hring
  have hready : StoreReady s r :=
    ⟨(Hamper.ring_spec hring).1 ▸ hring, htest, hloss, by rw [show r.producer = roleHost from hhost]; decide, hquiet⟩
  obtain ⟨u, hturn, hready', hch⟩ := appTurn_ready (recs := cutRecs r.recSize k data) hready (by rw [cutRecs_length]; exact hfits)
  refine ⟨u, hready', hch, (exec_writeRing_ok q hclk htest hk hcode hring hlo hdata).trans ?_⟩
  rw [hturn]
  rfl

theorem writeRing_refused (hloss : r.pendLoss = 0) (hfits : s.hamper.fits r k = false) :
    exec (.writeRing q num tBlob data) s = .next ((poolRefusal s r k).reply eRingFull tBlob 0 []) := by
  have hslots : r.slotsFor (cutRecs r.recSize k data) = k := (slotsFor_of_noLoss hloss _).trans (cutRecs_length ..)
  have hturn : appTurn s r (cutRecs r.recSize k data) = (poolRefusal s r k, none) := by
    unfold appTurn
    simp only [hslots, hfits, Bool.false_eq_true, if_false]
  refine (exec_writeRing_ok q hclk htest hk hcode hring hlo hdata).trans ?_
  rw [hturn]
  rfl

end

theorem reply_hamper_ring (s : State) (c ty : Byte) (e : W16) (d : List Byte) (k : Nat) :
    (s.reply c ty e d).hamper.ring k = s.hamper.ring k := rfl

/-- A number that no ring has is answered E_NO_OBJECT (R427). -/
theorem ringOpCode_none {who : Requester} {mid : Ring → Byte} {role : Ring → Nat} {denied : Byte} (hnum : num ≤ 16383)
    (hring : s.hamper.ring num = none) : ringOpCode s who num mid role denied = eNoObject := by
  unfold ringOpCode
  rw [if_neg (Nat.not_lt.mpr hnum), hring]

theorem ringOps_none (q : Req) {num : W16} (ty : Byte) (data : List Byte) (hclk : s.clk.pllLock = true) (htest : s.badger.testActive = false)
    (hnum : num.toNat ≤ 16383) (hring : s.hamper.ring num.toNat = none) :
    exec (.readRing q num ty data) s = .next (s.reply eNoObject ty 0 [])
    ∧ exec (.writeRing q num ty data) s = .next (s.reply eNoObject ty 0 []) := by
  constructor <;> refine congrArg Host.Outcome.next ((if_pos hclk).trans ?_)
  · unfold doReadRing
    simp only [checkDesc_of_noTest htest]
    rw [ringOpCode_none hnum hring]
    exact if_pos (by decide)
  · unfold doWriteRing
    simp only [checkDesc_of_noTest htest]
    rw [ringOpCode_none hnum hring]
    exact if_pos (by decide)

end

/-- Settles O29: pushes and pops by what they do to their ring, reads and writes by induction over the bundles they take and store. -/
theorem ringPortsAndDatagrams : Obligations.RingPortsAndDatagrams := by
  unfold Obligations.RingPortsAndDatagrams
  refine ⟨⟨?_, fun s m w r hclk hgo hmore htest hring hprod hroom => exec_ringPush_joins hclk hgo hmore htest hring hprod hroom, ?_,
    fun s m w hclk hgo htest h => exec_ringPush_refused hclk hgo htest h, ?_, ?_, ?_, ?_, ?_, ?_⟩,
    fun s q num r n hclk htest hn hn' hcode hring hgap hplain hlo hhi => readRing_plain q hclk htest hn hn' hcode hring hgap hplain hlo hhi,
    ?_, ?_, fun s q num r x rest hclk htest hcode hring hgap hrecs hmark hbad hbundle hlo hhi =>
      readRing_one q hclk htest hcode hring hgap hrecs hmark hbad hbundle hlo hhi, ?_, ?_⟩
  case refine_1 =>
    intro s m w hclk hgo
    have hidle : ¬ w.getLsbD 0 = true := by rw [hgo]; decide
    have hrun : ¬ (!s.clocksRun) = true := by simp [State.clocksRun, hclk]
    exact ⟨congrArg Host.Outcome.next ((if_neg hrun).trans (if_neg hidle)), congrArg Host.Outcome.next ((if_neg hrun).trans (if_neg hidle))⟩
  case refine_2 =>
    intro s m w r hclk hgo hlast htest hring hprod hlen hloss hfits hquiet
    obtain ⟨t, ht, hresult, hbundle, hr', hch, hothers⟩ := ringPush_stored hclk hgo hlast htest hring hprod hlen hloss hfits hquiet
    refine ⟨t, _, ht, hresult, hbundle, hr', ?_, hch, hothers⟩
    rw [appended_bytes, List.append_assoc]
  case refine_3 =>
    intro s m w r hclk hgo hlast htest hring hprod hbundle hloss hfits hpolicy hquiet
    have honly := coreTurn_only hquiet r
    obtain ⟨⟨r', hr', hrecs, hstall, hnewest⟩, hch⟩ := putRecords_lost (s := coreTurn m s r)
      (x := wireBytes r.byteRecs ((s.hamper.portOf m).pushData.toList.take (r.recSize / 4)))
      (by rw [honly.hamper, (Hamper.ring_spec hring).1]; exact hring) hloss (by rw [honly.hamper]; exact hfits) hpolicy
    refine ⟨_, r', exec_ringPush_single hclk hgo hlast htest hring hprod hbundle hquiet, ?_, hrecs,
      (ring_ch_of_modRingPort ..).trans (hch.trans honly.ch), fun hp => ?_, fun hp => ?_⟩
    · rw [modRingPort_ring]
      exact hr'
    · obtain ⟨hres, hpend⟩ := hstall hp
      rw [portOf_modRingPort]
      exact ⟨congrArg putCode hres, hpend⟩
    · obtain ⟨hres, hpend⟩ := hnewest hp
      rw [portOf_modRingPort]
      exact ⟨congrArg putCode hres, hpend⟩
  case refine_4 =>
    intro s w hclk hgo
    exact congrArg Host.Outcome.next ((if_neg (by simp [State.clocksRun, hclk])).trans (if_neg (by rw [hgo]; decide)))
  case refine_5 =>
    intro s m w r hclk hgo hlast htest hring hprod hbundle hloss hfits hquiet
    obtain ⟨t, ht, hresult, -, hr', hch, hothers⟩ := ringPush_stored hclk hgo hlast htest hring hprod (by rw [hbundle]; decide) hloss
      (by rw [hbundle]; exact hfits) hquiet
    refine ⟨t, _, ht, hresult, hr', ?_, hch, hothers⟩
    rw [hbundle, List.nil_append, Ring.appended_recs]
    rfl
  case refine_6 =>
    intro s w hclk hgo
    exact congrArg Host.Outcome.next ((if_neg (by simp [State.clocksRun, hclk])).trans (if_neg (by rw [hgo]; decide)))
  case refine_7 =>
    intro s m w r x rest hclk hgo htest hring hcons hgap hrecs hmark hbad
    refine ⟨_, r.freeHead, exec_ringPop_takes hclk hgo htest hring hcons hgap hrecs hmark hbad, ?_⟩
    rw [portOf_modRingPort, modRingPort_ring]
    exact ⟨rfl, rfl, rfl, setRing_ring_self (x := r.freeHead) _ (Hamper.ring_spec hring).2, by simp [Ring.freeHead, hrecs],
      (ring_ch_of_modRingPort ..).trans (eccRead_ch s x)⟩
  case refine_8 =>
    intro s m w hclk hgo htest hring
    refine ⟨_, exec_ringPop_none hclk hgo htest hring, ?_⟩
    rw [portOf_modRingPort]
    exact ⟨rfl, rfl⟩
  case refine_9 =>
    intro s q num r k data hclk htest hk hquiet hcode hring hloss hlo hdata hfits
    obtain ⟨u, hready, hch, hexec⟩ := writeRing_stores q hclk htest hk hcode hring hlo hdata hquiet hloss hfits
    obtain ⟨r', hnum, hready', hbytes, hch'⟩ := storeBundles_stores hready (recs := cutRecs r.recSize k data) (fuel := k) (cutRecs_length ..).le
    have honly := portRest_of_quiet hready'.quiet reqApp k
    refine ⟨_, r', hexec, rfl, ?_, hbytes, ?_⟩
    · rw [reply_hamper_ring, honly.hamper]
      exact hnum ▸ hready'.ring
    · exact (honly.ch.trans hch').trans hch
  case refine_10 =>
    intro s q num r k data hclk htest hk hcode hring hloss hlo hdata hfits
    exact ⟨_, writeRing_refused q hclk htest hk hcode hring hlo hdata hloss hfits, rfl, poolRefusal_rings .., by simp⟩
  case refine_11 =>
    intro s q num r data hclk htest hquiet hcode hring hloss hlo hdata hfits
    obtain ⟨u, hready, hch, hexec⟩ := writeRing_stores q hclk htest (k := 1) (le_refl 1) hcode hring hlo (by rw [hdata, Nat.one_mul]) hquiet hloss hfits
    obtain ⟨hready', hch'⟩ := hready.stored [data]
    have hcut : cutRecs r.recSize 1 data = [data] := by simp [cutRecs, ← hdata]
    have hstore : storeBundles 1 u r.num [data] = storeNow u r [data] := by
      rw [storeBundles, if_neg (by simp), hready.ring]
      rfl
    rw [hcut, hstore] at hexec
    have honly := portRest_of_quiet hready'.quiet reqApp 1
    refine ⟨_, r.appended (bundleRecs [data]), hexec, rfl, ?_, rfl, ?_⟩
    · rw [reply_hamper_ring, honly.hamper]
      exact hready'.ring
    · exact (honly.ch.trans hch').trans hch
  case refine_12 =>
    intro s q num ty data hclk htest hnum hring
    obtain ⟨hread, hwrite⟩ := ringOps_none q ty data hclk htest hnum hring
    exact ⟨⟨_, hread, rfl, rfl⟩, _, hwrite, rfl, rfl⟩

end Sys2Proof.Machine
end

section
/-! PROOFS. The management port: its frames, and the replies that requests stage (R558 to R575). -/

namespace Sys2Proof.Machine

section
variable {s t u : State} {b q : List Byte}

/-! ### The data of a frame -/

/-- Nothing of the port but its stream (R574 to R576) differs. -/
def StreamOnly (s t : State) : Prop :=
  t.mgp = { s.mgp with buffer := t.mgp.buffer, seq := t.mgp.seq, prev := t.mgp.prev, underruns := t.mgp.underruns }

namespace StreamOnly

theorem refl (s : State) : StreamOnly s s := rfl

theorem trans (h : StreamOnly s t) (h' : StreamOnly t u) : StreamOnly s u := by
  unfold StreamOnly at *
  rw [h', h]

theorem ite {c : Prop} [Decidable c] (h : StreamOnly s t) (h' : StreamOnly s u) : StreamOnly s (if c then t else u) := by
  split_ifs
  · exact h
  · exact h'

end StreamOnly

theorem streamItem_only (s : State) : StreamOnly s (streamItem s) := by
  unfold streamItem
  split <;> rfl

theorem streamItems_only (k : Nat) (s : State) : StreamOnly s (streamItems k s) := by
  induction k generalizing s with
  | zero => exact .refl s
  | succ k ih => exact (streamItem_only s).trans (ih _)

theorem cutItem_only (s : State) (k : Nat) : StreamOnly s (cutItem s k) := by
  unfold cutItem
  refine .ite (.refl s) ?_
  split <;> rfl

theorem streamFrame_only (s : State) (k : Nat) : StreamOnly s (streamFrame s k) :=
  (StreamOnly.trans (t := s.send _) rfl (streamItems_only ..)).trans (cutItem_only ..)

theorem streamRest_only (s : State) (k : Nat) : StreamOnly s (streamRest s k) :=
  .ite (.refl s) ((streamItems_only ..).trans (cutItem_only ..))

theorem frameData_only (b : List Byte) (s : State) : StreamOnly s (frameData b s) :=
  .ite (.ite (streamRest_only ..) (.refl s)) (.ite (.refl s) (.ite (streamFrame_only ..) (.refl s)))

/-! ### The end of a frame -/

/-- The state in which a frame's data has gone and its end is counted (R558). -/
def frameClosed (b : List Byte) (s : State) : State :=
  (frameData b s).modMgp fun m => { m with inFrame := false, streaming := false, frames := m.frames.inc }

/-- What the end of a frame leaves of the port before its request is taken. -/
theorem frameClosed_mgp (b : List Byte) (s : State) : (frameClosed b s).mgp = { s.mgp with
    inFrame := false, streaming := false, frames := s.mgp.frames.inc, buffer := (frameData b s).mgp.buffer
    seq := (frameData b s).mgp.seq, prev := (frameData b s).mgp.prev, underruns := (frameData b s).mgp.underruns } := by
  show ({ (frameData b s).mgp with inFrame := false, streaming := false, frames := (frameData b s).mgp.frames.inc } : Mgp) = _
  rw [frameData_only b s]

/-- What becomes of a closed frame's request (R560, R564, R568). -/
def requestTaken (b : List Byte) (s : State) : State :=
  match goodRequest b with
  | none => badRequest s
  | some q =>
    let s := takeAlive s ((b.headD 0).extractLsb' 4 4)
    if mType (b.headD 0) = tPoll ∨ mType (b.headD 0) = tStream then s else takeLong s q

theorem frameEnd_eq (b : List Byte) (s : State) : frameEnd b s =
    if carriesReset s (b.headD 0) b.length then deviceReset (requestTaken b (frameClosed b s)) else requestTaken b (frameClosed b s) := rfl

theorem carriesReset_of_none_pending (h : s.dev.resetPending = false) (hdr : Byte) (k : Nat) : carriesReset s hdr k = false := by
  simp [carriesReset, h]

theorem frameEnd_of_none_pending (h : s.dev.resetPending = false) (b : List Byte) : frameEnd b s = requestTaken b (frameClosed b s) := by
  rw [frameEnd_eq, carriesReset_of_none_pending h]
  rfl

theorem exec_mgpFrameEnd_live (hin : s.mgp.inFrame = true) (b : List Byte) : exec (.mgpFrameEnd b) s = .next (frameEnd b s) :=
  congrArg Host.Outcome.next (if_pos hin)

theorem requestTaken_bad (h : goodRequest b = none) (s : State) : requestTaken b s = badRequest s := by
  rw [requestTaken, h]

theorem requestTaken_short (h : goodRequest b = some q) (hty : mType (b.headD 0) = tPoll ∨ mType (b.headD 0) = tStream) (s : State) :
    requestTaken b s = takeAlive s ((b.headD 0).extractLsb' 4 4) := by
  rw [requestTaken, h]
  exact if_pos hty

theorem requestTaken_long (h : goodRequest b = some q) (hpoll : mType (b.headD 0) ≠ tPoll) (hstream : mType (b.headD 0) ≠ tStream) (s : State) :
    requestTaken b s = takeLong (takeAlive s ((b.headD 0).extractLsb' 4 4)) q := by
  rw [requestTaken, h]
  exact if_neg (not_or.mpr ⟨hpoll, hstream⟩)

theorem badRequest_mgp (s : State) : (badRequest s).mgp = { s.mgp with
    badFrames := s.mgp.badFrames.inc, bad := true, badTimes := (s.now :: s.mgp.badTimes).take 17 } := by
  unfold badRequest
  extract_lets counted
  split
  · split
    · have hkept : (mgmtRevoke counted).mgp = counted.mgp := by simp
      exact hkept.trans rfl
    · rfl
  · rfl

/-- The first byte of a good request is its frame's (R559). -/
theorem goodRequest_head (h : goodRequest b = some q) : q.headD 0 = b.headD 0 := by
  unfold goodRequest at h
  extract_lets ty size at h
  split at h
  · contradiction
  · obtain rfl := Option.some.inj h
    have hsize : 0 < size := by
      simp only [size]
      split <;> omega
    obtain ⟨k, hk⟩ := Nat.exists_eq_add_of_lt hsize
    rw [hk]
    cases b with
    | nil => rfl
    | cons x rest =>
      rw [Nat.zero_add, List.take_succ_cons]
      rfl

theorem takeLong_new (hhead : q.headD 0 = b.headD 0) (halive : (b.headD 0).extractLsb' 4 4 ≠ s.mgp.held.rhdr.extractLsb' 4 4)
    (hfree : s.mgp.executing = none) : (takeLong s q).mgp = { s.mgp with
      executing := some q, programmed := false, staged := if reservedSet q then some { rhdr := b.headD 0, code := eRange } else none } := by
  unfold takeLong
  dsimp only [State.modMgp]
  rw [hhead, if_neg (by simpa using halive), hfree, if_neg (by simp)]

theorem takeLong_repeat (hhead : q.headD 0 = b.headD 0) (halive : (b.headD 0).extractLsb' 4 4 = s.mgp.held.rhdr.extractLsb' 4 4) :
    (takeLong s q).mgp = { s.mgp with repeats := s.mgp.repeats.inc } := by
  unfold takeLong
  dsimp only [State.modMgp]
  rw [hhead, if_pos (by simpa using halive)]

theorem takeLong_busy {x : List Byte} (hhead : q.headD 0 = b.headD 0) (halive : (b.headD 0).extractLsb' 4 4 ≠ s.mgp.held.rhdr.extractLsb' 4 4)
    (hbusy : s.mgp.executing = some x) : (takeLong s q).mgp = { s.mgp with busyIgnored := s.mgp.busyIgnored.inc } := by
  unfold takeLong
  dsimp only [State.modMgp]
  rw [hhead, if_neg (by simpa using halive), hbusy, if_pos (show (some x).isSome = true from rfl)]

/-! ### A poll -/

/-- The bytes of a POLL request with an alive counter, its CRC behind it (R559). -/
def pollBytes (alive : BitVec 4) (k : Nat) : List Byte :=
  ([alive ++ (0 : BitVec 4)] ++ natBytes 2 (crc16 [alive ++ (0 : BitVec 4)]).toNat) ++ List.replicate k 0xFF

theorem pollBytes_head (alive : BitVec 4) (k : Nat) : (pollBytes alive k).headD 0 = alive ++ (0 : BitVec 4) := rfl

theorem mType_poll (alive : BitVec 4) : mType (alive ++ (0 : BitVec 4)) = tPoll := by
  revert alive
  decide

theorem poll_alive (alive : BitVec 4) : (alive ++ (0 : BitVec 4)).extractLsb' 4 4 = alive := by
  revert alive
  decide

theorem goodRequest_poll (alive : BitVec 4) (k : Nat) : goodRequest (pollBytes alive k) = some [alive ++ (0 : BitVec 4)] := by
  unfold goodRequest
  extract_lets ty size
  have hty : ty = tPoll := mType_poll alive
  have hsize : size = 1 := if_pos (.inl hty)
  rw [hsize, hty]
  have hslice : slice (pollBytes alive k) 1 2 = natBytes 2 (crc16 [alive ++ (0 : BitVec 4)]).toNat := rfl
  have htake : (pollBytes alive k).take 1 = [alive ++ (0 : BitVec 4)] := rfl
  rw [hslice, htake, if_neg]
  simp only [pollBytes, tPoll, List.length_append, List.length_replicate, List.length_singleton, bne_self_eq_false, Bool.or_false]
  simp
  exact Nat.le_add_right 3 k

/-! ### The clauses of frames -/

theorem mgpFrameStart_clause (haon : s.power.aonHeld = false) (hin : s.mgp.inFrame = false) : exec .mgpFrameStart s = .next (frameStart s) :=
  congrArg Host.Outcome.next (if_neg (by simp [haon, hin]))

theorem frameEnd_bad (hin : s.mgp.inFrame = true) (hpend : s.dev.resetPending = false) (h : goodRequest b = none) :
    ∃ t, exec (.mgpFrameEnd b) s = .next t
      ∧ t.mgp.inFrame = false ∧ t.mgp.frames = s.mgp.frames.inc ∧ t.mgp.badFrames = s.mgp.badFrames.inc ∧ t.mgp.bad = true
      ∧ t.mgp.executing = s.mgp.executing := by
  refine ⟨_, exec_mgpFrameEnd_live hin b, ?_⟩
  rw [frameEnd_of_none_pending hpend, requestTaken_bad h, badRequest_mgp, frameClosed_mgp]
  exact ⟨rfl, rfl, rfl, rfl, rfl⟩

/-- A good long request's frame, by what `takeLong` makes of it (R564). -/
theorem frameEnd_long (hin : s.mgp.inFrame = true) (hpend : s.dev.resetPending = false) (h : goodRequest b = some q)
    (hpoll : mType (b.headD 0) ≠ tPoll) (hstream : mType (b.headD 0) ≠ tStream) :
    exec (.mgpFrameEnd b) s = .next (takeLong (takeAlive (frameClosed b s) ((b.headD 0).extractLsb' 4 4)) q) := by
  rw [exec_mgpFrameEnd_live hin, frameEnd_of_none_pending hpend, requestTaken_long h hpoll hstream]

/-- The port before a good frame's request is judged. -/
theorem takeAlive_closed (b : List Byte) (s : State) (alive : BitVec 4) : let m := (takeAlive (frameClosed b s) alive).mgp
    m.inFrame = false ∧ m.frames = s.mgp.frames.inc ∧ m.alive = alive ∧ m.held = s.mgp.held ∧ m.executing = s.mgp.executing
      ∧ m.badFrames = s.mgp.badFrames ∧ m.repeats = s.mgp.repeats ∧ m.busyIgnored = s.mgp.busyIgnored := by
  have hmgp := frameClosed_mgp b s
  simp only [takeAlive, State.modMgp, hmgp, and_self]

theorem frameEnd_long_clause (hin : s.mgp.inFrame = true) (hpend : s.dev.resetPending = false) (h : goodRequest b = some q)
    (hpoll : mType (b.headD 0) ≠ tPoll) (hstream : mType (b.headD 0) ≠ tStream) :
    let alive := (b.headD 0).extractLsb' 4 4
    (alive ≠ s.mgp.held.rhdr.extractLsb' 4 4 → s.mgp.executing = none → ∃ t, exec (.mgpFrameEnd b) s = .next t
        ∧ t.mgp.inFrame = false ∧ t.mgp.frames = s.mgp.frames.inc ∧ t.mgp.alive = alive ∧ t.mgp.executing = some q
        ∧ t.mgp.badFrames = s.mgp.badFrames ∧ t.ch = s.ch
        ∧ t.mgp.staged = (if reservedSet q then some { rhdr := b.headD 0, code := eRange } else none)) ∧
      (alive = s.mgp.held.rhdr.extractLsb' 4 4 → ∃ t, exec (.mgpFrameEnd b) s = .next t ∧ t.mgp.inFrame = false
        ∧ t.mgp.frames = s.mgp.frames.inc ∧ t.mgp.repeats = s.mgp.repeats.inc ∧ t.mgp.executing = s.mgp.executing) ∧
      (∀ x, alive ≠ s.mgp.held.rhdr.extractLsb' 4 4 → s.mgp.executing = some x → ∃ t, exec (.mgpFrameEnd b) s = .next t
        ∧ t.mgp.inFrame = false ∧ t.mgp.frames = s.mgp.frames.inc ∧ t.mgp.busyIgnored = s.mgp.busyIgnored.inc
        ∧ t.mgp.executing = some x) := by
  intro alive
  have hexec := frameEnd_long hin hpend h hpoll hstream
  have hhead := goodRequest_head h
  obtain ⟨hend, hframes, halive, hheld, hexecuting, hbad, hrepeats, hbusy⟩ := takeAlive_closed b s ((b.headD 0).extractLsb' 4 4)
  refine ⟨fun hne hfree => ⟨_, hexec, ?_⟩, fun heq => ⟨_, hexec, ?_⟩, fun x hne hx => ⟨_, hexec, ?_⟩⟩
  · rw [takeLong_new hhead (by rw [hheld]; exact hne) (hexecuting.trans hfree)]
    have hch : (takeLong (takeAlive (frameClosed b s) ((b.headD 0).extractLsb' 4 4)) q).ch = s.ch := by
      have hdata : (frameData b s).ch = s.ch := by simp
      exact hdata
    exact ⟨hend, hframes, halive, rfl, hbad, hch, rfl⟩
  · rw [takeLong_repeat hhead (by rw [hheld]; exact heq)]
    exact ⟨hend, hframes, congrArg Counter.inc hrepeats, hexecuting⟩
  · rw [takeLong_busy hhead (by rw [hheld]; exact hne) (hexecuting.trans hx)]
    exact ⟨hend, hframes, congrArg Counter.inc hbusy, hexecuting.trans hx⟩

theorem requestTaken_dev (b : List Byte) (s : State) : (requestTaken b (frameClosed b s)).dev = s.dev := by
  have hclosed : (frameClosed b s).dev = s.dev :=
    have hdata : (frameData b s).dev = s.dev := by simp
    hdata
  unfold requestTaken
  split
  · simp [hclosed]
  · dsimp only
    split
    · exact hclosed
    · exact hclosed

/-- A frame that carries the whole reply to a DEVICE_RESET resets the device (R567). -/
theorem frameEnd_resets (hin : s.mgp.inFrame = true) (hdev : s.dev.state ≠ .reset) (h : carriesReset s (b.headD 0) b.length = true) :
    ∃ t, exec (.mgpFrameEnd b) s = .next t ∧ t.dev.state = .reset ∧ t.dev.resetCause.getLsbD 8 = true := by
  have hexec : exec (.mgpFrameEnd b) s = .next (deviceReset (requestTaken b (frameClosed b s))) := by
    rw [exec_mgpFrameEnd_live hin, frameEnd_eq, h, if_pos rfl]
  have henters : EntersReset s (deviceReset (requestTaken b (frameClosed b s))) 0x0100 :=
    enterReset_enters ((saveDone_dev _).trans (requestTaken_dev b s)) _ true hdev
  obtain ⟨hstate, -, hcause, -⟩ := henters
  refine ⟨_, hexec, hstate, ?_⟩
  rw [hcause]
  simp

/-- The frame in which a poll or a stream goes on, begun where none is in progress (log entry 86). -/
def inFrame (s : State) : State := if s.mgp.inFrame then s else frameStart s

theorem inFrame_counts (s : State) : (inFrame s).mgp.inFrame = true ∧ (inFrame s).mgp.frames = s.mgp.frames
    ∧ (inFrame s).mgp.badFrames = s.mgp.badFrames ∧ (inFrame s).dev = s.dev := by
  unfold inFrame
  split
  · next h => exact ⟨h, rfl, rfl, rfl⟩
  · exact ⟨rfl, rfl, rfl, rfl⟩

theorem exec_mgpPoll_live (alive : BitVec 4) (haon : s.power.aonHeld = false) : exec (.mgpPoll alive) s =
    .next (frameEnd (pollBytes alive ((replyBytes (inFrame s)).length - 2)) (inFrame s)) :=
  if_neg (by simp [haon])

theorem mgpPoll_clause (alive : BitVec 4) (haon : s.power.aonHeld = false) (hpend : s.dev.resetPending = false) :
    ∃ t, exec (.mgpPoll alive) s = .next t
      ∧ t.mgp.inFrame = false ∧ t.mgp.frames = s.mgp.frames.inc ∧ t.mgp.alive = alive ∧ t.mgp.badFrames = s.mgp.badFrames := by
  obtain ⟨-, hframes, hbad, hdev⟩ := inFrame_counts s
  refine ⟨_, exec_mgpPoll_live alive haon, ?_⟩
  generalize (replyBytes (inFrame s)).length - 2 = k
  rw [frameEnd_of_none_pending (by rw [hdev]; exact hpend), requestTaken_short (goodRequest_poll alive k) (.inl (mType_poll alive)),
    pollBytes_head, poll_alive]
  obtain ⟨hend, hframes', halive, -, -, hbad', -⟩ := takeAlive_closed (pollBytes alive k) (inFrame s) alive
  exact ⟨hend, hframes'.trans (congrArg Counter.inc hframes), halive, hbad'.trans hbad⟩

theorem mgpStream_clause (k : Nat) (haon : s.power.aonHeld = false) :
    ∃ t, exec (.mgpStream k) s = .next t ∧ t.mgp.inFrame = true ∧ t.mgp.streaming = true := by
  have hexec : exec (.mgpStream k) s = .next (streamItems k ((if (inFrame s).mgp.streaming then inFrame s
      else ((inFrame s).modMgp fun m => { m with streaming := true }).send (.mgp [0xFF, 0xFF])).modMgp fun m =>
        { m with items := m.items + k })) := if_neg (by simp [haon])
  refine ⟨_, hexec, ?_⟩
  rw [streamItems_only k]
  have hin := (inFrame_counts s).1
  split
  · next hstreaming => exact ⟨hin, hstreaming⟩
  · exact ⟨hin, rfl⟩

theorem mgpReplyComplete_clause {r : Reply} (hexecuting : s.mgp.executing = some b) (hstaged : s.mgp.staged = some r) (hsave : s.savesFor = false) :
    exec .mgpReplyComplete s = .next (s.modMgp fun m => { m with held := r, executing := none, staged := none }) := by
  simp only [exec, execMgpReplyComplete, hexecuting, hstaged, hsave, Bool.false_eq_true, if_false]

/-! ### Requests of objects -/

section
variable {idx : W16} {el ty hdr : Byte} {epoch : Option W16} {data : List Byte}

theorem toDo_staged {ty : Nat} {fields : List Byte → Bool} (h : s.toDo ty fields = some hdr) : s.mgp.staged = none := by
  unfold State.toDo at h
  split at h
  · assumption
  · contradiction

theorem stageReply_mgp (s : State) (r : Reply) : (stageReply s r).mgp = { s.mgp with staged := some r } := by
  have hmgp : (s.instructorCommand .mgp r.code).mgp = s.mgp := by simp
  exact congrArg (fun m : Mgp => { m with staged := some r }) hmgp

theorem stageReply_staged (s : State) (r : Reply) : (stageReply s r).mgp.staged = some r := rfl

theorem exec_mgpRead_short (asked : s.toDo tRead (readFields idx el ty) = some hdr) (hreach : mgpReach s idx.toNat el.toNat = eOk)
    (hlen : (readAt .mgmt idx el ty s).2.data.length ≤ 512) : ∃ r, exec (.mgpRead idx el ty) s = .next (stageReply (readAt .mgmt idx el ty s).1 r)
      ∧ r.rhdr = hdr ∧ r.code = (readAt .mgmt idx el ty s).2.code ∧ r.data = (readAt .mgmt idx el ty s).2.data := by
  refine ⟨{ rhdr := hdr, code := (readAt .mgmt idx el ty s).2.code
            dtype := if (readAt .mgmt idx el ty s).2.code == eOk then (readAt .mgmt idx el ty s).2.ty else 0
            epoch := (readAt .mgmt idx el ty s).2.epoch, data := (readAt .mgmt idx el ty s).2.data }, ?_, rfl, rfl, rfl⟩
  have hlong : ¬ ((readAt .mgmt idx el ty s).2.code == eOk && decide (512 < (readAt .mgmt idx el ty s).2.data.length)) = true := by
    simp [Nat.not_lt.mpr hlen]
  change execMgpRead idx el ty s = _
  simp only [execMgpRead, asked, hreach, bne_self_eq_false, Bool.false_eq_true, if_false]
  exact if_neg hlong

theorem exec_mgpWrite_short (asked : s.toDo tWrite (writeFields idx el ty epoch data) = some hdr)
    (hreach : mgpReach s idx.toNat el.toNat = eOk) (hlen : data.length ≤ 512) :
    exec (.mgpWrite idx el ty epoch data) s = .next (stageReply (writeAt ⟨⟨.mgmt, .mgp, epoch⟩, idx, el, ty, data⟩ s).1
      { rhdr := hdr, code := (writeAt ⟨⟨.mgmt, .mgp, epoch⟩, idx, el, ty, data⟩ s).2.code
        epoch := (writeAt ⟨⟨.mgmt, .mgp, epoch⟩, idx, el, ty, data⟩ s).2.epoch }) := by
  change execMgpWrite idx el ty epoch data s = _
  simp only [execMgpWrite, asked, hreach, bne_self_eq_false, Bool.false_eq_true, if_false, if_neg (Nat.not_lt.mpr hlen)]

theorem afterObjRead_ch (idx el : Nat) (s : State) : (afterObjRead idx el s).ch = s.ch := by
  unfold afterObjRead
  split
  · split <;> simp
  · rfl

theorem readAt_ch (s : State) (who : Requester) (idx : W16) (el ty : Byte) : (readAt who idx el ty s).1.ch = s.ch := by
  unfold readAt
  split
  · rfl
  · dsimp only
    split
    · exact afterObjRead_ch ..
    · rfl

end

/-! ### Accesses to the flash -/

section
variable {off : Word} {count : W16} {data : List Byte} {hdr : Byte}

theorem flashRead_fsp (s : State) (off k : Nat) : (flashRead s off k).fsp =
    { s.fsp with contRead := (flashRead s off k).fsp.contRead, inCont := (flashRead s off k).fsp.inCont, sckHigh := false } := by
  unfold flashRead sendExit
  split <;> rfl

theorem sendExit_xip (s : State) : (sendExit s).xip = s.xip := by simp

theorem flashAddr_sendExit (s : State) (off : Nat) : flashAddr (sendExit s) off = flashAddr s off := by
  rw [flashAddr, sendExit_xip]
  rfl

theorem flashRead_emit (s : State) (off k : Nat) : (flashRead s off k).emit.head? =
    some (.fsp 0 ([s.xip.cmd] ++ flashAddr s off ++ [0xFF]) s.xip.dummy.toNat k) := by
  have hcmd : (flashRead s off k).emit.head? = some (.fsp 0 ([(sendExit s).xip.cmd] ++ flashAddr (sendExit s) off ++ [0xFF])
      (sendExit s).xip.dummy.toNat k) := rfl
  rw [hcmd, flashAddr_sendExit, sendExit_xip]

theorem flashRead_ch (s : State) (off k : Nat) : (flashRead s off k).ch = s.ch := by simp [flashRead]

theorem flashAltered_emit (s : State) (op3 op4 : Byte) (off : Nat) (data : List Byte) : (flashAltered s op3 op4 off data).emit.head? =
    some (.fsp 0 ([if s.xip.addr4 then op4 else op3] ++ flashAddr s off ++ data) 0 0) := by
  have hcmd : (flashAltered s op3 op4 off data).emit.head? = some (.fsp 0 ([if (sendExit s).xip.addr4 then op4 else op3]
      ++ flashAddr (sendExit s) off ++ data) 0 0) := rfl
  rw [hcmd, flashAddr_sendExit, sendExit_xip]

theorem flashAltered_ch (s : State) (op3 op4 : Byte) (off : Nat) (data : List Byte) : (flashAltered s op3 op4 off data).ch = s.ch := by
  simp [flashAltered]

theorem flashAltered_mgp (s : State) (op3 op4 : Byte) (off : Nat) (data : List Byte) : (flashAltered s op3 op4 off data).mgp = s.mgp := by
  simp [flashAltered]

theorem not_busyPend_of_supMay (h : s.supMay = true) : s.fsp.busyPend = false := by
  simp only [State.supMay, Bool.and_eq_true, Bool.not_eq_true'] at h
  exact h.2

/-- A checked access that is refused stages its code and leaves the flash alone (R572). -/
theorem refusedFlash_stages (s : State) (hdr code : Byte) : ∃ t r, Host.Outcome.next (stageReply s { rhdr := hdr, code := code })
    = (.next t : Host.Outcome State Fault Refusal) ∧ t.mgp.staged = some r ∧ r.rhdr = hdr ∧ r.code = code ∧ t.fsp = s.fsp :=
  ⟨_, _, rfl, rfl, rfl, rfl, by simp⟩

section
variable (asked : s.toDo tFlashRead (flashFields off count []) = some hdr)
include asked

theorem exec_mgpFlashRead_refused (hcode : flashCode s off.toNat count.toNat false (within 1 512 count.toNat) ≠ eOk) :
    exec (.mgpFlashRead off count data) s =
      .next (stageReply s { rhdr := hdr, code := flashCode s off.toNat count.toNat false (within 1 512 count.toNat) }) := by
  change execMgpFlashRead off count data s = _
  simp only [execMgpFlashRead, asked]
  exact if_pos (bne_iff_ne.mpr hcode)

theorem exec_mgpFlashRead_reads (hcode : flashCode s off.toNat count.toNat false (within 1 512 count.toNat) = eOk)
    (hmay : s.supMay = true) (hlen : data.length = count.toNat) : exec (.mgpFlashRead off count data) s =
      .next (stageReply (flashRead s off.toNat count.toNat) { rhdr := hdr, data := data }) := by
  have hwhole : (data ++ List.replicate count.toNat 0xFF).take count.toNat = data := by
    rw [← hlen]
    exact List.take_left ..
  change execMgpFlashRead off count data s = _
  simp only [execMgpFlashRead, asked, hcode, hmay, hwhole, bne_self_eq_false, Bool.not_true, Bool.false_eq_true, if_false]

end

section
variable {eq : Bool} (asked : s.toDo tFlashWrite (flashFields off 0 data) = some hdr)
include asked

theorem exec_mgpFlashWrite_refused (hcode : flashCode s off.toNat data.length true
      (within 1 256 data.length && decide (off.toNat % 256 + data.length ≤ 256)) ≠ eOk) (hprog : s.mgp.programmed = false) :
    exec (.mgpFlashWrite off data eq) s = .next (stageReply s {
      rhdr := hdr
      code := flashCode s off.toNat data.length true (within 1 256 data.length && decide (off.toNat % 256 + data.length ≤ 256)) }) := by
  change execMgpFlashWrite off data eq s = _
  simp only [execMgpFlashWrite, asked]
  exact if_pos (by simp [bne_iff_ne.mpr hcode, hprog])

theorem exec_mgpFlashWrite_programs (hcode : flashCode s off.toNat data.length true
      (within 1 256 data.length && decide (off.toNat % 256 + data.length ≤ 256)) = eOk) (hmay : s.supMay = true)
    (hprog : s.mgp.programmed = false) : exec (.mgpFlashWrite off data eq) s =
      .next ((flashAltered s 0x02 0x12 off.toNat data).modMgp fun m => { m with programmed := true }) := by
  change execMgpFlashWrite off data eq s = _
  simp only [execMgpFlashWrite, asked, hcode, hmay, hprog, bne_self_eq_false, Bool.not_true, Bool.false_and, Bool.false_eq_true, if_false]

theorem exec_mgpFlashWrite_readsBack (hmay : s.supMay = true) (hprog : s.mgp.programmed = true) :
    exec (.mgpFlashWrite off data eq) s = .next (stageReply ((flashRead s off.toNat data.length).modMgp fun m => { m with programmed := false })
      { rhdr := hdr, code := if eq then eOk else eCrc }) := by
  change execMgpFlashWrite off data eq s = _
  simp only [execMgpFlashWrite, asked, hmay, hprog, Bool.not_true, Bool.and_false, Bool.false_eq_true, if_false, if_true]

end

section
variable (asked : s.toDo tFlashErase (flashFields off 0 []) = some hdr)
include asked

theorem exec_mgpFlashErase_refused (hcode : flashCode s off.toNat 4096 true (off.toNat % 4096 == 0) ≠ eOk) :
    exec (.mgpFlashErase off) s = .next (stageReply s { rhdr := hdr, code := flashCode s off.toNat 4096 true (off.toNat % 4096 == 0) }) := by
  change execMgpFlashErase off s = _
  simp only [execMgpFlashErase, asked]
  exact if_pos (bne_iff_ne.mpr hcode)

theorem exec_mgpFlashErase_erases (hcode : flashCode s off.toNat 4096 true (off.toNat % 4096 == 0) = eOk) (hmay : s.supMay = true) :
    exec (.mgpFlashErase off) s = .next (stageReply (flashAltered s 0x20 0x21 off.toNat []) { rhdr := hdr }) := by
  change execMgpFlashErase off s = _
  simp only [execMgpFlashErase, asked, hcode, hmay, bne_self_eq_false, Bool.not_true, Bool.false_eq_true, if_false]

end

end

end

/-- Settles O39: a frame's end by what becomes of its request, and a request's execution by the reply it stages. -/
theorem managementPort : Obligations.ManagementPort := by
  unfold Obligations.ManagementPort
  refine ⟨⟨?_, fun s b hin hpend h => frameEnd_bad hin hpend h,
    fun s b q hin hpend h hpoll hstream => frameEnd_long_clause hin hpend h hpoll hstream,
    fun s b hin hdev h => frameEnd_resets hin hdev h, ?_, fun s alive haon hpend => mgpPoll_clause alive haon hpend,
    fun s k haon => mgpStream_clause k haon,
    fun s b r hexecuting hstaged hsave => mgpReplyComplete_clause hexecuting hstaged hsave⟩, ?_, ?_, ?_, ?_, ?_, ?_, ?_, ?_, ?_, ?_, ?_⟩
  case refine_1 =>
    intro s haon hin
    exact ⟨_, mgpFrameStart_clause haon hin, rfl, rfl, rfl, rfl, rfl, rfl⟩
  case refine_2 =>
    intro s b hin
    exact congrArg Host.Outcome.next (if_neg (by simp [hin]))
  case refine_3 =>
    intro s idx el ty hdr asked hreach hlen
    obtain ⟨r, hexec, hrhdr, hcode, hdata⟩ := exec_mgpRead_short asked hreach hlen
    exact ⟨_, r, hexec, stageReply_staged .., hrhdr, hcode, hdata, Eq.trans (by simp) (readAt_ch s .mgmt idx el ty)⟩
  case refine_4 =>
    intro s idx el ty hdr asked hreach
    exact ⟨_, _, exec_mgpRead_of_not_reached asked hreach, rfl, rfl, rfl, rfl⟩
  case refine_5 =>
    intro s off k data hdr asked hcode
    exact ⟨_, _, exec_mgpFlashRead_refused asked hcode, rfl, rfl, rfl, by simp⟩
  case refine_6 =>
    intro s off data eq hdr asked code hcode hprog
    exact ⟨_, _, exec_mgpFlashWrite_refused asked hcode hprog, rfl, rfl, rfl, by simp⟩
  case refine_7 =>
    intro s off hdr asked hcode
    exact ⟨_, _, exec_mgpFlashErase_refused asked hcode, rfl, rfl, rfl, by simp⟩
  case refine_8 =>
    intro s idx el ty epoch data hdr asked hreach hlen
    exact ⟨_, _, exec_mgpWrite_short asked hreach hlen, rfl, rfl, rfl, by simp⟩
  case refine_9 =>
    intro s idx el ty epoch data hdr asked hreach
    exact ⟨_, _, exec_mgpWrite_of_not_reached asked hreach, rfl, rfl, rfl, rfl⟩
  case refine_10 =>
    intro s off k data hdr asked hcode hmay hlen
    refine ⟨_, _, exec_mgpFlashRead_reads asked hcode hmay hlen, rfl, rfl, rfl, rfl, ?_, ?_, ?_⟩
    · have hfsp : (stageReply (flashRead s off.toNat k.toNat) { rhdr := hdr, data := data }).fsp = (flashRead s off.toNat k.toNat).fsp := by
        simp
      rw [hfsp]
      exact flashRead_fsp ..
    · exact Eq.trans (by simp) (flashRead_emit s off.toNat k.toNat)
    · exact Eq.trans (by simp) (flashRead_ch s off.toNat k.toNat)
  case refine_11 =>
    intro s off data eq hdr asked hcode hmay hprog
    refine ⟨_, exec_mgpFlashWrite_programs asked hcode hmay hprog, ?_, rfl, rfl, rfl, flashAltered_ch s 0x02 0x12 off.toNat data,
      flashAltered_emit s 0x02 0x12 off.toNat data⟩
    exact (congrArg Mgp.staged (flashAltered_mgp s 0x02 0x12 off.toNat data)).trans (toDo_staged asked)
  case refine_12 =>
    intro s off data eq hdr asked hprog hmay
    refine ⟨_, _, exec_mgpFlashWrite_readsBack asked hmay hprog, rfl, rfl, rfl,
      congrArg Mgp.programmed (stageReply_mgp ..), ?_, ?_⟩
    · have hfsp : (stageReply ((flashRead s off.toNat data.length).modMgp fun m => { m with programmed := false })
          { rhdr := hdr, code := if eq then eOk else eCrc }).fsp = (flashRead s off.toNat data.length).fsp := by simp
      rw [hfsp, flashRead_fsp]
      exact not_busyPend_of_supMay hmay
    · exact Eq.trans (by simp) (flashRead_ch s off.toNat data.length)
  case refine_13 =>
    intro s off hdr asked hcode hmay
    refine ⟨_, _, exec_mgpFlashErase_erases asked hcode hmay, rfl, rfl, rfl, ?_, ?_, ?_, ?_⟩
    · have hfsp : (stageReply (flashAltered s 0x20 0x21 off.toNat []) { rhdr := hdr }).fsp = (flashAltered s 0x20 0x21 off.toNat []).fsp := by
        simp
      rw [hfsp]
      rfl
    · have hxip : (stageReply (flashAltered s 0x20 0x21 off.toNat []) { rhdr := hdr }).xip = (flashAltered s 0x20 0x21 off.toNat []).xip := by
        simp
      rw [hxip]
      rfl
    · exact Eq.trans (by simp) (flashAltered_ch s 0x20 0x21 off.toNat [])
    · refine Eq.trans (by simp) ((flashAltered_emit s 0x20 0x21 off.toNat []).trans ?_)
      rw [List.append_nil]

end Sys2Proof.Machine
end

section
/-! PROOFS. A dictionary read of a raw descriptor word whose memory an injection has made fail (R91, R417, R606). -/

namespace Sys2Proof.Machine

/-- Ring 0 enabled, with test mode's injection into its descriptor. -/
def descriptorFailing : State :=
  { State.reset with
    hamper := { rings := [{ num := 0, enabled := true }] }
    badger := { State.reset.badger with testActive := true, injections := [{ target := 3, arg := 0, value := 0, ends := 0 }] } }

/-- The object of the descriptor's first word among the raw registers. -/
def rawDescriptor : Obj := rawObj 0x100 (descReg 0) 0x40040000

theorem objAt_rawDescriptor : objAt 0x8100 0 = .ok rawDescriptor := by rfl

/-- Which rings are enabled in the outcome's state. -/
def enabledOf : Host.Outcome State Fault Refusal → List Bool
  | .next t => t.hamper.rings.map (·.enabled)
  | _ => []

theorem enabledOf_ropRead : enabledOf (exec (.ropRead byOwnCore 0x8100 0 0) descriptorFailing) = [false] := by
  decide

/-- Refutes O40: a read of a descriptor's word finds the injected error and disables the ring, where the statement has a read leave
no trace but a latched high word. -/
theorem not_dictionaryAccessAndPlaces : ¬ Obligations.DictionaryAccessAndPlaces := by
  unfold Obligations.DictionaryAccessAndPlaces
  rintro ⟨⟨-, hread, -⟩, -⟩
  obtain ⟨t, hexec, -, -, -, htrace, -⟩ := hread descriptorFailing byOwnCore 0x8100 0 0 rawDescriptor _ objAt_rawDescriptor rfl
  have henabled := enabledOf_ropRead
  rw [hexec, enabledOf, htrace] at henabled
  exact absurd (show [true] = [false] from henabled) (by decide)

end Sys2Proof.Machine
end

section
/-! PROOFS. The entries of the FSP's command ring (R532 to R545, R552). -/

namespace Sys2Proof.Machine

/-! ### The write of a response on the pool write port (R435, R541) -/

/-- Of the FSP nothing but a kept response changes. -/
def FspKept (s t : State) : Prop := t.fsp = { s.fsp with response := t.fsp.response }

namespace FspKept
variable {s t u : State}

theorem of_eq (h : t.fsp = s.fsp) : FspKept s t := by rw [FspKept, h]

theorem trans (h : FspKept s t) (k : FspKept t u) : FspKept s u := by
  unfold FspKept at *
  rw [k, h]

end FspKept

theorem writeKept_fspKept (s : State) : FspKept s (writeKept s) := by
  unfold writeKept
  split
  · rw [FspKept, (storeNow_frame _ _ _).2.2.2.2.2.2.2.2.2.2.2.2.2.2.2.2.2.2.1]
  · rfl

theorem servePort_fspKept (s : State) (q : Nat) : FspKept s (servePort s q) := by
  unfold servePort
  split
  · exact .of_eq (by simp)
  · exact .of_eq (by simp)
  · split
    · exact writeKept_fspKept s
    · rfl

theorem finishPort_fspKept (s : State) (extra : List Nat) : FspKept s (finishPort s extra) := by
  unfold finishPort
  split
  · rfl
  next q _ => exact (servePort_fspKept s q).trans (.of_eq (by simp))

theorem portTurn_fspKept (q n : Nat) (s : State) : FspKept s (portTurn q n s) := by
  induction n generalizing s with
  | zero => rfl
  | succ n ih =>
    unfold portTurn
    split
    · split
      · rfl
      · exact (FspKept.of_eq (by simp)).trans ((finishPort_fspKept _ _).trans (ih _))
    · rfl

theorem portGrant_fspKept (q cost : Nat) (s : State) : FspKept s (portGrant q cost s) := by
  unfold portGrant
  dsimp only
  have hturn := portTurn_fspKept q (2 * s.pool.windowActive + 3) (finishPort s [q])
  exact (finishPort_fspKept s [q]).trans (hturn.trans (.of_eq (by simp only [State.endGrant_frame, grantPort_frame])))

theorem forEach_induct {α : Type} {P : State → Prop} {f : State → α → State} (h : ∀ s a, P s → P (f s a)) (l : List α) {s : State}
    (hs : P s) : P (forEach l s f) := by
  induction l generalizing s with
  | nil => exact hs
  | cons a l ih => exact ih (h s a hs)

/-- What a response's write keeps: what each of its parts keeps. -/
theorem writeResponse_keeps {P : State → Prop} {s : State} {recs : List (List Byte)} (resp : Bool) (hs : P s)
    (hdesc : ∀ s num, P s → P (checkDesc s num)) (hgrant : ∀ s cost, P s → P (portGrant reqFsp cost s))
    (hput : ∀ s r, P s → P (putRecords s r recs).1) (hkept : ∀ s, P s → P (s.modFsp fun f => { f with response := recs })) :
    P (writeResponse s resp recs) := by
  unfold writeResponse
  split
  · exact hs
  dsimp only
  split
  next r _ =>
    have hgranted := hgrant _ (if r.pendLoss = 0 then 1 else 2) (hdesc s s.fsp.respRing hs)
    split
    next r' _ =>
      have hstored := hput _ r' hgranted
      split
      next hfull => exact hkept _ (by rwa [hfull] at hstored)
      next hplaced =>
        rw [hplaced] at hstored
        exact forEach_induct (fun s _ h => hgrant s 1 h) _ hstored
    · exact hgranted
  · exact hdesc _ _ hs

theorem writeResponse_fspKept (s : State) (resp : Bool) (recs : List (List Byte)) : FspKept s (writeResponse s resp recs) :=
  writeResponse_keeps (P := FspKept s) resp rfl (fun _ _ h => h.trans (.of_eq (by simp))) (fun _ _ h => h.trans (portGrant_fspKept ..))
    (fun _ _ h => h.trans (.of_eq (by simp))) fun _ h => h.trans rfl

/-! ### The channels while nobody else requests the port -/

/-- The sources of the pool write port hand over what they did, and nobody but the FSP may request it. -/
structure Yields (s t : State) : Prop where
  ch : t.ch = s.ch
  staging : t.hamper.staging = s.hamper.staging
  bulk : t.hamper.bulk = s.hamper.bulk
  owner : t.pool.owner = none
  reqs : t.pool.reqs.length = s.pool.reqs.length

namespace Yields
variable {s t u : State}

theorem of_quiet (h : PortQuiet s) : Yields s s := ⟨rfl, rfl, rfl, h.1, rfl⟩

theorem trans (h : Yields s t) (k : t.pool.owner = none → Yields t u) : Yields s u := by
  obtain ⟨ch, staging, bulk, owner, reqs⟩ := k h.owner
  exact ⟨ch.trans h.ch, staging.trans h.staging, bulk.trans h.bulk, owner, reqs.trans h.reqs⟩

theorem of_parts (h : Yields s t) (ch : u.ch = t.ch) (staging : u.hamper.staging = t.hamper.staging) (bulk : u.hamper.bulk = t.hamper.bulk)
    (pool : u.pool = t.pool) : Yields s u :=
  h.trans fun howner => ⟨ch, staging, bulk, pool ▸ howner, by rw [pool]⟩

/-- Whoever requests is the FSP with the response that it keeps. -/
theorem requester (hquiet : PortQuiet s) (h : Yields s t) {q : Nat} (hlt : q < t.pool.reqs.length) (hq : poolRequests t q = true) :
    q = reqFsp := by
  have hno := poolRequesting_eq_nil.mp hquiet.2 q (h.reqs ▸ hlt)
  simp only [poolRequests, Bool.or_eq_false_iff] at hno
  simp only [poolRequests, headSource_congr h.staging h.bulk h.ch, hno.1, Bool.false_or, Bool.and_eq_true, beq_iff_eq] at hq
  exact hq.1

/-- The FSP has its turn at once. -/
theorem portTurn (hquiet : PortQuiet s) (h : Yields s t) (n : Nat) : portTurn reqFsp n t = t := by
  cases n with
  | zero => rfl
  | succ n =>
    unfold Machine.portTurn
    cases hpick : pick t.pool.parked (poolRequesting t [reqFsp]) with
    | none => rfl
    | some x =>
      obtain ⟨hmem, hreq⟩ := List.mem_filter.mp (pick_mem hpick)
      obtain ⟨⟨r, w⟩, hw, rfl⟩ := List.mem_map.mp hmem
      have hlt := (List.getElem?_eq_some_iff.mp (List.mk_mem_zipIdx_iff_getElem?.mp hw)).1
      refine if_pos ?_
      rcases Bool.or_eq_true_iff.mp hreq with hown | hextra
      · exact h.requester hquiet hlt hown
      · simpa using hextra

theorem portGrant (hquiet : PortQuiet s) (h : Yields s t) (cost : Nat) : Yields s (portGrant reqFsp cost t) := by
  have hfinish : finishPort t [reqFsp] = t := by rw [finishPort, h.owner]
  have hgranted : Machine.portGrant reqFsp cost t =
      (grantPort t reqFsp cost [reqFsp]).endGrant .pool ((poolRequesting (grantPort t reqFsp cost [reqFsp]) []).map (·.1)) := by
    unfold Machine.portGrant
    rw [hfinish, h.portTurn hquiet]
  rw [hgranted]
  have hends := Arb.endGrant_pool (grantPort t reqFsp cost [reqFsp]).pool
    ((poolRequesting (grantPort t reqFsp cost [reqFsp]) []).map (·.1)) t.free
  exact ⟨by simpa using h.ch, by simpa using h.staging, by simpa using h.bulk, hends.1,
    hends.2.trans ((Arb.grant_reqs_length ..).trans h.reqs)⟩

end Yields

/-- What the sources hand over, as they left it: records move between the rings alone. -/
def SourcesKept (s t : State) : Prop := t.hamper.staging = s.hamper.staging ∧ t.hamper.bulk = s.hamper.bulk

namespace SourcesKept
variable {s t u : State}

theorem of_hamper (h : t.hamper = s.hamper) : SourcesKept s t := by rw [SourcesKept, h]; exact ⟨rfl, rfl⟩

theorem trans (h : SourcesKept s t) (k : SourcesKept t u) : SourcesKept s u := ⟨k.1.trans h.1, k.2.trans h.2⟩

end SourcesKept

theorem setRing_sourcesKept (s : State) (r : Ring) : SourcesKept s (s.setRing r) := ⟨rfl, rfl⟩

theorem checkDesc_sourcesKept (s : State) (num : Nat) : SourcesKept s (checkDesc s num) := by
  unfold checkDesc
  split
  · split
    next r _ => exact SourcesKept.trans (setRing_sourcesKept s r.disable) (.of_hamper (by simp))
    · exact ⟨rfl, rfl⟩
  · exact ⟨rfl, rfl⟩

theorem poolRefusal_sourcesKept (s : State) (r : Ring) (k : Nat) : SourcesKept s (poolRefusal s r k) := by
  unfold poolRefusal
  split
  · exact SourcesKept.trans (t := { s with hamper := { s.hamper with poolExhaust := s.hamper.poolExhaust.inc, refusedDry := true } })
      ⟨rfl, rfl⟩ (.of_hamper (by simp))
  · exact ⟨rfl, rfl⟩

theorem countLoss_sourcesKept (s : State) (r : Ring) (k : Nat) (newGap : Bool) : SourcesKept s (countLoss s r k newGap).1 := by
  unfold countLoss
  dsimp only
  split
  · exact .of_hamper (by simp)
  · exact ⟨rfl, rfl⟩

theorem pendLoss_sourcesKept (s : State) (r : Ring) (k : Nat) : SourcesKept s (pendLoss s r k) :=
  SourcesKept.trans (t := (countLoss s r k (r.pendLoss == 0)).1) (countLoss_sourcesKept ..) ⟨rfl, rfl⟩

theorem dropHead_sourcesKept (s : State) (r : Ring) : SourcesKept s (dropHead s r).1 := by
  unfold dropHead
  split
  · exact ⟨rfl, rfl⟩
  · split
    · exact ⟨rfl, rfl⟩
    · exact countLoss_sourcesKept s r 1 (r.headGap == 0)

theorem makeRoom_sourcesKept (n : Nat) (s : State) (r : Ring) (k : Nat) : SourcesKept s (makeRoom n s r k).1 := by
  induction n generalizing s r with
  | zero => exact ⟨rfl, rfl⟩
  | succ n ih =>
    unfold makeRoom
    extract_lets inBundle
    split
    · exact ⟨rfl, rfl⟩
    · exact (dropHead_sourcesKept s r).trans (SourcesKept.trans (t := (dropHead s r).1.setRing (dropHead s r).2) ⟨rfl, rfl⟩ (ih ..))

theorem makeFit_sourcesKept (s : State) (r : Ring) (recs : List (List Byte)) : SourcesKept s (makeFit s r recs).1 := by
  unfold makeFit
  dsimp only
  split
  · exact ⟨rfl, rfl⟩
  · have hrefused := poolRefusal_sourcesKept s r (r.slotsFor recs)
    split
    · exact hrefused.trans (pendLoss_sourcesKept ..)
    · exact hrefused
    · split
      · exact hrefused.trans (makeRoom_sourcesKept ..)
      · exact hrefused.trans (pendLoss_sourcesKept ..)

theorem appendSlots_sourcesKept (s : State) (r : Ring) (xs : List Rec) : SourcesKept s (appendSlots s r xs) := by
  unfold appendSlots
  dsimp only
  have hstaging (x : Ring) : (s.hamper.setRing x).staging = s.hamper.staging := rfl
  have hbulk (x : Ring) : (s.hamper.setRing x).bulk = s.hamper.bulk := rfl
  exact ⟨by simp [hstaging], by simp [hbulk]⟩

theorem storeNow_sourcesKept (s : State) (r : Ring) (recs : List (List Byte)) : SourcesKept s (storeNow s r recs) := by
  unfold storeNow
  split
  · exact appendSlots_sourcesKept ..
  · exact appendSlots_sourcesKept ..

theorem putRecords_sourcesKept (s : State) (r : Ring) (recs : List (List Byte)) : SourcesKept s (putRecords s r recs).1 := by
  have hfit := makeFit_sourcesKept s r recs
  unfold putRecords
  split
  next hmade =>
    rw [hmade] at hfit
    exact hfit.trans (storeNow_sourcesKept ..)
  next hmade =>
    rw [hmade] at hfit
    exact hfit

theorem takeHeads_sourcesKept (k : Nat) (s : State) (r : Ring) : SourcesKept s (takeHeads k s r).1 := by
  induction k generalizing s r with
  | zero => exact ⟨rfl, rfl⟩
  | succ k ih =>
    unfold takeHeads
    split
    · exact ⟨rfl, rfl⟩
    next x _ _ =>
      have hread : SourcesKept s (eccRead s x) := by
        unfold eccRead
        split <;> exact ⟨rfl, rfl⟩
      exact hread.trans ((setRing_sourcesKept ..).trans (ih ..))

theorem removeEntry_sourcesKept (s : State) : SourcesKept s (removeEntry s) := by
  unfold removeEntry
  dsimp only
  have hdesc := checkDesc_sourcesKept s s.fsp.cmdRing
  split
  · exact hdesc.trans (takeHeads_sourcesKept ..)
  · exact hdesc

theorem Yields.of_sources {s t u : State} (h : Yields s t) (k : SourcesKept t u) (ch : u.ch = t.ch) (pool : u.pool = t.pool) : Yields s u :=
  h.of_parts ch k.1 k.2 pool

theorem writeResponse_yields {s t : State} (hquiet : PortQuiet s) (h : Yields s t) (resp : Bool) (recs : List (List Byte)) :
    Yields s (writeResponse t resp recs) :=
  writeResponse_keeps resp h (fun _ _ k => k.of_sources (checkDesc_sourcesKept ..) (by simp) (by simp)) (fun _ cost k => k.portGrant hquiet cost)
    (fun _ _ k => k.of_sources (putRecords_sourcesKept ..) (by simp) (by simp)) fun _ k => k.of_sources ⟨rfl, rfl⟩ rfl rfl

/-! ### The end of an entry (R541, R545) -/

/-- An entry that is over: out of its ring and counted. -/
def entryOver (s : State) (e : Entry) (result : Byte) (attempts : Nat) : State :=
  (removeEntry (afterFlash s e attempts)).modFsp fun f => { f with entries := f.entries.inc, fails := if result == eOk then f.fails else f.fails.inc }

/-- Its response written and a failure told. -/
def entryAnswered (s : State) (e : Entry) (result : Byte) (attempts : Nat) (rx : List Byte) : State :=
  let s := writeResponse s e.resp (responseRecs e result attempts s.clk.tbc rx)
  if result == eOk then s else sendMsg s srcFsp 0xF0 .note (65536 * e.sel.val + result.toNat)

theorem completeEntry_eq (s : State) (e : Entry) (result : Byte) (attempts : Nat) (rx : List Byte) :
    completeEntry s e result attempts rx = releaseIfDue ((entryAnswered (entryOver s e result attempts) e result attempts rx).modFsp fun f =>
      { f with entry := none, cmdRing := f.cmdRingNext.getD f.cmdRing, respRing := f.respRingNext.getD f.respRing
               cmdRingNext := none, respRingNext := none }) := rfl

theorem entryAnswered_fspKept (s : State) (e : Entry) (result : Byte) (attempts : Nat) (rx : List Byte) :
    FspKept s (entryAnswered s e result attempts rx) := by
  unfold entryAnswered
  dsimp only
  have hwritten := writeResponse_fspKept s e.resp (responseRecs e result attempts s.clk.tbc rx)
  split
  · exact hwritten
  · exact hwritten.trans (.of_eq (by simp))

/-- What the release of the bus leaves of the FSP. -/
structure BusKept (f g : Fsp) : Prop where
  entry : g.entry = f.entry
  entries : g.entries = f.entries
  fails : g.fails = f.fails
  protBlocks : g.protBlocks = f.protBlocks
  busyPend : g.busyPend = f.busyPend
  cmdServed : g.cmdServed = f.cmdServed

theorem sendExit_busKept (s : State) : BusKept s.fsp (sendExit s).fsp := by
  unfold sendExit
  split <;> exact ⟨rfl, rfl, rfl, rfl, rfl, rfl⟩

theorem releaseIfDue_busKept (s : State) : BusKept s.fsp (releaseIfDue s).fsp := by
  unfold releaseIfDue releaseBus
  split
  · split
    · have hexit := sendExit_busKept s
      exact ⟨hexit.entry, hexit.entries, hexit.fails, hexit.protBlocks, hexit.busyPend, hexit.cmdServed⟩
    · exact ⟨rfl, rfl, rfl, rfl, rfl, rfl⟩
  · exact ⟨rfl, rfl, rfl, rfl, rfl, rfl⟩

/-- A completed entry: what stands of it. -/
structure EntryDone (s t : State) (e : Entry) (result : Byte) (attempts : Nat) : Prop where
  entry : t.fsp.entry = none
  entries : t.fsp.entries = s.fsp.entries.inc
  fails : t.fsp.fails = if result == eOk then s.fsp.fails else s.fsp.fails.inc
  protBlocks : t.fsp.protBlocks = s.fsp.protBlocks
  busyPend : t.fsp.busyPend = (afterFlash s e attempts).fsp.busyPend
  xip : t.xip = (afterFlash s e attempts).xip
  ch : PortQuiet s → t.ch = s.ch

theorem PortQuiet.of_parts {s t : State} (h : PortQuiet s) (ch : t.ch = s.ch) (hamper : t.hamper = s.hamper) (pool : t.pool = s.pool)
    (response : t.fsp.response = s.fsp.response) (ring : t.fsp.respRing = s.fsp.respRing) : PortQuiet t := by
  obtain ⟨howner, hquiet⟩ := h
  refine ⟨pool ▸ howner, poolRequesting_eq_nil.mpr fun q hq => ?_⟩
  have hno := poolRequesting_eq_nil.mp hquiet q (pool ▸ hq)
  have hkept : keptResponse t = keptResponse s := by simp only [keptResponse, response, ring, hamper]
  rw [← hno]
  simp only [poolRequests, hkept, headSource_congr (congrArg Hamper.staging hamper) (congrArg Hamper.bulk hamper) ch]

theorem completeEntry_done (s : State) (e : Entry) (result : Byte) (attempts : Nat) (rx : List Byte) :
    EntryDone s (completeEntry s e result attempts rx) e result attempts := by
  rw [completeEntry_eq]
  have hanswered := entryAnswered_fspKept (entryOver s e result attempts) e result attempts rx
  have hflash : (afterFlash s e attempts).fsp.entries = s.fsp.entries ∧ (afterFlash s e attempts).fsp.fails = s.fsp.fails
      ∧ (afterFlash s e attempts).fsp.protBlocks = s.fsp.protBlocks := by
    unfold afterFlash
    split <;> exact ⟨rfl, rfl, rfl⟩
  have hover : (entryOver s e result attempts).fsp = { (afterFlash s e attempts).fsp with
      entries := (afterFlash s e attempts).fsp.entries.inc
      fails := if result == eOk then (afterFlash s e attempts).fsp.fails else (afterFlash s e attempts).fsp.fails.inc } := by
    simp [entryOver, State.modFsp]
  generalize hu : entryAnswered (entryOver s e result attempts) e result attempts rx = u at hanswered ⊢
  have hbus := releaseIfDue_busKept (u.modFsp fun f =>
    { f with entry := none, cmdRing := f.cmdRingNext.getD f.cmdRing, respRing := f.respRingNext.getD f.respRing
             cmdRingNext := none, respRingNext := none })
  rw [FspKept, hover] at hanswered
  refine ⟨hbus.entry, hbus.entries.trans ?_, hbus.fails.trans ?_, hbus.protBlocks.trans ?_, hbus.busyPend.trans ?_, ?_, fun hquiet => ?_⟩
  · change u.fsp.entries = _
    rw [hanswered, ← hflash.1]
  · change u.fsp.fails = _
    rw [hanswered, ← hflash.2.1]
  · change u.fsp.protBlocks = _
    rw [hanswered, ← hflash.2.2]
  · change u.fsp.busyPend = _
    rw [hanswered]
  · rw [← hu]
    simp [entryAnswered, entryOver]
  · have hyields : Yields s (entryOver s e result attempts) :=
      ((Yields.of_quiet hquiet).of_sources (u := afterFlash s e attempts) (.of_hamper (by simp)) (by simp) (by simp)).of_sources
        (u := removeEntry (afterFlash s e attempts)) (removeEntry_sourcesKept _) (by simp) (by simp) |>.of_parts rfl rfl rfl rfl
    have hwritten := writeResponse_yields hquiet hyields e.resp (responseRecs e result attempts (entryOver s e result attempts).clk.tbc rx)
    have hch : u.ch = s.ch := by
      rw [← hu, entryAnswered]
      split
      · exact hwritten.ch
      · exact Eq.trans (by simp) hwritten.ch
    exact Eq.trans (by simp) hch

/-- An entry that went onto the bus and alters the flash leaves it busy and the prefetch buffer empty (R551, R553). -/
theorem EntryDone.alters {s t : State} {e : Entry} {result : Byte} {attempts : Nat} (h : EntryDone s t e result attempts)
    (hflash : changesFlash s.fsp e = true) (hsent : attempts ≠ 0) : t.fsp.busyPend = true ∧ t.xip.lines = [] := by
  have hafter : afterFlash s e attempts = s.flashWritten := if_pos (by simp [hflash, hsent])
  rw [h.busyPend, h.xip, hafter]
  exact ⟨rfl, rfl⟩

/-- Taking an entry and what is told of it leave the port as quiet. -/
theorem PortQuiet.modFsp {s : State} (h : PortQuiet s) {f : Fsp → Fsp} (response : (f s.fsp).response = s.fsp.response)
    (ring : (f s.fsp).respRing = s.fsp.respRing) : PortQuiet (s.modFsp f) := h.of_parts rfl rfl rfl response ring

/-- A blocked entry (R552). -/
theorem blockEntry_done (s : State) (e : Entry) (op : Byte) : (blockEntry s e op).fsp.entry = none
    ∧ (blockEntry s e op).fsp.protBlocks = s.fsp.protBlocks.inc ∧ (blockEntry s e op).fsp.entries = s.fsp.entries.inc
    ∧ (blockEntry s e op).fsp.fails = s.fsp.fails.inc ∧ (blockEntry s e op).fsp.busyPend = s.fsp.busyPend
    ∧ (PortQuiet s → (blockEntry s e op).ch = s.ch) := by
  unfold blockEntry
  extract_lets counted toldBefore told
  have hfsp : told.fsp = counted.fsp := by
    simp only [told]
    split <;> simp
  have hquiet : PortQuiet s → PortQuiet told := fun h => by
    have hcounted : PortQuiet counted := h.modFsp rfl rfl
    refine hcounted.of_parts ?_ ?_ ?_ (by rw [hfsp]) (by rw [hfsp])
    all_goals
      simp only [told]
      split <;> simp
  have hch : told.ch = s.ch := by
    simp only [told]
    split <;> simp [counted]
  have hdone := completeEntry_done told e eReadOnly 0 []
  have hunsent : afterFlash told e 0 = told := if_neg (by simp)
  refine ⟨hdone.entry, hdone.protBlocks.trans (by rw [hfsp]; rfl), hdone.entries.trans (by rw [hfsp]; rfl), hdone.fails.trans ?_,
    hdone.busyPend.trans (by rw [hunsent, hfsp]; rfl), fun h => (hdone.ch (hquiet h)).trans hch⟩
  rw [if_neg (by decide), hfsp]
  rfl

/-! ### The attempts of an entry (R535, R540, R542, R544) -/

theorem sendAssertions_emit (s : State) (c : Fin 4) (l : List (List Byte)) :
    (sendAssertions s c l).emit = (l.reverse.map fun a => Emission.fsp c a) ++ s.emit := by
  induction l generalizing s with
  | nil => rfl
  | cons a l ih =>
    rw [sendAssertions, ih]
    simp [State.send]

theorem attempt_fsp (s : State) (e : Entry) :
    (attempt s e).fsp = { s.fsp with entry := some { e with frdyWait := e.cfg.frdyEn, word := 0 } } := by
  unfold attempt
  dsimp only
  split
  · rfl
  · simp [State.modFsp]

theorem attempt_entry (s : State) (e : Entry) : (attempt s e).fsp.entry = some { e with frdyWait := e.cfg.frdyEn, word := 0 } := by
  rw [attempt_fsp]

theorem attempt_counts (s : State) (e : Entry) :
    (attempt s e).fsp.retries = s.fsp.retries ∧ (attempt s e).fsp.entries = s.fsp.entries := by
  rw [attempt_fsp]
  exact ⟨rfl, rfl⟩

theorem attempt_emit (s : State) (e : Entry) : (attempt s e).emit =
    if e.cfg.frdyEn then s.emit else (e.assertions.reverse.map fun a => Emission.fsp e.sel a) ++ s.emit := by
  unfold attempt
  dsimp only
  split
  · rfl
  · exact sendAssertions_emit ..

section
variable {s : State} {e : Entry} {why : AttemptFail}

/-- Another attempt (R544). -/
theorem attemptFailed_repeats (hretries : e.attempts < 1 + e.retries) (hbudget : e.elapsed + e.cfg.inter + e.cycles ≤ 30000) :
    attemptFailed s e why = attempt (s.modFsp fun f => { f with retries := f.retries.inc })
      { e with attempts := e.attempts + 1, elapsed := e.elapsed + e.cfg.inter } := if_pos (by simp [hretries, hbudget])

theorem attemptFailed_ends (hlast : 1 + e.retries ≤ e.attempts) :
    attemptFailed s e why = completeEntry s e (failCode why) e.attempts [] := if_neg (by simp [Nat.not_lt.mpr hlast])

theorem failCode_ne_ok : failCode why ≠ eOk := by cases why <;> decide

end

section
variable {s : State} {e : Entry} (hentry : s.fsp.entry = some e)
include hentry

theorem exec_frdyTimeout_of_waiting (hclk : s.clk.pllLock = true) (hwait : e.frdyWait = true) : exec .frdyTimeout s =
    .next (attemptFailed (cutWord s e) { e with elapsed := e.waitedFrom s.now +
      (if e.attempts = 1 then 120 * e.cfg.frdyTmo else Nat.min (120 * e.cfg.frdyTmo) (30000 - e.elapsed)) + e.cfg.lag } .frdy) := by
  change execFrdyTimeout s = _
  unfold execFrdyTimeout
  simp only [hentry]
  exact if_pos (by simp [State.clocksRun, hclk, hwait])

theorem exec_fspAttemptFail_crc (hclk : s.clk.pllLock = true) (hcrc : e.crcRx = true) (hwait : e.frdyWait = false) (k : Nat) :
    exec (.fspAttemptFail .crc k) s = .next (attemptFailed s { e with elapsed := k } .crc) := by
  change execFspAttemptFail .crc k s = _
  unfold execFspAttemptFail
  simp only [hentry, hcrc, hwait, State.clocksRun, hclk, Bool.not_false, Bool.and_self, if_true]

theorem exec_cmdqEntryComplete_of_echoed (hclk : s.clk.pllLock = true) (hwait : e.frdyWait = false) {rx : List Byte}
    (hecho : e.echoed rx = true) : exec (.cmdqEntryComplete rx) s = .next (completeEntry s e eOk e.attempts (e.captured rx)) := by
  change execCmdqEntryComplete rx s = _
  unfold execCmdqEntryComplete
  simp only [hentry, hwait, State.clocksRun, hclk, hecho, Bool.not_true, Bool.or_self, Bool.false_eq_true, if_false]

theorem exec_frdyReady_of_waiting (hclk : s.clk.pllLock = true) (hwait : e.frdyWait = true) : exec .frdyReady s = .next (clockWord s e) := by
  change execFrdyReady s = _
  unfold execFrdyReady
  simp only [hentry, State.clocksRun, hclk, hwait, Bool.and_self, if_true]

end

/-- The word that FRDY lets go (R534, R542). -/
theorem clockWord_spec (s : State) (e : Entry) :
    (clockWord s e).fsp = { s.fsp with entry := some { e with frdyWait := decide (e.word + 1 < e.words.length), word := e.word + 1 } }
    ∧ (e.hold = false → (clockWord s e).emit = .fsp e.sel (e.words[e.word]?.getD []) :: s.emit)
    ∧ (e.hold = true → e.words.length ≤ e.word + 1 → (clockWord s e).emit = .fsp e.sel e.sent :: s.emit)
    ∧ (e.hold = true → e.word + 1 < e.words.length → (clockWord s e).emit = s.emit)
    ∧ clockWord s e = { s with fsp := (clockWord s e).fsp, emit := (clockWord s e).emit } := by
  have hmore : (!decide (e.words.length ≤ e.word + 1)) = decide (e.word + 1 < e.words.length) := by
    rw [← decide_not, decide_eq_decide]
    exact Nat.not_le
  unfold clockWord
  simp only [hmore]
  cases hhold : e.hold with
  | false =>
    refine ⟨rfl, fun _ => rfl, fun h => absurd h (by decide), fun h => absurd h (by decide), rfl⟩
  | true =>
    by_cases hlast : e.words.length ≤ e.word + 1
    · simp only [hlast, decide_true, Bool.not_true, Bool.false_eq_true, if_false, if_true]
      exact ⟨rfl, fun h => absurd h (by decide), fun _ _ => rfl, fun _ h => absurd hlast (Nat.not_le.mpr h), rfl⟩
    · simp only [hlast, decide_false, Bool.not_true, Bool.false_eq_true, if_false]
      exact ⟨rfl, fun h => absurd h (by decide), fun _ h => h.elim, fun _ _ => rfl, rfl⟩

/-! ### CMDQ_ENTRY (R536 to R540) -/

/-- FSS0 leaves continuous read before its entry. -/
def exitFor (s : State) (c : Fin 4) : State := if c = 0 then sendExit s else s

theorem exitFor_busKept (s : State) (c : Fin 4) : BusKept s.fsp (exitFor s c).fsp := by
  unfold exitFor
  split
  · exact sendExit_busKept s
  · exact ⟨rfl, rfl, rfl, rfl, rfl, rfl⟩

theorem exitFor_kept (s : State) (c : Fin 4) : (exitFor s c).hamper = s.hamper ∧ (exitFor s c).ch = s.ch := by
  unfold exitFor
  split <;> simp

/-- Where nothing is to be left, nothing is sent. -/
theorem exitFor_of_settled {s : State} {c : Fin 4} (h : s.fsp.contRead = false ∨ c ≠ 0) : exitFor s c = s := by
  unfold exitFor
  split
  next hc => exact if_neg (by simp [h.resolve_right (not_not_intro hc)])
  · rfl

section
variable {s : State} {r : Ring} {x : Rec} {rest : List Rec} (hmay : cmdqMay s = true) (htest : s.badger.testActive = false)
  (hring : fspRing s s.fsp.cmdRing (·.consumer) = some r) (hgap : r.headGap = 0) (hrecs : r.recs = x :: rest) (hmark : x.mark = false)
  (hbad : x.bad = false)
include hmay htest hring hgap hrecs hmark hbad

theorem exec_cmdqEntry_illegal (hparse : parseEntry ((headBundle r.recs).map (·.bytes)) = none)
    (hfits : responseFits s (illegalEntry x.bytes) = true) : exec .cmdqEntry s =
    .next (completeEntry (s.modFsp fun f => { f with cmdServed := true }) (illegalEntry x.bytes) eRange 0 []) := by
  change execCmdqEntry s = _
  unfold execCmdqEntry
  simp only [hmay, Bool.not_true, Bool.false_eq_true, if_false, checkDesc_of_noTest htest, hring, hgap, bne_self_eq_false]
  rw [hrecs] at hparse ⊢
  simp only [hmark, hbad, Bool.false_eq_true, if_false, hparse, hfits, if_true]

variable {e : Entry} (hparse : parseEntry ((headBundle r.recs).map (·.bytes)) = some e)
  (hfits : responseFits s { e with cfg := s.fsp.selCfg e.sel, began := s.now } = true)
include hparse hfits

theorem exec_cmdqEntry_blocked {op : Byte} (hblocked : blockedBy s.fsp { e with cfg := s.fsp.selCfg e.sel, began := s.now } = some op) :
    exec .cmdqEntry s = .next (blockEntry (s.modFsp fun f => { f with cmdServed := true })
      { e with cfg := s.fsp.selCfg e.sel, began := s.now } op) := by
  have hblocked' : blockedBy (s.modFsp fun f => { f with cmdServed := true }).fsp { e with cfg := s.fsp.selCfg e.sel, began := s.now } =
    some op := hblocked
  change execCmdqEntry s = _
  unfold execCmdqEntry
  simp only [hmay, Bool.not_true, Bool.false_eq_true, if_false, checkDesc_of_noTest htest, hring, hgap, bne_self_eq_false]
  rw [hrecs] at hparse ⊢
  simp only [hmark, hbad, Bool.false_eq_true, if_false, hparse, hfits, Bool.not_true, hblocked']

theorem exec_cmdqEntry_runs (hblocked : blockedBy s.fsp { e with cfg := s.fsp.selCfg e.sel, began := s.now } = none) :
    exec .cmdqEntry s = .next (attempt
      ((exitFor (s.modFsp fun f => { f with cmdServed := true }) e.sel).modFsp
        fun f => { f with sckHigh := decide (2 ≤ (s.fsp.selCfg e.sel).mode) })
      { e with cfg := s.fsp.selCfg e.sel, began := s.now }) := by
  have hblocked' : blockedBy (s.modFsp fun f => { f with cmdServed := true }).fsp { e with cfg := s.fsp.selCfg e.sel, began := s.now } =
    none := hblocked
  change execCmdqEntry s = _
  unfold execCmdqEntry
  simp only [hmay, Bool.not_true, Bool.false_eq_true, if_false, checkDesc_of_noTest htest, hring, hgap, bne_self_eq_false]
  rw [hrecs] at hparse ⊢
  simp only [hmark, hbad, Bool.false_eq_true, if_false, hparse, hfits, Bool.not_true, hblocked', exitFor]

end

theorem exec_cmdqEntry_of_not_may {s : State} (h : cmdqMay s = false) : exec .cmdqEntry s = .next s := by
  change execCmdqEntry s = _
  exact if_pos (by rw [h]; rfl)

/-- Nothing waits for FRDY. -/
theorem exec_frdy_of_not_waiting {s : State} {e : Entry} (hentry : s.fsp.entry = some e) (hwait : e.frdyWait = false) :
    exec .frdyReady s = .next s ∧ exec .frdyTimeout s = .next s ∧ ∀ k, exec (.fspAttemptFail .frdy k) s = .next s := by
  refine ⟨?_, ?_, fun k => ?_⟩
  · change execFrdyReady s = _
    simp only [execFrdyReady, hentry, hwait, Bool.and_false, Bool.false_eq_true, if_false]
  · change execFrdyTimeout s = _
    simp only [execFrdyTimeout, hentry, hwait, Bool.and_false, Bool.false_eq_true, if_false]
  · change execFspAttemptFail .frdy k s = _
    simp only [execFspAttemptFail, hentry, hwait, Bool.and_false, Bool.false_eq_true, if_false]

theorem EntryDone.failed {s t : State} {e : Entry} {result : Byte} {attempts : Nat} (h : EntryDone s t e result attempts)
    (hresult : result ≠ eOk) : t.fsp.fails = s.fsp.fails.inc := h.fails.trans (if_neg (by simpa using hresult))

/-- Settles O37: every end of an entry is `completeEntry`, whose writes on the pool port leave the channels where only the FSP requests
it. -/
theorem commandRingEntries : Obligations.CommandRingEntries := by
  unfold Obligations.CommandRingEntries
  refine ⟨?_, ?_, ?_, fun s => exec_cmdqEntry_of_not_may, ?_, fun s e => exec_frdy_of_not_waiting, ?_, ?_, ?_, ?_, ?_⟩
  case refine_1 =>
    intro s r x rest e hmay htest hring hgap hrecs hmark hbad hparse
    dsimp only
    intro hfits hblocked
    refine ⟨_, exec_cmdqEntry_runs hmay htest hring hgap hrecs hmark hbad hparse hfits hblocked, ?_⟩
    have hbus := exitFor_busKept (s.modFsp fun f => { f with cmdServed := true }) e.sel
    obtain ⟨hhamper, hch⟩ := exitFor_kept (s.modFsp fun f => { f with cmdServed := true }) e.sel
    rw [attempt_fsp, attempt_emit]
    refine ⟨rfl, hbus.entries, hbus.cmdServed, rfl, Eq.trans (by simp) hhamper, Eq.trans (by simp) hch, fun hoff hexit => ?_, fun hon hexit => ?_⟩
    · have hsame : exitFor (s.modFsp fun f => { f with cmdServed := true }) e.sel = _ := exitFor_of_settled hexit
      rw [if_neg (by simp [hoff]), hsame]
      rfl
    · have hsame : exitFor (s.modFsp fun f => { f with cmdServed := true }) e.sel = _ := exitFor_of_settled hexit
      rw [if_pos hon, hsame]
      rfl
  case refine_2 =>
    intro s r x rest e op hmay htest hring hgap hrecs hmark hbad hparse hfits hblocked
    obtain ⟨hentry, hprot, hentries, hfails, hbusy, hch⟩ := blockEntry_done (s.modFsp fun f => { f with cmdServed := true })
      { e with cfg := s.fsp.selCfg e.sel, began := s.now } op
    exact ⟨_, exec_cmdqEntry_blocked hmay htest hring hgap hrecs hmark hbad hparse hfits hblocked, hentry, hprot, hentries, hfails, hbusy,
      fun h => hch (h.modFsp rfl rfl)⟩
  case refine_3 =>
    intro s r x rest hmay htest hring hgap hrecs hmark hbad hparse hfits
    have hdone := completeEntry_done (s.modFsp fun f => { f with cmdServed := true }) (illegalEntry x.bytes) eRange 0 []
    exact ⟨_, exec_cmdqEntry_illegal hmay htest hring hgap hrecs hmark hbad hparse hfits, hdone.entry, hdone.entries,
      hdone.failed (by decide), fun h => hdone.ch (h.modFsp rfl rfl)⟩
  case refine_4 =>
    intro s e hclk hentry hwait
    exact ⟨_, exec_frdyReady_of_waiting hentry hclk hwait, clockWord_spec s e⟩
  case refine_5 =>
    intro s e hclk hentry hwait hlast
    refine ⟨_, (exec_frdyTimeout_of_waiting hentry hclk hwait).trans (congrArg Host.Outcome.next (attemptFailed_ends hlast)), ?_⟩
    have hdone := completeEntry_done (cutWord s e) { e with elapsed := e.waitedFrom s.now +
      (if e.attempts = 1 then 120 * e.cfg.frdyTmo else Nat.min (120 * e.cfg.frdyTmo) (30000 - e.elapsed)) + e.cfg.lag }
      (failCode .frdy) e.attempts []
    exact ⟨hdone.entry, hdone.entries, hdone.failed failCode_ne_ok, fun h => hdone.ch (h.of_parts rfl rfl rfl rfl rfl)⟩
  case refine_6 =>
    intro s e hclk hentry hwait hretries
    dsimp only
    intro hbudget
    refine ⟨_, _, (exec_frdyTimeout_of_waiting hentry hclk hwait).trans (congrArg Host.Outcome.next (attemptFailed_repeats hretries hbudget)),
      attempt_entry .., rfl, rfl, rfl, rfl, (attempt_counts _ _).1, (attempt_counts _ _).2, ?_⟩
    simp [cutWord]
  case refine_7 =>
    intro s e k hclk hentry hcrc hwait hretries hbudget
    exact ⟨_, _, (exec_fspAttemptFail_crc hentry hclk hcrc hwait k).trans (congrArg Host.Outcome.next (attemptFailed_repeats hretries hbudget)),
      attempt_entry .., rfl, rfl, (attempt_counts _ _).1, (attempt_counts _ _).2⟩
  case refine_8 =>
    intro s e k hclk hentry hcrc hwait hlast
    have hdone := completeEntry_done s { e with elapsed := k } (failCode .crc) e.attempts []
    exact ⟨_, (exec_fspAttemptFail_crc hentry hclk hcrc hwait k).trans (congrArg Host.Outcome.next (attemptFailed_ends hlast)), hdone.entry,
      hdone.failed failCode_ne_ok⟩
  case refine_9 =>
    intro s e rx hclk hentry hwait hecho
    have hdone := completeEntry_done s e eOk e.attempts (e.captured rx)
    exact ⟨_, exec_cmdqEntryComplete_of_echoed hentry hclk hwait hecho, hdone.entry, hdone.entries, hdone.fails, hdone.ch, hdone.alters⟩

end Sys2Proof.Machine
end

section
/-! PROOFS. The engine's service (R259, R285, R286, R291, R404): each turn keeps the other channels and engines, and consumes its
channel's samples. -/

namespace Sys2Proof.Machine

/-! ### What a turn leaves alone -/

/-- A step of the service of channel n: the other channels and the other engines stay, and the peak load does not fall. -/
structure Serves (n : Ch) (s t : State) : Prop where
  others : OthersKept n s t
  engines : ∀ d, d ≠ n.engine → t.engine d = s.engine d
  peak : (s.engine n.engine).peakLoad ≤ (t.engine n.engine).peakLoad

namespace Serves

variable {n : Ch} {s t u : State}

theorem refl (n : Ch) (s : State) : Serves n s s := ⟨fun _ _ => rfl, fun _ _ => rfl, le_rfl⟩

theorem trans (h : Serves n s t) (h' : Serves n t u) : Serves n s u :=
  ⟨fun k hk => (h'.others k hk).trans (h.others k hk), fun d hd => (h'.engines d hd).trans (h.engines d hd), h.peak.trans h'.peak⟩

/-- Changes of the channel alone. -/
theorem of_eng (h : OthersKept n s t) (he : t.eng = s.eng) : Serves n s t :=
  ⟨h, fun d _ => State.engine_congr he d, by rw [State.engine_congr he]⟩

theorem modCh (s : State) (n : Ch) (f : Channel → Channel) : Serves n s (s.modCh n f) :=
  of_eng (fun k hk => State.chan_modCh_ne s n k f hk) rfl

theorem of_ch_eng (hc : t.ch = s.ch) (he : t.eng = s.eng) : Serves n s t := of_eng (fun k _ => State.chan_congr hc k) he

theorem modEng (s : State) (n : Ch) {f : Engine → Engine} (h : ∀ g, g.peakLoad ≤ (f g).peakLoad) :
    Serves n s (s.modEng n.engine f) :=
  ⟨fun _ _ => rfl, fun d hd => by simp [hd], by simpa using h _⟩

theorem ite {p : Prop} [Decidable p] (ht : Serves n s t) (hu : Serves n s u) : Serves n s (if p then t else u) := by
  split_ifs
  · exact ht
  · exact hu

end Serves

section
variable (s : State) (n : Ch)

theorem sendMsg_serves (src : BitVec 6) (kind : Byte) (base : Level) (detail : Nat) : Serves n s (sendMsg s src kind base detail) :=
  .of_ch_eng (by simp) (by simp)

theorem raiseEvent_serves (line : Fin 4) (cause detail : Nat) : Serves n s (raiseEvent s line cause detail) :=
  .of_ch_eng (by simp) (by simp)

theorem superviseTick_serves (x : Inputs) (flags : Byte) (ran : Bool) : Serves n s (superviseTick s n x flags ran) := by
  unfold superviseTick
  exact .modCh s n _

theorem feReport_serves : Serves n s (feReport s n) := by
  unfold feReport
  exact .ite (.trans (.modCh s n _) (sendMsg_serves ..)) (.refl n s)

theorem oscReport_serves : Serves n s (oscReport s n) := by
  unfold oscReport
  exact .ite (.trans (.modCh s n _) (sendMsg_serves ..)) (.refl n s)

theorem outerAct_serves : Serves n s (outerAct n s) := by
  unfold outerAct
  exact .trans (.modCh s n _) (.modEng _ n fun _ => le_rfl)

theorem served_serves (stop : Nat) : Serves n s (served s n.engine stop) := by
  unfold served
  exact .modEng s n fun g => Nat.le_max_left g.peakLoad stop

theorem closeSegment_serves : Serves n s (closeSegment s n) := by
  obtain ⟨k, hk⟩ := closeSegment_lostOnly s n
  refine .of_eng (fun m hm => ?_) (by simp)
  rw [hk, State.chan_modCh_ne _ _ _ _ hm, State.chan_modCh_ne _ _ _ _ hm]

theorem overrun_serves (x : Inputs) (flags : Byte) (start stop : Nat) : Serves n s (overrun s n x flags start stop) := by
  unfold overrun
  extract_lets third pushed watched
  have hwatched : Serves n s watched :=
    .trans (t := pushed) (.modCh s n _) (.trans (raiseEvent_serves pushed n evSeq 4 n.val) (superviseTick_serves _ n x flags false))
  exact .ite (hwatched.trans (.trans (feReport_serves watched n) (.trans (oscReport_serves _ n) (sendMsg_serves _ n ..)))) hwatched

variable {s n}

theorem occasional_serves {d : Nat} {due : Bool} {cost : Nat} {act : State → State} (h : ∀ s, Serves n s (act s))
    (x : State × Nat × Bool) : Serves n x.1 (occasional d due cost act x).1 := by
  unfold occasional
  split
  split_ifs
  · exact .refl n _
  · exact h _
  · exact .refl n _

end

/-! ### The samples are consumed -/

section
variable (s : State) (n : Ch)

theorem Channel.lacSample_fields (c : Channel) (bad : Bool) : (c.lacSample bad).loop = c.loop ∧ (c.lacSample bad).out = c.out := by
  unfold Channel.lacSample
  dsimp only
  split_ifs <;> exact ⟨rfl, rfl⟩

/-- The supervision of a tick consumes the samples; of the loop it can make a segment's end due beside, and nothing of the
outputs. -/
theorem superviseTick_chan (x : Inputs) (flags : Byte) (ran : Bool) :
    ∃ due, ((superviseTick s n x flags ran).chan n).loop = { (s.chan n).loop with sampled := false, tuneDue := due } ∧
      ((superviseTick s n x flags ran).chan n).out = (s.chan n).out := by
  unfold superviseTick
  extract_lets compl rsw sat
  rw [State.chan_modCh]
  extract_lets watched sampled
  obtain ⟨hloop, hout⟩ : sampled.loop = watched.loop ∧ sampled.out = watched.out := Channel.lacSample_fields ..
  split
  · split
    · exact ⟨sampled.loop.tuneDue || (sampled.tune.advance n compl sat x.meas x.measO).2, congrArg (fun l : LoopSt =>
        { l with tuneDue := sampled.loop.tuneDue || (sampled.tune.advance n compl sat x.meas x.measO).2 }) hloop, hout⟩
    · exact ⟨_, hloop, hout⟩
  · exact ⟨_, hloop, hout⟩

theorem feReport_chan : ((feReport s n).chan n).loop = (s.chan n).loop ∧ ((feReport s n).chan n).out = (s.chan n).out := by
  unfold feReport
  dsimp only
  split
  · simp only [sendMsg_chan, State.chan_modCh, and_self]
  · exact ⟨rfl, rfl⟩

theorem oscReport_chan : ((oscReport s n).chan n).loop = (s.chan n).loop ∧ ((oscReport s n).chan n).out = (s.chan n).out := by
  unfold oscReport
  dsimp only
  split
  · simp only [sendMsg_chan, State.chan_modCh, and_self]
  · exact ⟨rfl, rfl⟩

/-- The code presented again joins the queue last, whatever gave way. -/
theorem Channel.push_last (c : Channel) (code : Nat) : (c.push code).out.queue.getLast? = some code := by
  simp [Channel.push]

/-- An overrun consumes the samples and presents the last code again. -/
theorem overrun_chan (x : Inputs) (flags : Byte) (start stop : Nat) :
    ((overrun s n x flags start stop).chan n).loop.sampled = false ∧
    ((overrun s n x flags start stop).chan n).loop.ovrCount = (s.chan n).loop.ovrCount.inc ∧
    ((overrun s n x flags start stop).chan n).out.queue.getLast? = some (s.chan n).last.code := by
  unfold overrun
  extract_lets third pushed watched
  obtain ⟨due, hloop, hout⟩ := superviseTick_chan (raiseEvent pushed evSeq 4 n.val) n x flags false
  have hraised : (raiseEvent pushed evSeq 4 n.val).chan n = pushed.chan n := State.chan_congr (by simp only [raiseEvent_frame]) n
  have hpushed : pushed.chan n = _ := State.chan_modCh s n _
  rw [hraised, hpushed] at hloop hout
  have hwatched : (watched.chan n).loop.sampled = false ∧ (watched.chan n).loop.ovrCount = (s.chan n).loop.ovrCount.inc ∧
      (watched.chan n).out.queue.getLast? = some (s.chan n).last.code := by
    rw [hloop, hout]
    exact ⟨rfl, rfl, Channel.push_last ..⟩
  split
  · obtain ⟨hfeLoop, hfeOut⟩ := feReport_chan watched n
    obtain ⟨hoscLoop, hoscOut⟩ := oscReport_chan (feReport watched n) n
    rw [sendMsg_chan, hoscLoop, hoscOut, hfeLoop, hfeOut]
    exact hwatched
  · exact hwatched

end

/-! ### A channel's turn, in parts (R259, R291, R404) -/

/-- The occasional steps that precede the inner run. -/
def stepsMade (s : State) (n : Ch) (cyc : Nat) : State × Nat × Bool :=
  occasional (deadlineOf s n) (s.chan n).loop.tuneDue 40 (fun s => closeSegment s n)
    (occasional (deadlineOf s n) (s.chan n).loop.lacDue 64 (fun t => t.modCh n fun c => c.lacUpdate (s.engine n.engine).nActive)
      (occasional (deadlineOf s n) (s.chan n).outerNow ((s.chan n).actProg.outerWcet + 24) (outerAct n)
        (s, cyc + (s.chan n).loop.extra, false)))

/-- Slots that another program has left are cleared. -/
def slotsReady (s : State) (n : Ch) : State :=
  s.modCh n fun c => if c.loop.lastProg != 0 && c.loop.lastProg != c.innerProg then c.clearSlots else c

/-- The inner run ends at cycle `stop`. -/
def runEnded (s : State) (n : Ch) (cyc stop : Nat) : State :=
  let c := s.chan n
  let inp := innerInputs s c
  let r := innerRun s c
  let s := s.modCh n fun c =>
    let c := c.finishInner inp r
    { c with loop := { c.loop with lastCycles := stop - cyc, lastStart := cyc } }
  let s := s.modEng n.engine fun g => { g with run := { r with odd := n.val % 2 == 1, outer := false } }
  served (superviseTick s n inp (c.runFlags c.loop.first c.loop.outerRan false) true) n.engine stop

/-- The deadline stops it. -/
def runStopped (s : State) (n : Ch) (cyc d : Nat) : State :=
  served (overrun s n (innerInputs s (s.chan n)) ((s.chan n).runFlags (s.chan n).loop.first (s.chan n).loop.outerRan false) cyc d) n.engine d

/-- The inner run of a channel whose steps have ended at cycle `at_`. -/
def runMade (s : State) (n : Ch) (cyc d at_ : Nat) (late : Bool) : State × Nat :=
  if late || d < at_ + 10 + (innerRun s (s.chan n)).cycles then (runStopped s n cyc d, d)
  else (runEnded s n cyc (at_ + 10 + (innerRun s (s.chan n)).cycles), at_ + 10 + (innerRun s (s.chan n)).cycles)

/-- The last code presented again while the output holds (R404). -/
def heldAgain (s : State) (n : Ch) : State :=
  superviseTick (s.modCh n fun c => ({ c with loop := { c.loop with sat := false } } : Channel).push c.last.code) n
    (innerInputs (s.modCh n fun c => ({ c with loop := { c.loop with sat := false } } : Channel).push c.last.code) (s.chan n))
    ((s.chan n).runFlags (s.chan n).loop.first false false) false

section
variable {s : State} {n : Ch}

theorem serveChannel_of_held (h : (s.chan n).out.holdTick = true) (cyc : Nat) : serveChannel s n cyc = (heldAgain s n, cyc) := if_pos h

theorem serveChannel_of_running (h : (s.chan n).out.holdTick = false) (cyc : Nat) : serveChannel s n cyc =
    runMade (slotsReady (stepsMade s n cyc).1 n) n cyc (deadlineOf s n) (stepsMade s n cyc).2.1 (stepsMade s n cyc).2.2 :=
  if_neg (by simp [h])

end

/-- A turn of channel n that consumes its samples. -/
structure Turn (n : Ch) (s t : State) : Prop where
  serves : Serves n s t
  consumed : (t.chan n).loop.sampled = false

theorem served_chan (s : State) (e : Eng) (stop : Nat) (n : Ch) : (served s e stop).chan n = s.chan n := rfl

section
variable (s : State) (n : Ch)

theorem stepsMade_serves (cyc : Nat) : Serves n s (stepsMade s n cyc).1 := by
  have houter := occasional_serves (d := deadlineOf s n) (due := (s.chan n).outerNow) (cost := (s.chan n).actProg.outerWcet + 24)
    (fun s => outerAct_serves s n) (s, cyc + (s.chan n).loop.extra, false)
  unfold stepsMade
  exact houter.trans (.trans (occasional_serves (fun s => .modCh s n _) _) (occasional_serves (fun s => closeSegment_serves s n) _))

theorem runStopped_turn (cyc d : Nat) : Turn n s (runStopped s n cyc d) :=
  ⟨.trans (overrun_serves s n _ _ _ _) (served_serves _ n d), (overrun_chan s n _ _ _ _).1⟩

theorem runEnded_turn (cyc stop : Nat) : Turn n s (runEnded s n cyc stop) := by
  unfold runEnded
  extract_lets c inp r finished kept
  have hkept : Serves n finished kept := .modEng finished n fun _ => le_rfl
  refine ⟨.trans (t := finished) (.modCh s n _) (hkept.trans (
    .trans (superviseTick_serves kept n inp (c.runFlags c.loop.first c.loop.outerRan false) true) (served_serves _ n stop))), ?_⟩
  obtain ⟨due, hloop, -⟩ := superviseTick_chan kept n inp (c.runFlags c.loop.first c.loop.outerRan false) true
  rw [served_chan, hloop]

theorem runMade_turn (cyc d at_ : Nat) (late : Bool) : Turn n s (runMade s n cyc d at_ late).1 := by
  unfold runMade
  split
  · exact runStopped_turn s n cyc d
  · exact runEnded_turn s n cyc _

theorem heldAgain_turn : Turn n s (heldAgain s n) := by
  refine ⟨.trans (.modCh s n _) (superviseTick_serves _ n _ _ _), ?_⟩
  obtain ⟨due, hloop, -⟩ := superviseTick_chan (s.modCh n fun c => ({ c with loop := { c.loop with sat := false } } : Channel).push c.last.code) n
    (innerInputs (s.modCh n fun c => ({ c with loop := { c.loop with sat := false } } : Channel).push c.last.code) (s.chan n))
    ((s.chan n).runFlags (s.chan n).loop.first false false) false
  rw [heldAgain, hloop]

/-- Whatever a turn does, it consumes its channel's samples and nothing of another channel or engine. -/
theorem serveChannel_turn (cyc : Nat) : Turn n s (serveChannel s n cyc).1 := by
  cases hheld : (s.chan n).out.holdTick with
  | true =>
    rw [serveChannel_of_held hheld]
    exact heldAgain_turn s n
  | false =>
    rw [serveChannel_of_running hheld]
    obtain ⟨hserves, hconsumed⟩ := runMade_turn (slotsReady (stepsMade s n cyc).1 n) n cyc (deadlineOf s n) (stepsMade s n cyc).2.1
      (stepsMade s n cyc).2.2
    exact ⟨.trans (stepsMade_serves s n cyc) (.trans (.modCh _ n _) hserves), hconsumed⟩

end

end Sys2Proof.Machine
end

section
/-! PROOFS. The order of a pair's service, and the commands on one channel's run, programs and notch bank (R259, R285, R286, R291,
R270 to R277). -/

namespace Sys2Proof.Machine

/-! ### The pair of an engine (R259) -/

theorem engine_slot0 (e : Eng) : e.slot0.engine = e := Fin.ext (by simp [Eng.slot0, Ch.engine])

theorem engine_slot1 (e : Eng) : e.slot1.engine = e := Fin.ext (by simp [Eng.slot1, Ch.engine]; omega)

theorem slot0_ne_slot1 (e : Eng) : e.slot0 ≠ e.slot1 := fun h => by
  have hval := congrArg Fin.val h
  simp [Eng.slot0, Eng.slot1] at hval

/-- Two channels of one engine. -/
structure Pair (e : Eng) (n m : Ch) : Prop where
  ne : n ≠ m
  first : n.engine = e
  second : m.engine = e

theorem pair_of_slots {e : Eng} {n m : Ch} (h : (n = e.slot0 ∧ m = e.slot1) ∨ (n = e.slot1 ∧ m = e.slot0)) : Pair e n m := by
  rcases h with ⟨rfl, rfl⟩ | ⟨rfl, rfl⟩
  · exact ⟨slot0_ne_slot1 e, engine_slot0 e, engine_slot1 e⟩
  · exact ⟨(slot0_ne_slot1 e).symm, engine_slot1 e, engine_slot0 e⟩

/-- The cycle at which an engine's service begins. -/
def serviceStart (s : State) (e : Eng) : Nat := Nat.max 84 (s.engine e).cycle

theorem serveTurn_of_awaits {n : Ch} {x : State × Nat} (h : (x.1.chan n).awaits = true) : serveTurn n x = serveChannel x.1 n x.2 := if_pos h

theorem serveTurn_of_idle {n : Ch} {x : State × Nat} (h : (x.1.chan n).loop.sampled = false) : serveTurn n x = x := by
  simp [serveTurn, Channel.awaits, h]

theorem exec_engineService {s : State} (hclk : s.clk.pllLock = true) (e : Eng) : exec (.engineService e) s = .next (engineService s e) :=
  congrArg Host.Outcome.next (if_pos hclk)

theorem engineService_of_idle {s : State} {e : Eng} (h0 : (s.chan e.slot0).loop.sampled = false)
    (h1 : (s.chan e.slot1).loop.sampled = false) : engineService s e = s := by
  simp [engineService, serveTurn_of_idle, h0, h1]

/-- One of the two waits: it is served, whichever goes first. -/
theorem engineService_of_one {s : State} {e : Eng} {n m : Ch} (hpair : (n = e.slot0 ∧ m = e.slot1) ∨ (n = e.slot1 ∧ m = e.slot0))
    (hn : (s.chan n).awaits = true) (hm : (s.chan m).loop.sampled = false) :
    engineService s e = (serveChannel s n (serviceStart s e)).1 := by
  have hfirst : serveTurn m (serveTurn n (s, serviceStart s e)) = serveChannel s n (serviceStart s e) := by
    rw [serveTurn_of_awaits (x := (s, serviceStart s e)) hn]
    refine serveTurn_of_idle ?_
    rw [(serveChannel_turn s n (serviceStart s e)).serves.others m (pair_of_slots hpair).ne.symm]
    exact hm
  have hsecond : serveTurn n (serveTurn m (s, serviceStart s e)) = serveChannel s n (serviceStart s e) := by
    rw [serveTurn_of_idle (x := (s, serviceStart s e)) hm]
    exact serveTurn_of_awaits (x := (s, serviceStart s e)) hn
  unfold engineService
  rcases hpair with ⟨rfl, rfl⟩ | ⟨rfl, rfl⟩
  · split
    · exact congrArg Prod.fst hsecond
    · exact congrArg Prod.fst hfirst
  · split
    · exact congrArg Prod.fst hfirst
    · exact congrArg Prod.fst hsecond

/-- Channel n of engine e served alone. -/
theorem engineService_one {s : State} {e : Eng} {n m : Ch} (hclk : s.clk.pllLock = true)
    (hpair : (n = e.slot0 ∧ m = e.slot1) ∨ (n = e.slot1 ∧ m = e.slot0)) (hn : (s.chan n).awaits = true)
    (hm : (s.chan m).loop.sampled = false) : ∃ t, exec (.engineService e) s = .next t ∧ (t.chan n).loop.sampled = false
      ∧ OthersKept n s t ∧ (∀ d, d ≠ e → t.engine d = s.engine d) ∧ (s.engine e).peakLoad ≤ (t.engine e).peakLoad := by
  obtain ⟨⟨hothers, hengines, hpeak⟩, hconsumed⟩ := serveChannel_turn s n (serviceStart s e)
  rw [(pair_of_slots hpair).first] at hengines hpeak
  exact ⟨_, (exec_engineService hclk e).trans (congrArg Host.Outcome.next (engineService_of_one hpair hn hm)), hconsumed, hothers,
    hengines, hpeak⟩

/-- Both wait: a is served, then b from where a has ended. -/
theorem serveTurn_both {s : State} {e : Eng} {a b : Ch} (hpair : Pair e a b) (ha : (s.chan a).awaits = true) (hb : (s.chan b).awaits = true)
    {cyc : Nat} {t : State} (ht : t = (serveTurn b (serveTurn a (s, cyc))).1) :
    let u := serveChannel s a cyc
    t = (serveChannel u.1 b u.2).1 ∧ u.1.chan b = s.chan b ∧ (t.chan a).out = (u.1.chan a).out ∧ (t.chan a).loop.sampled = false
      ∧ (t.chan b).loop.sampled = false ∧ (∀ m, m ≠ a → m ≠ b → t.chan m = s.chan m) ∧ (∀ d, d ≠ e → t.engine d = s.engine d) := by
  obtain ⟨hne, hfirst, hsecond⟩ := hpair
  extract_lets u
  obtain ⟨hserves, hconsumed⟩ : Turn a s u.1 := serveChannel_turn s a cyc
  obtain ⟨hserves', hconsumed'⟩ : Turn b u.1 (serveChannel u.1 b u.2).1 := serveChannel_turn u.1 b u.2
  have hkept : u.1.chan b = s.chan b := hserves.others b hne.symm
  have hserved : t = (serveChannel u.1 b u.2).1 := by
    rw [ht, serveTurn_of_awaits (x := (s, cyc)) ha, serveTurn_of_awaits (by rw [hkept]; exact hb)]
  have hout : t.chan a = u.1.chan a := by rw [hserved, hserves'.others a hne]
  refine ⟨hserved, hkept, by rw [hout], by rw [hout, hconsumed], by rw [hserved, hconsumed'], fun m hma hmb => ?_, fun d hd => ?_⟩
  · rw [hserved, hserves'.others m hmb, hserves.others m hma]
  · rw [hserved, hserves'.engines d (hsecond ▸ hd), hserves.engines d (hfirst ▸ hd)]

theorem oddFirst_iff {s : State} {e : Eng} : oddFirst s e = true ↔ deadlineOf s e.slot1 < deadlineOf s e.slot0 ∨
    (deadlineOf s e.slot1 = deadlineOf s e.slot0 ∧ (s.chan e.slot1).stepsDue < (s.chan e.slot0).stepsDue) := by
  simp only [oddFirst, Bool.or_eq_true, Bool.and_eq_true, decide_eq_true_eq, beq_iff_eq]
  exact or_congr_right (and_congr_left' eq_comm)

/-! ### The code of a run (R264, R269, R281) -/

theorem finishInner_spec (c : Channel) (x : Inputs) (r : Run) : (c.finishInner x r).loop.first = false ∧
    (c.finishInner x r).out.queue.getLast? =
      some (clampInt 0 262143 ((if c.loop.first then (c.last.code : Int) else c.codeOfDrive r.out) + c.lacInject)).toNat := by
  unfold Channel.finishInner
  split
  exact ⟨rfl, Channel.push_last ..⟩

section
variable {s : State} {n : Ch} {cyc : Nat}

/-- With no occasional step due the inner run begins where the outer steps before it have ended. -/
theorem stepsMade_of_none (houter : (s.chan n).outerNow = false) (hlac : (s.chan n).loop.lacDue = false)
    (htune : (s.chan n).loop.tuneDue = false) : stepsMade s n cyc = (s, cyc + (s.chan n).loop.extra, false) := by
  simp [stepsMade, occasional, houter, hlac, htune]

theorem slotsReady_of_same (h : (s.chan n).loop.lastProg = 0 ∨ (s.chan n).loop.lastProg = (s.chan n).innerProg) : slotsReady s n = s := by
  refine State.modCh_of_fixed (if_neg ?_)
  rcases h with hnone | hsame
  · simp [hnone]
  · simp [hsame]

/-- A service with nothing due but the run itself. -/
theorem serveChannel_plain (h : PlainService s n cyc) :
    serveChannel s n cyc = (runEnded s n cyc (cyc + (s.chan n).loop.extra + 10 + (innerRun s (s.chan n)).cycles),
      cyc + (s.chan n).loop.extra + 10 + (innerRun s (s.chan n)).cycles) := by
  obtain ⟨-, hhold, houter, hlac, htune, hprog, hfits⟩ := h
  rw [serveChannel_of_running hhold, stepsMade_of_none houter hlac htune, slotsReady_of_same hprog]
  exact if_neg (by simpa using hfits)

theorem runEnded_chan (stop : Nat) : ((runEnded s n cyc stop).chan n).out.queue.getLast? = some (codeOfRun s n)
    ∧ ((runEnded s n cyc stop).chan n).loop.lastCycles = stop - cyc ∧ ((runEnded s n cyc stop).chan n).loop.first = false := by
  unfold runEnded
  extract_lets c inp r finished kept
  obtain ⟨due, hloop, hout⟩ := superviseTick_chan kept n inp (c.runFlags c.loop.first c.loop.outerRan false) true
  have hkept : kept.chan n = finished.chan n := rfl
  have hfinished : finished.chan n = _ := State.chan_modCh s n _
  obtain ⟨hfirst, hlast⟩ := finishInner_spec (s.chan n) inp r
  rw [served_chan, hloop, hout, hkept, hfinished]
  exact ⟨hlast, rfl, hfirst⟩

/-- A held output presents its last code again. -/
theorem heldAgain_last : ((heldAgain s n).chan n).out.queue.getLast? = some (s.chan n).last.code := by
  obtain ⟨due, -, hout⟩ := superviseTick_chan (s.modCh n fun c => ({ c with loop := { c.loop with sat := false } } : Channel).push c.last.code) n
    (innerInputs (s.modCh n fun c => ({ c with loop := { c.loop with sat := false } } : Channel).push c.last.code) (s.chan n))
    ((s.chan n).runFlags (s.chan n).loop.first false false) false
  rw [heldAgain, hout, State.chan_modCh]
  exact Channel.push_last ..

end

/-! ### Steps and deadlines on their own (R286, R291) -/

theorem outerAct_chan (s : State) (n : Ch) : (outerAct n s).chan n = (s.chan n).finishOuter (outerRun s (s.chan n)) := by
  unfold outerAct
  extract_lets c r
  exact State.chan_modCh s n fun c => c.finishOuter r

theorem finishOuter_loop (c : Channel) (r : Run) : (c.finishOuter r).loop.outerDue = false ∧ (c.finishOuter r).loop.outerRan = true
    ∧ (c.finishOuter r).loop.outerLeft = c.actProg.outerDiv ∧ (c.finishOuter r).loop.extra = c.loop.extra
    ∧ (c.finishOuter r).actProg = c.actProg := by
  unfold Channel.finishOuter
  extract_lets want
  split
  exact ⟨rfl, rfl, rfl, rfl, rfl⟩

/-! ### Programs and the notch bank (R270 to R277) -/

theorem setCh_of_running {s : State} (hclk : s.clk.pllLock = true) (n : Ch) (f : Channel → Channel) : s.setCh n f = s.modCh n f := by
  simp [State.setCh, State.clocksRun, hclk]

theorem loadObj_put {s : State} (hclk : s.clk.pllLock = true) {n : Ch} {main : Bool} {inUse : Channel → Bool} {sel : ProgSel → ProgSel}
    {set : Program → ProgSel → ProgSel} {w : W} {p : Program} (hp : decodeProgram main w.data = some p) :
    (loadObj n main inUse sel set).put w s = admitSet (s.modCh n fun c => { c with prog := set p c.prog }) n.engine := by
  rw [← setCh_of_running hclk]
  exact congrArg (fun o : Option Program => match o with
    | some p => admitSet (s.setCh n fun c => { c with prog := set p c.prog }) n.engine
    | none => s) hp

/-- A loaded program (R270, R271). -/
theorem perform_load {s : State} {r : Req} {data : List Byte} (hclk : s.clk.pllLock = true) {n : Ch} {main : Bool} {inUse : Channel → Bool}
    {sel : ProgSel → ProgSel} {set : Program → ProgSel → ProgSel} {p : Program} (h : (loadObj n main inUse sel set).Admits r tBlob data s)
    (hp : decodeProgram main data = some p) : ∃ t, perform (loadObj n main inUse sel set) r tBlob data s = t ∧ t.answer.code = eOk
      ∧ (t.chan n).prog = set p (s.chan n).prog ∧ (t.chan n).actProg = (s.chan n).actProg ∧ OthersKept n s t := by
  have hput := loadObj_put (w := ⟨r, data, s, s, s⟩) (inUse := inUse) (sel := sel) (set := set) (n := n) hclk hp
  have hch (m : Ch) : (admitSet (s.modCh n fun c => { c with prog := set p c.prog }) n.engine).chan m =
      (s.modCh n fun c => { c with prog := set p c.prog }).chan m := State.chan_congr (by simp) m
  refine ⟨_, perform_admitted h, rfl, ?_, ?_, fun m hm => ?_⟩
  · rw [hput, reply_chan, instructorCommand_chan, hch, State.chan_modCh]
  · rw [hput, reply_chan, instructorCommand_chan, hch, State.chan_modCh]
  · rw [hput, reply_chan, instructorCommand_chan, hch, State.chan_modCh_ne _ _ _ _ hm]

/-- The bank's coefficients of a notch, and whether its frequency is cut (R277). -/
def notchCut (per : Nat) (d : Notch) : Bool := (f64Val (notchTop per)).lt (f64Val (mul64 (f32To64 d.f) one64))

def notchDesign (per : Nat) (d : Notch) : List Word :=
  notchCoefs (if notchCut per d then notchTop per else mul64 (f32To64 d.f) one64) (f32To64 d.q) (f32To64 d.depth) (period64 per)

/-- A channel with notch setting d in bank r, its coefficients designed anew. -/
def Channel.withNotch (c : Channel) (per : Nat) (r : Nat) (d : Notch) : Channel :=
  let c : Channel := { c with notch := c.notch.setIfInBounds r d }
  let b := c.lacBank r
  let c := (c.setLacBank r { b with fB := f32To64 d.f, fF := one64 }).designBank per r
  if c.lac.state == .adapting then { c with lac := c.lac.discard } else c

theorem Channel.designBank_design {c : Channel} {per : Nat} {bank : Fin 4} (hf : (c.lac.banks[bank.val]).fF = one64) :
    (c.designBank per bank.val).notch[bank.val] = { c.notch[bank.val] with state := bNat (notchCut per c.notch[bank.val]) } ∧
    (c.designBank per bank.val).coefs.banks[bank.val] = putSlots c.coefs.banks[bank.val] 3 (notchDesign per c.notch[bank.val]) := by
  refine ⟨by simp [Channel.designBank, notchCut, hf], ?_⟩
  simp only [Channel.designBank, hf, Vector.getElem?_eq_getElem bank.isLt, Option.getD_some]
  exact Vector.getElem_setIfInBounds_self ..

theorem Channel.withNotch_design (c : Channel) (per : Nat) (bank : Fin 4) (d : Notch) :
    (c.withNotch per bank.val d).notch[bank.val] = { d with state := bNat (notchCut per d) } ∧
    (c.withNotch per bank.val d).coefs.banks[bank.val] = putSlots c.coefs.banks[bank.val] 3 (notchDesign per d) := by
  unfold Channel.withNotch
  extract_lets kept b designed
  have hnotch : kept.notch[bank.val] = d := by simp [kept]
  obtain ⟨hset, hcoefs⟩ := Channel.designBank_design (c := kept.setLacBank bank.val { b with fB := f32To64 d.f, fF := one64 }) (per := per)
    (bank := bank) (by simp [Channel.setLacBank])
  have hkept : (kept.setLacBank bank.val { b with fB := f32To64 d.f, fF := one64 }).notch = kept.notch := rfl
  simp only [hkept, hnotch] at hset hcoefs
  split
  · exact ⟨hset, hcoefs⟩
  · exact ⟨hset, hcoefs⟩

section
variable {s : State} {r : Req} {n : Ch} {bank : Fin 4} {v : Word} {get : Notch → F32} {set : F32 → Notch → Notch} {legal : State → Q → Bool}

theorem word_natBytes (w : Word) (a b c : State) : (⟨r, natBytes 4 w.toNat, a, b, c⟩ : W).word = w := by
  have hval : beNat (natBytes 4 w.toNat) = w.toNat := (beNat_natBytes 4 w.toNat).trans (Nat.mod_eq_of_lt w.isLt)
  exact (congrArg (BitVec.ofNat 32) hval).trans (by simp)

/-- The channel that a write of a notch setting leaves. -/
theorem notchObj_chan (w : W) : ((notchObj n bank.val get set legal).put w s).chan n =
    if s.clocksRun then (s.chan n).withNotch (s.engine n.engine).nActive bank.val (set w.word (s.chan n).notch[bank.val])
    else ((s.chan n).withNotch (s.engine n.engine).nActive bank.val (set w.word (s.chan n).notch[bank.val])).takeSettings.loadThr := by
  have hget : (s.chan n).notch[bank.val]?.getD {} = (s.chan n).notch[bank.val] := by simp
  refine (State.chan_modCh s n _).trans ?_
  rw [← hget]
  rfl

/-- A write of a notch setting stores it and designs the bank's coefficients (R277). -/
theorem perform_notch (h : (notchObj n bank.val get set legal).Admits r tF32 (natBytes 4 v.toNat) s) :
    ∃ t, perform (notchObj n bank.val get set legal) r tF32 (natBytes 4 v.toNat) s = t ∧ t.answer.code = eOk
      ∧ NotchDesigned s t n bank (set v (s.chan n).notch[bank.val]) ∧ OthersKept n s t := by
  refine ⟨_, perform_admitted h, rfl, ?_, fun m hm => ?_⟩
  · obtain ⟨hset, hcoefs⟩ := (s.chan n).withNotch_design (s.engine n.engine).nActive bank (set v (s.chan n).notch[bank.val])
    unfold NotchDesigned
    dsimp only
    rw [reply_chan, instructorCommand_chan, notchObj_chan, word_natBytes]
    split
    · exact ⟨hset, hcoefs⟩
    · exact ⟨hset, hcoefs⟩
  · rw [reply_chan, instructorCommand_chan]
    exact State.chan_modCh_ne _ _ _ _ hm

end

/-! ### The obligation -/

section
variable {s : State} {n : Ch} (hclk : s.clk.pllLock = true) (hwait : (s.chan n).awaits = true) (hhold : (s.chan n).out.holdTick = false)
include hclk hwait hhold

theorem outerStep_made (hdue : (s.chan n).outerNow = true) : ∃ t, exec (.outerStep n) s = .next t ∧ (t.chan n).loop.outerDue = false
    ∧ (t.chan n).loop.outerRan = true ∧ (t.chan n).loop.outerLeft = (s.chan n).actProg.outerDiv
    ∧ (t.chan n).loop.extra = (s.chan n).loop.extra + (s.chan n).actProg.outerWcet + 24 ∧ OthersKept n s t := by
  have hcond : (s.clocksRun && (s.chan n).awaits && (s.chan n).outerNow && !(s.chan n).out.holdTick) = true := by
    simp [State.clocksRun, hclk, hwait, hhold, hdue]
  obtain ⟨hoff, hran, hleft, hextra, hprog⟩ := finishOuter_loop (s.chan n) (outerRun s (s.chan n))
  refine ⟨_, if_pos hcond, ?_⟩
  rw [State.chan_modCh, outerAct_chan]
  refine ⟨hoff, hran, hleft, ?_, fun m hm => (State.chan_modCh_ne _ _ _ _ hm).trans ((outerAct_serves s n).others m hm)⟩
  simp only [hextra, hprog]

theorem deadlineOverrun_made : ∃ t, exec (.deadlineOverrun n) s = .next t ∧ (t.chan n).loop.ovrCount = (s.chan n).loop.ovrCount.inc
    ∧ (t.chan n).loop.sampled = false ∧ (t.chan n).out.queue.getLast? = some (s.chan n).last.code ∧ OthersKept n s t := by
  have hcond : (s.clocksRun && (s.chan n).awaits && !(s.chan n).out.holdTick) = true := by simp [State.clocksRun, hclk, hwait, hhold]
  refine ⟨_, if_pos hcond, ?_⟩
  obtain ⟨hsampled, hcount, hlast⟩ := overrun_chan s n (innerInputs s (s.chan n))
    ((s.chan n).runFlags (s.chan n).loop.first (s.chan n).loop.outerRan false) (Nat.max 84 (s.engine n.engine).cycle)
    (Nat.max (Nat.max 84 (s.engine n.engine).cycle) (deadlineOf s n))
  exact ⟨hcount, hsampled, hlast, (overrun_serves s n _ _ _ _).others⟩

end

/-- The channel's queue ends in the code of its run, or where its output holds in the last code (R264, R404). -/
theorem engineService_code {s : State} {e : Eng} {n m : Ch} (hclk : s.clk.pllLock = true)
    (hpair : (n = e.slot0 ∧ m = e.slot1) ∨ (n = e.slot1 ∧ m = e.slot0)) (hm : (s.chan m).loop.sampled = false) :
    ∃ t, exec (.engineService e) s = .next t
      ∧ (PlainService s n (Nat.max 84 (s.engine e).cycle) → (t.chan n).out.queue.getLast? = some (codeOfRun s n)
          ∧ (t.chan n).loop.lastCycles = (s.chan n).loop.extra + 10 + (innerRun s (s.chan n)).cycles ∧ (t.chan n).loop.first = false)
      ∧ ((s.chan n).awaits = true → (s.chan n).out.holdTick = true → (t.chan n).out.queue.getLast? = some (s.chan n).last.code) := by
  refine ⟨_, exec_engineService hclk e, fun hplain => ?_, fun hn hheld => ?_⟩
  · have hservice : PlainService s n (serviceStart s e) := hplain
    rw [engineService_of_one hpair hplain.1 hm, serveChannel_plain hservice]
    obtain ⟨hlast, hcycles, hfirst⟩ := runEnded_chan (s := s) (n := n) (cyc := serviceStart s e)
      (serviceStart s e + (s.chan n).loop.extra + 10 + (innerRun s (s.chan n)).cycles)
    exact ⟨hlast, hcycles.trans (by omega), hfirst⟩
  · rw [engineService_of_one hpair hn hm, serveChannel_of_held hheld]
    exact heldAgain_last

/-- The user program's area that a command names (R271). -/
theorem objUnload_put (r : Req) (n : Ch) (v : Byte) (s : State) : (objUnload n).put ⟨r, [v], s, s, s⟩ s = s.setCh n fun c => { c with
    prog := if v = 1 then { c.prog with userMain := none, memMain := noImage } else { c.prog with userOuter := none, memOuter := noImage } } := by
  have hv : ((⟨r, [v], s, s, s⟩ : W).v = 1) = (v = 1) := by
    rw [W.v_byte]
    exact propext ⟨fun h => BitVec.eq_of_toNat_eq h, fun h => by rw [h]; rfl⟩
  simp only [objUnload, chCmd, hv]

/-- Settles O21: a pair's service is its channels' turns in order, and each turn consumes its own samples alone. -/
theorem engineServiceAndPrograms : Obligations.EngineServiceAndPrograms := by
  unfold Obligations.EngineServiceAndPrograms
  refine ⟨⟨?_, ?_, ?_, ?_, ?_, ?_, ?_⟩, ?_, ?_, ?_, ?_, ?_, ?_⟩
  case refine_1 =>
    intro s e h0 h1
    change execEngineService e s = _
    rw [execEngineService, engineService_of_idle h0 h1, ite_self]
  case refine_2 => exact fun s e hclk h0 h1 => engineService_one hclk (.inl ⟨rfl, rfl⟩) h0 h1
  case refine_3 => exact fun s e hclk h1 h0 => engineService_one hclk (.inr ⟨rfl, rfl⟩) h1 h0
  case refine_4 => exact fun s e n m hclk hpair hm => engineService_code hclk hpair hm
  case refine_5 =>
    intro s e hclk h0 h1
    extract_lets odd a b u
    refine ⟨_, exec_engineService hclk e, ?_⟩
    by_cases hodd : odd
    · have ha : a = e.slot1 := if_pos hodd
      have hb : b = e.slot0 := if_pos hodd
      have hserved : engineService s e = (serveTurn e.slot0 (serveTurn e.slot1 (s, serviceStart s e))).1 := if_pos (oddFirst_iff.mpr hodd)
      obtain ⟨ht, hkept, hout, ha', hb', hothers, hengines⟩ := serveTurn_both (pair_of_slots (.inr ⟨rfl, rfl⟩)) h1 h0 hserved
      simp only [u, ha, hb]
      exact ⟨ht, hkept, hout, hb', ha', fun m hm0 hm1 => hothers m hm1 hm0, hengines⟩
    · have ha : a = e.slot0 := if_neg hodd
      have hb : b = e.slot1 := if_neg hodd
      have hserved : engineService s e = (serveTurn e.slot1 (serveTurn e.slot0 (s, serviceStart s e))).1 := if_neg (mt oddFirst_iff.mp hodd)
      obtain ⟨ht, hkept, hout, ha', hb', hothers, hengines⟩ := serveTurn_both (pair_of_slots (.inl ⟨rfl, rfl⟩)) h0 h1 hserved
      simp only [u, ha, hb]
      exact ⟨ht, hkept, hout, ha', hb', hothers, hengines⟩
  case refine_6 => exact fun s n hclk hwait hdue hhold => outerStep_made hclk hwait hhold hdue
  case refine_7 => exact fun s n hclk hwait hhold => deadlineOverrun_made hclk hwait hhold
  case refine_8 =>
    intro s r n data p hclk h hp
    obtain ⟨t, hexec, hfacts⟩ := perform_load hclk h hp
    exact ⟨t, congrArg Host.Outcome.next hexec, hfacts⟩
  case refine_9 =>
    intro s r n data p hclk h hp
    obtain ⟨t, hexec, hfacts⟩ := perform_load hclk h hp
    exact ⟨t, congrArg Host.Outcome.next hexec, hfacts⟩
  case refine_10 =>
    intro s r n v h
    have hdone := perform_done h fun _ => rfl
    rwa [objUnload_put] at hdone
  case refine_11 =>
    intro s r n bank v o ho h
    cases ho
    obtain ⟨t, hexec, hcode, hnotch, hothers⟩ := perform_notch h
    exact ⟨t, congrArg Host.Outcome.next hexec, hcode, congrArg Notch.f hnotch.1, hnotch, hothers⟩
  case refine_12 =>
    intro s r n bank v o ho h
    cases ho
    obtain ⟨t, hexec, hcode, hnotch, hothers⟩ := perform_notch h
    exact ⟨t, congrArg Host.Outcome.next hexec, hcode, congrArg Notch.q hnotch.1, hnotch, hothers⟩
  case refine_13 =>
    intro s r n bank v o ho h
    cases ho
    obtain ⟨t, hexec, hcode, hnotch, hothers⟩ := perform_notch h
    exact ⟨t, congrArg Host.Outcome.next hexec, hcode, congrArg Notch.depth hnotch.1, hnotch, hothers⟩

end Sys2Proof.Machine
end

section
/-! PROOFS. The mailbox's commands (R150 to R154). -/

namespace Sys2Proof.Machine

section
variable {s : State}

/-! ### One write -/

/-- What the mailbox's WRITE leaves of a request that names an object: its result beside what the write leaves (R151). -/
theorem exec_mbxWrite_of_object {g : StagedWrite} {o : Obj} (hg : s.trust.mbx.request = some g)
    (ho : objAt g.index.toNat g.element.toNat = .ok o) :
    ∃ epoch, exec .mbxWrite s =
      let t := performOp o g.req g.ty g.data (s.modMbx fun m => { m with cmd := 1, long := [] })
      .next (mbxResult t t.answer.code 0 epoch) := by
  have asked : (s.modMbx fun m => { m with cmd := 1 }).trust.mbx.request = some g := hg
  have e : exec .mbxWrite s = .next (mbxWrite (s.modMbx fun m => { m with cmd := 1 })) := rfl
  simp only [e, mbxWrite, asked, writeAt, ho]
  exact ⟨_, rfl⟩

theorem exec_mbxWrite_of_long (h : s.trust.mbx.request = none) :
    ∃ epoch, exec .mbxWrite s = .next (mbxResult (s.modMbx fun m => { m with cmd := 1, long := [] }) eRange 0 epoch) := by
  have asked : (s.modMbx fun m => { m with cmd := 1 }).trust.mbx.request = none := h
  have e : exec .mbxWrite s = .next (mbxWrite (s.modMbx fun m => { m with cmd := 1 })) := rfl
  simp only [e, mbxWrite, asked]
  exact ⟨_, rfl⟩

theorem performOp_of_refused {o : Obj} {r : Req} {ty : Byte} {data : List Byte} (h : ¬ o.Admits r ty data s) :
    performOp o r ty data s = (o.onRefuse (o.judged r data s) (o.verdict ty (o.judged r data s)) s).reply
      (o.verdict ty (o.judged r data s)) ty (o.epochAfter (o.judged r data s) s) [] := by
  unfold performOp
  dsimp only
  rw [if_neg (by simpa [Obj.Admits] using h)]
  rfl

theorem performOp_of_admitted {o : Obj} {r : Req} {ty : Byte} {data : List Byte} (h : o.Admits r ty data s) :
    let w : W := ⟨r, data, s, s, s⟩
    ∃ epoch, performOp o r ty data s =
      ((o.put w s).instructorCommand r.path (o.after w)).reply (o.after w) o.ty epoch [] := by
  unfold performOp
  dsimp only
  rw [if_pos (by simpa [Obj.Admits] using h)]
  exact ⟨_, rfl⟩

/-! ### Staging -/

/-- STAGE puts down its result, and the write where the form and the room let it (R151). -/
theorem exec_mbxStage : exec .mbxStage s = .next (mbxStage (s.modMbx fun m => { m with cmd := 2 })) := rfl

theorem exec_mbxStage_of_full (h : 32 ≤ s.trust.mbx.staged.length) :
    ∃ epoch, exec .mbxStage s = .next (mbxResult (s.modMbx fun m => { m with cmd := 2, long := [] }) eGroup 0 epoch) := by
  have full : 32 ≤ (s.modMbx fun m => { m with cmd := 2 }).trust.mbx.staged.length := h
  simp only [exec_mbxStage, mbxStage, if_pos full]
  exact ⟨_, rfl⟩

section
variable (room : s.trust.mbx.staged.length < 32)
include room

theorem exec_mbxStage_of_long (h : s.trust.mbx.request = none) :
    ∃ epoch, exec .mbxStage s = .next (mbxResult (s.modMbx fun m => { m with cmd := 2, long := [] }) eRange 0 epoch) := by
  have short : ¬ 32 ≤ (s.modMbx fun m => { m with cmd := 2 }).trust.mbx.staged.length := Nat.not_le.2 room
  have asked : (s.modMbx fun m => { m with cmd := 2 }).trust.mbx.request = none := h
  simp only [exec_mbxStage, mbxStage, if_neg short, asked]
  exact ⟨_, rfl⟩

theorem exec_mbxStage_of_form {g : StagedWrite} (h : s.trust.mbx.request = some g)
    (fits : (s.trust.mbx.staged.map (·.data.length)).sum + g.data.length ≤ 2048)
    (form : formCode (s.modMbx fun m => { m with cmd := 2, long := [] }) g = eOk) :
    ∃ epoch, exec .mbxStage s = .next (mbxResult
      (s.modMbx fun m => { m with cmd := 2, long := [], staged := m.staged ++ [g] }) eOk 0 epoch) := by
  have short : ¬ 32 ≤ (s.modMbx fun m => { m with cmd := 2 }).trust.mbx.staged.length := Nat.not_le.2 room
  have asked : (s.modMbx fun m => { m with cmd := 2 }).trust.mbx.request = some g := h
  have small : ¬ 2048 < ((s.modMbx fun m => { m with cmd := 2 }).trust.mbx.staged.map fun x => x.data.length).sum + g.data.length :=
    Nat.not_lt.2 fits
  have formed : ¬ (formCode ((s.modMbx fun m => { m with cmd := 2 }).modMbx fun m => { m with long := [] }) g != eOk) = true :=
    fun ne => bne_iff_ne.1 ne form
  simp only [exec_mbxStage, mbxStage, if_neg short, asked, if_neg formed, if_neg small]
  exact ⟨_, rfl⟩

end

/-! ### The group -/

/-- COMMIT takes the staged group out, runs it and puts down its result (R151). -/
theorem exec_mbxCommit_of_staged (h : s.trust.mbx.staged ≠ []) :
    ∃ code pos epoch, exec .mbxCommit s = .next (mbxResult
      (runGroup s.trust.mbx.staged (s.modMbx fun m => { m with cmd := 3, staged := [] })).1 code pos epoch) := by
  have some_ : ¬ (s.modMbx fun m => { m with cmd := 3 }).trust.mbx.staged.isEmpty = true := by simpa using h
  change ∃ code pos epoch, Host.Outcome.next (mbxCommit (s.modMbx fun m => { m with cmd := 3 })) = _
  unfold mbxCommit
  dsimp only
  rw [if_neg some_]
  split
  · exact ⟨_, _, _, rfl⟩
  · exact ⟨_, _, _, rfl⟩

theorem exec_mbxCommit_of_none (h : s.trust.mbx.staged = []) :
    exec .mbxCommit s = .next (mbxResult (s.modMbx fun m => { m with cmd := 3 }) eGroup 0 0) := by
  have empty : (s.modMbx fun m => { m with cmd := 3 }).trust.mbx.staged.isEmpty = true := by simpa using h
  have e : exec .mbxCommit s = .next (mbxCommit (s.modMbx fun m => { m with cmd := 3 })) := rfl
  rw [e, mbxCommit, if_pos empty]

/-! ### The long-value buffer (R152) -/

theorem exec_mbxAppend : exec .mbxAppend s = .next (mbxAppend (s.modMbx fun m => { m with cmd := 5 })) := rfl

theorem exec_mbxAppend_of_long (h : 64 < s.trust.mbx.length) :
    exec .mbxAppend s = .next (mbxResult (s.modMbx fun m => { m with cmd := 5 }) eRange 0 0) := by
  have long : 64 < (s.modMbx fun m => { m with cmd := 5 }).trust.mbx.length := h
  rw [exec_mbxAppend, mbxAppend, if_pos long]

theorem exec_mbxAppend_of_fits (short : s.trust.mbx.length ≤ 64) (fits : s.trust.mbx.long.length + s.trust.mbx.length ≤ 1024) :
    exec .mbxAppend s = .next (mbxResult
      (s.modMbx fun m => { m with cmd := 5, long := m.long ++ m.bytes.take m.length }) eOk 0 0) := by
  have short : ¬ 64 < (s.modMbx fun m => { m with cmd := 5 }).trust.mbx.length := Nat.not_lt.2 short
  have fits : ¬ 1024 < (s.modMbx fun m => { m with cmd := 5 }).trust.mbx.long.length
    + (s.modMbx fun m => { m with cmd := 5 }).trust.mbx.length := Nat.not_lt.2 fits
  rw [exec_mbxAppend, mbxAppend, if_neg short, if_neg fits]
  rfl

/-! ### Sessions from the mailbox (R114) -/

/-- The state in which SESS_CMD does what it asks for. -/
def sessNoted (s : State) (op : Nat) (sid : W16) : State := s.modMbx fun m => { m with sessOp := BitVec.ofNat 2 op, sessId := sid }

@[simp] theorem session_sessResult (s : State) (code : Byte) (id : W16) (j : Fin 8) :
    (sessResult s code id).session j = s.session j := rfl

theorem exec_sessCmdTouch (sid : W16) : exec (.sessCmdTouch sid) s =
    .next (sessResult (touchSession (sessNoted s 2 sid) sid) (sessionCode (sessNoted s 2 sid) sid) 0) := rfl

theorem exec_sessCmdClose (sid : W16) : exec (.sessCmdClose sid) s =
    .next (sessResult (closeSession (sessNoted s 3 sid) sid) (sessionCode (sessNoted s 3 sid) sid) 0) := rfl

theorem touchSession_of_stale {sid : W16} (op : Nat) (h : slotOf s sid = none) :
    touchSession (sessNoted s op sid) sid = sessNoted s op sid := by
  rw [touchSession, show slotOf (sessNoted s op sid) sid = none from h]

theorem closeSession_of_stale {sid : W16} (op : Nat) (h : slotOf s sid = none) :
    closeSession (sessNoted s op sid) sid = sessNoted s op sid := by
  rw [closeSession, show slotOf (sessNoted s op sid) sid = none from h]

/-- What SESS_CMD opens with the argument's time limit. -/
theorem exec_sessCmdOpen : ∃ ip port entry,
    exec .sessCmdOpen s =
      let x := openSession (sessNoted s 1 s.trust.mbx.sessId) ip port entry s.trust.mbx.sessArg.toNat
      .next (sessResult x.1 x.2.1 x.2.2.1) := ⟨_, _, _, rfl⟩

theorem exec_sessCmdOpen_of_free {i : Fin 8} (hf : freeSession s = some i) (hl : LegalTimeout s.trust.mbx.sessArg) :
    ∃ t, exec .sessCmdOpen s = .next t ∧ t.trust.mbx.sessCode = eOk ∧ t.trust.mbx.sessNew = (t.session i).id
      ∧ (t.session i).timeoutMs = (if s.trust.mbx.sessArg = 0 then s.rop.sessionTimeoutDefault else s.trust.mbx.sessArg.toNat)
      ∧ ∀ j, j ≠ i → t.session j = s.session j := by
  obtain ⟨ip, port, entry, e⟩ := exec_sessCmdOpen (s := s)
  have hf : freeSession (sessNoted s 1 s.trust.mbx.sessId) = some i := hf
  have opened := session_openSession hf hl ip port entry
  simp only [openSession_of_free hf hl] at e opened
  have own := (opened i).trans (if_pos rfl)
  refine ⟨_, e, rfl, ?_, ?_, fun j hj => (opened j).trans (if_neg hj)⟩
  · exact (congrArg Session.id own).symm
  · exact congrArg Session.timeoutMs own

end

theorem objAt_mode : objAt 0x2000 0x01 = .ok (objMode 0) := rfl

/-- Settles O46: each command puts down its result beside what it does, and a group's writes stage nothing. -/
theorem mailboxCommands : Obligations.MailboxCommands := by
  unfold Obligations.MailboxCommands
  refine ⟨fun s room long => ?_, fun s g room hg fits form => ?_, fun s g o hg ho refused => ?_, fun s i hf zero => ?_,
    fun s full zero => ?_, fun s sid hz stale => ⟨?_, ?_⟩, fun s long => ?_, fun s g c hg absent => ?_,
    fun s r hg path admitted already => ?_, fun s g o hg ho => ?_, fun s full => ?_, fun s g none_ hg fits form => ?_,
    fun s none_ => ?_, fun s g gs staged => ?_, fun s => ⟨_, rfl, rfl, rfl, rfl, rfl⟩, fun s short fits => ?_, fun s long => ?_,
    fun s i hf low high => ?_, fun s sid i slot => ?_, fun s sid i slot => ?_⟩
  · obtain ⟨epoch, e⟩ := exec_mbxStage_of_long room long
    exact ⟨_, e, rfl, rfl, rfl⟩
  · obtain ⟨epoch, e⟩ := exec_mbxStage_of_form room hg fits form
    exact ⟨_, e, rfl, rfl, rfl⟩
  · obtain ⟨epoch, e⟩ := exec_mbxWrite_of_object hg ho
    rw [performOp_of_refused refused] at e
    obtain ⟨⟨-, -, -, dev, clk, eng, -, -, -, -, -, hamper, -⟩, -⟩ := objAt_refusesQuietly ho _ _ _
    exact ⟨_, e, refused, dev, eng, clk, hamper⟩
  · obtain ⟨t, e, code, new, ms, others⟩ := exec_sessCmdOpen_of_free hf (.inl zero)
    exact ⟨t, e, code, new, ms.trans (if_pos zero), others⟩
  · obtain ⟨ip, port, entry, e⟩ := exec_sessCmdOpen (s := s)
    have hf : freeSession (sessNoted s 1 s.trust.mbx.sessId) = none := full
    rw [openSession_of_full hf (.inl zero)] at e
    exact ⟨_, e, rfl, rfl⟩
  · rw [exec_sessCmdTouch, touchSession_of_stale 2 stale]
    exact ⟨_, rfl, sessionCode_of_stale hz stale, rfl⟩
  · rw [exec_sessCmdClose, closeSession_of_stale 3 stale]
    exact ⟨_, rfl, sessionCode_of_stale hz stale, rfl⟩
  · obtain ⟨epoch, e⟩ := exec_mbxWrite_of_long long
    exact ⟨_, e, rfl, rfl, rfl⟩
  · exact ⟨_, exec_mbxWrite_of_no_object hg absent, rfl, rfl, rfl⟩
  · obtain ⟨epoch, e⟩ := exec_mbxWrite_of_object hg objAt_mode
    obtain ⟨epoch', done⟩ := performOp_of_admitted admitted
    rw [objMode_put rfl, acceptMode_of_already already] at done
    rw [done] at e
    refine ⟨_, e, rfl, ?_⟩
    simp
  · intro u w v admitted
    obtain ⟨epoch, e⟩ := exec_mbxWrite_of_object hg ho
    obtain ⟨epoch', done⟩ := performOp_of_admitted admitted
    rw [done] at e
    exact ⟨_, e, rfl⟩
  · obtain ⟨epoch, e⟩ := exec_mbxStage_of_full full
    exact ⟨_, e, rfl, rfl, rfl⟩
  · have room : s.trust.mbx.staged.length < 32 := by simp [none_]
    obtain ⟨epoch, e⟩ := exec_mbxStage_of_form room hg (by simpa [none_] using fits) form
    refine ⟨_, e, rfl, ?_, rfl⟩
    simp [none_, mbxResult]
  · rw [exec_mbxCommit_of_none none_]
    exact ⟨_, rfl, rfl, rfl⟩
  · obtain ⟨code, pos, epoch, e⟩ := exec_mbxCommit_of_staged (s := s) (by simp [staged])
    rw [staged] at e
    exact ⟨_, e, (runGroup_safe _ (.refl _)).unstaged rfl, rfl, rfl⟩
  · rw [exec_mbxAppend_of_fits short fits]
    exact ⟨_, rfl, rfl, rfl, rfl, rfl⟩
  · rw [exec_mbxAppend_of_long long]
    exact ⟨_, rfl, rfl, rfl, rfl⟩
  · obtain ⟨t, e, code, new, ms, others⟩ := exec_sessCmdOpen_of_free hf (.inr ⟨low, high⟩)
    have asked : s.trust.mbx.sessArg ≠ 0 := fun zero => by simp [zero] at low
    exact ⟨t, e, code, new, ms.trans (if_neg asked), others⟩
  · rw [exec_sessCmdTouch]
    refine ⟨_, rfl, sessionCode_of_slot slot, ?_⟩
    have slot : slotOf (sessNoted s 2 sid) sid = some i := slot
    rw [session_sessResult, touchSession, slot]
    exact (State.session_modSession_if ..).trans (if_pos rfl)
  · obtain ⟨hz, id⟩ := slotOf_spec slot
    have opened : ((sessNoted s 3 sid).session i).id ≠ 0 := by rwa [← id] at hz
    have slot : slotOf (sessNoted s 3 sid) sid = some i := slot
    have closed (j : Fin 8) := removeSession_sessions 2 opened j
    rw [exec_sessCmdClose]
    refine ⟨_, rfl, sessionCode_of_slot slot, ?_, fun j hj => ?_⟩
    · rw [session_sessResult, closeSession, slot]
      exact (closed i).trans (if_pos rfl)
    · rw [session_sessResult, closeSession, slot]
      exact (closed j).trans (if_neg hj)

end Sys2Proof.Machine
end
